-- ==== Sys2Proof/Word.lean ====
section
/-! DEFINITION. Word.lean: the byte, and the plainest arithmetic of the widths the manual names.
A value that the manual slices into bits is written as a Nat together with `bits`, the manual's own
`bits(x, m, l)`; a value that is stored as bytes is a list of bytes. -/

namespace Sys2Proof

/-- One byte (R6: everything in memory is counted in bytes). -/
abbrev Byte := BitVec 8

/-- A 128-bit bench instruction or a 64-byte work entry is held as the Nat its little-endian bytes spell (R6). -/
abbrev Word := Nat

/-- The manual's `bits(x, m, l)`: x[m:l], both ends included (R5). -/
def bits (x m l : Nat) : Nat := (x / 2 ^ l) % 2 ^ (m + 1 - l)

/-- One bit of a word, as a Bool (R5). -/
def bit (x i : Nat) : Bool := (x / 2 ^ i) % 2 == 1

end Sys2Proof
end

