-- ==== Sys2Proof/Syntax.lean ====
section
/-! DEFINITION. Syntax.lean: the commands of the block, one constructor for each row of spec/opcode_table.json, in the
table's order. The docstring of each gives the row's mnemonic, its rule and its summary. Ring-entry commands name the
function and the ring index of an entry in flight; bench commands name the bench 64 × stack + bench whose current
instruction they execute; an arriving frame or packet is carried as its bytes. -/

namespace Sys2Proof

inductive Instr where
  /-- NOP (R342). Ring entry that does nothing and completes with OK. -/
  | nop (fid : Nat) (idx : Nat)
  /-- FENCE (R342). Ring entry that starts after every earlier entry of the function has completed, and holds every later entry until it completes. -/
  | fence (fid : Nat) (idx : Nat)
  /-- COPY (R343). Ring entry that copies LENGTH bytes between DVA or region buffers, reading and writing remote leaves over Derone where they occur. -/
  | copy (fid : Nat) (idx : Nat)
  /-- HRT_SEND (R344). Ring entry that sends a SEND message on a QP, after the requester checks of R282. -/
  | hrtSend (fid : Nat) (idx : Nat)
  /-- HRT_WRITE (R344). Ring entry that writes a message into a remote keyed region on a QP. -/
  | hrtWrite (fid : Nat) (idx : Nat)
  /-- HRT_READ (R344). Ring entry that reads remote memory through READ_REQs on a QP; it is refused on a secure QP. -/
  | hrtRead (fid : Nat) (idx : Nat)
  /-- HRT_ADD (R284). Ring entry that issues a remote 64-bit fetch-and-add. -/
  | hrtAdd (fid : Nat) (idx : Nat)
  /-- HRT_CAS (R284). Ring entry that issues a remote 64-bit compare-and-swap. -/
  | hrtCas (fid : Nat) (idx : Nat)
  /-- HRT_FLUSH (R291). Ring entry that sends a FLUSH, and completes when the FLUSH's PSN is acknowledged. -/
  | hrtFlush (fid : Nat) (idx : Nat)
  /-- QP_MODIFY (R254). Ring entry that moves a QP between states and sets its attributes. -/
  | qpModify (fid : Nat) (idx : Nat)
  /-- RESUME (R293). Ring entry that translates a stalled QP's faulting page again and, if the page translates, ends the stall. -/
  | resume (fid : Nat) (idx : Nat)
  /-- REG_REGION (R279). Ring entry that registers a region at the lowest free index and returns its key. -/
  | regRegion (fid : Nat) (idx : Nat)
  /-- DEREG_REGION (R281). Ring entry that invalidates a region, bumps its generation and waits for admitted accesses to finish. -/
  | deregRegion (fid : Nat) (idx : Nat)
  /-- PREFETCH (R141). Ring entry that moves the pages of a DVA range into device memory one page at a time and rewrites their leaves. -/
  | prefetch (fid : Nat) (idx : Nat)
  /-- ADVISE_PREWALK (R143). ADVISE kind 0, which walks a range and fills the leaf cache. -/
  | advisePrewalk (fid : Nat) (idx : Nat)
  /-- ADVISE_PIN (R143). ADVISE kind 1, which walks a range and pins its leaf-cache entries, within quotas. -/
  | advisePin (fid : Nat) (idx : Nat)
  /-- ADVISE_UNPIN (R143). ADVISE kind 2, which lifts PIN from a range. -/
  | adviseUnpin (fid : Nat) (idx : Nat)
  /-- ADVISE_HOLD (R137). ADVISE kind 3, which checks a range granule by granule and creates a residency window. -/
  | adviseHold (fid : Nat) (idx : Nat)
  /-- ADVISE_RELEASE (R140). ADVISE kind 4, which removes a held window after any job covered by it has completed. -/
  | adviseRelease (fid : Nat) (idx : Nat)
  /-- ADVISE_EVICT (R141). ADVISE kind 5, which moves pages out of device memory into a host region. -/
  | adviseEvict (fid : Nat) (idx : Nat)
  /-- INVALIDATE (R134). Ring entry that removes cached translations of a range and waits for accesses that used them to finish. -/
  | invalidate (fid : Nat) (idx : Nat)
  /-- LOAD_JOB (R114). Ring entry that reads, validates, places and relocates a job image into a slot. -/
  | loadJob (fid : Nat) (idx : Nat)
  /-- RUN_JOB (R115). Ring entry that makes the run-time checks, including residency, on a loaded image before dispatch. -/
  | runJob (fid : Nat) (idx : Nat)
  /-- JOB_DISPATCH (R116). Once the drawer's previous job has completed, maps logical benches, fills argument windows and dispatches the job through the wake governor. -/
  | jobDispatch (fid : Nat) (idx : Nat)
  /-- JOB_COMPLETE (R118). When every bench has ended and every transfer and peg add has landed, writes the job's single completion and applies pending bench owner changes. -/
  | jobComplete (drawer : Nat)
  /-- JOB_DEADLINE_EXPIRY (R119). JOB_DEADLINE passes: the benches stop and the job completes with JOB_FAULT. -/
  | jobDeadlineExpiry (drawer : Nat)
  /-- TABLE_DEAL (R198). Ring entry that creates a collective context from a deal block and reserves kitty cells. -/
  | tableDeal (fid : Nat) (idx : Nat)
  /-- TABLE_REDEAL (R202). Ring entry that replaces a table's deal once earlier hands have completed. -/
  | tableRedeal (fid : Nat) (idx : Nat)
  /-- TABLE_CLEAR (R203). Ring entry that flushes a table's hands, releases its reservation and empties the context. -/
  | tableClear (fid : Nat) (idx : Nat)
  /-- HAND_START (R215). Ring entry that takes a HAND_SEQ and checks a collective operation before the member joins the hand. -/
  | handStart (fid : Nat) (idx : Nat)
  /-- HAND_QUEUED_START (R216). A HAND_START that waited behind the context's running hand begins once that hand completes. -/
  | handQueuedStart (fid : Nat) (idx : Nat)
  /-- PEG_SET_WRITE (R166). PEG_SET kind 0, which replaces a hub peg's value. -/
  | pegSetWrite (fid : Nat) (idx : Nat)
  /-- PEG_SET_ADD (R526). PEG_SET kind 1, which waits for earlier placing entries and ordering reads and then adds to a hub peg. -/
  | pegSetAdd (fid : Nat) (idx : Nat)
  /-- PEG_SET_WAIT (R166). PEG_SET kind 2, which registers a wait on a hub peg threshold. -/
  | pegSetWait (fid : Nat) (idx : Nat)
  /-- PEG_SET_BIND (R152). PEG_SET kind 3, which binds a bench peg view 40 to 47 of a slot's logical bench to a hub peg. -/
  | pegSetBind (fid : Nat) (idx : Nat)
  /-- PEG_SET_UNBIND (R166). PEG_SET kind 4, which removes a view binding. -/
  | pegSetUnbind (fid : Nat) (idx : Nat)
  /-- NVME_READ (R393). NVME_IO with NVME_OPCODE Read, which issues Read commands and places the returned data, decrypting it when XTS is set. -/
  | nvmeRead (fid : Nat) (idx : Nat)
  /-- NVME_WRITE (R393). NVME_IO with NVME_OPCODE Write, which sends buffer data against R2Ts, encrypting it when XTS is set. -/
  | nvmeWrite (fid : Nat) (idx : Nat)
  /-- NVME_FLUSH (R393). NVME_IO with NVME_OPCODE Flush, which issues an NVMe Flush on a connection. -/
  | nvmeFlush (fid : Nat) (idx : Nat)
  /-- ENTRY_FETCH (R339). The ring engine fetches an entry that WR_PROD covers, checks CHECK and starts it. -/
  | entryFetch (fid : Nat)
  /-- SPECULATIVE_FETCH (R340). The ring engine reads uncovered entries ahead of WR_PROD while SPEC_PREFETCH is 1. -/
  | speculativeFetch (fid : Nat) (idx : Nat)
  /-- WR_PROD_WRITE (R336). Doorbell write to WR_PROD, applied only within the index rules. -/
  | wrProdWrite (fid : Nat) (value : Nat) (hostStores : List Host.Cell) (peerStores : List Host.Cell)
  /-- CR_CONS_WRITE (R336). Write to CR_CONS that frees ring slots, letting staged records and pending events leave in order. -/
  | crConsWrite (fid : Nat) (value : Nat)
  /-- CR_ARM_WRITE (R357). Write to CR_ARM that arms the completion interrupt. -/
  | crArmWrite (fid : Nat) (value : Nat)
  /-- RING_ENABLE (R335). Write of 1 to RING_CTRL.ENABLE that resets all four indices and starts both rings. -/
  | ringEnable (fid : Nat)
  /-- RING_DISABLE (R335). Write of 0 to RING_CTRL.ENABLE that stops both rings when the function is idle. -/
  | ringDisable (fid : Nat)
  /-- RING_STATUS_READ (R334). Read of RING_STATUS that returns the register and clears its RC fields. -/
  | ringStatusRead (fid : Nat)
  /-- REGISTER_WRITE (R333). A write to a BAR0 register that has no row of its own. -/
  | registerWrite (fid : Nat) (offset : Nat) (size : Nat) (value : Nat)
  /-- CR_MIRROR_WRITE (R356). The device writes CR_PROD to the mirror address after the records that the value covers. -/
  | crMirrorWrite (fid : Nat)
  /-- MSIX_MESSAGE (R357). Sends MSI-X vector 0 once the interrupt is armed, CR_PROD differs from the armed value and HOLDOFF has passed. -/
  | msixMessage (fid : Nat)
  /-- COMPLETION_BACKPRESSURE (R358). A function's pause reaches 1 ms: BACKPRESSURE is set and the event is raised once. -/
  | completionBackpressure (fid : Nat)
  /-- MB_DOORBELL_WRITE (R446). Write to MB_DOORBELL that makes the device read, handle and answer a ledger request through host memory. -/
  | mbDoorbellWrite (value : Nat) (hostStores : List Host.Cell)
  /-- MB_STATUS_READ (R445). Read of MB_STATUS that returns the register and clears ERROR. -/
  | mbStatusRead
  /-- FLR (R360). Function Level Reset, which discards the function's work and resets its drawer's transient state. -/
  | flr (fid : Nat)
  /-- FLR_WEDGE_TIMEOUT (R361). FLR discards are unfinished 100 ms after the request: the function becomes wedged. -/
  | flrWedgeTimeout (fid : Nat)
  /-- BENCH_NOP (R98). Bench instruction that does nothing for one cycle. -/
  | benchNop (bench : Nat)
  /-- END (R98). Bench instruction that ends the bench's part of the job and parks it. -/
  | benchEnd (bench : Nat)
  /-- LOOP (R96). Bench instruction that repeats a body COUNT times, keeping a loop index. -/
  | benchLoop (bench : Nat)
  /-- BRANCH (R97). Bench instruction that transfers control on a comparison of a source with VALUE. -/
  | benchBranch (bench : Nat)
  /-- PEG_ADD (R99). Bench instruction that adds VALUE to the bench's own peg or view. -/
  | pegAdd (bench : Nat)
  /-- PEG_WAIT (R162). Bench instruction that waits for its own peg to meet a threshold, through SPIN and GATED. -/
  | pegWait (bench : Nat)
  /-- PEG_SIGNAL (R154). Bench instruction that adds to a bench peg of the job or a hub peg once earlier writes are placed. -/
  | pegSignal (bench : Nat)
  /-- MATVEC (R101). Kernel that multiplies a tile-major weight matrix by a batch of activation vectors. -/
  | matvec (bench : Nat)
  /-- ATTEND (R103). Kernel that performs paged attention with an online softmax over one sequence. -/
  | attend (bench : Nat)
  /-- GATHER (R104). Kernel that copies indexed table rows. -/
  | gather (bench : Nat)
  /-- NORM (R105). Kernel that applies RMSNORM or LAYERNORM to each row. -/
  | norm (bench : Nat)
  /-- ACT (R106). Kernel that applies an element-wise operation chosen by MODE. -/
  | act (bench : Nat)
  /-- QUANT (R107). Kernel that converts FP32 into a narrower or blocked format. -/
  | quant (bench : Nat)
  /-- DEQUANT (R107). Kernel that widens a narrower format into FP32, BF16 or FP16. -/
  | dequant (bench : Nat)
  /-- TOPK (R108). Kernel that finds the k largest entries of each row and their indices. -/
  | topk (bench : Nat)
  /-- SAMPLE (R109). Kernel that draws one token per row using Philox. -/
  | sample (bench : Nat)
  /-- REDUCE (R110). Kernel that combines n operands element by element. -/
  | reduce (bench : Nat)
  /-- MOVE (R111). Kernel that queues an unconverted element copy, locally or to another module, with an optional signal. -/
  | move (bench : Nat)
  /-- SEND (R112). Kernel that queues bytes out of the device by HRT or into a registered region. -/
  | send (bench : Nat)
  /-- BENCH_PARITY_ERROR (R78). A bench detects a parity error in its job's work: the job fails with DATA_PARITY and its benches park. -/
  | benchParityError (bench : Nat)
  /-- SPIN_TIMEOUT (R162). After 64 unmet SPIN cycles the bench gates its clock and arms a wake on the peg. -/
  | spinTimeout (bench : Nat)
  /-- WAKE_GRANT (R73). The stack's wake governor grants a pending wake, within its limit of 8 per 256.25 ns. -/
  | wakeGrant (stack : Nat)
  /-- BENCH_WAKE (R72). 16 cycles after a grant the bench runs again and re-evaluates its wait or starts its dispatch. -/
  | benchWake (bench : Nat)
  /-- REFRESH (R58). A bank's refresh falls due each tREFI and takes its slot for 240 ns. -/
  | refresh (bench : Nat) (bank : Nat)
  /-- SCRUB_ACCESS (R147). Patrol scrub reads a 64-byte unit indivisibly, writes back corrections and records bad parity. -/
  | scrubAccess (corrected : Bool)
  /-- THERMAL_READING (R502). The per-millisecond sensor reading updates each domain's k_t, tREFI and the THERMAL source. -/
  | thermalReading (temps : List Nat)
  /-- GOVERNOR_SAMPLE (R499). The 1 ms PMBus sample of all rails updates POWER_NOW and the power skip value k_p. -/
  | governorSample (readings : List Nat)
  /-- STACK_BRINGUP (R493). Brings one stack up during bring-up: trains its interface, starts its microcode and clears its benches, within 8 ms. -/
  | stackBringup (stack : Nat)
  /-- STACK_TRIM (R76). Pauses a stack's benches and trims its arrays on the test path, for at most 24 ms. -/
  | stackTrim (stack : Nat) (passed : Bool)
  /-- CLOCK_STEP (R76). Steps one stack's bench clock from 800 MHz to 1.6 GHz, 100 µs after the previous step. -/
  | clockStep (stack : Nat)
  /-- STAGE1_ENTRY (R492). The device reaches Stage 1 and raises SERVICE_LEVEL_CHANGED. -/
  | stage1Entry
  /-- STAGE2_ENTRY (R494). After the last clock step, the device enters full service and raises SERVICE_LEVEL_CHANGED. -/
  | stage2Entry
  /-- LANE_CALIBRATION (R494). SerDes firmware adapts the receivers of the D, E and P1 lanes after Stage 1. -/
  | laneCalibration
  /-- POWER_GOOD (R491). The last main rail enters range: Stage 0 begins, ROOT locks and M0 starts. -/
  | powerGood
  /-- BOOT_ROM_RUN (R425). The boot ROM verifies and loads the signed manifest and components, falling back under R426. -/
  | bootRomRun
  /-- MAIN_RAILS_DOWN (R328). The main rails fall with VDD_AUX present, and the device enters standby. -/
  | mainRailsDown
  /-- MAIN_RAIL_EXCURSION (R490). A main rail leaves its range after power-good and asserts the SUPPLY source. -/
  | mainRailExcursion (rail : Nat)
  /-- VDD_AUX_EXCURSION (R515). VDD_AUX leaves or returns to its range while the main rails are good. -/
  | vddAuxExcursion (inRange : Bool)
  /-- WAKE_FRAME_RECEIVE (R329). In standby, a matching pattern or wake frame on M0 records WAKE_REASON and asserts ALERT_N. -/
  | wakeFrameReceive (frame : List Byte)
  /-- PERST0_ASSERT (R480). PERST0_N is asserted, causing a full reset. -/
  | perst0Assert
  /-- PERST0_DEASSERT (R492). PERST0_N is deasserted, starting P0 training towards Stage 1. -/
  | perst0Deassert
  /-- PERST1_ASSERT (R479). PERST1_N is asserted, resetting P1 and the peer function. -/
  | perst1Assert
  /-- PERST1_DEASSERT (R517). PERST1_N is deasserted, and P1 trains. -/
  | perst1Deassert
  /-- FULL_RESET (R480). Full reset: increments the epoch, discards all work and restores the state of R481. -/
  | fullReset
  /-- P0_DL_DOWN (R362). P0 reports DL_Down, and requests bound for P0 are held. -/
  | p0DlDown
  /-- P0_DL_UP (R362). P0 reports DL_Up, and held requests continue. -/
  | p0DlUp (speed : Nat) (width : Nat) (flit : Bool)
  /-- P0_LINK_LOSS_TIMEOUT (R19). P0 has been down 1 ms after having been up, which causes a full reset. -/
  | p0LinkLossTimeout
  /-- P1_LINK_DOWN (R362). P1 goes down: PORT_DOWN is raised and P1 region accesses fail with DATA_PARITY. -/
  | p1LinkDown
  /-- ROOT_LOCK_LOSS (R487). The root PLL loses lock: every divided clock stops and every port goes down. -/
  | rootLockLoss
  /-- ROOT_LOCK_RESTORE (R487). ROOT locks again, the core clocks restart together, and the CLOCK source's action is taken. -/
  | rootLockRestore
  /-- ORDERING_READ_COMPLETE (R159). The 4-byte ordering read behind a transfer's PCIe writes completes, and its signal is applied or the transfer fails. -/
  | orderingReadComplete (id : Nat) (success : Bool)
  /-- DERONE_TRAINING_DONE (R168). A D port completes training and enters UP or MISWIRED. -/
  | deroneTrainingDone (port : Nat) (partnerModule : Nat) (partnerPort : Nat)
  /-- DERONE_LINK_DOWN (R169). A D port loses alignment or counts 16 uncorrectable codewords in 1 ms, goes DOWN and discards its packets. -/
  | deroneLinkDown (port : Nat)
  /-- DERONE_DEGRADED (R170). Corrected codewords in 1 s reach DEGRADE_LEVEL, and PORT_DEGRADED is raised. -/
  | deroneDegraded (port : Nat)
  /-- DERONE_FLOW_CONTROL (R179). An OFF or ON state from the partner stops or releases a VC at an output. -/
  | deroneFlowControl (port : Nat) (vc : Nat) (stop : Bool)
  /-- DERONE_FORWARD (R177). A packet header arriving at a forwarding module is checked and switched to its output. -/
  | deroneForward (port : Nat) (packet : List Byte)
  /-- DERONE_RX_WRITE (R182). A WRITE packet arrives at its destination, is checked against accept windows, placed, and its signal and ACK follow. -/
  | deroneRxWrite (port : Nat) (packet : List Byte)
  /-- DERONE_RX_READ_REQ (R183). A READ_REQ arrives, is checked, and READ_RESP packets are sent. -/
  | deroneRxReadReq (port : Nat) (packet : List Byte)
  /-- DERONE_RX_READ_RESP (R183). A READ_RESP packet arrives and is placed at the requester. -/
  | deroneRxReadResp (port : Nat) (packet : List Byte)
  /-- DERONE_RX_ACK (R181). An ACK completes a write transfer at its source. -/
  | deroneRxAck (port : Nat) (packet : List Byte)
  /-- DERONE_RX_NAK (R184). A NAK fails a transfer or schedules its resend after BUSY. -/
  | deroneRxNak (port : Nat) (packet : List Byte)
  /-- DERONE_STALL_DISCARD (R180). A header has waited at an output for STALL_LIMIT, so its packet is discarded and NAK LOST is sent. -/
  | deroneStallDiscard (port : Nat) (vc : Nat)
  /-- DERONE_ACK_TIMEOUT (R184). ACK_TIMEOUT passes without an ACK or the last READ_RESP, and the transfer fails with LINK_LOST. -/
  | deroneAckTimeout (id : Nat)
  /-- DERONE_BUSY_RESEND (R184). 2 µs after a NAK BUSY, the transfer is sent again from INDEX 0. -/
  | deroneBusyResend (id : Nat)
  /-- DOVETAIL_ISSUE (R87). A held scheduled MOVE reaches its ISSUE time and leaves by its port. -/
  | dovetailIssue (id : Nat)
  /-- DERONE_TRANSFER_START (R174). A transfer waiting for one of the 4,096 outstanding slots starts when one frees. -/
  | deroneTransferStart
  /-- ROUTE_DRAIN (R191). ROUTE_COMMAND DRAIN holds new Derone starts and enters DRAINING. -/
  | routeDrain
  /-- ROUTE_DRAINED (R191). With no own Derone traffic left, the module passes from DRAINING to DRAINED. -/
  | routeDrained
  /-- ROUTE_SWAP (R191). ROUTE_COMMAND SWAP checks and installs the staged route table and epoch. -/
  | routeSwap
  /-- ROUTE_RESUME (R191). ROUTE_COMMAND RESUME releases the held starts under the new table. -/
  | routeResume
  /-- ROUTE_ABORT (R191). ROUTE_COMMAND ABORT releases the held starts under the unchanged table. -/
  | routeAbort
  /-- DERONE_LINK_ENABLE_WRITE (R168). A write of a D port's LINK_ENABLE disables the port or starts its training. -/
  | deroneLinkEnableWrite (port : Nat) (value : Nat)
  /-- HAND_DATA (R226). A DATA hand packet arrives, is signature-checked, staged and combined. -/
  | handData (table : Nat)
  /-- HAND_CREDIT (R224). A CREDIT hand packet returns segments to the sender. -/
  | handCredit (table : Nat)
  /-- HAND_ABORT (R231). An ABORT hand packet stops the member, which adopts a status, relays the ABORT and sends DONE. -/
  | handAbort (table : Nat)
  /-- HAND_DONE (R227). A DONE report reaches a leader or rank 0 and is combined. -/
  | handDone (table : Nat)
  /-- HAND_FIN (R230). FIN arrives: a leader relays it and the member completes the hand. -/
  | handFin (table : Nat)
  /-- HAND_PART_DONE (R227). A member finishes its part of a hand and sends DONE to its leader. -/
  | handPartDone (table : Nat)
  /-- HAND_LEADER_DEADLINE (R229). At D a leader other than rank 0 sends its group DONE, counting missing members. -/
  | handLeaderDeadline (table : Nat)
  /-- HAND_ROOT_DEADLINE (R229). At 1.5 × D rank 0 sends FIN. -/
  | handRootDeadline (table : Nat)
  /-- HAND_MEMBER_DEADLINE (R229). At 2 × D a member without FIN completes the hand. -/
  | handMemberDeadline (table : Nat)
  /-- HRT_PACKET_TRANSMIT (R260). A QP sends its next request, response or ACK packet when its window, limits and token bucket allow. -/
  | hrtPacketTransmit (qp : Nat)
  /-- HRT_RX_SEND (R263). A SEND packet is checked, placed in its receive slot, and the message's effects are applied when ePSN passes it. -/
  | hrtRxSend
  /-- HRT_RX_WRITE (R262). A WRITE packet is checked against its key and placed at its remote offset. -/
  | hrtRxWrite
  /-- HRT_RX_READ_REQ (R264). A READ_REQ arrives, and is held or executed in PSN order. -/
  | hrtRxReadReq
  /-- HRT_RX_ADD (R284). An ADD request executes atomically in PSN order, or is answered from the cache. -/
  | hrtRxAdd
  /-- HRT_RX_CAS (R284). A CAS request executes atomically in PSN order, or is answered from the cache. -/
  | hrtRxCas
  /-- HRT_RX_FLUSH (R289). A FLUSH arrives, and executes in PSN order. -/
  | hrtRxFlush
  /-- HRT_RX_COLL (R247). A COLL packet is handed to the collective engine on arrival. -/
  | hrtRxColl
  /-- HRT_RX_READ_RESP (R268). A READ_RESP is placed at the requester and acknowledges earlier PSNs. -/
  | hrtRxReadResp
  /-- HRT_RX_ATOMIC_RESP (R268). An ATOMIC_RESP writes ORIGINAL locally and acknowledges its PSN. -/
  | hrtRxAtomicResp
  /-- HRT_RX_ACK (R268). An ACK advances una, records SACK and takes RECV_LIMIT and ECE. -/
  | hrtRxAck
  /-- HRT_RX_ACK_STALE (R259). An ACK_STALE within [una, next PSN) moves the QP to ERROR. -/
  | hrtRxAckStale
  /-- HRT_RX_NAK_PAGE (R296). A NAK_PAGE stops the QP's sending for RETRY_AFTER. -/
  | hrtRxNakPage
  /-- HRT_RX_FATAL_NAK (R269). A fatal NAK completes the QP's entries and moves the QP to ERROR. -/
  | hrtRxFatalNak
  /-- HELD_REQUEST_EXECUTE (R264). A held READ_REQ, atomic or FLUSH executes once ePSN reaches it and earlier placements finish. -/
  | heldRequestExecute (qp : Nat)
  /-- FLUSH_CONDITION_MET (R289). A FLUSH's placements and ordering reads are done, so ePSN passes it and its ACK leaves. -/
  | flushConditionMet (qp : Nat)
  /-- ACK_DELAY_EXPIRY (R267). ACK_DELAY passes since the first unacknowledged accepted packet, and an ACK is sent. -/
  | ackDelayExpiry (qp : Nat)
  /-- RETRANSMIT_TIMEOUT (R270). The retransmission timer expires: the timeout doubles, unSACKed PSNs are resent and a loss cut is taken. -/
  | retransmitTimeout (qp : Nat)
  /-- PAGE_WAIT_END (R296). The NAK_PAGE wait ends: the QP retransmits from NAK_PSN and resumes. -/
  | pageWaitEnd (qp : Nat)
  /-- PAGE_WAIT_TIMEOUT (R294). A requester stall lasts PAGE_WAIT_LIMIT and ends the QP. -/
  | pageWaitTimeout (qp : Nat)
  /-- CLIMB_TIMER (R300). The climb timer expires and the QP climbs one or two rungs. -/
  | climbTimer (qp : Nat)
  /-- CONTEXT_FETCH (R250). An uncached QP context arrives from the reserved chunks, and waiting work proceeds. -/
  | contextFetch (qp : Nat)
  /-- FRAME_RECEIVE (R312). A frame received on a port is MAC-checked, classed, policed, admitted and steered to its consumer. -/
  | frameReceive (port : Nat) (lane : Nat) (frame : List Byte) (code : Bool)
  /-- PFC_RECEIVE (R317). A received PFC frame pauses or releases traffic classes. -/
  | pfcReceive (port : Nat) (lane : Nat) (frame : List Byte)
  /-- PFC_PAUSE_EXPIRY (R317). A class's received pause time ends. -/
  | pfcPauseExpiry (port : Nat) (lane : Nat) (cls : Nat)
  /-- PFC_REPEAT (R317). An XOFF is repeated every 32,768 quanta while the class stays above PFC_XON. -/
  | pfcRepeat (port : Nat) (lane : Nat) (cls : Nat)
  /-- FRAME_TRANSMIT (R315). At the end of an inter-frame gap, the sub-port starts the highest eligible frame. -/
  | frameTransmit (port : Nat) (lane : Nat)
  /-- SUBPORT_UP (R308). A sub-port reaches UP: PORT_UP is raised and gratuitous ARP is sent. -/
  | subportUp (port : Nat) (lane : Nat)
  /-- SUBPORT_DOWN (R308). A sub-port loses alignment or reports a fault, goes DOWN, retrains and discards queued frames. -/
  | subportDown (port : Nat) (lane : Nat)
  /-- SUBPORT_DEGRADED (R308). Corrected codewords in 1 s reach DEGRADE_LEVEL, and PORT_DEGRADED is raised. -/
  | subportDegraded (port : Nat) (lane : Nat)
  /-- ETH_LINK_ENABLE_WRITE (R308). A write of an Ethernet port's LINK_ENABLE disables or trains its sub-ports. -/
  | ethLinkEnableWrite (port : Nat) (value : Nat)
  /-- GATE_ENTRY_CHANGE (R318). A gate list entry's interval begins, opening and closing classes. -/
  | gateEntryChange (port : Nat) (lane : Nat)
  /-- CONFIG_CHANGE (R320). A write of 1 to CONFIG_CHANGE checks the administrative gate list and schedules it for time T. -/
  | configChange (port : Nat) (lane : Nat)
  /-- GATE_CONFIG_APPLY (R320). At T the administrative gate values become the operating values. -/
  | gateConfigApply (port : Nat) (lane : Nat)
  /-- NVME_CONNECT (R391). The connection COMMAND CONNECT starts NVMe/TCP connection set-up. -/
  | nvmeConnect (conn : Nat)
  /-- NVME_DISCONNECT (R391). The connection COMMAND DISCONNECT closes the connection and fails its entries with LINK_LOST. -/
  | nvmeDisconnect (conn : Nat)
  /-- NVME_CONNECT_DONE (R391). Every set-up step succeeds, and the connection becomes READY. -/
  | nvmeConnectDone (conn : Nat)
  /-- NVME_CONNECT_TIMEOUT (R391). Set-up fails or takes 10 s, and the connection goes DOWN. -/
  | nvmeConnectTimeout (conn : Nat) (digestsRefused : Bool)
  /-- NVME_CONNECTION_LOSS (R391). A TCP reset, C2HTermReq, digest error or missed Keep Alive takes a READY connection DOWN. -/
  | nvmeConnectionLoss (conn : Nat)
  /-- NVME_IO_TIMEOUT (R391). A command passes IO_TIMEOUT, and the connection goes DOWN. -/
  | nvmeIoTimeout (conn : Nat)
  /-- NVME_RECONNECT_DELAY (R391). RECONNECT_DELAY passes in DOWN, and the connection reconnects. -/
  | nvmeReconnectDelay (conn : Nat)
  /-- NVME_KEEP_ALIVE (R389). The 30 s timer sends Keep Alive on the admin queue. -/
  | nvmeKeepAlive (conn : Nat)
  /-- NVME_C2H_DATA (R394). A C2HData PDU's bytes are checked, deciphered and placed in the buffer. -/
  | nvmeC2hData (conn : Nat) (pdu : List Byte)
  /-- NVME_R2T (R394). An R2T makes the initiator send H2CData from the buffer. -/
  | nvmeR2t (conn : Nat) (pdu : List Byte)
  /-- NVME_CAPSULE_RESP (R393). A completion queue entry arrives, and the entry completes once all its commands have. -/
  | nvmeCapsuleResp (conn : Nat) (pdu : List Byte)
  /-- RAW_QUEUE_ENABLE (R397). A write of 1 to a raw queue's ENABLE checks the queue and zeroes its pegs. -/
  | rawQueueEnable (queue : Nat)
  /-- RAW_QUEUE_DISABLE (R397). A write of 0 to a raw queue's ENABLE stops delivery and flushes its descriptors. -/
  | rawQueueDisable (queue : Nat)
  /-- RAW_TX_DESCRIPTOR (R398). The cluster takes a posted transmit descriptor, sends the frame and writes its completion. -/
  | rawTxDescriptor (queue : Nat)
  /-- RAW_RX_FRAME (R399). A frame claimed by a raw queue filter is written to a slot, and its record and RX_DONE add follow. -/
  | rawRxFrame (queue : Nat)
  /-- TELEMETRY_ENABLE (R401). A write of 1 to a stream's ENABLE resets SEQUENCE and starts a record at once. -/
  | telemetryEnable (stream : Nat)
  /-- TELEMETRY_RECORD (R401). At each PERIOD a stream reads its objects and sends or writes a record. -/
  | telemetryRecord (stream : Nat)
  /-- CLUSTER_WATCHDOG_EXPIRY (R386). The cluster firmware misses the internal watchdog for 10 ms, and the cluster is marked FAILED. -/
  | clusterWatchdogExpiry
  /-- TIME_STEP (R462). A TIME_STEP write adds to the device time counter at the next tick. -/
  | timeStep (value : Nat)
  /-- PPS_OUT_PULSE (R489). PPS_OUT rises at the tick that reaches or passes a whole second. -/
  | ppsOutPulse
  /-- PPS_IN_EDGE (R489). A PPS_IN rising edge is captured into PPS_IN_TIME. -/
  | ppsInEdge
  /-- KEK_LOAD (R412). A KEK_LOAD write agrees a transport key by ECDH and unwraps the drawer's KEK. -/
  | kekLoad (drawer : Nat) (blob : List Byte)
  /-- KEY_WRITE (R413). A KEY_WRITE stores a wrapped key blob in a drawer-relative slot. -/
  | keyWrite (drawer : Nat) (blob : List Byte)
  /-- KEY_CLEAR (R413). A KEY_CLEAR write empties a slot. -/
  | keyClear (drawer : Nat) (slot : Nat)
  /-- SVN_COMMIT (R427). An SVN_COMMIT write blows fuses up to the committed security version. -/
  | svnCommit (value : Nat)
  /-- LEDGER_READ (R435). Ledger READ message, plain or WHOLE, answered within 1 ms. -/
  | ledgerRead (session : Nat) (request : List Byte)
  /-- LEDGER_WRITE (R435). Ledger WRITE message, single or MULTI, for objects with no command row of their own. -/
  | ledgerWrite (session : Nat) (request : List Byte)
  /-- DOMAIN_READ (R447). Reads a segment of a DOMAIN object, taking a snapshot at offset 0. -/
  | domainRead (session : Nat) (request : List Byte)
  /-- DOMAIN_BEGIN (R447). Opens a segmented DOMAIN write of a named length. -/
  | domainBegin (session : Nat) (request : List Byte)
  /-- DOMAIN_SEGMENT (R447). Delivers the next contiguous segment of a DOMAIN write. -/
  | domainSegment (session : Nat) (request : List Byte)
  /-- DOMAIN_END (R447). Applies the whole DOMAIN value as one write. -/
  | domainEnd (session : Nat) (request : List Byte)
  /-- DOMAIN_ABORT (R447). Discards an open DOMAIN transfer. -/
  | domainAbort (session : Nat) (request : List Byte)
  /-- DOMAIN_TRANSFER_TIMEOUT (R447). 60 s without a segment discards the transfer. -/
  | domainTransferTimeout (session : Nat)
  /-- HELLO (R442). Opens a half-open Jorol session and returns a device nonce. -/
  | hello (request : List Byte)
  /-- AUTH (R442). Checks the HMAC proof and establishes the session key. -/
  | auth (request : List Byte)
  /-- CLOSE (R444). Closes a session. -/
  | close (session : Nat) (request : List Byte)
  /-- HELLO_EXPIRY (R442). A HELLO without AUTH expires after 1 s. -/
  | helloExpiry (session : Nat)
  /-- SESSION_IDLE_EXPIRY (R444). SESSION_IDLE passes without a request, and the session closes. -/
  | sessionIdleExpiry (session : Nat)
  /-- HEARTBEAT (R451). HEARTBEAT message or write that records the value, arms the watchdog and returns status. -/
  | heartbeat (session : Nat) (request : List Byte)
  /-- SUBSCRIBE (R449). Sets a session's event mask for NOTIFY. -/
  | subscribe (session : Nat) (request : List Byte)
  /-- NOTIFY_ACK (R449). Acknowledges a NOTIFY. -/
  | notifyAck (session : Nat) (request : List Byte)
  /-- NOTIFY_RESEND (R449). Every 10 ms an unacknowledged NOTIFY is sent again. -/
  | notifyResend (session : Nat)
  /-- WATCHDOG_EXPIRY (R451). A heartbeat interval ends with no write, and the watchdog's action is taken. -/
  | watchdogExpiry
  /-- RESET_COMMAND (R457). The owner's RESET_COMMAND write orders a full reset after the answer is sent. -/
  | resetCommand (session : Nat)
  /-- SCORECARD_CLEAR (R477). Clears scorecard, severe and faulting bits of the named sources, and restarts their windows. -/
  | scorecardClear (mask : Nat)
  /-- SCORECARD_EVENT (R469). A source's line rises at a tick: the event is counted and windowed, and severity and action are judged. -/
  | scorecardEvent (source : Nat)
  /-- INJECT_START (R478). INJECT_GO 1 starts injecting rises on a scorecard source in factory test. -/
  | injectStart
  /-- INJECT_STOP (R478). INJECT_GO 2 ends an injection. -/
  | injectStop
  /-- INJECT_EVENT (R478). Each INJECT_INTERVAL an injected rise is handled as a real one. -/
  | injectEvent
  /-- DRAWER_STOP (R370). Drawer COMMAND STOP ends jobs, hands, waits and QPs, and enters STOPPING. -/
  | drawerStop (drawer : Nat)
  /-- DRAWER_STOPPED_REACHED (R370). Once every fetched entry has completed and no placement is in flight, the drawer enters STOPPED. -/
  | drawerStoppedReached (drawer : Nat)
  /-- DRAWER_START (R372). Drawer COMMAND START returns a STOPPED drawer to RUNNING. -/
  | drawerStart (drawer : Nat)
  /-- RECYCLE (R373). Drawer COMMAND RECYCLE stops, resets and strips a drawer so it can pass to a new tenant. -/
  | recycle (drawer : Nat)
  /-- CHUNK_GO (R368). Starts the chunk command, assigning or unassigning chunks in order with zero-fill. -/
  | chunkGo
  /-- BENCH_OWNER_WRITE (R369). Reassigns benches, deferring those mapped to running jobs. -/
  | benchOwnerWrite (bytes : List Byte)
  /-- HUB_PEG_BLOCK_WRITE (R151). Changes a hub peg block's owner, flushing waits, unbinding views and zeroing its pegs. -/
  | hubPegBlockWrite (block : Nat) (value : Nat)
  /-- MIG_SAVE (R378). MIG_COMMAND SAVE writes the drawer's state blob. -/
  | migSave (drawer : Nat)
  /-- MIG_RESTORE (R382). MIG_COMMAND RESTORE rebuilds regions, QPs, pegs and translation from the blob. -/
  | migRestore (drawer : Nat)
  /-- MIG_COPY_OUT (R379). MIG_COMMAND COPY_OUT copies the drawer's memory, all or dirty granules, into staging. -/
  | migCopyOut (drawer : Nat)
  /-- MIG_COPY_IN (R379). MIG_COMMAND COPY_IN copies staging into the drawer's memory. -/
  | migCopyIn (drawer : Nat)
  /-- MIG_LOG_START (R380). MIG_COMMAND LOG_START starts dirty logging into buffer A. -/
  | migLogStart (drawer : Nat)
  /-- MIG_LOG_SWAP (R381). MIG_COMMAND LOG_SWAP makes the other host log buffer active. -/
  | migLogSwap (drawer : Nat)
  /-- MIG_LOG_STOP (R378). MIG_COMMAND LOG_STOP ends logging. -/
  | migLogStop (drawer : Nat)
  /-- SECRET_LOAD (R443). Sets a credential's secret, unwrapping it when written through a session, and closes its sessions. -/
  | secretLoad (credential : Nat) (blob : List Byte)
  /-- TAP_RESET (R521). TRST_N low or five TMS-high cycles reset the test access port to IDCODE. -/
  | tapReset
  /-- EXTEST (R521). TAP instruction that drives and samples the boundary register while PERST0_N is asserted. -/
  | extest
  /-- IDCODE (R521). TAP instruction that selects the identification register. -/
  | idcode
  /-- SAMPLE_PRELOAD (R521). TAP instruction that samples and loads the boundary register without disturbing pins. -/
  | samplePreload (cells : Nat)
  /-- CLAMP (R521). TAP instruction that drives the preloaded values with bypass selected. -/
  | clamp
  /-- HIGHZ (R521). TAP instruction that releases every boundary output. -/
  | highz
  /-- BYPASS (R521). TAP instruction that selects the 1-bit bypass register. -/
  | bypass
  /-- P1_DL_UP (R362). P1's link reaches DL_Up, PORT_UP with PORT_KIND 3 is raised, and accesses to P1 regions stop failing with DATA_PARITY. -/
  | p1DlUp (speed : Nat) (width : Nat) (flit : Bool)
  /-- STACK_INTERFACE_LOSS (R472). A stack's hub interface reports an uncorrectable link error or a loss of training: in-flight accesses fail as parity errors, later ones wait, and the STACK_IF source is asserted. -/
  | stackInterfaceLoss (stack : Nat)
  /-- STACK_INTERFACE_RETRAINED (R472). The stack's hub interface retrains, waiting accesses proceed, and the STACK_IF condition ends. -/
  | stackInterfaceRetrained (stack : Nat)
  /-- MAIN_RAIL_RETURN (R471). A main rail that left its range after power-good returns to it, and the SUPPLY condition ends. -/
  | mainRailReturn (rail : Nat)
  /-- COMPLETION_TIMEOUT (R330). A request the device issued on P0 or P1 reaches its PCIe Completion Timeout, and the operation that made it is treated as a parity error. -/
  | completionTimeout (fid : Nat) (idx : Nat)
  /-- ATOMICOP_COMPLETION (R286). The completion of a PCIe AtomicOp issued for an HRT ADD or CAS arrives, and the device answers with ATOMIC_RESP, NAK_OPERATION or NAK_PARITY under R286's table. -/
  | atomicopCompletion (qp : Nat) (success : Bool) (value : Nat)
  /-- FLASH_WRITE (R436). The copy of a /F object into flash completes, or fails and raises an event on the FLASH source. -/
  | flashWrite (object : Nat) (success : Bool)
  /-- VF_ENABLE (R363). Software sets VF Enable in PF0's SR-IOV capability, bringing up the VFs and applying the stored MSIX_VECTORS to them. -/
  | vfEnable (numVfs : Nat)
  /-- PCIE_TLP_ERROR (R471). P0 or P1 receives a malformed TLP or an unexpected completion, or suffers a receiver overflow or an uncorrectable internal error, and this raises an event on the PCIE source. -/
  | pcieTlpError (port : Nat)
  deriving DecidableEq, Repr

end Sys2Proof
end

