-- ==== Sys2Proof/Machine/Bits.lean ====
section
/-! DEFINITION. Machine/Bits.lean: byte order (R6), two's complement, wrapping and saturating arithmetic,
rounded division, CRCs (the CRC-32 of Ethernet and CRC32C), and small list helpers that every chapter uses. -/

namespace Sys2Proof.Machine

/-- The n little-endian bytes of a value (R6). -/
def leBytes : Nat → Nat → List Byte
  | 0, _ => []
  | n + 1, v => BitVec.ofNat 8 v :: leBytes n (v / 256)

/-- The value little-endian bytes spell (R6). -/
def ofLe : List Byte → Nat
  | [] => 0
  | b :: bs => b.toNat + 256 * ofLe bs

/-- The n bytes of a value in network byte order (R6). -/
def beBytes (n v : Nat) : List Byte := (leBytes n v).reverse

/-- The value that bytes in network byte order spell (R6). -/
def ofBe (bs : List Byte) : Nat := ofLe bs.reverse

/-- `n` bytes of a list from an offset. Bytes past the end are absent. -/
def slice (bs : List Byte) (off n : Nat) : List Byte := (bs.drop off).take n

/-- A little-endian field of n bytes at an offset. -/
def leAt (bs : List Byte) (off n : Nat) : Nat := ofLe (slice bs off n)

/-- A network-order field of n bytes at an offset. -/
def beAt (bs : List Byte) (off n : Nat) : Nat := ofBe (slice bs off n)

/-- Bytes written over a list at an offset (the list keeps its length). -/
def overlay (bs : List Byte) (off : Nat) (v : List Byte) : List Byte :=
  bs.take off ++ (v.take (bs.length - off) ++ bs.drop (off + v.length))

/-- A list cut or padded with zero bytes to a length. -/
def padTo (n : Nat) (bs : List Byte) : List Byte := bs.take n ++ List.replicate (n - bs.length) 0

/-- The signed value of a w-bit two's-complement field. -/
def signed (w x : Nat) : Int := if x % 2 ^ w < 2 ^ (w - 1) then (x % 2 ^ w : Nat) else (x % 2 ^ w : Nat) - (2 ^ w : Nat)

/-- The w-bit field that holds an integer, wrapping. -/
def wrapInt (w : Nat) (x : Int) : Nat := (x % (2 ^ w : Nat)).toNat

/-- A saturating sum of an event counter (R12). -/
def satAdd (w a b : Nat) : Nat := min (a + b) (2 ^ w - 1)

/-- Division rounding up. -/
def ceilDiv (a b : Nat) : Nat := (a + b - 1) / b

/-- The least multiple of m that is not below a. -/
def roundUp (a m : Nat) : Nat := ceilDiv a m * m

/-- (a - b) mod m, for free-running counters ("Pseudocode and timing"). -/
def subMod (m a b : Nat) : Nat := (a + (m - b % m)) % m

/-- Forward test of a sequence number: 0 ≤ (a − b) mod 2^24 < 2^23. -/
def psnGe (a b : Nat) : Bool := subMod (2 ^ 24) a b < 2 ^ 23

/-- A Bool as a bit. -/
def bnat (b : Bool) : Nat := if b then 1 else 0

/-- Ranges [a, a+n) and [b, b+m) share an address. -/
def overlaps (a n b m : Nat) : Bool := 0 < n && 0 < m && a < b + m && b < a + n

/-- [a, a+n) lies in [b, b+m). -/
def within (a n b m : Nat) : Bool := b ≤ a && a + n ≤ b + m

/-- One bit step of a reflected CRC-32 with polynomial p. -/
def crcBit (p c : Nat) : Nat := if c % 2 == 1 then (c / 2) ^^^ p else c / 2

/-- One byte step of a reflected CRC-32. -/
def crcByte (p c : Nat) (b : Byte) : Nat :=
  let f := crcBit p
  f (f (f (f (f (f (f (f (c ^^^ b.toNat))))))))

/-- A reflected CRC-32 with initial value and final inversion of all ones. -/
def crc32With (p : Nat) (bs : List Byte) : Nat := (bs.foldl (crcByte p) 0xFFFFFFFF) ^^^ 0xFFFFFFFF

/-- The CRC-32 of IEEE 802.3, as every E port, P port and Derone header that names CRC-32 uses it. -/
def crc32 (bs : List Byte) : Nat := crc32With 0xEDB88320 bs

/-- CRC32C, as NVMe/TCP digests and every check word that names CRC32C use it. -/
def crc32c (bs : List Byte) : Nat := crc32With 0x82F63B78 bs

/-- The position of the first element that satisfies p. -/
def findPos {α : Type} (p : α → Bool) : List α → Option Nat
  | [] => none
  | a :: as => if p a then some 0 else (findPos p as).map (· + 1)

/-- A list with its i-th element replaced. -/
def setAt {α : Type} (l : List α) (i : Nat) (a : α) : List α := l.set i a

/-- The i-th element or a default. -/
def nth {α : Type} (d : α) (l : List α) (i : Nat) : α := l.getD i d

/-- Update the i-th element of a list. -/
def updAt {α : Type} (l : List α) (i : Nat) (f : α → α) : List α := l.modify i f

/-- The first m of 0, 1, 2, … that satisfies p, below a bound. -/
def firstBelow (n : Nat) (p : Nat → Bool) : Option Nat := (List.range n).find? p

/-- A byte string, XORed with another, as long as the shorter. -/
def xorBytes (a b : List Byte) : List Byte := List.zipWith (· ^^^ ·) a b

/-- `n` pieces of `k` bytes each. -/
def chunksOf (k : Nat) : Nat → List Byte → List (List Byte)
  | 0, _ => []
  | n + 1, bs => bs.take k :: chunksOf k n (bs.drop k)

/-- Split a list into pieces of at most k bytes. -/
def pieces (k : Nat) (bs : List Byte) : List (List Byte) := chunksOf k (ceilDiv bs.length k) bs

/-- Bit-string key of a pair (major, minor), minor below 2^16. -/
def key2 (a b : Nat) : Nat := a * 65536 + b

end Sys2Proof.Machine
end

