-- ==== Sys2Proof/Machine/Aes.lean ====
section
/-! DEFINITION. Machine/Aes.lean: the standard algorithms of the cipher engine that rest on AES (R405 to R421): the block
cipher with 128- and 256-bit keys, GCM with its tag, XTS, and the key wrap with padding of RFC 5649 (R412 to R414). R407:
"Every ciphertext, plaintext and tag is exactly that of the standard algorithm". -/

namespace Sys2Proof.Machine.Aes

/-- Multiplication by x in GF(2^8), modulo x^8 + x^4 + x^3 + x + 1. -/
def xtime (a : Nat) : Nat := if a < 128 then 2 * a else (2 * a % 256) ^^^ 0x1B

/-- Multiplication in GF(2^8), by the bits of b from the lowest. -/
def gmulBits : Nat → Nat → Nat → Nat
  | 0, _, _ => 0
  | n + 1, a, b => (if b % 2 = 1 then a else 0) ^^^ gmulBits n (xtime a) (b / 2)

def gmul (a b : Nat) : Nat := gmulBits 8 a b

/-- a^254, the inverse (0 maps to 0). -/
def ginv (a : Nat) : Nat :=
  let a2 := gmul a a
  let a4 := gmul a2 a2
  let a8 := gmul a4 a4
  let a16 := gmul a8 a8
  let a32 := gmul a16 a16
  let a64 := gmul a32 a32
  let a128 := gmul a64 a64
  gmul a128 (gmul a64 (gmul a32 (gmul a16 (gmul a8 (gmul a4 a2)))))

def rotl8 (x k : Nat) : Nat := (x * 2 ^ k % 256) ||| (x / 2 ^ (8 - k))

/-- The S-box. -/
def sub1 (a : Nat) : Nat :=
  let i := ginv a
  i ^^^ rotl8 i 1 ^^^ rotl8 i 2 ^^^ rotl8 i 3 ^^^ rotl8 i 4 ^^^ 0x63

/-- The inverse S-box. -/
def inv1 (s : Nat) : Nat := ginv (rotl8 s 1 ^^^ rotl8 s 3 ^^^ rotl8 s 6 ^^^ 0x05)

def sboxTable : Array Nat := ((List.range 256).map sub1).toArray
def invTable : Array Nat := ((List.range 256).map inv1).toArray
def sbox (a : Nat) : Nat := sboxTable.getD a 0
def isbox (a : Nat) : Nat := invTable.getD a 0

/-- XOR of two words of equal length. -/
def xorL (a b : List Nat) : List Nat := List.zipWith (· ^^^ ·) a b

/-- The words of the expanded key, newest first; nk key words, i words so far, `rc` the round constant. -/
def expandGo (nk : Nat) : Nat → Nat → Nat → List (List Nat) → List (List Nat)
  | 0, _, _, ws => ws
  | n + 1, i, rc, ws =>
    let prev := ws.headD []
    let old := nth [] ws (nk - 1)
    let t :=
      if i % nk = 0 then xorL ((prev.drop 1 ++ prev.take 1).map sbox) [rc, 0, 0, 0]
      else if 6 < nk ∧ i % nk = 4 then prev.map sbox
      else prev
    expandGo nk n (i + 1) (if i % nk = 0 then xtime rc else rc) (xorL old t :: ws)

/-- The round keys of a 16- or 32-byte key, 16 bytes each. -/
def roundKeys (key : List Byte) : List (List Nat) :=
  let nk := key.length / 4
  let words := (chunksOf 4 nk key).map fun w => w.map (·.toNat)
  let all := (expandGo nk (4 * (nk + 7) - nk) nk 1 words.reverse).reverse
  (chunks4 (nk + 7) all).map fun w => w.flatten
where
  /-- Groups of four words. -/
  chunks4 : Nat → List (List Nat) → List (List (List Nat))
    | 0, _ => []
    | n + 1, ws => ws.take 4 :: chunks4 n (ws.drop 4)

def shiftRows (s : List Nat) : List Nat := [0, 5, 10, 15, 4, 9, 14, 3, 8, 13, 2, 7, 12, 1, 6, 11].map (nth 0 s)
def unshiftRows (s : List Nat) : List Nat := [0, 13, 10, 7, 4, 1, 14, 11, 8, 5, 2, 15, 12, 9, 6, 3].map (nth 0 s)

/-- One column by the circulant matrix (a, b, c, d). -/
def mixCol (a b c d : Nat) (v : List Nat) : List Nat :=
  let x := fun i => nth 0 v i
  [gmul a (x 0) ^^^ gmul b (x 1) ^^^ gmul c (x 2) ^^^ gmul d (x 3),
   gmul d (x 0) ^^^ gmul a (x 1) ^^^ gmul b (x 2) ^^^ gmul c (x 3),
   gmul c (x 0) ^^^ gmul d (x 1) ^^^ gmul a (x 2) ^^^ gmul b (x 3),
   gmul b (x 0) ^^^ gmul c (x 1) ^^^ gmul d (x 2) ^^^ gmul a (x 3)]

def mixColumns (s : List Nat) : List Nat := (List.range 4).flatMap fun i => mixCol 2 3 1 1 ((s.drop (4 * i)).take 4)
def unmixColumns (s : List Nat) : List Nat := (List.range 4).flatMap fun i => mixCol 14 11 13 9 ((s.drop (4 * i)).take 4)

/-- The rounds after the first key addition. -/
def encRounds : List (List Nat) → List Nat → List Nat
  | [], s => s
  | [k], s => xorL (shiftRows (s.map sbox)) k
  | k :: ks, s => encRounds ks (xorL (mixColumns (shiftRows (s.map sbox))) k)

/-- Encipher one block under round keys. -/
def encBlock (rk : List (List Nat)) (b : List Nat) : List Nat :=
  match rk with
  | [] => b
  | k :: ks => encRounds ks (xorL b k)

/-- The inverse rounds: keys from the last to the first. -/
def decRounds : List (List Nat) → List Nat → List Nat
  | [], s => s
  | [k], s => xorL ((unshiftRows s).map isbox) k
  | k :: ks, s => decRounds ks (unmixColumns (xorL ((unshiftRows s).map isbox) k))

/-- Decipher one block. -/
def decBlock (rk : List (List Nat)) (b : List Nat) : List Nat :=
  match rk.reverse with
  | [] => b
  | k :: ks => decRounds ks (xorL b k)

def toNats (bs : List Byte) : List Nat := bs.map (·.toNat)
def toBytes (ns : List Nat) : List Byte := ns.map (BitVec.ofNat 8)

/-- One block as bytes. -/
def enc (rk : List (List Nat)) (b : List Byte) : List Byte := toBytes (encBlock rk (toNats b))
def dec (rk : List (List Nat)) (b : List Byte) : List Byte := toBytes (decBlock rk (toNats b))

/-! GCM (NIST SP 800-38D) -/

/-- Product in GF(2^128) in GCM's bit order: x and y as big-endian numbers, bit 127 the lowest power. -/
def ghashMul : Nat → Nat → Nat → Nat
  | 0, _, _ => 0
  | n + 1, x, v =>
    (if bit x n then v else 0) ^^^ ghashMul n x (if v % 2 = 1 then (v / 2) ^^^ (0xE1 * 2 ^ 120) else v / 2)

/-- GHASH of whole blocks. -/
def ghash (h : Nat) (blocks : List (List Byte)) : Nat := blocks.foldl (fun y b => ghashMul 128 (y ^^^ ofBe b) h) 0

/-- A string padded with zero bytes to whole blocks. -/
def blocksOf (bs : List Byte) : List (List Byte) := pieces 16 (padTo (roundUp bs.length 16) bs)

/-- The key stream from counter value c. -/
def ctr (rk : List (List Nat)) (iv : List Byte) : Nat → Nat → List Byte
  | 0, _ => []
  | n + 1, c => enc rk (iv ++ beBytes 4 c) ++ ctr rk iv n (c + 1)

/-- Encipher or decipher under a 96-bit IV. -/
def gcmText (key iv text : List Byte) : List Byte :=
  xorBytes text (ctr (roundKeys key) iv (ceilDiv text.length 16) 2)

/-- The tag of authenticated data and ciphertext. -/
def gcmTag (key iv aad cipher : List Byte) : List Byte :=
  let rk := roundKeys key
  let h := ofBe (enc rk (List.replicate 16 0))
  let y := ghash h (blocksOf aad ++ blocksOf cipher ++ [beBytes 8 (8 * aad.length) ++ beBytes 8 (8 * cipher.length)])
  xorBytes (beBytes 16 y) (enc rk (iv ++ beBytes 4 1))

/-! XTS (IEEE 1619), for data units of whole blocks (R409) -/

/-- The next block's tweak: multiplication by x, little-endian. -/
def xtsNext (t : Nat) : Nat := if t < 2 ^ 127 then 2 * t else (2 * t % 2 ^ 128) ^^^ 0x87

/-- Blocks of a unit under tweak t. -/
def xtsBlocks (f : List Byte → List Byte) : Nat → List (List Byte) → List Byte
  | _, [] => []
  | t, b :: bs => xorBytes (f (xorBytes b (leBytes 16 t))) (leBytes 16 t) ++ xtsBlocks f (xtsNext t) bs

/-- One data unit under a 64-byte key, Key1 then Key2, with a data unit number. -/
def xts (encrypt : Bool) (key : List Byte) (unit : Nat) (data : List Byte) : List Byte :=
  let k1 := roundKeys (key.take 32)
  let t := ofLe (enc (roundKeys (key.drop 32)) (leBytes 16 unit))
  xtsBlocks (if encrypt then enc k1 else dec k1) t (pieces 16 data)

/-! Key wrap with padding (RFC 5649) -/

/-- One of the 6n inverse steps of RFC 3394, t counting down. -/
def unwrapStep (rk : List (List Nat)) (n : Nat) : Nat → Nat × List (List Byte) → Nat × List (List Byte)
  | 0, st => st
  | t + 1, (a, rs) =>
    let i := t % n
    let b := dec rk (beBytes 8 (a ^^^ (t + 1)) ++ nth [] rs i)
    unwrapStep rk n t (ofBe (b.take 8), setAt rs i (b.drop 8))

/-- Unwrap: the high half of the initial value, the length indicator, and the padded key; nothing for a bad length. -/
def kwpUnwrap (key wrapped : List Byte) : Option (Nat × Nat × List Byte) :=
  let rk := roundKeys key
  if wrapped.length % 8 ≠ 0 ∨ wrapped.length < 16 then none
  else if wrapped.length = 16 then
    let b := dec rk wrapped
    some (beAt b 0 4, beAt b 4 4, b.drop 8)
  else
    let n := wrapped.length / 8 - 1
    let r := unwrapStep rk n (6 * n) (beAt wrapped 0 8, pieces 8 (wrapped.drop 8))
    some (r.1 / 2 ^ 32, r.1 % 2 ^ 32, r.2.flatten)

/-- The key of `len` bytes that a wrapped blob holds under R412's and R414's checks. -/
def unwrapKey (kek wrapped : List Byte) (len : Nat) : Option (List Byte) :=
  match kwpUnwrap kek wrapped with
  | some (hi, mli, k) => if hi = 0xA65959A6 ∧ mli = len ∧ k.length = roundUp len 8 ∧ (k.drop len).all (· == 0) then some (k.take len) else none
  | none => none

end Sys2Proof.Machine.Aes
end

