-- ==== Sys2Proof/Config.lean ====
section
/-! DEFINITION. Config.lean: what one implementation fixes, and the free values. A free value is an opaque constant: no
proof can see what it is, so a claim that holds of it holds whatever the hardware does there. Each is named in a row of
the assumption log. -/

namespace Sys2Proof.Config

/-- The n-th undefined byte ("Undefined" data contents: destinations after a failed operation, bytes raced under R22). -/
opaque freeByte : Nat → Byte

/-- What a byte of device memory reads as after its contents have been lost for the n-th time (R481). -/
opaque lostByte : Nat → Nat → Byte

/-- The n-th value of w bits that the manual gives no number for: a measured figure, a timing counter, a random draw. -/
opaque freeValue : Nat → Nat → Nat

/-- The n-th draw of a random source the manual names (nonces, keys, marking draws), as k bytes. -/
opaque randomByte : Nat → Nat → Byte

/-- The n-th draw of a port's marking sequence (R298), of 32 bits. -/
opaque markDraw : Nat → Nat → Nat

/-- The place of a window-map entry among the 1,048,576 of its stack, by drawer and DVA granule (R137): the manual gives the map no layout. -/
opaque mapEntry : Nat → Nat → Nat

/-- What a bench reads of a byte of device memory that a placement races with (R22), by the instruction's number and the byte's offset. -/
opaque racedByte : Nat → Nat → Byte

/-- Block size in bytes that a namespace reports in a session of a storage connection: connection, session, NSID. A value other
than 512 and 4,096, and a namespace with metadata, is not usable (R389, R393). -/
opaque nvmeBlock : Nat → Nat → Nat → Nat

/-- Blocks in the largest command that a controller's MDTS allows in a session: connection, session, less one. -/
opaque nvmeMdts : Nat → Nat → Nat

/-- Source port of a storage connection's TCP connection in a session, from 49,152 up: connection, session (R389). -/
opaque tcpPort : Nat → Nat → Nat

/-! Values written at manufacture (R456): the serial number, the factory addresses of E0 to E7 and, at 8, of M0, and whether the
module is of class E. -/

opaque serial : Nat → Byte
opaque factoryMac : Nat → Nat → Byte
opaque classE : Bool

/-! The boot chain (R425): the digests of the four root keys, the images in banks A, B and recovery at manufacture, and the
fields of an image, whose layout the manual does not give: the signed manifest, its signature, the root key it names, its
security version, and for components 0 to 3 (hub, cluster, microcode, SerDes) their bytes, digests and versions. -/

opaque rootDigest : Nat → List Byte
opaque factoryImage : Nat → List Byte
opaque manifest : List Byte → List Byte
opaque manifestSignature : List Byte → List Byte
opaque manifestKey : List Byte → List Byte
opaque manifestSvn : List Byte → Nat
opaque component : List Byte → Nat → List Byte
opaque componentDigest : List Byte → Nat → List Byte
opaque componentVersion : List Byte → Nat → Nat
opaque releaseName : List Byte → List Byte
opaque romVersion : Nat

/-- The device's identity key and the published factory test key, each as 48 bytes, and the certificate chain (R430), its first byte apart:
the chain is not empty (R466). -/
opaque identityKey : List Byte
opaque testKey : List Byte
opaque identityHead : Byte
opaque identityChain : List Byte

/-- VOUT_MODE of the regulator of a rail, as the n-th reading of it finds it (R498). -/
opaque voutMode : Nat → Nat → Nat

/-- A value stored in flash, by the key of its object, fails its check at the n-th bring-up (R472). -/
opaque flashFails : Nat → Nat → Bool

/-- TESTMODE0 and TESTMODE1 both select factory test mode at the n-th start of the boot ROM (R520). -/
opaque testPins : Nat → Bool

end Sys2Proof.Config
end

