-- ==== Sys2Proof/Machine/Sparse.lean ====
section
/-! DEFINITION. Machine/Sparse.lean: data by key in one canonical form. A sparse table is a list of (key, value) pairs
with strictly rising keys and no pair whose value is what an unlisted key reads as, so equal tables are equal lists.
Memories, register files and every per-object table of the State are sparse tables. -/

namespace Sys2Proof.Machine

/-- Data by key, in canonical form. -/
abbrev Sparse (α : Type) := List (Nat × α)

/-- The value at a key; `d` gives what an unlisted key reads as. -/
def Sparse.get {α : Type} (d : Nat → α) (m : Sparse α) (k : Nat) : α :=
  match m with
  | [] => d k
  | (j, v) :: r => if j = k then v else Sparse.get d r k

/-- Remove a key. -/
def Sparse.del {α : Type} (m : Sparse α) (k : Nat) : Sparse α :=
  match m with
  | [] => []
  | (j, v) :: r => if j = k then Sparse.del r k else (j, v) :: Sparse.del r k

/-- Insert or replace a pair, keeping the keys rising. -/
def Sparse.ins {α : Type} (m : Sparse α) (k : Nat) (a : α) : Sparse α :=
  match m with
  | [] => [(k, a)]
  | (j, v) :: r => if j = k then (k, a) :: r else if k < j then (k, a) :: (j, v) :: r else (j, v) :: Sparse.ins r k a

/-- Set the value at a key: a value equal to the unlisted one removes the pair. -/
def Sparse.set {α : Type} [DecidableEq α] (d : Nat → α) (m : Sparse α) (k : Nat) (a : α) : Sparse α :=
  if a = d k then Sparse.del m k else Sparse.ins m k a

/-- Keys strictly rise from a lower bound, and no listed value is the unlisted one. -/
def Sparse.wfFrom {α : Type} [DecidableEq α] (d : Nat → α) (m : Sparse α) (lo : Nat) : Bool :=
  match m with
  | [] => true
  | (j, v) :: r => decide (lo ≤ j) && decide (v ≠ d j) && Sparse.wfFrom d r (j + 1)

/-- The canonical form. -/
def Sparse.wf {α : Type} [DecidableEq α] (d : Nat → α) (m : Sparse α) : Bool := Sparse.wfFrom d m 0

/-- Keep the pairs whose key satisfies p. -/
def Sparse.keep {α : Type} (m : Sparse α) (p : Nat → Bool) : Sparse α := m.filter fun kv => p kv.1

/-- The keys listed. -/
def Sparse.keys {α : Type} (m : Sparse α) : List Nat := m.map (·.1)

/-- A table of numbers whose unlisted value is 0. -/
def Sparse.num (m : Sparse Nat) (k : Nat) : Nat := Sparse.get (fun _ => 0) m k
def Sparse.setNum (m : Sparse Nat) (k v : Nat) : Sparse Nat := Sparse.set (fun _ => 0) m k v

/-- A table of things that may be absent. -/
def Sparse.look {α : Type} (m : Sparse α) (k : Nat) : Option α := (m.find? fun kv => kv.1 == k).map (·.2)

end Sys2Proof.Machine
end

