-- ==== Sys2Proof/Machine/StateMem.lean ====
section
/-! DEFINITION. Machine/StateMem.lean: the state of "Device memory, drawer address spaces and translation" and of the
region table: byte memories with their bad-parity marks, the chunk owner map, windows, caches and page moves. -/

namespace Sys2Proof.Machine

/-- A byte memory: the listed bytes, the addresses whose byte has bad parity (R146), and how often the whole of its
contents has been lost. An unlisted byte reads as 0 until a loss (DESIGN CHOICE, log 3), and as a free byte after one. -/
structure Ram where
  cells : List Host.Cell
  bad : List Nat
  losses : Nat
  deriving DecidableEq, Repr

/-- What an unlisted address reads as. -/
def Ram.unlisted (losses : Nat) (a : Nat) : Byte := if losses = 0 then 0 else Config.lostByte losses a

def Ram.empty : Ram := ⟨[], [], 0⟩

/-- The kinds of region (R279). -/
inductive RegionKind where
  | bus
  | dva
  deriving DecidableEq, Repr

/-- A region table entry (R279). -/
structure Region where
  valid : Bool
  owner : Nat
  generation : Nat
  kind : RegionKind
  port : Nat
  base : Nat
  length : Nat
  rights : Nat
  deriving DecidableEq, Repr

def Region.none : Region := ⟨false, 0, 0, .bus, 0, 0, 0, 0⟩

/-- A residency window (R137): base, length, stack, the WRITABLE flag, and the leaf of each granule. -/
structure Window where
  base : Nat
  length : Nat
  stack : Nat
  writable : Bool
  leaves : List Nat
  deriving DecidableEq, Repr

/-- A cached leaf (R131): drawer, DVA of the page, bytes the leaf maps, the leaf, and whether it is pinned (R143). -/
structure CachedLeaf where
  drawer : Nat
  base : Nat
  size : Nat
  leaf : Nat
  pinned : Bool
  viaRegions : List Nat
  deriving DecidableEq, Repr

/-- A cached pointer entry: drawer, level, DVA base of the span it covers, and the entry. -/
structure CachedPointer where
  drawer : Nat
  level : Nat
  base : Nat
  entry : Nat
  viaRegions : List Nat
  deriving DecidableEq, Repr

/-- A run of bytes that a buffer resolves to: device memory, a PCIe port's memory, or another module. -/
inductive Piece where
  | dev (off len : Nat)
  | bus (port addr len : Nat)
  | remote (dpa len : Nat)
  deriving DecidableEq, Repr

/-- A page move in progress (R141): the page's DVA range, which meets "page being moved". -/
structure PageMove where
  drawer : Nat
  base : Nat
  size : Nat
  /-- The leaf read in step 1 and where it lies. -/
  leaf : Nat
  port : Nat
  addr : Nat
  /-- The bytes that the page translates to, by a held window's map or by that leaf, and its W bit (R138). -/
  src : List Piece
  w : Bool
  /-- An EVICT's region and offset, or a PREFETCH's destination DPA; and the bytes that they name. -/
  evict : Bool
  region : Nat
  dest : Nat
  dst : Piece
  /-- Ring index of the entry that moves it. -/
  entry : Nat
  /-- Those beside ring entries that have been counted as waiting for it (R148): benches by number, the migration of drawer d as 512 + d,
  telemetry stream k as 640 + k. -/
  waiters : List Nat
  deriving DecidableEq, Repr

/-- A leaf that an access took from the cache after the driver had changed it (R135): drawer, DVA range, and the bytes it maps, behind a
PCIe port or, at port 2, in device memory. -/
structure StaleLeaf where
  drawer : Nat
  base : Nat
  size : Nat
  port : Nat
  addr : Nat
  deriving DecidableEq, Repr

/-- A posted write that waits for P0 (R362): the function it is made for, its address and its bytes, and the vector where it is an MSI-X
message. -/
structure HeldWrite where
  fid : Nat
  addr : Nat
  bytes : List Byte
  vector : Option Nat
  deriving DecidableEq, Repr

/-- Memory and translation state. -/
structure MemState where
  /-- Device memory by local offset (R122). -/
  dev : Ram
  /-- Host memory as P0 reaches it, by bus address. -/
  host : Ram
  /-- Peer memory as P1 reaches it, by bus address. -/
  peer : Ram
  /-- The chunk owner map: VALID in bit 7, drawer in bits [6:0], by module chunk number (R124). -/
  owner : Sparse Nat
  /-- Held windows, by drawer, oldest first (R137). -/
  windows : Sparse (List Window)
  /-- The leaf cache, most recently used first (R131). -/
  leafCache : List CachedLeaf
  /-- The walk cache, most recently used first (R131). -/
  walkCache : List CachedPointer
  /-- Page moves in progress (R141). -/
  moves : List PageMove
  /-- Leaves used after their change and not yet invalidated (R135). -/
  stale : List StaleLeaf
  /-- Leaves that walks have read since the last INVALIDATE of their pages, by which a change shows (R135). -/
  known : List CachedLeaf
  /-- The region table (R279). -/
  regions : Sparse Region
  /-- Patrol scrub's next unit, as a count of 64-byte units of populated memory (R147). -/
  scrubPos : Nat
  /-- Chunks that a RECYCLE could not unassign yet, because a page move into or out of them must finish first (R360, R368, R373). -/
  draining : List Nat
  /-- Posted writes bound for P0 that wait for DL_Up (R362), oldest first. -/
  p0Held : List HeldWrite
  /-- Granules of 64 KiB written since LOG_START (R380), by granule of the populated memory in module chunk order. -/
  dirty : Sparse Nat
  deriving DecidableEq, Repr

def MemState.reset : MemState :=
  { dev := Ram.empty, host := Ram.empty, peer := Ram.empty, owner := [], windows := [], leafCache := [], walkCache := [],
    moves := [], stale := [], known := [], regions := [], scrubPos := 0, draining := [], p0Held := [], dirty := [] }

end Sys2Proof.Machine
end

