-- ==== Sys2Proof/Machine/Memory.lean ====
section
/-! DEFINITION. Machine/Memory.lean: the operations over one byte memory (read, write, zero-fill and the undefined fill), the places of
device memory (R122, R123) and the fields of table entries (R127 to R130). -/

namespace Sys2Proof.Machine

/-- One byte. -/
def Ram.read (r : Ram) (a : Nat) : Byte := Sparse.get (Ram.unlisted r.losses) r.cells a

/-- Write one byte. Writing a byte writes its parity (R146), so a bad byte is repaired. -/
def Ram.write (r : Ram) (a : Nat) (v : Byte) : Ram :=
  { r with cells := Sparse.set (Ram.unlisted r.losses) r.cells a v, bad := r.bad.filter (· != a) }

/-- n bytes in ascending address. -/
def Ram.readBytes (r : Ram) (a : Nat) : Nat → List Byte
  | 0 => []
  | n + 1 => r.read a :: Ram.readBytes r (a + 1) n

/-- Write bytes in ascending address. -/
def Ram.writeBytes (r : Ram) (a : Nat) : List Byte → Ram
  | [] => r
  | b :: bs => Ram.writeBytes (r.write a b) (a + 1) bs

/-- A byte of [a, a + n) has bad parity (R146). -/
def Ram.hasBad (r : Ram) (a n : Nat) : Bool := r.bad.any fun x => a ≤ x && x < a + n

/-- Mark a byte's parity bad. -/
def Ram.spoil (r : Ram) (a : Nat) : Ram := { r with bad := (r.bad.filter (· != a)) ++ [a] }

/-- Zero-fill of [a, a + n), with correct parity (R126). While nothing has been lost, a zero byte is an unlisted one. -/
def Ram.zeroFill (r : Ram) (a n : Nat) : Ram :=
  if r.losses = 0 then
    { r with cells := r.cells.filter (fun c => !(a ≤ c.1 && c.1 < a + n)), bad := r.bad.filter fun x => !(a ≤ x && x < a + n) }
  else r.writeBytes a (List.replicate n 0)

/-- Fill [a, a + n) with undefined bytes: the free bytes numbered from `k`. -/
def Ram.scramble (r : Ram) (a n k : Nat) : Ram := r.writeBytes a ((List.range n).map fun i => Config.freeByte (k + i))

/-- The whole contents are lost. -/
def Ram.lose (r : Ram) : Ram := { cells := [], bad := [], losses := r.losses + 1 }

/-- A little-endian number of n bytes (R6). -/
def Ram.le (r : Ram) (a n : Nat) : Nat := ofLe (r.readBytes a n)

/-- The canonical form of a byte memory. -/
def Ram.wf (r : Ram) : Bool := Sparse.wf (Ram.unlisted r.losses) r.cells

/-- The stores that an outside agent has made, applied in order. -/
def Ram.apply (r : Ram) : List Host.Cell → Ram
  | [] => r
  | (a, v) :: cs => Ram.apply (r.write a v) cs

/-! Places and table entries -/

/-- A local offset is populated (R122). -/
def populated (off : Nat) : Bool := off < 2 ^ 39 && off % 2 ^ 36 < 48 * 2 ^ 30

/-- The stack of a local offset. -/
def stackOf (off : Nat) : Nat := off / 2 ^ 36 % 8

/-- The module chunk number of a populated local offset (R122). -/
def chunkOf (off : Nat) : Nat := stackOf off * 24576 + off % 2 ^ 36 / 2 ^ 21

/-- A chunk reserved for the device (R123). -/
def reservedChunk (c : Nat) : Bool := 24544 ≤ c % 24576

/-- The local offset of a chunk's first byte. -/
def chunkBase (c : Nat) : Nat := c / 24576 * 2 ^ 36 + c % 24576 * 2 ^ 21

/-- The module field and local offset of a DPA. -/
def dpaModule (a : Nat) : Nat := a / 2 ^ 44 % 256
def dpaOffset (a : Nat) : Nat := a % 2 ^ 44

/-- Fields of table entries (R129). -/
def pteValid (w : Nat) : Bool := bit w 0
def pteLeaf (w : Nat) : Bool := bit w 1
def pteHost (w : Nat) : Bool := bit w 2
def pteW (w : Nat) : Bool := bit w 3
def pteDpa (w : Nat) : Nat := bits w 51 16 * 65536
def pteRegion (w : Nat) : Nat := bits w 63 40
def ptePage (w : Nat) : Nat := bits w 39 16
def pteTable (w : Nat) : Nat := bits w 39 8 * 256

/-- Bytes that an entry of a level spans: level 0 64 KiB, 1 2 MiB, 2 1 GiB, 3 512 GiB (R127). -/
def levelSpan (lv : Nat) : Nat := if lv = 0 then 2 ^ 16 else if lv = 1 then 2 ^ 21 else if lv = 2 then 2 ^ 30 else 2 ^ 39

/-- The index of a DVA in a table of a level, and the table's bytes (R127). -/
def levelIndex (lv dva : Nat) : Nat := dva / levelSpan lv % (if lv = 0 then 32 else 512)
def tableBytes (lv : Nat) : Nat := if lv = 0 then 256 else 4096

/-- A valid entry is malformed (R130). -/
def pteMalformed (here lv w : Nat) : Bool :=
  if pteLeaf w then
    lv == 3 || bits w 15 4 != 0 ||
    (if pteHost w then
      pteRegion w ≥ 262144 || (lv == 1 && ptePage w % 32 != 0) || (lv == 2 && ptePage w % 16384 != 0)
    else
      bits w 63 52 != 0 || (lv == 1 && pteDpa w % 2 ^ 21 != 0) || (lv == 2 && pteDpa w % 2 ^ 30 != 0) ||
      (dpaModule (pteDpa w) == here && !populated (dpaOffset (pteDpa w))))
  else
    lv == 0 || bits w 7 2 != 0 || pteRegion w ≥ 262144 || (lv ≥ 2 && pteTable w % 4096 != 0)

end Sys2Proof.Machine
end

