-- ==== Sys2Proof/Machine/Catalogue.lean ====
section
/-! DEFINITION. Machine/Catalogue.lean: "Ledger catalogue" (R453) with the entry of every object: its type, access code,
whether it is kept in flash, and its numeric default, in subindex order from 0x01, as the chapters' tables give them. -/

namespace Sys2Proof.Machine

/-- The types of R11's table. Sizes are in bytes. -/
inductive ObjType where
  | bool
  | unsigned (n : Nat)
  | int (n : Nat)
  | octets (n : Nat)
  | text (n : Nat)
  | domain
  deriving DecidableEq, Repr

/-- The access codes. -/
inductive Access where
  | ro
  | rw
  | wo
  | rws
  | rc
  deriving DecidableEq, Repr

/-- One object of a record: type, access, flash, default. -/
structure ObjInfo where
  ty : ObjType
  access : Access
  flash : Bool
  dflt : Nat
  deriving DecidableEq, Repr

/-- How an instance is named (R432). -/
inductive Scope where
  | device
  | drawer
  | qp
  deriving DecidableEq, Repr

/-- What the Tenant column of R453 grants. -/
inductive TenantReach where
  | none
  | read
  | readOwn
  | writeOwn
  | share
  | qpOwn
  | drawerField
  | tableOwn
  | benchOwn
  | functionOwn
  deriving DecidableEq, Repr

/-- The records of R453. -/
inductive RecordKind where
  | identity
  | versions
  | capacities
  | factoryMacs
  | service
  | resets
  | clocks
  | power
  | rails
  | thermal
  | scorecard
  | source
  | drawer
  | chunkCommand
  | benchOwners
  | translation
  | hubPegBlocks
  | share
  | migration
  | pcieLink
  | msix
  | prefetch
  | port
  | classMap
  | addresses
  | buckets
  | m0
  | wake
  | time
  | gates
  | hrt
  | hrtAccess
  | congestion
  | qp
  | fabric
  | routes
  | link
  | membership
  | acceptWindow
  | table
  | stack
  | scrub
  | cipher
  | kek
  | keys
  | firmware
  | attestation
  | sa
  | cluster
  | timeService
  | rawQueue
  | storage
  | telemetry
  | jorol
  | heartbeat
  | credential
  | ethCounters
  | hrtCounters
  | accessCounters
  | tableCounters
  | collCounters
  | deronePortCounters
  | deroneCounters
  | memoryCounters
  | translationCounters
  | benchCounters
  | functionCounters
  | clusterCounters
  | cipherCounters
  | ledgerCounters
  | powerCounters
  | inject
  | countermeasures
  deriving DecidableEq, Repr

/-- A record of the map: base index, how many there are, and how far apart. -/
structure RecordInfo where
  kind : RecordKind
  base : Nat
  count : Nat
  stride : Nat
  scope : Scope
  tenant : TenantReach
  objs : List ObjInfo
  deriving DecidableEq, Repr

def objsIdentity : List ObjInfo :=
  [⟨.unsigned 2, .ro, true, 0xB0CA⟩ /- VENDOR_ID -/,
   ⟨.unsigned 2, .ro, true, 0x0480⟩ /- DEVICE_ID -/,
   ⟨.text 16, .ro, true, 0⟩ /- PART_NUMBER -/,
   ⟨.unsigned 1, .ro, true, 0⟩ /- POWER_CLASS -/,
   ⟨.text 4, .ro, true, 0⟩ /- STEPPING -/,
   ⟨.octets 16, .ro, true, 0⟩ /- SERIAL -/]

def objsVersions : List ObjInfo :=
  [⟨.unsigned 4, .ro, false, 0⟩ /- ROM_VERSION -/,
   ⟨.unsigned 4, .ro, false, 0⟩ /- HUB_FIRMWARE -/,
   ⟨.unsigned 4, .ro, false, 0⟩ /- CLUSTER_FIRMWARE -/,
   ⟨.unsigned 4, .ro, false, 0⟩ /- MICROCODE -/,
   ⟨.unsigned 4, .ro, false, 0⟩ /- SERDES_FIRMWARE -/,
   ⟨.text 32, .ro, false, 0⟩ /- RELEASE -/]

def objsCapacities : List ObjInfo :=
  [⟨.unsigned 1, .ro, false, 8⟩ /- STACKS -/,
   ⟨.unsigned 2, .ro, false, 512⟩ /- BENCHES -/,
   ⟨.unsigned 8, .ro, false, 412316860416⟩ /- DEVICE_MEMORY -/,
   ⟨.unsigned 4, .ro, false, 196352⟩ /- DRAWER_CHUNKS -/,
   ⟨.unsigned 4, .ro, false, 65536⟩ /- QP_CONTEXTS -/,
   ⟨.unsigned 4, .ro, false, 262144⟩ /- REGIONS -/,
   ⟨.unsigned 1, .ro, false, 64⟩ /- TABLES -/,
   ⟨.unsigned 2, .ro, false, 4096⟩ /- KEY_SLOTS -/,
   ⟨.unsigned 2, .ro, false, 4096⟩ /- HUB_PEGS -/,
   ⟨.unsigned 1, .ro, false, 128⟩ /- FUNCTIONS -/]

def objsFactoryMacs : List ObjInfo :=
  [⟨.octets 48, .ro, true, 0⟩ /- PORT_MACS -/,
   ⟨.octets 6, .ro, true, 0⟩ /- M0_MAC -/]

def objsService : List ObjInfo :=
  [⟨.unsigned 1, .ro, false, 0⟩ /- SERVICE_LEVEL -/,
   ⟨.bool, .ro, false, 0⟩ /- TESTMODE -/,
   ⟨.unsigned 8, .ro, false, 0⟩ /- LEVEL_TIME -/]

def objsResets : List ObjInfo :=
  [⟨.unsigned 1, .wo, false, 0⟩ /- RESET_COMMAND -/,
   ⟨.unsigned 1, .ro, false, 0⟩ /- LAST_RESET_CAUSE -/,
   ⟨.unsigned 8, .ro, true, 0⟩ /- RESET_EPOCH -/]

def objsClocks : List ObjInfo :=
  [⟨.bool, .ro, false, 0⟩ /- ROOT_LOCKED -/,
   ⟨.octets 16, .ro, false, 0⟩ /- BENCH_CLOCK -/]

def objsPower : List ObjInfo :=
  [⟨.unsigned 4, .rw, true, 0⟩ /- POWER_LIMIT -/,
   ⟨.unsigned 4, .ro, false, 0⟩ /- POWER_NOW -/,
   ⟨.octets 8, .ro, false, 0⟩ /- SKIP -/]

def objsRails : List ObjInfo :=
  List.replicate 8 ⟨.unsigned 4, .ro, false, 0⟩ /- RAIL_VOLTAGE -/ ++
  List.replicate 8 ⟨.unsigned 4, .ro, false, 0⟩ /- RAIL_CURRENT -/

def objsThermal : List ObjInfo :=
  [⟨.int 4, .ro, false, 0⟩ /- HUB_TEMPERATURE -/] ++
  List.replicate 8 ⟨.int 4, .ro, false, 0⟩ /- STACK_TEMPERATURE -/ ++
  [⟨.int 4, .ro, false, 105000⟩ /- HUB_LIMIT -/,
   ⟨.int 4, .ro, false, 95000⟩ /- STACK_LIMIT -/]

def objsScorecard : List ObjInfo :=
  [⟨.unsigned 8, .ro, false, 0⟩ /- SCORECARD -/,
   ⟨.unsigned 8, .wo, false, 0⟩ /- SCORECARD_CLEAR -/,
   ⟨.unsigned 8, .ro, false, 0⟩ /- SEVERE -/,
   ⟨.bool, .ro, false, 0⟩ /- FAULT_N -/]

def objsSource : List ObjInfo :=
  [⟨.unsigned 1, .rw, true, 0⟩ /- THRESHOLD -/,
   ⟨.unsigned 4, .rw, true, 0⟩ /- WINDOW -/,
   ⟨.unsigned 1, .rw, true, 0⟩ /- ACTION -/,
   ⟨.unsigned 1, .ro, false, 0⟩ /- WINDOW_EVENTS -/,
   ⟨.unsigned 8, .ro, false, 0⟩ /- EVENTS -/,
   ⟨.unsigned 8, .ro, false, 0⟩ /- MERGES -/,
   ⟨.unsigned 8, .ro, false, 0⟩ /- LAST_EVENT -/]

def objsDrawer : List ObjInfo :=
  [⟨.unsigned 1, .ro, false, 0⟩ /- STATE -/,
   ⟨.unsigned 1, .wo, false, 0⟩ /- COMMAND -/,
   ⟨.unsigned 4, .rw, false, 0⟩ /- KITTY_GUARANTEE -/,
   ⟨.unsigned 4, .rw, false, 0⟩ /- QP_BASE -/,
   ⟨.unsigned 4, .rw, false, 0⟩ /- QP_COUNT -/,
   ⟨.unsigned 4, .rw, false, 0⟩ /- REGION_QUOTA -/,
   ⟨.unsigned 1, .rw, false, 0⟩ /- TABLE_BASE -/,
   ⟨.unsigned 1, .rw, false, 0⟩ /- TABLE_COUNT -/,
   ⟨.unsigned 2, .rw, false, 0⟩ /- KEY_SLOTS -/,
   ⟨.octets 8, .ro, false, 0⟩ /- BENCH_COUNT -/,
   ⟨.octets 32, .ro, false, 0⟩ /- CHUNK_COUNT -/,
   ⟨.unsigned 4, .ro, false, 0⟩ /- KITTY_HELD -/]

def objsChunkCommand : List ObjInfo :=
  [⟨.unsigned 4, .rw, false, 0⟩ /- CHUNK_FIRST -/,
   ⟨.unsigned 4, .rw, false, 1⟩ /- CHUNK_COUNT -/,
   ⟨.unsigned 1, .rw, false, 0x00⟩ /- CHUNK_TARGET -/,
   ⟨.unsigned 1, .wo, false, 0⟩ /- CHUNK_GO -/,
   ⟨.unsigned 1, .ro, false, 0⟩ /- CHUNK_STATUS -/,
   ⟨.unsigned 4, .ro, false, 0⟩ /- CHUNK_DONE -/,
   ⟨.unsigned 1, .ro, false, 0⟩ /- CHUNK_FAIL -/,
   ⟨.domain, .ro, false, 0⟩ /- CHUNK_MAP -/]

def objsBenchOwners : List ObjInfo :=
  [⟨.octets 512, .rw, false, 0⟩ /- BENCH_OWNER -/,
   ⟨.octets 64, .ro, false, 0⟩ /- BENCH_PENDING -/]

def objsTranslation : List ObjInfo :=
  [⟨.bool, .rws, false, 0⟩ /- TRANSLATION_ON -/,
   ⟨.unsigned 4, .rws, false, 0⟩ /- ROOT_REGION -/,
   ⟨.unsigned 8, .rws, false, 0⟩ /- ROOT_OFFSET -/,
   ⟨.unsigned 1, .ro, false, 0⟩ /- WINDOWS_HELD -/]

def objsHubPegBlocks : List ObjInfo :=
  List.replicate 64 ⟨.unsigned 1, .rws, false, 0x00⟩ /- HUB_PEG_BLOCK -/

def objsShare : List ObjInfo :=
  [⟨.unsigned 4, .rw, false, 0⟩ /- REGION -/,
   ⟨.unsigned 1, .rw, false, 0⟩ /- FROM_DRAWER -/,
   ⟨.unsigned 1, .rw, false, 0⟩ /- TO_DRAWER -/,
   ⟨.bool, .rw, false, 0⟩ /- CONSENT_FROM -/,
   ⟨.bool, .rw, false, 0⟩ /- CONSENT_TO -/,
   ⟨.bool, .ro, false, 0⟩ /- ACTIVE -/]

def objsMigration : List ObjInfo :=
  [⟨.unsigned 1, .wo, false, 0⟩ /- MIG_COMMAND -/,
   ⟨.unsigned 1, .ro, false, 0⟩ /- MIG_STATUS -/,
   ⟨.unsigned 1, .ro, false, 0x00⟩ /- MIG_RESULT -/,
   ⟨.unsigned 8, .rw, false, 0⟩ /- STAGING -/,
   ⟨.unsigned 1, .rw, false, 0⟩ /- SELECT -/,
   ⟨.unsigned 8, .rw, false, 0⟩ /- LOG_BUFFER -/,
   ⟨.unsigned 8, .rw, false, 0⟩ /- LOG_BUS_BASE -/,
   ⟨.unsigned 8, .rw, false, 2097152⟩ /- LOG_BUS_LENGTH -/,
   ⟨.unsigned 1, .ro, false, 0⟩ /- LOG_ACTIVE -/,
   ⟨.bool, .rc, false, 0⟩ /- LOG_OVERFLOW -/,
   ⟨.domain, .rw, false, 0⟩ /- STATE -/,
   ⟨.unsigned 8, .ro, false, 0⟩ /- BYTES_MOVED -/]

def objsPcieLink : List ObjInfo :=
  [⟨.unsigned 1, .ro, false, 0⟩ /- LINK_STATE -/,
   ⟨.unsigned 1, .ro, false, 0⟩ /- LINK_SPEED -/,
   ⟨.unsigned 1, .ro, false, 0⟩ /- LINK_WIDTH -/,
   ⟨.bool, .ro, false, 0⟩ /- FLIT_MODE -/]

def objsMsix : List ObjInfo :=
  [⟨.octets 128, .rw, true, 0⟩ /- MSIX_VECTORS -/]

def objsPrefetch : List ObjInfo :=
  [⟨.unsigned 1, .ro, false, 8⟩ /- PREFETCH_DEPTH -/,
   ⟨.bool, .rw, true, 1⟩ /- SPEC_PREFETCH -/]

def objsPort : List ObjInfo :=
  [⟨.bool, .rw, true, 1⟩ /- LINK_ENABLE -/,
   ⟨.unsigned 1, .rws, true, 0⟩ /- MODE -/,
   ⟨.unsigned 1, .rws, true, 0⟩ /- MEDIA -/,
   ⟨.octets 4, .ro, false, 0⟩ /- LINK_STATE -/,
   ⟨.octets 6, .rw, true, 0⟩ /- MAC_BASE -/,
   ⟨.unsigned 2, .rw, true, 9216⟩ /- MAX_FRAME -/,
   ⟨.unsigned 2, .rw, true, 0x88A8⟩ /- OUTER_TPID -/,
   ⟨.unsigned 4, .rws, true, 4096⟩ /- INGRESS_CELLS -/,
   ⟨.unsigned 1, .rw, true, 7⟩ /- PTP_CLASS -/,
   ⟨.unsigned 4, .rw, true, 1000000⟩ /- DEGRADE_LEVEL -/,
   ⟨.int 4, .rw, true, 0⟩ /- TS_TX_OFFSET -/,
   ⟨.int 4, .rw, true, 0⟩ /- TS_RX_OFFSET -/]

def objsClassMap : List ObjInfo :=
  [⟨.unsigned 1, .rw, true, 1⟩ /- CLASS_SOURCE -/,
   ⟨.unsigned 1, .rw, true, 0⟩ /- DEFAULT_CLASS -/,
   ⟨.octets 8, .rw, true, 0⟩ /- PCP_MAP -/,
   ⟨.octets 64, .rw, true, 0⟩ /- DSCP_MAP -/,
   ⟨.unsigned 1, .rw, true, 0x00⟩ /- ACCEPT_ERRORED -/,
   ⟨.unsigned 1, .rw, true, 0x00⟩ /- PFC_ENABLE -/,
   ⟨.unsigned 4, .rw, true, 3072⟩ /- PFC_XOFF -/,
   ⟨.unsigned 4, .rw, true, 2048⟩ /- PFC_XON -/]

def objsAddresses : List ObjInfo :=
  List.replicate 16 ⟨.octets 20, .rw, true, 0⟩ /- ADDRESS -/

def objsBuckets : List ObjInfo :=
  List.replicate 8 ⟨.unsigned 4, .rw, true, 0⟩ /- SHAPER_RATE -/ ++
  List.replicate 8 ⟨.unsigned 4, .rw, true, 16384⟩ /- SHAPER_BURST -/ ++
  List.replicate 8 ⟨.unsigned 4, .rw, true, 0⟩ /- POLICER_RATE -/ ++
  List.replicate 8 ⟨.unsigned 4, .rw, true, 65536⟩ /- POLICER_BURST -/

def objsM0 : List ObjInfo :=
  [⟨.bool, .rw, true, 1⟩ /- LINK_ENABLE -/,
   ⟨.unsigned 1, .rws, true, 1⟩ /- MODE -/,
   ⟨.unsigned 1, .ro, false, 0⟩ /- LINK_STATE -/,
   ⟨.octets 6, .rw, true, 0⟩ /- MAC -/,
   ⟨.octets 4, .rw, true, 0⟩ /- IPV4 -/,
   ⟨.octets 16, .rw, true, 0⟩ /- IPV6 -/,
   ⟨.unsigned 2, .rw, true, 0⟩ /- VLAN -/,
   ⟨.int 4, .rw, true, 0⟩ /- TS_TX_OFFSET -/,
   ⟨.int 4, .rw, true, 0⟩ /- TS_RX_OFFSET -/]

def objsWake : List ObjInfo :=
  [⟨.unsigned 2, .rw, true, 0x0100⟩ /- WAKE_ENABLE -/] ++
  List.replicate 8 ⟨.octets 144, .rw, true, 0⟩ /- WAKE_PATTERN -/ ++
  [⟨.unsigned 1, .rc, false, 0⟩ /- WAKE_REASON -/]

def objsTime : List ObjInfo :=
  [⟨.unsigned 8, .ro, false, 0⟩ /- DEVICE_TIME -/,
   ⟨.int 8, .wo, false, 0⟩ /- TIME_STEP -/,
   ⟨.int 4, .rw, false, 0⟩ /- FREQ_ADJ -/,
   ⟨.bool, .rw, true, 0⟩ /- PPS_OUT_ENABLE -/,
   ⟨.bool, .rw, true, 0⟩ /- PPS_IN_ENABLE -/,
   ⟨.unsigned 8, .ro, false, 0⟩ /- PPS_IN_TIME -/]

def objsGates : List ObjInfo :=
  [⟨.bool, .rw, true, 0⟩ /- GATE_ENABLE -/,
   ⟨.unsigned 8, .rw, true, 0⟩ /- ADMIN_BASE_TIME -/,
   ⟨.unsigned 4, .rw, true, 100000⟩ /- ADMIN_CYCLE -/,
   ⟨.unsigned 2, .rw, true, 1⟩ /- ADMIN_LENGTH -/,
   ⟨.domain, .rw, true, 0⟩ /- ADMIN_LIST -/,
   ⟨.unsigned 1, .wo, false, 0⟩ /- CONFIG_CHANGE -/,
   ⟨.bool, .ro, false, 0⟩ /- CONFIG_PENDING -/,
   ⟨.unsigned 8, .ro, false, 0⟩ /- CONFIG_CHANGE_TIME -/,
   ⟨.unsigned 8, .ro, false, 0⟩ /- OPER_BASE_TIME -/,
   ⟨.unsigned 4, .ro, false, 100000⟩ /- OPER_CYCLE -/,
   ⟨.unsigned 2, .ro, false, 1⟩ /- OPER_LENGTH -/,
   ⟨.domain, .ro, false, 0⟩ /- OPER_LIST -/]

def objsHrt : List ObjInfo :=
  [⟨.unsigned 2, .rw, true, 52100⟩ /- UDP_PORT -/,
   ⟨.unsigned 4, .ro, false, 0⟩ /- QPS_AVAILABLE -/,
   ⟨.unsigned 4, .ro, false, 0⟩ /- QPS_IN_USE -/]

def objsHrtAccess : List ObjInfo :=
  [⟨.unsigned 4, .rw, true, 50⟩ /- RETRY_AFTER -/,
   ⟨.unsigned 4, .rw, true, 1000⟩ /- PAGE_WAIT_LIMIT -/,
   ⟨.unsigned 4, .ro, false, 0⟩ /- REGIONS_IN_USE -/]

def objsCongestion : List ObjInfo :=
  [⟨.bool, .rw, true, 1⟩ /- CC_ENABLE -/,
   ⟨.unsigned 1, .rw, true, 4⟩ /- STEP_ECN -/,
   ⟨.unsigned 1, .rw, true, 12⟩ /- STEP_MAX -/,
   ⟨.unsigned 2, .rw, true, 40⟩ /- HOLD_INTERVAL -/,
   ⟨.unsigned 2, .rw, true, 200⟩ /- PRESSURE_WINDOW -/,
   ⟨.unsigned 2, .rw, true, 30⟩ /- CLIMB_INTERVAL -/,
   ⟨.unsigned 1, .rw, true, 6⟩ /- CLIMB_RUN -/,
   ⟨.unsigned 1, .rw, true, 8⟩ /- STEP_LOSS -/,
   ⟨.unsigned 4, .rw, true, 100⟩ /- RATE_MIN -/,
   ⟨.unsigned 4, .rw, true, 1024⟩ /- MARK_MIN -/,
   ⟨.unsigned 4, .rw, true, 4096⟩ /- MARK_MAX -/,
   ⟨.unsigned 1, .rw, true, 32⟩ /- MARK_PMAX -/]

def objsQp : List ObjInfo :=
  [⟨.unsigned 1, .ro, false, 0⟩ /- QP_STATE -/,
   ⟨.unsigned 1, .ro, false, 0x00⟩ /- OWNER -/,
   ⟨.unsigned 1, .ro, false, 0⟩ /- INCARNATION -/,
   ⟨.unsigned 4, .ro, false, 0⟩ /- NEXT_PSN -/,
   ⟨.unsigned 4, .ro, false, 0⟩ /- UNA -/,
   ⟨.unsigned 4, .ro, false, 0⟩ /- EPSN -/,
   ⟨.unsigned 1, .ro, false, 0⟩ /- RETRY_COUNT -/,
   ⟨.unsigned 4, .ro, false, 0⟩ /- TIMEOUT -/,
   ⟨.unsigned 4, .ro, false, 0⟩ /- RATE_CURRENT -/,
   ⟨.unsigned 1, .ro, false, 0⟩ /- RUNG -/,
   ⟨.unsigned 1, .ro, false, 0⟩ /- PRESSURE -/,
   ⟨.unsigned 1, .ro, false, 0⟩ /- STALLED -/]

def objsFabric : List ObjInfo :=
  [⟨.unsigned 1, .rw, true, 0x00⟩ /- MODULE_ID -/,
   ⟨.unsigned 4, .ro, false, 0⟩ /- ROUTE_EPOCH -/,
   ⟨.unsigned 1, .ro, false, 0⟩ /- ROUTE_STATE -/,
   ⟨.unsigned 1, .wo, false, 0⟩ /- ROUTE_COMMAND -/,
   ⟨.unsigned 4, .rw, true, 1000⟩ /- STALL_LIMIT -/,
   ⟨.unsigned 4, .rw, true, 4000⟩ /- ACK_TIMEOUT -/]

def objsRoutes : List ObjInfo :=
  [⟨.octets 256, .ro, false, 0⟩ /- ROUTE_ACTIVE -/,
   ⟨.octets 256, .rw, true, 0⟩ /- ROUTE_STAGED -/,
   ⟨.unsigned 4, .rw, true, 0⟩ /- STAGED_EPOCH -/]

def objsLink : List ObjInfo :=
  [⟨.bool, .rw, true, 1⟩ /- LINK_ENABLE -/,
   ⟨.unsigned 1, .ro, false, 0⟩ /- LINK_STATE -/,
   ⟨.unsigned 1, .ro, false, 0⟩ /- NEIGHBOUR_MODULE -/,
   ⟨.unsigned 1, .ro, false, 0⟩ /- NEIGHBOUR_PORT -/,
   ⟨.unsigned 4, .rw, true, 1000000⟩ /- DEGRADE_LEVEL -/]

def objsMembership : List ObjInfo :=
  [⟨.unsigned 2, .rw, false, 0⟩ /- MEMBER_COUNT -/,
   ⟨.octets 256, .rw, false, 0⟩ /- MEMBERS -/]

def objsAcceptWindow : List ObjInfo :=
  [⟨.bool, .rw, false, 0⟩ /- VALID -/,
   ⟨.unsigned 1, .rw, false, 0x00⟩ /- DRAWER -/,
   ⟨.unsigned 1, .rw, false, 0x00⟩ /- SOURCE_MODULE -/,
   ⟨.unsigned 1, .rw, false, 0x00⟩ /- SOURCE_SCOPE -/,
   ⟨.unsigned 1, .rw, false, 0xFF⟩ /- SOURCE_DRAWER -/,
   ⟨.unsigned 8, .rw, false, 0⟩ /- BASE -/,
   ⟨.unsigned 8, .rw, false, 0⟩ /- LENGTH -/,
   ⟨.unsigned 1, .rw, false, 0x00⟩ /- RIGHTS -/]

def objsTable : List ObjInfo :=
  [⟨.unsigned 1, .ro, false, 0⟩ /- STATE -/,
   ⟨.unsigned 1, .ro, false, 0x00⟩ /- OWNER -/,
   ⟨.unsigned 4, .ro, false, 0⟩ /- TABLE_KEY -/,
   ⟨.unsigned 2, .ro, false, 0⟩ /- MEMBER_COUNT -/,
   ⟨.unsigned 2, .ro, false, 0⟩ /- LOCAL_RANK -/,
   ⟨.unsigned 2, .ro, false, 0⟩ /- GROUP_COUNT -/,
   ⟨.unsigned 4, .ro, false, 0⟩ /- HAND_SEQ -/,
   ⟨.unsigned 4, .ro, false, 0⟩ /- CELLS_RESERVED -/,
   ⟨.unsigned 1, .ro, false, 0x00⟩ /- LAST_STATUS -/,
   ⟨.unsigned 2, .ro, false, 0xFFFF⟩ /- LAST_FAILED_RANK -/]

def objsStack : List ObjInfo :=
  [⟨.unsigned 1, .ro, false, 0⟩ /- STACK_STATE -/,
   ⟨.unsigned 2, .ro, false, 3900⟩ /- REFRESH_INTERVAL -/]

def objsScrub : List ObjInfo :=
  [⟨.unsigned 2, .rw, true, 24⟩ /- SCRUB_PERIOD -/,
   ⟨.unsigned 4, .ro, false, 0⟩ /- SCRUB_PASSES -/,
   ⟨.unsigned 8, .ro, false, 0⟩ /- LAST_SCRUB_ERROR_DPA -/]

def objsCipher : List ObjInfo :=
  [⟨.unsigned 1, .ro, false, 0⟩ /- CIPHER_MODE -/,
   ⟨.octets 97, .ro, false, 0⟩ /- EXCHANGE_PUBLIC -/,
   ⟨.octets 97, .ro, false, 0⟩ /- IDENTITY_PUBLIC -/]

def objsKek : List ObjInfo :=
  [⟨.octets 137, .wo, false, 0⟩ /- KEK_LOAD -/,
   ⟨.unsigned 1, .ro, false, 0⟩ /- KEK_STATE -/,
   ⟨.octets 8, .ro, false, 0⟩ /- KEK_ID -/]

def objsKeys : List ObjInfo :=
  [⟨.octets 92, .wo, false, 0⟩ /- KEY_WRITE -/,
   ⟨.unsigned 2, .wo, false, 0⟩ /- KEY_CLEAR -/,
   ⟨.domain, .ro, false, 0⟩ /- KEY_STATE -/,
   ⟨.domain, .ro, false, 0⟩ /- KEY_IDS -/]

def objsFirmware : List ObjInfo :=
  [⟨.unsigned 1, .rw, true, 0⟩ /- BOOT_BANK -/,
   ⟨.unsigned 1, .ro, false, 0⟩ /- RUNNING_BANK -/,
   ⟨.domain, .wo, false, 0⟩ /- FW_IMAGE -/,
   ⟨.unsigned 1, .ro, false, 0⟩ /- FW_STATUS -/,
   ⟨.unsigned 1, .ro, false, 0⟩ /- FUSED_SVN -/,
   ⟨.unsigned 1, .ro, false, 0⟩ /- RUNNING_SVN -/,
   ⟨.unsigned 1, .wo, false, 0⟩ /- SVN_COMMIT -/,
   ⟨.unsigned 1, .ro, false, 0⟩ /- SVN_COMMIT_STATUS -/]

def objsAttestation : List ObjInfo :=
  [⟨.octets 32, .rw, false, 0⟩ /- CHALLENGE -/,
   ⟨.domain, .ro, false, 0⟩ /- REPORT -/,
   ⟨.domain, .ro, false, 0⟩ /- IDENTITY_CHAIN -/]

def objsSa : List ObjInfo :=
  [⟨.unsigned 2, .rws, false, 0xFFFF⟩ /- TX_SLOT -/,
   ⟨.unsigned 2, .rws, false, 0xFFFF⟩ /- RX_SLOT -/,
   ⟨.unsigned 1, .ro, false, 0⟩ /- STATE -/,
   ⟨.unsigned 4, .ro, false, 0xFFFFFFFF⟩ /- BOUND_QPN -/,
   ⟨.unsigned 8, .ro, false, 0⟩ /- SYNTH_COUNT -/]

def objsCluster : List ObjInfo :=
  [⟨.unsigned 1, .ro, false, 0⟩ /- CLUSTER_STATE -/,
   ⟨.unsigned 4, .ro, false, 0⟩ /- FIRMWARE_VERSION -/,
   ⟨.unsigned 1, .ro, false, 0x00⟩ /- SERVICES -/,
   ⟨.unsigned 1, .ro, false, 0⟩ /- CORES_ONLINE -/]

def objsTimeService : List ObjInfo :=
  [⟨.unsigned 1, .rw, true, 0⟩ /- TIME_SOURCE -/,
   ⟨.unsigned 1, .rw, true, 0x80⟩ /- PTP_PORT -/,
   ⟨.unsigned 1, .rw, true, 0⟩ /- PTP_DOMAIN -/,
   ⟨.unsigned 1, .rw, true, 0⟩ /- PTP_TRANSPORT -/,
   ⟨.bool, .rw, true, 1⟩ /- SLAVE_ONLY -/,
   ⟨.unsigned 1, .ro, false, 0⟩ /- TIME_STATE -/,
   ⟨.int 8, .ro, false, 0⟩ /- OFFSET_FROM_MASTER -/,
   ⟨.octets 8, .ro, false, 0⟩ /- GRANDMASTER -/]

def objsRawQueue : List ObjInfo :=
  [⟨.bool, .rw, false, 0⟩ /- ENABLE -/,
   ⟨.unsigned 1, .rws, false, 0x00⟩ /- DRAWER -/,
   ⟨.unsigned 1, .rws, false, 0x00⟩ /- PORT -/,
   ⟨.unsigned 4, .rws, false, 0⟩ /- REGION -/,
   ⟨.unsigned 8, .rws, false, 0⟩ /- TX_BASE -/,
   ⟨.unsigned 1, .rws, false, 8⟩ /- TX_LOG2 -/,
   ⟨.unsigned 8, .rws, false, 0⟩ /- RX_BASE -/,
   ⟨.unsigned 1, .rws, false, 8⟩ /- RX_LOG2 -/,
   ⟨.unsigned 2, .rws, false, 2048⟩ /- RX_SLOT_SIZE -/,
   ⟨.unsigned 2, .rws, false, 0⟩ /- PEGS -/,
   ⟨.octets 16, .rws, false, 0⟩ /- FILTER -/,
   ⟨.bool, .rws, false, 0⟩ /- ANY_SOURCE -/]

def objsStorage : List ObjInfo :=
  [⟨.unsigned 1, .rw, false, 0x00⟩ /- DRAWER -/,
   ⟨.unsigned 1, .wo, false, 0⟩ /- COMMAND -/,
   ⟨.unsigned 1, .ro, false, 0⟩ /- STATE -/,
   ⟨.unsigned 1, .rws, false, 0x00⟩ /- PORT -/,
   ⟨.octets 16, .rws, false, 0⟩ /- SRC_IP -/,
   ⟨.octets 16, .rws, false, 0⟩ /- DST_IP -/,
   ⟨.unsigned 2, .rws, false, 4420⟩ /- DST_PORT -/,
   ⟨.octets 16, .rws, false, 0⟩ /- GATEWAY -/,
   ⟨.text 223, .rws, false, 0⟩ /- SUBNQN -/,
   ⟨.text 223, .rws, false, 0⟩ /- HOSTNQN -/,
   ⟨.unsigned 1, .rws, false, 0x03⟩ /- DIGESTS -/,
   ⟨.unsigned 2, .rws, false, 64⟩ /- QUEUE_DEPTH -/,
   ⟨.unsigned 4, .rw, false, 30000⟩ /- IO_TIMEOUT -/,
   ⟨.unsigned 4, .rw, false, 1000⟩ /- RECONNECT_DELAY -/,
   ⟨.unsigned 1, .ro, false, 0x00⟩ /- LAST_ERROR -/]

def objsTelemetry : List ObjInfo :=
  [⟨.bool, .rw, true, 0⟩ /- ENABLE -/,
   ⟨.unsigned 4, .rw, true, 1000⟩ /- PERIOD -/,
   ⟨.unsigned 1, .rw, true, 0⟩ /- DEST -/,
   ⟨.octets 16, .rw, true, 0⟩ /- COLLECTOR_IP -/,
   ⟨.unsigned 2, .rw, true, 52102⟩ /- COLLECTOR_PORT -/,
   ⟨.unsigned 8, .rw, true, 0⟩ /- RING -/,
   ⟨.unsigned 1, .rw, true, 6⟩ /- RING_LOG2 -/,
   ⟨.unsigned 2, .rw, true, 0xFFFF⟩ /- HUB_PEG -/,
   ⟨.unsigned 1, .rw, true, 0⟩ /- OBJECT_COUNT -/,
   ⟨.octets 192, .rw, true, 0⟩ /- OBJECTS -/,
   ⟨.unsigned 4, .ro, false, 0⟩ /- SEQUENCE -/]

def objsJorol : List ObjInfo :=
  [⟨.unsigned 2, .rw, true, 52101⟩ /- JOROL_PORT -/,
   ⟨.unsigned 4, .rw, true, 60⟩ /- SESSION_IDLE -/,
   ⟨.unsigned 1, .ro, false, 0⟩ /- SESSIONS_OPEN -/]

def objsHeartbeat : List ObjInfo :=
  [⟨.unsigned 4, .rw, false, 0⟩ /- HEARTBEAT -/,
   ⟨.unsigned 4, .rw, true, 5⟩ /- WATCHDOG_PERIOD -/,
   ⟨.unsigned 1, .rw, true, 0⟩ /- WATCHDOG_ACTION -/,
   ⟨.unsigned 1, .ro, false, 0⟩ /- WATCHDOG_STATE -/]

def objsCredential : List ObjInfo :=
  [⟨.unsigned 1, .rw, true, 0⟩ /- ROLE -/,
   ⟨.unsigned 1, .rw, true, 0⟩ /- DRAWER -/,
   ⟨.octets 40, .wo, true, 0⟩ /- SECRET_LOAD -/,
   ⟨.unsigned 1, .ro, false, 0⟩ /- SECRET_STATE -/]

def objsEthCounters : List ObjInfo :=
  [⟨.unsigned 8, .rc, false, 0⟩ /- RX_FRAMES -/,
   ⟨.unsigned 8, .rc, false, 0⟩ /- RX_BYTES -/,
   ⟨.unsigned 8, .rc, false, 0⟩ /- TX_FRAMES -/,
   ⟨.unsigned 8, .rc, false, 0⟩ /- TX_BYTES -/,
   ⟨.unsigned 8, .rc, false, 0⟩ /- RX_FCS_ERRORS -/,
   ⟨.unsigned 8, .rc, false, 0⟩ /- RX_RUNTS -/,
   ⟨.unsigned 8, .rc, false, 0⟩ /- RX_TRUNCATED -/,
   ⟨.unsigned 8, .rc, false, 0⟩ /- RX_ERRORED_DELIVERED -/,
   ⟨.unsigned 8, .rc, false, 0⟩ /- RX_UNCLAIMED -/,
   ⟨.unsigned 8, .rc, false, 0⟩ /- RX_BUFFER_DROPS -/,
   ⟨.unsigned 8, .rc, false, 0⟩ /- RX_POLICER_DROPS -/,
   ⟨.unsigned 8, .rc, false, 0⟩ /- RX_PAUSE_IGNORED -/,
   ⟨.unsigned 8, .rc, false, 0⟩ /- PFC_SENT -/,
   ⟨.unsigned 8, .rc, false, 0⟩ /- PFC_RECEIVED -/,
   ⟨.unsigned 8, .rc, false, 0⟩ /- TX_DISCARDS -/,
   ⟨.unsigned 8, .rc, false, 0⟩ /- GUARD_HOLDS -/,
   ⟨.unsigned 8, .rc, false, 0⟩ /- FEC_CORRECTED -/,
   ⟨.unsigned 8, .rc, false, 0⟩ /- FEC_UNCORRECTABLE -/,
   ⟨.unsigned 8, .rc, false, 0⟩ /- LINK_LOSSES -/]

def objsHrtCounters : List ObjInfo :=
  [⟨.unsigned 8, .ro, false, 0⟩ /- TX_PACKETS -/,
   ⟨.unsigned 8, .ro, false, 0⟩ /- RX_PACKETS -/,
   ⟨.unsigned 8, .ro, false, 0⟩ /- RETRANSMITTED_PACKETS -/,
   ⟨.unsigned 8, .ro, false, 0⟩ /- TIMEOUTS -/,
   ⟨.unsigned 8, .ro, false, 0⟩ /- RETRY_EXCEEDED_EVENTS -/,
   ⟨.unsigned 8, .ro, false, 0⟩ /- DUPLICATES_DROPPED -/,
   ⟨.unsigned 8, .ro, false, 0⟩ /- STALE_DROPPED -/,
   ⟨.unsigned 8, .ro, false, 0⟩ /- OUT_OF_WINDOW_DROPPED -/,
   ⟨.unsigned 8, .ro, false, 0⟩ /- HOLD_DROPPED -/,
   ⟨.unsigned 8, .ro, false, 0⟩ /- HEADER_DISCARDS -/,
   ⟨.unsigned 8, .ro, false, 0⟩ /- ICRC_DISCARDS -/,
   ⟨.unsigned 8, .ro, false, 0⟩ /- LENGTH_DISCARDS -/,
   ⟨.unsigned 8, .ro, false, 0⟩ /- NO_QP_DISCARDS -/,
   ⟨.unsigned 8, .ro, false, 0⟩ /- FOREIGN_DISCARDS -/,
   ⟨.unsigned 8, .ro, false, 0⟩ /- ACKS_SENT -/,
   ⟨.unsigned 8, .ro, false, 0⟩ /- NAKS_SENT -/,
   ⟨.unsigned 8, .ro, false, 0⟩ /- NAKS_RECEIVED -/,
   ⟨.unsigned 8, .ro, false, 0⟩ /- ATOMIC_CACHE_REPLAYS -/,
   ⟨.unsigned 8, .ro, false, 0⟩ /- CONTEXT_MISSES -/]

def objsAccessCounters : List ObjInfo :=
  [⟨.unsigned 8, .ro, false, 0⟩ /- ACCESS_NAKS_SENT -/,
   ⟨.unsigned 8, .ro, false, 0⟩ /- OPERATION_NAKS_SENT -/,
   ⟨.unsigned 8, .ro, false, 0⟩ /- ATOMICS_EXECUTED -/,
   ⟨.unsigned 8, .ro, false, 0⟩ /- ATOMICS_VIA_PCIE -/,
   ⟨.unsigned 8, .ro, false, 0⟩ /- FLUSHES_EXECUTED -/,
   ⟨.unsigned 8, .ro, false, 0⟩ /- FLUSH_READS -/,
   ⟨.unsigned 8, .ro, false, 0⟩ /- PAGE_NAKS_SENT -/,
   ⟨.unsigned 8, .ro, false, 0⟩ /- PAGE_NAKS_RECEIVED -/,
   ⟨.unsigned 8, .ro, false, 0⟩ /- PAGE_REQUESTS_POSTED -/,
   ⟨.unsigned 8, .ro, false, 0⟩ /- PAGE_WAIT_TIMEOUTS -/,
   ⟨.unsigned 8, .ro, false, 0⟩ /- CE_RECEIVED -/,
   ⟨.unsigned 8, .ro, false, 0⟩ /- CE_MARKED -/,
   ⟨.unsigned 8, .ro, false, 0⟩ /- ECN_CUTS -/,
   ⟨.unsigned 8, .ro, false, 0⟩ /- LOSS_CUTS -/]

def objsTableCounters : List ObjInfo :=
  [⟨.unsigned 8, .ro, false, 0⟩ /- HANDS_STARTED -/,
   ⟨.unsigned 8, .ro, false, 0⟩ /- HANDS_OK -/,
   ⟨.unsigned 8, .ro, false, 0⟩ /- HANDS_FAILED -/,
   ⟨.unsigned 8, .ro, false, 0⟩ /- SEGMENTS_SENT -/,
   ⟨.unsigned 8, .ro, false, 0⟩ /- SEGMENTS_RECEIVED -/,
   ⟨.unsigned 8, .ro, false, 0⟩ /- MISMATCH_DISCARDS -/,
   ⟨.unsigned 8, .ro, false, 0⟩ /- STALE_DISCARDS -/,
   ⟨.unsigned 8, .ro, false, 0⟩ /- ABORTS_RECEIVED -/]

def objsCollCounters : List ObjInfo :=
  [⟨.unsigned 8, .ro, false, 0⟩ /- UNKNOWN_TABLE_DISCARDS -/,
   ⟨.unsigned 4, .ro, false, 0⟩ /- CELLS_RESERVED_TOTAL -/]

def objsDeronePortCounters : List ObjInfo :=
  [⟨.unsigned 8, .ro, false, 0⟩ /- TX_FLITS -/,
   ⟨.unsigned 8, .ro, false, 0⟩ /- RX_FLITS -/,
   ⟨.unsigned 8, .ro, false, 0⟩ /- TX_PACKETS -/,
   ⟨.unsigned 8, .ro, false, 0⟩ /- RX_PACKETS -/,
   ⟨.unsigned 8, .ro, false, 0⟩ /- OFF_ASSERTIONS -/,
   ⟨.unsigned 8, .ro, false, 0⟩ /- OFF_HELD_TIME -/,
   ⟨.unsigned 8, .ro, false, 0⟩ /- CONTENTION_WAITS -/,
   ⟨.unsigned 8, .ro, false, 0⟩ /- STALL_DISCARDS -/,
   ⟨.unsigned 8, .ro, false, 0⟩ /- FEC_CORRECTED -/,
   ⟨.unsigned 8, .ro, false, 0⟩ /- FEC_UNCORRECTABLE -/,
   ⟨.unsigned 8, .ro, false, 0⟩ /- LINK_LOSSES -/,
   ⟨.unsigned 8, .ro, false, 0⟩ /- HEADER_DISCARDS -/,
   ⟨.unsigned 8, .ro, false, 0⟩ /- EPOCH_DISCARDS -/,
   ⟨.unsigned 8, .ro, false, 0⟩ /- HOP_DISCARDS -/]

def objsDeroneCounters : List ObjInfo :=
  [⟨.unsigned 8, .ro, false, 0⟩ /- SCHEDULED_DEPARTURES -/,
   ⟨.unsigned 8, .ro, false, 0⟩ /- UNSCHEDULED_DEPARTURES -/,
   ⟨.unsigned 8, .ro, false, 0⟩ /- LATE_ISSUES -/,
   ⟨.unsigned 8, .ro, false, 0⟩ /- ACK_TIMEOUTS -/,
   ⟨.unsigned 8, .ro, false, 0⟩ /- NAKS_SENT -/,
   ⟨.unsigned 8, .ro, false, 0⟩ /- NAKS_RECEIVED -/,
   ⟨.unsigned 8, .ro, false, 0⟩ /- BUSY_RETRIES -/,
   ⟨.unsigned 8, .ro, false, 0⟩ /- REFUSED_ARRIVALS -/]

def objsMemoryCounters : List ObjInfo :=
  [⟨.unsigned 8, .ro, false, 0⟩ /- ON_DIE_CORRECTIONS -/,
   ⟨.unsigned 8, .ro, false, 0⟩ /- READ_PARITY_ERRORS -/,
   ⟨.unsigned 8, .ro, false, 0⟩ /- SCRUB_PARITY_ERRORS -/,
   ⟨.unsigned 8, .ro, false, 0⟩ /- ZERO_FILLED_CHUNKS -/,
   ⟨.unsigned 4, .ro, false, 0⟩ /- WINDOW_MAP_ENTRIES -/]

def objsTranslationCounters : List ObjInfo :=
  [⟨.unsigned 8, .ro, false, 0⟩ /- LEAF_HITS -/,
   ⟨.unsigned 8, .ro, false, 0⟩ /- LEAF_MISSES -/,
   ⟨.unsigned 8, .ro, false, 0⟩ /- WALK_READS -/,
   ⟨.unsigned 8, .ro, false, 0⟩ /- INVALIDATES -/,
   ⟨.unsigned 8, .ro, false, 0⟩ /- MOVE_WAITS -/]

def objsBenchCounters : List ObjInfo :=
  [⟨.unsigned 8, .ro, false, 0⟩ /- RUN_CYCLES -/,
   ⟨.unsigned 8, .ro, false, 0⟩ /- ARRAY_BUSY_CYCLES -/,
   ⟨.unsigned 8, .ro, false, 0⟩ /- LATCH_WAIT_CYCLES -/,
   ⟨.unsigned 8, .ro, false, 0⟩ /- SPIN_CYCLES -/,
   ⟨.unsigned 8, .ro, false, 0⟩ /- GATED_TIME -/,
   ⟨.unsigned 8, .ro, false, 0⟩ /- PARKED_TIME -/,
   ⟨.unsigned 8, .ro, false, 0⟩ /- THROTTLED_CYCLES -/,
   ⟨.unsigned 8, .ro, false, 0⟩ /- GOVERNOR_WAIT_TIME -/,
   ⟨.unsigned 8, .ro, false, 0⟩ /- WAKES -/,
   ⟨.unsigned 8, .ro, false, 0⟩ /- BANK_READ_BYTES -/,
   ⟨.unsigned 8, .ro, false, 0⟩ /- BANK_WRITE_BYTES -/,
   ⟨.unsigned 8, .ro, false, 0⟩ /- REFRESH_STALL_CYCLES -/,
   ⟨.unsigned 8, .ro, false, 0⟩ /- STORE_CONFLICT_CYCLES -/,
   ⟨.unsigned 8, .ro, false, 0⟩ /- NAN_RESULTS -/,
   ⟨.unsigned 8, .ro, false, 0⟩ /- SATURATIONS -/,
   ⟨.unsigned 8, .ro, false, 0⟩ /- PARITY_ERRORS -/]

def objsFunctionCounters : List ObjInfo :=
  [⟨.unsigned 8, .ro, false, 0⟩ /- ENTRIES_FETCHED -/,
   ⟨.unsigned 8, .ro, false, 0⟩ /- SPEC_USED -/,
   ⟨.unsigned 8, .ro, false, 0⟩ /- SPEC_REFETCHED -/,
   ⟨.unsigned 8, .ro, false, 0⟩ /- BAD_ENTRIES -/,
   ⟨.unsigned 8, .ro, false, 0⟩ /- RECORDS_WRITTEN -/,
   ⟨.unsigned 8, .ro, false, 0⟩ /- RECORDS_STAGED -/,
   ⟨.unsigned 8, .ro, false, 0⟩ /- PAUSE_TIME -/,
   ⟨.unsigned 8, .ro, false, 0⟩ /- EVENTS_MERGED -/]

def objsClusterCounters : List ObjInfo :=
  [⟨.unsigned 8, .ro, false, 0⟩ /- NVME_COMMANDS -/,
   ⟨.unsigned 8, .ro, false, 0⟩ /- NVME_BYTES_READ -/,
   ⟨.unsigned 8, .ro, false, 0⟩ /- NVME_BYTES_WRITTEN -/,
   ⟨.unsigned 8, .ro, false, 0⟩ /- HEADER_DIGEST_ERRORS -/,
   ⟨.unsigned 8, .ro, false, 0⟩ /- DATA_DIGEST_ERRORS -/,
   ⟨.unsigned 8, .ro, false, 0⟩ /- NVME_STATUS_ERRORS -/,
   ⟨.unsigned 8, .ro, false, 0⟩ /- RECONNECTS -/,
   ⟨.unsigned 8, .ro, false, 0⟩ /- RAW_TX_FRAMES -/,
   ⟨.unsigned 8, .ro, false, 0⟩ /- RAW_RX_FRAMES -/,
   ⟨.unsigned 8, .ro, false, 0⟩ /- RAW_RX_DROPS -/,
   ⟨.unsigned 8, .ro, false, 0⟩ /- TELEMETRY_RECORDS -/,
   ⟨.unsigned 8, .ro, false, 0⟩ /- TELEMETRY_SKIPPED -/]

def objsCipherCounters : List ObjInfo :=
  [⟨.unsigned 8, .ro, false, 0⟩ /- BLOCKS_PROCESSED -/,
   ⟨.unsigned 8, .ro, false, 0⟩ /- DUMMY_ROUNDS -/,
   ⟨.unsigned 8, .ro, false, 0⟩ /- AUTH_FAILURES -/,
   ⟨.unsigned 8, .ro, false, 0⟩ /- AUTH_DISCARDS -/,
   ⟨.unsigned 8, .ro, false, 0⟩ /- UNWRAP_FAILURES -/,
   ⟨.unsigned 8, .ro, false, 0⟩ /- LENGTH_REFUSALS -/,
   ⟨.unsigned 8, .ro, false, 0⟩ /- KEY_CACHE_MISSES -/]

def objsLedgerCounters : List ObjInfo :=
  [⟨.unsigned 8, .ro, false, 0⟩ /- REQUESTS -/,
   ⟨.unsigned 8, .ro, false, 0⟩ /- AUTH_DISCARDS -/,
   ⟨.unsigned 8, .ro, false, 0⟩ /- AUTH_FAILURES -/,
   ⟨.unsigned 8, .ro, false, 0⟩ /- REPLAY_DISCARDS -/,
   ⟨.unsigned 8, .ro, false, 0⟩ /- NOTIFY_RESENT -/,
   ⟨.unsigned 8, .ro, false, 0⟩ /- WATCHDOG_EXPIRIES -/]

def objsPowerCounters : List ObjInfo :=
  [⟨.unsigned 8, .ro, false, 0⟩ /- POWER_THROTTLED_TIME -/,
   ⟨.unsigned 8, .ro, false, 0⟩ /- THERMAL_THROTTLED_TIME -/,
   ⟨.unsigned 8, .ro, false, 0⟩ /- ENERGY -/]

def objsInject : List ObjInfo :=
  [⟨.unsigned 1, .rw, false, 0⟩ /- INJECT_SOURCE -/,
   ⟨.unsigned 2, .rw, false, 1⟩ /- INJECT_COUNT -/,
   ⟨.unsigned 4, .rw, false, 100⟩ /- INJECT_INTERVAL -/,
   ⟨.unsigned 1, .wo, false, 0⟩ /- INJECT_GO -/]

def objsCountermeasures : List ObjInfo :=
  [⟨.bool, .rw, false, 1⟩ /- COUNTERMEASURES -/]

/-- The map of R453. -/
def records : List RecordInfo :=
  [⟨.identity, 0x1000, 1, 1, .device, .read, objsIdentity⟩,
   ⟨.versions, 0x1001, 1, 1, .device, .read, objsVersions⟩,
   ⟨.capacities, 0x1002, 1, 1, .device, .read, objsCapacities⟩,
   ⟨.factoryMacs, 0x1003, 1, 1, .device, .read, objsFactoryMacs⟩,
   ⟨.service, 0x2000, 1, 1, .device, .read, objsService⟩,
   ⟨.resets, 0x2001, 1, 1, .device, .read, objsResets⟩,
   ⟨.clocks, 0x2100, 1, 1, .device, .none, objsClocks⟩,
   ⟨.power, 0x2101, 1, 1, .device, .none, objsPower⟩,
   ⟨.rails, 0x2102, 1, 1, .device, .none, objsRails⟩,
   ⟨.thermal, 0x2103, 1, 1, .device, .none, objsThermal⟩,
   ⟨.scorecard, 0x2200, 1, 1, .device, .none, objsScorecard⟩,
   ⟨.source, 0x2240, 64, 1, .device, .none, objsSource⟩,
   ⟨.drawer, 0x2300, 1, 1, .drawer, .readOwn, objsDrawer⟩,
   ⟨.chunkCommand, 0x2301, 1, 1, .device, .none, objsChunkCommand⟩,
   ⟨.benchOwners, 0x2302, 1, 1, .device, .none, objsBenchOwners⟩,
   ⟨.translation, 0x2320, 1, 1, .drawer, .writeOwn, objsTranslation⟩,
   ⟨.hubPegBlocks, 0x2340, 1, 1, .device, .none, objsHubPegBlocks⟩,
   ⟨.share, 0x2360, 64, 1, .device, .share, objsShare⟩,
   ⟨.migration, 0x23C0, 1, 1, .drawer, .none, objsMigration⟩,
   ⟨.pcieLink, 0x2400, 2, 1, .device, .none, objsPcieLink⟩]
  ++ [⟨.msix, 0x2402, 1, 1, .device, .none, objsMsix⟩,
   ⟨.prefetch, 0x2403, 1, 1, .device, .none, objsPrefetch⟩,
   ⟨.port, 0x2500, 8, 16, .device, .none, objsPort⟩,
   ⟨.classMap, 0x2501, 8, 16, .device, .none, objsClassMap⟩,
   ⟨.addresses, 0x2502, 8, 16, .device, .none, objsAddresses⟩,
   ⟨.buckets, 0x2503, 8, 16, .device, .none, objsBuckets⟩,
   ⟨.m0, 0x2580, 1, 1, .device, .none, objsM0⟩,
   ⟨.wake, 0x2581, 1, 1, .device, .none, objsWake⟩,
   ⟨.time, 0x2600, 1, 1, .device, .none, objsTime⟩,
   ⟨.gates, 0x2610, 8, 1, .device, .none, objsGates⟩,
   ⟨.hrt, 0x2700, 1, 1, .device, .none, objsHrt⟩,
   ⟨.hrtAccess, 0x2701, 1, 1, .device, .none, objsHrtAccess⟩,
   ⟨.congestion, 0x2702, 1, 1, .device, .none, objsCongestion⟩,
   ⟨.qp, 0x2710, 1, 1, .qp, .qpOwn, objsQp⟩,
   ⟨.fabric, 0x2800, 1, 1, .device, .none, objsFabric⟩,
   ⟨.routes, 0x2801, 1, 1, .device, .none, objsRoutes⟩,
   ⟨.link, 0x2808, 8, 1, .device, .none, objsLink⟩,
   ⟨.membership, 0x2810, 1, 1, .drawer, .writeOwn, objsMembership⟩,
   ⟨.acceptWindow, 0x2820, 64, 1, .device, .drawerField, objsAcceptWindow⟩,
   ⟨.table, 0x2900, 64, 1, .device, .tableOwn, objsTable⟩]
  ++ [⟨.stack, 0x2A00, 8, 1, .device, .none, objsStack⟩,
   ⟨.scrub, 0x2A08, 1, 1, .device, .none, objsScrub⟩,
   ⟨.cipher, 0x2B00, 1, 1, .device, .read, objsCipher⟩,
   ⟨.kek, 0x2B01, 1, 1, .drawer, .writeOwn, objsKek⟩,
   ⟨.keys, 0x2B02, 1, 1, .drawer, .writeOwn, objsKeys⟩,
   ⟨.firmware, 0x2B08, 1, 1, .device, .none, objsFirmware⟩,
   ⟨.attestation, 0x2B09, 1, 1, .drawer, .writeOwn, objsAttestation⟩,
   ⟨.sa, 0x2B40, 64, 1, .drawer, .writeOwn, objsSa⟩,
   ⟨.cluster, 0x2C00, 1, 1, .device, .none, objsCluster⟩,
   ⟨.timeService, 0x2C01, 1, 1, .device, .none, objsTimeService⟩,
   ⟨.rawQueue, 0x2C10, 32, 1, .device, .drawerField, objsRawQueue⟩,
   ⟨.storage, 0x2C40, 64, 1, .device, .drawerField, objsStorage⟩,
   ⟨.telemetry, 0x2C80, 8, 1, .device, .none, objsTelemetry⟩,
   ⟨.jorol, 0x2D00, 1, 1, .device, .none, objsJorol⟩,
   ⟨.heartbeat, 0x2D01, 1, 1, .device, .none, objsHeartbeat⟩,
   ⟨.credential, 0x2D10, 32, 1, .device, .none, objsCredential⟩,
   ⟨.ethCounters, 0x5000, 9, 1, .device, .none, objsEthCounters⟩,
   ⟨.hrtCounters, 0x5100, 1, 1, .device, .none, objsHrtCounters⟩,
   ⟨.accessCounters, 0x5101, 1, 1, .device, .none, objsAccessCounters⟩,
   ⟨.tableCounters, 0x5200, 64, 1, .device, .tableOwn, objsTableCounters⟩]
  ++ [⟨.collCounters, 0x5240, 1, 1, .device, .none, objsCollCounters⟩,
   ⟨.deronePortCounters, 0x5280, 8, 1, .device, .none, objsDeronePortCounters⟩,
   ⟨.deroneCounters, 0x5288, 1, 1, .device, .none, objsDeroneCounters⟩,
   ⟨.memoryCounters, 0x5300, 8, 1, .device, .none, objsMemoryCounters⟩,
   ⟨.translationCounters, 0x5308, 1, 1, .device, .none, objsTranslationCounters⟩,
   ⟨.benchCounters, 0x5400, 512, 1, .device, .benchOwn, objsBenchCounters⟩,
   ⟨.functionCounters, 0x5600, 128, 1, .device, .functionOwn, objsFunctionCounters⟩,
   ⟨.clusterCounters, 0x5700, 1, 1, .device, .none, objsClusterCounters⟩,
   ⟨.cipherCounters, 0x5800, 1, 1, .device, .none, objsCipherCounters⟩,
   ⟨.ledgerCounters, 0x5900, 1, 1, .device, .none, objsLedgerCounters⟩,
   ⟨.powerCounters, 0x5A00, 1, 1, .device, .none, objsPowerCounters⟩,
   ⟨.inject, 0x7F00, 1, 1, .device, .none, objsInject⟩,
   ⟨.countermeasures, 0x7F01, 1, 1, .device, .none, objsCountermeasures⟩]

/-- Index i belongs to a record: the n-th of its kind. -/
def RecordInfo.position (r : RecordInfo) (i : Nat) : Option Nat :=
  if r.base ≤ i ∧ (i - r.base) % r.stride = 0 ∧ (i - r.base) / r.stride < r.count then some ((i - r.base) / r.stride) else none

/-- The record an index names, if the ledger implements it (R453). -/
def recordOf (i : Nat) : Option RecordInfo := records.find? fun r => (r.position i).isSome

/-- The entry of an object; subindex 0 is not listed here (R11). -/
def objInfo (i sub : Nat) : Option ObjInfo :=
  match recordOf i with
  | some r => if sub = 0 then none else r.objs[sub - 1]?
  | none => none

end Sys2Proof.Machine
end

