-- ==== Sys2Proof/Machine/StateBench.lean ====
section
/-! DEFINITION. Machine/StateBench.lean: the state of benches, stacks, job slots, jobs and pegs ("Benches: compute beside
memory", "Job images and the kernel operation set", "Pegs: waiting and signalling"). -/

namespace Sys2Proof.Machine

/-- The states of a bench (R72). -/
inductive RunState where
  | running
  | spin
  | gated
  | parked
  deriving DecidableEq, Repr

/-- An open loop of a bench's stream (R96): its LOOP's index, its END, the loop index and the iteration count. -/
structure LoopFrame where
  start : Nat
  last : Nat
  index : Nat
  count : Nat
  deriving DecidableEq, Repr

/-- A weight latch set (R62): the tile's element bytes and scale bytes. -/
structure Latch where
  elems : List Byte
  scales : List Byte
  deriving DecidableEq, Repr

/-- Bytes of device memory that a placement has written (R22): local offset, length, and how many placements came before it. -/
structure RacedRange where
  off : Nat
  len : Nat
  seq : Nat
  deriving DecidableEq, Repr

/-- One bench (R54, R65, R68, R72). -/
structure Bench where
  /-- The bench store, by store offset (R65). -/
  store : Ram
  /-- Contents of the vector registers (R69): 0 while they are zero, and otherwise the number under which their contents are free.
  No command reads what an earlier one left in them (log 22). -/
  scratch : Nat
  /-- The accumulator file (R63): the FP32 code of each accumulator that the last pass of a MATVEC set, plus 1. -/
  accs : Sparse Nat
  /-- The accumulators that accs does not name: 0 while they are zero, and otherwise the number under which they are free (log 22). -/
  accFree : Nat
  latch0 : Latch
  latch1 : Latch
  /-- The latch set the next tile loads into. -/
  nextLatch : Nat
  /-- Bench pegs 0–47 (R149). -/
  pegs : Sparse Nat
  /-- For each peg, how many placements came before the last add applied to it (R155). -/
  pegAt : Sparse Nat
  run : RunState
  /-- When SPIN began (R162), by the stack's count of cycles not skipped, in 64ths of a cycle (R74). -/
  spinSince : Nat
  /-- The peg and threshold of the PEG_WAIT in progress (R162). -/
  awaits : Option (Nat × Nat)
  /-- The wake armed on the awaited peg has been requested and not yet answered (R163). -/
  wakeAsked : Bool
  /-- A grant given at this count of the stack's cycles and not yet answered by BENCH_WAKE (R73). -/
  granted : Option Nat
  /-- The time the bench entered its present state, for GATED_TIME and PARKED_TIME (R79). -/
  since : Nat
  /-- The stack's counts of cycles not skipped and skipped at that time, for RUN_CYCLES, SPIN_CYCLES and THROTTLED_CYCLES (R79). -/
  sinceRun : Nat
  sinceSkip : Nat
  /-- Drawer of the job the bench is mapped to, and the logical bench it is (R84). -/
  job : Option Nat
  logical : Nat
  /-- Instruction index of the bench's next instruction. -/
  pc : Nat
  /-- The instruction buffer (R65): for each of its 512 places, the index of the instruction it holds plus 1, or 0. -/
  buffered : Sparse Nat
  /-- Open loops, innermost first (R96). -/
  loops : List LoopFrame
  /-- The bench has executed END in its present job (R98). -/
  ended : Bool
  /-- Bytes of device memory that placements not ordered against the bench's stream have written (R22, R55). -/
  raced : List RacedRange
  deriving DecidableEq, Repr

def Latch.zero : Latch := ⟨[], []⟩

/-- A bench after the clearing of R68. -/
def Bench.reset : Bench :=
  { store := Ram.empty, scratch := 0, accs := [], accFree := 0, latch0 := Latch.zero, latch1 := Latch.zero, nextLatch := 0, pegs := [], pegAt := [],
    run := .parked, spinSince := 0, awaits := none, wakeAsked := false, granted := none, since := 0, sinceRun := 0,
    sinceSkip := 0, job := none, logical := 0, pc := 0, buffered := [], loops := [], ended := false, raced := [] }

/-- FP32 code of accumulator i, of 12,288 (R63). -/
def Bench.accumulator (v : Bench) (i : Nat) : Nat :=
  if v.accs.num i ≠ 0 then v.accs.num i - 1 else if v.accFree = 0 then 0 else Config.freeValue v.accFree i % 2 ^ 32

/-- FP32 code of a lane of a vector register (R69). -/
def Bench.vectorLane (v : Bench) (reg lane : Nat) : Nat :=
  if v.scratch = 0 then 0 else Config.freeValue v.scratch (12288 + 64 * reg + lane) % 2 ^ 32

/-- Where a stack is in bring-up and what its clock does (R493, R76). -/
inductive StackClock where
  | stopped
  | mhz800
  | mhz1600
  deriving DecidableEq, Repr

/-- One stack: governor, clock, trim and refresh state. -/
structure Stack where
  clock : StackClock
  /-- The stack's interface is trained and its benches are cleared (R493). -/
  up : Bool
  /-- The array trim has passed on this stack since the last reset (R76). -/
  trimmed : Bool
  trimFailed : Bool
  /-- Wake requests waiting for the governor: bench within the stack and the time of the request (R73). -/
  wakes : List (Nat × Nat)
  /-- The same, for a hand's combining steps on gated or parked benches (R212), and the benches granted such a wake that has not been used. -/
  helps : List (Nat × Nat)
  helped : List Nat
  /-- Times of the grants of the last 256.25 ns window (R73). -/
  grants : List Nat
  /-- tREFI is 1.95 µs at the last reading, by R58's hysteresis. -/
  hot : Bool
  /-- Per bank, the tREFI in force (true: 1.95 µs), set at the bank's own next refresh (R58). -/
  bankHot : Sparse Nat
  /-- Per bank, when its last refresh was due, plus 1 (R58). -/
  refreshed : Sparse Nat
  /-- Per bench, the bank whose turn in the rotation of refreshes is next (R58). -/
  turn : Sparse Nat
  /-- Per bench, when its last refresh was due, plus 1 (R58). -/
  turnAt : Sparse Nat
  /-- Cycles of the bench clock not skipped, and skipped, up to `cycleAt`, in 64ths of a cycle (R74); how far the frame of 64 cycles has
  come, and the skip in force in it (R500). -/
  run64 : Nat
  skip64 : Nat
  cycleAt : Nat
  framePos : Nat
  frameSkip : Nat
  /-- The stack's hub interface is lost (R472). -/
  lost : Bool
  deriving DecidableEq, Repr

def Stack.reset : Stack :=
  { clock := .stopped, up := false, trimmed := false, trimFailed := false, wakes := [], helps := [], helped := [], grants := [], hot := false, bankHot := [],
    refreshed := [], turn := [], turnAt := [], run64 := 0, skip64 := 0, cycleAt := 0, framePos := 0, frameSkip := 0, lost := false }

/-- A section-table entry (R82). -/
structure Section where
  kind : Nat
  target : Nat
  offset : Nat
  size : Nat
  place : Nat
  deriving DecidableEq, Repr

/-- A declared range (R85). -/
structure DeclRange where
  base : Nat
  length : Nat
  kind : Nat
  stack : Nat
  arg : Nat
  deriving DecidableEq, Repr

/-- A dovetail entry (R87). -/
structure DoveEntry where
  bench : Nat
  port : Nat
  vc : Nat
  instr : Nat
  ordinal : Nat
  issue : Nat
  deriving DecidableEq, Repr

/-- The parts of a job image that the device records (R81, R114). -/
structure Image where
  moduleCount : Nat
  moduleRank : Nat
  routeEpoch : Nat
  pairings : Nat
  benches : List Nat
  sliceSize : Nat
  commonSize : Nat
  loadSize : Nat
  buildId : Nat
  deadline : Nat
  sections : List Section
  ranges : List DeclRange
  dovetail : List DoveEntry
  descCount : Nat
  deriving DecidableEq, Repr

/-- A loaded job slot (R80): the image, the load base, and the module IDs that SPLIT_DPA used (R115, step 4). -/
structure Slot where
  image : Image
  loadBase : Nat
  members : List Nat
  deriving DecidableEq, Repr

/-- A transfer or add that a job has issued and that has not finished (R118): logical bench, instruction, and its number. -/
structure JobWork where
  logical : Nat
  instr : Nat
  id : Nat
  deriving DecidableEq, Repr

/-- A job that has been dispatched or waits for dispatch, one per drawer (R116). -/
structure Job where
  fid : Nat
  /-- Ring index of its RUN_JOB entry. -/
  entry : Nat
  slot : Nat
  image : Image
  loadBase : Nat
  argBase : Nat
  /-- The common part and the slices, as its checks read them, and from the dispatch on as it found them (R93, R115). -/
  args : List Byte
  /-- Physical bench of each logical bench (R84). -/
  map : List Nat
  dispatchedAt : Nat
  deadline : Nat
  /-- MOVE and SEND transfers issued and not finished. -/
  work : List JobWork
  nextWork : Nat
  /-- Executions so far of each instruction that moves to another module: key logical × 2^20 + instruction (R87). -/
  ordinals : Sparse Nat
  /-- The first failure: status, logical bench and instruction (R118). -/
  failure : Option (Nat × Nat × Nat)
  /-- The job is stopping: benches stop at their next instruction boundary. -/
  stopping : Bool
  /-- The windows its residency check found covering its ranges (R140), by base. -/
  windows : List Nat
  /-- The declared ranges with the bases that its checks resolved (R85, R115). -/
  ranges : List DeclRange
  /-- The declared ranges, by place, that the job has written to (R78, R118). -/
  wrote : List Nat
  deriving DecidableEq, Repr

/-- A pending PEG_SET wait (R166): function, ring index, hub peg and threshold. -/
structure PegWait where
  fid : Nat
  entry : Nat
  peg : Nat
  threshold : Nat
  deriving DecidableEq, Repr

/-- A view binding (R152). -/
structure ViewBinding where
  fid : Nat
  slot : Nat
  logical : Nat
  view : Nat
  hubPeg : Nat
  deriving DecidableEq, Repr

/-- Compute state. -/
structure ComputeState where
  /-- Benches by number 64 × stack + bench. -/
  benches : Sparse Bench
  stk : Sparse Stack
  /-- Job slots, by 16 × function + slot (R80). -/
  slots : Sparse (Option Slot)
  /-- The drawer's running job (R116). -/
  jobs : Sparse (Option Job)
  /-- RUN_JOBs whose checks have passed and which wait for dispatch, oldest first (R116). -/
  checked : List Job
  /-- Bench owner changes that wait for a running job, bench and owner byte (R116, R369). -/
  ownerDue : List (Nat × Nat)
  /-- Hub pegs (R149). -/
  hubPegs : Sparse Nat
  /-- Placements into device memory so far; and for each hub peg, how many of them came before the last add applied to it (R155). -/
  placed : Nat
  hubAt : Sparse Nat
  waits : List PegWait
  views : List ViewBinding
  deriving DecidableEq, Repr

def ComputeState.reset : ComputeState :=
  { benches := [], stk := [], slots := [], jobs := [], checked := [], ownerDue := [], hubPegs := [], placed := 0, hubAt := [], waits := [], views := [] }

end Sys2Proof.Machine
end

