-- ==== Sys2Proof/Machine/StateFabric.lean ====
section
/-! DEFINITION. Machine/StateFabric.lean: the state of "Derone links and the scale-up fabric" (transfers, contexts, output
queues, the active route table), of COPY operations that read over Derone, and of the ordering reads of R159. -/

namespace Sys2Proof.Machine

/-- A buffer reference (R338). -/
inductive BufRef where
  | none
  | dva (addr : Nat)
  | region (idx off : Nat)
  deriving DecidableEq, Repr

/-- Who asked for a Derone transfer: the operation with this key. A COPY's key is its function and ring index; a MOVE's is
128 + drawer and the job's number for the transfer (R118); a hand packet's is 256 + table ID and 8 × HAND_SEQ + KIND (R221). -/
structure Origin where
  fid : Nat
  idx : Nat
  deriving DecidableEq, Repr

/-- A write transfer or a read request of this module (R174, R183, R184). -/
structure Xfer where
  id : Nat
  origin : Origin
  read : Bool
  drawer : Nat
  module : Nat
  port : Nat
  vc : Nat
  addr : Nat
  len : Nat
  /-- The bytes of a write, and where a read's bytes go. -/
  data : List Byte
  dest : List Piece
  sig : Option Nat
  /-- When it was first sent and when its last packet (or its READ_REQ) left. -/
  firstSent : Nat
  lastSent : Nat
  resent : Bool
  /-- When a NAK BUSY arrived, until it is sent again (R184). -/
  busyAt : Option Nat
  /-- The next READ_RESP index expected. -/
  next : Nat
  deriving DecidableEq, Repr

/-- A transfer context of the destination (R181, R184): source, transfer, next INDEX; failed ones discard the rest. A read of this module's own
has one as well, under the source 256, for the bytes it places (R185). -/
structure RxContext where
  src : Nat
  id : Nat
  /-- The D port it arrives by (R193). -/
  port : Nat
  next : Nat
  failed : Bool
  /-- Ranges of local offsets that the transfer has placed, and that other transfers have placed since it began (R185): offset, length. -/
  placed : List (Nat × Nat)
  crossed : List (Nat × Nat)
  deriving DecidableEq, Repr

/-- A COPY or a remote MOVE in progress over Derone (R183, R188, R343): the requests and transfers still to issue, and those
outstanding. Its key is that of its Origin. -/
structure CopyOp where
  fid : Nat
  idx : Nat
  todo : List Xfer
  /-- The transfer that carries the signal, kept to the last. -/
  final : Option Xfer
  outstanding : Nat
  status : Nat
  /-- The pieces of the destination, for a status other than OK and for the ordering read. -/
  dest : List Piece
  /-- Source and destination overlap: the destination is undefined (R343). -/
  mixed : Bool
  deriving DecidableEq, Repr

/-- A scheduled MOVE held until its ISSUE time (R87). -/
structure HeldMove where
  id : Nat
  issue : Nat
  op : CopyOp
  deriving DecidableEq, Repr

/-- What an ordering read stands behind (R159, R289, R526). -/
inductive OrderedBy where
  | copy (fid idx : Nat)
  | pegAdd (fid idx : Nat)
  | send (drawer work peg : Nat)
  /-- An HRT responder's message with a signal or effects, by QP and the PSN of its LAST packet. -/
  | message (qp psn : Nat)
  | flush (qp psn : Nat)
  | nvme (fid idx : Nat)
  /-- A raw queue's or a telemetry stream's write, and the hub peg that counts it (R398, R399, R403). -/
  | count (drawer peg : Nat)
  deriving DecidableEq, Repr

/-- An ordering read that has been issued and not completed (R159). -/
structure OrderingRead where
  id : Nat
  port : Nat
  addr : Nat
  fid : Nat
  why : OrderedBy
  deriving DecidableEq, Repr

/-- A packet that waits at an output: since when (R180), and the requester that brought it: 0 to 7 for the input ports, 8 and above for the
hub's own sources (R177), one number for each stream of packets (R189). -/
structure Queued where
  packet : List Byte
  since : Nat
  source : Nat
  deriving DecidableEq, Repr

structure FabricState where
  /-- The active route table (R190). Empty: every entry is UNREACHABLE but this module's own, which is LOCAL. -/
  active : List Byte
  /-- The next TRANSFER_ID (R174). -/
  nextId : Nat
  xfers : List Xfer
  waiting : List Xfer
  held : List HeldMove
  nextHeld : Nat
  contexts : List RxContext
  /-- Packets at each output, by 2 × port + VC; an output held OFF by its partner, and since when (R179). -/
  outq : Sparse (List Queued)
  off : Sparse (Option Nat)
  /-- The requester after the last one granted, for each output VC (R177). -/
  pointer : Sparse Nat
  /-- Until when the last packet of an output VC takes the link, and its requester (R167, R189). -/
  busy : Sparse (Nat × Nat)
  /-- The time, plus 1, of a last flit whose second slot is empty, at each output and input VC (R171). -/
  half : Sparse Nat
  rxHalf : Sparse Nat
  /-- Input VCs that have sent OFF and not yet ON (R179). -/
  inOff : Sparse Nat
  /-- The window of 1 ms of each port's last uncorrectable codeword, and how many it has counted in it (R169). -/
  badWords : Sparse (Nat × Nat)
  copies : List CopyOp
  orderings : List OrderingRead
  nextOrdering : Nat
  /-- The second of the last PORT_DEGRADED of each port, plus one (R170). -/
  degraded : Sparse Nat
  deriving DecidableEq, Repr

def FabricState.reset : FabricState :=
  { active := [], nextId := 0, xfers := [], waiting := [], held := [], nextHeld := 0, contexts := [], outq := [], off := [],
    pointer := [], busy := [], half := [], rxHalf := [], inOff := [], badWords := [], copies := [], orderings := [], nextOrdering := 0, degraded := [] }

end Sys2Proof.Machine
end

