-- ==== Sys2Proof/Machine/StateRing.lean ====
section
/-! DEFINITION. Machine/StateRing.lean: the state of "PCIe functions and the work rings": one register page and one pair
of rings for each function, the entries in flight, staging, pending events, and the two PCIe links. -/

namespace Sys2Proof.Machine

/-- Where an entry in flight stands. -/
inductive EntryStage where
  /-- Fetched and started; its operation has not begun or waits for its own conditions. -/
  | ready
  /-- Its operation has begun elsewhere (a transfer, a job, a QP, a hand, a connection). -/
  | busy
  /-- Finished, with its record held because the function is paused (R358): its turn among the held records, and the record. -/
  | done (turn : Nat) (record : List Byte)
  deriving DecidableEq, Repr

/-- An entry fetched and not completed (R339, R341): its index, its 64 bytes and how far it is. `step` counts the pages or
parts that a long operation has finished. -/
structure Entry where
  idx : Nat
  raw : List Byte
  stage : EntryStage
  step : Nat
  /-- Bytes or transfers still outstanding, and the first failing status. -/
  left : Nat
  status : Nat
  /-- It was fetched while its drawer was STOPPING or STOPPED, or the stop ends it (R370, R371). -/
  stopped : Bool
  /-- The pages being moved that it has been counted as waiting for (R148), and the accesses in flight that an INVALIDATE or a
  DEREG_REGION waits for (R134, R281). -/
  waited : List Nat
  watch : List Piece
  deriving DecidableEq, Repr

/-- A pending event at its source (R355): code, subject, COUNT, and the 24 RESULT bytes. -/
structure PendingEvent where
  code : Nat
  subject : Nat
  count : Nat
  result : List Byte
  deriving DecidableEq, Repr

/-- Where an entry of R526's list wrote last on a PCIe port: its index, the port, and the address after its destination's last byte there. -/
structure BusNote where
  idx : Nat
  port : Nat
  addr : Nat
  deriving DecidableEq, Repr

/-- One function's page and rings (R334). -/
structure Fn where
  wrBase : Nat
  wrLog : Nat
  wrProd : Nat
  wrCons : Nat
  crBase : Nat
  crLog : Nat
  crProd : Nat
  crCons : Nat
  mirror : Nat
  intCtrl : Nat
  enable : Bool
  backpressure : Bool
  ctrlError : Bool
  consError : Bool
  prodError : Bool
  /-- Low halves of 64-bit registers written and not yet taken (R333), by offset. -/
  halves : Sparse Nat
  /-- The value written to CR_ARM, while armed (R357). -/
  armed : Option Nat
  /-- Time of the function's last MSI-X message (R357). -/
  lastMessage : Option Nat
  /-- Where the entries of R526's list have written behind PCIe ports, the latest note first. -/
  lastBus : List BusNote
  /-- MSI-X table dwords by offset from 0x800, and pending bits. -/
  msix : Sparse Nat
  pba : Nat
  /-- Vectors allotted (R363). -/
  vectors : Nat
  /-- Indices covered since ENABLE was last set, for the first lap of R340. -/
  lap : Nat
  entries : List Entry
  copies : List (Nat × List Byte)
  staged : List (List Byte)
  events : List PendingEvent
  /-- The CR_PROD value the mirror last reported, and when a new value first became due (R356). -/
  mirrored : Nat
  mirrorDue : Option Nat
  pausedSince : Option Nat
  pauseRaised : Bool
  /-- Time of an FLR request not yet finished, and the wedged mark (R361). -/
  flrAt : Option Nat
  wedged : Bool
  deriving DecidableEq, Repr

/-- The MSI-X table after FLR and after a reset, as PCIe has it: addresses and data 0, every vector masked (R334; PRESUMED, log 142). -/
def msixMasked : Sparse Nat := (List.range 64).map fun v => (16 * v + 12, 1)

/-- A function's page after FLR (R334, R360). -/
def Fn.reset (vectors : Nat) : Fn :=
  { wrBase := 0, wrLog := 0, wrProd := 0, wrCons := 0, crBase := 0, crLog := 0, crProd := 0, crCons := 0, mirror := 0,
    intCtrl := 0, enable := false, backpressure := false, ctrlError := false, consError := false, prodError := false,
    halves := [], armed := none, lastMessage := none, lastBus := [], msix := msixMasked, pba := 0, vectors := vectors, lap := 0, entries := [],
    copies := [], staged := [], events := [], mirrored := 0, mirrorDue := none, pausedSince := none, pauseRaised := false,
    flrAt := none, wedged := false }

/-- The vectors a function holds at reset: 16 for PF0 and 15 for each VF (R363). -/
def Fn.default (f : Nat) : Fn := Fn.reset (if f = 0 then 16 else 15)

/-- A PCIe link (R362, R363). -/
structure PcieLink where
  up : Bool
  /-- It has been up since the last reset (R19). -/
  wasUp : Bool
  downSince : Option Nat
  speed : Nat
  width : Nat
  flit : Bool
  deriving DecidableEq, Repr

def PcieLink.down : PcieLink := ⟨false, false, none, 0, 0, false⟩

/-- Ring-engine state. -/
structure RingState where
  fns : Sparse Fn
  /-- The ring engine's rotating pointer (R341): the next function served first. -/
  pointer : Nat
  p0 : PcieLink
  p1 : PcieLink
  /-- Bus Master Enable of the peer function (R332). -/
  p1BusMaster : Bool
  vfEnable : Bool
  numVfs : Nat
  deriving DecidableEq, Repr

def RingState.reset : RingState :=
  { fns := [], pointer := 0, p0 := PcieLink.down, p1 := PcieLink.down, p1BusMaster := false, vfEnable := false,
    numVfs := 0 }

end Sys2Proof.Machine
end

