-- ==== Sys2Proof/Machine/StateEth.lean ====
section
/-! DEFINITION. Machine/StateEth.lean: the state of "Ethernet ports, traffic classes and gates": sub-ports with their class
queues, pauses, buckets and gates, and the frames that have arrived and wait for a consumer. -/

namespace Sys2Proof.Machine

/-- A token bucket (R302, R321, R322): its level in 10^−6 bits at a time. -/
structure Bucket where
  level : Int
  stamp : Nat
  deriving DecidableEq, Repr

/-- Who offered a frame for sending. -/
inductive TxOwner where
  | hrt
  /-- A raw queue's descriptor, by queue and index. -/
  | raw (queue idx : Nat)
  | cluster
  deriving DecidableEq, Repr

/-- A frame that is ready to send, without its FCS; `stamp` asks for an egress timestamp, `oneStep` for R325. -/
structure TxFrame where
  bytes : List Byte
  owner : TxOwner
  stamp : Bool
  oneStep : Bool
  /-- The close that last refused it, counted in GUARD_HOLDS, plus one (R319). -/
  held : Nat
  deriving DecidableEq, Repr

/-- The states of a sub-port (R308). -/
inductive LinkState where
  | disabled
  | training
  | up
  | down
  deriving DecidableEq, Repr

def LinkState.code : LinkState → Nat
  | .disabled => 0
  | .training => 1
  | .up => 2
  | .down => 3

/-- One sub-port of a data port, or M0. -/
structure SubPort where
  link : LinkState
  /-- Frames ready, by 16 × class + requester: HRT pipelines 0–7 and the cluster, 8 (R315). -/
  queues : Sparse (List TxFrame)
  /-- The rotating pointer of each class (R315). -/
  pointer : Sparse Nat
  /-- The end of each class's received pause (R317). -/
  paused : Sparse Nat
  /-- Classes that are off by a PFC frame sent, and when each was last sent (R317). -/
  off : Nat
  xoffAt : Sparse Nat
  /-- PFC frames that wait to go (R315, item 1). -/
  pfcDue : List (List Byte)
  /-- The end of the inter-frame gap of the frame in progress. -/
  busyUntil : Nat
  /-- Shapers and policers, by class (R321, R322). -/
  shaper : Sparse (Option Bucket)
  policer : Sparse (Option Bucket)
  /-- The second of the last PORT_DEGRADED, plus one (R308). -/
  degraded : Nat
  /-- The open gates as the gate list last left them, as a mask (R318). -/
  gates : Nat
  deriving DecidableEq, Repr

def SubPort.reset : SubPort :=
  { link := .disabled, queues := [], pointer := [], paused := [], off := 0, xoffAt := [], pfcDue := [], busyUntil := 0,
    shaper := [], policer := [], degraded := 0, gates := 255 }

/-- A frame that has been admitted to ingress cells (R312, R314): where it came in, its class and cells, its flags (R313),
its ingress timestamp in ns, and whether the port treats it as carrying CE (R298). -/
structure RxFrame where
  port : Nat
  lane : Nat
  tc : Nat
  cells : Nat
  flags : Nat
  stamp : Nat
  ce : Bool
  bytes : List Byte
  deriving DecidableEq, Repr

structure EthState where
  /-- Sub-ports by 4 × port + lane; M0 is 32. -/
  subs : Sparse SubPort
  /-- HRT packets that wait for their pipeline, oldest first. -/
  hrtIn : List RxFrame
  /-- The operating gate values of each port: GATE_ENABLE (R320). -/
  gateOn : Sparse Nat
  /-- Per port, the count of R298's draws. -/
  draws : Sparse Nat
  deriving DecidableEq, Repr

def EthState.reset : EthState := { subs := [], hrtIn := [], gateOn := [], draws := [] }

end Sys2Proof.Machine
end

