-- ==== Sys2Proof/Machine/StateCluster.lean ====
section
/-! DEFINITION. Machine/StateCluster.lean: the state of "Infrastructure cluster, storage placement and telemetry": NVMe entries
and connections, raw queues, telemetry streams and the network service's neighbours. -/

namespace Sys2Proof.Machine

/-- An NVMe command that has been issued and has no completion queue entry yet (R393): its identifier, first block, blocks, the
buffer offset of its data, where the last data received ends, ciphertext of unfinished data units by its offset in the command's
data, and when it was issued. -/
structure NvmeCmd where
  cid : Nat
  slba : Nat
  blocks : Nat
  off : Nat
  got : Nat
  part : List (Nat × List Byte)
  sentAt : Nat
  deriving DecidableEq, Repr

/-- An NVME_IO entry from step 5 of R393 on. -/
structure NvmeIo where
  fid : Nat
  idx : Nat
  conn : Nat
  op : Nat
  fua : Bool
  nsid : Nat
  slba : Nat
  block : Nat
  blocks : Nat
  /-- Blocks and commands issued so far. -/
  issued : Nat
  commands : Nat
  /-- The XTS key taken at step 4 (R415), or that it failed to unwrap. -/
  xts : Bool
  key : List Byte
  keyBad : Bool
  pieces : List Piece
  /-- Bytes of a Read's buffer that another Read in progress places too: they are undefined (R394). -/
  mixed : List Piece
  /-- Windows that cover the buffer: its pages are held as a job's are (R20, R393). -/
  windows : List Nat
  cmds : List NvmeCmd
  status : Nat
  nvmeStatus : Nat
  failLba : Nat
  deriving DecidableEq, Repr

/-- A storage connection's session (R389 to R391): when its present state began, when Keep Alive last went, how many sessions it
has had, the namespaces identified in this one with their block sizes (0: not usable), and the next command identifier. -/
structure NvmeConn where
  since : Nat
  keepAt : Nat
  session : Nat
  spaces : List (Nat × Nat)
  nextCid : Nat
  /-- The source port of its TCP connections (R389). -/
  tcpPort : Nat
  deriving DecidableEq, Repr

def NvmeConn.reset : NvmeConn := ⟨0, 0, 0, [], 0, 0⟩

/-- A raw queue that runs (R397): the next descriptor and frame, the descriptors offered and not yet
completed with their COOKIEs, the frames claimed and not yet delivered, the completions and records that wait for a page of the
region (their offset, their bytes, the hub peg that counts them), the posted descriptors that must still complete with FLUSHED, and
whether ENABLE clears after them. -/
structure RawQueue where
  txNext : Nat
  rxNext : Nat
  offered : List (Nat × Nat)
  inbox : List RxFrame
  held : List (Nat × List Byte × Option Nat)
  flush : Nat
  closing : Bool
  deriving DecidableEq, Repr

/-- A neighbour (R387): where it lies, its addresses, and when they were learned or last asked for again. -/
structure Neighbour where
  port : Nat
  lane : Nat
  ip : List Byte
  mac : List Byte
  learned : Nat
  deriving DecidableEq, Repr

structure ClusterState where
  ios : List NvmeIo
  conns : Sparse NvmeConn
  raws : Sparse (Option RawQueue)
  /-- When each stream's next record falls due, plus one; 0 while it is off (R401). -/
  due : Sparse Nat
  /-- Most recently learned first. -/
  neighbours : List Neighbour
  /-- The sequence number of the time service's next Delay_Req (R388). -/
  delaySeq : Nat
  deriving DecidableEq, Repr

def ClusterState.reset : ClusterState := { ios := [], conns := [], raws := [], due := [], neighbours := [], delaySeq := 0 }

end Sys2Proof.Machine
end

