-- ==== Sys2Proof/Machine/StateHrt.lean ====
section
/-! DEFINITION. Machine/StateHrt.lean: the state of "Harjan Reliable Transport" and of "Remote access rights, atomics, flush,
paging and congestion": one context for each queue pair, with its requester, its responder, its timers and its rate. -/

namespace Sys2Proof.Machine

/-- The states of a QP (R251). -/
inductive QpState where
  | reset
  | init
  | rtr
  | rts
  | error
  deriving DecidableEq, Repr

def QpState.code : QpState → Nat
  | .reset => 0
  | .init => 1
  | .rtr => 2
  | .rts => 3
  | .error => 4

/-- The attributes of a QP (R253). `given` holds the mask bits that have been set since INIT (R254). -/
structure QpAttr where
  given : Nat
  destQpn : Nat
  remoteInc : Nat
  remoteEpoch : Nat
  port : Nat
  payload : Nat
  srcIp : List Byte
  dstIp : List Byte
  dstMac : List Byte
  vlanOuter : Nat
  vlanInner : Nat
  tags : Nat
  dscp : Nat
  sqPsn : Nat
  rqPsn : Nat
  paths : Nat
  entropy : Nat
  rtoBase : Nat
  retryLimit : Nat
  coalesce : Nat
  ackDelay : Nat
  maxReads : Nat
  maxAtomics : Nat
  sa : Nat
  recvLoc : Nat
  recvLog : Nat
  recvSize : Nat
  recvBase : Nat
  remoteSlots : Nat
  deriving DecidableEq, Repr

/-- The defaults at INIT (R253). -/
def QpAttr.default (qpn : Nat) : QpAttr :=
  { given := 0, destQpn := 0, remoteInc := 0, remoteEpoch := 0, port := 0, payload := 2, srcIp := [], dstIp := [], dstMac := [],
    vlanOuter := 0, vlanInner := 0, tags := 0, dscp := 0, sqPsn := 0, rqPsn := 0, paths := 16, entropy := qpn % 2 ^ 14,
    rtoBase := 64, retryLimit := 7, coalesce := 8, ackDelay := 4, maxReads := 8, maxAtomics := 16, sa := 0, recvLoc := 0,
    recvLog := 4, recvSize := 4096, recvBase := 0, remoteSlots := 0 }

/-- What a request of a QP was made for: a ring entry of the owning function, a SEND of a job (R112), or a hand packet
(R222). -/
inductive HrtOrigin where
  | entry (idx : Nat)
  | job (drawer work : Nat)
  | hand (table seq : Nat)
  deriving DecidableEq, Repr

/-- The ring entry that a request was made for. -/
def HrtOrigin.index : HrtOrigin → Option Nat
  | .entry i => some i
  | _ => none

/-- A request of a QP as requester (R260): a message, a read, an atomic, a FLUSH or a hand packet. -/
structure HrtReq where
  origin : HrtOrigin
  /-- The packet opcode of R239. -/
  op : Nat
  len : Nat
  key : Nat
  roff : Nat
  imm : Option Nat
  peg : Option Nat
  operand : Nat
  compare : Nat
  /-- The local buffer of an entry; the bytes of a job's SEND or a hand packet are given. -/
  buf : BufRef
  given : List Byte
  /-- The pages of the local buffer translated so far, in order (R292), and the page whose move it waits for, once counted in
  MOVE_WAITS (R148). -/
  pieces : List Piece
  waited : Option Nat
  /-- PSNs in all, PSNs sent, and the first PSN once one has been sent. -/
  count : Nat
  sent : Nat
  first : Nat
  /-- SEND_INDEX of a SEND that has started (R265). -/
  index : Nat
  /-- READ: PSN offsets whose response has been placed. -/
  placed : List Nat
  /-- The local status kept for the end: DATA_PARITY after a response that could not be placed (R262). -/
  kept : Nat
  /-- Finished with this status; the completion waits for the earlier ones (R275). -/
  status : Option Nat
  deriving DecidableEq, Repr

/-- A request packet that the responder has accepted, held or executes, as it was parsed (R239 to R243). -/
structure HrtPkt where
  op : Nat
  first : Bool
  last : Bool
  ackReq : Bool
  sig : Bool
  immSet : Bool
  sec : Bool
  destInc : Nat
  destQpn : Nat
  destEpoch : Nat
  psn : Nat
  srcInc : Nat
  srcQpn : Nat
  msgOff : Nat
  msgLen : Nat
  imm : Nat
  sendIndex : Nat
  peg : Nat
  key : Nat
  roff : Nat
  len : Nat
  readPs : Nat
  operand : Nat
  compare : Nat
  /-- The acknowledgement extension of an ACK (R244). -/
  ack : List Byte
  payload : List Byte
  /-- The authenticated data and the tag of a secure packet (R421). -/
  aad : List Byte
  tag : List Byte
  /-- It arrived with CE, or its port marked it; the marks count once it is accepted (R257, R298). And the cells that its frame
  took (R314), which its drawer holds while it is held (R264). -/
  ce : Bool := false
  marked : Bool := false
  cells : Nat := 0
  deriving DecidableEq, Repr

/-- A packet of class 1 or 2 of R276 that waits to leave: an acknowledgement of the QP, a reply of R259 as a whole frame
bound for a sub-port, or a response as header with its extensions and payload. -/
inductive HrtReply where
  | ack (ext : List Byte)
  | stale (port lane tc : Nat) (frame : List Byte)
  | response (op psn : Nat) (first last : Bool) (ext payload : List Byte)
  deriving DecidableEq, Repr

/-- A reply of R259, which any QP sends whatever its state. -/
def HrtReply.isStale : HrtReply → Bool
  | .stale _ _ _ _ => true
  | _ => false

/-- The effects of a message recorded at its LAST packet (R263). -/
structure HrtEffect where
  psn : Nat
  write : Bool
  len : Nat
  imm : Option Nat
  index : Nat
  peg : Option Nat
  /-- The ordering read of R159 that has been issued, and whether it has completed. -/
  asked : Option Nat
  ordered : Bool
  deriving DecidableEq, Repr

/-- A request that is being executed in PSN order (R264): an atomic whose AtomicOp is out at a bus address, or a FLUSH that waits. -/
inductive HrtBusy where
  | atomic (pkt : HrtPkt) (port addr : Nat)
  | flush (pkt : HrtPkt)
  deriving DecidableEq, Repr

/-- A requester stall (R292, R294): the DVA of the page, whether it is to be written, the time of the first
PAGE_REQUEST, and the PAGE_WAIT_LIMIT in ms that was in force then (R297). -/
structure HrtStall where
  page : Nat
  write : Bool
  since : Nat
  limit : Nat
  deriving DecidableEq, Repr

/-- The congestion record as a QP has it in force, since its last event or timer expiry (R303): CC_ENABLE, STEP_ECN, STEP_MAX,
HOLD_INTERVAL, PRESSURE_WINDOW, CLIMB_INTERVAL, CLIMB_RUN, STEP_LOSS and RATE_MIN. -/
structure RateSet where
  enable : Bool
  stepEcn : Nat
  stepMax : Nat
  hold : Nat
  window : Nat
  interval : Nat
  run : Nat
  stepLoss : Nat
  rateMin : Nat
  deriving DecidableEq, Repr

/-- The record's defaults (R303). -/
def RateSet.default : RateSet := ⟨true, 4, 12, 40, 200, 30, 6, 8, 100⟩

/-- One queue pair (R250). PSNs are kept without wrapping, counted on from SQ_PSN and RQ_PSN: the wire carries them modulo
2^24 (R245), and the distance from SQ_PSN or RQ_PSN is the count of R419. -/
structure Qp where
  state : QpState
  /-- The function that moved it out of RESET (R252). -/
  owner : Option Nat
  incarnation : Nat
  /-- No INIT before this time (R255). -/
  quarantine : Nat
  attr : QpAttr
  /-- The transmission counter k (R261). -/
  k : Nat
  /-- Requester. -/
  una : Nat
  next : Nat
  reqs : List HrtReq
  kept : Sparse (List Byte)
  rtx : List Nat
  /-- They are due at the end of a NAK_PAGE wait (R296) and not by the timer, and so do not count as sent again under R270 (R277). -/
  rtxPage : Bool
  sack : Nat
  sendIndex : Nat
  sendLimit : Nat
  retries : Nat
  timeout : Nat
  timerAt : Option Nat
  waitUntil : Option Nat
  /-- The lowest NAK_PSN of the wait, and when each PSN was first refused (R296). -/
  waitFrom : Nat
  nakSeen : List (Nat × Nat)
  stall : Option HrtStall
  /-- Responder. -/
  ePsn : Nat
  arrived : Nat
  ackReqs : List Nat
  held : List HrtPkt
  busy : Option HrtBusy
  effects : List HrtEffect
  /-- Where the packets not yet passed put bytes behind PCIe ports, in PSN order (R159). -/
  spots : List (Nat × List Piece)
  /-- Per port, the last address written since the last executed FLUSH, plus one, and the reads that the executing FLUSH waits for (R289). -/
  flushBus : Sparse Nat
  flushReads : List Nat
  atomics : List (Nat × Nat)
  recvLimit : Nat
  /-- The region of the receive ring has been deregistered (R265). -/
  ringLost : Bool
  ece : Bool
  coalesced : Nat
  ackAt : Option Nat
  reported : Option Nat
  /-- The fatal NAK that the responder has sent (R269): syndrome and PSN. -/
  fatal : Option (Nat × Nat)
  /-- Packets that wait to leave in classes 1 and 2 (R276). -/
  replies : List HrtReply
  /-- Rate control (R299 to R302). -/
  rung : Nat
  pressure : Nat
  clean : Nat
  lastEcn : Option Nat
  lastCut : Option Nat
  climbAt : Option Nat
  rate : RateSet
  bucket : Bucket
  /-- The keys of a secure QP (R418). -/
  txKey : List Byte
  rxKey : List Byte
  deriving DecidableEq, Repr

/-- A context in RESET. -/
def Qp.reset (qpn inc quarantine : Nat) : Qp :=
  { state := .reset, owner := none, incarnation := inc, quarantine := quarantine, attr := QpAttr.default qpn, k := 0, una := 0,
    next := 0, reqs := [], kept := [], rtx := [], rtxPage := false, sack := 0, sendIndex := 0, sendLimit := 0, retries := 0, timeout := 0,
    timerAt := none, waitUntil := none, waitFrom := 0, nakSeen := [], stall := none, ePsn := 0, arrived := 0, ackReqs := [],
    held := [], busy := none, effects := [], spots := [], flushBus := [], flushReads := [], atomics := [], recvLimit := 0,
    ringLost := false, ece := false, coalesced := 0, ackAt := none, reported := none, fatal := none, replies := [], rung := 0, pressure := 0,
    clean := 0, lastEcn := none, lastCut := none, climbAt := none, rate := RateSet.default, bucket := ⟨0, 0⟩, txKey := [], rxKey := [] }

/-- An AtomicOp whose QP has left the state in which it was issued: its completion still changes the memory (R286). -/
structure StrayAtomic where
  qp : Nat
  fid : Nat
  port : Nat
  addr : Nat
  pkt : HrtPkt
  deriving DecidableEq, Repr

/-- Bytes that a message of a QP has placed and that another may not have followed yet (R262): the QP, whether as requester, the first PSN of
the message, the packet's PSN, the bytes, and whether the packet is the message's LAST. -/
structure HrtPlace where
  qp : Nat
  requester : Bool
  msg : Nat
  psn : Nat
  pieces : List Piece
  last : Bool
  deriving DecidableEq, Repr

structure HrtState where
  qps : Sparse Qp
  strays : List StrayAtomic
  /-- Placements of messages that their senders cannot yet know to be complete (R262). -/
  placed : List HrtPlace
  /-- QPNs whose contexts are cached, most recently used first (R250). -/
  cached : List Nat
  /-- The rotating pointer of each pipeline's offer, by 4,096 × sub-port + 64 × class + precedence and pipeline (R276). -/
  pointer : Sparse Nat
  deriving DecidableEq, Repr

def HrtState.reset : HrtState := { qps := [], strays := [], placed := [], cached := [], pointer := [] }

end Sys2Proof.Machine
end

