-- ==== Sys2Proof/Machine/StateHands.lean ====
section
/-! DEFINITION. Machine/StateHands.lean: the state of "Tables and hands": one context for each table ID, with the hand that
runs on it, its streams, its staging and its end-of-hand round. -/

namespace Sys2Proof.Machine

/-- A member record (R196). -/
structure Member where
  module : Nat
  group : Nat
  /-- QPN of the record, while its VALID bit is set. -/
  qp : Option Nat
  landing : Nat
  deriving DecidableEq, Repr

/-- A deal block (R196). -/
structure Deal where
  key : Nat
  count : Nat
  rank : Nat
  groups : Nat
  algorithms : Nat
  outer : Nat
  depth : Nat
  /-- DEADLINE in µs, with 0 read as 100,000. -/
  deadline : Nat
  members : List Member
  deriving DecidableEq, Repr

/-- A hand packet (R219). -/
structure HandPkt where
  key : Nat
  seq : Nat
  sig : Nat
  kind : Nat
  status : Nat
  src : Nat
  dst : Nat
  failed : Nat
  step : Nat
  element : Nat
  data : List Byte
  deriving DecidableEq, Repr

/-- One operand of a combining step: the member's own contribution, or what a rank sends in a step. -/
inductive HandSrc where
  | own
  | from (rank step : Nat)
  deriving DecidableEq, Repr

/-- What a stream's elements are made of. -/
inductive HandForm where
  /-- Elements of the hand's type. -/
  | plain
  /-- The narrowing of R214 of the folded sources, in blocks of 32. -/
  | narrow
  /-- Narrowed blocks, passed on unchanged. -/
  | blocks
  /-- The sources are narrowed blocks; their widened sum is formed (R213). -/
  | widen
  deriving DecidableEq, Repr

/-- A stream of a hand: the elements lo … hi − 1 of the hand's buffer, each the fold of `srcs` in order, written to the
member's DST at `toDst + (element − lo)` and sent to the ranks of `sends` under a step. `pos` is the next element, and `built` the folded
elements before it that the packet being formed has so far: codes, or for blocks passed on an element's byte and its scale × 256. -/
structure HandStream where
  lo : Nat
  hi : Nat
  srcs : List HandSrc
  form : HandForm
  /-- Element of the member's SRC that stands for element lo. -/
  ownAt : Nat
  toDst : Option Nat
  sends : List Nat
  step : Nat
  pos : Nat
  built : List Nat
  deriving DecidableEq, Repr

/-- The hand that runs on a context. -/
structure Hand where
  entry : Nat
  seq : Nat
  op : Nat
  type : Nat
  redop : Nat
  alg : Nat
  root : Nat
  count : Nat
  sig : Nat
  src : List Piece
  dst : List Piece
  startedAt : Nat
  /-- The local status and the rank it names. -/
  status : Nat
  failed : Nat
  streams : List HandStream
  /-- Step 4 of R215 is done: the buffers are translated, and the member has joined. -/
  joined : Bool
  /-- Staged DATA packets (R223). -/
  staged : List HandPkt
  /-- What a leader holds of the Q_g that have gone round so far (R213); they have left the staging. -/
  held : List HandPkt
  /-- Credits spent at each rank (R224). -/
  spent : Sparse Nat
  /-- DATA packets sent and not acknowledged. -/
  outstanding : Nat
  doneSent : Bool
  /-- A leader has sent its group's DONE (R227). -/
  groupSent : Bool
  relayed : Bool
  /-- Reports of the group, and at rank 0 of the other leaders: rank, status, failed rank (R228). -/
  reports : List (Nat × Nat × Nat)
  deriving DecidableEq, Repr

/-- A table context (R194). -/
structure Table where
  fid : Nat
  deal : Deal
  cells : Nat
  /-- The number of this deal: what packets of an earlier one come to is no matter of this one (R202, R233). -/
  deals : Nat
  seq : Nat
  running : Option Hand
  /-- Ring indices of HAND_STARTs that wait (R216). -/
  queue : List Nat
  /-- Hand packets taken and not yet used, oldest first (R223). -/
  inbox : List HandPkt
  /-- An end of a packet that has not yet been told to the hand: the packet's mark and the status. -/
  ends : List (Nat × Nat)
  lastStatus : Nat
  lastFailed : Nat
  deriving DecidableEq, Repr

structure HandState where
  /-- Contexts by table ID (R194). -/
  tables : Sparse (Option Table)
  /-- Deals made so far. -/
  deals : Nat
  deriving DecidableEq, Repr

def HandState.reset : HandState := { tables := [], deals := 0 }

end Sys2Proof.Machine
end

