-- ==== Sys2Proof/Machine/StateLedger.lean ====
section
/-! DEFINITION. Machine/StateLedger.lean: the ledger's stored values and their flash copies, Jorol's sessions and
credentials, the PF0 mailbox, the heartbeat watchdog, and the fault collector. -/

namespace Sys2Proof.Machine

/-- The key of one instance of an object: index, subindex, instance. -/
def objKey (idx sub inst : Nat) : Nat := (idx * 256 + sub) * 65536 + inst

/-- THRESHOLD, WINDOW and ACTION of a scorecard source before the Owner first writes them (R471). -/
def sourceDefault (source sub : Nat) : Nat :=
  if sub = 1 then
    if source = 5 ∨ source = 6 ∨ source = 10 then 16 else if source = 7 then 64 else if source = 11 then 8
    else if source = 12 then 4 else 1
  else if sub = 2 then 100000000
  else if sub = 3 then
    if source = 1 ∨ source = 13 ∨ (16 ≤ source ∧ source ≤ 23) then 3
    else if source = 2 ∨ source = 14 then 2
    else if source = 15 ∨ 24 ≤ source then 0 else 1
  else 0

/-- The default of a numeric object (R453 and the chapters' tables), by object key. Defaults that depend on the instance
are those of R366 (drawer 0), R441 (credential 0) and R471 (sources). -/
def objDefault (key : Nat) : Nat :=
  let inst := key % 65536
  let sub := key / 65536 % 256
  let idx := key / 16777216
  if 0x2240 ≤ idx ∧ idx ≤ 0x227F then sourceDefault (idx - 0x2240) sub
  else if idx = 0x2300 then
    if inst = 0 then
      (if sub = 3 then 4096 else if sub = 5 then 1024 else if sub = 6 then 4096 else if sub = 8 then 4 else if sub = 9 then 64 else 0)
    else 0
  else if idx = 0x2D10 ∧ sub = 1 then 1
  else if idx = 0x2101 ∧ sub = 1 then (if Config.classE then 600 else 950)
  else if idx = 0x1000 ∧ sub = 4 then bnat Config.classE
  else if idx = 0x1001 ∧ sub = 1 then Config.romVersion % 2 ^ 32
  else match objInfo idx sub with
    | some o => o.dflt
    | none => 0

/-- A factory address: of En with the last byte's bits [1:0] zero, or of M0 at 8 (R456). -/
def factoryMac (n : Nat) : List Byte :=
  (List.range 6).map fun i => if n < 8 ∧ i = 5 then Config.factoryMac n i &&& 0xFC else Config.factoryMac n i

/-- The default of an object held as bytes, by object key. -/
def blobDefault (key : Nat) : List Byte :=
  let sub := key / 65536 % 256
  let idx := key / 16777216
  if idx = 0x2402 ∧ sub = 1 then 16 :: List.replicate 127 15
  else if 0x2500 ≤ idx ∧ idx < 0x2580 ∧ idx % 16 = 1 ∧ sub = 3 then (List.range 8).map (BitVec.ofNat 8)
  else if 0x2500 ≤ idx ∧ idx < 0x2580 ∧ idx % 16 = 1 ∧ sub = 4 then (List.range 64).map fun d => BitVec.ofNat 8 (d / 8)
  else if idx = 0x2801 ∧ (sub = 1 ∨ sub = 2) then List.replicate 256 0xFF
  else if 0x2610 ≤ idx ∧ idx ≤ 0x2617 ∧ (sub = 5 ∨ sub = 12) then
    leBytes 8 0x000186A0000000FF ++ List.replicate 2040 0
  else if idx = 0x1000 ∧ sub = 3 then
    (if Config.classE then [0x51, 0x4B, 0x2D, 0x34, 0x38, 0x30, 0x2D, 0x45] else [0x51, 0x4B, 0x2D, 0x34, 0x38, 0x30, 0x2D, 0x41])
  else if idx = 0x1000 ∧ sub = 5 then [0x42, 0x30]
  else if idx = 0x1000 ∧ sub = 6 then (List.range 16).map Config.serial
  else if idx = 0x1003 ∧ sub = 1 then (List.range 8).flatMap factoryMac
  else if (idx = 0x1003 ∧ sub = 2) ∨ (idx = 0x2580 ∧ sub = 4) then factoryMac 8
  else if 0x2500 ≤ idx ∧ idx < 0x2580 ∧ idx % 16 = 0 ∧ sub = 5 then factoryMac ((idx - 0x2500) / 16)
  else match objInfo idx sub with
    | some o => (match o.ty with
      | .octets n => List.replicate n 0
      | _ => [])
    | none => []

/-- A NOTIFY not yet acknowledged (R449). -/
structure Notify where
  sequence : Nat
  code : Nat
  subject : Nat
  record : List Byte
  sentAt : Nat
  deriving DecidableEq, Repr

/-- A Jorol session (R442, R444, R449). `key` is none while the session is half-open. -/
structure Session where
  id : Nat
  credential : Nat
  clientNonce : List Byte
  deviceNonce : List Byte
  key : Option (List Byte)
  openedAt : Nat
  lastUse : Nat
  lastSeq : Nat
  cached : List Byte
  mask : Nat
  notifyCtr : Nat
  unacked : List Notify
  waiting : List PendingEvent
  deriving DecidableEq, Repr

/-- An open segmented write of a DOMAIN object (R447). -/
structure DomainWrite where
  key : Nat
  session : Nat
  total : Nat
  received : List Byte
  lastAt : Nat
  deriving DecidableEq, Repr

/-- A snapshot taken by a DOMAIN_READ at offset 0 (R447). -/
structure Snapshot where
  key : Nat
  session : Nat
  value : List Byte
  deriving DecidableEq, Repr

/-- The heartbeat watchdog (R451). -/
inductive Watchdog where
  | disarmed
  | armed (deadline : Nat)
  | expired
  deriving DecidableEq, Repr

structure LedgerState where
  /-- Numeric objects by object key; an unlisted one holds its default. -/
  vals : Sparse Nat
  /-- Objects held as bytes. -/
  blobs : Sparse (List Byte)
  /-- The stored values of objects with /F (R436). -/
  flashVals : Sparse Nat
  flashBlobs : Sparse (List Byte)
  /-- Objects with /F written and not yet copied into flash, oldest first (R436). -/
  flashDue : List Nat
  /-- The values in force of MODULE_ID, UDP_PORT and JOROL_PORT, whose writes take effect at the next reset that returns the
  device to Stage 1. -/
  force : Sparse Nat
  /-- Event counters 0x5000–0x5FFF and the source records' counts (R12). -/
  ctrs : Sparse Nat
  /-- Free values by which a counter has risen beside what `ctrs` holds, by the number of each draw: the manual says what such a counter
  counts and gives no figure for it (log 118). -/
  rises : Sparse (List (Nat × Nat))
  /-- The time, plus 1, of each counter's last free rise. -/
  riseAt : Sparse Nat
  /-- Secrets of the 32 credentials; none is EMPTY (R441). -/
  secrets : Sparse (Option (List Byte))
  /-- Consecutive failed AUTHs of a credential, and until when its HELLOs go unanswered (R442). -/
  authFails : Sparse Nat
  helloBlocked : Sparse Nat
  /-- Sessions by slot 1–16. -/
  sessions : Sparse (Option Session)
  /-- Open segmented writes and snapshots of DOMAIN objects (R447). -/
  domains : List DomainWrite
  snapshots : List Snapshot
  /-- The chunk command in progress: CHUNK_FIRST, CHUNK_COUNT and CHUNK_TARGET as they stood at its GO (R368). -/
  chunkRun : Option (Nat × Nat × Nat)
  /-- The PF0 mailbox (R445). A request is handled at its doorbell, so BUSY is not seen set (log 95). -/
  mbBase : Nat
  mbDone : Nat
  mbIntEn : Bool
  mbBusy : Bool
  mbError : Bool
  watchdog : Watchdog
  deriving DecidableEq, Repr

def LedgerState.reset : LedgerState :=
  { vals := [], blobs := [], flashVals := [], flashBlobs := [], flashDue := [], force := [], ctrs := [], rises := [], riseAt := [], secrets := [], authFails := [],
    helloBlocked := [], sessions := [], domains := [], snapshots := [], chunkRun := none, mbBase := 0, mbDone := 0, mbIntEn := false,
    mbBusy := false, mbError := false, watchdog := .disarmed }

/-- A scorecard source's line (R469, R470): asserted, sampled asserted, held deasserted until one more tick, and raised again during that
hold; a rise of one tick alone (R478, or a condition that has ended unsampled), and the tick, plus 1, at which it was last sampled
deasserted after a hold. -/
structure FaultLine where
  up : Bool
  sampled : Bool
  hold : Bool
  again : Bool
  pulse : Bool
  downAt : Nat
  deriving DecidableEq, Repr

def FaultLine.down : FaultLine := ⟨false, false, false, false, false, 0⟩

/-- The line falls: held deasserted until it has been sampled so. -/
def FaultLine.fallen (l : FaultLine) : FaultLine := { FaultLine.down with hold := true, downAt := l.downAt }

/-- The reset causes, in the order of LAST_RESET_CAUSE (R457). -/
inductive ResetCause where
  | powerUp
  | perst0
  | command
  | scorecard
  | watchdog
  | p0LinkLoss
  deriving DecidableEq, Repr

def ResetCause.code : ResetCause → Nat
  | .powerUp => 0
  | .perst0 => 1
  | .command => 2
  | .scorecard => 3
  | .watchdog => 4
  | .p0LinkLoss => 5

/-- An injection in progress (R478): source, rises left, interval in ticks, time of the next rise. -/
structure Injection where
  source : Nat
  left : Nat
  interval : Nat
  next : Nat
  deriving DecidableEq, Repr

structure FaultState where
  lines : Sparse FaultLine
  /-- SCORECARD, SEVERE and the faulting sources as masks (R459, R476). -/
  scorecard : Nat
  severe : Nat
  faulting : Nat
  /-- The tick at which each source's run of windows began, and the window of its last event (R473). -/
  runStart : Sparse Nat
  lastWindow : Sparse Nat
  /-- Sources cleared at the last tick, and which of them were severe and faulting: R477's return at the next tick. -/
  cleared : Nat
  clearedSevere : Nat
  clearedFaulting : Nat
  /-- The boot ROM holds FAULT_N (R476). -/
  bootFault : Bool
  injection : Option Injection
  /-- A full reset whose cause has come and which has not begun (R480): the cause and its time. -/
  resetDue : Option (ResetCause × Nat)
  /-- A reset has begun and Stage 1 has not been reached again (R482). -/
  inReset : Bool
  /-- ALERT_N is asserted for a standby wake (R329). -/
  wakeAlert : Bool
  deriving DecidableEq, Repr

def FaultState.reset : FaultState :=
  { lines := [], scorecard := 0, severe := 0, faulting := 0, runStart := [], lastWindow := [], cleared := 0,
    clearedSevere := 0, clearedFaulting := 0, bootFault := false, injection := none, resetDue := none, inReset := false, wakeAlert := false }

/-- What the block has sent to the outside, newest last: the model's own record of frames, packets, messages and
notifications. -/
inductive Output where
  /-- A frame that a sub-port has sent. -/
  | frame (port lane : Nat) (bytes : List Byte)
  /-- A Derone packet that a D port has sent. -/
  | derone (port vc : Nat) (packet : List Byte)
  /-- A control word of a D port's input: OFF (true) or ON of a virtual channel (R179). -/
  | deroneFlow (port vc : Nat) (stop : Bool)
  /-- What a D port that trains sends to its partner: this module's ID and the port's number (R168). -/
  | deroneTraining (port module : Nat)
  /-- An MSI-X message: function, vector, address and data. -/
  | msix (fid vector address data : Nat)
  /-- A Jorol message sent on M0. -/
  | jorol (message : List Byte)
  /-- A PCIe request that is not a memory write: an AtomicOp or an ordering read, by its number, with the function whose requester ID it
  carries. -/
  | pcieRequest (port fid : Nat) (address : Nat) (bytes : List Byte)
  /-- The value that a register read returns to the host. -/
  | regRead (fid offset value : Nat)
  /-- What the selected test data register shifts out at TDO: its width and its bits (R521). -/
  | tdo (width value : Nat)
  /-- A PMBus read on PMB_SCL and PMB_SDA: 7-bit address, page and command, with packet error checking (R497). -/
  | pmbus (address page command : Nat)
  /-- An NVMe/TCP PDU sent on a connection. -/
  | nvme (conn : Nat) (pdu : List Byte)
  deriving DecidableEq, Repr

end Sys2Proof.Machine
end

