-- ==== Sys2Proof/Machine/StateKeys.lean ====
section
/-! DEFINITION. Machine/StateKeys.lean: the state of "Cipher engine, keys and device trust": key slots, KEKs, the key cache,
the exchange key, and the firmware banks of the boot chain. -/

namespace Sys2Proof.Machine

/-- A key slot (R411). -/
structure KeySlot where
  type : Nat
  wrapped : List Byte
  /-- 0 EMPTY, 1 LOADED, 2 READY, 3 UNWRAP_FAILED. -/
  state : Nat
  id : List Byte
  deriving DecidableEq, Repr

def KeySlot.empty : KeySlot := ⟨0, [], 0, List.replicate 8 0⟩

structure CipherState where
  /-- Slots by 4,096 × drawer + slot (R411). -/
  slots : Sparse KeySlot
  /-- The KEK of each drawer; empty while there is none (R412). -/
  keks : Sparse (List Byte)
  /-- Slots whose keys the engine's cache holds, most recently used first (R414). -/
  cache : List Nat
  /-- The private half of the exchange key, 48 bytes (R412). -/
  exchange : List Byte
  /-- Firmware images by bank: 0 A, 1 B, 2 recovery (R425, R426), and whether the last check of A or B passed (R428). -/
  banks : Sparse (List Byte)
  bankOk : Sparse Nat
  /-- Blown fuses of the security version (R427), and the revocation fuses of the four root keys, as a mask (R425). -/
  fusedSvn : Nat
  revoked : Nat
  /-- The image that runs: its bank, 0 A, 1 B, 2 recovery, while the boot checks have passed. -/
  running : Option Nat
  /-- The five measurements of R429, 240 bytes, and the index of the root key that signed the running manifest. -/
  measured : List Byte
  rootKey : Nat
  deriving DecidableEq, Repr

def CipherState.reset : CipherState :=
  { slots := [], keks := [], cache := [], exchange := [], banks := [], bankOk := [], fusedSvn := 0, revoked := 0, running := none,
    measured := List.replicate 240 0, rootKey := 0 }

end Sys2Proof.Machine
end

