-- ==== Sys2Proof/Machine/StatePower.lean ====
section
/-! DEFINITION. Machine/StatePower.lean: the state of "Clocks, bring-up and power" and of the pins and the test access port
of "Package, lands and electrical characteristics". -/

namespace Sys2Proof.Machine

/-- The TAP instructions of R521. -/
inductive TapInstr where
  | extest
  | idcode
  | samplePreload
  | clamp
  | highz
  | bypass
  deriving DecidableEq, Repr

/-- The instruction register's code (R521). -/
def TapInstr.code : TapInstr → Nat
  | .extest => 0x00
  | .idcode => 0x01
  | .samplePreload => 0x02
  | .clamp => 0x06
  | .highz => 0x07
  | .bypass => 0xFF

structure PowerState where
  /-- Every main rail is good (R490), and which of the seven has left its range since. -/
  mainUp : Bool
  railsOut : Nat
  /-- VDD_AUX is in its range (R515). -/
  auxOk : Bool
  rootLocked : Bool
  /-- D ports and sub-ports that a loss of ROOT took down, as masks, and the P1 link: their passages to DOWN are told at the
  restart (R487). -/
  lostD : Nat
  lostE : Nat
  lostP1 : Bool
  /-- When the last reset under R25 began. -/
  resetAt : Nat
  /-- The device time counter in units of 2^−32 ns (R488), and a TIME_STEP due at the next tick. -/
  time : Nat
  stepDue : Option Int
  /-- The reset pins, true while asserted. -/
  perst0 : Bool
  perst1 : Bool
  /-- Factory test mode, as sampled when the boot ROM last started (R520). -/
  testmode : Bool
  /-- Test mode goes on through the next start of the boot ROM, because an injection ended at the reset before it (R478). -/
  testKept : Bool
  /-- PERST0_N keeps the device in reset after a full reset is complete (R480). -/
  held : Bool
  /-- VOUT_MODE of each rail's regulator, as read at Stage 0 (R498). -/
  voutMode : Sparse Nat
  /-- The full reset's discards are complete and the boot ROM may run (R480). -/
  bootReady : Bool
  /-- The boot checks have passed (R425), or the boot ROM stays at Stage 0 (R426). -/
  booted : Bool
  bootStuck : Bool
  /-- The instant D of R492. -/
  dAt : Option Nat
  /-- Stacks brought up or left OFF so far (R493), the lanes calibrated (R494), stacks trimmed or passed over, and clock steps made
  or passed over, with the time of the last (R76). -/
  stacksDone : Nat
  calibrated : Bool
  trimsDone : Nat
  stepsDone : Nat
  lastStepAt : Nat
  /-- k_p of R499 and k_t(d) of R502. -/
  kp : Nat
  kt : Sparse Nat
  /-- Last good reading (mV, mA) of each rail, and consecutive samples without an answer (R498). -/
  railMv : Sparse Nat
  railMa : Sparse Nat
  railMisses : Sparse Nat
  /-- Energy in µJ that ENERGY does not hold yet (R465). -/
  energyRest : Nat
  /-- The governor has sampled the rails, and read the sensors, since the last reset (R498, R501). -/
  sampled : Bool
  thermed : Bool
  /-- THERMTRIP_N is asserted (R503). -/
  tripped : Bool
  /-- PPS_OUT is high until this time (R519). -/
  ppsOutUntil : Option Nat
  /-- PPS_OUT must rise at this tick: the counter has reached or passed a whole second (R489). -/
  ppsDue : Bool
  /-- Time of the last captured PPS_IN edge (R489). -/
  ppsInAt : Option Nat
  /-- The wake record's copy in the VDD_AUX domain (R328): WAKE_ENABLE and the eight patterns. -/
  wakeEnable : Nat
  wakePatterns : List (List Byte)
  /-- The detector has woken in this standby period (R329). -/
  woken : Bool
  /-- The TAP's instruction, its boundary register of 17 cells and its bypass bit (R521). -/
  tap : TapInstr
  boundary : Nat
  bypassBit : Bool
  deriving DecidableEq, Repr

def PowerState.reset : PowerState :=
  { mainUp := false, railsOut := 0, auxOk := true, rootLocked := false, lostD := 0, lostE := 0, lostP1 := false, resetAt := 0, time := 0, stepDue := none,
    perst0 := true, perst1 := true, testmode := false, testKept := false, held := false, voutMode := [], bootReady := false, booted := false, bootStuck := false, dAt := none,
    stacksDone := 0, calibrated := false, trimsDone := 0, stepsDone := 0, lastStepAt := 0, kp := 0, kt := [],
    railMv := [], railMa := [], railMisses := [], energyRest := 0, sampled := false, thermed := false, tripped := false, ppsOutUntil := none, ppsDue := false, ppsInAt := none,
    wakeEnable := 0x0100, wakePatterns := [], woken := false, tap := .idcode, boundary := 0, bypassBit := false }

end Sys2Proof.Machine
end

