-- ==== Sys2Proof/Machine/State.lean ====
section
/-! DEFINITION. Machine/State.lean: the whole state of the block, its faults and refusals, and the state after reset. -/

namespace Sys2Proof.Machine

/-- The reasons a command can stop the block. The manual says "The device has no behaviour that is left open": every
failure it describes is a status, an event, a counter or a discarded packet, and so a next state. No command raises a
fault. -/
inductive Fault where
  deriving DecidableEq, Repr

/-- The reasons a command has no meaning here. -/
inductive Refusal where
  /-- The command's meaning has not been written. Raised by Dispatch alone; safe. -/
  | notModelled (mnemonic : String)
  deriving DecidableEq, Repr

structure State where
  /-- Commands that wait, first in, first out. -/
  pending : List Instr
  /-- Time in picoseconds since power-good. -/
  now : Nat
  /-- How many free values have been drawn (the model's own field, log 2). -/
  drawn : Nat
  mem : MemState
  cmp : ComputeState
  ring : RingState
  fab : FabricState
  eth : EthState
  clu : ClusterState
  hrt : HrtState
  hands : HandState
  led : LedgerState
  cipher : CipherState
  flt : FaultState
  pw : PowerState
  /-- Everything sent to the outside so far, newest last (the model's own field). -/
  out : List Output
  deriving DecidableEq, Repr

/-- The machine after reset. -/
def State.reset : State :=
  { pending := [], now := 0, drawn := 0, mem := MemState.reset, cmp := ComputeState.reset, ring := RingState.reset, fab := FabricState.reset, eth := EthState.reset, clu := ClusterState.reset, hrt := HrtState.reset, hands := HandState.reset,
    led := LedgerState.reset, cipher := CipherState.reset, flt := FaultState.reset, pw := PowerState.reset, out := [] }

end Sys2Proof.Machine
end

