-- ==== Sys2Proof/Machine/Ops.lean ====
section
/-! DEFINITION. Machine/Ops.lean: the named operations that every chapter's commands share: ledger objects and counters,
the fault collector's lines, events, records on the completion ring and their staging, entries in flight, host and
device memory, and free values. -/

namespace Sys2Proof.Machine

namespace State

/-! Ledger objects and counters -/

/-- A numeric object of the ledger. -/
def obj (s : State) (idx sub : Nat) (inst : Nat := 0) : Nat := Sparse.get objDefault s.led.vals (objKey idx sub inst)

/-- Set a numeric object. -/
def setObj (s : State) (idx sub inst v : Nat) : State :=
  { s with led := { s.led with vals := Sparse.set objDefault s.led.vals (objKey idx sub inst) v } }

/-- An object held as bytes. -/
def blob (s : State) (idx sub : Nat) (inst : Nat := 0) : List Byte := Sparse.get blobDefault s.led.blobs (objKey idx sub inst)

def setBlob (s : State) (idx sub inst : Nat) (v : List Byte) : State :=
  { s with led := { s.led with blobs := Sparse.set blobDefault s.led.blobs (objKey idx sub inst) v } }

/-- A written object with /F is copied into flash within 1 s (R436). -/
def markFlash (s : State) (idx sub inst : Nat) : State :=
  match objInfo idx sub with
  | some o =>
    if o.flash && !s.led.flashDue.contains (objKey idx sub inst) then
      { s with led := { s.led with flashDue := s.led.flashDue ++ [objKey idx sub inst] } }
    else s
  | none => s

/-- A write of a numeric object takes effect. -/
def putObj (s : State) (idx sub inst v : Nat) : State := (s.setObj idx sub inst v).markFlash idx sub inst

/-- A write of an object held as bytes takes effect. -/
def putBlob (s : State) (idx sub inst : Nat) (v : List Byte) : State := (s.setBlob idx sub inst v).markFlash idx sub inst

/-- An event counter (R12). -/
def ctr (s : State) (idx sub : Nat) : Nat := s.led.ctrs.num (objKey idx sub 0)

def setCtr (s : State) (idx sub v : Nat) : State :=
  { s with led := { s.led with ctrs := s.led.ctrs.setNum (objKey idx sub 0) v } }

/-- Count n occurrences: a U64 counter saturates (R12). -/
def count (s : State) (idx sub n : Nat) : State :=
  if n = 0 then s else s.setCtr idx sub (satAdd 64 (s.ctr idx sub) n)

/-- The free rises of a counter: each draw's number and its time. -/
def rises (s : State) (idx sub : Nat) : List (Nat × Nat) := Sparse.get (fun _ => []) s.led.rises (objKey idx sub 0)

/-- A counter rises by an amount that the manual gives no figure for: a free value. -/
def countFree (s : State) (idx sub : Nat) : State :=
  { s with
    drawn := s.drawn + 1,
    led := { s.led with
      rises := Sparse.set (fun _ => []) s.led.rises (objKey idx sub 0) (s.rises idx sub ++ [(s.drawn, s.now)]),
      riseAt := s.led.riseAt.setNum (objKey idx sub 0) (s.now + 1) } }

/-- A counter whose events no step shows has risen by a free amount since its last rise, or since the reset, if time has passed. -/
def riseNow (s : State) (idx sub : Nat) : State :=
  if s.now ≤ s.pw.resetAt ∨ s.led.riseAt.num (objKey idx sub 0) = s.now + 1 then s else s.countFree idx sub

/-- The sum of free rises. -/
def riseSum (rs : List (Nat × Nat)) : Nat := (rs.map fun r => Config.freeValue 64 r.1 % 2 ^ 64).sum

/-- What a counter reads as: its counts and its free rises, saturating (R12). -/
def counter (s : State) (idx sub : Nat) : Nat := satAdd 64 (s.ctr idx sub) (riseSum (s.rises idx sub))

/-- A counter is known to have risen by `n` since a time: it rises by what its free rises since then leave of that. -/
def countSince (s : State) (idx sub n since : Nat) : State :=
  s.count idx sub (n - riseSum ((s.rises idx sub).filter fun r => since ≤ r.2))

/-- A counter returns to 0. -/
def clearCtr (s : State) (idx sub : Nat) : State :=
  { s with led := { s.led with ctrs := s.led.ctrs.setNum (objKey idx sub 0) 0, rises := Sparse.del s.led.rises (objKey idx sub 0) } }

/-- SERVICE_LEVEL (R457). -/
def level (s : State) : Nat := s.obj 0x2000 1

/-- The value in force of an object whose writes take effect only when a reset returns the device to Stage 1. -/
def forced (s : State) (idx sub : Nat) : Nat := Sparse.get objDefault s.led.force (objKey idx sub 0)

/-- Stage 1 is reached after a reset: the stored values come into force. -/
def forceAll (s : State) : State :=
  let f (m : Sparse Nat) (idx : Nat) : Sparse Nat := Sparse.set objDefault m (objKey idx 1 0) (s.obj idx 1)
  { s with led := { s.led with force := f (f (f s.led.force 0x2700) 0x2800) 0x2D00 } }

/-- This module's ID (R180). -/
def moduleId (s : State) : Nat := s.forced 0x2800 1

/-- DEVICE_TIME: the counter's integer part in ns (R488). -/
def deviceTime (s : State) : Nat := s.pw.time / 2 ^ 32

/-- The tick in progress (R485): 10 ns each. -/
def tick (s : State) : Nat := s.now / 10000

/-! Free values -/

/-- n undefined bytes, and the state after they are drawn. -/
def freeBytes (s : State) (n : Nat) : List Byte × State :=
  ((List.range n).map (fun i => Config.freeByte (s.drawn + i)), { s with drawn := s.drawn + n })

/-- n bytes of a random source. -/
def randomBytes (s : State) (n : Nat) : List Byte × State :=
  ((List.range n).map (fun i => Config.randomByte s.drawn i), { s with drawn := s.drawn + 1 })

/-- A free value of w bits. -/
def freeNat (s : State) (w : Nat) : Nat × State :=
  (Config.freeValue w s.drawn % 2 ^ w, { s with drawn := s.drawn + 1 })

/-! Components by number -/

def fn (s : State) (f : Nat) : Fn := Sparse.get Fn.default s.ring.fns f

def setFn (s : State) (f : Nat) (v : Fn) : State := { s with ring := { s.ring with fns := Sparse.set Fn.default s.ring.fns f v } }

def qp (s : State) (n : Nat) : Qp := Sparse.get (fun k => Qp.reset k 0 0) s.hrt.qps n

def bench (s : State) (b : Nat) : Bench := Sparse.get (fun _ => Bench.reset) s.cmp.benches b

def setBench (s : State) (b : Nat) (v : Bench) : State :=
  { s with cmp := { s.cmp with benches := Sparse.set (fun _ => Bench.reset) s.cmp.benches b v } }

def stack (s : State) (k : Nat) : Stack := Sparse.get (fun _ => Stack.reset) s.cmp.stk k

def setStack (s : State) (k : Nat) (v : Stack) : State :=
  { s with cmp := { s.cmp with stk := Sparse.set (fun _ => Stack.reset) s.cmp.stk k v } }

def slot (s : State) (f k : Nat) : Option Slot := Sparse.get (fun _ => none) s.cmp.slots (16 * f + k)

def setSlot (s : State) (f k : Nat) (v : Option Slot) : State :=
  { s with cmp := { s.cmp with slots := Sparse.set (fun _ => none) s.cmp.slots (16 * f + k) v } }

def job (s : State) (d : Nat) : Option Job := Sparse.get (fun _ => none) s.cmp.jobs d

def setJob (s : State) (d : Nat) (v : Option Job) : State :=
  { s with cmp := { s.cmp with jobs := Sparse.set (fun _ => none) s.cmp.jobs d v } }

def hubPeg (s : State) (h : Nat) : Nat := s.cmp.hubPegs.num h

def region (s : State) (r : Nat) : Region := Sparse.get (fun _ => Region.none) s.mem.regions r

def setRegion (s : State) (r : Nat) (v : Region) : State :=
  { s with mem := { s.mem with regions := Sparse.set (fun _ => Region.none) s.mem.regions r v } }

def windows (s : State) (d : Nat) : List Window := Sparse.get (fun _ => []) s.mem.windows d

def setWindows (s : State) (d : Nat) (v : List Window) : State :=
  { s with mem := { s.mem with windows := Sparse.set (fun _ => []) s.mem.windows d v } }

def setDev (s : State) (r : Ram) : State := { s with mem := { s.mem with dev := r } }
def setHost (s : State) (r : Ram) : State := { s with mem := { s.mem with host := r } }
def setPeer (s : State) (r : Ram) : State := { s with mem := { s.mem with peer := r } }

/-- Append to what the block has sent. -/
def emit (s : State) (o : Output) : State := { s with out := s.out ++ [o] }

/-! The fault collector's lines (R469, R470) -/

def line (s : State) (src : Nat) : FaultLine := Sparse.get (fun _ => FaultLine.down) s.flt.lines src

def setLine (s : State) (src : Nat) (v : FaultLine) : State :=
  { s with flt := { s.flt with lines := Sparse.set (fun _ => FaultLine.down) s.flt.lines src v } }

/-- The index of a source's record (R460). -/
def sourceIndex (src : Nat) : Nat := 0x2240 + src

/-- A block has not finished its response to an error on a source (R470): work that parity has failed has not yet completed. Every other
response ends in the step that meets the error. -/
def responding (s : State) (src : Nat) : Bool :=
  src == 7 &&
  ((s.cmp.jobs.any fun j => match j.2 with
    | some v => (v.failure.map (·.1)) == some 0x0B
    | none => false) ||
   s.fab.copies.any (·.status == 0x0B) || s.clu.ios.any (·.status == 0x0B) ||
   (s.hands.tables.any fun t => match t.2 with
     | some c => (c.running.map (·.status)) == some 0x0B
     | none => false))

/-- An error on an event source: it raises the line, or merges, or waits out the hold (R469, R470). A reserved source's
line is never asserted (R471). -/
def raiseSource (s : State) (src : Nat) : State :=
  if 24 ≤ src then s
  else
    let l := s.line src
    if l.up ∧ l.sampled ∧ !s.responding src then s.setLine src { l.fallen with again := true }
    else if l.up then s.count (sourceIndex src) 6 1
    else if l.hold then
      (if l.again then s.count (sourceIndex src) 6 1 else s.setLine src { l with again := true })
    else s.setLine src { l with up := true }

/-- The line of a condition source follows its condition (R470). -/
def setCondition (s : State) (src : Nat) (holds : Bool) : State :=
  let l := s.line src
  if holds then
    (if l.up then s.setLine src { l with pulse := false }
     else if l.hold then s.setLine src { l with again := true, pulse := false }
     else s.setLine src { l with up := true })
  else if l.pulse then s
  else if l.up then s.setLine src l.fallen
  else s.setLine src { l with again := false }

/-- The line of a condition source after `n` causes of its condition have begun at once: one that meets the line asserted merges (R469). -/
def newCauses (s : State) (src n : Nat) (holds : Bool) : State :=
  let l := s.line src
  (s.setCondition src holds).count (sourceIndex src) 6 (if l.up ∨ (l.hold ∧ l.again) then n else n - 1)

/-! Events (R355) -/

/-- An event record (R352). -/
def eventRecord (e : PendingEvent) : List Byte :=
  [3, BitVec.ofNat 8 e.code, BitVec.ofNat 8 e.count, 0, 0, 0, 0, 0] ++ padTo 24 e.result

/-- A pending event of the same code and subject takes the repeat; else a new one joins (R355). -/
def mergeEvent (es : List PendingEvent) (code subject : Nat) (result : List Byte) : List PendingEvent × Bool :=
  if es.any (fun e => e.code == code && e.subject == subject) then
    (es.map fun e => if e.code == code && e.subject == subject then ⟨code, subject, min (e.count + 1) 255, result⟩ else e, true)
  else (es ++ [⟨code, subject, 1, result⟩], false)

/-- A Jorol message: the header of R437 in network byte order, and the payload. -/
def jorolHeader (type flags status sess seq idx sub inst off len : Nat) : List Byte :=
  [1, BitVec.ofNat 8 type, BitVec.ofNat 8 flags, BitVec.ofNat 8 status] ++ beBytes 4 sess ++ beBytes 4 seq ++
  beBytes 2 idx ++ [BitVec.ofNat 8 sub, BitVec.ofNat 8 inst] ++ beBytes 4 off ++ beBytes 2 len ++ [0, 0]

/-- A NOTIFY with its session's tag (R442, R449). -/
def notifyMessage (ss : Session) (n : Notify) : List Byte :=
  let m := jorolHeader 0x12 1 0 ss.id n.sequence 0 0 0 0 n.record.length ++ n.record
  m ++ hmac256 (ss.key.getD []) m

def session (s : State) (k : Nat) : Option Session := Sparse.get (fun _ => none) s.led.sessions k

def setSession (s : State) (k : Nat) (v : Option Session) : State :=
  { s with led := { s.led with sessions := Sparse.set (fun _ => none) s.led.sessions k v } }

/-- Send an event to one session (R449): while fewer than 32 are unacknowledged it is sent at once; beyond that it merges
into the latest pending notification of the same code and subject, or waits. -/
def notifySession (s : State) (k : Nat) (ss : Session) (e : PendingEvent) : State :=
  if ss.unacked.length < 32 then
    let n : Notify := ⟨ss.notifyCtr + 1, e.code, e.subject, eventRecord e, s.now⟩
    let ss' := { ss with notifyCtr := ss.notifyCtr + 1, unacked := ss.unacked ++ [n] }
    (s.setSession k (some ss')).emit (.jorol (notifyMessage ss' n))
  else if ss.unacked.any (fun n => n.code == e.code && n.subject == e.subject) then
    let last := ((ss.unacked.filter fun n => n.code == e.code && n.subject == e.subject).map (·.sequence)).foldl max 0
    let upd (n : Notify) : Notify :=
      if n.code == e.code && n.subject == e.subject && n.sequence == last then
        { n with record := eventRecord { e with count := min ((nth 0 n.record 2).toNat + e.count) 255 } }
      else n
    s.setSession k (some { ss with unacked := ss.unacked.map upd })
  else s.setSession k (some { ss with waiting := (mergeEvent ss.waiting e.code e.subject e.result).1 })

/-- Jorol's share of an event: every established session whose mask asks for the code (R449). -/
def raiseJorol (s : State) (code subject : Nat) (result : List Byte) : State :=
  (List.range 17).foldl
    (fun st k =>
      match st.session k with
      | some ss => if ss.key.isSome && bit ss.mask code then st.notifySession k ss ⟨code, subject, 1, result⟩ else st
      | none => st) s

/-- Where a byte lies whose DVA is drawer 0's, by the tables as they stand: a port and bus address, or port 2 and a local offset of device
memory; none where it does not translate (R127 to R133). -/
def logWalk (s : State) (dva : Nat) : Nat → Nat → Nat → Option (Nat × Nat)
  | lv, reg, off =>
    let g := s.region reg
    if !g.valid ∨ g.owner ≠ 0 ∨ g.kind ≠ .bus ∨ g.length < off + tableBytes lv then none
    else
      let w := (if g.port = 0 then s.mem.host else s.mem.peer).le (g.base + off + 8 * levelIndex lv dva) 8
      if !pteValid w ∨ pteMalformed s.moduleId lv w then none
      else if pteLeaf w then
        let k := dva % levelSpan lv
        let h := s.region (pteRegion w)
        if !pteW w then none
        else if pteHost w then
          (if !h.valid ∨ h.owner ≠ 0 ∨ h.kind ≠ .bus ∨ h.length < ptePage w * 65536 + levelSpan lv then none
           else some (h.port, h.base + ptePage w * 65536 + k))
        else if s.mem.owner.num (chunkOf (dpaOffset (pteDpa w + k))) = 128 then some (2, dpaOffset (pteDpa w + k))
        else none
      else match lv with
        | 0 => none
        | l + 1 => s.logWalk dva l (pteRegion w) (pteTable w)

/-- A byte of a region of drawer 0, which LOG_BUFFER names. -/
def logPlace (s : State) (g : Region) (off : Nat) : Option (Nat × Nat) :=
  if !g.valid ∨ g.owner ≠ 0 ∨ g.length ≤ off then none
  else if g.kind = .bus then some (g.port, g.base + off)
  else if s.obj 0x2320 1 0 = 0 then none
  else s.logWalk (g.base + off) 3 (s.obj 0x2320 2 0 % 2 ^ 24) (s.obj 0x2320 3 0)

/-- Set the bits of the host log for a write on P0 that carries a function's requester ID (R381): one for each 4 KiB page
inside the window, and LOG_OVERFLOW for one outside it, or whose bit has no place that translates. -/
def logWrite (s : State) (f addr n : Nat) : State :=
  let a := s.obj 0x23C0 9 f
  if a = 0 ∨ n = 0 then s
  else
    let len := s.obj 0x23C0 8 f
    let g := s.region (s.obj 0x23C0 6 f / 2 ^ 40)
    let base := s.obj 0x23C0 6 f % 2 ^ 40 + (if a = 2 then len / 32768 else 0)
    (List.range ((addr + n - 1) / 4096 - addr / 4096 + 1)).foldl
      (fun st k =>
        let p := (addr / 4096 + k) * 4096
        let i := (p - st.obj 0x23C0 7 f) / 4096
        let w (at_ : Nat) (r : Ram) : Ram := r.write at_ (r.read at_ ||| BitVec.ofNat 8 (2 ^ (i % 8)))
        if p < st.obj 0x23C0 7 f ∨ st.obj 0x23C0 7 f + len ≤ p then st.setObj 0x23C0 10 f 1
        else match st.logPlace g (base + i / 8) with
          | none => st.setObj 0x23C0 10 f 1
          | some (0, x) => st.setHost (w x st.mem.host)
          | some (1, x) => st.setPeer (w x st.mem.peer)
          | some (_, x) => st.setDev (w x st.mem.dev)) s

/-- Write bytes to host memory on P0 for a function; while P0 is down they are held (R362). -/
def hostWrite (s : State) (f addr : Nat) (bs : List Byte) : State :=
  if s.ring.p0.up then (s.setHost (s.mem.host.writeBytes addr bs)).logWrite f addr bs.length
  else { s with mem := { s.mem with p0Held := s.mem.p0Held ++ [⟨f, addr, bs, none⟩] } }

/-- The blocks clocked from ROOT advance: ROOT is locked, and the device has not tripped (R487, R503). -/
def running (s : State) : Bool := s.pw.rootLocked && !s.pw.tripped

/-- The outcome of a command that a block clocked from ROOT takes: while no block advances, the command changes nothing. -/
def live (s t : State) : Host.Outcome State Fault Refusal := .next (if s.running then t else s)

/-- The outcome of a ledger write: below Stage 1 it is answered with BUSY and changes nothing (R448). -/
def liveLedger (s t : State) : Host.Outcome State Fault Refusal := s.live (if 0 < s.level then t else s)

end State

end Sys2Proof.Machine
end

