-- ==== Sys2Proof/Machine/Entry.lean ====
section
/-! DEFINITION. Machine/Entry.lean: work entries and records ("PCIe functions and the work rings"): the fields and
well-formedness of every entry layout (R337, R338, R342–R351), the completion ring with its staging, pause and events
(R352–R358), and how an entry in flight starts and completes (R341). -/

namespace Sys2Proof.Machine

/-! Fields of an entry -/

namespace Entry

def opcode (e : Entry) : Nat := leAt e.raw 0 1
def flags (e : Entry) : Nat := leAt e.raw 1 1
def sig (e : Entry) : Bool := bit e.flags 0
def imm (e : Entry) : Bool := bit e.flags 1
def sigPeg (e : Entry) : Nat := leAt e.raw 2 2 % 4096
def tag (e : Entry) : Nat := leAt e.raw 4 4
def check (e : Entry) : Nat := leAt e.raw 0x3C 4
def u8 (e : Entry) (o : Nat) : Nat := leAt e.raw o 1
def u16 (e : Entry) (o : Nat) : Nat := leAt e.raw o 2
def u32 (e : Entry) (o : Nat) : Nat := leAt e.raw o 4
def u64 (e : Entry) (o : Nat) : Nat := leAt e.raw o 8

/-- Every byte of [a, b) is zero. -/
def zeros (e : Entry) (a b : Nat) : Bool := (slice e.raw a (b - a)).all (· == 0)

end Entry

/-- The reference that 12 bytes spell; nothing for a reserved encoding. -/
def BufRef.parse (bs : List Byte) : Option BufRef :=
  let a := leAt bs 0 8
  let r := leAt bs 8 4
  let k := r / 2 ^ 30
  let i := r % 2 ^ 24
  if r / 2 ^ 24 % 64 ≠ 0 then Option.none
  else if k = 0 then (if a = 0 ∧ i = 0 then some .none else Option.none)
  else if k = 1 then (if a < 2 ^ 48 ∧ i = 0 then some (.dva a) else Option.none)
  else if k = 2 then some (.region i a)
  else Option.none

def BufRef.isNone : BufRef → Bool
  | .none => true
  | _ => false

/-- The reference at an offset of an entry. -/
def Entry.buf (e : Entry) (o : Nat) : Option BufRef := BufRef.parse (slice e.raw o 12)

/-- The reference is valid, and of kind NONE exactly when `none` says so. -/
def Entry.bufOk (e : Entry) (o : Nat) (none : Bool) : Bool :=
  match e.buf o with
  | some r => r.isNone == none
  | Option.none => false

/-- The reference is valid, of any kind. -/
def Entry.bufAny (e : Entry) (o : Nat) : Bool := (e.buf o).isSome

/-- FLAGS and HUB_PEG (R337): SIG only on COPY, HRT_SEND, HRT_WRITE and NVME_IO; IMM only on HRT_SEND and HRT_WRITE. -/
def Entry.flagsOk (e : Entry) : Bool :=
  let op := e.opcode
  e.flags < 4 && (!e.sig || op == 0x02 || op == 0x10 || op == 0x11 || op == 0x48) && (!e.imm || op == 0x10 || op == 0x11) &&
  e.u16 2 < 4096 && (e.sig || e.u16 2 == 0)

/-- The HRT layout (R344). -/
def Entry.hrtOk (e : Entry) : Bool :=
  let op := e.opcode
  let len := e.u64 0x18
  e.u32 8 < 65536 && e.zeros 0x38 0x3C &&
  (if op == 0x10 ∨ op == 0x11 then
    len ≤ 2 ^ 30 && e.bufOk 0x0C (len == 0) && (e.imm || e.u32 0x24 == 0) && e.zeros 0x30 0x38 &&
    (op == 0x11 || (e.u32 0x20 == 0 && e.u64 0x28 == 0))
  else if op == 0x12 then 1 ≤ len && len ≤ 2 ^ 30 && e.bufOk 0x0C false && e.u32 0x24 == 0 && e.zeros 0x30 0x38
  else if op == 0x13 ∨ op == 0x14 then e.bufOk 0x0C false && e.u32 0x24 == 0 && (op == 0x14 || e.u64 0x30 == 0)
  else e.zeros 0x0C 0x18 && 1 ≤ len && len < 2 ^ 32 && e.u32 0x24 == 0 && e.zeros 0x30 0x38)

/-- ADVISE (R143, R347): alignment and range rules by kind. -/
def Entry.adviseOk (e : Entry) : Bool :=
  let k := e.u8 8
  let base := e.u64 0x10
  let len := e.u64 0x18
  k ≤ 5 && (if k == 3 then e.u8 9 < 2 else e.u8 9 == 0) && e.zeros 0x0A 0x10 && e.zeros 0x2C 0x3C &&
  (k == 5 || (e.u64 0x20 == 0 && e.u32 0x28 == 0)) && e.u32 0x28 < 2 ^ 24 &&
  (if k ≤ 2 then base < 2 ^ 48 && 1 ≤ len && len ≤ 2 ^ 30 && base + len ≤ 2 ^ 48
   else if k == 3 then base % 65536 == 0 && len % 65536 == 0 && 1 ≤ len && len ≤ 48 * 2 ^ 30 && base + len ≤ 2 ^ 48
   else if k == 4 then base % 65536 == 0 && base < 2 ^ 48
   else base % 65536 == 0 && len % 65536 == 0 && 1 ≤ len && len ≤ 2 ^ 30 && base + len ≤ 2 ^ 48)

/-- PEG_SET (R350). -/
def Entry.pegSetOk (e : Entry) : Bool :=
  let k := e.u8 8
  k ≤ 4 && e.u8 9 == 0 && e.u16 0x0A < 4096 && e.zeros 0x14 0x3C &&
  (if k ≤ 2 then e.zeros 0x10 0x14
   else e.u32 0x0C == 0 && e.u8 0x10 < 16 && 40 ≤ e.u8 0x11 && e.u8 0x11 ≤ 47 && e.u16 0x12 < 512 && (k == 3 || e.u16 0x0A == 0))

/-- The fields of NVME_IO (R392). -/
def Entry.nvmeOk (e : Entry) : Bool :=
  let op := e.u8 0x0A
  let fl := e.u8 0x0B
  e.u16 8 < 64 && op ≤ 2 && fl < 4 && (!bit fl 1 || op == 1) && 1 ≤ e.u32 0x0C && e.u32 0x0C ≤ 0xFFFFFFFE &&
  (bit fl 0 || e.u16 0x1A == 0) && (op != 0 || e.u16 0x18 == 0) && e.bufAny 0x1C && e.zeros 0x28 0x3C &&
  (match e.buf 0x1C with
  | some b => b.isNone == (op == 0)
  | none => false)

/-- The operand layout of an entry is well formed (R342–R351); a reserved opcode is not (R341). -/
def Entry.layoutOk (e : Entry) : Bool :=
  let op := e.opcode
  if op == 0x00 ∨ op == 0x01 then e.zeros 0x08 0x3C
  else if op == 0x02 then
    e.bufOk 0x08 false && e.bufOk 0x14 false && 1 ≤ e.u64 0x20 && e.u64 0x20 ≤ 2 ^ 30 && e.zeros 0x28 0x3C
  else if 0x10 ≤ op ∧ op ≤ 0x15 then e.hrtOk
  else if op == 0x18 then
    e.u32 8 < 65536 && e.u8 0x0C ≤ 4 && e.zeros 0x0D 0x10 && e.bufOk 0x14 (e.u32 0x10 == 0) && e.zeros 0x20 0x3C
  else if op == 0x19 then e.u32 8 < 65536 && e.zeros 0x0C 0x3C
  else if op == 0x20 then
    e.u32 8 == 0 && e.u8 0x0C ≤ 1 && e.u8 0x0D ≤ 1 && (e.u8 0x0C == 0 || e.u8 0x0D == 0) && e.u8 0x0E < 32 && e.u8 0x0F == 0 &&
    1 ≤ e.u64 0x18 && e.u64 0x18 ≤ 2 ^ 48 && (e.u8 0x0C == 0 || e.u64 0x10 + e.u64 0x18 ≤ 2 ^ 48) && e.zeros 0x20 0x3C
  else if op == 0x21 then e.u32 8 < 2 ^ 24 && e.zeros 0x0C 0x3C
  else if op == 0x28 then
    e.zeros 0x08 0x10 && e.u64 0x10 % 65536 == 0 && e.u64 0x18 % 65536 == 0 && 1 ≤ e.u64 0x18 && e.u64 0x18 ≤ 2 ^ 30 &&
    e.u64 0x10 + e.u64 0x18 ≤ 2 ^ 48 && e.zeros 0x28 0x3C
  else if op == 0x29 then e.adviseOk
  else if op == 0x2A then
    e.u8 8 < 2 && e.zeros 0x09 0x10 && e.zeros 0x20 0x3C &&
    (if e.u8 8 == 1 then e.u64 0x10 == 0 && e.u64 0x18 == 0
     else e.u64 0x10 % 65536 == 0 && e.u64 0x18 % 65536 == 0 && e.u64 0x10 < 2 ^ 48 && e.u64 0x18 ≤ 2 ^ 48)
  else if op == 0x30 then
    e.u8 8 < 16 && e.zeros 0x09 0x0C && e.bufOk 0x0C false && e.u64 0x20 % 65536 == 0 && e.u64 0x20 < 2 ^ 48 && e.zeros 0x28 0x3C
  else if op == 0x31 then e.u8 8 < 16 && e.zeros 0x09 0x20 && e.u64 0x20 % 8 == 0 && e.u64 0x20 < 2 ^ 48 && e.zeros 0x28 0x3C
  else if op == 0x38 ∨ op == 0x39 then e.u8 8 < 64 && e.zeros 0x09 0x0C && e.bufOk 0x0C false && e.zeros 0x18 0x3C
  else if op == 0x3A then e.u8 8 < 64 && e.zeros 0x09 0x3C
  else if op == 0x3B then
    e.u8 8 < 64 && e.u8 0x0D == 0 && e.zeros 0x10 0x18 && e.bufAny 0x20 && e.bufAny 0x2C && e.zeros 0x38 0x3C
  else if op == 0x40 then e.pegSetOk
  else if op == 0x48 then e.nvmeOk
  else false

/-- The entry is malformed (R8, R339). -/
def Entry.malformed (e : Entry) : Bool := e.check != e.idx % 2 ^ 32 || !e.flagsOk || !e.layoutOk

/-- The operations a stopping or stopped drawer still executes (R371). -/
def Entry.runsStopped (e : Entry) : Bool :=
  let op := e.opcode
  op == 0x00 || op == 0x01 || op == 0x2A || op == 0x21 || op == 0x3A || (op == 0x29 && (e.u8 8 == 4 || e.u8 8 == 2)) ||
  (op == 0x18 && (e.u8 0x0C == 0 || e.u8 0x0C == 4))

/-- RESULT fields that an entry's own operands give (R353), for a completion that adds nothing to them. -/
def Entry.plainResult (e : Entry) : List Byte :=
  let op := e.opcode
  if 0x10 ≤ op ∧ op ≤ 0x15 ∨ op = 0x18 ∨ op = 0x19 then leBytes 4 (e.u32 8)
  else if op = 0x21 then leBytes 4 (e.u32 8)
  else if op = 0x30 ∨ op = 0x38 ∨ op = 0x39 ∨ op = 0x3A then leBytes 1 (e.u8 8)
  else if op = 0x3B then leBytes 1 (e.u8 8) ++ [0, 0, 0] ++ leBytes 4 0 ++ leBytes 2 0xFFFF
  else if op = 0x48 then leBytes 2 (e.u16 8)
  else if op = 0x31 then leBytes 1 (e.u8 8) ++ [0] ++ leBytes 2 0xFFFF ++ leBytes 4 0xFFFFFFFF
  else if op = 0x40 then leBytes 2 (e.u16 0x0A)
  else []

/-- A WORK record (R352). -/
def workRecord (status opcode tag : Nat) (result : List Byte) : List Byte :=
  [1, BitVec.ofNat 8 status, BitVec.ofNat 8 opcode, 0] ++ leBytes 4 tag ++ padTo 24 result

/-- Room on the completion ring (R336). -/
def Fn.room (f : Fn) : Bool := f.enable && decide (subMod (2 ^ 32) f.crProd f.crCons < 2 ^ f.crLog)

/-- A record can leave for the ring or for staging (R358). -/
def Fn.canRecord (f : Fn) : Bool := (f.staged.isEmpty && f.room) || decide (f.staged.length < 64)

/-- Finished entries that hold their records, with the turn and the record of each (R358). -/
def Fn.heldRecords (f : Fn) : List (Entry × Nat × List Byte) := f.entries.filterMap fun e => match e.stage with
  | .done n rec => some (e, n, rec)
  | _ => none

/-- The held record that became ready first (R356). -/
def Fn.firstHeld (f : Fn) : Option (Entry × Nat × List Byte) :=
  f.heldRecords.foldl (fun m x => match m with
    | some y => if x.2.1 < y.2.1 then some x else m
    | none => some x) none

namespace State

def fnCtr (f : Nat) : Nat := 0x5600 + f

/-- Write a record into the ring and advance CR_PROD (R336, R352). -/
def writeRecord (s : State) (f : Nat) (rec : List Byte) : State :=
  let v := s.fn f
  let s1 := s.hostWrite f (v.crBase + 32 * (v.crProd % 2 ^ v.crLog)) rec
  let due := if bit v.mirror 0 ∧ v.mirrorDue.isNone then some s.now else v.mirrorDue
  (s1.setFn f { v with crProd := (v.crProd + 1) % 2 ^ 32, mirrorDue := due }).count (fnCtr f) 5 1

/-- A record that is ready goes to the ring, or to staging (R358). The caller has checked `canRecord`. -/
def placeRecord (s : State) (f : Nat) (rec : List Byte) : State :=
  let v := s.fn f
  if v.staged.isEmpty && v.room then s.writeRecord f rec
  else (s.setFn f { v with staged := v.staged ++ [rec] }).count (fnCtr f) 6 1

/-- The function pauses, if it was not paused (R358). -/
def pause (s : State) (f : Nat) : State :=
  let v := s.fn f
  if v.pausedSince.isSome then s else s.setFn f { v with pausedSince := some s.now, pauseRaised := false }

/-- The pause ends when staging has room and no finished entry holds its record (R358). -/
def unpause (s : State) (f : Nat) : State :=
  let v := s.fn f
  match v.pausedSince with
  | some t =>
    if decide (v.staged.length < 64) && v.heldRecords.isEmpty then
      (s.setFn f { v with pausedSince := none, pauseRaised := false }).count (fnCtr f) 7 ((s.now - t) / 1000)
    else s
  | none => s

/-- One move towards the ring: a staged record, then the held record of a finished entry that became ready first (R356), then a pending
event. -/
def drainOne (s : State) (f : Nat) : State :=
  let v := s.fn f
  match v.staged with
  | r :: rest =>
    if v.room then (s.setFn f { v with staged := rest }).writeRecord f r
    else if rest.length + 1 < 64 then
      (match v.firstHeld with
      | some (e, _, rec) => (s.setFn f { v with entries := v.entries.filter (· != e) }).placeRecord f rec
      | none => s)
    else s
  | [] =>
    match v.firstHeld with
    | some (e, _, rec) => (s.setFn f { v with entries := v.entries.filter (· != e) }).placeRecord f rec
    | none =>
      match v.events with
      | ev :: rest =>
        if v.room then
          let t := (s.setFn f { v with events := rest }).writeRecord f (eventRecord ev)
          -- A PAGE_REQUEST record has been posted (R305).
          if ev.code = 7 then t.count 0x5101 9 1 else t
        else s
      | [] => s

def drainN (s : State) (f : Nat) : Nat → State
  | 0 => s
  | n + 1 => drainN (s.drainOne f) f n

/-- Everything that can leave for the completion ring leaves, in order (R358), and a pause whose cause is gone ends. -/
def drain (s : State) (f : Nat) : State :=
  let v := s.fn f
  (s.drainN f (2 * v.entries.length + v.staged.length + v.events.length + 1)).unpause f

/-- An event for a function's own ring (R355). -/
def raiseFn (s : State) (f code subject : Nat) (result : List Byte) : State :=
  let v := s.fn f
  let m := mergeEvent v.events code subject result
  let s1 := s.setFn f { v with events := m.1 }
  (if m.2 then s1.count (fnCtr f) 8 1 else s1).drain f

/-- An event whose destination is PF0 and Jorol. -/
def raiseDevice (s : State) (code subject : Nat) (result : List Byte) : State :=
  (s.raiseJorol code subject result).raiseFn 0 code subject result

/-- A finished entry's record: it completes when the record enters the ring or staging; otherwise the function pauses and
the entry holds it (R341, R358). -/
def finishEntry (s : State) (f : Nat) (e : Entry) (rec : List Byte) (status : Nat) : State :=
  let v := s.fn f
  let s0 := if status = 0x0E then s.count (fnCtr f) 4 1 else s
  if v.canRecord && v.heldRecords.isEmpty then
    (s0.setFn f { s0.fn f with entries := (s0.fn f).entries.filter fun x => x.idx != e.idx }).placeRecord f rec
  else
    let turn := (v.heldRecords.map fun x => x.2.1 + 1).foldl max 0
    (s0.setFn f { s0.fn f with entries := (s0.fn f).entries.map fun x => if x.idx == e.idx then { x with stage := .done turn rec } else x }).pause f

/-- The entries before one in ring order. -/
def earlier (v : Fn) (e : Entry) : List Entry := v.entries.takeWhile fun x => x.idx != e.idx

/-- An entry may start: a FENCE only after every earlier entry has completed, and nothing past an uncompleted FENCE or
INVALIDATE (R342, R134), nor past a HAND_START that waits behind 64 others (R216). A malformed entry is none of these: it completes before it
has any other effect (R341). -/
def mayStart (v : Fn) (e : Entry) : Bool :=
  let before := (earlier v e).filter fun x => !x.malformed
  (e.opcode != 0x01 || e.malformed || (earlier v e).isEmpty) && (before.all fun x => x.opcode != 0x01 && x.opcode != 0x2A) &&
  ((v.entries.filter fun x => x.opcode == 0x3B && x.stage = .busy).length < 64 || before.all fun x => x.opcode != 0x3B || x.stage != .ready)

/-- The drawer's STATE (R366): 0 RUNNING, 1 STOPPING, 2 STOPPED. -/
def drawerState (s : State) (d : Nat) : Nat := s.obj 0x2300 1 d

/-- The status with which an entry completes before its operation begins: BAD_ENTRY when malformed, DRAWER_STOPPED when it was
fetched in a stopping or stopped drawer or the stop has ended it (R339, R370, R371). RUN_JOB looks at its slot before the drawer's
state (R115, steps 1 and 2), and so not here. -/
def earlyStatus (_s : State) (_f : Nat) (e : Entry) : Option Nat :=
  if e.malformed then some 0x0E
  else if e.stopped && !e.runsStopped && e.opcode != 0x31 then some 0x11
  else none

/-- The first entry that may start and completes at once. -/
def firstEarly (s : State) (f : Nat) : Option (Entry × Nat) :=
  let v := s.fn f
  v.entries.findSome? fun e =>
    if e.stage = .ready ∧ mayStart v e then (s.earlyStatus f e).map fun st => (e, st) else none

/-- RESULT of an entry that completes before its operation begins (R353): a QP_MODIFY names its QP's state and incarnation. -/
def earlyResult (s : State) (e : Entry) : List Byte :=
  let n := e.u32 8
  if e.opcode = 0x18 ∧ n < 65536 then leBytes 4 n ++ leBytes 1 (s.qp n).state.code ++ leBytes 1 (s.qp n).incarnation
  else e.plainResult

def settleN (s : State) (f : Nat) : Nat → State
  | 0 => s
  | n + 1 =>
    match s.firstEarly f with
    | some (e, st) => settleN (s.finishEntry f e (workRecord st e.opcode e.tag (s.earlyResult e)) st) f n
    | none => s

/-- Malformed entries, and entries of a stopped drawer, complete as soon as they may start. -/
def settle (s : State) (f : Nat) : State := s.settleN f (s.fn f).entries.length

/-- An entry completes with a status and RESULT bytes. -/
def complete (s : State) (f : Nat) (e : Entry) (status : Nat) (result : List Byte) : State :=
  (s.finishEntry f e (workRecord status e.opcode e.tag result) status).settle f

/-- The entry in flight with an index. -/
def findEntry (s : State) (f idx : Nat) : Option Entry := (s.fn f).entries.find? fun e => e.idx == idx

/-- Complete the entry with an index, if it is still in flight. -/
def completeIdx (s : State) (f idx status : Nat) (result : List Byte) : State :=
  match s.findEntry f idx with
  | some e => s.complete f e status result
  | none => s

/-- Replace an entry in flight. -/
def setEntry (s : State) (f : Nat) (e : Entry) : State :=
  let v := s.fn f
  s.setFn f { v with entries := v.entries.map fun x => if x.idx == e.idx then e else x }

/-- The operation of an entry begins elsewhere. -/
def busy (s : State) (f : Nat) (e : Entry) : State := s.setEntry f { e with stage := .busy }

/-- Run the operation of a ready entry whose opcode is one of `ops` and which may start; otherwise the command finds
nothing to do. -/
def runEntry (s : State) (f idx : Nat) (ops : List Nat) (k : Entry → State → State) : State :=
  match s.findEntry f idx with
  | some e =>
    if e.stage = .ready ∧ e.opcode ∈ ops ∧ mayStart (s.fn f) e ∧ (s.earlyStatus f e).isNone then k e s else s
  | none => s

end State

end Sys2Proof.Machine
end

