-- ==== Sys2Proof/Machine/Translate.lean ====
section
/-! DEFINITION. Machine/Translate.lean: device memory, chunk ownership (R122–R125), the table walk with its two caches
(R127–R133), residency windows (R136–R139), and the resolution of buffers into pieces of device, host or peer memory. -/

namespace Sys2Proof.Machine

/-- How a translation ends (R133). `wait` stands for a request held because P0 is down (R362). -/
inductive Tr where
  | device (off : Nat)
  | remote (dpa : Nat)
  | bus (port addr : Nat)
  | notPresent
  | malformed
  | protection
  | parity
  /-- Bad parity in a window map (R146). -/
  | mapParity
  | moving
  | wait
  deriving DecidableEq, Repr

/-- The status of R133's first column; none where the entry proceeds or waits. -/
def Tr.ringStatus : Tr → Option Nat
  | .notPresent => some 0x06
  | .malformed => some 0x0E
  | .protection => some 0x02
  | .parity => some 0x0B
  | .mapParity => some 0x0B
  | _ => none

/-- A leaf found by a walk: the entry, its level, where the entry lies (port and bus address), and the regions used. -/
structure Hit where
  leaf : Nat
  level : Nat
  port : Nat
  addr : Nat
  via : List Nat
  deriving DecidableEq, Repr

/-- A walk's result. -/
inductive Walk where
  | hit (h : Hit)
  | stop (t : Tr)
  deriving DecidableEq, Repr

namespace State

/-- The chunk of a local offset belongs to a drawer (R124). -/
def ownedBy (s : State) (d off : Nat) : Bool := populated off && s.mem.owner.num (chunkOf off) == 128 + d

/-- A PCIe port answers requests (R332, R362): P1 needs its link and Bus Master Enable. -/
def busOk (s : State) (port : Nat) : Bool := port == 0 || (s.ring.p1.up && s.ring.p1BusMaster)

def busRam (s : State) (port : Nat) : Ram := if port = 0 then s.mem.host else s.mem.peer

/-- The table at an offset of a region may be read by a drawer: a BUS region of its own, with the whole table inside
(R128, R133). -/
def tableRegionOk (s : State) (d r off bytes : Nat) : Bool :=
  let g := s.region r
  g.valid && g.owner == d && g.kind == .bus && off + bytes ≤ g.length && off + bytes ≤ 2 ^ 40

/-- The cached pointer of a drawer for a level and DVA (R131). -/
def cachedPointer (s : State) (d lv dva : Nat) : Option CachedPointer :=
  s.mem.walkCache.find? fun c => c.drawer == d && c.level == lv && c.base == dva / levelSpan lv

/-- Remember a pointer: most recently used first, 4,096 entries (R131). -/
def cachePointer (s : State) (c : CachedPointer) : State :=
  { s with mem := { s.mem with walkCache := (c :: s.mem.walkCache.filter (fun x => !(x.drawer == c.drawer && x.level == c.level && x.base == c.base))).take 4096 } }

/-- Keep 32,768 leaves; the least recently used entry that is not pinned makes room (R131, R143). -/
def trimLeaves (ls : List CachedLeaf) : List CachedLeaf :=
  if ls.length ≤ 32768 then ls
  else match findPos (fun c => !c.pinned) ls.reverse with
    | some i => ls.eraseIdx (ls.length - 1 - i)
    | none => ls.dropLast

/-- Remember a leaf. A leaf of an entry that was pinned stays pinned. -/
def cacheLeaf (s : State) (c : CachedLeaf) : State :=
  let same (x : CachedLeaf) := x.drawer == c.drawer && x.base == c.base
  let p := c.pinned || s.mem.leafCache.any (fun x => same x && x.pinned)
  { s with mem := { s.mem with leafCache := trimLeaves ({ c with pinned := p } :: s.mem.leafCache.filter (fun x => !same x)) } }

/-- Walk from a level whose table is at (region, offset), down to the leaf. One entry is read per level that misses
(R131), as one 8-byte access. -/
def walkFrom (s : State) (d dva : Nat) : Nat → Nat → Nat → List Nat → Walk × State
  | lv, reg, off, via =>
    match s.cachedPointer d lv dva with
    | some c => (match lv with
      | 0 => (.stop .malformed, s)
      | l + 1 => walkFrom s d dva l (pteRegion c.entry) (pteTable c.entry) (via ++ [reg]))
    | none =>
      if !s.tableRegionOk d reg off (tableBytes lv) then (.stop .protection, s)
      else
        let g := s.region reg
        let addr := g.base + off + 8 * levelIndex lv dva
        if g.port = 0 ∧ !s.ring.p0.up then (.stop .wait, s)
        else if !s.busOk g.port || (s.busRam g.port).hasBad addr 8 then (.stop .parity, (s.count 0x5308 3 1).raiseSource 7)
        else
          let w := (s.busRam g.port).le addr 8
          let s1 := s.count 0x5308 3 1
          if !pteValid w then (.stop .notPresent, s1)
          else if pteMalformed s.moduleId lv w then (.stop .malformed, s1)
          else if pteLeaf w then (.hit ⟨w, lv, g.port, addr, via ++ [reg]⟩, s1)
          else match lv with
            | 0 => (.stop .malformed, s1)
            | l + 1 =>
              walkFrom (s1.cachePointer ⟨d, lv, dva / levelSpan lv, w, via ++ [reg, pteRegion w]⟩) d dva l (pteRegion w) (pteTable w) (via ++ [reg])

/-- Walk a drawer's tables from its root (R128). -/
def walk (s : State) (d dva : Nat) : Walk × State :=
  if s.obj 0x2320 1 d = 0 then (.stop .notPresent, s)
  else s.walkFrom d dva 3 (s.obj 0x2320 2 d % 2 ^ 24) (s.obj 0x2320 3 d) []

/-- The window of a drawer that holds a DVA, and the leaf of its granule (R138). -/
def windowLeaf (s : State) (d dva : Nat) : Option (Window × Nat) :=
  match (s.windows d).find? (fun w => w.base ≤ dva && dva < w.base + w.length) with
  | some w => some (w, nth 0 w.leaves ((dva - w.base) / 65536))
  | none => none

/-- Where the entry of a window's map for a DVA lies: in the reserved chunks of the window's stack (R123, R137). -/
def mapEntryAt (w : Window) (d dva : Nat) : Nat := w.stack * 2 ^ 36 + 24544 * 2 ^ 21 + 8 * (Config.mapEntry d (dva / 65536) % 1048576)

/-- The window map's entry for some byte of [dva, dva + n) has bad parity (R146). -/
def mapBad (s : State) (d dva n : Nat) : Bool :=
  !s.mem.dev.bad.isEmpty && (List.range ((dva + n - 1) / 65536 - dva / 65536 + 1)).any fun k =>
    match s.windowLeaf d ((dva / 65536 + k) * 65536) with
    | some (w, _) => s.mem.dev.hasBad (mapEntryAt w d ((dva / 65536 + k) * 65536)) 8
    | none => false

/-- The bytes that a leaf maps. -/
def leafPiece (s : State) (leaf size : Nat) : Piece :=
  if pteHost leaf then .bus (s.region (pteRegion leaf)).port ((s.region (pteRegion leaf)).base + ptePage leaf * 65536) size
  else .dev (dpaOffset (pteDpa leaf)) size

/-- A cached leaf is no longer what the driver's tables hold (R135): the access through it leaves its bytes undefined until the
INVALIDATE that covers it. The tables are asked as they stand, whatever pointers are cached and whether P0 is up. -/
def staleHit (s : State) (c : CachedLeaf) : Bool :=
  let tables : State := { s with mem := { s.mem with walkCache := [] }, ring := { s.ring with p0 := { s.ring.p0 with up := true } } }
  match (tables.walk c.drawer c.base).1 with
  | .hit h => h.leaf != c.leaf || levelSpan h.level != c.size
  | .stop .notPresent => true
  | .stop .malformed => true
  | .stop _ => false

def noteStale (s : State) (c : CachedLeaf) : State :=
  let x : StaleLeaf := match s.leafPiece c.leaf c.size with
    | .bus port a _ => ⟨c.drawer, c.base, c.size, port, a⟩
    | .dev a _ => ⟨c.drawer, c.base, c.size, 2, a⟩
    | .remote _ _ => ⟨c.drawer, c.base, c.size, 2, 0⟩
  if s.mem.stale.contains x then s else { s with mem := { s.mem with stale := s.mem.stale ++ [x] } }

/-- A walk has read a leaf: where another valid leaf was read for one of its DVAs since their last INVALIDATE, the driver has changed it, and
the bytes that the new one maps are undefined too until the INVALIDATE that covers it (R135). -/
def learnLeaf (s : State) (c : CachedLeaf) : State :=
  let s1 := if s.mem.known.any fun x => x.drawer == c.drawer && overlaps x.base x.size c.base c.size && x != c then s.noteStale c else s
  if s.mem.known.contains c then s1 else { s1 with mem := { s1.mem with known := s1.mem.known ++ [c] } }

/-- Translate a page by a walk (R131, R148). -/
def walkLeaf (s : State) (d dva : Nat) : Walk × State :=
  match s.walk d dva with
  | (.stop t, s1) => (.stop t, s1.count 0x5308 2 1)
  | (.hit h, s1) => (.hit h, (s1.count 0x5308 2 1).learnLeaf ⟨d, dva / levelSpan h.level * levelSpan h.level, levelSpan h.level, h.leaf, false, []⟩)

/-- What an access through a leaf meets (R133): the whole page of a host leaf lies in its region, the chunk is owned, and
a write needs W. `base` is the DVA of the leaf's first byte. -/
def throughLeaf (s : State) (d dva base size leaf : Nat) (write remoteOk : Bool) : Tr :=
  if pteHost leaf then
    let g := s.region (pteRegion leaf)
    if !g.valid || g.owner != d || g.kind != .bus || g.length < ptePage leaf * 65536 + size ||
       2 ^ 40 < ptePage leaf * 65536 + size || (write && !pteW leaf) then .protection
    else .bus g.port (g.base + ptePage leaf * 65536 + (dva - base))
  else
    let a := pteDpa leaf + (dva - base)
    if dpaModule a != s.moduleId then (if !remoteOk then .malformed else if write && !pteW leaf then .protection else .remote a)
    else if (write && !pteW leaf) || !s.ownedBy d (dpaOffset a) then .protection
    else .device (dpaOffset a)

/-- A page of the drawer that holds the DVA is being moved (R141, step 3). -/
def pageMoving (s : State) (d dva : Nat) : Bool := s.mem.moves.any fun m => m.drawer == d && m.base ≤ dva && dva < m.base + m.size

/-- Translate one DVA for a requester other than a bench (R133, R138). A held window answers for its DVAs whatever TRANSLATION_ON
says: R138 sends every requester through the window map and R133 names no exception (DESIGN CHOICE, log 120). -/
def translate (s : State) (d dva : Nat) (write remoteOk : Bool) : Tr × State :=
  match s.windowLeaf d dva with
  | some (w, leaf) =>
    if s.pageMoving d dva then (.moving, s.count 0x5308 5 1)
    else if s.mapBad d dva 1 then (.mapParity, (s.count (0x5300 + w.stack) 2 1).raiseSource 7)
    else (s.throughLeaf d dva (dva / 65536 * 65536) 65536 leaf write remoteOk, s)
  | none =>
    if s.obj 0x2320 1 d = 0 then (.notPresent, s)
    else if s.pageMoving d dva then (.moving, s.count 0x5308 5 1)
    else
      match s.mem.leafCache.find? (fun c => c.drawer == d && c.base ≤ dva && dva < c.base + c.size) with
      | some c =>
        (s.throughLeaf d dva c.base c.size c.leaf write remoteOk,
         ((if s.staleHit c then s.noteStale c else s).cacheLeaf c).count 0x5308 1 1)
      | none =>
        match s.walkLeaf d dva with
        | (.stop t, s1) => (t, s1)
        | (.hit h, s1) =>
          let size := levelSpan h.level
          let base := dva / size * size
          let t := s1.throughLeaf d dva base size h.leaf write remoteOk
          let via := if pteHost h.leaf then h.via ++ [pteRegion h.leaf] else h.via
          (t, match t with
            | .protection => s1
            | .malformed => s1
            | _ => s1.cacheLeaf ⟨d, base, size, h.leaf, false, via⟩)

/-- The interval of R135 ends for the leaves of a range. A leaf that was read again, and is cached, is what the device knows from now on. -/
def dropStale (s : State) (d base len : Nat) : State :=
  let cached (x : CachedLeaf) : Bool := s.mem.leafCache.any fun c => c.drawer == x.drawer && c.base == x.base && c.size == x.size && c.leaf == x.leaf
  { s with mem := { s.mem with
      stale := s.mem.stale.filter fun x => !(x.drawer == d && overlaps x.base x.size base len),
      known := s.mem.known.filter fun x => !(x.drawer == d && overlaps x.base x.size base len) || cached x } }

/-- The device itself has rewritten the leaves of a range: that is no change by the driver (R134, R141). -/
def forgetLeaves (s : State) (d base len : Nat) : State :=
  { s with mem := { s.mem with known := s.mem.known.filter fun x => !(x.drawer == d && overlaps x.base x.size base len) } }

/-- Drop cached leaves and pointers of a drawer that cover any part of a range (R134). -/
def dropCached (s : State) (d base len : Nat) : State :=
  { s with mem := { s.mem with
      leafCache := s.mem.leafCache.filter (fun c => !(c.drawer == d && overlaps c.base c.size base len)),
      walkCache := s.mem.walkCache.filter (fun c => !(c.drawer == d && overlaps (c.base * levelSpan c.level) (levelSpan c.level) base len)) } }

/-- Drop every cached translation of a drawer (R128, R132). -/
def dropDrawer (s : State) (d : Nat) : State :=
  { s with mem := { s.mem with leafCache := s.mem.leafCache.filter (·.drawer != d), walkCache := s.mem.walkCache.filter (·.drawer != d) } }

/-- A drawer's translations begin anew (R128, R132): no cached one, and no changed entry in use, is left. -/
def renewDrawer (s : State) (d : Nat) : State := (s.dropDrawer d).dropStale d 0 (2 ^ 48)

/-- Drop the cached translations that name a region as a table or as a host leaf (R132). -/
def dropRegion (s : State) (r : Nat) : State :=
  { s with mem := { s.mem with leafCache := s.mem.leafCache.filter (fun c => !c.viaRegions.contains r),
                               walkCache := s.mem.walkCache.filter (fun c => !c.viaRegions.contains r) } }

/-- Drop the cached leaves of a drawer that name a chunk (R126, step 3). -/
def dropChunk (s : State) (d c : Nat) : State :=
  { s with mem := { s.mem with leafCache := s.mem.leafCache.filter fun x =>
      !(x.drawer == d && !pteHost x.leaf && overlaps (dpaOffset (pteDpa x.leaf)) x.size (chunkBase c) (2 ^ 21)) } }

end State

/-- The bytes of a piece. -/
def Piece.len : Piece → Nat
  | .dev _ n => n
  | .bus _ _ n => n
  | .remote _ n => n

namespace State

/-- The bytes of pieces from an offset, n bytes long. -/
def subPieces : List Piece → Nat → Nat → List Piece
  | [], _, _ => []
  | p :: ps, off, n =>
    if n = 0 then []
    else if p.len ≤ off then subPieces ps (off - p.len) n
    else
      let k := min n (p.len - off)
      (match p with
        | .dev a _ => .dev (a + off) k
        | .bus port a _ => .bus port (a + off) k
        | .remote a _ => .remote (a + off) k) :: subPieces ps 0 (n - k)

end State

/-- A buffer resolved, failed with a status, or waiting for a page move or for P0. -/
inductive Res where
  | ok (ps : List Piece)
  | fail (status : Nat)
  | wait
  deriving DecidableEq, Repr

namespace State

/-- Resolve [dva, dva + len) page by page, for ring entries (R133). -/
def resolveDva (s : State) (d : Nat) (write remoteOk : Bool) : Nat → Nat → Nat → List Piece → Res × State
  | 0, _, _, acc => (.ok acc.reverse, s)
  | fuel + 1, dva, len, acc =>
    if len = 0 then (.ok acc.reverse, s)
    else
      let n := min len (65536 - dva % 65536)
      match s.translate d dva write remoteOk with
      | (.device off, s1) => s1.resolveDva d write remoteOk fuel (dva + n) (len - n) (.dev off n :: acc)
      | (.remote a, s1) => s1.resolveDva d write remoteOk fuel (dva + n) (len - n) (.remote a n :: acc)
      | (.bus p a, s1) => s1.resolveDva d write remoteOk fuel (dva + n) (len - n) (.bus p a n :: acc)
      | (t, s1) => (match t.ringStatus with
        | some st => (.fail st, s1)
        | none => (.wait, s1))

/-- Resolve a DVA range. -/
def resolveRange (s : State) (d dva len : Nat) (write remoteOk : Bool) : Res × State :=
  s.resolveDva d write remoteOk (len / 65536 + 2) dva len []

/-- Resolve bytes of one of the drawer's own regions (R282's region rules): LOCAL_PROTECTION, LOCAL_LENGTH, and
LOCAL_WRITE for a buffer that the device writes. -/
def resolveRegion (s : State) (d r off len : Nat) (write remoteOk : Bool) : Res × State :=
  let g := s.region r
  if 262144 ≤ r ∨ !g.valid ∨ g.owner ≠ d then (.fail 0x02, s)
  else if g.length < off + len then (.fail 0x01, s)
  else if write && !bit g.rights 4 then (.fail 0x02, s)
  else if g.kind = .dva then s.resolveRange d (g.base + off) len write remoteOk
  else (.ok (if len = 0 then [] else [.bus g.port (g.base + off) len]), s)

/-- Resolve a buffer reference. -/
def resolveBuf (s : State) (d : Nat) (b : BufRef) (len : Nat) (write remoteOk : Bool) : Res × State :=
  match b with
  | .none => (.ok [], s)
  | .dva a => if 2 ^ 48 < a + len then (.fail 0x0E, s) else s.resolveRange d a len write remoteOk
  | .region r off => s.resolveRegion d r off len write remoteOk

/-- A piece lies behind a hub interface that is lost: the access waits until it has retrained (R472). -/
def stackHeld (s : State) (ps : List Piece) : Bool :=
  ps.any fun p => match p with
    | .dev off _ => (s.stack (stackOf off)).lost
    | _ => false

/-- A piece can be read or written now: P0 is up where it is needed (R362), and no stack's hub interface is lost. -/
def piecesReady (s : State) (ps : List Piece) : Bool :=
  !s.stackHeld ps && ps.all fun p => match p with
    | .bus 0 _ _ => s.ring.p0.up
    | _ => true

/-- Why a piece cannot be read: bad parity, poison, or a failing port (R146, R330, R332, R362). -/
def pieceBad (s : State) (p : Piece) : Bool :=
  match p with
  | .dev off n => s.mem.dev.hasBad off n
  | .bus port a n => !s.busOk port || (s.busRam port).hasBad a n
  | .remote _ _ => false

/-- The bytes of a piece are undefined: they lie in a page that a changed entry still maps for its drawer (R135), in device memory while the
drawer owns it. The drawer's accesses to them by another path count as such too (log 148). -/
def pieceStale (s : State) (p : Piece) : Bool :=
  s.mem.stale.any fun x => match p with
    | .dev off n => x.port == 2 && overlaps off n x.addr x.size && s.mem.owner.num (chunkOf off) == 128 + x.drawer
    | .bus port a n => x.port == port && overlaps a n x.addr x.size
    | .remote _ _ => false

/-- The PCIe ports that pieces lie behind take writes (R332, R362). -/
def portsOk (s : State) (ps : List Piece) : Bool := ps.all fun p => match p with
  | .bus port _ _ => s.busOk port
  | _ => true

/-- Count a parity error met by a consumer (R146): the stack's counter and the STACK_DATA source. -/
def parityMet (s : State) (p : Piece) : State :=
  match p with
  | .dev off _ => (s.count (0x5300 + stackOf off) 2 1).raiseSource 7
  | _ => s.raiseSource 7

/-- Read pieces in order; none after a parity error, which is counted. -/
def readPieces (s : State) : List Piece → Option (List Byte) × State
  | [] => (some [], s)
  | p :: ps =>
    if s.pieceBad p then (none, s.parityMet p)
    else
      let free := s.freeBytes p.len
      let bs := if s.pieceStale p then free.1
        else match p with
        | .dev off n => s.mem.dev.readBytes off n
        | .bus port a n => (s.busRam port).readBytes a n
        | .remote _ n => List.replicate n 0
      match (if s.pieceStale p then free.2 else s).readPieces ps with
      | (some r, s1) => (some (bs ++ r), s1)
      | (none, s1) => (none, s1)

/-- The number of a 64 KiB granule of populated memory (R380). -/
def granuleOf (off : Nat) : Nat := chunkOf off * 32 + off % 2 ^ 21 / 65536

/-- Set the dirty bits of a range, where the drawer that owns it logs (R380). -/
def markDirty (s : State) (off n : Nat) : State :=
  if s.mem.owner = [] then s
  else (List.range ((off + n - 1) / 65536 - off / 65536 + 1)).foldl
    (fun st k =>
      let a := (off / 65536 + k) * 65536
      let o := st.mem.owner.num (chunkOf a)
      if 128 ≤ o ∧ st.obj 0x23C0 9 (o - 128) ≠ 0 then { st with mem := { st.mem with dirty := st.mem.dirty.setNum (granuleOf a) 1 } } else st) s

/-- Write bytes to device memory. -/
def devWrite (s : State) (off : Nat) (bs : List Byte) : State :=
  if bs = [] then s else (s.setDev (s.mem.dev.writeBytes off bs)).markDirty off bs.length

/-- Write bytes behind a PCIe port. -/
def busWrite (s : State) (f port a : Nat) (bs : List Byte) : State :=
  if port = 0 then s.hostWrite f a bs
  else if s.busOk 1 then s.setPeer (s.mem.peer.writeBytes a bs) else s

/-- Write bytes over pieces, in order. -/
def writePieces (s : State) (f : Nat) : List Piece → List Byte → State
  | [], _ => s
  | p :: ps, bs =>
    let free := s.freeBytes (bs.take p.len).length
    let now := if s.pieceStale p then free.1 else bs.take p.len
    let s0 := if s.pieceStale p then free.2 else s
    let s1 := match p with
      | .dev off _ => s0.devWrite off now
      | .bus port a _ => s0.busWrite f port a now
      | .remote _ _ => s0
    s1.writePieces f ps (bs.drop p.len)

/-- A destination that a failed operation leaves undefined. -/
def scramblePieces (s : State) (f : Nat) (ps : List Piece) : State :=
  let n := (ps.map Piece.len).sum
  let r := s.freeBytes n
  r.2.writePieces f ps r.1

/-- An entry waits: a page move that it waits for is counted once (R148). `t` is the state in which a translation met it. -/
def moveWait (s : State) (f : Nat) (e : Entry) (t : State) : State :=
  let ms := (s.mem.moves.filter (·.drawer == f)).map (·.base)
  if t.ctr 0x5308 5 = s.ctr 0x5308 5 ∨ ms.any e.waited.contains = true then s
  else (s.setEntry f { e with waited := ms }).count 0x5308 5 1

/-- The same for one that is no ring entry, by the number that names it among a move's waiters. -/
def waitForMove (s : State) (d who : Nat) (t : State) : State :=
  if t.ctr 0x5308 5 = s.ctr 0x5308 5 ∨ s.mem.moves.any (fun m => m.drawer == d && m.waiters.contains who) = true then s
  else { s with mem := { s.mem with moves := s.mem.moves.map fun (m : PageMove) => if m.drawer = d then { m with waiters := who :: m.waiters } else m } }.count 0x5308 5 1

/-- A range lies in held windows of a drawer (R139): every 64 KiB granule it touches is in a window that satisfies p. -/
def coveredBy (s : State) (d base len : Nat) (p : Window → Bool) : Bool :=
  len == 0 || (List.range ((base + len - 1) / 65536 - base / 65536 + 1)).all fun k =>
    match (s.windows d).find? (fun w => w.base ≤ (base / 65536 + k) * 65536 && (base / 65536 + k) * 65536 < w.base + w.length) with
    | some w => p w
    | none => false

/-- The windows of a drawer that cover any byte of a range, by base (R140). -/
def touching (s : State) (d base len : Nat) : List Nat :=
  ((s.windows d).filter fun w => overlaps w.base w.length base len).map (·.base)

/-- Map entries in use on a stack (R137). -/
def mapEntries (s : State) (k : Nat) : Nat :=
  (s.mem.windows.map fun kv => ((kv.2.filter (·.stack == k)).map fun w => w.length / 65536).sum).sum

end State

end Sys2Proof.Machine
end

