-- ==== Sys2Proof/Machine/Signals.lean ====
section
/-! DEFINITION. Machine/Signals.lean: pegs and what they wake ("Pegs: waiting and signalling"), bench states (R72, R73), the
work a job has outstanding (R118), and the ordering reads of R159. -/

namespace Sys2Proof.Machine

/-- A wait on value p against threshold v is met (R161). -/
def pegMet (p v : Nat) : Bool := subMod (2 ^ 32) p v < 2 ^ 31

/-- The instruction after pc, and the open loops there: a body that ends starts its next iteration or is left (R96). -/
def advanceFrom (pc : Nat) : List LoopFrame → Nat × List LoopFrame
  | [] => (pc + 1, [])
  | f :: fs =>
    if f.last = pc then
      (if f.index + 1 < f.count then (f.start + 1, { f with index := f.index + 1 } :: fs) else advanceFrom pc fs)
    else (pc + 1, f :: fs)

/-- The bench observes what the first n placements have placed: those bytes read as they stand (R55, R155). -/
def Bench.observe (b : Bench) (n : Nat) : Bench := { b with raced := b.raced.filter fun r => decide (n ≤ r.seq) }

/-- The bench passes to its next instruction. -/
def Bench.advance (b : Bench) : Bench :=
  let r := advanceFrom b.pc b.loops
  { b with pc := r.1, loops := r.2, awaits := none }

namespace State

/-! Bench states -/

/-- Number of a bench's stack. -/
def benchStack (b : Nat) : Nat := b / 64

/-- The period of the stack's bench clock in picoseconds (R75). -/
def benchPeriod (s : State) (b : Nat) : Nat := if (s.stack (b / 64)).clock = .mhz1600 then 625 else 1250

/-- k_s of a stack (R500): the cycles of every 64 that its benches skip (R74). -/
def skipOf (s : State) (k : Nat) : Nat := max s.pw.kp (max (s.pw.kt.num 0) (s.pw.kt.num (k + 1)))

/-- Bench cycles that have passed since a stack's counts were last settled. -/
def cyclesSince (s : State) (k : Nat) : Nat :=
  if (s.stack k).clock = .stopped then 0 else (s.now - (s.stack k).cycleAt) / s.benchPeriod (64 * k)

/-- The skip of the frame that a stack is in: a new k_s takes effect where a frame begins (R500). Frames begin with the count of cycles that
`settleStack` keeps (DESIGN CHOICE, log 154). -/
def frameSkip (s : State) (k : Nat) : Nat := if (s.stack k).framePos = 0 then s.skipOf k else (s.stack k).frameSkip

/-- Cycles skipped among the cycles a to b − 1 of a frame (R500). -/
def skippedIn (skip a b : Nat) : Nat := b * skip / 64 - a * skip / 64

/-- Cycles skipped among the n that follow a place in a frame: the rest of the frame at its own skip, the frames after it at the new one. -/
def skippedOf (pos old new n : Nat) : Nat :=
  if pos + n ≤ 64 then skippedIn old pos (pos + n)
  else skippedIn old pos 64 + (pos + n - 64) / 64 * new + skippedIn new 0 ((pos + n - 64) % 64)

/-- Cycles skipped since a stack's counts were last settled. -/
def skippedSince (s : State) (k : Nat) : Nat := skippedOf (s.stack k).framePos (s.frameSkip k) (s.skipOf k) (s.cyclesSince k)

/-- A stack's cycles not skipped and skipped so far, in 64ths of a cycle (R74). -/
def run64 (s : State) (k : Nat) : Nat := (s.stack k).run64 + 64 * (s.cyclesSince k - s.skippedSince k)
def skip64 (s : State) (k : Nat) : Nat := (s.stack k).skip64 + 64 * s.skippedSince k

/-- Settle a stack's counts of cycles, before its clock or its skip changes; what is left of a cycle begun goes on. -/
def settleStack (s : State) (k : Nat) : State :=
  if (s.stack k).clock = .stopped then s
  else
    let v := s.stack k
    let n := s.cyclesSince k
    s.setStack k { v with
      run64 := s.run64 k, skip64 := s.skip64 k, cycleAt := max v.cycleAt (s.now - (s.now - v.cycleAt) % s.benchPeriod (64 * k)),
      framePos := (v.framePos + n) % 64, frameSkip := if v.framePos + n < 64 then s.frameSkip k else s.skipOf k }

def settleCycles (s : State) : State := (List.range 8).foldl settleStack s

/-- What a bench's counter has gained from its present stay in a state of R72: RUN_CYCLES (1), SPIN_CYCLES (4), GATED_TIME (5),
PARKED_TIME (6) and THROTTLED_CYCLES (7). SPIN_CYCLES counts every cycle of the stay, skipped or not (log 118). -/
def stay (s : State) (b sub : Nat) : Nat :=
  let v := s.bench b
  let ns := (s.now - max v.since s.pw.resetAt) / 1000
  let run := s.run64 (b / 64) - v.sinceRun
  let skip := s.skip64 (b / 64) - v.sinceSkip
  match v.run with
  | .running => if sub = 1 then run / 64 else if sub = 7 then skip / 64 else 0
  | .spin => if sub = 1 then run / 64 else if sub = 4 then (run + skip) / 64 else if sub = 7 then skip / 64 else 0
  | .gated => if sub = 5 then ns else 0
  | .parked => if sub = 6 then ns else 0

/-- Enter a state of R72, counting the stay in the state that is left (R79). -/
def enter (s : State) (b : Nat) (r : RunState) : State :=
  let s1 := [1, 4, 5, 6, 7].foldl (fun t sub => t.count (0x5400 + b) sub (s.stay b sub)) s
  s1.setBench b { s.bench b with run := r, since := s.now, sinceRun := s.run64 (b / 64), sinceSkip := s.skip64 (b / 64) }

/-- Insert a wake request: in the order of the requests, and by bench index within a cycle (R73). -/
def insertWake (b t : Nat) : List (Nat × Nat) → List (Nat × Nat)
  | [] => [(b, t)]
  | (c, u) :: r => if u = t ∧ b < c then (b, t) :: (c, u) :: r else (c, u) :: insertWake b t r

/-- Ask the stack's governor for a wake; a bench has at most one request pending (R163). -/
def askWake (s : State) (b : Nat) : State :=
  let v := s.bench b
  if v.wakeAsked then s
  else
    let k := s.stack (b / 64)
    (s.setBench b { v with wakeAsked := true }).setStack (b / 64) { k with wakes := insertWake (b % 64) s.now k.wakes }

/-- Ask for a wake for a hand's combining step on a bench (R212); a bench has at most one such request or unused wake. -/
def askHelp (s : State) (b : Nat) : State :=
  let k := s.stack (b / 64)
  if k.helped.contains (b % 64) ∨ k.helps.any (fun w => w.1 == b % 64) then s
  else s.setStack (b / 64) { k with helps := insertWake (b % 64) s.now k.helps }

/-- The request that the governor grants next: of the two waiting first, the earlier, or the lower bench of the same cycle (R73). True: for
a combining step. -/
def nextGrant (k : Stack) : Option (Nat × Nat × Bool) :=
  match k.wakes, k.helps with
  | (b, t) :: _, (c, u) :: _ => if u < t ∨ (u = t ∧ c < b) then some (c, u, true) else some (b, t, false)
  | (b, t) :: _, [] => some (b, t, false)
  | [], (c, u) :: _ => some (c, u, true)
  | [], [] => none

/-- A grant of a stack's governor: at most 8 in any 256.25 ns, and none while the stack has no clock (R73). -/
def grantWake (s : State) (i : Nat) : State :=
  let k := s.stack i
  let recent := k.grants.filter fun t => s.now < t + 256250
  match nextGrant k with
  | some (b, t, help) =>
    if k.clock = .stopped ∨ 8 ≤ recent.length then s
    else
      let n := 64 * i + b
      let s1 :=
        if help then s.setStack i { k with helps := k.helps.tail, helped := k.helped ++ [b], grants := recent ++ [s.now] }
        else
          let u := s.setStack i { k with wakes := k.wakes.tail, grants := recent ++ [s.now] }
          u.setBench n { u.bench n with granted := some (s.run64 i) }
      (s1.count (0x5400 + n) 9 1).count (0x5400 + n) 8 ((s.now - t) / 1000)
  | none => s

/-- The bench returns to PARKED, with its requests withdrawn (R72, R118). -/
def park (s : State) (b : Nat) : State :=
  let s1 := s.enter b .parked
  let k := s1.stack (b / 64)
  (s1.setBench b { s1.bench b with awaits := none, wakeAsked := false, granted := none, loops := [] }).setStack (b / 64)
    { k with wakes := k.wakes.filter fun w => w.1 != b % 64 }

/-! Pegs -/

/-- The hub peg that a bench's peg views while its job's image runs (R152). -/
def viewOf (s : State) (b peg : Nat) : Option Nat :=
  match (s.bench b).job with
  | some d =>
    match s.job d with
    | some j =>
      (s.cmp.views.find? fun w => w.fid == j.fid && w.slot == j.slot && w.logical == (s.bench b).logical && w.view == peg).map (·.hubPeg)
    | none => none
  | none => none

/-- The value that PEG_WAIT and BRANCH read (R152). -/
def pegValue (s : State) (b peg : Nat) : Nat :=
  match s.viewOf b peg with
  | some h => s.hubPeg h
  | none => (s.bench b).pegs.num peg

/-- The bench observes the value of a peg: with it every byte placed before the last add applied to that peg, and no other (R155; a BRANCH
observes whatever value it reads: DESIGN CHOICE, log 36). -/
def observePeg (s : State) (b peg : Nat) : State :=
  s.setBench b ((s.bench b).observe (match s.viewOf b peg with
    | some h => s.cmp.hubAt.num h
    | none => (s.bench b).pegAt.num peg))

/-- The value of a peg that a bench awaits may have changed: a spinning bench that now meets its condition runs, a gated
one asks for a wake (R162, R163). -/
def pegChanged (s : State) (b peg : Nat) : State :=
  let v := s.bench b
  match v.awaits with
  | some (q, t) =>
    if q ≠ peg then s
    else if v.run = .gated then s.askWake b
    else if v.run = .spin ∧ pegMet (s.pegValue b peg) t then ((s.setBench b v.advance).observePeg b peg).enter b .running
    else s
  | none => s

/-- Pending PEG_SET waits that the hub peg now meets complete (R166). -/
def checkWaits (s : State) (h : Nat) : State :=
  let met := s.cmp.waits.filter fun w => w.peg == h && pegMet (s.hubPeg h) w.threshold
  let s1 := { s with cmp := { s.cmp with waits := s.cmp.waits.filter fun w => !(w.peg == h && pegMet (s.hubPeg h) w.threshold) } }
  met.foldl (fun st w => st.completeIdx w.fid w.entry 0 (leBytes 2 h ++ [0, 0] ++ leBytes 4 (s.hubPeg h))) s1

/-- Give a hub peg a value that the first n placements precede: benches that view it and entries that wait on it see it (R153, R163). -/
def setHubPegAt (s : State) (h v n : Nat) : State :=
  let s1 := { s with cmp := { s.cmp with hubPegs := s.cmp.hubPegs.setNum h (v % 2 ^ 32), hubAt := s.cmp.hubAt.setNum h n } }
  let s2 := (s.cmp.views.filter (·.hubPeg == h)).foldl
    (fun st w => (st.cmp.benches.map (·.1)).foldl
      (fun st2 b => if st2.viewOf b w.view = some h then st2.pegChanged b w.view else st2) st) s1
  s2.checkWaits h

/-- Replace a hub peg's value: no add makes it up, so it publishes nothing (R153, R155). It wakes a GATED bench that views the peg as an add
does (DESIGN CHOICE, log 147). -/
def setHubPeg (s : State) (h v : Nat) : State := s.setHubPegAt h v 0

/-- Add to a hub peg (R149): the value publishes what has been placed up to now (R155). -/
def addHubPeg (s : State) (h v : Nat) : State := s.setHubPegAt h (s.hubPeg h + v) s.cmp.placed

/-- Add to a bench's peg, or through it to the hub peg it views (R99, R152). -/
def addBenchPeg (s : State) (b peg v : Nat) : State :=
  match s.viewOf b peg with
  | some h => s.addHubPeg h v
  | none =>
    let w := s.bench b
    (s.setBench b { w with pegs := w.pegs.setNum peg ((w.pegs.num peg + v) % 2 ^ 32), pegAt := w.pegAt.setNum peg s.cmp.placed }).pegChanged b
      peg

/-- The hub peg's block belongs to a drawer (R151). -/
def ownsPeg (s : State) (d h : Nat) : Bool := s.obj 0x2340 (h / 64 + 1) == 128 + d

/-! Jobs -/

/-- The first failure of a job decides its status; its benches stop and park (R118). A job that stops for an earlier failure keeps that status
when its drawer is stopped: R118 and R120 do not say which of the two prevails (DESIGN CHOICE, log 133). -/
def failJob (s : State) (d status logical instr : Nat) : State :=
  match s.job d with
  | some j =>
    let j1 := { j with failure := some (j.failure.getD (status, logical, instr)), stopping := true }
    j.map.foldl (fun st b => if (st.bench b).ended then st else st.park b) (s.setJob d (some j1))
  | none => s

/-- A transfer or add of a job has finished (R118); a status other than OK fails the job at the instruction that issued it. -/
def workDone (s : State) (d work status : Nat) : State :=
  match s.job d with
  | some j =>
    match j.work.find? (·.id == work) with
    | some w =>
      let s1 := s.setJob d (some { j with work := j.work.filter (·.id != work) })
      if status = 0 then s1 else s1.failJob d status w.logical w.instr
    | none => s
  | none => s

/-- A placement into device memory is not ordered against the streams of the owning drawer's running job (R22, R55), but for that of the
bench that makes it. -/
def raceBut (s : State) (own : Option Nat) (ps : List Piece) : State :=
  let n := s.cmp.placed
  ps.foldl
    (fun st p => match p with
      | .dev off k =>
        if k = 0 then st
        else match st.job (st.mem.owner.num (chunkOf off) - 128) with
          | some j => if st.mem.owner.num (chunkOf off) < 128 then st else
            (j.map.filter fun b => own != some b).foldl
              (fun t b => t.setBench b { t.bench b with raced := (t.bench b).raced ++ [⟨off, k, n⟩] }) st
          | none => st
      | _ => st) { s with cmp := { s.cmp with placed := n + 1 } }

/-- A placement by NVME_IO, HRT, a Derone transfer, a hand or the hub (R22, R55). -/
def race (s : State) (ps : List Piece) : State := s.raceBut none ps

/-- What a bench finds at a local offset that holds x: a byte that an unordered placement has written is whatever it finds (R22). -/
def found (s : State) (b off : Nat) (x : Byte) : Byte :=
  if (s.bench b).raced.any (fun r => decide (r.off ≤ off) && decide (off < r.off + r.len)) then Config.racedByte s.drawn off else x

/-- What a bench finds in pieces of device memory that hold these bytes. -/
def foundIn (s : State) (b : Nat) : List Piece → List Byte → List Byte
  | [], bs => bs
  | .dev off n :: r, bs => ((bs.take n).zipIdx.map fun x => s.found b (off + x.2) x.1) ++ s.foundIn b r (bs.drop n)
  | p :: r, bs => bs.take p.len ++ s.foundIn b r (bs.drop p.len)

/-! Ordering reads (R159) -/

/-- The requester ID of a request for a function: on P1 the peer function's, which is no FID, whatever the drawer (R331, R332). -/
def requester (port fid : Nat) : Nat := if port = 1 then 128 else fid

/-- Issue the 4-byte read behind the last write on a port. -/
def issueOrdering (s : State) (port addr fid : Nat) (why : OrderedBy) : State :=
  let id := s.fab.nextOrdering
  ({ s with fab := { s.fab with nextOrdering := id + 1, orderings := s.fab.orderings ++ [OrderingRead.mk id port (addr / 4 * 4) fid why] } }).emit
    (.pcieRequest port (requester port fid) (addr / 4 * 4) (leBytes 4 id))

/-- The pieces of a transfer that lie behind PCIe ports. -/
def busPieces (ps : List Piece) : List Piece := ps.filter fun p => match p with
  | .bus _ _ n => n != 0
  | _ => false

/-- The port and address that the ordering read of R159 names: those of the transfer's last four bytes behind PCIe, whose last piece may
hold fewer. Of a transfer of fewer than four bytes, the four that end where it ends (DESIGN CHOICE, log 147). -/
def lastBusOf (ps : List Piece) : Option (Nat × Nat) :=
  let bs := busPieces ps
  let n := (bs.map Piece.len).sum
  match bs.getLast?, subPieces bs (n - 4) 1 with
  | some (.bus port a k), [.bus q c _] => some (port, if 4 ≤ k ∨ n < 4 ∨ q ≠ port then a + k - 4 else c)
  | _, _ => none

/-- Note where the destination of an entry of R526's list ends on each port, from the whole of the destination. Later entries than any that
can stand in a ring keep an older note from being asked for. -/
def noteBus (s : State) (f idx : Nat) (ps : List Piece) : State :=
  [0, 1].foldl
    (fun st port => match (busPieces ps).reverse.find? fun p => match p with
        | .bus q _ _ => q == port
        | _ => false with
      | some (.bus _ a n) =>
        let old := (st.fn f).lastBus.filter fun x => !(x.idx == idx && x.port == port)
        st.setFn f { st.fn f with lastBus := (⟨idx, port, a + n⟩ :: old).take 262144 }
      | _ => st) s

/-- The end of what the entries before an index wrote last on a port: that of the latest of them (R526). -/
def lastBusBefore (s : State) (f idx port : Nat) : Option Nat :=
  let before (x : BusNote) : Nat := subMod (2 ^ 32) idx x.idx
  let xs := (s.fn f).lastBus.filter fun x => x.port == port && decide (1 ≤ before x) && decide (before x < 2 ^ 31)
  (xs.foldl (fun m x => match m with
    | some y => if before x < before y then some x else some y
    | none => some x) none).map (·.addr)

end State

end Sys2Proof.Machine
end

