-- ==== Sys2Proof/Machine/HandWire.lean ====
section
/-! DEFINITION. Machine/HandWire.lean: the hand header (R219), on Derone and on HRT, and the matching of an accepted hand
packet to its context (R223). -/

namespace Sys2Proof.Machine

/-- The 32 bytes of the header; `be` in network byte order, as on HRT (R219). -/
def HandPkt.head (p : HandPkt) (be : Bool) : List Byte :=
  let f (n v : Nat) := if be then beBytes n v else leBytes n v
  f 4 p.key ++ f 4 p.seq ++ f 8 p.sig ++ f 1 p.kind ++ f 1 p.status ++ f 2 p.src ++ f 2 p.dst ++ f 2 p.failed ++ f 2 p.step ++
  f 2 0 ++ f 4 p.element

def HandPkt.parse (bs : List Byte) (be : Bool) : HandPkt :=
  let g (o n : Nat) := if be then beAt bs o n else leAt bs o n
  { key := g 0 4, seq := g 4 4, sig := g 8 8, kind := g 16 1, status := g 17 1, src := g 18 2, dst := g 20 2, failed := g 22 2,
    step := g 24 2, element := g 28 4, data := bs.drop 32 }

namespace State

def table (s : State) (t : Nat) : Option Table := Sparse.get (fun _ => none) s.hands.tables t

def setTable (s : State) (t : Nat) (c : Option Table) : State :=
  { s with hands := { s.hands with tables := Sparse.set (fun _ => none) s.hands.tables t c } }

/-- The mark of a hand packet that leaves: its deal, HAND_SEQ and KIND. -/
def handMark (c : Table) (p : HandPkt) : Nat := 8 * (2 ^ 32 * c.deals + p.seq) + p.kind

/-- Tell a table that one of its hands' packets has ended: its mark, and the status (R227, R233). -/
def noteHand (s : State) (t mark status : Nat) : State :=
  match s.table t with
  | some c => s.setTable t (some { c with ends := c.ends ++ [(mark, status)] })
  | none => s

def tableCtr (t : Nat) : Nat := 0x5200 + t

/-- A DATA packet of a table's present deal leaves (R237). -/
def countSegment (s : State) (t mark : Nat) : State :=
  match s.table t with
  | some c => if mark % 8 = 1 ∧ mark / 8 / 2 ^ 32 = c.deals then s.count (tableCtr t) 4 1 else s
  | none => s

/-- The current hand of a context: the running one, or the next to start (R223). -/
def currentSeq (c : Table) : Nat :=
  match c.running with
  | some h => h.seq
  | none => c.seq

/-- An accepted hand packet goes to the context of the drawer that holds its TABLE_KEY and DST_RANK; the current hand's and
the next one's are kept, others discarded (R223). A reserved KIND is discarded. -/
def deliverHand (s : State) (drawer : Nat) (p : HandPkt) : State :=
  match firstBelow 64 fun t => match s.table t with
    | some c => c.fid == drawer && c.deal.key == p.key && c.deal.rank == p.dst
    | none => false with
  | none => s.count 0x5240 1 1
  | some t =>
    match s.table t with
    | none => s
    | some c =>
      let cur := currentSeq c
      if p.seq ≠ cur ∧ p.seq ≠ (cur + 1) % 2 ^ 32 then s.count (tableCtr t) 7 1
      else if p.kind = 0 ∨ 5 < p.kind then s
      else
        let s1 := if p.kind = 1 then s.count (tableCtr t) 5 1 else if p.kind = 3 then s.count (tableCtr t) 8 1 else s
        s1.setTable t (some { c with inbox := c.inbox ++ [p] })

/-- The landing base of a dealt context of a drawer (R221). -/
def landingOf (s : State) (drawer off : Nat) : Bool :=
  (List.range 64).any fun t => match s.table t with
    | some c => c.fid == drawer && (nth ⟨0, 0, none, 0⟩ c.deal.members c.deal.rank).landing == off
    | none => false

end State

end Sys2Proof.Machine
end

