-- ==== Sys2Proof/Machine/Packets.lean ====
section
/-! DEFINITION. Machine/Packets.lean: Derone packets (R171–R176), output queues (R177–R180), route lookup (R186), and how a
transfer of this module is launched and ends (R174, R181, R184), with COPY operations over Derone (R183, R188, R343). -/

namespace Sys2Proof.Machine

/-- A packet's header and payload. -/
structure Packet where
  kind : Nat
  vc : Nat
  first : Bool
  last : Bool
  sig : Bool
  dst : Nat
  src : Nat
  drawer : Nat
  epoch : Nat
  len : Nat
  hops : Nat
  id : Nat
  index : Nat
  addr : Nat
  info : Nat
  payload : List Byte
  deriving DecidableEq, Repr

/-- Bytes 0–27 of the header (R173). -/
def Packet.head (p : Packet) : List Byte :=
  leBytes 8 (p.kind + p.vc * 16 + bnat p.first * 32 + bnat p.last * 64 + bnat p.sig * 128 + p.dst * 2 ^ 8 + p.src * 2 ^ 16 +
    p.drawer * 2 ^ 24 + p.epoch * 2 ^ 32 + p.len * 2 ^ 40 + p.hops * 2 ^ 53) ++
  leBytes 8 (p.id + p.index * 2 ^ 32) ++ leBytes 8 p.addr ++ leBytes 4 p.info

/-- The packet on the wire: header, HCRC, and the payload padded to whole slots (R171, R173). -/
def Packet.bytes (p : Packet) : List Byte :=
  p.head ++ leBytes 4 (crc32c p.head) ++ padTo (roundUp p.len 32) p.payload

/-- The header fields that R175 checks besides HCRC: reserved bits, TYPE, VC, LENGTH, SIG, INFO and the flags. INDEX 0 goes with FIRST, and a
WRITE packet without LAST ends at a multiple of its VC's largest payload, where the next one begins (R172). READ_RESP packets are cut so along
the responder's source addresses: the first is some part of 4,096 bytes, and those in the middle are whole. -/
def Packet.legal (w0 w1 w2 : Nat) (p : Packet) : Bool :=
  w0 / 2 ^ 57 == 0 && !bit w0 31 && w1 / 2 ^ 54 == 0 && w2 / 2 ^ 52 == 0 && p.kind ≤ 4 &&
  (if p.kind == 0 then
    let m := if p.vc == 0 then 4096 else 256
    1 ≤ p.len && p.len ≤ m && (!p.sig || p.last) && (if p.sig then p.info < 4096 else p.info == 0) && p.first == (p.index == 0) &&
    (p.last || (p.addr + p.len) % m == 0) && (p.first || p.addr % m == 0)
   else if p.kind == 1 then p.vc == 1 && p.len == 0 && !p.sig && 1 ≤ p.info && p.info ≤ 262144
   else if p.kind == 2 then p.vc == 0 && 1 ≤ p.len && p.len ≤ 4096 && !p.sig && p.info == 0 && p.first == (p.index == 0) &&
    (if p.first then p.addr == 0 else decide (4096 * (p.index - 1) < p.addr) && decide (p.addr ≤ 4096 * p.index) && (p.last || p.len == 4096))
   else p.vc == 1 && p.len == 0 && !p.sig && p.drawer == 0 && p.addr == 0 && (if p.kind == 4 then p.info < 256 else p.info == 0))

/-- Read a packet by its header; nothing for one that R175 discards unanswered. -/
def Packet.header (bs : List Byte) : Option Packet :=
  let w0 := leAt bs 0 8
  let w1 := leAt bs 8 8
  let w2 := leAt bs 16 8
  let len := bits w0 52 40
  let p : Packet :=
    { kind := bits w0 3 0, vc := bits w0 4 4, first := bit w0 5, last := bit w0 6, sig := bit w0 7, dst := bits w0 15 8,
      src := bits w0 23 16, drawer := bits w0 30 24, epoch := bits w0 39 32, len := len, hops := bits w0 56 53,
      id := bits w1 31 0, index := bits w1 53 32, addr := bits w2 51 0, info := leAt bs 24 4,
      payload := slice bs 32 len }
  if 32 ≤ bs.length ∧ leAt bs 28 4 = crc32c (bs.take 28) ∧ Packet.legal w0 w1 w2 p then some p else none

/-- A whole packet: its header, and every slot of its payload. -/
def Packet.parse (bs : List Byte) : Option Packet :=
  (Packet.header bs).filter fun p => bs.length == 32 + roundUp p.len 32

/-- Flits of a packet, whose header begins in the second slot of the flit before it when `shared` (R171); and whether its last flit's
second slot is empty. -/
def packetFlits (bytes : Nat) (shared : Bool) : Nat × Bool :=
  let n := bytes / 32 - bnat shared
  ((n + 1) / 2, n % 2 == 1)

/-- Cut `len` bytes at `addr` so that every piece but the last ends at a multiple of `m`: offset and length of each. -/
def cutAt (m addr : Nat) : Nat → Nat → Nat → List (Nat × Nat)
  | 0, _, _ => []
  | fuel + 1, off, len =>
    if len = 0 then []
    else
      let n := min len (m - (addr + off) % m)
      (off, n) :: cutAt m addr fuel (off + n) (len - n)

def cuts (m addr len : Nat) : List (Nat × Nat) := cutAt m addr (len / m + 2) 0 len

namespace State

/-- Low 8 bits of the route epoch in force. -/
def epoch8 (s : State) : Nat := s.obj 0x2800 2 % 256

/-- The active table's entry for a module; before Stage 2 every other module is UNREACHABLE (R186, R190). -/
def routeEntry (s : State) (m : Nat) : Nat :=
  if s.level < 2 ∨ s.fab.active = [] then (if m = s.moduleId then 8 else 0xFF) else (nth 0xFF s.fab.active m).toNat

/-- A D port is UP (R168). -/
def portUp (s : State) (p : Nat) : Bool := s.obj (0x2808 + p) 2 == 2

def outQueue (s : State) (k : Nat) : List Queued := Sparse.get (fun _ => []) s.fab.outq k

def setOutQueue (s : State) (k : Nat) (q : List Queued) : State :=
  { s with fab := { s.fab with outq := Sparse.set (fun _ => []) s.fab.outq k q } }

def heldOff (s : State) (k : Nat) : Option Nat := Sparse.get (fun _ => none) s.fab.off k

/-- Update an outstanding transfer. -/
def mapXfer (s : State) (id : Nat) (g : Xfer → Xfer) : State :=
  { s with fab := { s.fab with xfers := s.fab.xfers.map fun (y : Xfer) => if y.id = id then g y else y } }

/-- The outstanding transfer with an ID. -/
def findXfer (s : State) (id : Nat) : Option Xfer := s.fab.xfers.find? fun x => x.id == id

/-- A packet of a transfer or read request of this module's own (R184). -/
def ownPacket (s : State) (pkt : List Byte) : Option Packet :=
  (Packet.parse pkt).filter fun p => p.src == s.moduleId && decide (p.kind ≤ 1)

/-- The first packet of a transfer of this module, or its last, leaves: the times of R184 run from here. -/
def noteLeft (s : State) (pkt : List Byte) : State :=
  match s.ownPacket pkt with
  | some p => s.mapXfer p.id fun y =>
      { y with firstSent := if p.first ∧ !y.resent then s.now else y.firstSent, lastSent := if p.last then s.now else y.lastSent }
  | none => s

/-- A packet leaves by an output, whole: its flits are counted, and its requester has had its turn (R171, R177, R189). -/
def sendPacket (s : State) (port vc source : Nat) (pkt : List Byte) : State :=
  let k := 2 * port + vc
  let f := packetFlits pkt.length (s.fab.half.num k == s.now + 1)
  let from0 := max s.now (Sparse.get (fun _ => (0, 0)) s.fab.busy k).1
  let s1 := { s with fab := { s.fab with
    pointer := s.fab.pointer.setNum k ((min source 8 + 1) % 9), half := s.fab.half.setNum k (if f.2 then s.now + 1 else 0),
    busy := Sparse.set (fun _ => (0, 0)) s.fab.busy k (from0 + 640 * f.1, source) } }
  (((s1.emit (.derone port vc pkt)).count (0x5280 + port) 3 1).count (0x5280 + port) 1 f.1).noteLeft pkt

/-- Where a packet of this module's own comes from: its kind of answer, or, from 9 on, the operation whose transfer it is of, or the read it
answers. The hub's sources are one requester of the arbiter (R177), but several streams of packets (R189). -/
def streamOf (a b : Nat) : Nat := 9 + a + 65536 * b

/-- A header finds its output VC granted to a packet of another stream (R177, R189). Packets of one operation follow one another: a planned
operation's own traffic is no backstop event. -/
def contended (s : State) (k source : Nat) : Bool :=
  let b := Sparse.get (fun _ => (0, 0)) s.fab.busy k
  (s.outQueue k).any (·.source != source) || (decide (s.now < b.1) && b.2 != source)

/-- A packet reaches an output: it leaves, or waits there while the partner holds that VC OFF (R179). -/
def putPacket (s : State) (port vc source : Nat) (pkt : List Byte) : State :=
  let k := 2 * port + vc
  let q := s.outQueue k
  let s1 := if vc = 0 ∧ s.contended k source then s.count (0x5280 + port) 7 1 else s
  if q.isEmpty && (s.heldOff k).isNone then s1.sendPacket port vc source pkt else s1.setOutQueue k (q ++ [⟨pkt, s.now, source⟩])

/-- Send a packet of this module by the route table; a packet with no way out is dropped. -/
def sendRouted (s : State) (p : Packet) : State :=
  let e := s.routeEntry p.dst
  if e < 8 ∧ s.portUp e then s.putPacket e p.vc (if p.kind = 2 then streamOf 65535 (p.dst + 256 * p.id) else 8) p.bytes else s

/-- The packets of a transfer that have not left: a transfer that has failed, or must be sent again, sends no more of them (R184). -/
def dropPackets (s : State) (id : Nat) : State :=
  (List.range 16).foldl
    (fun st k => st.setOutQueue k ((st.outQueue k).filter fun q => ((st.ownPacket q.packet).map (·.id)) != some id)) s

/-- A packet of the transfer still waits at an output. -/
def packetsWait (s : State) (id : Nat) : Bool :=
  (List.range 16).any fun k => (s.outQueue k).any fun q => ((s.ownPacket q.packet).map (·.id)) == some id

/-- Send an ACK or a NAK (R173, R176). FIRST and LAST are set in a packet that is alone (DESIGN CHOICE, log 20). -/
def answerDerone (s : State) (dst kind id code : Nat) : State :=
  let s1 := if kind = 4 then s.count 0x5288 5 1 else s
  s1.sendRouted { kind := kind, vc := 1, first := true, last := true, sig := false, dst := dst, src := s.moduleId, drawer := 0,
                  epoch := s.epoch8, len := 0, hops := 0, id := id, index := 0, addr := 0, info := code, payload := [] }

/-- A range of local offsets is populated and outside the reserved chunks (R182, steps 1 and 2). -/
def admissible (off len : Nat) : Bool :=
  len == 0 || (populated off && populated (off + len - 1) && stackOf off == stackOf (off + len - 1) &&
    !reservedChunk (chunkOf off) && !reservedChunk (chunkOf (off + len - 1)))

/-- Accept window n admits a packet, and every chunk the packet touches belongs to its drawer (R182, steps 3 and 4). -/
def windowAdmits (s : State) (n src drawer off len : Nat) (write : Bool) : Bool :=
  let g := fun sub => s.obj (0x2820 + n) sub
  g 1 == 1 && (g 4 == 1 || g 3 == src) && (g 5 == 0xFF || g 5 == drawer) && g 6 ≤ off && off + len ≤ g 6 + g 7 &&
  bit (g 8) (if write then 0 else 1) &&
  (List.range (chunkOf (off + len - 1) - chunkOf off + 1)).all fun c => s.mem.owner.num (chunkOf off + c) == 128 + g 2

/-- The drawer of a window that admits the range; none where the arrival is refused. -/
def arrival (s : State) (src drawer dpa len : Nat) (write : Bool) : Option Nat :=
  let off := dpaOffset dpa
  if !admissible off len then none
  else (firstBelow 64 fun n => s.windowAdmits n src drawer off len write).map fun n => s.obj (0x2820 + n) 2

/-! Bytes that transfers place at overlapping times (R185) -/

/-- The bytes that a transfer's placement leaves at a local offset: its own, but free ones where another transfer has written since this one
began, or where one still in progress has written (R185; log 122). A read of this module's own has the source 256. -/
def mixedBytes (s : State) (src id off : Nat) (bs : List Byte) : List Byte × State :=
  let clash := s.fab.contexts.flatMap fun c => if c.src = src ∧ c.id = id then c.crossed else c.placed
  if clash.any (fun r => overlaps off bs.length r.1 r.2) then
    ((bs.zipIdx).map fun x => if clash.any (fun r => decide (r.1 ≤ off + x.2) && decide (off + x.2 < r.1 + r.2)) then
        Config.freeByte (s.drawn + x.2) else x.1,
     { s with drawn := s.drawn + bs.length })
  else (bs, s)

/-- A transfer has placed bytes: its own context and those of the other transfers in progress take note (R185). -/
def notePlaced (s : State) (src id off n : Nat) : State :=
  { s with fab := { s.fab with contexts := s.fab.contexts.map fun c =>
      if c.src = src ∧ c.id = id then { c with placed := c.placed ++ [(off, n)] } else { c with crossed := c.crossed ++ [(off, n)] } } }

/-- A transfer places bytes in this module's memory. Its placement is not ordered against a running job's reads (R22), but for the bench that
asked for it (R55), nor against other transfers (R185). -/
def placeBytes (s : State) (own : Option Nat) (src id off : Nat) (bs : List Byte) : State :=
  let x := s.mixedBytes src id off bs
  ((x.2.devWrite off x.1).raceBut own [.dev off bs.length]).notePlaced src id off bs.length

/-- What a READ_RESP brings to the pieces of its destination: placed in memory as a transfer's bytes are, and written behind the ports. -/
def placeOnto (s : State) (f src id : Nat) : List Piece → List Byte → State
  | [], _ => s
  | .dev off n :: r, bs =>
    (if s.pieceStale (.dev off n) then s.writePieces f [.dev off n] (bs.take n) else s.placeBytes none src id off (bs.take n)).placeOnto
      f src id r (bs.drop n)
  | p :: r, bs => (s.writePieces f [p] (bs.take p.len)).placeOnto f src id r (bs.drop p.len)

/-- The bench whose MOVE or SEND asked for a transfer (R118). -/
def originBench (s : State) (o : Origin) : Option Nat :=
  if 128 ≤ o.fid ∧ o.fid < 256 then
    (s.job (o.fid - 128)).bind fun j => (j.work.find? (·.id == o.idx)).bind fun w => j.map[w.logical]?
  else none

/-- A write transfer to this module's own ID never leaves the module: its pieces are checked and placed as arrivals are
(R186). Answers the status. -/
def localPieces (s : State) (x : Xfer) : List (Nat × Nat) → State × Nat
  | [] => (s, 0)
  | (o, n) :: r =>
    match s.arrival s.moduleId x.drawer (x.addr + o) n true with
    | none => (s.count 0x5288 8 1, 3)
    | some d =>
      let s1 := if s.landingOf d (dpaOffset (x.addr + o)) then s.deliverHand d (HandPkt.parse (slice x.data o n) false)
        else s.placeBytes (s.originBench x.origin) 257 0 (dpaOffset (x.addr + o)) (slice x.data o n)
      match r, x.sig with
      | [], some h => if s1.ownsPeg d h then (s1.addHubPeg h 1, 0) else (s1.count 0x5288 8 1, 3)
      | _, _ => s1.localPieces x r

/-- The packets of a transfer, in INDEX order (R172, R183). -/
def xferPackets (s : State) (x : Xfer) : List Packet :=
  if x.read then
    [{ kind := 1, vc := 1, first := true, last := true, sig := false, dst := x.module, src := s.moduleId, drawer := x.drawer,
       epoch := s.epoch8, len := 0, hops := 0, id := x.id, index := 0, addr := x.addr, info := x.len, payload := [] }]
  else
    let cs := cuts (if x.vc = 0 then 4096 else 256) x.addr x.len
    (cs.zipIdx).map fun (c, i) =>
      let fin := i + 1 == cs.length
      { kind := 0, vc := x.vc, first := i == 0, last := fin, sig := fin && x.sig.isSome, dst := x.module, src := s.moduleId,
        drawer := x.drawer, epoch := s.epoch8, len := c.2, hops := 0, id := x.id, index := i, addr := x.addr + c.1,
        info := if fin then x.sig.getD 0 else 0, payload := slice x.data c.1 c.2 }

/-- The port a transfer leaves by: its dovetail port, or the route table's (R186, R188). -/
def xferPort (s : State) (x : Xfer) : Nat := if x.port < 8 then x.port else s.routeEntry x.module

/-- Send every packet of a transfer. -/
def sendXfer (s : State) (x : Xfer) : State :=
  (s.xferPackets x).foldl (fun st p => st.putPacket (s.xferPort x) p.vc (streamOf x.origin.fid x.origin.idx) p.bytes) s

/-- Launch a transfer: it gets its TRANSFER_ID and its packets leave, or it ends at once with a status (R186, R188). -/
def launch (s : State) (x : Xfer) : State × Option Nat :=
  let e := s.routeEntry x.module
  let leaves (u : State) : State := if 256 ≤ x.origin.fid then u.countSegment (x.origin.fid - 256) x.origin.idx else u
  if e = 8 then
    (if x.read then (s, some 0x0E) else
      let r := s.localPieces x (cuts 4096 x.addr x.len)
      (leaves r.1, some r.2))
  else if 8 ≤ e ∨ !s.portUp (s.xferPort x) then (s, some 0x09)
  else
    let y := { x with id := s.fab.nextId, firstSent := s.now, lastSent := s.now }
    let own : List RxContext := if x.read then [⟨256, y.id, s.xferPort x, 0, false, [], []⟩] else []
    (leaves (({ s with fab := { s.fab with nextId := (s.fab.nextId + 1) % 2 ^ 32, xfers := s.fab.xfers ++ [y],
                                           contexts := s.fab.contexts ++ own } }).sendXfer y), none)

/-- Start a transfer, or let it wait while 4,096 are outstanding (R174). -/
def startXfer (s : State) (x : Xfer) : State × Option Nat :=
  if 4096 ≤ s.fab.xfers.length ∨ s.fab.waiting ≠ [] then
    ({ s with fab := { s.fab with waiting := s.fab.waiting ++ [x] } }, none)
  else s.launch x

/-! COPY over Derone -/

def setCopy (s : State) (c : CopyOp) : State :=
  { s with fab := { s.fab with copies := s.fab.copies.map fun x => if x.fid == c.fid && x.idx == c.idx then c else x } }

def dropCopy (s : State) (f idx : Nat) : State :=
  { s with fab := { s.fab with copies := s.fab.copies.filter fun x => !(x.fid == f && x.idx == idx) } }

/-- The bytes of a COPY or MOVE are all placed: a COPY's signal is applied, behind an ordering read where the destination is bus memory, and
the entry completes (R156, R159, R343). -/
def copyPlaced (s : State) (f idx : Nat) (dest : List Piece) (carried : Bool) : State :=
  if 128 ≤ f then s.workDone (f - 128) idx 0
  else
  let s0 := s.noteBus f idx dest
  match s0.findEntry f idx with
  | some e =>
    if e.sig && !carried then
      (match lastBusOf dest with
      | some (port, a) => (s0.issueOrdering port a f (.copy f idx)).busy f e
      | none => (s0.addHubPeg e.sigPeg 1).completeIdx f idx 0 [])
    else s0.complete f e 0 []
  | none => s0

/-- A COPY ends with a status other than OK: its destination is undefined (R343). -/
def copyFailed (s : State) (f idx status : Nat) (dest : List Piece) : State :=
  if 128 ≤ f then s.workDone (f - 128) idx status
  else (s.scramblePieces f dest).completeIdx f idx status []

/-- An operation before `idx` of the same bench still has bytes to place on this module (R154, R156). -/
def earlierHere (s : State) (f idx : Nat) : Bool :=
  let bench (i : Nat) : Option Nat := if i = idx ∨ i < idx then s.originBench ⟨f, i⟩ else none
  let before (i : Nat) : Bool := decide (i < idx) && (bench idx).isSome && bench i == bench idx
  let here (op : CopyOp) : Bool := op.fid == f && before op.idx && (op.todo ++ op.final.toList).any (·.module == s.moduleId)
  (s.fab.held.any fun h => here h.op) || s.fab.copies.any here ||
  s.fab.waiting.any fun x => x.origin.fid == f && before x.origin.idx && x.module == s.moduleId

/-- Issue what a COPY or MOVE may issue now, and finish it when nothing is left. A COPY has at most 8 read requests outstanding (R183). A
signal within this module waits for the bench's earlier operations there (R154, R156). -/
def copyPump (s : State) (f idx : Nat) : Nat → State
  | 0 => s
  | fuel + 1 =>
    match s.fab.copies.find? (fun c => c.fid == f && c.idx == idx) with
    | none => s
    | some c =>
      if c.status ≠ 0 then (if c.outstanding = 0 then (s.dropCopy f idx).copyFailed f idx c.status c.dest else s)
      else match c.todo with
        | x :: r =>
          if x.read ∧ 8 ≤ c.outstanding then s
          else
            match (s.setCopy { c with todo := r }).startXfer x with
            | (s1, none) => (s1.setCopy { c with todo := r, outstanding := c.outstanding + 1 }).copyPump f idx fuel
            | (s1, some st) => (s1.setCopy { c with todo := if st = 0 then r else [], status := st }).copyPump f idx fuel
        | [] =>
          if c.outstanding ≠ 0 then s
          else match c.final with
            | some x =>
              if x.module = s.moduleId ∧ s.earlierHere f idx then s
              else (match (s.setCopy { c with final := none }).startXfer x with
              | (s1, none) => s1.setCopy { c with final := none, outstanding := 1 }
              | (s1, some st) => (s1.setCopy { c with final := none, status := st }).copyPump f idx fuel)
            | none => (if c.mixed then (s.dropCopy f idx).scramblePieces f c.dest else s.dropCopy f idx).copyPlaced f idx c.dest (match c.dest.getLast? with | some (.remote _ _) => true | _ => false)

/-- The operations that have only their signal's transfer left go on where nothing before them holds them up. -/
def pumpFinals (s : State) : State :=
  s.fab.copies.foldl (fun st c => if c.todo = [] ∧ c.outstanding = 0 ∧ c.final.isSome then st.copyPump c.fid c.idx 4 else st) s

/-- A transfer of this module has ended: a hand packet's table is told, or its COPY or MOVE goes on. -/
def originDone (s : State) (o : Origin) (status : Nat) : State :=
  if 256 ≤ o.fid then s.noteHand (o.fid - 256) o.idx status
  else match s.fab.copies.find? (fun c => c.fid == o.fid && c.idx == o.idx) with
  | some c =>
    (s.setCopy { c with outstanding := c.outstanding - 1, todo := if status = 0 then c.todo else [],
                        final := if status = 0 then c.final else none,
                        status := if c.status = 0 then status else c.status }).copyPump o.fid o.idx (c.todo.length + 4) |>.pumpFinals
  | none => s

/-- Begin an operation over Derone. -/
def startOp (s : State) (op : CopyOp) : State :=
  (({ s with fab := { s.fab with copies := s.fab.copies ++ [op] } }).copyPump op.fid op.idx (op.todo.length + 4)).pumpFinals

/-- End an outstanding transfer (R181, R184). -/
def endXfer (s : State) (x : Xfer) (status : Nat) : State :=
  let t := s.dropPackets x.id
  ({ t with fab := { t.fab with xfers := t.fab.xfers.filter (·.id != x.id),
                                contexts := t.fab.contexts.filter fun c => !(x.read && c.src == 256 && c.id == x.id) } }).originDone x.origin status

end State

end Sys2Proof.Machine
end

