-- ==== Sys2Proof/Machine/HrtWire.lean ====
section
/-! DEFINITION. Machine/HrtWire.lean: Ethernet, IP and UDP headers as R238, R310, R311 and R316 read and build them, and the
HRT packet: its headers (R239 to R244), the discards of R246, and its ICRC. -/

namespace Sys2Proof.Machine

/-! Ethernet and IP -/

/-- The link header of a frame: addresses, the tags recognised by R312 (TPID and TCI), the EtherType and where it ends. -/
structure Link where
  dst : List Byte
  src : List Byte
  tags : List (Nat × Nat)
  etype : Nat
  body : Nat
  /-- A third tag follows: the frame is not IP for steering. -/
  third : Bool
  deriving DecidableEq, Repr

/-- Read the link header of a frame; `outer` is OUTER_TPID (R312). -/
def Link.parse (outer : Nat) (f : List Byte) : Link :=
  let tpid (o : Nat) := beAt f o 2
  let isOuter (t : Nat) : Bool := t == outer || t == 0x8100
  let mk (tags : List (Nat × Nat)) (at_ : Nat) (third : Bool) : Link :=
    ⟨slice f 0 6, slice f 6 6, tags, tpid at_, at_ + 2, third⟩
  if !isOuter (tpid 12) then mk [] 12 false
  else if tpid 16 != 0x8100 then mk [(tpid 12, beAt f 14 2)] 16 false
  else mk [(tpid 12, beAt f 14 2), (0x8100, beAt f 18 2)] 20 (isOuter (tpid 20))

/-- The 16-bit ones' complement sum. -/
def onesSum (bs : List Byte) : Nat :=
  let s := ((pieces 2 (padTo (roundUp bs.length 2) bs)).map ofBe).sum
  let s1 := s % 65536 + s / 65536
  s1 % 65536 + s1 / 65536

/-- IPv4 as the 16 bytes ::ffff:a.b.c.d (R310). -/
def mapped (v4 : List Byte) : List Byte := List.replicate 10 0 ++ [0xFF, 0xFF] ++ v4

def isMapped (ip : List Byte) : Bool := ip.take 12 == List.replicate 10 (0 : Byte) ++ [0xFF, 0xFF]

/-- A UDP packet found in a frame: version, addresses in the form of R310, DSCP and ECN, flow label, ports, and the UDP
header with its payload; `plain` is false for what R238 discards (options, fragments, extension headers). -/
structure Udp where
  v6 : Bool
  src : List Byte
  dst : List Byte
  dscp : Nat
  ecn : Nat
  flow : Nat
  sport : Nat
  dport : Nat
  len : Nat
  sum : Nat
  plain : Bool
  bytes : List Byte
  deriving DecidableEq, Repr

/-- Walk IPv6 extension headers to the transport: next header, offset and whether any was passed. The headers are those of IPv6's registry
that can be passed by: hop-by-hop, routing, fragment, authentication, destination, mobility, HIP and shim6 (PRESUMED, log 155). -/
def ip6Walk (f : List Byte) : Nat → Nat → Nat → Bool → Nat × Nat × Bool
  | 0, nh, o, x => (nh, o, x)
  | n + 1, nh, o, x =>
    if nh = 51 then ip6Walk f n (beAt f o 1) (o + 4 * (beAt f (o + 1) 1 + 2)) true
    else if nh = 0 ∨ nh = 43 ∨ nh = 60 ∨ nh = 135 ∨ nh = 139 ∨ nh = 140 then ip6Walk f n (beAt f o 1) (o + 8 * (beAt f (o + 1) 1 + 1)) true
    else if nh = 44 then (if beAt f (o + 2) 2 / 8 = 0 then ip6Walk f n (beAt f o 1) (o + 8) true else (beAt f o 1, o + 8, true))
    else (nh, o, x)

/-- An IPv6 packet is a later fragment: a fragment header with an offset is among the headers passed. -/
def ip6Later (f : List Byte) : Nat → Nat → Nat → Bool
  | 0, _, _ => false
  | n + 1, nh, o =>
    if nh = 51 then ip6Later f n (beAt f o 1) (o + 4 * (beAt f (o + 1) 1 + 2))
    else if nh = 0 ∨ nh = 43 ∨ nh = 60 ∨ nh = 135 ∨ nh = 139 ∨ nh = 140 then ip6Later f n (beAt f o 1) (o + 8 * (beAt f (o + 1) 1 + 1))
    else if nh = 44 then (beAt f (o + 2) 2 / 8 != 0 || ip6Later f n (beAt f o 1) (o + 8))
    else false

/-- The UDP packet of a frame, if it is one. -/
def Udp.parse (l : Link) (f : List Byte) : Option Udp :=
  let o := l.body
  let mk (v6 : Bool) (src dst : List Byte) (tos flow u avail : Nat) (plain : Bool) : Udp :=
    ⟨v6, src, dst, tos / 4, tos % 4, flow, beAt f u 2, beAt f (u + 2) 2, beAt f (u + 4) 2, beAt f (u + 6) 2, plain,
     slice f u (min avail (beAt f (u + 4) 2))⟩
  if l.third then none
  else if l.etype = 0x0800 ∧ beAt f o 1 / 16 = 4 then
    let ihl := 4 * (beAt f o 1 % 16)
    let frag := beAt f (o + 6) 2
    if beAt f (o + 9) 1 = 17 ∧ frag % 0x2000 = 0 then
      some (mk false (mapped (slice f (o + 12) 4)) (mapped (slice f (o + 16) 4)) (beAt f (o + 1) 1) 0 (o + ihl)
        (beAt f (o + 2) 2 - ihl) (ihl == 20 && frag / 0x2000 % 2 == 0))
    else none
  else if l.etype = 0x86DD ∧ beAt f o 1 / 16 = 6 then
    let w := ip6Walk f (f.length / 8) (beAt f (o + 6) 1) (o + 40) false
    if w.1 = 17 ∧ !ip6Later f (f.length / 8) (beAt f (o + 6) 1) (o + 40) then
      some (mk true (slice f (o + 8) 16) (slice f (o + 24) 16) (beAt f o 2 / 16 % 256) (beAt f o 4 % 2 ^ 20) w.2.1
        (o + 40 + beAt f (o + 4) 2 - w.2.1) (!w.2.2))
    else none
  else none

/-- The address bytes that a checksum covers. -/
def ipBytes (v6 : Bool) (ip : List Byte) : List Byte := if v6 then ip else ip.drop 12

/-- The ones' complement sum of the pseudo-header and the UDP packet. -/
def udpSum (v6 : Bool) (src dst udp : List Byte) : Nat :=
  onesSum (ipBytes v6 src ++ ipBytes v6 dst ++ beBytes 4 udp.length ++ beBytes 4 17 ++ udp)

/-- The UDP checksum is right; zero is accepted on IPv4 only (R238). -/
def Udp.sumOk (u : Udp) : Bool :=
  if u.sum = 0 then !u.v6 else udpSum u.v6 u.src u.dst u.bytes == 0xFFFF

/-- A UDP packet with its checksum. -/
def udpBytes (v6 : Bool) (src dst : List Byte) (sport dport : Nat) (body : List Byte) : List Byte :=
  let h := beBytes 2 sport ++ beBytes 2 dport ++ beBytes 2 (8 + body.length)
  let c := 0xFFFF - udpSum v6 src dst (h ++ [0, 0] ++ body)
  h ++ beBytes 2 (if c = 0 then 0xFFFF else c) ++ body

/-- An IP packet that carries UDP (R238): ECT(0), DF, TTL or hop limit 64. -/
def ipBytesOf (v6 : Bool) (src dst : List Byte) (dscp flow : Nat) (udp : List Byte) : List Byte :=
  if v6 then
    beBytes 4 (6 * 2 ^ 28 + (dscp * 4 + 2) * 2 ^ 20 + flow) ++ beBytes 2 udp.length ++ [17, 64] ++ src ++ dst ++ udp
  else
    let h := [0x45, BitVec.ofNat 8 (dscp * 4 + 2)] ++ beBytes 2 (20 + udp.length) ++ [0, 0, 0x40, 0, 64, 17]
    let a := ipBytes false src ++ ipBytes false dst
    h ++ beBytes 2 (0xFFFF - onesSum (h ++ [0, 0] ++ a)) ++ a ++ udp

/-- A frame without its FCS: addresses, tags, EtherType and body. -/
def frameOf (dst src : List Byte) (tags : List (Nat × Nat)) (etype : Nat) (body : List Byte) : List Byte :=
  dst ++ src ++ tags.flatMap (fun t => beBytes 2 t.1 ++ beBytes 2 t.2) ++ beBytes 2 etype ++ body

/-- A frame with its FCS, padded to 64 bytes. -/
def withFcs (f : List Byte) : List Byte :=
  let g := if f.length < 60 then padTo 60 f else f
  g ++ leBytes 4 (crc32 g)

/-! The HRT packet -/

/-- Extension bytes of an opcode (R239); nothing for a reserved one. -/
def hrtExt (op : Nat) : Option Nat :=
  if op = 1 ∨ op = 4 then some 16 else if op = 2 then some 32 else if op = 3 ∨ op = 8 then some 16
  else if op = 5 ∨ op = 6 then some 32 else if op = 7 then some 8 else if op = 9 then some 0
  else if op = 0x10 then some 48 else none

/-- A payload size by its code (R253). -/
def paySize (c : Nat) : Nat := 1024 * 2 ^ c

/-- Requests (R239). -/
def HrtPkt.isRequest (p : HrtPkt) : Bool := p.op == 1 || p.op == 2 || p.op == 3 || p.op == 5 || p.op == 6 || p.op == 8 || p.op == 9

/-- PSNs a request consumes (R239, R242). -/
def HrtPkt.psns (p : HrtPkt) : Nat := if p.op = 3 then ceilDiv p.len (paySize p.readPs) else 1

/-- The syndrome codes of R269. -/
def knownSyndrome (c : Nat) : Bool := c ≤ 1 || c == 0x10 || (0x20 ≤ c && c ≤ 0x24)

/-- The flag, length and reserved rules of R246, order 5. `w0` is base word 0 and `x` the extension bytes. -/
def HrtPkt.legal (p : HrtPkt) (x : List Byte) : Bool :=
  let n := p.payload.length
  let one := p.op == 3 || 5 ≤ p.op
  let msg := p.op == 1 || p.op == 2
  (!one || (p.first && p.last)) && (!p.ackReq || p.isRequest) && (!p.sig || msg) && (!p.immSet || (msg && p.last)) &&
  (if msg then n ≤ 8192 else if p.op == 4 then 1 ≤ n && n ≤ 8192 else if p.op == 9 then 32 ≤ n && n ≤ 4096 else n == 0) &&
  (if p.op == 1 || p.op == 2 || p.op == 4 then bits (beAt x 12 4) 15 12 == 0 else true) &&
  (if p.op == 3 then bits (beAt x 12 4) 29 20 == 0 else true) &&
  (if p.op == 0x10 then
     p.psn == 0 && beAt p.ack 4 4 / 65536 % 32768 == 0 && beAt p.ack 8 4 / 2 ^ 24 == 0 && beAt p.ack 16 4 % 2 == 0 &&
     knownSyndrome (beAt p.ack 0 1)
   else true)

/-- The fields of a packet whose opcode is known. -/
def HrtPkt.read (b : List Byte) (ext : Nat) : HrtPkt :=
  let w0 := beAt b 0 4
  let op := bits w0 31 24
  let x := slice b 16 ext
  let mx := if op = 1 ∨ op = 2 ∨ op = 4 then x.take 16 else List.replicate 16 0
  let rx := if op = 2 then x.drop 16 else if op = 3 ∨ op = 5 ∨ op = 6 ∨ op = 8 then x.take 16 else List.replicate 16 0
  let ax := if op = 5 ∨ op = 6 then x.drop 16 else if op = 7 then x ++ List.replicate 8 0 else List.replicate 16 0
  let n := bits w0 13 0
  let sec := bit w0 14
  { op := op, first := bit w0 19, last := bit w0 18, ackReq := bit w0 17, sig := bit w0 16, immSet := bit w0 15, sec := sec,
    destInc := beAt b 4 1, destQpn := beAt b 5 3, destEpoch := beAt b 8 1, psn := beAt b 9 3, srcInc := beAt b 12 1,
    srcQpn := beAt b 13 3, msgOff := beAt mx 0 4, msgLen := beAt mx 4 4, imm := beAt mx 8 4, sendIndex := beAt mx 12 2,
    peg := beAt mx 14 2 % 4096, key := beAt rx 0 4, roff := beAt rx 4 8,
    len := if op = 3 then beAt rx 12 4 % 2 ^ 20 else beAt rx 12 4, readPs := if op = 3 then beAt rx 12 4 / 2 ^ 30 else 0,
    operand := beAt ax 0 8, compare := beAt ax 8 8, ack := if op = 0x10 then x else [], payload := slice b (16 + ext) n,
    aad := b.take (16 + ext), tag := if sec then slice b (16 + ext + n) 16 else [] }

/-- R246: the packet, or the subindex of the counter that its discard goes to. `b` is the UDP packet's header and payload as
far as it arrived, `len` the UDP length field. -/
def HrtPkt.parse (len : Nat) (udp : List Byte) : HrtPkt ⊕ Nat :=
  let b := udp.drop 8
  let w0 := beAt b 0 4
  if len < 24 ∨ udp.length < 24 then .inr 0x0C
  else match (if bits w0 23 20 = 1 then hrtExt (bits w0 31 24) else none) with
    | none => .inr 0x0A
    | some ext =>
      let n := bits w0 13 0
      if len ≠ 8 + 16 + ext + n + (if bit w0 14 then 16 else 0) + 4 ∨ udp.length ≠ len then .inr 0x0C
      else if beAt b (len - 12) 4 ≠ crc32c (b.take (len - 12)) then .inr 0x0B
      else
        let p := HrtPkt.read b ext
        if p.legal (slice b 16 ext) then .inl p else .inr 0x0A

/-- The base header (R240). -/
def hrtBase (op : Nat) (first last ackReq sig imm sec : Bool) (n destInc destQpn epoch psn srcInc srcQpn : Nat) : List Byte :=
  beBytes 4 (op * 2 ^ 24 + 2 ^ 20 + bnat first * 2 ^ 19 + bnat last * 2 ^ 18 + bnat ackReq * 2 ^ 17 + bnat sig * 2 ^ 16 +
    bnat imm * 2 ^ 15 + bnat sec * 2 ^ 14 + n) ++
  beBytes 4 (destInc * 2 ^ 24 + destQpn) ++ beBytes 4 (epoch * 2 ^ 24 + psn) ++ beBytes 4 (srcInc * 2 ^ 24 + srcQpn)

/-- The message extension (R241). -/
def hrtMx (off len imm index peg : Nat) : List Byte :=
  beBytes 4 off ++ beBytes 4 len ++ beBytes 4 imm ++ beBytes 2 index ++ beBytes 2 peg

/-- The remote extension (R242). -/
def hrtRx (key off len : Nat) : List Byte := beBytes 4 key ++ beBytes 8 off ++ beBytes 4 len

/-- The ICRC after the packet (R246). -/
def withIcrc (b : List Byte) : List Byte := b ++ beBytes 4 (crc32c b)

/-- What waits in a class for a requester. -/
def SubPort.queue (v : SubPort) (tc requester : Nat) : List TxFrame := Sparse.get (fun _ => []) v.queues (16 * tc + requester)

namespace State

/-! Ports and addresses -/

/-- The line rate of a sub-port in Mb/s (R306): at Stage 1 E0 runs as one 100GBASE-R lane (R307). -/
def portMode (s : State) (port : Nat) : Nat := if s.level < 2 ∧ port = 0 then 2 else s.obj (0x2500 + 16 * port) 2
def lineRate (s : State) (port : Nat) : Nat :=
  if port = 8 then nth 1000 [10000, 1000, 1000] (s.obj 0x2580 2) else nth 400000 [400000, 200000, 100000, 50000] (s.portMode port)

/-- A lane is the lowest of a sub-port in a MODE (R306). -/
def lowestLane (mode lane : Nat) : Bool := if mode = 0 then lane == 0 else if mode = 1 then lane == 0 || lane == 2 else lane < 4

/-- The MAC address of a sub-port (R310), and of M0 (R327). -/
def portMac (s : State) (port lane : Nat) : List Byte :=
  let m := padTo 6 (if port = 8 then s.blob 0x2580 4 else s.blob (0x2500 + 16 * port) 5)
  m.take 5 ++ [BitVec.ofNat 8 ((nth 0 m 5).toNat + lane)]

/-- The addresses of a sub-port (R310): VALID entries with its LANE; M0 has one of each version (R327). -/
def portIps (s : State) (port lane : Nat) : List (List Byte) :=
  if port = 8 then
    (if (s.blob 0x2580 5).any (· != 0) then [mapped (s.blob 0x2580 5)] else []) ++ (if (s.blob 0x2580 6).any (· != 0) then [s.blob 0x2580 6] else [])
  else
    (List.range 16).filterMap fun k =>
      let e := s.blob (0x2502 + 16 * port) (k + 1)
      if beAt e 16 1 == lane && beAt e 17 1 % 2 == 1 then some (e.take 16) else none

def ownsIp (s : State) (port lane : Nat) (ip : List Byte) : Bool := (s.portIps port lane).contains ip

/-- The traffic class of a frame on a port (R311), PTP frames apart. -/
def frameClass (s : State) (port : Nat) (l : Link) (dscp : Option Nat) : Nat :=
  let r := 0x2501 + 16 * port
  let byTag := match l.tags with
    | t :: _ => (nth 0 (s.blob r 3) (t.2 / 8192)).toNat
    | [] => s.obj r 2
  match dscp with
  | some d => if s.obj r 1 = 1 then (nth 0 (s.blob r 4) d).toNat else byTag
  | none => byTag

/-! Sub-ports -/

def sub (s : State) (k : Nat) : SubPort := Sparse.get (fun _ => SubPort.reset) s.eth.subs k

def setSub (s : State) (k : Nat) (v : SubPort) : State :=
  { s with eth := { s.eth with subs := Sparse.set (fun _ => SubPort.reset) s.eth.subs k v } }

def ethCtr (port : Nat) : Nat := 0x5000 + port

/-- MAX_FRAME of a data port, and M0's largest frame (R309, R327). -/
def maxFrame (s : State) (port : Nat) : Nat := if port = 8 then 1522 else s.obj (0x2500 + 16 * port) 6

/-- Offer a frame to a sub-port: it waits in its class, or is discarded while the sub-port is not UP or when it exceeds
MAX_FRAME (R308, R309). -/
def offerFrame (s : State) (port lane tc requester : Nat) (f : TxFrame) : State :=
  let k := 4 * port + lane
  let v := s.sub k
  if v.link ≠ .up ∨ s.maxFrame port < (withFcs f.bytes).length then s.count (ethCtr port) 0x0F 1
  else
    let q := 16 * tc + requester
    s.setSub k { v with queues := Sparse.set (fun _ => []) v.queues q (Sparse.get (fun _ => []) v.queues q ++ [f]) }

end State

end Sys2Proof.Machine
end

