-- ==== Sys2Proof/Machine/EthOps.lean ====
section
/-! DEFINITION. Machine/EthOps.lean: what the frames of "Ethernet ports, traffic classes and gates" share: the PTP messages that
R324 recognises, classing (R311), cells and priority flow control (R314, R317), gates (R318, R319) and buckets (R321, R322). -/

namespace Sys2Proof.Machine

/-! IP headers -/

/-- Where an IP frame's transport header starts, with its protocol; nothing for a frame that is not IP for steering or a
later fragment. -/
def ipTransport (l : Link) (f : List Byte) : Option (Nat × Nat) :=
  let o := l.body
  if l.third then none
  else if l.etype = 0x0800 ∧ beAt f o 1 / 16 = 4 then
    (if beAt f (o + 6) 2 % 0x2000 = 0 then some (beAt f (o + 9) 1, o + 4 * (beAt f o 1 % 16)) else none)
  else if l.etype = 0x86DD ∧ beAt f o 1 / 16 = 6 then
    let w := ip6Walk f (f.length / 8) (beAt f (o + 6) 1) (o + 40) false
    if ip6Later f (f.length / 8) (beAt f (o + 6) 1) (o + 40) then none else some (w.1, w.2.1)
  else none

/-- The protocol that an IP frame carries, a later fragment's too. -/
def ipProtocol (l : Link) (f : List Byte) : Option Nat :=
  let o := l.body
  if l.third then none
  else if l.etype = 0x0800 ∧ beAt f o 1 / 16 = 4 then some (beAt f (o + 9) 1)
  else if l.etype = 0x86DD ∧ beAt f o 1 / 16 = 6 then some (ip6Walk f (f.length / 8) (beAt f (o + 6) 1) (o + 40) false).1
  else none

/-- The IP source and destination in the form of R310. -/
def ipAddrs (l : Link) (f : List Byte) : List Byte × List Byte :=
  let o := l.body
  if l.etype = 0x0800 then (mapped (slice f (o + 12) 4), mapped (slice f (o + 16) 4)) else (slice f (o + 8) 16, slice f (o + 24) 16)

/-- The DSCP of an IP frame. -/
def ipDscp (l : Link) (f : List Byte) : Option Nat :=
  if l.third then none
  else if l.etype = 0x0800 ∧ beAt f l.body 1 / 16 = 4 then some (beAt f (l.body + 1) 1 / 4)
  else if l.etype = 0x86DD ∧ beAt f l.body 1 / 16 = 6 then some (beAt f l.body 2 / 16 % 256 / 4)
  else none

/-- Where a PTP message starts, with its transport: 0 Annex C, 1 Annex D, 2 Annex E (R324). `ev` asks for event messages, which go
to UDP port 319; port 320 carries the general ones. -/
def ptpAt (l : Link) (f : List Byte) (ev : Bool) : Option (Nat × Nat) :=
  if !l.third && l.etype == 0x88F7 then some (l.body, 2)
  else match ipTransport l f with
    | some (17, u) => if beAt f (u + 2) 2 = 319 ∨ (!ev ∧ beAt f (u + 2) 2 = 320) then some (u + 8, if l.etype = 0x0800 then 0 else 1) else none
    | _ => none

/-- A PTP event message: messageType 0 to 3 (R324). -/
def ptpEvent (l : Link) (f : List Byte) : Bool :=
  match ptpAt l f true with
  | some (o, _) => beAt f o 1 % 16 < 4
  | none => false

namespace State

def linkOf (s : State) (port : Nat) (f : List Byte) : Link := Link.parse (if port = 8 then 0x8100 else s.obj (0x2500 + 16 * port) 7) f

/-- The traffic class of a frame (R311); M0 has one class (R327). -/
def classOf (s : State) (port : Nat) (f : List Byte) : Nat :=
  let l := s.linkOf port f
  if port = 8 then 0 else if ptpEvent l f then s.obj (0x2500 + 16 * port) 9 else s.frameClass port l (ipDscp l f)

/-- A timestamp of R324: the device time with an offset object's value added, in ns. -/
def stampNow (s : State) (port : Nat) (tx : Bool) : Nat :=
  let v := if port = 8 then s.obj 0x2580 (if tx then 8 else 9) else s.obj (0x2500 + 16 * port) (if tx then 0x0B else 0x0C)
  ((s.deviceTime : Int) + (if v < 2 ^ 31 then (v : Int) else (v : Int) - 2 ^ 32)).toNat

/-- Which sub-ports a service level runs (R307, R385): M0 from Stage 1, E0.0 at Stage 1, every lowest lane of the MODE at
Stage 2. -/
def subportRuns (s : State) (port lane : Nat) : Bool :=
  if port = 8 then lane == 0
  else if s.level = 0 then false
  else if s.level = 1 then port == 0 && lane == 0
  else port < 8 && lowestLane (s.portMode port) lane

/-- A sub-port of the configured MODE, as R307 judges settings. -/
def subportNamed (s : State) (port : Nat) : Bool :=
  port / 128 == 0 && bits port 3 2 == 0 && lowestLane (s.obj (0x2500 + 16 * (port / 16 % 8)) 2) (port % 4)

/-! Cells and priority flow control (R314, R317) -/

/-- Frames that hold ingress cells of a port. -/
def ingress (s : State) (port : Nat) : List RxFrame :=
  (s.eth.hrtIn ++ s.clu.raws.flatMap fun q => match q.2 with
    | some r => r.inbox
    | none => []).filter (·.port == port)

def cellsHeldBy (s : State) (port : Nat) : Nat := ((s.ingress port).map (·.cells)).sum

def classCells (s : State) (port tc : Nat) : Nat := (((s.ingress port).filter (·.tc == tc)).map (·.cells)).sum

/-- A PFC frame: the classes of a mask, each with one pause time. -/
def pfcFrame (s : State) (port lane mask quanta : Nat) : List Byte :=
  frameOf [0x01, 0x80, 0xC2, 0, 0, 0x01] (s.portMac port lane) [] 0x8808
    (beBytes 2 0x0101 ++ beBytes 2 mask ++ (List.range 8).flatMap fun t => beBytes 2 (if bit mask t then quanta else 0))

/-- One class on one sub-port: XOFF when its cells have risen to PFC_XOFF, XON when they have fallen to PFC_XON. -/
def pfcClass (s : State) (port lane t : Nat) : State :=
  let r := 0x2501 + 16 * port
  let v := s.sub (4 * port + lane)
  let c := s.classCells port t
  if v.link ≠ .up ∨ !bit (s.obj r 6) t then s
  else if !bit v.off t && s.obj r 7 ≤ c then
    let off := v.off + 2 ^ t
    s.setSub (4 * port + lane) { v with off := off, xoffAt := v.xoffAt.setNum t s.now, pfcDue := v.pfcDue ++ [s.pfcFrame port lane off 0xFFFF] }
  else if bit v.off t && c ≤ s.obj r 8 then
    s.setSub (4 * port + lane) { v with off := v.off - 2 ^ t, pfcDue := v.pfcDue ++ [s.pfcFrame port lane (2 ^ t) 0] }
  else s

/-- Compare every class of a port with its thresholds after cells have been taken or released. -/
def pfcTick (s : State) (port : Nat) : State :=
  (List.range 32).foldl (fun st k => st.pfcClass port (k / 8) (k % 8)) s

/-- Bit times in ps at a port's line rate. -/
def bitTime (s : State) (port n : Nat) : Nat := ceilDiv (n * 1000000) (s.lineRate port)

/-! Raw queues (R397) -/

def rawObj (q : Nat) : Nat := 0x2C10 + q

def raw (s : State) (q : Nat) : Option RawQueue := Sparse.get (fun _ => none) s.clu.raws q

def setRaw (s : State) (q : Nat) (v : Option RawQueue) : State :=
  { s with clu := { s.clu with raws := Sparse.set (fun _ => none) s.clu.raws q v } }

def rawDrawer (s : State) (q : Nat) : Nat := s.obj (rawObj q) 2 % 128
def rawPort (s : State) (q : Nat) : Nat := s.obj (rawObj q) 3 / 16 % 8
def rawLane (s : State) (q : Nat) : Nat := s.obj (rawObj q) 3 % 4
/-- Frames of the queue that wait on sub-ports are taken back. -/
def rawUnqueue (s : State) (q : Nat) : State :=
  let mine (f : TxFrame) : Bool := match f.owner with
    | .raw k _ => k == q
    | _ => false
  let k := 4 * s.rawPort q + s.rawLane q
  let v := s.sub k
  s.setSub k { v with queues := (v.queues.map fun e => (e.1, e.2.filter fun f => !mine f)).filter fun e => !e.2.isEmpty }

/-- FLR, DEREG_REGION and RECYCLE: ENABLE is cleared at once and everything is discarded (R397). -/
def dropRaw (s : State) (q : Nat) : State :=
  if s.obj (rawObj q) 1 = 0 then s
  else
    let p := s.rawPort q
    (((s.rawUnqueue q).setRaw q none).setObj (rawObj q) 1 0 0).pfcTick p

/-! Gates (R318, R319) -/

/-- A gate list: base time in ns, cycle in ticks, entries as (start in ns, open mask) of one cycle. -/
structure GateList where
  base : Nat
  cycle : Nat
  entries : List (Nat × Nat)

/-- The entries of a cycle, cut at its end (R318). -/
def gateEntries (bs : List Byte) (cycle : Nat) : Nat → Nat → Nat → List (Nat × Nat)
  | 0, _, _ => []
  | n + 1, i, t =>
    if cycle * 10 ≤ t then []
    else (t, leAt bs (8 * i) 1) :: gateEntries bs cycle n (i + 1) (t + 10 * leAt bs (8 * i + 4) 4)

/-- The operating list (`admin` false) or the administrative one. -/
def gateList (s : State) (port : Nat) (admin : Bool) : GateList :=
  let r := 0x2610 + port
  let cycle := s.obj r (if admin then 3 else 10)
  ⟨s.obj r (if admin then 2 else 9), cycle, gateEntries (s.blob r (if admin then 5 else 12)) cycle (s.obj r (if admin then 4 else 11)) 0 0⟩

/-- The mask in force at an offset of the cycle. -/
def GateList.maskAt (g : GateList) (off : Nat) : Nat := ((g.entries.filter (·.1 ≤ off)).getLast?.map (·.2)).getD 0

/-- The gates open at a time in ns (R318): none before BASE_TIME. -/
def GateList.openAt (g : GateList) (t : Nat) : Nat :=
  if t < g.base ∨ g.cycle = 0 then 0 else g.maskAt ((t - g.base) % (g.cycle * 10))

/-- The next time from t on, up to one whole cycle later, at which a class's gate closes; none where every entry opens it. -/
def GateList.closeAfter (g : GateList) (t c : Nat) : Option Nat :=
  if t < g.base ∨ g.cycle = 0 then some t
  else
    let z := g.cycle * 10
    let off := (t - g.base) % z
    let start := t - off
    let shut := g.entries.filter fun e => !bit e.2 c
    match (shut.filter (off < ·.1)).head?, shut.head? with
    | some e, _ => some (start + e.1)
    | none, some e => some (start + z + e.1)
    | none, none => none

/-- The mask of gates that are open now (R318): every gate while gates are disabled. -/
def openGates (s : State) (port : Nat) : Nat :=
  if port = 8 ∨ s.eth.gateOn.num port = 0 then 255 else (s.gateList port false).openAt s.deviceTime

/-- When the open gate of a class closes next, in ns, with a pending list looked through (R319, R320). None: never. -/
def gateClose (s : State) (port c : Nat) : Option Nat :=
  let now := s.deviceTime
  let r := 0x2610 + port
  let first := if s.eth.gateOn.num port = 0 then none else (s.gateList port false).closeAfter now c
  if s.obj r 7 = 0 then first
  else
    let t := s.obj r 8
    match first with
    | some x => if x ≤ t then some x else after s r t c
    | none => after s r t c
where
  /-- The close seen from the change time on. -/
  after (s : State) (r t c : Nat) : Option Nat :=
    let port := r - 0x2610
    if s.obj r 1 = 0 then none
    else
      let g := { s.gateList port true with base := t }
      if !bit (g.openAt t) c then some t else g.closeAfter t c

/-! Buckets (R321, R322) -/

/-- A bucket's level now, in 10^−6 bits: `none` stands for one that no write has reset. -/
def bucketLevel (s : State) (b : Option Bucket) (rate burst : Nat) (full : Bool) : Int :=
  let cap : Int := (burst * 8 * 1000000 : Nat)
  match b with
  | some x => min cap (x.level + ((rate * (s.now - x.stamp) : Nat) : Int))
  | none => if full then cap else min cap ((rate * s.now : Nat) : Int)

def shaperRate (s : State) (port c : Nat) : Nat := s.obj (0x2503 + 16 * port) (1 + c)

/-- Shaper tokens of a class on a sub-port. -/
def shaperLevel (s : State) (port lane c : Nat) : Int :=
  s.bucketLevel (Sparse.get (fun _ => none) (s.sub (4 * port + lane)).shaper c) (s.shaperRate port c) (s.obj (0x2503 + 16 * port) (9 + c)) false

/-- A frame of the class takes its bits from the shaper as it starts. -/
def takeShaper (s : State) (port lane c len : Nat) : State :=
  if port = 8 ∨ s.shaperRate port c = 0 then s
  else
    let v := s.sub (4 * port + lane)
    let l := s.shaperLevel port lane c - (((len + 20) * 8 * 1000000 : Nat) : Int)
    s.setSub (4 * port + lane) { v with shaper := Sparse.set (fun _ => none) v.shaper c (some ⟨l, s.now⟩) }

/-- The policer accepts a frame and takes its bits, or refuses it (R322). -/
def police (s : State) (port lane c len : Nat) : Option State :=
  let r := 0x2503 + 16 * port
  let rate := s.obj r (0x11 + c)
  if port = 8 ∨ rate = 0 then some s
  else
    let v := s.sub (4 * port + lane)
    let l := s.bucketLevel (Sparse.get (fun _ => none) v.policer c) rate (s.obj r (0x19 + c)) true
    let need : Int := (len * 8 * 1000000 : Nat)
    if l < need then none
    else some (s.setSub (4 * port + lane) { v with policer := Sparse.set (fun _ => none) v.policer c (some ⟨l - need, s.now⟩) })

/-- A write of a shaper's RATE or BURST empties it, and one of a policer's fills it, on every sub-port (R321, R322). -/
def resetBucket (s : State) (port sub_ : Nat) : State :=
  let c := (sub_ - 1) % 8
  (List.range 4).foldl
    (fun st lane =>
      let v := st.sub (4 * port + lane)
      if sub_ ≤ 0x10 then st.setSub (4 * port + lane) { v with shaper := Sparse.set (fun _ => none) v.shaper c (some ⟨0, st.now⟩) }
      else st.setSub (4 * port + lane) { v with policer := Sparse.set (fun _ => none) v.policer c none }) s

/-- An event about a port: kind, number and lowest lane (R355). -/
def portEvent (s : State) (code kind port lane : Nat) : State :=
  s.raiseDevice code (4096 * kind + 16 * port + lane) [BitVec.ofNat 8 kind, BitVec.ofNat 8 port, BitVec.ofNat 8 lane]

end State

end Sys2Proof.Machine
end

