-- ==== Sys2Proof/Machine/Network.lean ====
section
/-! DEFINITION. Machine/Network.lean: the network service of R387, and the management controller's same answers on M0 (R327): ARP,
IPv6 neighbour discovery, ICMP echo, and the table of neighbours. -/

namespace Sys2Proof.Machine

/-! Messages -/

/-- An ARP packet for IPv4 over Ethernet. -/
def arpBody (op : Nat) (sha spa tha tpa : List Byte) : List Byte :=
  beBytes 2 1 ++ beBytes 2 0x0800 ++ [6, 4] ++ beBytes 2 op ++ sha ++ spa ++ tha ++ tpa

/-- An IPv6 packet. -/
def ip6Packet (next hops : Nat) (src dst body : List Byte) : List Byte :=
  beBytes 4 (6 * 2 ^ 28) ++ beBytes 2 body.length ++ [BitVec.ofNat 8 next, BitVec.ofNat 8 hops] ++ src ++ dst ++ body

/-- An IPv4 packet without options: DF, identification 0. -/
def ip4Packet (proto tos ttl : Nat) (src dst body : List Byte) : List Byte :=
  let h := [0x45, BitVec.ofNat 8 tos] ++ beBytes 2 (20 + body.length) ++ [0, 0, 0x40, 0, BitVec.ofNat 8 ttl, BitVec.ofNat 8 proto]
  h ++ beBytes 2 (0xFFFF - onesSum (h ++ [0, 0] ++ src ++ dst)) ++ src ++ dst ++ body

/-- An ICMPv6 message with its checksum in place. -/
def icmp6 (src dst : List Byte) (type code : Nat) (rest : List Byte) : List Byte :=
  let sum := onesSum (src ++ dst ++ beBytes 4 (4 + rest.length) ++ beBytes 4 58 ++ [BitVec.ofNat 8 type, BitVec.ofNat 8 code, 0, 0] ++ rest)
  [BitVec.ofNat 8 type, BitVec.ofNat 8 code] ++ beBytes 2 (0xFFFF - sum) ++ rest

/-- A neighbour advertisement for `target`, override set; `solicited` marks the answer to a solicitation. -/
def advertisement (mac target dst : List Byte) (solicited : Bool) : List Byte :=
  ip6Packet 58 255 target dst
    (icmp6 target dst 136 0 ([if solicited then 0x60 else 0x20, 0, 0, 0] ++ target ++ [2, 1] ++ mac))

def broadcastMac : List Byte := List.replicate 6 0xFF

/-- ff02::1 and its MAC. -/
def allNodes : List Byte := [0xFF, 0x02] ++ List.replicate 13 0 ++ [1]
def allNodesMac : List Byte := [0x33, 0x33, 0, 0, 0, 1]

/-- The solicited-node address of an IPv6 address, and its MAC. -/
def solicitedNode (ip : List Byte) : List Byte := [0xFF, 0x02] ++ List.replicate 9 0 ++ [1, 0xFF] ++ ip.drop 13
def solicitedMac (ip : List Byte) : List Byte := [0x33, 0x33, 0xFF] ++ ip.drop 13

namespace State

/-- The tags of a frame that a port's own service sends unasked: M0's VLAN, none on a data port. -/
def ownTags (s : State) (port : Nat) : List (Nat × Nat) := if port = 8 ∧ s.obj 0x2580 7 ≠ 0 then [(0x8100, s.obj 0x2580 7)] else []

/-- Offer a frame of the cluster or of the management controller. -/
def offerOwn (s : State) (port lane : Nat) (f : List Byte) : State :=
  s.offerFrame port lane (s.classOf port f) 8 ⟨f, .cluster, false, false, 0⟩

/-! Neighbours -/

/-- The table of 1,024 neighbours takes what a claimed frame tells; the least recently learned leaves. -/
def learn (s : State) (port lane : Nat) (ip mac : List Byte) : State :=
  let rest := s.clu.neighbours.filter fun n => !(n.port == port && n.lane == lane && n.ip == ip)
  { s with clu := { s.clu with neighbours := (⟨port, lane, ip, mac, s.now⟩ :: rest).take 1024 } }

/-- The MAC of a neighbour. -/
def neighbour (s : State) (port lane : Nat) (ip : List Byte) : Option (List Byte) :=
  (s.clu.neighbours.find? fun n => n.port == port && n.lane == lane && n.ip == ip).map (·.mac)

/-- Ask for a neighbour's MAC, from the first address of the same version. -/
def solicit (s : State) (port lane : Nat) (ip : List Byte) : State :=
  let mac := s.portMac port lane
  match (s.portIps port lane).find? (fun a => isMapped a == isMapped ip) with
  | none => s
  | some src =>
    if isMapped ip then
      s.offerOwn port lane (frameOf broadcastMac mac (s.ownTags port) 0x0806 (arpBody 1 mac (src.drop 12) (List.replicate 6 0) (ip.drop 12)))
    else
      s.offerOwn port lane (frameOf (solicitedMac ip) mac (s.ownTags port) 0x86DD
        (ip6Packet 58 255 src (solicitedNode ip) (icmp6 src (solicitedNode ip) 135 0 ([0, 0, 0, 0] ++ ip ++ [1, 1] ++ mac))))

/-- Whoever answers for a port's neighbours runs: M0's controller from Stage 1 (R327), the network service elsewhere (R385). -/
def neighboursRun (s : State) (port lane : Nat) : Bool :=
  if port = 8 then 0 < s.level else bit (s.obj 0x2C00 3) 0 && s.subportRuns port lane

/-- A neighbour is refreshed: 60 s after it was learned or last asked for, it is asked for again (R387). -/
def refreshNeighbours (s : State) : State :=
  s.clu.neighbours.foldl
    (fun st n =>
      if s.now < n.learned + 60000000000000 ∨ !s.neighboursRun n.port n.lane then st
      else
        let t := st.solicit n.port n.lane n.ip
        { t with clu := { t.clu with neighbours := t.clu.neighbours.map fun x => if x = n then { x with learned := s.now } else x } }) s

/-! The time service's messages (R388) -/

/-- The clock identity of a port: its MAC with FFFE in the middle (PRESUMED, log 163). -/
def clockIdentity (mac : List Byte) : List Byte := mac.take 3 ++ [0xFF, 0xFE] ++ mac.drop 3

/-- A Delay_Req of IEEE 1588-2019 (PRESUMED, log 163). -/
def delayReq (domain seq : Nat) (mac : List Byte) : List Byte :=
  [1, 0x12] ++ beBytes 2 44 ++ [BitVec.ofNat 8 domain, 0, 0, 0] ++ List.replicate 8 0 ++ List.replicate 4 0 ++ clockIdentity mac ++ beBytes 2 1 ++
  beBytes 2 seq ++ [1, 0x7F] ++ List.replicate 10 0

/-- The time service takes a message: each Sync is followed by a Delay_Req over TRANSPORT, to the multicast address of the default profile
(R388, log 71). -/
def timeTake (s : State) (port lane : Nat) (o : Nat) (f : List Byte) : State :=
  if beAt f o 1 % 16 ≠ 0 then s
  else
    let mac := s.portMac port lane
    let m := delayReq (s.obj 0x2C01 3) s.clu.delaySeq mac
    let t : State := { s with clu := { s.clu with delaySeq := (s.clu.delaySeq + 1) % 65536 } }
    let k := s.obj 0x2C01 4
    if k = 2 then t.offerOwn port lane (frameOf [0x01, 0x1B, 0x19, 0, 0, 0] mac (s.ownTags port) 0x88F7 m)
    else
      let v6 := k == 1
      let dst : List Byte := if v6 then [0xFF, 0x0E] ++ List.replicate 12 0 ++ [0x01, 0x81] else mapped [224, 0, 1, 129]
      match (s.portIps port lane).find? (fun a => isMapped a == !v6) with
      | none => s
      | some src =>
        t.offerOwn port lane (frameOf (if v6 then [0x33, 0x33, 0, 0, 0x01, 0x81] else [0x01, 0x00, 0x5E, 0, 0x01, 0x81]) mac (s.ownTags port)
          (if v6 then 0x86DD else 0x0800) (ipBytesOf v6 src dst 0 0 (udpBytes v6 src dst 319 319 m)))

/-! What arrives -/

/-- What item 1 of R387 claims. -/
inductive NetFrame where
  | arp (op : Nat) (sha spa tpa : List Byte)
  /-- A neighbour solicitation or advertisement: sender, target, and the link-layer address option (source or target). -/
  | nd (solicit : Bool) (src target : List Byte) (mac : Option (List Byte))
  /-- An ICMP message: version, addresses, type, the message. -/
  | icmp (v6 : Bool) (src dst : List Byte) (whole : Bool) (message : List Byte)
  deriving DecidableEq, Repr

/-- The message of an IP frame's transport, as long as its header says. -/
def ipMessage (l : Link) (f : List Byte) (o : Nat) : List Byte :=
  if l.etype = 0x0800 then slice f o (l.body + beAt f (l.body + 2) 2 - o) else slice f o (l.body + 40 + beAt f (l.body + 4) 2 - o)

/-- Read a frame for item 1 of R387; none where it claims nothing. -/
def netFrame (s : State) (port lane : Nat) (f : List Byte) : Option NetFrame :=
  let l := s.linkOf port f
  let o := l.body
  let own (ip : List Byte) : Bool := s.ownsIp port lane ip
  if !l.third && l.etype == 0x0806 && beAt f o 6 == 0x000108000604 then
    (if own (mapped (slice f (o + 24) 4)) then some (.arp (beAt f (o + 6) 2) (slice f (o + 8) 6) (slice f (o + 14) 4) (slice f (o + 24) 4)) else none)
  else
    let a := ipAddrs l f
    match ipTransport l f with
    | some (58, u) =>
      let m := ipMessage l f u
      let t := beAt m 0 1
      if l.etype = 0x86DD ∧ (t = 135 ∨ t = 136) ∧ (own (slice m 8 16) ∨ own a.2) then
        some (.nd (t == 135) a.1 (slice m 8 16) (if beAt m 24 2 = (if t = 135 then 0x0101 else 0x0201) then some (slice m 26 6) else none))
      else if l.etype = 0x86DD ∧ own a.2 then some (.icmp true a.1 a.2 true m)
      else none
    | some (1, u) => if l.etype = 0x0800 ∧ own a.2 then some (.icmp false a.1 a.2 (beAt f (o + 6) 2 % 0x4000 == 0) (ipMessage l f u)) else none
    | _ => none

/-- The reply to an echo request: addresses exchanged, the type changed, the checksum computed again. -/
def echoReply (v6 : Bool) (src dst message : List Byte) : List Byte :=
  let rest := message.drop 4
  if v6 then ip6Packet 58 64 dst src (icmp6 dst src 129 0 rest)
  else
    let sum := onesSum ([0, 0, 0, 0] ++ rest)
    ip4Packet 1 0 64 (dst.drop 12) (src.drop 12) ([0, 0] ++ beBytes 2 (0xFFFF - sum) ++ rest)

/-- The checksum of an ICMP message is right. -/
def icmpSumOk (v6 : Bool) (src dst message : List Byte) : Bool :=
  onesSum ((if v6 then src ++ dst ++ beBytes 4 message.length ++ beBytes 4 58 else []) ++ message) == 0xFFFF

/-- The tags of an answer: the frame's own on a data port (R387), M0's VLAN tag on M0 (R327). -/
def replyTags (s : State) (port : Nat) (f : List Byte) : List (Nat × Nat) := if port = 8 then s.ownTags 8 else (s.linkOf port f).tags

/-- The network service takes a claimed frame: it learns, and answers requests and echoes on the same sub-port. -/
def netTake (s : State) (port lane : Nat) (f : List Byte) : NetFrame → State
  | .arp op sha spa tpa =>
    let mac := s.portMac port lane
    let s1 := if spa = [0, 0, 0, 0] then s else s.learn port lane (mapped spa) sha
    if op = 1 then s1.offerOwn port lane (frameOf sha mac (s.replyTags port f) 0x0806 (arpBody 2 mac tpa sha spa)) else s1
  | .nd solicit src target m =>
    let mac := s.portMac port lane
    let l := s.linkOf port f
    let from_ := if solicit then src else target
    let s1 := match m with
      | some x => if from_.all (· == 0) then s else s.learn port lane from_ x
      | none => s
    if !solicit || !s.ownsIp port lane target then s1
    else if src.all (· == 0) then s1.offerOwn port lane (frameOf allNodesMac mac (s.replyTags port f) 0x86DD (advertisement mac target allNodes false))
    else s1.offerOwn port lane (frameOf l.src mac (s.replyTags port f) 0x86DD (advertisement mac target src true))
  | .icmp v6 src dst whole m =>
    let l := s.linkOf port f
    if whole ∧ beAt m 0 2 = (if v6 then 0x8000 else 0x0800) ∧ icmpSumOk v6 src dst m ∧ 8 ≤ m.length then
      s.offerOwn port lane (frameOf l.src (s.portMac port lane) (s.replyTags port f) l.etype (echoReply v6 src dst m))
    else s

/-- On a passage to UP: one gratuitous ARP or unsolicited neighbour advertisement for each address (R387). -/
def announce (s : State) (port lane : Nat) : State :=
  (s.portIps port lane).foldl
    (fun st ip =>
      let mac := st.portMac port lane
      st.offerOwn port lane
        (if isMapped ip then frameOf broadcastMac mac (st.ownTags port) 0x0806 (arpBody 1 mac (ip.drop 12) (List.replicate 6 0) (ip.drop 12))
         else frameOf allNodesMac mac (st.ownTags port) 0x86DD (advertisement mac ip allNodes false))) s

end State

end Sys2Proof.Machine
end

