-- ==== Sys2Proof/Machine/MemOps.lean ====
section
/-! DEFINITION. Machine/MemOps.lean: the ring entries that act on regions, translations, residency windows and pages
(R134, R137–R143, R279–R281), NOP, FENCE and COPY (R342, R343), and patrol scrub (R147). -/

namespace Sys2Proof.Machine

/-- A piece that names bytes of a region's bus range. -/
def Piece.meets (p : Piece) (port base len : Nat) : Bool :=
  match p with
  | .bus q a n => q == port && overlaps a n base len
  | _ => false


/-- Bytes that an operation in progress still reads or writes: the drawer it acts for, the ring entry and the local buffer it was
given, where it has them. -/
structure Flight where
  fid : Nat
  entry : Option Nat
  buf : BufRef
  piece : Piece

/-- No bytes: it stands for a request that has been admitted, whatever of its buffer is translated yet (R281). -/
def entryMark (d i : Nat) : Piece := .remote (2 ^ 64 + d * 2 ^ 32 + i) 0

namespace State

/-- Every access beside page moves that has been admitted and not finished (R126, R134, R141, R281): COPYs over Derone, ordering reads, HRT requests
(of a stalled QP those whose responses may still come, R292), AtomicOps of responders, hands, NVME_IOs, and writes held while P0 is down. -/
def accesses (s : State) : List Flight :=
  (s.fab.copies.flatMap fun c => c.dest.map fun p => ⟨c.fid, some c.idx, .none, p⟩) ++
  (s.fab.xfers.flatMap fun x => x.dest.map fun p => ⟨x.origin.fid, some x.origin.idx, .none, p⟩) ++
  (s.fab.orderings.map fun r => ⟨r.fid, none, .none, .bus r.port r.addr 4⟩) ++
  (s.hrt.qps.flatMap fun q =>
    let d := q.2.owner.getD 128
    ((q.2.reqs.filter (·.status.isNone)).flatMap fun r =>
      ((r.origin.index.map fun i => ⟨d, some i, r.buf, entryMark d i⟩).toList ++
       if q.2.stall.isSome && !(decide (0 < r.sent) && (r.op == 3 || r.op == 5 || r.op == 6)) then []
       else r.pieces.map fun p => ⟨d, r.origin.index, r.buf, p⟩)) ++
    (match q.2.busy with
      | some (.atomic _ port addr) => [⟨d, none, .none, .bus port addr 8⟩]
      | _ => [])) ++
  (s.hrt.strays.map fun x => ⟨x.fid, none, .none, .bus x.port x.addr 8⟩) ++
  (s.hands.tables.flatMap fun t => match t.2 with
    | some c => (match c.running with
      | some h => (h.src ++ h.dst).map fun p => ⟨c.fid, some h.entry, .none, p⟩
      | none => [])
    | none => []) ++
  (s.clu.ios.flatMap fun i => i.pieces.map fun p => ⟨i.fid, some i.idx, .none, p⟩) ++
  s.mem.p0Held.map fun h => ⟨h.fid, none, .none, .bus 0 h.addr h.bytes.length⟩

/-- The same, with the pages that are being moved (R141). -/
def flights (s : State) : List Flight :=
  s.accesses ++ s.mem.moves.flatMap fun m => (m.dst :: m.src).map fun p => ⟨m.drawer, some m.entry, .none, p⟩

/-- Pieces of two buffers share a byte (R343). -/
def piecesMeet (a b : List Piece) : Bool :=
  a.any fun p => b.any fun q => match p, q with
    | .dev x n, .dev y m => overlaps x n y m
    | .bus i x n, .bus j y m => i == j && overlaps x n y m
    | .remote x n, .remote y m => overlaps x n y m
    | _, _ => false

/-- The bytes that two buffers share. -/
def commonPieces (a b : List Piece) : List Piece :=
  a.flatMap fun p => b.filterMap fun q => match p, q with
    | .dev x n, .dev y m => if overlaps x n y m then some (.dev (max x y) (min (x + n) (y + m) - max x y)) else none
    | .bus i x n, .bus j y m => if i = j ∧ overlaps x n y m = true then some (.bus i (max x y) (min (x + n) (y + m) - max x y)) else none
    | .remote x n, .remote y m => if overlaps x n y m then some (.remote (max x y) (min (x + n) (y + m) - max x y)) else none
    | _, _ => none

/-- An access in flight meets some of the pieces. -/
def inFlight (s : State) (ps : List Piece) : Bool := s.accesses.any fun x => piecesMeet [x.piece] ps

/-- The leaves that translate DVAs of a range for a drawer, as pieces: cached leaves. -/
def cachedPieces (s : State) (d base len : Nat) : List Piece :=
  (s.mem.leafCache.filter fun c => c.drawer == d && overlaps c.base c.size base len).map fun c => s.leafPiece c.leaf c.size

/-- A ring entry names a region in one of its buffers. -/
def entryNames (s : State) (f idx r : Nat) : Bool :=
  match s.findEntry f idx with
  | some e =>
    let at_ := if e.opcode = 0x02 then [0x08, 0x14] else if e.opcode = 0x3B then [0x20, 0x2C] else if e.opcode = 0x48 then [0x1C]
      else if 0x10 ≤ e.opcode ∧ e.opcode ≤ 0x14 then [0x0C] else []
    at_.any fun o => match e.buf o with
      | some (.region i _) => i == r
      | _ => false
  | none => false

/-- The accesses of R281, step 3: those in flight into the bytes of a BUS region; and for a DVA region those that name it, and those
that meet a page that its DVAs are cached to name. -/
def regionFlights (s : State) (r : Nat) : List Piece :=
  let g := s.region r
  let pages := if g.kind = .bus then [.bus g.port g.base g.length] else s.cachedPieces g.owner g.base g.length
  ((s.flights.filter fun x => piecesMeet [x.piece] pages ||
    (g.kind == .dva && x.fid == g.owner && ((match x.buf with
      | .region i _ => i == r
      | _ => false) || (match x.entry with
      | some i => s.entryNames x.fid i r
      | none => false)))).map (·.piece))

/-- The accesses of a drawer that used a cached leaf of a range (R134, step 2). -/
def rangeFlights (s : State) (d base len : Nat) : List Piece :=
  let pages := s.cachedPieces d base len
  (s.flights.filter fun x => x.fid == d && piecesMeet [x.piece] pages).map (·.piece)

/-- An access that an entry watches is still in flight. -/
def watched (s : State) (ps : List Piece) : Bool := s.flights.any fun x => ps.contains x.piece

/-- A job that runs or whose checks have passed, or an NVME_IO past its step 5, found a window of this base covering one of its
ranges (R20, R140, R393). -/
def windowHeld (s : State) (d base : Nat) : Bool :=
  (match s.job d with
    | some j => j.windows.contains base
    | none => false) || (s.cmp.checked.any fun j => j.fid == d && j.windows.contains base) ||
  s.clu.ios.any fun i => i.fid == d && i.windows.contains base

/-- A running hand of the drawer, or an NVME_IO past its step 5, holds a page of its device-memory buffers (R217, R393). -/
def handHolds (s : State) (d : Nat) (ps : List Piece) : Bool :=
  let meets (xs : List Piece) : Bool := xs.any fun x => ps.any fun y => match x, y with
    | .dev a n, .dev b m => overlaps a n b m
    | _, _ => false
  (s.hands.tables.any fun t => match t.2 with
    | some c => c.fid == d && (match c.running with
      | some h => meets (h.src ++ h.dst)
      | none => false)
    | none => false) || s.clu.ios.any fun i => i.fid == d && meets i.pieces

/-- Remove a window and the cached translations of its range (R140). -/
def releaseWindow (s : State) (d base : Nat) : State :=
  match (s.windows d).find? (·.base == base) with
  | some w => (s.setWindows d ((s.windows d).filter (·.base != base))).dropCached d base w.length
  | none => s

/-- A window is recorded, and its entries are written into its stack's map with correct parity (R137, R146). -/
def addWindow (s : State) (d : Nat) (w : Window) : State :=
  let t := s.setWindows d (s.windows d ++ [w])
  if s.mem.dev.bad.isEmpty then t
  else
    let places := (List.range (w.length / 65536)).map fun k => mapEntryAt w d (w.base + 65536 * k)
    t.setDev { t.mem.dev with bad := t.mem.dev.bad.filter fun x => !places.any fun a => a ≤ x && x < a + 8 }

/-- Translate every 64 KiB page from a page base; the first outcome that is no success, or none (R143). -/
def walkPages (s : State) (d : Nat) : Nat → Nat → Option Tr × State
  | 0, _ => (none, s)
  | n + 1, page =>
    match s.translate d page false false with
    | (.device _, s1) | (.bus _ _, s1) | (.remote _, s1) => s1.walkPages d n (page + 65536)
    | (t, s1) => (some t, s1)

/-- Pages that a byte range touches (R143). -/
def pageCount (base len : Nat) : Nat := if len = 0 then 0 else (base + len - 1) / 65536 - base / 65536 + 1

/-- Set or clear PIN on the cached leaves of a range. -/
def setPins (s : State) (d base len : Nat) (p : Bool) : State :=
  { s with mem := { s.mem with leafCache := s.mem.leafCache.map fun c =>
      if c.drawer == d && overlaps c.base c.size base len then { c with pinned := p } else c } }

/-- The leaf word of one granule: DPA and W. -/
def granuleLeaf (dpa : Nat) (w : Bool) : Nat := dpa / 65536 * 65536 + (if w then 8 else 0) + 3

/-- The leaves of n granules from a base, as HOLD finds them: the granule's leaf word, or a host leaf (R137). -/
def granules (s : State) (d : Nat) : Nat → Nat → List Nat → (Option Tr × List Nat) × State
  | 0, _, acc => ((none, acc.reverse), s)
  | n + 1, g, acc =>
    match s.translate d g false false with
    | (.device _, s1) | (.bus _ _, s1) | (.remote _, s1) =>
      let leaf := match s1.mem.leafCache.find? (fun c => c.drawer == d && c.base ≤ g && g < c.base + c.size) with
        | some c => if pteHost c.leaf then c.leaf else granuleLeaf (pteDpa c.leaf + (g - c.base)) (pteW c.leaf)
        | none => 0
      s1.granules d n (g + 65536) (leaf :: acc)
    | (t, s1) => ((some t, []), s1)

/-! Moving pages (R141, R142) -/

/-- The leaf that a move writes: the same W bit, with LOC and the address of the destination. -/
def movedLeaf (m : PageMove) : Nat :=
  (if m.evict then m.region * 2 ^ 40 + m.dest / 65536 * 65536 + 7 else m.dest + 3) + (if m.w then 8 else 0)

/-- The bytes that a page of a drawer translates to, and its W bit: by the map of a held window (R138), otherwise by its leaf. -/
def pageSource (s : State) (d dva size leaf : Nat) : List Piece × Bool :=
  if (s.touching d dva size).isEmpty then ([s.leafPiece leaf size], pteW leaf)
  else
    ((List.range (size / 65536)).flatMap fun k => match s.windowLeaf d (dva + k * 65536) with
      | some (_, l) => [s.leafPiece l 65536]
      | none => subPieces [s.leafPiece leaf size] (k * 65536) 65536,
     match s.windowLeaf d dva with
      | some (_, l) => pteW l
      | none => pteW leaf)

/-- The bytes of a leaf's device memory lie in chunks of the drawer, every one (R124). -/
def chunksOwned (s : State) (d off size : Nat) : Bool :=
  (List.range ((off + size - 1) / 2 ^ 21 - off / 2 ^ 21 + 1)).all fun k => s.ownedBy d ((off / 2 ^ 21 + k) * 2 ^ 21)

/-- The bytes at the destination of a move's page, from an offset of the move on; none where the page fails with LOCAL_PROTECTION. An EVICT
destination inside its region at or beyond 2^40, which no host leaf can name, is taken as one that the region does not let the device write
(DESIGN CHOICE, log 120). -/
def moveDest (s : State) (f : Nat) (e : Entry) (evict : Bool) (at0 size : Nat) : Option Piece :=
  let dest := e.u64 0x20 + at0
  if evict then
    let g := s.region (e.u32 0x28)
    if g.valid && g.owner == f && g.kind == .bus && bit g.rights 4 && dest + size ≤ 2 ^ 40 then some (.bus g.port (g.base + dest) size) else none
  else if s.chunksOwned f (dpaOffset dest) size then some (.dev (dpaOffset dest) size) else none

/-- The destination of a move in progress; none where its chunk is the drawer's no longer (R124). -/
def movePiece (s : State) (m : PageMove) : Option Piece :=
  match m.dst with
  | .dev off n => if s.chunksOwned m.drawer off n then some m.dst else none
  | p => some p

/-- A window that a move would break is held by a job, or by an NVME_IO: the move waits (R20, R142). -/
def breaksHeld (s : State) (m : PageMove) : Bool :=
  (s.windows m.drawer).any fun w => overlaps w.base w.length m.base m.size && s.windowHeld m.drawer w.base

/-- Windows that hold a moved page: updated when the destination lies in their stack, otherwise broken (R142). -/
def moveWindows (s : State) (m : PageMove) : State :=
  (s.windows m.drawer).foldl
    (fun st w =>
      if !overlaps w.base w.length m.base m.size then st
      else if !m.evict && stackOf (dpaOffset m.dest) == w.stack then
        let upd := fun (x : Window) =>
          { x with leaves := x.leaves.zipIdx.map fun (l, i) =>
              let g := x.base + i * 65536
              if m.base ≤ g && g < m.base + m.size then granuleLeaf (m.dest + (g - m.base)) m.w else l }
        st.setWindows m.drawer ((st.windows m.drawer).map fun x => if x.base == w.base then upd x else x)
      else st.releaseWindow m.drawer w.base) s

/-- Steps 4 to 7 of a page move. Answers its status; nothing where it waits: for accesses to the page in flight, for a job that holds a
window of it (R142), for P0 or for a stack. A port that does not answer, and a leaf that cannot be read again, end it with DATA_PARITY
(R146, R330, R332). -/
def finishMove (s : State) (m : PageMove) : Option (State × Nat) :=
  let done := fun (t : State) => { t with mem := { t.mem with moves := t.mem.moves.filter (· != m) } }
  match s.movePiece m with
  | none => some (done s, 0x02)
  | some dst =>
    if !s.piecesReady (m.src ++ [dst]) ∨ (m.port = 0 ∧ !s.ring.p0.up) ∨ s.inFlight m.src ∨ s.breaksHeld m then none
    else match s.readPieces m.src with
      | (none, s1) => some (done s1, 0x0B)
      | (some bs, s1) =>
        if !s1.portsOk [dst] then some (done (s1.raiseSource 7), 0x0B)
        else
          let s2 := (((s1.writePieces m.drawer [dst] bs).race [dst]).noteBus m.drawer m.entry [dst]).count 0x5308 3 1
          if s2.pieceBad (.bus m.port m.addr 8) then some (done (s2.raiseSource 7), 0x0B)
          else if (s2.busRam m.port).le m.addr 8 ≠ m.leaf then some (done s2, 0x12)
          else some ((((done ((s2.busWrite m.drawer m.port m.addr (leBytes 8 (movedLeaf m))).moveWindows m)).dropCached m.drawer m.base m.size).forgetLeaves
            m.drawer m.base m.size), 0)

/-- The RESULT of a move that fails at a page (R353). -/
def moveResult (dva : Nat) : List Byte := List.replicate 8 0 ++ leBytes 8 dva

/-- The destination bytes of a failing page and of the later pages, so far as the device may write them (R124, R141). -/
def moveRest (s : State) (f : Nat) (e : Entry) (evict : Bool) : List Piece :=
  (List.range ((e.u64 0x18 - e.step) / 65536)).filterMap fun k => s.moveDest f e evict (e.step + k * 65536) 65536

/-- A move fails at a page: that page and the later ones stay, and their destination bytes are undefined (R141). -/
def moveFails (s : State) (f : Nat) (e : Entry) (evict : Bool) (status dva : Nat) : State :=
  (s.scramblePieces f (s.moveRest f e evict)).complete f e status (moveResult dva)

/-- Leaf sizes along a range, found by walking; a page that does not translate counts as one granule. The leaves must lie in
the range and the destination be aligned to each (R141). Nothing is answered while a table read waits for P0. -/
def moveFits (s : State) (d base len dest : Nat) : Nat → Nat → Option Bool × State
  | 0, _ => (some true, s)
  | fuel + 1, off =>
    if len ≤ off then (some true, s)
    else match s.walk d (base + off) with
      | (.hit h, s1) =>
        let size := levelSpan h.level
        if (base + off) % size == 0 && off + size ≤ len && (dest + off) % size == 0 then s1.moveFits d base len dest fuel (off + size)
        else (some false, s1)
      | (.stop .wait, s1) => (none, s1)
      | (.stop _, s1) => s1.moveFits d base len dest fuel (off + 65536)

/-- The destination of a move is where R141 lets it be. -/
def moveDestOk (s : State) (f : Nat) (e : Entry) (evict : Bool) : Bool :=
  let dest := e.u64 0x20
  let last := dest + e.u64 0x18 - 1
  let g := s.region (e.u32 0x28)
  if evict then !(g.valid && g.owner == f && decide (g.length < dest + e.u64 0x18))
  else dpaModule dest == s.moduleId && decide (dest < 2 ^ 52) && populated (dpaOffset dest) && populated (dpaOffset last) &&
    stackOf (dpaOffset dest) == stackOf (dpaOffset last)

/-- The page already lies at its destination (R141, step 1). -/
def atDest (s : State) (m : PageMove) : Bool :=
  if (s.touching m.drawer m.base m.size).isEmpty then m.leaf == movedLeaf m
  else !m.evict && m.src.zipIdx.all fun (p, k) => p == .dev (dpaOffset m.dest + k * 65536) 65536

/-- The next page of a move: translated, skipped, waiting, or blocked for the copy (R138, R141, steps 1 to 3). A page in a held window has its
bytes and its W bit from the window's map; its leaf is walked to all the same, as step 6 rewrites it. -/
def startMove (s : State) (f : Nat) (e : Entry) (evict : Bool) : State :=
  let dva := e.u64 0x10 + e.step
  let held := !(s.windowLeaf f dva).isNone
  match (if held then s.walk f dva else s.walkLeaf f dva) with
  | (.stop t, s1) => (match t.ringStatus with
    | some st => s1.moveFails f e evict st dva
    | none => s)
  | (.hit h, s1) =>
    let size := levelSpan h.level
    let from0 := s1.pageSource f dva size h.leaf
    let m : PageMove := ⟨f, dva, size, h.leaf, h.port, h.addr, from0.1, from0.2, evict, e.u32 0x28, e.u64 0x20 + e.step, .dev 0 0, e.idx, []⟩
    let owned := m.src.all fun p => match p with
      | .dev off n => s1.chunksOwned f off n
      | _ => true
    if s1.mapBad f dva size then (s1.parityMet (m.src.head?.getD (.dev 0 0))).moveFails f e evict 0x0B dva
    else match (if held then Tr.device 0 else s1.throughLeaf f dva dva size h.leaf false false) with
      | .device _ | .bus _ _ =>
        if !owned then s1.moveFails f e evict 0x02 dva
        else if s1.mem.moves.any (fun x => x.drawer == f && overlaps x.base x.size dva size) then s.moveWait f e (s1.count 0x5308 5 1)
        else if s1.atDest m then
          (if e.u64 0x18 ≤ e.step + size then s1.complete f e 0 (moveResult 0) else s1.setEntry f { e with step := e.step + size })
        else if (s1.touching f dva size).any (fun w => s1.windowHeld f w) ∨ s1.handHolds f m.src then s
        else match s1.moveDest f e evict e.step size with
          | some p => { s1 with mem := { s1.mem with moves := s1.mem.moves ++ [{ m with dst := p }] } }
          | none => s1.moveFails f e evict 0x02 dva
      | t => s1.moveFails f e evict ((t.ringStatus).getD 0x02) dva

/-- A page move finishes its page for a command that must have it finished: none of its entry's steps is lost, as a page that lies at its
destination is skipped. -/
def settleMove (s : State) (m : PageMove) : State :=
  match s.finishMove m with
  | some (t, 0) => t
  | some (t, st) => (match t.findEntry m.drawer m.entry with
    | some e => t.moveFails m.drawer e m.evict st m.base
    | none => t)
  | none => s

/-- One step of PREFETCH or EVICT: start the next page, or finish the page being moved (R141). -/
def stepMove (s : State) (f : Nat) (e : Entry) (evict : Bool) : State :=
  let len := e.u64 0x18
  match s.mem.moves.find? (fun m => m.drawer == f && m.entry == e.idx) with
  | some m =>
    (match s.finishMove m with
      | none => s
      | some (s1, 0) =>
        if len ≤ e.step + m.size then s1.complete f e 0 (moveResult 0)
        else s1.setEntry f { e with step := e.step + m.size, stage := .ready }
      | some (s1, st) => s1.moveFails f e evict st m.base)
  | none =>
    if e.step ≠ 0 then s.startMove f e evict
    else match s.moveFits f (e.u64 0x10) len (e.u64 0x20) (len / 65536 + 1) 0 with
      | (none, _) => s
      | (some fits, s1) => if fits && s1.moveDestOk f e evict then s1.startMove f e evict else s1.complete f e 0x0E (moveResult 0)

/-! Regions (R279–R281) -/

/-- Regions of a drawer. -/
def regionCount (s : State) (d : Nat) : Nat := (s.mem.regions.filter fun r => r.2.valid && r.2.owner == d).length

/-- The lowest index that is not VALID. -/
def freeRegion (s : State) : Option Nat :=
  (List.range (s.mem.regions.length + 1)).find? fun i => !(s.region i).valid && decide (i < 262144)

/-- The receive rings that lie in a region have lost it for good, whatever is registered at its index later (R265). -/
def loseRings (s : State) (r : Nat) : State :=
  { s with hrt := { s.hrt with qps := s.hrt.qps.map fun kv =>
      (kv.1, if kv.2.attr.recvLoc = 1 ∧ kv.2.attr.recvBase / 2 ^ 40 = r ∧ (kv.2.state = .rtr ∨ kv.2.state = .rts)
        then { kv.2 with ringLost := true } else kv.2) } }

/-- Steps 1 and 2 of R281. -/
def invalidateRegion (s : State) (r : Nat) : State :=
  let g := s.region r
  let s0 := (List.range 32).foldl
    (fun st q => if st.obj (rawObj q) 4 % 2 ^ 24 = r ∧ st.rawDrawer q = g.owner ∧ g.valid then st.dropRaw q else st) s
  let s1 := ((s0.setRegion r { Region.none with generation := (g.generation + 1) % 256 }).dropRegion r).loseRings r
  (List.range 64).foldl (fun st i => if st.obj (0x2360 + i) 1 = r then (st.setObj (0x2360 + i) 4 0 0).setObj (0x2360 + i) 5 0 0 else st) s1

/-! Patrol scrub (R147) -/

/-- The local offset of the k-th unit: bank by bank, ascending (R54). -/
def scrubOffset (k : Nat) : Nat :=
  let bank := k / 2 ^ 20
  let b := bank / 12
  let u := k % 2 ^ 20
  b / 64 * 2 ^ 36 + b % 64 * (768 * 2 ^ 20) + (u / 4 * 12 + bank % 12) * 256 + u % 4 * 64

end State

/-! The commands -/

def execNop (fid idx : Nat) (s : State) : Host.Outcome State Fault Refusal :=
  s.live (s.runEntry fid idx [0x00] fun e t => t.complete fid e 0 [])

def execFence (fid idx : Nat) (s : State) : Host.Outcome State Fault Refusal :=
  s.live (s.runEntry fid idx [0x01] fun e t => t.complete fid e 0 [])

namespace State

def hasRemote (ps : List Piece) : Bool := ps.any fun p => match p with
  | .remote _ _ => true
  | _ => false

/-- Write transfers for the remote runs of a destination: one for each run of contiguous DPAs of one module; `off` counts
the bytes placed before it (R188). -/
def remoteRuns (f idx : Nat) (data : List Byte) : List Piece → Nat → List Xfer
  | [], _ => []
  | p :: ps, off =>
    let rest := remoteRuns f idx data ps (off + p.len)
    match p with
    | .remote a n =>
      let x : Xfer := { id := 0, origin := ⟨f, idx⟩, read := false, drawer := f, module := dpaModule a, port := 8, vc := 0,
                        addr := a, len := n, data := slice data off n, dest := [], sig := none, firstSent := 0, lastSent := 0,
                        resent := false, busyAt := none, next := 0 }
      (match ps, rest with
        | .remote b _ :: _, y :: r =>
          if b = a + n ∧ dpaModule b = dpaModule a then { x with len := n + y.len, data := x.data ++ y.data } :: r else x :: rest
        | _, _ => x :: rest)
    | _ => rest

/-- READ_REQs for the remote runs of a source, each ending at a multiple of 256 KiB of its DPA (R183). -/
def remoteReads (f idx : Nat) (dest : List Piece) (sub : List Piece → Nat → Nat → List Piece) : List Piece → Nat → List Xfer
  | [], _ => []
  | p :: ps, off =>
    (match p with
      | .remote a n => (cuts 262144 a n).map fun c =>
          { id := 0, origin := ⟨f, idx⟩, read := true, drawer := f, module := dpaModule a, port := 8, vc := 1,
            addr := a + c.1, len := c.2, data := [], dest := sub dest (off + c.1) c.2, sig := none, firstSent := 0, lastSent := 0,
            resent := false, busyAt := none, next := 0 }
      | _ => []) ++ remoteReads f idx dest sub ps (off + p.len)

/-- A buffer from an offset on. -/
def bufFrom (b : BufRef) (k : Nat) : BufRef := match b with
  | .none => .none
  | .dva a => .dva (a + k)
  | .region r off => .region r (off + k)

/-- The bytes of a COPY's destination, so far as its pages translate: those that a COPY which fails leaves undefined (R343). -/
def copyDest (s : State) (f : Nat) (e : Entry) : List Piece :=
  let len := e.u64 0x20
  let found (k n : Nat) : List Piece := match e.buf 0x14 with
    | some b => (match (s.resolveBuf f (bufFrom b k) n true true).1 with
      | .ok ps => ps
      | _ => [])
    | none => []
  let from0 := match e.buf 0x14 with
    | some (.dva a) => a
    | some (.region r off) => (s.region r).base + off
    | _ => 0
  if found 0 len ≠ [] then found 0 len
  else (List.range (len / 65536 + 2)).flatMap fun k =>
    let lo := max from0 ((from0 / 65536 + k) * 65536)
    let hi := min (from0 + len) ((from0 / 65536 + k + 1) * 65536)
    if hi ≤ lo then [] else found (lo - from0) (hi - lo)

/-- COPY (R343). Where source and destination overlap, what it carries is undefined, and so is its destination at the end. -/
def runCopy (s : State) (f : Nat) (e : Entry) : State :=
  let len := e.u64 0x20
  match e.buf 0x08, e.buf 0x14 with
  | some sb, some db =>
    match s.resolveBuf f sb len false true with
    | (.wait, s1) => s.moveWait f e s1
    | (.fail st, s1) => s1.copyFailed f e.idx st (s1.copyDest f e)
    | (.ok src, s1) =>
      match s1.resolveBuf f db len true true with
      | (.wait, s2) => s.moveWait f e s2
      | (.fail st, s2) => s2.copyFailed f e.idx st (s2.copyDest f e)
      | (.ok dst, s2) =>
        let lastRemote := match dst.getLast? with
          | some (.remote _ _) => true
          | _ => false
        if hasRemote src && hasRemote dst then s2.copyFailed f e.idx 0x0E dst
        else if (hasRemote src || hasRemote dst) && s2.obj 0x2800 3 != 0 then s
        else if !s2.piecesReady (src ++ dst) then s
        else if e.sig && !lastRemote && !s2.ownsPeg f e.sigPeg then s2.copyFailed f e.idx 0x12 dst
        else if dst.any fun p => match p with
            | .bus port _ _ => !s2.busOk port
            | _ => false then s2.copyFailed f e.idx 0x0B dst
        else
          match s2.readPieces src with
          | (none, r) => r.copyFailed f e.idx 0x0B dst
          | (some got, r) =>
            let mixed := piecesMeet src dst
            let x := if mixed then r.freeBytes got.length else (got, r)
            let bs := x.1
            let s3 := x.2
            let s4 := (s3.writePieces f dst bs).race dst
            let reads := remoteReads f e.idx dst subPieces src 0
            let writes := remoteRuns f e.idx bs dst 0
            if reads.isEmpty && writes.isEmpty then s4.copyPlaced f e.idx dst false
            else
              let hold := e.sig && lastRemote
              let op : CopyOp :=
                { fid := f, idx := e.idx, todo := reads ++ (if hold then writes.dropLast else writes),
                  final := if hold then writes.getLast?.map (fun x => { x with sig := some e.sigPeg }) else none,
                  outstanding := 0, status := 0, dest := dst, mixed := mixed }
              (s4.busy f e).startOp op
  | _, _ => s

end State

def execCopy (fid idx : Nat) (s : State) : Host.Outcome State Fault Refusal :=
  s.live (s.runEntry fid idx [0x02] fun e t => t.runCopy fid e)

def execRegRegion (fid idx : Nat) (s : State) : Host.Outcome State Fault Refusal :=
  s.live (s.runEntry fid idx [0x20] fun e t =>
    match t.freeRegion with
    | some i =>
      if t.obj 0x2300 6 fid ≤ t.regionCount fid then t.complete fid e 0x12 []
      else
        let g := (t.region i).generation
        let k : RegionKind := if e.u8 0x0C = 0 then .bus else .dva
        (t.setRegion i ⟨true, fid, g, k, e.u8 0x0D, e.u64 0x10, e.u64 0x18, e.u8 0x0E⟩).complete fid e 0
          (leBytes 4 i ++ leBytes 4 (i * 256 + g))
    | none => t.complete fid e 0x12 [])

def execDeregRegion (fid idx : Nat) (s : State) : Host.Outcome State Fault Refusal :=
  s.live (s.runEntry fid idx [0x21] fun e t =>
    let r := e.u32 8
    let g := t.region r
    if e.step = 0 ∧ (262144 ≤ r ∨ !g.valid ∨ g.owner ≠ fid) then t.complete fid e 0x12 (leBytes 4 r)
    else
      let watch := if e.step = 0 then t.regionFlights r else e.watch
      let t1 := if e.step = 0 then t.invalidateRegion r else t
      if t1.watched watch then t1.setEntry fid { e with step := 1, watch := watch }
      else t1.complete fid e 0 (leBytes 4 r))

def execPrefetch (fid idx : Nat) (s : State) : Host.Outcome State Fault Refusal :=
  s.live (s.runEntry fid idx [0x28] fun e t => t.stepMove fid e false)

/-- The ADVISE entry at an index has the kind. -/
def advise (fid idx kind : Nat) (k : Entry → State → State) (s : State) : State :=
  s.runEntry fid idx [0x29] fun e t => if e.u8 8 = kind then k e t else t

def execAdvisePrewalk (fid idx : Nat) (s : State) : Host.Outcome State Fault Refusal :=
  s.live (advise fid idx 0 (fun e t =>
    let b := e.u64 0x10
    match t.walkPages fid (State.pageCount b (e.u64 0x18)) (b / 65536 * 65536) with
    | (none, t1) => t1.complete fid e 0 []
    | (some o, t1) => (match o.ringStatus with
      | some st => t1.complete fid e st []
      | none => t.moveWait fid e t1)) s)

/-- A PIN beyond a quota pins nothing of its range: R143 names the status alone (DESIGN CHOICE, log 120). -/
def execAdvisePin (fid idx : Nat) (s : State) : Host.Outcome State Fault Refusal :=
  s.live (advise fid idx 1 (fun e t =>
    let b := e.u64 0x10 / 65536 * 65536
    let n := State.pageCount (e.u64 0x10) (e.u64 0x18)
    match t.walkPages fid n b with
    | (none, t1) =>
      let t2 := t1.setPins fid b (n * 65536) true
      let pins := t2.mem.leafCache.filter (·.pinned)
      if 16384 < pins.length ∨ 1024 < (pins.filter (·.drawer == fid)).length then t1.complete fid e 0x12 []
      else t2.complete fid e 0 []
    | (some o, t1) => (match o.ringStatus with
      | some st => t1.complete fid e st []
      | none => t.moveWait fid e t1)) s)

def execAdviseUnpin (fid idx : Nat) (s : State) : Host.Outcome State Fault Refusal :=
  s.live (advise fid idx 2 (fun e t =>
    (t.setPins fid (e.u64 0x10 / 65536 * 65536) (State.pageCount (e.u64 0x10) (e.u64 0x18) * 65536) false).complete fid e 0 []) s)

def execAdviseHold (fid idx : Nat) (s : State) : Host.Outcome State Fault Refusal :=
  s.live (advise fid idx 3 (fun e t =>
    let base := e.u64 0x10
    let len := e.u64 0x18
    let n := len / 65536
    if 64 ≤ (t.windows fid).length ∨ (t.windows fid).any (fun w => overlaps w.base w.length base len) then t.complete fid e 0x12 []
    else match t.granules fid n base [] with
      | ((some o, _), t1) => (match o.ringStatus with
        | some st => t1.complete fid e st []
        | none => t.moveWait fid e t1)
      | ((none, leaves), t1) =>
        let k := stackOf (dpaOffset (pteDpa (nth 0 leaves 0)))
        if leaves.any pteHost then t1.complete fid e 0x06 []
        else if leaves.any (fun l => stackOf (dpaOffset (pteDpa l)) != k) then t1.complete fid e 0x12 []
        else if e.u8 9 = 1 ∧ leaves.any (fun l => !pteW l) then t1.complete fid e 0x02 []
        else if 1048576 < t1.mapEntries k + n then t1.complete fid e 0x12 []
        else (t1.addWindow fid ⟨base, len, k, e.u8 9 == 1, leaves⟩).complete fid e 0 []) s)

def execAdviseRelease (fid idx : Nat) (s : State) : Host.Outcome State Fault Refusal :=
  s.live (advise fid idx 4 (fun e t =>
    let base := e.u64 0x10
    if !(t.windows fid).any (·.base == base) then t.complete fid e 0x12 []
    else if t.windowHeld fid base then t
    else (t.releaseWindow fid base).complete fid e 0 []) s)

def execAdviseEvict (fid idx : Nat) (s : State) : Host.Outcome State Fault Refusal :=
  s.live (advise fid idx 5 (fun e t => t.stepMove fid e true) s)

def execInvalidate (fid idx : Nat) (s : State) : Host.Outcome State Fault Refusal :=
  s.live (s.runEntry fid idx [0x2A] fun e t =>
    let base := if e.u8 8 = 1 then 0 else e.u64 0x10
    let len := if e.u8 8 = 1 then 2 ^ 48 else e.u64 0x18
    let watch := if e.step = 0 then t.rangeFlights fid base len else e.watch
    let t1 := if e.step = 0 then (if e.u8 8 = 1 then t.dropDrawer fid else t.dropCached fid base len) else t
    if t1.watched watch then t1.setEntry fid { e with step := 1, watch := watch }
    else ((t1.dropStale fid base len).count 0x5308 4 1).complete fid e 0 [])

def execScrubAccess (corrected : Bool) (s : State) : Host.Outcome State Fault Refusal :=
  let k := s.mem.scrubPos % (6144 * 2 ^ 20)
  let off := State.scrubOffset k
  let st := stackOf off
  -- A unit of a stack that is OFF, or whose interface is lost, cannot be read: scrub passes it.
  s.live (
      let s1 := { s with mem := { s.mem with scrubPos := (k + 1) % (6144 * 2 ^ 20) } }
      let s2 := if k + 1 = 6144 * 2 ^ 20 then s1.setObj 0x2A08 2 0 ((s1.obj 0x2A08 2 + 1) % 2 ^ 32) else s1
      if !(s.stack st).up ∨ (s.stack st).lost then s2
      else if s2.mem.dev.hasBad off 64 then
        ((s2.setObj 0x2A08 3 0 (s2.moduleId * 2 ^ 44 + off)).count (0x5300 + st) 3 1).raiseSource 7
      else if corrected then s2.count (0x5300 + st) 1 1
      else s2)

end Sys2Proof.Machine
end

