-- ==== Sys2Proof/Machine/RawQueues.lean ====
section
/-! DEFINITION. Machine/RawQueues.lean: raw queues (R397 to R400): enabling and disabling, transmit descriptors and their
completions, delivery of received frames, and the filter. -/

namespace Sys2Proof.Machine

/-- STATUS of a transmit completion (R398). -/
def rawRecord (status i stamp cookie : Nat) : List Byte :=
  [BitVec.ofNat 8 status, 0, 0, 0] ++ leBytes 4 i ++ leBytes 8 stamp ++ leBytes 4 cookie ++ List.replicate 12 0

/-- Something of the queue must go on before it takes a descriptor or delivers a frame. -/
def RawQueue.waits (r : RawQueue) : Bool := !r.held.isEmpty || 0 < r.flush || r.closing

namespace State

def rawPeg (s : State) (q k : Nat) : Nat := s.obj (rawObj q) 0x0A + k

/-- The queue is served at this service level (R385). -/
def rawServed (s : State) (q : Nat) : Bool :=
  s.obj (rawObj q) 1 == 1 && bit (s.obj 0x2C00 3) 3 && s.subportRuns (s.rawPort q) (s.rawLane q) && (2 ≤ s.level || s.rawDrawer q == 0)

/-- Bytes of the queue's region. A page move of the drawer that stands in the way has not copied its bytes yet, so the access goes
through the old leaf (R135). -/
def rawRange (s : State) (q off len : Nat) (write : Bool) : Res × State :=
  let moves := s.mem.moves
  let r := ({ s with mem := { s.mem with moves := [] } }).resolveRegion (s.rawDrawer q) (s.obj (rawObj q) 4 % 2 ^ 24) off len write false
  (r.1, { r.2 with mem := { r.2.mem with moves := moves } })

/-- Write to the queue's region, and count it on a hub peg behind an ordering read where R159 asks for one; none while a page must
wait. -/
def rawPut (s : State) (q off : Nat) (bs : List Byte) (peg : Option Nat) : Option State :=
  match s.rawRange q off bs.length true with
  | (.ok ps, s1) =>
    let s2 := (s1.writePieces (s1.rawDrawer q) ps bs).race ps
    some (match peg with
      | none => s2
      | some h => match lastBusOf ps with
        | some (port, a) => s2.issueOrdering port a (s2.rawDrawer q) (.count (s2.rawDrawer q) h)
        | none => s2.addHubPeg h 1)
  | (.wait, _) => none
  | (.fail _, s1) => some s1

/-- Write to the queue's region behind what waits there, and wait where a page must (R362, R398, R399). -/
def rawWrite (s : State) (q off : Nat) (bs : List Byte) (peg : Option Nat) : State :=
  match s.raw q with
  | none => (s.rawPut q off bs peg).getD s
  | some r =>
    match (if r.held.isEmpty then s.rawPut q off bs peg else none) with
    | some t => t
    | none => s.setRaw q (some { r with held := r.held ++ [(off, bs, peg)] })

/-- Completion record i is written and TX_DONE takes one (R398). -/
def rawDone (s : State) (q i status stamp cookie : Nat) : State :=
  let n := 2 ^ s.obj (rawObj q) 6
  let s1 := match s.raw q with
    | some r => s.setRaw q (some { r with offered := r.offered.filter (·.1 != i) })
    | none => s
  (if status = 0 then s1.count 0x5700 8 1 else s1).rawWrite q (s.obj (rawObj q) 5 + 32 * n + 32 * (i % n)) (rawRecord status i stamp cookie)
    (some (s.rawPeg q 1))

/-- The COOKIE of an offered descriptor. -/
def rawCookie (s : State) (q i : Nat) : Nat :=
  match s.raw q with
  | some r => ((r.offered.find? (·.1 == i)).map (·.2)).getD 0
  | none => 0

/-- The checks of a write of 1 to ENABLE (R397). -/
def rawMayEnable (s : State) (q : Nat) : Bool :=
  let r := rawObj q
  let d := s.rawDrawer q
  let g := s.region (s.obj r 4 % 2 ^ 24)
  128 ≤ s.obj r 2 && s.subportNamed (s.obj r 3) && s.obj r 4 % 2 ^ 24 < 262144 && g.valid && g.owner == d && bit g.rights 4 &&
  s.obj r 5 + 64 * 2 ^ s.obj r 6 ≤ g.length && s.obj r 7 + (32 + s.obj r 9) * 2 ^ s.obj r 8 ≤ g.length &&
  s.ownsPeg d (s.rawPeg q 0)

/-- A write of 1 to ENABLE; none where it is rejected. -/
def rawEnable (s : State) (q : Nat) : Option State :=
  if !s.rawMayEnable q then none
  else
    let s0 := if s.obj (rawObj q) 1 = 1 then s.dropRaw q else s
    let s1 := (List.range 4).foldl (fun st k => st.setHubPeg (st.rawPeg q k) 0) s0
    some ((s1.setRaw q (some ⟨0, 0, [], [], [], 0, false⟩)).setObj (rawObj q) 1 0 1)

/-- Descriptors posted and not yet taken (R398). -/
def rawPosted (s : State) (q i : Nat) : Nat :=
  let n := subMod (2 ^ 32) (s.hubPeg (s.rawPeg q 0)) i
  if n ≤ 2 ^ 31 then n else 0

/-- A posted descriptor completes with FLUSHED; none while it cannot be read for its COOKIE. -/
def rawFlushOne (s : State) (q : Nat) (r : RawQueue) : Option State :=
  let i := r.txNext
  let v := s.rawRange q (s.obj (rawObj q) 5 + 32 * (i % 2 ^ s.obj (rawObj q) 6)) 32 false
  let fin (t : State) (cookie : Nat) : State :=
    (t.setRaw q (some { r with txNext := (i + 1) % 2 ^ 32, flush := r.flush - 1 })).rawDone q i 0x0D 0 cookie
  match v.1 with
  | .wait => none
  | .fail _ => some (fin v.2 0)
  | .ok ps =>
    if !v.2.piecesReady ps then none
    else match v.2.readPieces ps with
      | (some bs, t) => some (fin t (leAt bs 0x18 4))
      | (none, t) => some (fin t 0)

/-- What waits in a queue goes on, in order: the completions and records held, then the descriptors to be flushed, then the end of a queue
that closes, whose ENABLE reads 0 from then on (R397). -/
def rawSettle (s : State) (q : Nat) : Nat → State
  | 0 => s
  | n + 1 =>
    match s.raw q with
    | none => s
    | some r =>
      match r.held with
      | h :: rest => (match s.rawPut q h.1 h.2.1 h.2.2 with
        | some t => (t.setRaw q (some { r with held := rest })).rawSettle q n
        | none => s)
      | [] =>
        if 0 < r.flush then (match s.rawFlushOne q r with
          | some t => t.rawSettle q n
          | none => s)
        else if r.closing then (((s.setRaw q none).setObj (rawObj q) 1 0 0)).pfcTick (s.rawPort q)
        else s

/-- Let a queue go on as far as it can. -/
def rawGoOn (s : State) (q : Nat) : State :=
  match s.raw q with
  | some r => s.rawSettle q (r.held.length + 2 * r.flush + 2)
  | none => s

/-- Every queue goes on as far as it can. -/
def rawsGoOn (s : State) : State := (s.clu.raws.map (·.1)).foldl rawGoOn s

/-- The posted descriptors of a queue must complete with FLUSHED, and the queue closes after them or goes on. -/
def rawFlush (s : State) (q : Nat) (closing : Bool) : State :=
  match s.raw q with
  | some r =>
    (s.setRaw q (some { r with flush := min (s.rawPosted q r.txNext) (2 ^ s.obj (rawObj q) 6), closing := closing,
                               inbox := if closing then [] else r.inbox })).rawGoOn q
  | none => s

/-- A write of 0 to ENABLE: every posted descriptor that has not been sent completes with FLUSHED (R397). -/
def rawDisable (s : State) (q : Nat) : State :=
  match s.raw q with
  | none => s.setObj (rawObj q) 1 0 0
  | some r =>
    if r.closing then s
    else ((r.offered.foldl (fun st o => st.rawDone q o.1 0x0D 0 o.2) (s.rawUnqueue q)).rawFlush q true).pfcTick (s.rawPort q)

/-- A descriptor breaks a rule of R398. -/
def rawBad (s : State) (q i : Nat) (d : List Byte) : Bool :=
  let fl := leAt d 0x0A 1
  let len := leAt d 8 2
  leAt d 0x1C 4 != i || 8 ≤ fl || leAt d 0x0B 1 != 0 || (!bit fl 2 && leAt d 0x0C 2 != 0) || (slice d 0x0E 10).any (· != 0) ||
  len < 14 || s.maxFrame (s.rawPort q) < len + (if bit fl 2 then 8 else 4) || (bit fl 1 && !bit fl 0)

/-- A Sync with twoStepFlag 0 (R325). -/
def oneStepOk (s : State) (port : Nat) (f : List Byte) : Bool :=
  match ptpAt (s.linkOf port f) f true with
  | some (o, _) => beAt f o 1 % 16 == 0 && !bit (beAt f (o + 6) 1) 1
  | none => false

/-- The cluster takes the next posted descriptor (R398). -/
def rawTake (s : State) (q : Nat) : State :=
  match s.raw q with
  | none => s
  | some r =>
    let i := r.txNext
    if r.waits then s.rawGoOn q
    else if !s.rawServed q ∨ s.rawPosted q i = 0 then s
    else
      let fin (t : State) (st cookie : Nat) : State :=
        match t.raw q with
        | some x => (t.setRaw q (some { x with txNext := (i + 1) % 2 ^ 32 })).rawDone q i st 0 cookie
        | none => t
      match s.rawRange q (s.obj (rawObj q) 5 + 32 * (i % 2 ^ s.obj (rawObj q) 6)) 32 false with
      | (.wait, _) => s
      | (.fail _, s1) => fin s1 0x0B 0
      | (.ok ps, s1) =>
        if !s1.piecesReady ps then s
        else match s1.readPieces ps with
          | (none, s2) => fin s2 0x0B 0
          | (some d, s2) =>
            let cookie := leAt d 0x18 4
            if s2.rawBad q i d then fin s2 0x0E cookie
            else match s2.rawRange q (leAt d 0 8) (leAt d 8 2) false with
              | (.wait, _) => s
              | (.fail st, s3) => fin s3 (if st = 1 then 1 else 0x0B) cookie
              | (.ok fs, s3) =>
                if !s3.piecesReady fs then s
                else match s3.readPieces fs with
                  | (none, s4) => fin s4 0x0B cookie
                  | (some f, s4) =>
                    let fl := leAt d 0x0A 1
                    let port := s4.rawPort q
                    let lane := s4.rawLane q
                    if s4.obj (rawObj q) 0x0C = 0 ∧ slice f 6 6 ≠ s4.portMac port lane then fin s4 0x12 cookie
                    else if bit fl 1 ∧ !s4.oneStepOk port f then fin s4 0x0E cookie
                    else
                      let g := if bit fl 2 then f.take 12 ++ [0x81, 0x00] ++ beBytes 2 (leAt d 0x0C 2) ++ f.drop 12 else f
                      if (s4.sub (4 * port + lane)).link ≠ .up then fin (s4.count (ethCtr port) 0x0F 1) 0x0D cookie
                      else
                        let s5 := s4.setRaw q (some { r with txNext := (i + 1) % 2 ^ 32, offered := r.offered ++ [(i, cookie)] })
                        s5.offerFrame port lane (s5.classOf port g) 8 ⟨g, .raw q i, bit fl 0, bit fl 1, 0⟩

/-! Received frames (R399, R400) -/

/-- The filter of a queue matches a frame (R400). -/
def rawMatches (s : State) (q : Nat) (f : List Byte) : Bool :=
  let x := s.blob (rawObj q) 0x0B
  let m := leAt x 14 1
  let l := s.linkOf (s.rawPort q) f
  let t := ipTransport l f
  (!bit m 0 || l.dst == x.take 6) && (!bit m 1 || l.etype == beAt x 6 2) &&
  (!bit m 2 || (match l.tags with
    | a :: _ => a.2 % 4096 == beAt x 8 2 % 4096
    | [] => false)) &&
  (!bit m 3 || ipProtocol l f == some (beAt x 10 1)) &&
  (!bit m 4 || (match t with
    | some (p, o) => (p == 6 || p == 17) && beAt f (o + 2) 2 == beAt x 12 2
    | none => false))

/-- The lowest-numbered queue of the sub-port that claims a frame (R387, item 4). -/
def rawClaim (s : State) (port lane : Nat) (f : List Byte) : Option Nat :=
  firstBelow 32 fun q => (match s.raw q with
    | some r => !r.closing
    | none => false) && s.rawServed q && s.rawPort q == port && s.rawLane q == lane && s.rawMatches q f

/-- A frame joins a queue's frames (R312). -/
def rawJoin (s : State) (q : Nat) (f : RxFrame) : State :=
  match s.raw q with
  | some r => s.setRaw q (some { r with inbox := r.inbox ++ [f] })
  | none => s

/-- The oldest frame of a queue is delivered, or dropped for want of a slot (R399). -/
def rawDeliver (s : State) (q : Nat) : State :=
  match s.raw q with
  | none => s
  | some r =>
    if r.waits then s.rawGoOn q
    else match r.inbox with
    | [] => s
    | f :: rest =>
      let o := rawObj q
      let n := r.rxNext
      let size := s.obj o 9
      let slots := 2 ^ s.obj o 8
      if slots ≤ subMod (2 ^ 32) n (s.hubPeg (s.rawPeg q 3)) ∨ size < f.bytes.length then
        ((s.setRaw q (some { r with inbox := rest })).count 0x5700 0x0A 1).pfcTick f.port
      else
        let at_ := s.obj o 7 + 32 * slots + size * (n % slots)
        match s.rawRange q at_ f.bytes.length true with
        | (.wait, _) => s
        | (_, s1) =>
          let s2 := s1.setRaw q (some { r with inbox := rest, rxNext := (n + 1) % 2 ^ 32 })
          let s3 := s2.rawWrite q at_ f.bytes none
          let rec_ := [BitVec.ofNat 8 f.flags, BitVec.ofNat 8 f.tc] ++ leBytes 2 f.bytes.length ++ leBytes 4 n ++ leBytes 8 f.stamp ++
            [BitVec.ofNat 8 f.lane] ++ List.replicate 15 0
          let s4 := (s3.rawWrite q (s.obj o 7 + 32 * (n % slots)) rec_ (some (s.rawPeg q 2))).count 0x5700 9 1
          (if f.flags = 0 then s4 else s4.count (ethCtr f.port) 8 1).pfcTick f.port

end State

/-! The commands -/

def execRawQueueEnable (queue : Nat) (s : State) : Host.Outcome State Fault Refusal := s.liveLedger ((s.rawEnable queue).getD s)

def execRawQueueDisable (queue : Nat) (s : State) : Host.Outcome State Fault Refusal := s.liveLedger (s.rawDisable queue)

def execRawTxDescriptor (queue : Nat) (s : State) : Host.Outcome State Fault Refusal := s.live (s.rawTake queue)

def execRawRxFrame (queue : Nat) (s : State) : Host.Outcome State Fault Refusal := s.live (if s.rawServed queue then s.rawDeliver queue else s)

end Sys2Proof.Machine
end

