-- ==== Sys2Proof/Machine/Ethernet.lean ====
section
/-! DEFINITION. Machine/Ethernet.lean: the commands of "Ethernet ports, traffic classes and gates": receiving (R312 to R314),
priority flow control (R317), sending (R315, R319, R321, R325), the states of sub-ports (R308) and gate lists (R318, R320). -/

namespace Sys2Proof.Machine

/-- The FCS of a whole received frame is right. -/
def fcsOk (f : List Byte) : Bool := 4 ≤ f.length && leAt f (f.length - 4) 4 == crc32 (f.take (f.length - 4))

namespace State

/-! Receiving (R312) -/

/-- The receiving port's own mark on an ECT packet (R298), and the state after its draw. -/
def markCe (s : State) (port ecn : Nat) : Bool × State :=
  let c := s.cellsHeldBy port
  let lo := s.obj 0x2702 0x0A
  let hi := s.obj 0x2702 0x0B
  if ecn = 0 ∨ ecn = 3 ∨ c < lo then (false, s)
  else if hi ≤ c then (true, s)
  else
    let n := s.eth.draws.num port
    (decide (Config.markDraw port n % 2 ^ 32 * (256 * (hi - lo)) < s.obj 0x2702 0x0C * (c - lo) * 2 ^ 32),
     { s with eth := { s.eth with draws := s.eth.draws.setNum port (n + 1) } })

/-- The UDP packet of a frame that is taken as HRT (R238, R312 order 3). -/
def hrtUdp (s : State) (port lane : Nat) (l : Link) (f : List Byte) : Option Udp :=
  if l.dst ≠ s.portMac port lane then none
  else match Udp.parse l f with
    | some u => if u.dport = s.forced 0x2700 1 ∧ s.ownsIp port lane u.dst then some u else none
    | none => none

/-- An HRT frame with its damage flags: discarded under R313, R238 and R246, or queued for its pipeline. -/
def hrtTake (s : State) (port lane tc flags : Nat) (u : Udp) (f : List Byte) : State :=
  if flags % 4 ≠ 0 ∨ bit flags 3 then s
  else
    let s1 := s.count 0x5100 2 1
    if bit flags 2 then s1.count 0x5100 0x0C 1
    else if !u.plain ∨ !u.sumOk then s1.count 0x5100 0x0A 1
    else match HrtPkt.parse u.len u.bytes with
      | .inr c => s1.count 0x5100 c 1
      | .inl _ =>
        let cells := ceilDiv f.length 256
        let x : RxFrame := ⟨port, lane, tc, cells, 0, 0, false, f⟩
        let m := ({ s1 with eth := { s1.eth with hrtIn := s1.eth.hrtIn ++ [x] } } : State).markCe port u.ecn
        ({ m.2 with eth := { m.2.eth with hrtIn := s1.eth.hrtIn ++ [{ x with ce := m.1 }] } } : State).pfcTick port

/-- Where the message starts that the time service takes (R387, item 2); none where it claims nothing. -/
def timeClaims (s : State) (port lane : Nat) (f : List Byte) : Option Nat :=
  match ptpAt (s.linkOf port f) f false with
  | some (o, t) =>
    if s.obj 0x2C01 1 == 1 && bit (s.obj 0x2C00 3) 1 && t == s.obj 0x2C01 4 && beAt f (o + 4) 1 == s.obj 0x2C01 3 &&
    (if port = 8 then s.obj 0x2C01 2 == 0x80
     else decide (s.obj 0x2C01 2 < 0x80) && s.obj 0x2C01 2 / 16 == port && s.obj 0x2C01 2 % 4 == lane) then some o else none
  | none => none

/-- An existing storage connection claims a TCP segment (R387, item 3); its PDUs arrive as commands of their own. -/
def storageClaims (s : State) (port lane : Nat) (f : List Byte) : Bool :=
  let l := s.linkOf port f
  match ipTransport l f with
  | some (6, o) =>
    let a := ipAddrs l f
    (List.range 64).any fun c =>
      let r := 0x2C40 + c
      (s.obj r 3 == 1 || s.obj r 3 == 2) && s.obj r 4 / 16 % 8 == port && s.obj r 4 % 4 == lane && s.blob r 5 == a.2 &&
      s.blob r 6 == a.1 && s.obj r 7 == beAt f o 2 && (Sparse.get (fun _ => NvmeConn.reset) s.clu.conns c).tcpPort == beAt f (o + 2) 2
  | _ => false

/-- Order 4 and order 5 of R312 for a whole frame; damaged ones go to raw queues only (R313, R387). -/
def clusterTake (s : State) (port lane tc flags : Nat) (f : List Byte) : State :=
  let stamp := if flags = 0 ∧ ptpEvent (s.linkOf port f) f then s.stampNow port false else 0
  let toRaw (t : State) : Option State := match t.rawClaim port lane f with
    | some q => some ((t.rawJoin q ⟨port, lane, tc, ceilDiv f.length 256, flags, stamp, false, f⟩).pfcTick port)
    | none => none
  if flags ≠ 0 then (if bit (s.obj (0x2501 + 16 * port) 5) tc then (toRaw s).getD s else s)
  else match (if bit (s.obj 0x2C00 3) 0 ∧ s.subportRuns port lane then s.netFrame port lane f else none) with
    | some n => s.netTake port lane f n
    | none => match s.timeClaims port lane f with
      | some o => s.timeTake port lane o f
      | none =>
      if bit (s.obj 0x2C00 3) 2 ∧ s.storageClaims port lane f then s
      else (toRaw s).getD (s.count (ethCtr port) 9 1)

/-- A class's received pause (R317). -/
def pauseClass (s : State) (port lane t quanta : Nat) : State :=
  let v := s.sub (4 * port + lane)
  s.setSub (4 * port + lane) { v with paused := v.paused.setNum t (if quanta = 0 then 0 else s.now + s.bitTime port (512 * quanta)) }

/-- A received PFC frame (R317). -/
def pfcTake (s : State) (port lane : Nat) (l : Link) (f : List Byte) : State :=
  (List.range 8).foldl
    (fun st t =>
      if bit (beAt f (l.body + 2) 2) t ∧ bit (s.obj (0x2501 + 16 * port) 6) t then st.pauseClass port lane t (beAt f (l.body + 4 + 2 * t) 2) else st)
    (s.count (ethCtr port) 0x0E 1)

/-- A destination that is neither the sub-port's MAC nor a group address: order 4 alone is offered the frame (R312). -/
def foreignDst (s : State) (port lane : Nat) (l : Link) : Bool := l.dst != s.portMac port lane && (nth 0 l.dst 0).toNat % 2 == 0

/-- Steering (R312) of a frame that holds its cells. -/
def steer (s : State) (port lane tc flags : Nat) (f : List Byte) : State :=
  let l := s.linkOf port f
  if s.foreignDst port lane l then s.clusterTake port lane tc flags f
  else if l.etype = 0x8808 then
    (if flags ≠ 0 then s
     else if beAt f l.body 2 = 0x0101 then s.pfcTake port lane l f
     else if beAt f l.body 2 = 1 then s.count (ethCtr port) 0x0C 1
     else s.count (ethCtr port) 9 1)
  else match s.hrtUdp port lane l f with
    | some u => s.hrtTake port lane tc flags u f
    | none => s.clusterTake port lane tc flags f

/-- What M0 does with a whole frame (R327): ARP, neighbour solicitation and echo are answered, Jorol and PTP are taken, and the
rest is discarded. -/
def steerM0 (s : State) (f : List Byte) : State :=
  let l := s.linkOf 8 f
  let jorol : Bool := match Udp.parse l f with
    | some u => u.dport == s.forced 0x2D00 1 && s.ownsIp 8 0 u.dst
    | none => false
  if l.etype = 0x8808 ∧ beAt f l.body 2 = 1 then s.count (ethCtr 8) 0x0C 1
  else match s.netFrame 8 0 f with
    | some n => s.netTake 8 0 f n
    | none => match s.timeClaims 8 0 f with
      | some o => s.timeTake 8 0 o f
      | none => if jorol then s else s.count (ethCtr 8) 9 1

/-- A frame arrives on a sub-port; `code` says that it held an uncorrectable codeword or an error control character. -/
def frameReceive (s : State) (port lane : Nat) (code : Bool) (f : List Byte) : State :=
  if (s.sub (4 * port + lane)).link ≠ .up then s
  else
    let c := ethCtr port
    let bad := code || !fcsOk f
    let long : Bool := s.maxFrame port < f.length
    let flags := bnat bad + 2 * bnat (f.length < 64) + 4 * bnat long + 8 * bnat code
    let s1 := ((((s.count c 1 1).count c 2 f.length).count c 5 (bnat bad)).count c 6 (bnat (f.length < 64))).count c 7 (bnat long)
    let kept := f.take (s.maxFrame port)
    if port = 8 then (if flags = 0 then s1.steerM0 f else s1)
    else
      let l := s.linkOf port kept
      let tc := s.classOf port kept
      match (if l.etype = 0x8808 then some s1 else s1.police port lane tc f.length) with
      | none => s1.count c 0x0B 1
      | some s2 =>
        if s.obj (0x2500 + 16 * port) 8 < s2.cellsHeldBy port + ceilDiv kept.length 256 then s2.count c 0x0A 1
        else s2.steer port lane tc flags kept

/-! Sending (R315) -/

/-- Requesters of a class with a frame ready, the rotating pointer's first. -/
def txHead (s : State) (v : SubPort) (tc : Nat) : Option (Nat × TxFrame) :=
  ((List.range 9).map fun k => (v.pointer.num tc + k) % 9).findSome? fun r =>
    match v.queue tc r with
    | f :: _ =>
      (match f.owner with
      | .raw q i =>
        let n := 2 ^ s.obj (rawObj q) 6
        (match (s.rawRange q (s.obj (rawObj q) 5 + 32 * n + 32 * (i % n)) 32 true).1 with
        | .wait => none
        | _ => some (r, f))
      | _ => some (r, f))
    | [] => none

/-- A frame that starts now ends no later than its gate's close (R319). -/
def fitsGate (s : State) (port tc len : Nat) : Option Nat :=
  if port = 8 then none
  else match s.gateClose port tc with
    | none => none
    | some t =>
      let rate := s.lineRate port
      if s.pw.time * rate + (len + 8) * 8 * 1000 * 2 ^ 32 ≤ t * 2 ^ 32 * rate then none else some t

/-- The bytes that leave for a one-step Sync (R325): originTimestamp and the UDP checksum. -/
def oneStep (s : State) (port stamp : Nat) (f : List Byte) : List Byte :=
  let l := s.linkOf port f
  match ptpAt l f true with
  | none => f
  | some (o, t) =>
    let g := overlay f (o + 34) (beBytes 6 (stamp / 10 ^ 9) ++ beBytes 4 (stamp % 10 ^ 9))
    if t = 2 then g
    else
      let n := beAt g (o - 4) 2
      let a := ipAddrs l g
      let udp := overlay (slice g (o - 8) n) 6 [0, 0]
      let c := 0xFFFF - udpSum (t == 1) a.1 a.2 udp
      overlay g (o - 2) (beBytes 2 (if c = 0 then 0xFFFF else c))

/-- The frame starts, and is never cut short: it takes its tokens, its requester's turn passes, and a raw descriptor completes. -/
def startFrame (s : State) (port lane tc r : Nat) (f : TxFrame) : State :=
  let k := 4 * port + lane
  let stamp := if (f.stamp || f.oneStep) && ptpEvent (s.linkOf port f.bytes) f.bytes then s.stampNow port true else 0
  let bytes := withFcs (if f.oneStep then s.oneStep port stamp f.bytes else f.bytes)
  let s1 := s.takeShaper port lane tc bytes.length
  let v := s1.sub k
  let s2 := s1.setSub k { v with
    queues := Sparse.set (fun _ => []) v.queues (16 * tc + r) ((v.queue tc r).drop 1), pointer := v.pointer.setNum tc ((r + 1) % 9),
    busyUntil := s.now + s.bitTime port ((bytes.length + 20) * 8) }
  let s3 := ((s2.emit (.frame port lane bytes)).count (ethCtr port) 3 1).count (ethCtr port) 4 bytes.length
  match f.owner with
  | .raw q i => s3.rawDone q i 0 (if f.stamp then stamp else 0) (s3.rawCookie q i)
  | _ => s3

/-- The highest-numbered eligible class sends (R315); a frame that its gate's guard band refuses is counted once for each close (R319). -/
def transmitFrom (s : State) (port lane : Nat) : Nat → State
  | 0 => s
  | n + 1 =>
    let k := 4 * port + lane
    let v := s.sub k
    match s.txHead v n with
    | none => s.transmitFrom port lane n
    | some (r, f) =>
      if s.now < v.paused.num n ∨ !bit (s.openGates port) n ∨ (port ≠ 8 ∧ s.shaperRate port n ≠ 0 ∧ s.shaperLevel port lane n < 0) then
        s.transmitFrom port lane n
      else match s.fitsGate port n (withFcs f.bytes).length with
        | none => s.startFrame port lane n r f
        | some t =>
          if f.held = t + 1 then s.transmitFrom port lane n
          else
            let q := { f with held := t + 1 } :: (v.queue n r).drop 1
            ((s.setSub k { v with queues := Sparse.set (fun _ => []) v.queues (16 * n + r) q }).count (ethCtr port) 0x10 1).transmitFrom port lane n

/-- Frames that are discarded before they start count in TX_DISCARDS; a raw queue's completes with FLUSHED (R308, R309; log 128). -/
def discardFrames (s : State) (port : Nat) (fs : List TxFrame) : State :=
  fs.foldl
    (fun st f => match f.owner with
      | .raw q i => st.rawDone q i 0x0D 0 (st.rawCookie q i)
      | _ => st) (s.count (ethCtr port) 0x0F fs.length)

/-- Frames that a MAX_FRAME lowered since they were offered no longer lets go (R309). -/
def dropLong (s : State) (port lane : Nat) : State :=
  let v := s.sub (4 * port + lane)
  let long (f : TxFrame) : Bool := decide (s.maxFrame port < max 60 f.bytes.length + 4)
  let out := (v.queues.flatMap (·.2)).filter long
  if out.isEmpty then s
  else
    (s.setSub (4 * port + lane) { v with
      queues := v.queues.foldl (fun m kv => Sparse.set (fun _ => []) m kv.1 (kv.2.filter fun f => !long f)) v.queues }).discardFrames port out

/-- A sub-port starts its next frame: a PFC frame first (R315). -/
def transmit (s : State) (port lane : Nat) : State :=
  let k := 4 * port + lane
  let v := s.sub k
  if v.link ≠ .up ∨ s.now < v.busyUntil then s
  else match v.pfcDue with
    | p :: rest =>
      let b := withFcs p
      (((((s.setSub k { v with pfcDue := rest, busyUntil := s.now + s.bitTime port ((b.length + 20) * 8) }).emit (.frame port lane b)).count
        (ethCtr port) 3 1).count (ethCtr port) 4 b.length).count (ethCtr port) 0x0D 1)
    | [] => (s.dropLong port lane).transmitFrom port lane 8

/-! Sub-port states (R308) -/

/-- A sub-port leaves UP: its queued frames are discarded, raw ones with FLUSHED, and its pauses end. -/
def leaveUp (s : State) (port lane : Nat) (next : LinkState) : State :=
  let k := 4 * port + lane
  let v := s.sub k
  let frames := v.queues.flatMap (·.2)
  (s.setSub k { v with link := next, queues := [], paused := [], off := 0, xoffAt := [], pfcDue := [] }).discardFrames port frames

/-- The number and kind that a port's events carry. -/
def subEvent (s : State) (code port lane : Nat) : State := if port = 8 then s.portEvent code 2 0 0 else s.portEvent code 0 port lane

/-- A sub-port that was UP goes DOWN or is disabled, with PORT_DOWN. -/
def dropSub (s : State) (port lane : Nat) (next : LinkState) : State :=
  if (s.sub (4 * port + lane)).link = .up then (s.leaveUp port lane next).subEvent 1 port lane
  else
    let v := s.sub (4 * port + lane)
    s.setSub (4 * port + lane) { v with link := next }

/-- The LINK_ENABLE object of a port. -/
def ethLinkOn (s : State) (port : Nat) : Nat := if port = 8 then s.obj 0x2580 1 else s.obj (0x2500 + 16 * port) 1

/-- Sub-ports of an enabled port that run and are DISABLED begin to train. -/
def trainPort (s : State) (port : Nat) : State :=
  if s.ethLinkOn port = 0 then s
  else
    (List.range 4).foldl
      (fun st lane =>
        let v := st.sub (4 * port + lane)
        if st.subportRuns port lane ∧ v.link = .disabled then st.setSub (4 * port + lane) { v with link := .training } else st) s

/-- A write of LINK_ENABLE. -/
def ethEnable (s : State) (port value : Nat) : State :=
  let s1 := if port = 8 then s.putObj 0x2580 1 0 value else s.putObj (0x2500 + 16 * port) 1 0 value
  if value = 0 then
    -- What its codewords have counted until now is a free amount (R326, log 118).
    let live : Bool := port < 8 && (List.range 4).any fun l => (s1.sub (4 * port + l)).link != .disabled
    let s2 := if live then (s1.riseNow (ethCtr port) 0x11).riseNow (ethCtr port) 0x12 else s1
    (List.range 4).foldl (fun st lane => st.dropSub port lane .disabled) s2
  else s1.trainPort port

/-! Gate lists (R320) -/

/-- The checks of CONFIG_CHANGE. -/
def gateOk (s : State) (port : Nat) : Bool :=
  let r := 0x2610 + port
  let bs := s.blob r 5
  s.obj r 2 % 10 == 0 && 1 ≤ s.obj r 4 && s.obj r 4 ≤ 256 &&
  (List.range (s.obj r 4)).all fun i => leAt bs (8 * i + 1) 3 == 0 && leAt bs (8 * i + 4) 4 != 0

/-- A write of 1 to CONFIG_CHANGE; none where it is rejected. -/
def configChange (s : State) (port : Nat) : Option State :=
  let r := 0x2610 + port
  if !s.gateOk port then none
  else
    let base := s.obj r 2
    let early := s.deviceTime + 1000000
    let cyc := s.obj r 3 * 10
    let t := if early ≤ base then base else base + ceilDiv (early - base) cyc * cyc
    some ((s.setObj r 7 0 1).setObj r 8 0 t)

/-- At T the administrative values become the operating values. -/
def gateApply (s : State) (port : Nat) : State :=
  let r := 0x2610 + port
  if s.obj r 7 = 0 ∨ s.deviceTime < s.obj r 8 then s
  else
    let s1 := ((((s.setObj r 9 0 (s.obj r 2)).setObj r 0x0A 0 (s.obj r 3)).setObj r 0x0B 0 (s.obj r 4)).setBlob r 0x0C 0 (s.blob r 5)).setObj r 7 0 0
    { s1 with eth := { s1.eth with gateOn := s1.eth.gateOn.setNum port (s.obj r 1) } }

end State

/-! The commands -/

def execFrameReceive (port lane : Nat) (frame : List Byte) (code : Bool) (s : State) : Host.Outcome State Fault Refusal :=
  s.live (s.frameReceive port lane code frame)

/-- A PFC frame, whole, on a data port: it is received as any frame is, and order 1 of R312 takes it. -/
def execPfcReceive (port lane : Nat) (frame : List Byte) (s : State) : Host.Outcome State Fault Refusal :=
  let l := s.linkOf port frame
  s.live (if port < 8 ∧ l.etype = 0x8808 ∧ beAt frame l.body 2 = 0x0101 then s.frameReceive port lane false frame else s)

def execPfcPauseExpiry (port lane cls : Nat) (s : State) : Host.Outcome State Fault Refusal :=
  let v := s.sub (4 * port + lane)
  s.live (if v.paused.num cls ≤ s.now then s.setSub (4 * port + lane) { v with paused := v.paused.setNum cls 0 } else s)

/-- The repeat of an XOFF, for every class that is off; a class whose PFC_ENABLE bit has gone is off no longer. -/
def execPfcRepeat (port lane cls : Nat) (s : State) : Host.Outcome State Fault Refusal :=
  let k := 4 * port + lane
  let v := s.sub k
  s.live (if v.link ≠ .up ∨ !bit v.off cls ∨ 8 ≤ cls then s
    else if !bit (s.obj (0x2501 + 16 * port) 6) cls then s.setSub k { v with off := v.off - 2 ^ cls }
    else if s.now < v.xoffAt.num cls + s.bitTime port (512 * 32768) then s
    else s.setSub k { v with xoffAt := v.xoffAt.setNum cls s.now, pfcDue := v.pfcDue ++ [s.pfcFrame port lane v.off 0xFFFF] })

def execFrameTransmit (port lane : Nat) (s : State) : Host.Outcome State Fault Refusal := s.live (s.transmit port lane)

/-- A sub-port in training reaches UP. -/
def execSubportUp (port lane : Nat) (s : State) : Host.Outcome State Fault Refusal :=
  let k := 4 * port + lane
  let v := s.sub k
  s.live (if v.link ≠ .training ∨ !s.subportRuns port lane then s
    else
      let s1 := (s.setSub k { v with link := .up, busyUntil := s.now }).subEvent 2 port lane
      let s2 := if port = 8 ∨ bit (s1.obj 0x2C00 3) 0 then s1.announce port lane else s1
      if port = 8 then s2 else s2.pfcTick port)

/-- An UP sub-port goes DOWN, and enters TRAINING again at once. -/
def State.subDown (s : State) (port lane : Nat) : State :=
  ((s.dropSub port lane .training).count (State.ethCtr port) 0x13 1).raiseSource 11

def execSubportDown (port lane : Nat) (s : State) : Host.Outcome State Fault Refusal :=
  s.live (if (s.sub (4 * port + lane)).link ≠ .up then s else s.subDown port lane)

/-- Corrected codewords have reached DEGRADE_LEVEL: PORT_DEGRADED, at most once per window of 1 s; FEC_CORRECTED has counted as many
in it. -/
def execSubportDegraded (port lane : Nat) (s : State) : Host.Outcome State Fault Refusal :=
  let k := 4 * port + lane
  let v := s.sub k
  let w := s.now / 1000000000000
  s.live (if v.link ≠ .up ∨ v.degraded = w + 1 then s
    else
      let s1 := if port = 8 then s else s.countSince (State.ethCtr port) 0x11 (s.obj (0x2500 + 16 * port) 0x0A) (w * 1000000000000)
      (s1.setSub k { v with degraded := w + 1 }).subEvent 3 port lane)

def execEthLinkEnableWrite (port value : Nat) (s : State) : Host.Outcome State Fault Refusal :=
  s.liveLedger (if 1 < value ∨ 8 < port then s else s.ethEnable port value)

/-- The gates as the operating list has them now. -/
def execGateEntryChange (port lane : Nat) (s : State) : Host.Outcome State Fault Refusal :=
  let v := s.sub (4 * port + lane)
  s.live (s.setSub (4 * port + lane) { v with gates := s.openGates port })

/-- The list is the port's; the lane names no part of it. -/
def execConfigChange (port _lane : Nat) (s : State) : Host.Outcome State Fault Refusal := s.liveLedger ((s.configChange port).getD s)

def execGateConfigApply (port _lane : Nat) (s : State) : Host.Outcome State Fault Refusal := s.live (s.gateApply port)

end Sys2Proof.Machine
end

