-- ==== Sys2Proof/Machine/Float.lean ====
section
/-! DEFINITION. Machine/Float.lean: exact dyadic values, one rounding function for every floating encoding of R34,
the correctly rounded FP32 operations of R47 and R69 (add, multiply, fused multiply-add, square root, reciprocal,
reciprocal square root), and the order of R47. -/

namespace Sys2Proof.Machine

/-- A floating-point datum: the one NaN (R37: payloads and signs are dropped), an infinity, or ± m × 2^e exactly. -/
inductive Fp where
  | nan
  | inf (neg : Bool)
  | fin (neg : Bool) (m : Nat) (e : Int)
  deriving DecidableEq, Repr

/-- A floating-point encoding of R34: exponent bits, mantissa bits, bias, the largest finite code, and which codes
above it are infinity and NaN (none where the encoding has none). -/
structure FpFormat where
  ebits : Nat
  mbits : Nat
  bias : Nat
  maxCode : Nat
  infCode : Option Nat
  nanCode : Option Nat
  deriving DecidableEq, Repr

def fp32 : FpFormat := ⟨8, 23, 127, 0x7F7FFFFF, some 0x7F800000, some 0x7FC00000⟩
def fmtBf16 : FpFormat := ⟨8, 7, 127, 0x7F7F, some 0x7F80, some 0x7FC0⟩
def fmtFp16 : FpFormat := ⟨5, 10, 15, 0x7BFF, some 0x7C00, some 0x7E00⟩
def fmtE4M3 : FpFormat := ⟨4, 3, 7, 0x7E, none, some 0x7F⟩
def fmtE5M2 : FpFormat := ⟨5, 2, 15, 0x7B, some 0x7C, some 0x7E⟩
def fmtE3M2 : FpFormat := ⟨3, 2, 3, 0x1F, none, none⟩
def fmtE2M3 : FpFormat := ⟨2, 3, 1, 0x1F, none, none⟩
def fmtE2M1 : FpFormat := ⟨2, 1, 1, 0x7, none, none⟩

/-- The exponent of the least subnormal of an encoding. -/
def FpFormat.qmin (f : FpFormat) : Int := 1 - (f.bias : Int) - (f.mbits : Int)

/-- The sign bit's weight in an encoding. -/
def FpFormat.signBit (f : FpFormat) : Nat := 2 ^ (f.ebits + f.mbits)

/-- The value that a code denotes (R34, R36: subnormals are honoured). -/
def FpFormat.decode (f : FpFormat) (code : Nat) : Fp :=
  let neg := bit code (f.ebits + f.mbits)
  let c := code % f.signBit
  if c ≤ f.maxCode then
    let e := c / 2 ^ f.mbits
    let fr := c % 2 ^ f.mbits
    if e = 0 then .fin neg fr f.qmin
    else .fin neg (fr + 2 ^ f.mbits) (f.qmin + (e - 1 : Nat))
  else if f.infCode = some c then .inf neg
  else .nan

/-- Round m × 2^e (plus a sticky amount strictly between 0 and one unit of m) to the grid of `mb` mantissa bits whose
least quantum is 2^qmin, to nearest with ties to even. The result is the magnitude's code on an exponent range
without upper bound (R49, R69): consecutive grid points have consecutive codes. -/
def roundCode (mb : Nat) (qmin : Int) (m : Nat) (e : Int) (sticky : Bool) : Nat :=
  let q : Int := max ((m.log2 : Int) + e - (mb : Int)) qmin
  let mant : Nat :=
    if q ≤ e then m * 2 ^ (e - q).toNat
    else
      let k := (q - e).toNat
      let t := m / 2 ^ k
      let r := m % 2 ^ k
      let h := 2 ^ (k - 1)
      if h < r ∨ (r = h ∧ (sticky ∨ t % 2 = 1)) then t + 1 else t
  (q - qmin).toNat * 2 ^ mb + mant

/-- What becomes of a finite magnitude beyond the largest finite value, and of an infinity (R49): to infinity, or to the
largest finite value. -/
inductive Overflow where
  | toInf
  | saturate
  deriving DecidableEq, Repr

/-- The code of an exact value in an encoding under R42 or R49. `infSat` says that an infinity saturates too (E4M3). -/
def FpFormat.encode (f : FpFormat) (ov : Overflow) (x : Fp) (sticky : Bool := false) : Nat :=
  let sgn (neg : Bool) := if neg then f.signBit else 0
  match x with
  | .nan => f.nanCode.getD 0
  | .inf neg => sgn neg + f.infCode.getD f.maxCode
  | .fin neg m e =>
    let c := if m = 0 then 0 else roundCode f.mbits f.qmin m e sticky
    if c ≤ f.maxCode then sgn neg + c
    else match ov with
      | .toInf => sgn neg + f.infCode.getD f.maxCode
      | .saturate => sgn neg + f.maxCode

/-- An encoding saturates when a finite magnitude exceeds its largest finite value in absolute terms (R49): whether this
conversion did. An infinity that a format without one maps to its largest value counts with them: R79 counts the elements saturated under
R49 to R51, which say so of no infinity (DESIGN CHOICE, log 132). -/
def FpFormat.saturates (f : FpFormat) (x : Fp) : Bool :=
  match x with
  | .fin _ m e => m ≠ 0 && f.maxCode < roundCode f.mbits f.qmin m e false
  | .inf _ => f.infCode.isNone
  | .nan => false

/-- The FP32 code of an exact value, rounded once (R42). -/
def toF32 (x : Fp) (sticky : Bool := false) : Nat := fp32.encode .toInf x sticky

/-- The datum of an FP32 code. -/
def ofF32 (c : Nat) : Fp := fp32.decode c

/-- `round_fp32` on data (R42): the rounded value as a datum. -/
def round32 (x : Fp) : Fp := ofF32 (toF32 x)

namespace Fp

def zero : Fp := .fin false 0 0
def one : Fp := .fin false 1 0

def isNan : Fp → Bool
  | .nan => true
  | _ => false

def isInf : Fp → Bool
  | .inf _ => true
  | _ => false

def isFinite : Fp → Bool
  | .fin _ _ _ => true
  | _ => false

def isZero : Fp → Bool
  | .fin _ m _ => m == 0
  | _ => false

def neg : Fp → Fp
  | .nan => .nan
  | .inf n => .inf (!n)
  | .fin n m e => .fin (!n) m e

def isNeg : Fp → Bool
  | .nan => false
  | .inf n => n
  | .fin n _ _ => n

/-- The exact integer m' with x = m' × 2^e, for e at or below x's own exponent. -/
def scaledInt (neg : Bool) (m : Nat) (e base : Int) : Int :=
  let v : Int := (m * 2 ^ (e - base).toNat : Nat)
  if neg then -v else v

/-- An exact integer times a power of two as a datum; +0 for 0. -/
def ofInt (i : Int) (e : Int) : Fp := .fin (i < 0) i.natAbs e

/-- The exact sum (R43: +0.0 plus −0.0 and exact cancellation give +0.0; −0.0 plus −0.0 is −0.0). -/
def addExact (a b : Fp) : Fp :=
  match a, b with
  | .nan, _ => .nan
  | _, .nan => .nan
  | .inf n, .inf k => if n == k then .inf n else .nan
  | .inf n, _ => .inf n
  | _, .inf n => .inf n
  | .fin n m e, .fin k p f =>
    let base := min e f
    let s := scaledInt n m e base + scaledInt k p f base
    if s = 0 then .fin (n && k && m == 0 && p == 0) 0 0 else ofInt s base

/-- The exact product; infinity × 0 is NaN. -/
def mulExact (a b : Fp) : Fp :=
  match a, b with
  | .nan, _ => .nan
  | _, .nan => .nan
  | .inf n, .inf k => .inf (n != k)
  | .inf n, .fin k p _ => if p = 0 then .nan else .inf (n != k)
  | .fin k p _, .inf n => if p = 0 then .nan else .inf (n != k)
  | .fin n m e, .fin k p f => .fin (n != k) (m * p) (e + f)

end Fp

/-- FP32 addition, subtraction, multiplication and fused multiply-add on data (R47). -/
def fadd (a b : Fp) : Fp := round32 (a.addExact b)
def fsub (a b : Fp) : Fp := round32 (a.addExact b.neg)
def fmul (a b : Fp) : Fp := round32 (a.mulExact b)
def ffma (a b c : Fp) : Fp := round32 ((a.mulExact b).addExact c)

/-- Comparison of two finite or infinite data by value, −0.0 below +0.0 (R47). NaN is handled by the callers. -/
def fltOrd (a b : Fp) : Bool :=
  match a, b with
  | .nan, _ => false
  | _, .nan => true
  | .inf n, .inf k => n && !k
  | .inf n, _ => n
  | _, .inf k => !k
  | .fin n m e, .fin k p f =>
    let base := min e f
    let x := Fp.scaledInt n m e base
    let y := Fp.scaledInt k p f base
    if x = y then (x == 0 && n && !k) else x < y

/-- IEEE "greater than" on data: false when either is NaN, and zeros are equal. -/
def fgt (a b : Fp) : Bool :=
  match a, b with
  | .nan, _ => false
  | _, .nan => false
  | .fin _ 0 _, .fin _ 0 _ => false
  | x, y => fltOrd y x

/-- IEEE "at least" on data: false when either is NaN. -/
def fge (a b : Fp) : Bool :=
  match a, b with
  | .nan, _ => false
  | _, .nan => false
  | .fin _ 0 _, .fin _ 0 _ => true
  | x, y => !fltOrd x y

/-- MAX and MIN of R47: NaN if either operand is NaN. -/
def fmax (a b : Fp) : Fp := if a.isNan || b.isNan then .nan else if fltOrd a b then b else a
def fmin (a b : Fp) : Fp := if a.isNan || b.isNan then .nan else if fltOrd b a then b else a

/-- The integer square root, found bit by bit from bit n − 1 downwards. -/
def isqrtBits : Nat → Nat → Nat → Nat
  | 0, _, r => r
  | n + 1, x, r =>
    let t := r + 2 ^ n
    isqrtBits n x (if t * t ≤ x then t else r)

/-- The integer square root. -/
def isqrt (x : Nat) : Nat := isqrtBits (x.log2 / 2 + 1) x 0

/-- Square root, correctly rounded (R69, R70). -/
def fsqrt : Fp → Fp
  | .nan => .nan
  | .inf n => if n then .nan else .inf false
  | .fin n m e =>
    if m = 0 then .fin n 0 0 else if n then .nan
    else
      let k : Int := 64 + e % 2
      let x := m * 2 ^ k.toNat
      let r := isqrt x
      ofF32 (toF32 (.fin false r ((e - k) / 2)) (r * r != x))

/-- Reciprocal, correctly rounded (R69, R70). -/
def frcp : Fp → Fp
  | .nan => .nan
  | .inf n => .fin n 0 0
  | .fin n m e =>
    if m = 0 then .inf n
    else
      let k := m.log2 + 40
      ofF32 (toF32 (.fin n (2 ^ k / m) (-e - (k : Int))) (2 ^ k % m != 0))

/-- Reciprocal square root, correctly rounded (R69, R70): the root of 2^2t ÷ m, with m of even exponent. -/
def frsqrt : Fp → Fp
  | .nan => .nan
  | .inf n => if n then .nan else .fin false 0 0
  | .fin n m e =>
    if m = 0 then .inf n else if n then .nan
    else
      let m' := if e % 2 = 0 then m else 2 * m
      let e' := if e % 2 = 0 then e else e - 1
      let t := m'.log2 / 2 + 40
      let r := isqrt (2 ^ (2 * t) / m')
      ofF32 (toF32 (.fin false r (-(e' / 2) - (t : Int))) (r * r * m' != 2 ^ (2 * t)))

/-- The nearest integer to a finite datum, ties to even (R50). -/
def roundInt : Fp → Int
  | .fin n m e =>
    let v : Nat :=
      if 0 ≤ e then m * 2 ^ e.toNat
      else
        let k := (-e).toNat
        let t := m / 2 ^ k
        let r := m % 2 ^ k
        if 2 ^ (k - 1) < r ∨ (r = 2 ^ (k - 1) ∧ t % 2 = 1) then t + 1 else t
    if n then -(v : Int) else v
  | _ => 0

/-- Clamp an integer to [lo, hi]. -/
def clampInt (lo hi x : Int) : Int := max lo (min hi x)

end Sys2Proof.Machine
end

