-- ==== Sys2Proof/Machine/MathFn.lean ====
section
/-! DEFINITION. Machine/MathFn.lean: the correctly rounded functions of R69 with the special values of R70.
Each is computed as an interval of integers at scale 2^P that encloses the exact value; when both ends round to one
FP32 code, that code is the correctly rounded result. P is 384, then 768, then 1536. -/

namespace Sys2Proof.Machine

/-- An interval [lo, hi] ÷ 2^P. -/
structure Iv where
  lo : Int
  hi : Int
  deriving DecidableEq, Repr

namespace Iv

/-- Floor and ceiling of a quotient by a positive integer. -/
def fl (a : Int) (b : Nat) : Int := a / (b : Int)
def cl (a : Int) (b : Nat) : Int := -((-a) / (b : Int))

def add (a b : Iv) : Iv := ⟨a.lo + b.lo, a.hi + b.hi⟩
def neg (a : Iv) : Iv := ⟨-a.hi, -a.lo⟩
def sub (a b : Iv) : Iv := a.add b.neg

def mul (P : Nat) (a b : Iv) : Iv :=
  let p := a.lo * b.lo
  let q := a.lo * b.hi
  let r := a.hi * b.lo
  let s := a.hi * b.hi
  ⟨fl (min (min p q) (min r s)) (2 ^ P), cl (max (max p q) (max r s)) (2 ^ P)⟩

def divNat (a : Iv) (n : Nat) : Iv := ⟨fl a.lo n, cl a.hi n⟩
def mulNat (a : Iv) (n : Nat) : Iv := ⟨a.lo * n, a.hi * n⟩

/-- The reciprocal of an interval of positive numbers. -/
def inv (P : Nat) (a : Iv) : Iv := ⟨fl (2 ^ (2 * P)) a.hi.toNat, cl (2 ^ (2 * P)) a.lo.toNat⟩

def ofNat (P n : Nat) : Iv := ⟨n * 2 ^ P, n * 2 ^ P⟩

/-- The square root of an interval of non-negative numbers. -/
def sqrt (P : Nat) (a : Iv) : Iv :=
  ⟨isqrt (a.lo.toNat * 2 ^ P), (isqrt (a.hi.toNat * 2 ^ P) : Int) + 1⟩

/-- Square k times. -/
def squares (P : Nat) : Nat → Iv → Iv
  | 0, a => a
  | k + 1, a => squares P k (a.mul P a)

/-- Sum of y^k ÷ k! from the k-th term on, for n terms. -/
def expTerms (P : Nat) (y : Iv) : Nat → Nat → Iv → Iv → Iv
  | 0, _, _, acc => acc
  | n + 1, k, t, acc =>
    let t' := (t.mul P y).divNat k
    expTerms P y n (k + 1) t' (acc.add t')

/-- e^x for |x| below 2^8: the series at x ÷ 2^9 (less than one half), squared nine times. The series stops after
P ÷ 4 terms, whose remainder is below one unit. -/
def exp (P : Nat) (x : Iv) : Iv :=
  let y := x.divNat 512
  let s := expTerms P y (P / 4) 1 (ofNat P 1) (ofNat P 1)
  squares P 9 ⟨s.lo - 1, s.hi + 1⟩

/-- Sum of z^(2k+1) ÷ (2k+1), with sign alternation when `alt`. -/
def atanTerms (P : Nat) (alt : Bool) (z2 : Iv) : Nat → Nat → Iv → Iv → Iv
  | 0, _, _, acc => acc
  | n + 1, k, t, acc =>
    let t' := t.mul P z2
    let u := t'.divNat (2 * k + 1)
    atanTerms P alt z2 n (k + 1) t' (if alt && k % 2 == 1 then acc.sub u else acc.add u)

/-- atanh z for 0 ≤ z ≤ 1/3: P ÷ 2 terms leave a remainder below one unit. -/
def atanh (P : Nat) (z : Iv) : Iv :=
  let s := atanTerms P false (z.mul P z) (P / 2) 1 z z
  ⟨s.lo - 1, s.hi + 1⟩

/-- arctan (1/n), n at least 5. -/
def atanInv (P n : Nat) : Iv :=
  let z := (ofNat P 1).divNat n
  let s := atanTerms P true (z.mul P z) (P / 2) 1 z z
  ⟨s.lo - 1, s.hi + 1⟩

/-- ln 2 = 2 atanh (1/3). -/
def ln2 (P : Nat) : Iv := (atanh P ((ofNat P 1).divNat 3)).mulNat 2

/-- π = 16 arctan (1/5) − 4 arctan (1/239). -/
def pi (P : Nat) : Iv := ((atanInv P 5).mulNat 16).sub ((atanInv P 239).mulNat 4)

/-- ln f for 1 ≤ f < 2, f = n ÷ 2^P. -/
def lnFrac (P : Nat) (f : Nat) : Iv :=
  let one : Nat := 2 ^ P
  let num : Int := (f - one : Nat)
  let z : Iv := ⟨fl (num * 2 ^ P) (f + one), cl (num * 2 ^ P) (f + one)⟩
  (atanh P z).mulNat 2

/-- Sum of x^(2k+1) ÷ (2k+1)!! for n terms. -/
def phiTerms (P : Nat) (x2 : Iv) : Nat → Nat → Iv → Iv → Iv × Iv
  | 0, _, t, acc => (t, acc)
  | n + 1, k, t, acc =>
    let t' := (t.mul P x2).divNat (2 * k + 1)
    phiTerms P x2 n (k + 1) t' (acc.add t')

/-- 1/2 plus or minus φ(x) Σ x^(2k+1)/(2k+1)!!, the normal distribution function at ±x, for 0 ≤ x ≤ 16. After 2P terms
the remainder is below the last term. -/
def phi (P : Nat) (x : Iv) (negative : Bool) : Iv :=
  let x2 := x.mul P x
  let d := phiTerms P x2 (2 * P) 1 x x
  let s : Iv := ⟨d.2.lo, d.2.hi + d.1.hi + 1⟩
  let dens := (exp P (x2.divNat 2).neg).mul P (inv P (sqrt P ((pi P).mulNat 2)))
  let h := (ofNat P 1).divNat 2
  let u := dens.mul P s
  if negative then h.sub u else h.add u

/-- Both ends of a positive interval round to one FP32 code. -/
def toCode? (P : Nat) (a : Iv) : Option Nat :=
  let c (v : Int) := roundCode 23 (-149) v.toNat (-(P : Int)) true
  let lo := if a.lo ≤ 0 then 0 else roundCode 23 (-149) a.lo.toNat (-(P : Int)) false
  if lo = c a.hi then some lo else none

end Iv

/-- The first precision at which the interval decides the rounding. -/
def decideRounding (f : Nat → Iv) : List Nat → Nat
  | [] => 0
  | P :: rest => ((f P).toCode? P).getD (decideRounding f rest)

/-- The FP32 datum of the positive real that `f` encloses, with a sign. -/
def roundReal (neg : Bool) (f : Nat → Iv) : Fp :=
  let c := decideRounding f [384, 768, 1536]
  ofF32 ((if neg then fp32.signBit else 0) + min c 0x7F800000)

/-- m × 2^e at scale 2^P, exactly for e ≥ −P. -/
def atScale (P m : Nat) (e : Int) : Int := (m * 2 ^ ((P : Int) + e).toNat : Nat)

/-- The interval of one exact magnitude. -/
def ivOf (P m : Nat) (e : Int) : Iv := ⟨atScale P m e, atScale P m e⟩

/-- |x| ≥ 2^k for x = m × 2^e, m ≠ 0. -/
def magGe (m : Nat) (e k : Int) : Bool := k ≤ (m.log2 : Int) + e

/-- The FP32 rounding of a value just above (or just below) m × 2^e in magnitude, by less than one part in 2^39. -/
def nudge (neg : Bool) (m : Nat) (e : Int) (above : Bool) : Fp :=
  let m' := m * 2 ^ 64
  ofF32 (toF32 (.fin neg (if above then m' else m' - 1) (e - 64)) true)

/-- EXP (R69, R70). -/
def fexp : Fp → Fp
  | .nan => .nan
  | .inf n => if n then Fp.zero else .inf false
  | .fin n m e =>
    if m = 0 then Fp.one
    else if magGe m e 7 then (if n then Fp.zero else .inf false)
    else if !magGe m e (-40) then Fp.one
    else roundReal false fun P => Iv.exp P (if n then (ivOf P m e).neg else ivOf P m e)

/-- EXP2 (R69, R70): 2^x is exact for an integer x. -/
def fexp2 : Fp → Fp
  | .nan => .nan
  | .inf n => if n then Fp.zero else .inf false
  | .fin n m e =>
    if m = 0 then Fp.one
    else if magGe m e 8 then (if n then Fp.zero else .inf false)
    else if !magGe m e (-40) then Fp.one
    else
      let v (P : Nat) : Int := if n then -(atScale P m e) else atScale P m e
      let k : Int := v 256 / 2 ^ 256
      let fr (P : Nat) : Int := v P - k * 2 ^ P
      if fr 256 = 0 then round32 (.fin false 1 k)
      else
        roundReal false fun P =>
          let r := Iv.exp P ((⟨fr P, fr P⟩ : Iv).mul P (Iv.ln2 P))
          if 0 ≤ k then ⟨r.lo * 2 ^ k.toNat, r.hi * 2 ^ k.toNat⟩ else r.divNat (2 ^ (-k).toNat)

/-- ln x ÷ ln b or ln x as a signed interval: k ln 2 + ln f with x = f × 2^k. -/
def lnIv (P m : Nat) (e : Int) : Iv :=
  let k : Int := (m.log2 : Int) + e
  let f := m * 2 ^ (P - m.log2)
  let l2 := Iv.ln2 P
  let kl : Iv := if 0 ≤ k then ⟨l2.lo * k, l2.hi * k⟩ else ⟨l2.hi * k, l2.lo * k⟩
  kl.add (Iv.lnFrac P f)

/-- The sign-and-magnitude rounding of a non-zero signed interval. -/
def roundSigned (neg : Bool) (f : Nat → Iv) : Fp :=
  roundReal neg fun P => if neg then (f P).neg else f P

/-- LOG and LOG2 (R69, R70). -/
def flog (base2 : Bool) : Fp → Fp
  | .nan => .nan
  | .inf n => if n then .nan else .inf false
  | .fin n m e =>
    if m = 0 then .inf true
    else if n then .nan
    else
      let k : Int := (m.log2 : Int) + e
      if m = 2 ^ m.log2 ∧ (base2 ∨ k = 0) then round32 (Fp.ofInt k 0)
      else
        let below := k < 0
        roundSigned below fun P =>
          let l := lnIv P m e
          if base2 then l.mul P (Iv.inv P (Iv.ln2 P)) else l

/-- 1 ÷ (1 + e^−x) for a signed interval x within ±2^8. -/
def sigmoidIv (P : Nat) (x : Iv) : Iv := Iv.inv P ((Iv.ofNat P 1).add (Iv.exp P x.neg))

/-- TANH (R69, R70). -/
def ftanh : Fp → Fp
  | .nan => .nan
  | .inf n => .fin n 1 0
  | .fin n m e =>
    if m = 0 then .fin n 0 0
    else if magGe m e 5 then .fin n 1 0
    else if !magGe m e (-40) then nudge n m e false
    else
      roundReal n fun P =>
        let u := Iv.exp P ((ivOf P m e).mulNat 2).neg
        ((Iv.ofNat P 1).sub u).mul P (Iv.inv P ((Iv.ofNat P 1).add u))

/-- SIGMOID (R69, R70). -/
def fsigmoid : Fp → Fp
  | .nan => .nan
  | .inf n => if n then Fp.zero else Fp.one
  | .fin n m e =>
    if m = 0 ∨ !magGe m e (-40) then .fin false 1 (-1)
    else if magGe m e 7 then (if n then Fp.zero else Fp.one)
    else roundReal false fun P => sigmoidIv P (if n then (ivOf P m e).neg else ivOf P m e)

/-- x × sigmoid(z(x)) with its cut-offs: SILU, and GELU_TANH with z = 2w (R69, R70). Below 2^−40 the result lies just
beside x ÷ 2; at or above 2^cut it lies just below x, or below half the least subnormal for a negative x. -/
def gated (cut : Int) (z : Nat → Iv → Iv) : Fp → Fp
  | .nan => .nan
  | .inf n => if n then .fin true 0 0 else .inf false
  | .fin n m e =>
    if m = 0 then .fin n 0 0
    else if !magGe m e (-40) then nudge n m (e - 1) (!n)
    else if magGe m e cut then (if n then .fin true 0 0 else round32 (.fin false m e))
    else
      roundReal n fun P =>
        let x := ivOf P m e
        let zx := z P x
        x.mul P (sigmoidIv P (if n then zx.neg else zx))

/-- SILU. -/
def fsilu (x : Fp) : Fp := gated 7 (fun _ v => v) x

/-- 2w = 2 √(2/π) (x + 0.044715 x³), for a non-negative x. -/
def geluArg (P : Nat) (x : Iv) : Iv :=
  let x3 := (x.mul P x).mul P x
  let inner := x.add ((x3.mulNat 44715).divNat 1000000)
  let c := Iv.sqrt P ((Iv.inv P (Iv.pi P)).mulNat 2)
  (c.mul P inner).mulNat 2

/-- GELU_TANH = x sigmoid(2w), since (1 + tanh w) ÷ 2 = sigmoid(2w). At |x| = 2^3.5 the gate is already decided, and 2w
stays below 2^8 there; the cut stands at 12. -/
def fgeluTanh : Fp → Fp
  | .fin n m e =>
    if m ≠ 0 ∧ magGe m e 3 ∧ 12 * 2 ^ 160 ≤ atScale 160 m e then (if n then .fin true 0 0 else round32 (.fin false m e))
    else gated 7 geluArg (.fin n m e)
  | x => gated 7 geluArg x

/-- GELU_ERF = x Φ(x). -/
def fgeluErf : Fp → Fp
  | .nan => .nan
  | .inf n => if n then .fin true 0 0 else .inf false
  | .fin n m e =>
    if m = 0 then .fin n 0 0
    else if !magGe m e (-40) then nudge n m (e - 1) (!n)
    else if magGe m e 4 then (if n then .fin true 0 0 else round32 (.fin false m e))
    else roundReal n fun P => (ivOf P m e).mul P (Iv.phi P (ivOf P m e) n)

end Sys2Proof.Machine
end

