-- ==== Sys2Proof/Machine/Formats.lean ====
section
/-! DEFINITION. Machine/Formats.lean: "Number formats and arithmetic". Format codes (R28), packing (R29), block scales
(R31), element encodings (R32–R35), integer images and block values (R40–R42), accumulation (R43–R46), conversions
(R49, R50), QUANT (R51), widening (R52), and Philox-4x32-10 (R109). -/

namespace Sys2Proof.Machine

/-- The formats of R28. -/
inductive Fmt where
  | fp32 | bf16 | fp16 | e4m3 | e5m2 | int8 | int4 | q2 | mxe4m3 | mxe5m2 | mxe2m3 | mxe3m2 | mxfp4 | mxint8 | mxint4
  | int32 | u32
  deriving DecidableEq, Repr

/-- The format a 5-bit code names; none for a reserved code (R28). -/
def Fmt.ofCode : Nat → Option Fmt
  | 0x00 => some .fp32
  | 0x01 => some .bf16
  | 0x02 => some .fp16
  | 0x03 => some .e4m3
  | 0x04 => some .e5m2
  | 0x05 => some .int8
  | 0x06 => some .int4
  | 0x07 => some .q2
  | 0x08 => some .mxe4m3
  | 0x09 => some .mxe5m2
  | 0x0A => some .mxe2m3
  | 0x0B => some .mxe3m2
  | 0x0C => some .mxfp4
  | 0x0D => some .mxint8
  | 0x0E => some .mxint4
  | 0x0F => some .int32
  | 0x10 => some .u32
  | _ => none

/-- Element bits (R28). -/
def Fmt.width : Fmt → Nat
  | .fp32 | .int32 | .u32 => 32
  | .bf16 | .fp16 => 16
  | .e4m3 | .e5m2 | .int8 | .mxe4m3 | .mxe5m2 | .mxint8 => 8
  | .mxe2m3 | .mxe3m2 => 6
  | .int4 | .mxfp4 | .mxint4 => 4
  | .q2 => 2

/-- The formats with a block scale (R28). -/
def Fmt.blocked : Fmt → Bool
  | .q2 | .mxe4m3 | .mxe5m2 | .mxe2m3 | .mxe3m2 | .mxfp4 | .mxint8 | .mxint4 => true
  | _ => false

/-- The floating element encoding of a format, if it has one (R34). -/
def Fmt.enc : Fmt → Option FpFormat
  | .fp32 => some Sys2Proof.Machine.fp32
  | .bf16 => some fmtBf16
  | .fp16 => some fmtFp16
  | .e4m3 | .mxe4m3 => some fmtE4M3
  | .e5m2 | .mxe5m2 => some fmtE5M2
  | .mxe2m3 => some fmtE2M3
  | .mxe3m2 => some fmtE3M2
  | .mxfp4 => some fmtE2M1
  | _ => none

/-- The element bytes of one block of 32 (R90). -/
def Fmt.blockBytes (f : Fmt) : Nat := 4 * f.width

/-- The exponent offset f of the integer image (R40), and the fixed-point place of the MXINT formats (R33). -/
def Fmt.offset : Fmt → Int
  | .mxint4 => -2
  | .mxint8 => -6
  | .mxfp4 => -1
  | .e4m3 | .mxe4m3 => -9
  | .e5m2 | .mxe5m2 => -16
  | _ => 0

/-- The 4-bit family of R28. -/
def Fmt.is4 : Fmt → Bool
  | .int4 | .mxfp4 | .mxint4 => true
  | _ => false

def Fmt.isE4M3 : Fmt → Bool
  | .e4m3 | .mxe4m3 => true
  | _ => false

def Fmt.isE5M2 : Fmt → Bool
  | .e5m2 | .mxe5m2 => true
  | _ => false

def Fmt.isInt8 : Fmt → Bool
  | .int8 | .mxint8 => true
  | _ => false

/-- A floating format without a block scale (R105). -/
def Fmt.isPlainFloat (f : Fmt) : Bool := f.enc.isSome && !f.blocked

/-- The row of R38 a weight and activation pairing belongs to, counted from 0; none for a pairing outside R38. -/
def pairingRow (w a : Fmt) : Option Nat :=
  if w = .q2 ∧ a.is4 then some 0
  else if w.is4 ∧ a.is4 then some 1
  else if w.isInt8 ∧ a.isInt8 then some 2
  else if w.isE4M3 ∧ a.isE4M3 then some 3
  else if (w.isE4M3 ∧ a.isE5M2) ∨ (w.isE5M2 ∧ a.isE4M3) then some 4
  else if w.isE5M2 ∧ a.isE5M2 then some 5
  else if w = .bf16 ∧ a = .bf16 then some 6
  else if w = .fp16 ∧ a = .fp16 then some 7
  else none

/-- The pairings available at Stage 1 (R38): rows 2 to 6, as a mask. -/
def stage1Pairings : Nat := 0b01111100

/-- The column count C of a pairing (R61). -/
def pairingColumns (row : Nat) : Nat :=
  if row = 0 then 96 else if row = 1 then 48 else if row ≤ 5 then 12 else 3

/-- An element without its scale, as an exact datum (R32–R34). -/
def Fmt.elem (f : Fmt) (code : Nat) : Fp :=
  match f.enc with
  | some g => g.decode code
  | none => Fp.ofInt (if f = .u32 then ((code % 2 ^ 32 : Nat) : Int) else signed f.width code) f.offset

/-- The scale exponent c − 127; none for the NaN code 0xFF (R31). -/
def scaleExp (c : Nat) : Option Int := if c % 256 = 255 then none else some ((c % 256 : Nat) - 127)

/-- Multiply a datum by 2^k exactly. -/
def Fp.scale (x : Fp) (k : Int) : Fp :=
  match x with
  | .fin n m e => .fin n m (e + k)
  | y => y

/-- The exact value of an element with its block's scale code (R31–R34). -/
def Fmt.value (f : Fmt) (code scale : Nat) : Fp :=
  if f.blocked then
    match scaleExp scale with
    | none => .nan
    | some k => (f.elem code).scale k
  else f.elem code

/-- Widening to FP32 (R52): exact, but a magnitude of 2^128 or more becomes infinity. INT32 and U32 round (R50). -/
def Fmt.widen (f : Fmt) (code scale : Nat) : Fp := round32 (f.value code scale)

/-- The result of one conversion: the element's code, whether it saturated and whether it is a NaN (R79). -/
structure Conv where
  code : Nat
  saturated : Bool
  wasNan : Bool
  deriving DecidableEq, Repr

/-- Conversion from FP32 to a format without a block scale (R49, R50). -/
def Fmt.convert (f : Fmt) (x : Fp) : Conv :=
  match f with
  | .fp32 => ⟨toF32 x, false, x.isNan⟩
  | .bf16 => ⟨fmtBf16.encode .toInf x, false, x.isNan⟩
  | .fp16 => ⟨fmtFp16.encode .toInf x, false, x.isNan⟩
  | .e4m3 => ⟨fmtE4M3.encode .saturate x, fmtE4M3.saturates x, x.isNan⟩
  | .e5m2 => ⟨fmtE5M2.encode .saturate x, fmtE5M2.saturates x, x.isNan⟩
  | g =>
    let lo : Int := if g = .u32 then 0 else -(2 ^ (g.width - 1) : Nat)
    let hi : Int := if g = .u32 then 2 ^ 32 - 1 else (2 ^ (g.width - 1) : Nat) - 1
    match x with
    | .nan => ⟨0, false, false⟩
    | .inf n => ⟨wrapInt g.width (if n then lo else hi), true, false⟩
    | y =>
      let v := roundInt y
      let c := clampInt lo hi v
      ⟨wrapInt g.width c, c != v, false⟩

/-- The integer image of a finite element: its value ÷ 2^f (R40). -/
def Fmt.image (f : Fmt) (code : Nat) : Int :=
  match f.elem code with
  | .fin n m e => if f.offset ≤ e then Fp.scaledInt n m e f.offset else 0
  | _ => 0

/-- Products of the elements of one block, exactly (R41). -/
def blockProducts (fw fa : Fmt) (ws as : List Nat) : List Fp :=
  List.zipWith (fun w a => (fw.elem w).mulExact (fa.elem a)) ws as

/-- The exact block integer (R40). -/
def blockInteger (fw fa : Fmt) (ws as : List Nat) : Int :=
  (List.zipWith (fun w a => fw.image w * fa.image a) ws as).sum

/-- A block's FP32 value (R41, R42). -/
def blockValue (fw fa : Fmt) (ws as : List Nat) (sw sa : Nat) : Fp :=
  let sexp (f : Fmt) (c : Nat) : Option Int := if f.blocked then scaleExp c else some 0
  match sexp fw sw, sexp fa sa with
  | some kw, some ka =>
    if ws.any (fun c => (fw.elem c).isNan) || as.any (fun c => (fa.elem c).isNan) then .nan
    else
      let ps := blockProducts fw fa ws as
      if ps.any Fp.isNan then .nan
      else if ps.any (· == .inf false) && ps.any (· == .inf true) then .nan
      else if ps.any (· == .inf false) then .inf false
      else if ps.any (· == .inf true) then .inf true
      else
        let i := blockInteger fw fa ws as
        if i = 0 then Fp.zero else round32 (Fp.ofInt i (fw.offset + fa.offset + kw + ka))
  | _, _ => .nan

/-- The dot product of blocks, in ascending order, from acc0 (R43). -/
def dotBlocks (vals : List Fp) (acc0 : Fp) : Fp := vals.foldl fadd acc0

/-- R45: g = round(fw × fa), and round(acc × g). -/
def applyFactor (acc fw fa : Fp) : Fp := fmul acc (fmul fw fa)

/-- R48: one BF16 reduction step. -/
def bf16Add (a b : Fp) : Fp := fmtBf16.decode (fmtBf16.encode .toInf (a.addExact b))

/-- emax of R51. -/
def Fmt.emax : Fmt → Int
  | .mxe4m3 => 8
  | .mxe5m2 => 15
  | .mxe3m2 => 4
  | .mxe2m3 => 2
  | .mxfp4 => 2
  | _ => 0

/-- One element of a QUANT block: input ÷ 2^s, rounded to nearest even and saturated (R51, step 4). -/
def quantElem (f : Fmt) (s : Int) (x : Fp) : Conv :=
  let y := x.scale (-s)
  match f.enc with
  | some g => ⟨g.encode .saturate y, g.saturates y, false⟩
  | none =>
    let v := roundInt (y.scale (-f.offset))
    let lo : Int := if f = .q2 then -2 else -(2 ^ (f.width - 1) : Nat)
    let hi : Int := if f = .q2 then 1 else (2 ^ (f.width - 1) : Nat) - 1
    let c := clampInt lo hi v
    ⟨wrapInt f.width c, c != v, false⟩

/-- floor(log2 |x|) of a finite non-zero datum. -/
def fpLog2 : Fp → Int
  | .fin _ m e => (m.log2 : Int) + e
  | _ => 0

/-- QUANT of one block (R51): the scale code and the element conversions. -/
def quantBlock (f : Fmt) (xs : List Fp) : Nat × List Conv :=
  if xs.any (fun x => !x.isFinite) then (0xFF, xs.map fun _ => ⟨0, false, true⟩)
  else
    let nz := xs.filter (fun x => !x.isZero)
    match nz with
    | [] => (0x00, xs.map fun _ => ⟨0, false, false⟩)
    | y :: ys =>
      let top := ys.foldl (fun m x => max m (fpLog2 x)) (fpLog2 y)
      let s := clampInt (-127) 127 (top - f.emax)
      ((s + 127).toNat, xs.map (quantElem f s))

/-- The k-th element of a packed array whose bytes are read by `rd` (R29). -/
def unpack (rd : Nat → Byte) (base : Nat) (f : Fmt) (k : Nat) : Nat :=
  let pos := k * f.width
  let n := ceilDiv (pos % 8 + f.width) 8
  (ofLe ((List.range n).map fun i => rd (base + pos / 8 + i))) / 2 ^ (pos % 8) % 2 ^ f.width

/-- The bytes that a list of element codes packs into (R29); the last byte is filled with zero bits. -/
def packCodes (f : Fmt) (codes : List Nat) : List Byte :=
  let v := codes.foldr (fun c acc => acc * 2 ^ f.width + c % 2 ^ f.width) 0
  leBytes (ceilDiv (codes.length * f.width) 8) v

/-- Horizontal sum of 64 lanes by the balanced tree of R71, six levels. -/
def pairSums : List Fp → List Fp
  | a :: b :: rest => fadd a b :: pairSums rest
  | l => l

/-- Value i goes to lane i mod 64; each lane adds its values in ascending order (R71). An empty lane holds −0.0. -/
def laneSum (xs : List Fp) (lane : Nat) : Fp :=
  let mine := (xs.zipIdx.filter fun p => p.2 % 64 == lane).map (·.1)
  match mine with
  | [] => .fin true 0 0
  | y :: ys => ys.foldl fadd y

/-- sum_r71. -/
def sumR71 (xs : List Fp) : Fp :=
  let l6 := (List.range 64).map (laneSum xs)
  let l0 := pairSums (pairSums (pairSums (pairSums (pairSums (pairSums l6)))))
  l0.headD Fp.zero

/-- One round of Philox-4x32: the published multipliers 0xD2511F53 and 0xCD9E8D57. -/
def philoxRound (k0 k1 : Nat) (c : Nat × Nat × Nat × Nat) : Nat × Nat × Nat × Nat :=
  let p0 := 0xD2511F53 * c.1
  let p1 := 0xCD9E8D57 * c.2.2.1
  ((p1 / 2 ^ 32 ^^^ c.2.1 ^^^ k0) % 2 ^ 32, p1 % 2 ^ 32, (p0 / 2 ^ 32 ^^^ c.2.2.2 ^^^ k1) % 2 ^ 32, p0 % 2 ^ 32)

/-- n rounds, the key raised by the published Weyl constants after each. -/
def philoxRounds : Nat → Nat → Nat → Nat × Nat × Nat × Nat → Nat × Nat × Nat × Nat
  | 0, _, _, c => c
  | n + 1, k0, k1, c =>
    philoxRounds n ((k0 + 0x9E3779B9) % 2 ^ 32) ((k1 + 0xBB67AE85) % 2 ^ 32) (philoxRound k0 k1 c)

/-- philox4x32_10(key, counter) (R109). -/
def philox (k0 k1 c0 c1 : Nat) : Nat × Nat × Nat × Nat := philoxRounds 10 k0 k1 (c0, c1, 0, 0)

end Sys2Proof.Machine
end

