-- ==== Sys2Proof/Machine/Image.lean ====
section
/-! DEFINITION. Machine/Image.lean: the job image (R81–R92), the bench instruction fields (R94, R96–R100), and the validation
that LOAD_JOB makes of an image by itself (R35, R66, R81, R82, R85–R92, R95, R144). -/

namespace Sys2Proof.Machine

/-- The columns of a TILE_MAJOR tile, by weight format (R61, R91). -/
def tileColumns (f : Fmt) : Option Nat :=
  if f = .q2 then some 96 else if f.is4 then some 48
  else if f.width = 8 then some 12 else if f = .bf16 ∨ f = .fp16 then some 3 else none

/-- A tensor descriptor (R88, R89). -/
structure Desc where
  base : Nat
  scaleBase : Nat
  dims : List Nat
  strides : List Nat
  loopStride : Nat
  factor : Nat
  control : Nat
  deriving DecidableEq, Repr

namespace Desc

def parse (bs : List Byte) : Desc :=
  { base := leAt bs 0 8, scaleBase := leAt bs 8 8, dims := (List.range 4).map fun i => leAt bs (0x10 + 4 * i) 4,
    strides := (List.range 3).map fun i => leAt bs (0x20 + 6 * i) 6, loopStride := leAt bs 0x32 6, factor := leAt bs 0x38 4,
    control := leAt bs 0x3C 4 }

def dim (d : Desc) (i : Nat) : Nat := nth 1 d.dims i
def stride (d : Desc) (i : Nat) : Nat := nth 0 d.strides (i - 1)
def loopEn (d : Desc) : Bool := bit d.control 20
def loopLevel (d : Desc) : Nat := bits d.control 19 17
def baseArg (d : Desc) : Nat := bits d.control 16 12
def rank (d : Desc) : Nat := bits d.control 11 10 + 1
def loc (d : Desc) : Nat := bits d.control 9 8
def layout (d : Desc) : Nat := bits d.control 7 5
def fmt (d : Desc) : Fmt := (Fmt.ofCode (bits d.control 4 0)).getD .fp32
def count (d : Desc) : Nat := d.dim 0 * d.dim 1 * d.dim 2 * d.dim 3

/-- Bytes of n elements, packed (R29). -/
def rowBytes (d : Desc) (n : Nat) : Nat := ceilDiv (n * d.fmt.width) 8

/-- A page of a KV_PAGED pool (R144). -/
def pageBytes (d : Desc) : Nat :=
  let el := d.dim 1 * d.dim 0 * d.fmt.width / 8
  let sc := if d.fmt.blocked then d.dim 1 * d.dim 0 / 32 else 0
  roundUp (2 * el + 2 * sc) 256

/-- Bytes from the effective base to the end of the element array. -/
def extent (d : Desc) : Nat :=
  if d.layout = 1 then d.rowBytes (d.dim 0 * d.dim 1)
  else if d.layout = 2 then d.dim 2 * d.pageBytes
  else (d.dim 1 - 1) * d.stride 1 + (d.dim 2 - 1) * d.stride 2 + (d.dim 3 - 1) * d.stride 3 + d.rowBytes (d.dim 0)

/-- Bytes of the scale array (R30). -/
def scaleBytes (d : Desc) : Nat := if d.fmt.blocked ∧ d.layout ≠ 2 then d.count / 32 else 0

/-- Every run of elements and every scale of the operand, as bytes: what a copy of it carries (R111, R112). -/
def bytes (d : Desc) : Nat :=
  (if d.layout = 2 then d.dim 2 * d.pageBytes
   else d.dim 1 * d.dim 2 * d.dim 3 * ceilDiv (d.dim 0 * d.fmt.width) 8) + (if d.fmt.blocked ∧ d.layout ≠ 2 then d.count / 32 else 0)

/-- Bytes of the store that lie wholly in the data area, or wholly in the argument window (R65). -/
def storeArea (a n : Nat) (window : Bool) : Bool := a + n ≤ 0x3C000 || (window && 0x3E000 ≤ a && a + n ≤ 0x3F000)

/-- An operand in the store at a fixed place: its bases do not move. -/
def fixedStore (d : Desc) : Bool := d.loc == 1 && !d.loopEn && d.baseArg == 0

/-- The elements and the scales of an operand at a fixed place in the store lie where a read, or a write, may reach (R66). -/
def storeFits (d : Desc) (window : Bool) : Bool :=
  storeArea d.base d.extent window && (d.scaleBytes == 0 || storeArea d.scaleBase d.scaleBytes window)

/-- The rules a descriptor meets by itself (R30, R66, R88–R92, R144); `words` is COMMON_ARG_SIZE ÷ 8. A pool whose LOOP_STRIDE is no
multiple of 256 breaks R144 (DEDUCED: its effective base would leave the multiples of 256 at the second iteration); one with a
BASE_ARG is judged where the word is known, by the instruction. -/
def ok (d : Desc) (words : Nat) : Bool :=
  d.control / 2 ^ 21 == 0 && d.loc != 3 && d.layout ≤ 2 && (Fmt.ofCode (bits d.control 4 0)).isSome &&
  d.dims.all (fun n => 1 ≤ n && n ≤ 2 ^ 31) &&
  ((List.range 4).all fun i => i < d.rank || (d.dim i == 1 && (i == 0 || d.stride i == 0))) &&
  (d.fmt.blocked || d.scaleBase == 0) && (d.baseArg == 0 || d.baseArg < words) && (d.layout != 0 || !d.fmt.blocked || d.dim 0 % 32 == 0) &&
  (if d.layout == 0 then d.rank == 1 || d.rowBytes (d.dim 0) ≤ d.stride 1
   else d.strides.all (· == 0) &&
    (if d.layout == 1 then d.rank == 2 && d.dim 0 % 96 == 0 && (match tileColumns d.fmt with
      | some c => d.dim 1 % c == 0
      | none => false)
     else d.dim 3 == 1 && d.dim 1 % 96 == 0 && (d.baseArg != 0 || d.base % 256 == 0) && (!d.loopEn || d.loopStride % 256 == 0) && d.scaleBase == 0 && (!d.fmt.blocked || d.dim 0 % 32 == 0) &&
      (d.fmt == .e4m3 || d.fmt == .e5m2 || d.fmt == .mxe4m3 || d.fmt == .mxe5m2 || d.fmt == .bf16))) &&
  (!d.fixedStore || d.storeFits true)

end Desc

/-! Bench instructions, as the 128-bit number their 16 bytes spell -/

namespace BenchInstr

def op (w : Nat) : Nat := bits w 127 120
def mode (w : Nat) : Nat := bits w 119 112
def tdD (w : Nat) : Nat := bits w 111 96
def tdA (w : Nat) : Nat := bits w 95 80
def tdB (w : Nat) : Nat := bits w 79 64
def tdC (w : Nat) : Nat := bits w 63 48
def param (w : Nat) : Nat := bits w 47 34 * 16
def imm (w : Nat) : Nat := bits w 31 0
/-- LOOP's END and BRANCH's TARGET. -/
def target (w : Nat) : Nat := bits w 83 64
def src (w : Nat) : Nat := bits w 111 104
def peg (w : Nat) : Nat := bits w 95 90
def pegTarget (w : Nat) : Nat := bits w 111 100

end BenchInstr

open BenchInstr

/-- The loops of a stream that enclose an instruction, outermost first: index and END of each (R96). -/
def enclosing (loops : List (Nat × Nat)) (i : Nat) : List (Nat × Nat) := loops.filter fun l => l.1 < i && i ≤ l.2

/-- What validation of one stream needs to know. -/
structure StreamInfo where
  benches : Nat
  common : Nat
  sliceSize : Nat
  descs : List Desc
  loops : List (Nat × Nat)
  length : Nat

/-- LOOP's structure rules (R96). -/
def loopOk (g : StreamInfo) (i w : Nat) : Bool :=
  mode w < 2 && bits w 111 84 == 0 && bits w 63 37 == 0 &&
  (if mode w == 1 then 1 ≤ bits w 36 32 && bits w 36 32 < g.common / 8 else bits w 36 32 == 0) &&
  i < target w && target w + 1 < g.length &&
  (g.loops.all fun l => !(i < l.1 && l.1 ≤ target w) || l.2 ≤ target w) && (enclosing g.loops i).length < 8

/-- BRANCH's source and structure rules (R97). -/
def branchOk (g : StreamInfo) (i w : Nat) : Bool :=
  let inner := (enclosing g.loops i).getLast?
  let c := src w
  mode w ≤ 4 && bits w 103 84 == 0 && bits w 63 32 == 0 && ((c == 0) == (mode w == 0)) &&
  (c == 0 || (c ≤ 0x1F && c < g.common / 8) || (0x20 ≤ c && c ≤ 0x3F && c - 0x20 < g.sliceSize / 8) || (0x40 ≤ c && c ≤ 0x6F) ||
   (0x70 ≤ c && c ≤ 0x77 && c - 0x70 < (enclosing g.loops i).length)) &&
  target w < g.length &&
  ((enclosing g.loops (target w)).getLast? == inner || (match inner with
    | some l => target w == l.2 + 1
    | none => false))

/-- PEG_ADD, PEG_WAIT and PEG_SIGNAL (R99). -/
def pegOk (g : StreamInfo) (w : Nat) : Bool :=
  bits w 99 96 == 0 && bits w 89 32 == 0 && peg w < 48 &&
  (if op w == 0x0A then
    (mode w == 1 && pegTarget w < 512 && pegTarget w < g.benches) || (mode w == 2 && peg w == 0)
   else mode w == 0 && pegTarget w == 0)

/-- A format that a kernel reads by widening: neither MXFP6 (R35) nor Q2 (R32). -/
def Fmt.computes : Fmt → Bool
  | .q2 | .mxe2m3 | .mxe3m2 => false
  | _ => true

/-- Row-major in the store or in device memory. -/
def Desc.plain (d : Desc) : Bool := d.layout == 0 && d.loc ≤ 1

def sameDims (a b : Desc) : Bool := a.dims == b.dims && a.rank == b.rank

/-- A kernel's operands as descriptors; absent where the index is 0xFFFF. -/
structure Operands where
  d : Option Desc
  a : Option Desc
  b : Option Desc
  c : Option Desc

def operandsOf (descs : List Desc) (w : Nat) : Operands :=
  let g := fun i => if i = 0xFFFF then none else descs[i]?
  ⟨g (tdD w), g (tdA w), g (tdB w), g (tdC w)⟩

/-- Indices are within the table, or 0xFFFF. -/
def indicesOk (n w : Nat) : Bool := [tdD w, tdA w, tdB w, tdC w].all fun i => i < n || i == 0xFFFF

/-- A finite F32 (R102, R105, R109). -/
def finiteF32 (c : Nat) : Bool := (ofF32 c).isFinite

/-- MATVEC (R101). -/
def matvecOk (w : Nat) (o : Operands) : Bool :=
  match o.a, o.b, o.d with
  | some a, some b, some d =>
    (match pairingRow a.fmt b.fmt with
      | some r => a.dim 1 % pairingColumns r == 0
      | none => false) &&
    a.layout == 1 && a.loc ≤ 1 && b.layout == 0 && b.rank == 2 && b.loc == 1 && b.dim 0 == a.dim 0 && b.dim 1 ≤ 65536 &&
    d.plain && d.rank == 2 && d.dim 0 == a.dim 1 && d.dim 1 == b.dim 1 && mode w < 4 && imm w == 0 && param w == 0 &&
    (if bit (mode w) 1 then !d.fmt.blocked else d.fmt == .fp32) &&
    (match o.c with
      | some c => bit (mode w) 0 && c.fmt == .fp32 && c.plain && c.rank == 2 && c.dim 0 == a.dim 1 && c.dim 1 == b.dim 1
      | none => !bit (mode w) 0)
  | _, _, _ => false

/-- ATTEND (R102). -/
def attendOk (w : Nat) (o : Operands) : Bool :=
  match o.a, o.b, o.c, o.d with
  | some a, some b, some c, some d =>
    (pairingRow b.fmt a.fmt).isSome && a.layout == 0 && a.rank == 2 && a.loc == 1 && b.layout == 2 && b.loc == 0 &&
    a.dim 0 == b.dim 0 && 64 ≤ a.dim 0 && a.dim 0 ≤ 256 && a.dim 0 % 32 == 0 && a.dim 1 ≤ 64 && c.fmt == .u32 && c.plain && c.rank == 1 &&
    d.plain && sameDims a d && d.fmt.isPlainFloat && mode w == 0 && imm w == 0
  | _, _, _, _ => false

/-- GATHER (R104). -/
def gatherOk (w : Nat) (o : Operands) : Bool :=
  match o.a, o.b, o.d with
  | some a, some b, some d =>
    o.c.isNone && a.layout == 0 && a.rank == 2 && a.loc == 0 && (b.fmt == .int32 || b.fmt == .u32) && b.layout == 0 && b.rank == 1 &&
    b.loc == 1 && d.plain && d.rank == 2 && d.fmt == a.fmt && d.dim 0 == a.dim 0 && d.dim 1 == b.dim 0 && mode w < 2 && imm w == 0 &&
    param w == 0
  | _, _, _ => false

/-- NORM (R105). -/
def normOk (w : Nat) (o : Operands) : Bool :=
  let vec := fun (a v : Desc) => (v.fmt == .fp32 || v.fmt == .bf16) && v.plain && v.rank == 1 && v.dim 0 == a.dim 0
  match o.a, o.b, o.d with
  | some a, some b, some d =>
    (a.fmt == .fp32 || a.fmt == .bf16 || a.fmt == .fp16) && a.plain && a.rank == 2 && a.dim 0 ≤ 65536 && vec a b && d.plain &&
    sameDims a d && d.fmt.isPlainFloat && mode w < 2 && finiteF32 (imm w) && ((ofF32 (imm w)).isZero || !(ofF32 (imm w)).isNeg) &&
    param w == 0 &&
    (match o.c with
      | some c => mode w == 1 && vec a c
      | none => true)
  | _, _, _ => false

/-- The MODEs of ACT, and which are binary (R106). -/
def actBinary (m : Nat) : Bool := m == 0x10 || m == 0x11 || m == 0x12 || m == 0x13 || m == 0x20
def actModeOk (m : Nat) : Bool := m ≤ 7 || actBinary m || m == 0x14

def actOk (w : Nat) (o : Operands) : Bool :=
  match o.a, o.d with
  | some a, some d =>
    actModeOk (mode w) && a.plain && a.fmt.computes && d.plain && sameDims a d && !d.fmt.blocked && o.c.isNone && param w == 0 &&
    (mode w == 0x14 || imm w == 0) && (mode w != 0x20 || a.dim 0 % 2 == 0) &&
    (match o.b with
      | some b => actBinary (mode w) && b.plain && b.fmt.computes && sameDims a b
      | none => !actBinary (mode w))
  | _, _ => false

/-- QUANT and DEQUANT (R107). The rule lists no source formats for DEQUANT; it widens under R52, which has no FP32 source, so an FP32
TD_A is refused; and it names blocked, narrower and integer formats for QUANT, so an FP32 TD_D is refused (DESIGN CHOICE, log 119). -/
def quantOk (w : Nat) (o : Operands) (up : Bool) : Bool :=
  match o.a, o.d with
  | some a, some d =>
    a.plain && d.plain && sameDims a d && o.b.isNone && o.c.isNone && mode w == 0 && imm w == 0 && param w == 0 &&
    (if up then a.fmt != .fp32 && (d.fmt == .fp32 || d.fmt == .bf16 || d.fmt == .fp16) else a.fmt == .fp32 && d.fmt != .fp32)
  | _, _ => false

/-- TOPK (R108). -/
def topkOk (w : Nat) (o : Operands) : Bool :=
  match o.a, o.c, o.d with
  | some a, some c, some d =>
    o.b.isNone && a.fmt == .fp32 && a.plain && a.rank == 2 && a.dim 0 ≤ 1048576 && d.fmt == .fp32 && d.plain && d.rank == 2 &&
    c.fmt == .int32 && c.plain && c.rank == 2 && 1 ≤ imm w && imm w ≤ min 1024 (a.dim 0) && d.dim 0 == imm w && c.dim 0 == imm w &&
    d.dim 1 == a.dim 1 && c.dim 1 == a.dim 1 && mode w == 0 && param w == 0
  | _, _, _ => false

/-- SAMPLE (R109). -/
def sampleOk (w : Nat) (o : Operands) : Bool :=
  match o.a, o.b, o.d with
  | some a, some b, some d =>
    a.fmt == .fp32 && a.plain && a.rank == 2 && b.fmt == .u32 && b.plain && b.rank == 2 && b.dim 0 == 4 && b.dim 1 == a.dim 1 &&
    d.fmt == .int32 && d.plain && d.rank == 1 && d.dim 0 == a.dim 1 && mode w < 4 && imm w == 0 &&
    (match o.c with
      | some c => c.fmt == .int32 && c.plain && sameDims a c
      | none => true)
  | _, _, _ => false

/-- REDUCE (R110). APPLY_G is taken with MAX and MIN and with BF16 operands too, though the rule speaks of it only at the final FP32 sum
(DESIGN CHOICE, log 119). -/
def reduceOk (w : Nat) (o : Operands) : Bool :=
  match o.a, o.d with
  | some a, some d =>
    o.b.isNone && o.c.isNone && (a.fmt == .fp32 || a.fmt == .bf16) && d.fmt == a.fmt && a.plain && d.plain && 2 ≤ a.rank &&
    d.rank + 1 == a.rank && a.dim (a.rank - 1) == imm w && ((List.range (a.rank - 1)).all fun i => a.dim i == d.dim i) &&
    bits (mode w) 1 0 != 3 && mode w < 8 && 2 ≤ imm w && imm w ≤ 1024 && (bit (mode w) 2 || param w == 0)
  | _, _ => false

/-- MOVE (R111). With SIG 0 the values of TARGET and PEG are not judged (DESIGN CHOICE, log 119). -/
def moveOk (g : StreamInfo) (w : Nat) (o : Operands) : Bool :=
  let sig := bits (imm w) 31 30
  let t := bits (imm w) 29 18
  let p := bits (imm w) 17 12
  match o.a, o.d with
  | some a, some d =>
    o.b.isNone && o.c.isNone && a.fmt == d.fmt && a.count == d.count && a.bytes ≤ 2 ^ 30 && d.bytes ≤ 2 ^ 30 && a.loc ≤ 1 && mode w == 0 &&
    param w == 0 && bits (imm w) 11 0 == 0 && sig != 3 &&
    (sig != 1 || (t < 512 && t < g.benches && p < 48 && d.loc != 2)) && (sig != 2 || p == 0) &&
    (if a.layout == 2 || d.layout == 2 then
      a.layout == 2 && d.layout == 2 && a.dim 0 == d.dim 0 && a.dim 1 == d.dim 1 && a.dim 2 == d.dim 2
     else true)
  | _, _ => false

/-- SEND (R112). Q2 and MXFP6 have no place in it (R32, R35). -/
def sendOk (w : Nat) (o : Operands) : Bool :=
  match o.a with
  | some a =>
    tdD w == 0xFFFF && o.b.isNone && o.c.isNone && a.loc ≤ 1 && a.fmt.computes && a.bytes ≤ 2 ^ 30 && mode w == 0 && imm w == 0
  | none => false

/-- A store span that an instruction may read or write (R66). -/
def storeOk (a n : Nat) (write : Bool) : Bool := a + n ≤ 0x3C000 || (!write && 0x3E000 ≤ a && a + n ≤ 0x3F000)

/-- The bytes of an instruction's parameter block (R102, R109, R110, R112). -/
def paramSize (w : Nat) : Nat :=
  if op w = 0x11 ∨ op w = 0x18 then 16 else if op w = 0x19 ∧ bit (mode w) 2 = true then 8 else if op w = 0x1B then 32 else 0

/-- The operands that an instruction writes: TD_D, TOPK's indices, and SAMPLE's state with ADVANCE. -/
def destsOf (w : Nat) (o : Operands) : List Desc :=
  [o.d, if op w = 0x17 then o.c else none, if op w = 0x18 ∧ bit (mode w) 0 = true then o.b else none].filterMap id

/-- A kernel instruction (R95, R100–R112); a destination at a fixed place in the store lies in the data area, and the parameter block in it or
in the argument window (R66, R100). -/
def kernelOk (g : StreamInfo) (i w : Nat) : Bool :=
  let o := operandsOf g.descs w
  let named := [o.d, o.a, o.b, o.c].filterMap id
  bits w 33 32 == 0 && indicesOk g.descs.length w &&
  named.all (fun d => d.ok (g.common / 8) && (!d.loopEn || d.loopLevel < (enclosing g.loops i).length)) &&
  (op w == 0x1A || named.all fun d => d.loc != 2) && (destsOf w o).all (fun d => !d.fixedStore || d.storeFits false) &&
  storeOk (param w) (paramSize w) false &&
  (match op w with
    | 0x10 => matvecOk w o
    | 0x11 => attendOk w o
    | 0x12 => gatherOk w o
    | 0x13 => normOk w o
    | 0x14 => actOk w o
    | 0x15 => quantOk w o false
    | 0x16 => quantOk w o true
    | 0x17 => topkOk w o
    | 0x18 => sampleOk w o
    | 0x19 => reduceOk w o
    | 0x1A => moveOk g w o
    | 0x1B => sendOk w o
    | _ => false)

/-- One instruction of a stream (R95). -/
def instrOk (g : StreamInfo) (i w : Nat) : Bool :=
  match op w with
  | 0x00 | 0x01 => bits w 119 0 == 0
  | 0x02 => loopOk g i w
  | 0x03 => branchOk g i w
  | 0x08 | 0x09 | 0x0A => pegOk g w
  | _ => kernelOk g i w

/-- The instructions of a stream section. -/
def instrsOf (bs : List Byte) : List Nat := (chunksOf 16 (bs.length / 16) bs).map ofLe

/-- The LOOPs of a stream: index and END. -/
def loopsOf (ws : List Nat) : List (Nat × Nat) :=
  ws.zipIdx.filterMap fun (w, i) => if op w = 0x02 then some (i, target w) else none

/-- The pairing rows that MATVEC and ATTEND use, as a mask (R81). -/
def pairingsOf (descs : List Desc) (ws : List Nat) : Nat :=
  ws.foldl
    (fun m w =>
      let o := operandsOf descs w
      let r := if op w = 0x10 then (match o.a, o.b with
          | some a, some b => pairingRow a.fmt b.fmt
          | _, _ => none)
        else if op w = 0x11 then (match o.a, o.b with
          | some a, some b => pairingRow b.fmt a.fmt
          | _, _ => none)
        else none
      match r with
      | some k => m ||| 2 ^ k
      | none => m) 0

/-! The image (R81, R82) -/

/-- The header's fields. -/
def Image.parse (bs : List Byte) : Image :=
  let n := leAt bs 0x1A 2
  let table := (List.range (leAt bs 0x24 2)).map fun k =>
    let o := leAt bs 0x20 4 + 32 * k
    ⟨leAt bs o 2, leAt bs (o + 2) 2, leAt bs (o + 8) 8, leAt bs (o + 0x10) 8, leAt bs (o + 0x18) 8⟩
  let body := fun (t : Nat) => match table.find? (fun (x : Section) => x.kind == t) with
    | some x => slice bs x.offset x.size
    | none => []
  let dt := body 6
  { moduleCount := leAt bs 0x10 2, moduleRank := leAt bs 0x12 2, routeEpoch := leAt bs 0x14 4, pairings := leAt bs 0x18 2,
    benches := ((body 7).map BitVec.toNat).take n, sliceSize := leAt bs 0x1C 2, commonSize := leAt bs 0x1E 2,
    loadSize := leAt bs 0x28 8, buildId := leAt bs 0x30 8, deadline := leAt bs 0x38 4, sections := table,
    ranges := (List.range ((body 4).length / 32)).map fun k =>
      let o := 32 * k
      ⟨leAt (body 4) o 8, leAt (body 4) (o + 8) 8, leAt (body 4) (o + 0x10) 1, leAt (body 4) (o + 0x11) 1, leAt (body 4) (o + 0x12) 1⟩,
    dovetail := (List.range ((dt.length - 16) / 16)).map fun k =>
      let o := 16 + 16 * k
      ⟨leAt dt o 2, leAt dt (o + 2) 1, leAt dt (o + 3) 1, leAt dt (o + 4) 4, leAt dt (o + 8) 4, leAt dt (o + 12) 4⟩,
    descCount := (body 3).length / 64 }

/-- A byte range of the image is zero. -/
def zeroBytes (bs : List Byte) (o n : Nat) : Bool := (slice bs o n).all (· == 0)

/-- The header's rules (R81), for an image of the length that LOAD_JOB names. -/
def headerOk (bs : List Byte) (len : Nat) : Bool :=
  let f := leAt bs
  256 ≤ len && len ≤ 2 ^ 30 && f 0 4 == 0x4A424B51 && f 4 2 == 1 && f 6 2 == 256 && f 8 8 == len && 1 ≤ f 0x10 2 && f 0x10 2 ≤ 256 && f 0x12 2 < f 0x10 2 &&
  f 0x18 2 < 256 && 1 ≤ f 0x1A 2 && f 0x1A 2 ≤ 512 && f 0x1C 2 % 64 == 0 && f 0x1C 2 ≤ 3072 && f 0x1E 2 % 8 == 0 && 8 ≤ f 0x1E 2 &&
  f 0x1E 2 ≤ 1024 && f 0x20 4 % 64 == 0 && 1 ≤ f 0x24 2 && f 0x24 2 ≤ 1024 && f 0x26 2 == 0 && f 0x28 8 % 65536 == 0 &&
  f 0x20 4 + 32 * f 0x24 2 ≤ len && zeroBytes bs 0x3C 192

/-- The CRC over the whole image with its own field taken as 0 (R81). -/
def imageCrcOk (bs : List Byte) : Bool := leAt bs 0xFC 4 == crc32c (overlay bs 0xFC [0, 0, 0, 0])

/-- Types that are placed (R82). -/
def placedType (t : Nat) : Bool := t == 1 || t == 2 || t == 3 || t == 6

/-- Every pair of a list satisfies r. -/
def pairwiseOk {α : Type} (r : α → α → Bool) : List α → Bool
  | [] => true
  | a :: as => as.all (r a) && pairwiseOk r as

/-- The section table's rules (R82). -/
def sectionsOk (bs : List Byte) (m : Image) : Bool :=
  let t := m.sections
  let n := leAt bs 0x1A 2
  let num := fun k => (t.filter fun x => x.kind == k).length
  let reserved := (List.range t.length).all fun k => leAt bs (leAt bs 0x20 4 + 32 * k + 4) 4 == 0
  reserved &&
  t.all (fun x =>
    1 ≤ x.kind && x.kind ≤ 7 && x.offset % 64 == 0 && x.offset + x.size ≤ bs.length &&
    (if placedType x.kind then x.place % 64 == 0 && x.place + x.size ≤ m.loadSize else x.place == 0) &&
    (match x.kind with
      | 1 => x.target < n && x.size % 16 == 0 && 16 ≤ x.size && x.size ≤ 16 * 2 ^ 20
      | 2 => x.target < 8
      | 3 => x.target < 8 && m.benches.contains x.target && x.size % 64 == 0 && x.size ≤ 64 * 16384
      | 4 => x.target == 0 && x.size % 32 == 0 && x.size ≤ 32 * 256
      | 5 => x.target == 0 && x.size % 16 == 0 && x.size ≤ 16 * 65536
      | 6 => x.target < 8
      | _ => x.target == 0 && x.size == n)) &&
  num 4 == 1 && num 5 ≤ 1 && num 7 == 1 && num 6 == (if 1 < m.moduleCount then 1 else 0) &&
  ((List.range n).all fun b => (t.filter fun x => x.kind == 1 && x.target == b).length == 1) &&
  ((List.range 8).all fun k => !m.benches.contains k || (t.filter fun x => x.kind == 3 && x.target == k).length == 1) &&
  m.benches.length == n && m.benches.all (· < 8) &&
  pairwiseOk (fun x y => if x.kind == 3 && y.kind == 3 then x.offset == y.offset && x.size == y.size
    else !overlaps x.offset x.size y.offset y.size) t &&
  pairwiseOk (fun x y => !placedType x.kind || !placedType y.kind || !overlaps x.place x.size y.place y.size) t

/-- The declared ranges' rules (R85, R95). -/
def rangesOk (bs : List Byte) (m : Image) : Bool :=
  let body := match m.sections.find? (fun x => x.kind == 4) with
    | some x => slice bs x.offset x.size
    | none => []
  ((List.range m.ranges.length).all fun k => zeroBytes body (32 * k + 0x13) 13) &&
  m.ranges.all fun r => 1 ≤ r.length && r.length ≤ 2 ^ 40 && r.kind ≤ 2 && (if r.kind == 2 then r.stack == 0xFF else r.stack < 8) &&
    r.arg < 32 && (r.arg == 0 || r.arg < m.commonSize / 8)

/-- The streams of an image: logical bench and instructions. -/
def streamsOf (bs : List Byte) (m : Image) : List (Nat × List Nat) :=
  (m.sections.filter fun x => x.kind == 1).map fun x => (x.target, instrsOf (slice bs x.offset x.size))

/-- The descriptor table of an image. -/
def descsOf (bs : List Byte) (m : Image) : List Desc :=
  match m.sections.find? (fun x => x.kind == 3) with
  | some x => (chunksOf 64 (x.size / 64) (slice bs x.offset x.size)).map Desc.parse
  | none => []

def streamInfo (m : Image) (descs : List Desc) (ws : List Nat) : StreamInfo :=
  ⟨m.benches.length, m.commonSize, m.sliceSize, descs, loopsOf ws, ws.length⟩

/-- A stream's instructions are valid, and its last is END (R95). -/
def streamOk (m : Image) (descs : List Desc) (ws : List Nat) : Bool :=
  (match ws.getLast? with
    | some w => op w == 0x01
    | none => false) &&
  ws.zipIdx.all fun (w, i) => instrOk (streamInfo m descs ws) i w

/-- The dovetail's rules (R87). -/
def dovetailOk (bs : List Byte) (m : Image) (descs : List Desc) (streams : List (Nat × List Nat)) : Bool :=
  match m.sections.find? (fun x => x.kind == 6) with
  | none => true
  | some x =>
    let b := slice bs x.offset x.size
    let key := fun (e : DoveEntry) => (e.bench * 2 ^ 32 + e.instr) * 2 ^ 32 + e.ordinal
    leAt b 0 4 == m.routeEpoch && 1 ≤ leAt b 4 4 && leAt b 4 4 ≤ 1048576 && zeroBytes b 8 8 && x.size == 16 + 16 * leAt b 4 4 &&
    pairwiseOk (fun e f => key e < key f) m.dovetail &&
    m.dovetail.all fun e => e.bench < m.benches.length && e.port < 8 && e.vc < 2 &&
      (match streams.find? (·.1 == e.bench) with
        | some (_, ws) =>
          let w := nth 0 ws e.instr
          e.instr < ws.length && op w == 0x1A && (match (operandsOf descs w).d with
            | some d => d.loc == 2
            | none => false)
        | none => false)

/-- A relocation (R86). -/
structure Reloc where
  sect : Nat
  kind : Nat
  offset : Nat
  addend : Nat
  deriving DecidableEq, Repr

def relocsOf (bs : List Byte) (m : Image) : List Reloc :=
  match m.sections.find? (fun x => x.kind == 5) with
  | some x => (chunksOf 16 (x.size / 16) (slice bs x.offset x.size)).map fun b => ⟨leAt b 0 2, leAt b 2 1, leAt b 4 4, leAt b 8 8⟩
  | none => []

/-- A relocation's own rules: its section, kind, offset, rank and sum (R86). `members` are the ranks' module IDs: a rank that has none,
because MEMBER_COUNT is lower than MODULE_COUNT, is BAD_ENTRY as one at or beyond MODULE_COUNT is (DESIGN CHOICE, log 119). -/
def relocOk (bs : List Byte) (m : Image) (base : Nat) (members : List Nat) (k : Nat) (r : Reloc) : Bool :=
  let raw := match m.sections.find? (fun x => x.kind == 5) with
    | some x => slice bs (x.offset + 16 * k) 16
    | none => []
  leAt raw 3 1 == 0 && r.offset % 8 == 0 &&
  (match m.sections[r.sect]? with
    | some x => 1 ≤ x.kind && x.kind ≤ 3 && r.offset + 8 ≤ x.size && (x.kind != 1 || r.offset % 16 == 0)
    | none => false) &&
  (if r.kind == 1 then base + r.addend < 2 ^ 48
   else r.kind == 2 && bits r.addend 51 44 < m.moduleCount && bits r.addend 51 44 < members.length)

/-- The 8 bytes a relocation writes. -/
def relocValue (base : Nat) (members : List Nat) (r : Reloc) : Nat :=
  if r.kind = 1 then base + r.addend else r.addend % 2 ^ 44 + nth 0 members (bits r.addend 51 44) * 2 ^ 44

/-- The image's bytes after relocation. Every stack's copy of DESC is the same bytes. -/
def relocate (bs : List Byte) (m : Image) (base : Nat) (members : List Nat) (rs : List Reloc) : List Byte :=
  rs.foldl
    (fun b r => match m.sections[r.sect]? with
      | some x => overlay b (x.offset + r.offset) (leBytes 8 (relocValue base members r))
      | none => b) bs

/-- Every check of LOAD_JOB's step 3 (R114), the relocations' own among them (R86). -/
def imageOk (bs : List Byte) (len base : Nat) (members : List Nat) : Bool :=
  let m := Image.parse bs
  let descs := descsOf bs m
  let streams := streamsOf bs m
  headerOk bs len && imageCrcOk bs && sectionsOk bs m && rangesOk bs m && descs.all (fun d => d.ok (m.commonSize / 8)) &&
  streams.all (fun s => streamOk m descs s.2) && (streams.foldl (fun p s => p ||| pairingsOf descs s.2) 0) == m.pairings &&
  dovetailOk bs m descs streams && (relocsOf bs m).zipIdx.all fun (r, k) => relocOk bs m base members k r

/-- The instructions that relocation changes are valid again: the rest passed step 3 (R86; step 6 of R114). -/
def relocatedOk (bs : List Byte) (base : Nat) (members : List Nat) : Bool :=
  let m := Image.parse bs
  (streamsOf (relocate bs m base members (relocsOf bs m)) m).all fun s => streamOk m (descsOf bs m) s.2

end Sys2Proof.Machine
end

