-- ==== Sys2Proof/Machine/Pegs.lean ====
section
/-! DEFINITION. Machine/Pegs.lean: the commands of "Pegs: waiting and signalling" that the rings and the ledger give: PEG_SET
(R166, R526) and the owner bytes of the hub peg blocks (R151). -/

namespace Sys2Proof.Machine

/-- The RESULT of a PEG_SET that reads or leaves a value (R353). -/
def pegResult (h v : Nat) : List Byte := leBytes 2 h ++ [0, 0] ++ leBytes 4 v

/-- The entries of R526, which place bytes on this module or through its own PCIe ports. -/
def Entry.places (e : Entry) : Bool :=
  [0x02, 0x12, 0x13, 0x14, 0x48, 0x28, 0x30, 0x31, 0x3B].contains e.opcode || (e.opcode == 0x29 && e.u8 8 == 5)

namespace State

/-- An earlier entry of the function that satisfies p has not completed; a malformed one has no effect to wait for (R341). -/
def earlierHas (s : State) (f : Nat) (e : Entry) (p : Entry → Bool) : Bool := (earlier (s.fn f) e).any fun x => !x.malformed && p x

/-- The PEG_SET entry at an index has the kind. -/
def pegSet (s : State) (f idx kind : Nat) (k : Entry → State → State) : State :=
  s.runEntry f idx [0x40] fun e t => if e.u8 8 = kind then k e t else t

/-- Add for a PEG_SET and complete it. -/
def pegAdded (s : State) (f : Nat) (e : Entry) : State :=
  let h := e.u16 0x0A
  let s1 := s.addHubPeg h (e.u32 0x0C)
  s1.completeIdx f e.idx 0 (pegResult h ((s.hubPeg h + e.u32 0x0C) % 2 ^ 32))

/-- A BIND or UNBIND may act: no earlier RUN_JOB of the slot has yet to complete, and no job of the slot runs or waits for its benches
(R80, R166). -/
def slotQuiet (s : State) (f : Nat) (e : Entry) (slot : Nat) : Bool :=
  let of (j : Job) := j.fid == f && j.slot == slot
  !(s.earlierHas f e fun x => x.opcode == 0x31 && x.u8 8 == slot) && !((s.job f).any of) && !s.cmp.checked.any of

/-- The view a BIND or UNBIND names exists: the slot holds an image with that logical bench (R166). -/
def viewExists (s : State) (f : Nat) (e : Entry) : Bool :=
  match s.slot f (e.u8 0x10) with
  | some k => decide (e.u16 0x12 < k.image.benches.length)
  | none => false

/-- Remove a binding. -/
def unbind (s : State) (f slot logical view : Nat) : State :=
  { s with cmp := { s.cmp with views := s.cmp.views.filter fun w =>
      !(w.fid == f && w.slot == slot && w.logical == logical && w.view == view) } }

/-- The owner byte of a hub peg block is written (R151): waits are flushed, views unbound, pegs zeroed. -/
def setPegBlock (s : State) (n v : Nat) : State :=
  let here := fun h => h / 64 == n
  let gone := s.cmp.waits.filter fun w => here w.peg
  let s1 := { s with cmp := { s.cmp with waits := s.cmp.waits.filter (fun w => !here w.peg) } }
  let s2 := gone.foldl (fun t w => t.completeIdx w.fid w.entry 0x0D (leBytes 2 w.peg)) s1
  ({ s2 with cmp := { s2.cmp with views := s2.cmp.views.filter (fun w => !here w.hubPeg),
                                  hubPegs := s2.cmp.hubPegs.keep fun h => !here h,
                                  hubAt := s2.cmp.hubAt.keep fun h => !here h } }).setObj 0x2340 (n + 1) 0 v

end State

/-! The commands -/

def execPegSetWrite (fid idx : Nat) (s : State) : Host.Outcome State Fault Refusal :=
  s.live (s.pegSet fid idx 0 fun e t =>
    let h := e.u16 0x0A
    if t.ownsPeg fid h then (t.setHubPeg h (e.u32 0x0C)).completeIdx fid e.idx 0 (pegResult h (e.u32 0x0C))
    else t.complete fid e 0x12 (leBytes 2 h))

def execPegSetAdd (fid idx : Nat) (s : State) : Host.Outcome State Fault Refusal :=
  s.live (s.pegSet fid idx 1 fun e t =>
    let h := e.u16 0x0A
    let ports := [0, 1].filterMap fun p => (t.lastBusBefore fid idx p).map fun a => (p, a)
    if !t.ownsPeg fid h then t.complete fid e 0x12 (leBytes 2 h)
    else if t.earlierHas fid e Entry.places then t
    else if ports.isEmpty then t.pegAdded fid e
    else if ports.any fun p => !t.busOk p.1 then (t.raiseSource 7).complete fid e 0x0B (leBytes 2 h)
    else (ports.foldl (fun u p => u.issueOrdering p.1 (p.2 - 4) fid (.pegAdd fid idx)) t).setEntry fid
      { e with stage := .busy, left := ports.length })

/-- A WAIT whose threshold is met completes with OK, whether 64 others wait or not (DESIGN CHOICE, log 147). In a drawer that stops no WAIT stays pending
(R166, R370). -/
def execPegSetWait (fid idx : Nat) (s : State) : Host.Outcome State Fault Refusal :=
  s.live (s.pegSet fid idx 2 fun e t =>
    let h := e.u16 0x0A
    if !t.ownsPeg fid h then t.complete fid e 0x12 (leBytes 2 h)
    else if pegMet (t.hubPeg h) (e.u32 0x0C) then t.complete fid e 0 (pegResult h (t.hubPeg h))
    else if t.drawerState fid ≠ 0 then t.complete fid e 0x11 (leBytes 2 h)
    else if 64 ≤ (t.cmp.waits.filter (·.fid == fid)).length then t.complete fid e 0x12 (leBytes 2 h)
    else ({ t with cmp := { t.cmp with waits := t.cmp.waits ++ [PegWait.mk fid idx h (e.u32 0x0C)] } }).busy fid e)

def execPegSetBind (fid idx : Nat) (s : State) : Host.Outcome State Fault Refusal :=
  s.live (s.pegSet fid idx 3 fun e t =>
    let h := e.u16 0x0A
    if !t.slotQuiet fid e (e.u8 0x10) then t
    else if !t.ownsPeg fid h ∨ !t.viewExists fid e then t.complete fid e 0x12 (leBytes 2 h)
    else
      let t1 := t.unbind fid (e.u8 0x10) (e.u16 0x12) (e.u8 0x11)
      ({ t1 with cmp := { t1.cmp with views := t1.cmp.views ++ [ViewBinding.mk fid (e.u8 0x10) (e.u16 0x12) (e.u8 0x11) h] } }).complete fid e 0
        (leBytes 2 h))

def execPegSetUnbind (fid idx : Nat) (s : State) : Host.Outcome State Fault Refusal :=
  s.live (s.pegSet fid idx 4 fun e t =>
    if !t.slotQuiet fid e (e.u8 0x10) then t
    else if !t.viewExists fid e then t.complete fid e 0x12 [0, 0]
    else (t.unbind fid (e.u8 0x10) (e.u16 0x12) (e.u8 0x11)).complete fid e 0 [0, 0])

/-- The RWS target is the drawer that owns the block now; a block with VALID clear is always writable (R151). -/
def execHubPegBlockWrite (block value : Nat) (s : State) : Host.Outcome State Fault Refusal :=
  let old := s.obj 0x2340 (block + 1)
  s.liveLedger (if 64 ≤ block ∨ 255 < value ∨ (128 ≤ old ∧ s.drawerState (old % 128) ≠ 2) then s else s.setPegBlock block value)

end Sys2Proof.Machine
end

