-- ==== Sys2Proof/Machine/Jobs.lean ====
section
/-! DEFINITION. Machine/Jobs.lean: job slots and jobs (R80, R83, R84, R93, R114–R120). -/

namespace Sys2Proof.Machine

namespace State

/-- The owner byte of a bench in force (R369). -/
def benchOwner (s : State) (b : Nat) : Nat := (nth 0 (s.blob 0x2302 1) b).toNat

/-- The benches of a stack that a drawer holds, in ascending index. -/
def benchesOf (s : State) (d k : Nat) : List Nat :=
  ((List.range 64).map (64 * k + ·)).filter fun b => s.benchOwner b == 128 + d

/-- The module IDs of the split's ranks (R187). -/
def membersOf (s : State) (d : Nat) : List Nat :=
  if s.obj 0x2810 1 d = 0 then [s.moduleId] else ((s.blob 0x2810 2 d).map BitVec.toNat).take (s.obj 0x2810 1 d)

/-- The drawer holds at least the benches that an image assigns to each stack (R84). -/
def enoughBenches (s : State) (d : Nat) (m : Image) : Bool :=
  (List.range 8).all fun k => (m.benches.filter (· == k)).length ≤ (s.benchesOf d k).length

/-- Device pieces of a DVA range inside held windows (R138): none outside a window or in a chunk not owned. -/
def windowPieces (s : State) (d : Nat) : Nat → Nat → Nat → Option (List Piece)
  | 0, _, _ => some []
  | fuel + 1, dva, len =>
    if len = 0 then some []
    else
      let n := min len (65536 - dva % 65536)
      match s.windowLeaf d dva with
      | some (_, leaf) =>
        let off := dpaOffset (pteDpa leaf) + dva % 65536
        if pteHost leaf || !s.ownedBy d off then none
        else (s.windowPieces d fuel (dva + n) (len - n)).map (.dev off n :: ·)
      | none => none

def windowRange (s : State) (d dva len : Nat) : Option (List Piece) := s.windowPieces d (len / 65536 + 2) dva len

/-- Read bytes of windows for a ring entry; none after a parity error, which a bad entry of the window's map is too (R146). -/
def windowRead (s : State) (d dva len : Nat) (ps : List Piece) : Option (List Byte) × State :=
  if s.mapBad d dva len then (none, s.parityMet (ps.head?.getD (.dev 0 0))) else s.readPieces ps

/-- The stack a placed section belongs in (R83). -/
def sectionStack (m : Image) (x : Section) : Nat := if x.kind = 1 then nth 0 m.benches x.target else x.target

/-- Write the placed sections into the load area (R114, step 6). -/
def placeSections (s : State) (d base : Nat) (bs : List Byte) (m : Image) : Option State :=
  m.sections.foldl
    (fun acc x => match acc with
      | some t =>
        if !placedType x.kind then some t
        else (t.windowRange d (base + x.place) x.size).map fun ps => (t.writePieces d ps (slice bs x.offset x.size)).race ps
      | none => none) (some s)

/-- A placed section belongs to a stack whose hub interface is lost: the load waits (R472). -/
def loadHeld (s : State) (m : Image) : Bool := m.sections.any fun x => placedType x.kind && (s.stack (sectionStack m x)).lost

/-- Where a load meets a bad entry of a window's map for a placed section (R146). -/
def sectionBad (s : State) (d base : Nat) (m : Image) : Option Piece :=
  (m.sections.find? fun x => placedType x.kind && s.mapBad d (base + x.place) x.size).map fun x => .dev (sectionStack m x * 2 ^ 36) 1

/-- The RESULT of LOAD_JOB (R353). -/
def loadResult (slot build : Nat) : List Byte := BitVec.ofNat 8 slot :: List.replicate 7 0 ++ leBytes 8 build

/-- The load area's placed sections are left undefined by a load that fails from its step 6 on (R114). -/
def scrambleSections (s : State) (d base : Nat) (m : Image) : State :=
  m.sections.foldl
    (fun t x => if placedType x.kind then (match t.windowRange d (base + x.place) x.size with
      | some ps => t.scramblePieces d ps
      | none => t) else t) s

/-- LOAD_JOB (R114): once it has waited under R80 its slot is empty, whatever it waits for after that. -/
def runLoad (s : State) (f : Nat) (e : Entry) : State :=
  let slot := e.u8 8
  let len := e.u64 0x18
  let base := e.u64 0x20
  if s.earlierHas f e (fun x => x.opcode == 0x31 && x.u8 8 == slot) then s
  else
    let s0 := s.setSlot f slot none
    let fail := fun (t : State) st => t.complete f e st [BitVec.ofNat 8 slot]
    match e.buf 0x0C with
    | none => s0
    | some b =>
      match s0.resolveBuf f b len false false with
      | (.wait, s1) => s0.moveWait f e s1
      | (.fail st, s1) => fail s1 st
      | (.ok ps, s1) =>
        if !s1.piecesReady ps then s0
        else match s1.readPieces ps with
        | (none, s2) => fail s2 0x0B
        | (some bs, s2) =>
          let members := s2.membersOf f
          let m := Image.parse bs
          if !imageOk bs len base members then fail s2 0x0E
          else if !s2.enoughBenches f m then fail s2 0x0C
          else if !s2.coveredBy f base m.loadSize (fun _ => true) then fail s2 0x06
          else if m.sections.any (fun x => placedType x.kind && !s2.coveredBy f (base + x.place) x.size fun w => w.stack == sectionStack m x) then
            fail s2 0x0C
          else if s2.loadHeld m then s0
          else if !relocatedOk bs base members then fail (s2.scrambleSections f base m) 0x0E
          else match s2.sectionBad f base m, s2.placeSections f base (relocate bs m base members (relocsOf bs m)) m with
            | some p, _ => fail ((s2.parityMet p).scrambleSections f base m) 0x0B
            | none, none => fail (s2.scrambleSections f base m) 0x02
            | none, some s3 =>
              let used := ((relocsOf bs m).filter (·.kind == 2)).map fun r =>
                let k := bits r.addend 51 44
                k * 256 + nth 0 members k
              (s3.setSlot f slot (some ⟨m, base, used.dedup⟩)).complete f e 0 (loadResult slot m.buildId)

/-- The size of an image's argument block (R93). -/
def argSize (m : Image) : Nat := m.commonSize + m.benches.length * m.sliceSize

/-- Common argument word k of an argument block. -/
def argWord (args : List Byte) (k : Nat) : Nat := leAt args (8 * k) 8

/-- The base of a declared range once its argument word has been added (R85). The rule gives the sum no width: a DPA's is taken modulo 2^52,
as R90 takes an effective base, and a DVA's is not reduced, so that one past 2^48 lies in no window (DESIGN CHOICE, log 119). -/
def rangeBase (args : List Byte) (r : DeclRange) : Nat :=
  if r.arg = 0 then r.base else if r.kind = 2 then (r.base + argWord args r.arg) % 2 ^ 52 else r.base + argWord args r.arg

/-- Steps 3 to 6 of R115. -/
def runChecks (s : State) (d : Nat) (k : Slot) : Bool :=
  let m := k.image
  let members := s.membersOf d
  s.obj 0x2800 2 == m.routeEpoch && members.length == m.moduleCount &&
  k.members.all (fun x => decide (x / 256 < members.length) && nth 0 members (x / 256) == x % 256) &&
  (2 ≤ s.level || m.pairings &&& stage1Pairings == m.pairings) && s.enoughBenches d m

/-- Every range of a job's residency check, KIND and STACK with it (R115, steps 7 and 8). -/
def residencyRanges (k : Slot) (argBase : Nat) (args : List Byte) : List (Nat × Nat × Nat × Nat) :=
  (k.loadBase, k.image.loadSize, 0, 8) :: (argBase, argSize k.image, 0, 8) ::
    (k.image.ranges.filter (·.kind != 2)).map fun r => (rangeBase args r, r.length, r.kind, r.stack)

/-- A page move in progress would change a window that covers some of the ranges: RUN_JOB's checks stand before the move or after it
(R20, R142). -/
def movesMeet (s : State) (d : Nat) (rs : List (Nat × Nat × Nat × Nat)) : Bool :=
  let ws := (s.windows d).filter fun w => rs.any fun r => overlaps w.base w.length r.1 r.2.1
  s.mem.moves.any fun m => m.drawer == d && ws.any fun w => overlaps w.base w.length m.base m.size

/-- RUN_JOB's checks, and the job that then waits for dispatch (R115, R116). -/
def runRun (s : State) (f : Nat) (e : Entry) : State :=
  let slot := e.u8 8
  let base := e.u64 0x20
  let fail := fun (t : State) st => t.complete f e st e.plainResult
  if s.earlierHas f e (fun x => x.opcode == 0x30 && x.u8 8 == slot) then s
  else match s.slot f slot with
    | none => fail s 0x0C
    | some k =>
      if e.stopped then fail s 0x11
      else if 1 < k.image.moduleCount ∧ s.obj 0x2800 3 ≠ 0 then s
      else if !s.runChecks f k then fail s 0x0C
      else if !s.coveredBy f k.loadBase k.image.loadSize (fun _ => true) ∨ !s.coveredBy f base (argSize k.image) (fun _ => true) then
        fail s 0x06
      else match s.windowRange f base (argSize k.image) with
        | none => fail s 0x06
        | some ps =>
          if s.stackHeld ps then s
          else match s.windowRead f base (argSize k.image) ps with
          | (none, s1) => fail s1 0x0B
          | (some args, s1) =>
            let rs := residencyRanges k base args
            if s.movesMeet f rs then s
            else if !rs.all (fun r => s1.coveredBy f r.1 r.2.1 fun w => r.2.2.1 != 1 || w.writable) then fail s1 0x06
            else if !rs.all (fun r => r.2.2.2 == 8 || s1.coveredBy f r.1 r.2.1 fun w => w.stack == r.2.2.2) then fail s1 0x0C
            else if argWord args 0 ≠ 0 then fail s1 0x0C
            else
              let j : Job :=
                { fid := f, entry := e.idx, slot := slot, image := k.image, loadBase := k.loadBase, argBase := base, args := args,
                  map := [], dispatchedAt := 0, deadline := 0, work := [], nextWork := 0, ordinals := [], failure := none,
                  stopping := false, windows := (rs.flatMap fun r => s1.touching f r.1 r.2.1).dedup,
                  ranges := k.image.ranges.map fun r => { r with base := rangeBase args r }, wrote := [] }
              ({ s1 with cmp := { s1.cmp with checked := s1.cmp.checked ++ [j] } }).busy f e

/-- Map a drawer's benches onto logical benches (R84). -/
def mapBenches (s : State) (d : Nat) (m : Image) : List Nat :=
  m.benches.zipIdx.map fun (k, l) => nth 0 (s.benchesOf d k) ((m.benches.take l).filter (· == k)).length

/-- Give a bench its logical bench: pegs zeroed but for bound views, the argument window filled, the dispatch asked of the
wake governor (R93, R116, R150). -/
def dispatchBench (s : State) (d : Nat) (j : Job) (l b : Nat) : State :=
  let v := s.bench b
  let bound := fun p => s.cmp.views.any fun w => w.fid == j.fid && w.slot == j.slot && w.logical == l && w.view == p
  let window := padTo 1024 (j.args.take j.image.commonSize) ++ padTo 3072 (slice j.args (j.image.commonSize + l * j.image.sliceSize) j.image.sliceSize)
  (s.setBench b { v with pegs := v.pegs.keep bound, pegAt := [], store := v.store.writeBytes 0x3E000 window, job := some d, logical := l, pc := 0,
                         loops := [], ended := false, awaits := none, buffered := [], raced := [] }).askWake b

/-- The record of a job (R118, R353). -/
def jobResult (j : Job) : List Byte :=
  let (l, i) := match j.failure with
    | some (st, l, i) => if st = 0x0C ∨ st = 0x0B then (l, i) else (0xFFFF, 0xFFFFFFFF)
    | none => (0xFFFF, 0xFFFFFFFF)
  [BitVec.ofNat 8 j.slot, 0] ++ leBytes 2 l ++ leBytes 4 i

/-- A bench takes a new owner: cleared before the new drawer's first dispatch (R68, R369). -/
def giveBench (s : State) (b v : Nat) : State :=
  let s1 := s.setBlob 0x2302 1 0 (overlay (s.blob 0x2302 1) b [BitVec.ofNat 8 v])
  s1.setBench b { Bench.reset with since := (s.bench b).since, sinceRun := (s.bench b).sinceRun, sinceSkip := (s.bench b).sinceSkip }

/-- Owner changes that waited for a job take effect (R116, R369). -/
def applyOwners (s : State) (bs : List Nat) : State :=
  let due := s.cmp.ownerDue.filter fun o => bs.contains o.1
  due.foldl (fun t o => t.giveBench o.1 o.2)
    { s with cmp := { s.cmp with ownerDue := s.cmp.ownerDue.filter fun o => !bs.contains o.1 } }

/-- Every bench of a job has executed END. -/
def allEnded (s : State) (j : Job) : Bool := j.map.all fun b => (s.bench b).ended

/-- Take a job off its benches. -/
def clearJob (s : State) (d : Nat) (j : Job) : State :=
  (j.map.foldl (fun t b => t.setBench b { t.bench b with job := none, loops := [], awaits := none }) (s.setJob d none)).applyOwners j.map

/-- The contents of every declared range that a job has written are undefined after a status other than OK (R78, R118). -/
def scrambleWrites (s : State) (d : Nat) (j : Job) : State :=
  j.wrote.foldl
    (fun t i => match j.ranges[i]? with
      | some r => (match t.windowRange d r.base r.length with
        | some ps => t.scramblePieces d ps
        | none => t)
      | none => t) s

end State

/-! The commands -/

def execLoadJob (fid idx : Nat) (s : State) : Host.Outcome State Fault Refusal :=
  s.live (s.runEntry fid idx [0x30] fun e t => t.runLoad fid e)

def execRunJob (fid idx : Nat) (s : State) : Host.Outcome State Fault Refusal :=
  s.live (s.runEntry fid idx [0x31] fun e t => t.runRun fid e)

/-- The oldest job whose checks have passed is dispatched once the drawer's running job has completed (R116), on the benches that the drawer
then holds (R84). The argument block is read as it then stands (R93). A change of the membership since its checks began does not touch it
(R187), and no route change comes between them (R191, State.holdStarts). -/
def execJobDispatch (fid idx : Nat) (s : State) : Host.Outcome State Fault Refusal :=
  s.live (match s.cmp.checked.find? (fun j => j.fid == fid) with
    | some j =>
      if j.entry ≠ idx ∨ (s.job fid).isSome then s
      else
        let s1 := { s with cmp := { s.cmp with checked := s.cmp.checked.erase j } }
        if !s1.enoughBenches fid j.image then s1.completeIdx fid idx 0x0C (State.jobResult j)
        else match s1.windowRange fid j.argBase (State.argSize j.image) with
          | none => s1.completeIdx fid idx 0x06 (State.jobResult j)
          | some ps =>
            if s1.stackHeld ps then s
            else match s1.windowRead fid j.argBase (State.argSize j.image) ps with
            | (none, s2) => s2.completeIdx fid idx 0x0B (State.jobResult j)
            | (some args, s2) =>
              let map := s2.mapBenches fid j.image
              let us := if j.image.deadline = 0 then 10000000 else j.image.deadline
              let j1 := { j with args := args, map := map, dispatchedAt := s.now, deadline := s.now + us * 1000000 }
              map.zipIdx.foldl (fun t (b, l) => t.dispatchBench fid j1 l b) (s2.setJob fid (some j1))
    | none => s)

def execJobComplete (drawer : Nat) (s : State) : Host.Outcome State Fault Refusal :=
  s.live (match s.job drawer with
    | some j =>
      if j.work ≠ [] ∨ (j.failure.isNone ∧ !s.allEnded j) then s
      else
        let st := match j.failure with
          | some (st, _, _) => st
          | none => 0
        ((if st = 0 then s else s.scrambleWrites drawer j).clearJob drawer j).completeIdx j.fid j.entry st (State.jobResult j)
    | none => s)

def execJobDeadlineExpiry (drawer : Nat) (s : State) : Host.Outcome State Fault Refusal :=
  s.live (match s.job drawer with
    | some j =>
      if s.now < j.deadline ∨ j.failure.isSome then s
      else match findPos (fun b => !(s.bench b).ended) j.map with
        | some l => s.failJob drawer 0x0C l (s.bench (nth 0 j.map l)).pc
        | none => match j.work with
          | w :: _ => s.failJob drawer 0x0C w.logical w.instr
          | [] => s
    | none => s)

end Sys2Proof.Machine
end

