-- ==== Sys2Proof/Machine/Kitty.lean ====
section
/-! DEFINITION. Machine/Kitty.lean: the kitty's cells (R17, R199, R309): what each drawer holds, what is shared, and whether a drawer
obtains cells. -/

namespace Sys2Proof.Machine

/-- Cells of 256 bytes that so many bytes take. -/
def cellsOf (n : Nat) : Nat := ceilDiv n 256

/-- Cells of a QP: its sent packets that are not acknowledged, and the requests held under R264. -/
def Qp.cells (q : Qp) : Nat := (q.kept.map fun kv => cellsOf kv.2.length).sum + (q.held.map HrtPkt.cells).sum

/-- Cells of the parts of an NVMe command's data units that wait for the rest (R394). -/
def NvmeCmd.cells (m : NvmeCmd) : Nat := cellsOf (m.part.map fun x => x.2.length).sum

namespace State

/-- Cells reserved by a drawer's contexts (R199). -/
def cellsHeld (s : State) (d : Nat) : Nat :=
  ((List.range 64).map fun t => match s.table t with
    | some c => if c.fid = d then c.cells else 0
    | none => 0).sum

/-- KITTY_HELD: the cells a drawer holds: its contexts' (R199), its staged records' (R358, one each; log 88), and its QPs' packets
(R264, R421), and the bytes of its NVME_IOs' Reads that wait for the rest of a data unit (R394). -/
def kittyHeld (s : State) (d : Nat) : Nat :=
  s.cellsHeld d + (s.fn d).staged.length + ((s.hrt.qps.filter fun kv => kv.2.owner == some d).map fun kv => kv.2.cells).sum +
  ((s.clu.ios.filter (·.fid == d)).flatMap fun i => i.cmds.map fun m => m.cells).sum

/-- The kitty's sum at every service level (R309). -/
def kittySum (t : State) : Nat :=
  ((List.range 8).map fun p => t.obj (0x2500 + 16 * p) 8).sum + 4096 + ((List.range 128).map fun d => t.obj 0x2300 3 d).sum

/-- The cells that no drawer may take beyond its guarantee: every guarantee, and from Stage 2 on the ports' reservations (R17, R179, R309). -/
def kittyReserved (s : State) : Nat :=
  (if 2 ≤ s.level then ((List.range 8).map fun p => s.obj (0x2500 + 16 * p) 8).sum + 4096 else 0) + ((List.range 128).map fun d => s.obj 0x2300 3 d).sum

/-- Shared cells that the drawers have taken: what each holds above its own guarantee (R17). -/
def kittyShared (s : State) : Nat := ((List.range 128).map fun d => s.kittyHeld d - s.obj 0x2300 3 d).sum

/-- A drawer obtains n more cells: up to its guarantee always, beyond it from the shared cells that are left (R17). -/
def kittyRoom (s : State) (d n : Nat) : Bool :=
  let held := s.kittyHeld d
  let own := s.obj 0x2300 3 d
  held + n ≤ own || s.kittyShared + (held + n - max held own) ≤ 131072 - s.kittyReserved

end State

end Sys2Proof.Machine
end

