-- ==== Sys2Proof/Machine/HrtBase.lean ====
section
/-! DEFINITION. Machine/HrtBase.lean: queue pair contexts (R250 to R255), the completion of a QP's requests (R275), the passage
to ERROR and RESET (R254, R269, R271), acknowledgements as they are formed (R266, R267), and rate control (R299 to R302). -/

namespace Sys2Proof.Machine

/-- The QP is in ERROR: it sends nothing but the NAK it has sent and the replies of R259 (R251). -/
def Qp.halt (q : Qp) : Qp :=
  { q with state := .error, kept := [], rtx := [], rtxPage := false, timerAt := none, waitUntil := none, stall := none, held := [], busy := none,
           effects := [], spots := [], flushReads := [], ackAt := none, climbAt := none,
           replies := q.replies.filter fun r => match r with
             | .ack ext => 0x10 ≤ beAt ext 0 1
             | .stale _ _ _ _ => true
             | .response _ _ _ _ _ _ => false }

/-- The retransmission timer starts: at RTO_BASE as it is now while the retry count is 0, else at the present timeout (R253, R270). -/
def Qp.startTimer (q : Qp) (now : Nat) : Qp :=
  let t := if q.retries = 0 then q.attr.rtoBase else q.timeout
  { q with timeout := t, timerAt := some (now + t * 1000000) }

/-- The QP's port and lowest lane. -/
def Qp.port (q : Qp) : Nat := q.attr.port / 16 % 8
def Qp.lane (q : Qp) : Nat := q.attr.port % 4

/-- ePSN is left at a NAK_PSN: what was accepted from there on stays in the bits (R269). -/
def Qp.nakAt (q : Qp) (psn : Nat) : Qp :=
  let d := subMod (2 ^ 24) psn q.ePsn
  { q with ePsn := q.ePsn + d, arrived := if d < 2 ^ 23 then q.arrived / 2 ^ d else (q.arrived + 1) * 2 ^ min 256 (2 ^ 24 - d) - 1 }

namespace State

def setQp (s : State) (n : Nat) (q : Qp) : State :=
  { s with hrt := { s.hrt with qps := Sparse.set (fun k => Qp.reset k 0 0) s.hrt.qps n q } }

/-- QPS_AVAILABLE (R249). -/
def qpsAvailable (s : State) : Nat := if s.level < 2 then 1024 else 65536

/-- The context is cached (R250); a use makes it the most recent. -/
def cachedQp (s : State) (n : Nat) : Bool := s.hrt.cached.contains n
def touchQp (s : State) (n : Nat) : State := { s with hrt := { s.hrt with cached := n :: s.hrt.cached.filter (· != n) } }

/-- Run on a context that is cached; otherwise the work waits (R250). -/
def withQp (s : State) (n : Nat) (k : Qp → State → State) : State :=
  if s.cachedQp n then k (s.qp n) (s.touchQp n) else s

/-- A QP_ERROR event (R355). -/
def qpErrorEvent (s : State) (n : Nat) (q : Qp) (status : Nat) : State :=
  match q.owner with
  | some f => s.raiseFn f 0x06 n ([0, 0, 0, 0] ++ leBytes 4 n ++ leBytes 1 status)
  | none => s

/-! Requests and their ends -/

/-- A request has ended with a status: its entry completes, its job's work is done, or its hand is told. -/
def endReq (s : State) (n : Nat) (owner : Option Nat) (r : HrtReq) (status : Nat) : State :=
  match r.origin with
  | .entry idx => s.completeIdx (owner.getD 0) idx status (leBytes 4 n)
  | .job d w => s.workDone d w status
  | .hand t seq => s.noteHand t seq (if status = 0 then 0 else 9)

/-- The status with which a request has finished, by what has been acknowledged and placed (R275). -/
def reqDone (q : Qp) (r : HrtReq) : Option Nat :=
  match r.status with
  | some st => some st
  | none =>
    if r.op = 3 then (if r.placed.length = r.count then some r.kept else none)
    else if r.op = 5 ∨ r.op = 6 then none
    else if r.sent = r.count ∧ r.first + r.count ≤ q.una then some 0 else none

/-- The requests that may end now: hand packets and SENDs of jobs at once, entries in ring order (R275). -/
def splitReqs (q : Qp) : List HrtReq → Bool → List (HrtReq × Nat) × List HrtReq
  | [], _ => ([], [])
  | r :: rs, held =>
    let entry := match r.origin with
      | .entry _ => true
      | _ => false
    match reqDone q r with
    | some st =>
      if entry && held then
        let x := splitReqs q rs held
        (x.1, { r with status := some st } :: x.2)
      else
        let x := splitReqs q rs held
        ((r, st) :: x.1, x.2)
    | none =>
      let x := splitReqs q rs (held || entry)
      (x.1, r :: x.2)

/-- Forget placements of a QP that other messages cannot meet any more (R262). -/
def dropPlaces (s : State) (n : Nat) (p : HrtPlace → Bool) : State :=
  { s with hrt := { s.hrt with placed := s.hrt.placed.filter fun x => !(x.qp == n && p x) } }

/-- What a QP has out as it leaves its state: an AtomicOp still completes (R286), and its placements stand alone (R262). -/
def leaveOut (s : State) (n : Nat) : State :=
  let q := s.qp n
  let t := s.dropPlaces n fun _ => true
  match q.busy with
  | some (.atomic p port a) => { t with hrt := { t.hrt with strays := t.hrt.strays ++ [⟨n, q.owner.getD 0, port, a, p⟩] } }
  | _ => t

/-- Requests that have finished end. -/
def settleQp (s : State) (n : Nat) : State :=
  let q := s.qp n
  let x := splitReqs q q.reqs false
  (x.1.foldl (fun st p => st.endReq n q.owner p.1 p.2) (s.setQp n { q with reqs := x.2 })).dropPlaces n fun y =>
    y.requester && x.1.any fun p => p.1.first == y.msg

/-- Entries that name the QP, have been fetched and may start, and whose operation has not begun. -/
def unstarted (s : State) (f n : Nat) : List Entry :=
  let v := s.fn f
  v.entries.filter fun e => e.stage = .ready && 0x10 ≤ e.opcode && e.opcode ≤ 0x15 && e.u32 8 == n && mayStart v e &&
    (s.earlyStatus f e).isNone

/-- End every request and every entry of the QP that has not completed, in ring order: finished ones with their status, the
one that `named` picks with `status`, the others with FLUSHED (R254). -/
def flushQp (s : State) (n : Nat) (named : HrtReq → Bool) (status : Nat) : State :=
  let q := s.qp n
  let f := q.owner.getD 0
  let s1 := q.reqs.foldl
    (fun st r => st.endReq n q.owner r (match reqDone q r with
      | some d => d
      | none => if named r then status else 0x0D)) (s.setQp n { q with reqs := [] })
  (s1.unstarted f n).foldl (fun st e => st.completeIdx f e.idx 0x0D (leBytes 4 n)) s1

/-- The device moves a QP to ERROR (R254): the entry that `named` picks takes `status`, the others FLUSHED; QP_ERROR carries
`status`. -/
def qpError (s : State) (n : Nat) (named : HrtReq → Bool) (status : Nat) : State :=
  let s1 := (s.leaveOut n).flushQp n named status
  let q := s1.qp n
  (s1.setQp n q.halt).qpErrorEvent n q status

/-- All pending entries, started or not, complete with one status (R259, R271). -/
def qpErrorAll (s : State) (n status : Nat) : State :=
  let q := s.qp n
  let f := q.owner.getD 0
  let late := s.unstarted f n
  let s1 := q.reqs.foldl (fun st r => st.endReq n q.owner r ((reqDone q r).getD status)) ((s.leaveOut n).setQp n { q with reqs := [] })
  let s2 := late.foldl (fun st e => st.completeIdx f e.idx status (leBytes 4 n)) s1
  let q2 := s2.qp n
  (s2.setQp n q2.halt).qpErrorEvent n q2 status

/-- Empty a security association and its two slots when its QP passes to RESET (R418, item 4). -/
def freeSa (s : State) (d a : Nat) : State :=
  if a = 0 then s
  else
    let i := 0x2B40 + a - 1
    ((((s.setObj i 1 d 0xFFFF).setObj i 2 d 0xFFFF).setObj i 3 d 0).setObj i 4 d 0xFFFFFFFF).setObj i 5 d 0

/-- The QP passes to RESET: its INCARNATION rises, its quarantine begins and its ownership ends (R254, R255). -/
def qpToReset (s : State) (n : Nat) : State :=
  let q := s.qp n
  (s.leaveOut n).setQp n { Qp.reset n ((q.incarnation + 1) % 256) (s.now + 4000000000) with
    replies := q.replies.filter fun r => match r with
      | .stale _ _ _ _ => true
      | _ => false }

/-! Acknowledgements -/

/-- The acknowledgement extension at this moment (R244). -/
def ackExt (q : Qp) (syndrome nakPsn retryAfter : Nat) : List Byte :=
  let sack := q.arrived / 2 * 2
  beBytes 4 (syndrome * 2 ^ 24 + (q.ePsn + 2 ^ 24 - 1) % 2 ^ 24) ++ beBytes 4 (bnat q.ece * 2 ^ 31 + q.recvLimit % 65536) ++
  beBytes 4 (nakPsn % 2 ^ 24) ++ beBytes 4 retryAfter ++ (List.range 8).flatMap fun i => beBytes 4 (sack / 2 ^ (32 * i) % 2 ^ 32)

/-- An acknowledgement at this ePSN tells the sender of the message that it is complete. -/
def acked (s : State) (n : Nat) (x : HrtPlace) : Bool :=
  !x.requester && s.hrt.placed.any fun y => y.qp == n && !y.requester && y.msg == x.msg && y.last && decide (y.psn < (s.qp n).ePsn)

/-- Queue an ACK or a NAK: it clears ECE, the coalescing count and the delay timer (R267). Messages that it acknowledges are complete for their
sender (R262). -/
def sendAck (s : State) (n syndrome nakPsn retryAfter : Nat) : State :=
  let q := s.qp n
  (s.dropPlaces n (s.acked n)).setQp n { q with replies := q.replies ++ [.ack (ackExt q syndrome nakPsn retryAfter)], ece := false, coalesced := 0, ackAt := none }

/-- Queue a fatal NAK (R269). -/
def sendNak (s : State) (n syndrome psn : Nat) : State := s.sendAck n syndrome psn 0

/-- Status that a fatal syndrome stands for (R269). -/
def syndromeStatus (c : Nat) : Nat :=
  if c = 0x20 then 3 else if c = 0x23 then 0x0B else if c = 0x24 then 0x0F else 4

/-- The responder answers with a fatal NAK, its ACK_PSN one before NAK_PSN, and enters ERROR (R269). -/
def fatalNak (s : State) (n syndrome psn : Nat) : State :=
  let s1 := (s.setQp n ((s.qp n).nakAt psn)).sendNak n syndrome psn
  let s2 := s1.qpError n (fun _ => false) (syndromeStatus syndrome)
  s2.setQp n { s2.qp n with fatal := some (syndrome, psn % 2 ^ 24) }

/-! Rate control (R299 to R301) -/

/-- The table F of R299. -/
def rateF (j : Nat) : Nat := nth 65536 [65536, 60097, 55109, 50535, 46341, 42495, 38968, 35734] j

/-- Rc in Mb/s (R299); with CC_ENABLE 0 it stays at L (R302). -/
def qpRate (s : State) (q : Qp) : Nat :=
  let l := s.lineRate (q.port)
  if q.rate.enable then max q.rate.rateMin (l * rateF (q.rung % 8) / (65536 * 2 ^ (q.rung / 8))) else l

/-- The largest frame of a QP (R309). -/
def largestFrame (tags : Nat) (v6 secure : Bool) (ps : Nat) : Nat :=
  14 + 4 * tags + (if v6 then 40 else 20) + 8 + 16 + 32 + ps + (if secure then 16 else 0) + 4 + 4

/-- The bucket's level now, filled at Rc up to one frame (R302). -/
def bucketNow (s : State) (q : Qp) : Int :=
  let cap := largestFrame q.attr.tags (!isMapped q.attr.srcIp) (q.attr.sa != 0) (paySize q.attr.payload) * 8 * 1000000
  min (cap : Int) (q.bucket.level + (s.qpRate q * (s.now - q.bucket.stamp) : Nat))

/-- Time since a moment, in ps; nothing when there was none. -/
def since (s : State) (t : Option Nat) : Option Nat := t.map fun x => s.now - x

/-- The congestion record now (R303). -/
def rateNow (s : State) : RateSet :=
  let v := s.obj 0x2702
  ⟨v 1 == 1, v 2, v 3, v 4, v 5, v 6, v 7, v 8, v 9⟩

/-- At an event or a timer expiry of a QP the record as it stands takes effect for it: its pressure keeps the new bound, and its
bucket has filled until now at the old rate (R302, R303). -/
def takeRate (s : State) (n : Nat) : State :=
  let q := s.qp n
  let r := s.rateNow
  s.setQp n { q with bucket := ⟨s.bucketNow q, s.now⟩, rate := r, pressure := min q.pressure (r.stepMax - r.stepEcn) }

/-- An expiry, due at t, of the climb timer (R300). With CC_ENABLE 0 it only restarts (R302, log 125). -/
def climb (s : State) (n t : Nat) : State :=
  let s1 := s.takeRate n
  let q := s1.qp n
  let again := some (t + q.rate.interval * 1000000)
  if q.rate.enable then
    let c := q.clean + 1
    let r := q.rung - (if q.rate.run < c then 2 else 1)
    s1.setQp n { q with clean := c, rung := r, climbAt := if r = 0 then none else again }
  else s1.setQp n { q with climbAt := again }

/-- The expiries of the climb timer that are due act before an ECN event or a loss cut of the same tick (R300). -/
def climbDue (s : State) (n : Nat) : Nat → State
  | 0 => s
  | fuel + 1 =>
    match (s.qp n).climbAt with
    | some t => if t ≤ s.now then (s.climb n t).climbDue n fuel else s
    | none => s

/-- An ACK with ECE was taken (R299). Whether it is an ECN event is judged by HOLD_INTERVAL as the QP has it in force: inside it the ECE is
ignored, and no written record takes effect with it (R303, log 125). -/
def ecnEvent (s : State) (n : Nat) : State :=
  let s0 := s.climbDue n 64
  let q0 := s0.qp n
  let within (t : Option Nat) (us : Nat) : Bool := match s.since t with
    | some e => decide (e < us * 1000000)
    | none => false
  if within q0.lastEcn q0.rate.hold || within q0.lastCut q0.rate.hold then s0
  else
    let s1 := s0.takeRate n
    let q := s1.qp n
    let r := q.rate
    if !r.enable then s1
    else
    let pr := if within q.lastEcn r.window then min (r.stepMax - r.stepEcn) (q.pressure + 1) else 0
    (s1.setQp n { q with pressure := pr, rung := min 63 (q.rung + r.stepEcn + pr), clean := 0, lastEcn := some s.now,
                         climbAt := some (s.now + r.interval * 1000000) }).count 0x5101 0x0D 1

/-- A loss cut (R301). -/
def lossCut (s : State) (n : Nat) : State :=
  let s1 := (s.climbDue n 64).takeRate n
  let q := s1.qp n
  if q.rate.enable then
    (s1.setQp n { q with rung := min 63 (q.rung + q.rate.stepLoss), clean := 0, lastCut := some s.now,
                         climbAt := some (s.now + q.rate.interval * 1000000) }).count 0x5101 0x0E 1
  else s1

end State

end Sys2Proof.Machine
end

