-- ==== Sys2Proof/Machine/Keys.lean ====
section
/-! DEFINITION. Machine/Keys.lean: taking a key from a slot (R414, R415), and GCM as HRT packets use it (R419, R421). -/

namespace Sys2Proof.Machine

namespace State

def keySlot (s : State) (d k : Nat) : KeySlot := Sparse.get (fun _ => KeySlot.empty) s.cipher.slots (4096 * d + k)

def setKeySlot (s : State) (d k : Nat) (v : KeySlot) : State :=
  { s with cipher := { s.cipher with slots := Sparse.set (fun _ => KeySlot.empty) s.cipher.slots (4096 * d + k) v } }

/-- Empty a slot; its key leaves the cache. -/
def emptySlot (s : State) (d k : Nat) : State :=
  let t := s.setKeySlot d k KeySlot.empty
  { t with cipher := { t.cipher with cache := t.cipher.cache.filter (· != 4096 * d + k) } }

/-- Empty every slot of a drawer (R411). -/
def emptySlots (s : State) (d : Nat) : State :=
  { s with cipher := { s.cipher with slots := s.cipher.slots.keep (· / 4096 != d), cache := s.cipher.cache.filter (· / 4096 != d) } }

/-- Key bytes of a TYPE (R411). -/
def keyBytes (type : Nat) : Nat := if type = 1 then 16 else if type = 2 then 32 else if type = 3 then 64 else 0

/-- The key enters the cache as the most recently used; 1,024 keys stay, and pinned ones do not leave (R414, R418). -/
def cacheKey (s : State) (key : Nat) (pinned : List Nat) : State :=
  let c := key :: s.cipher.cache.filter (· != key)
  let c1 := if c.length ≤ 1024 then c
    else match findPos (fun k => !pinned.contains k) c.reverse with
      | some i => c.eraseIdx (c.length - 1 - i)
      | none => c.dropLast
  { s with cipher := { s.cipher with cache := c1 } }

/-- Slots that bound associations have pinned: both slots of every SA that is BOUND to a QP which has passed from INIT to RTR (R418,
item 2). -/
def pinnedSlots (s : State) : List Nat :=
  s.led.vals.filterMap fun kv =>
    let sub := kv.1 / 65536 % 256
    let idx := kv.1 / 16777216
    let d := kv.1 % 65536
    if 0x2B40 ≤ idx ∧ idx < 0x2B80 ∧ (sub = 1 ∨ sub = 2) ∧ s.obj idx 3 d = 2 ∧ (s.qp (s.obj idx 4 d)).state ≠ .init then some (4096 * d + kv.2) else none

/-- Count blocks that the engine has processed, and their dummy rounds, from none to three for each (R407, R431; log 144). Factory test
may have turned the countermeasures off (R468). -/
def countBlocks (s : State) (n : Nat) : State :=
  let d := s.freeNat 64
  (d.2.count 0x5800 1 n).count 0x5800 2 (if s.obj 0x7F01 1 = 0 then 0 else d.1 % (3 * n + 1))

/-- Count the blocks of unwrapping a key: six for each 8 bytes that were wrapped (R414, R431; log 144). -/
def countUnwrap (s : State) (wrapped : List Byte) : State := s.countBlocks (6 * (wrapped.length / 8 - 1))

/-- Count the blocks of XTS data units of `block` bytes in `bytes`, each with its tweak (R406, R431; log 144). -/
def countUnits (s : State) (block bytes : Nat) : State := s.countBlocks (bytes / block * (block / 16 + 1))

/-- Count the blocks of an operation on a packet of a secure QP (R431). -/
def countSecure (s : State) (sa n : Nat) : State := if sa = 0 then s else s.countBlocks n

/-- Take a slot's key: it is unwrapped on first use and whenever it has left the cache (R414, R415). None where the slot is
empty, has failed to unwrap, or fails now. -/
def takeKey (s : State) (d k : Nat) : Option (List Byte) × State :=
  let v := s.keySlot d k
  let key := 4096 * d + k
  if v.state = 0 ∨ v.state = 3 then (none, s)
  else
    let s0 := if s.cipher.cache.contains key then s else (s.count 0x5800 7 1).countUnwrap v.wrapped
    match Aes.unwrapKey (Sparse.get (fun _ => []) s.cipher.keks d) v.wrapped (keyBytes v.type) with
    | some bs =>
      if v.type = 3 ∧ bs.take 32 = bs.drop 32 then (none, (s0.setKeySlot d k { v with state := 3 }).count 0x5800 5 1)
      else (some bs, (s0.setKeySlot d k { v with state := 2 }).cacheKey key s.pinnedSlots)
    | none => (none, (s0.setKeySlot d k { v with state := 3 }).count 0x5800 5 1)

/-- The counted nonce of R419. -/
def countedNonce (n : Nat) : List Byte := List.replicate 4 0 ++ beBytes 8 n

/-- The synthetic nonce of R419. -/
def synthNonce (aad : List Byte) : List Byte :=
  let h := (sha384 ([0x51, 0x4B, 0x53, 0x4E] ++ aad)).take 12
  match h with
  | b :: bs => (b ||| 0x80) :: bs
  | [] => []

end State

end Sys2Proof.Machine
end

