-- ==== Sys2Proof/Machine/HrtSend.lean ====
section
/-! DEFINITION. Machine/HrtSend.lean: how a QP sends: the requests of entries, jobs and hands (R282, R292), the packets they
are cut into (R245), their protection (R419, R421), and the one packet that a QP sends next (R260, R261, R276, R302). -/

namespace Sys2Proof.Machine

namespace State

/-- The cipher engine works in NORMAL mode (R408). -/
def cipherNormal (s : State) : Bool := s.obj 0x2B00 1 == 1

/-- A PAGE_REQUEST for the owning function (R292, R295). -/
def pageRequest (s : State) (n page : Nat) (write responder : Bool) : State :=
  match (s.qp n).owner with
  | some f =>
    (s.raiseFn f 0x07 (2 ^ 48 * (n + 1) + page)
      ([0, 0, 0, 0] ++ leBytes 4 n ++ leBytes 8 (bnat write + 2 * bnat responder) ++ leBytes 8 page))
  | none => s

/-! Requests -/

/-- The packet opcode of an HRT entry's opcode (R239, R344). -/
def hrtOp (entryOp : Nat) : Nat :=
  if entryOp = 0x10 then 1 else if entryOp = 0x11 then 2 else if entryOp = 0x12 then 3 else if entryOp = 0x13 then 5
  else if entryOp = 0x14 then 6 else 8

/-- A request of an opcode over `len` local bytes on a QP. -/
def plainReq (o : HrtOrigin) (op len ps : Nat) : HrtReq :=
  { origin := o, op := op, len := len, key := 0, roff := 0, imm := none, peg := none, operand := 0, compare := 0, buf := .none,
    given := [], pieces := [], waited := none, count := if op = 1 ∨ op = 2 then max 1 (ceilDiv len ps) else if op = 3 then ceilDiv len ps else 1,
    sent := 0, first := 0, index := 0, placed := [], kept := 0, status := none }

/-- The local buffer of an entry against the region rules of R282: a status, or the pieces of a BUS region and the reference
that is still to be translated. -/
def localBuf (s : State) (d : Nat) (b : BufRef) (len : Nat) (write : Bool) : Nat ⊕ (List Piece × BufRef) :=
  match b with
  | .region r off =>
    let g := s.region r
    if 262144 ≤ r ∨ !g.valid ∨ g.owner ≠ d then .inl 2
    else if g.length < off + len then .inl 1
    else if write && !bit g.rights 4 then .inl 2
    else if g.kind = .dva then .inr ([], .dva (g.base + off))
    else .inr (if len = 0 then [] else [.bus g.port (g.base + off) len], .none)
  | .dva a => if 2 ^ 48 < a + len then .inl 0x0E else .inr ([], .dva a)
  | .none => .inr ([], .none)

/-- The request that an HRT entry makes, or the status with which it ends before any packet leaves (R282, R410, R422). -/
def entryReq (s : State) (f : Nat) (e : Entry) (q : Qp) : HrtReq ⊕ Nat :=
  let op := hrtOp e.opcode
  let len := if op = 5 ∨ op = 6 then 8 else if op = 8 then 0 else e.u64 0x18
  let write := op = 3 ∨ op = 5 ∨ op = 6
  if q.state = .reset ∨ q.owner ≠ some f then .inr 0x12
  else if q.state = .error then .inr 0x0D
  else if q.state ≠ .rts then .inr 0x12
  else if (op = 5 ∨ op = 6) ∧ e.u64 0x28 % 8 ≠ 0 then .inr 0x0E
  else
    match e.buf 0x0C with
    | none => .inr 0x0E
    | some b =>
      match s.localBuf f b len write with
      | .inl st => .inr st
      | .inr (ps, rest) =>
        if q.attr.sa ≠ 0 ∧ op = 3 then .inr 0x12
        else if q.attr.sa ≠ 0 ∧ (op = 1 ∨ op = 2) ∧ !s.cipherNormal ∧ len % 16 ≠ 0 then .inr 0x10
        else
          .inl { plainReq (.entry e.idx) op len (paySize q.attr.payload) with
                 len := if op = 8 then e.u64 0x18 else len, key := e.u32 0x20, roff := e.u64 0x28,
                 imm := if e.imm then some (e.u32 0x24) else none, peg := if e.sig then some e.sigPeg else none,
                 operand := e.u64 0x18, compare := e.u64 0x30, buf := rest, pieces := ps }

/-- Every request of the QP has sent all its packets (R260). -/
def allSent (q : Qp) : Bool := q.reqs.all fun r => r.sent == r.count || r.status.isSome

/-- No earlier entry of the QP still waits to start (R260). -/
def firstOfQp (s : State) (f : Nat) (e : Entry) : Bool :=
  (earlier (s.fn f) e).all fun x => !(x.stage = .ready && 0x10 ≤ x.opcode && x.opcode ≤ 0x15 && x.u32 8 == e.u32 8)

/-- An HRT entry starts: R282's checks, then its request joins its QP; a failure ends in its turn (R275). -/
def startHrt (s : State) (f : Nat) (e : Entry) : State :=
  let n := e.u32 8
  s.withQp n fun q t =>
    if !t.firstOfQp f e ∨ (q.owner = some f ∧ !allSent q) then s
    else match t.entryReq f e q with
      | .inr st =>
        let t1 := if st = 0x10 then t.count 0x5800 6 1 else t
        if q.owner ≠ some f ∨ q.state ≠ .rts then t1.complete f e st (leBytes 4 n)
        else
          ((t1.busy f e).setQp n { q with reqs := q.reqs ++
            [{ plainReq (.entry e.idx) 8 0 1024 with count := 0, status := some st }] }).settleQp n
      | .inl r => (t.busy f e).setQp n { q with reqs := q.reqs ++ [r] }

/-! Packets -/

/-- The whole packet of a QP: base header, extensions, payload and, on a secure QP, the tag (R239, R248). -/
def qpPacket (s : State) (q : Qp) (n op psn : Nat) (first last ackReq sig imm : Bool) (ext payload nonce : List Byte) : List Byte :=
  let sec := q.attr.sa != 0
  let h := hrtBase op first last ackReq sig imm sec payload.length q.attr.remoteInc q.attr.destQpn q.attr.remoteEpoch
    (psn % 2 ^ 24) (s.qp n).incarnation n
  let aad := h ++ ext
  if sec then
    let iv := if nonce = [] then synthNonce aad else nonce
    let c := Aes.gcmText q.txKey iv payload
    withIcrc (aad ++ c ++ Aes.gcmTag q.txKey iv aad c)
  else withIcrc (aad ++ payload)

/-- The tags of a QP's frames: TPID and TCI (R238, R316). -/
def qpTags (s : State) (q : Qp) : List (Nat × Nat) :=
  if q.attr.tags = 0 then []
  else if q.attr.tags = 1 then [(0x8100, q.attr.vlanOuter)]
  else [(s.obj (0x2500 + 16 * q.port) 7, q.attr.vlanOuter), (0x8100, q.attr.vlanInner)]

/-- The traffic class of a QP's packets (R311). -/
def qpClass (s : State) (q : Qp) : Nat := s.frameClass q.port ⟨[], [], s.qpTags q, 0, 0, false⟩ (some q.attr.dscp)

/-- The frame of a packet on path k (R238, R261, R316). -/
def qpFrame (s : State) (q : Qp) (pkt : List Byte) : List Byte :=
  let v6 := !isMapped q.attr.srcIp
  let e := (q.attr.entropy + q.k % q.attr.paths) % 2 ^ 14
  let udp := udpBytes v6 q.attr.srcIp q.attr.dstIp (0xC000 + e) (s.forced 0x2700 1) pkt
  frameOf q.attr.dstMac (s.portMac q.port q.lane) (s.qpTags q) (if v6 then 0x86DD else 0x0800)
    (ipBytesOf v6 q.attr.srcIp q.attr.dstIp q.attr.dscp e udp)

/-- Send one packet of a QP: it takes the next path and is offered to the QP's sub-port (R261, R315). -/
def sendQp (s : State) (n : Nat) (pkt : List Byte) : State :=
  let q := s.qp n
  ((s.setQp n { q with k := (q.k + 1) % 2 ^ 32 }).offerFrame q.port q.lane (s.qpClass q) (n % 8)
    ⟨s.qpFrame q pkt, .hrt, false, false, 0⟩).count 0x5100 1 1

/-- A request packet leaves: it pays the bucket and starts the timer where that is stopped (R270, R302). -/
def sendRequest (s : State) (n : Nat) (pkt : List Byte) : State :=
  let q := s.qp n
  let bits := ((withFcs (s.qpFrame q pkt)).length * 8 * 1000000 : Nat)
  let q1 := if q.timerAt.isSome then q else q.startTimer s.now
  (s.setQp n { q1 with bucket := ⟨s.bucketNow q - bits, s.now⟩ }).sendQp n pkt

/-- The SA's count of synthetic nonces rises (R419). -/
def countSynth (s : State) (n : Nat) : State :=
  let q := s.qp n
  if q.attr.sa = 0 then s
  else
    let i := 0x2B40 + q.attr.sa - 1
    let d := q.owner.getD 0
    s.setObj i 5 d (s.obj i 5 d + 1)

/-- A secure QP has used all its synthetic nonces (R419). -/
def synthSpent (s : State) (q : Qp) : Bool := q.attr.sa != 0 && 2 ^ 32 ≤ s.obj (0x2B40 + q.attr.sa - 1) 5 (q.owner.getD 0)

/-- A QP whose TX key has produced its last synthetic nonce enters ERROR and sends nothing further (R419). -/
def endSpent (s : State) (n : Nat) : State :=
  if s.synthSpent (s.qp n) ∧ (s.qp n).state ≠ .error then s.qpErrorAll n 0x0F else s

/-! Translating local pages (R292) -/

/-- Translate pages of a request's local buffer until `upto` bytes are resolved: the request, the state, and what stopped it. -/
def resolveMore (s : State) (d upto : Nat) (write : Bool) : Nat → HrtReq → HrtReq × State × Option Tr
  | 0, r => (r, s, none)
  | fuel + 1, r =>
    let done := (r.pieces.map Piece.len).sum
    match r.buf with
    | .dva a =>
      if upto ≤ done then (r, s, none)
      else
        let n := min (65536 - (a + done) % 65536) (r.len - done)
        (match s.translate d (a + done) write false with
        | (.device off, s1) => s1.resolveMore d upto write fuel { r with pieces := r.pieces ++ [.dev off n] }
        | (.bus p x, s1) => s1.resolveMore d upto write fuel { r with pieces := r.pieces ++ [.bus p x n] }
        | (t, s1) => (r, s1, some t))
    | _ => (r, s, none)

/-- Replace a request of a QP by position. -/
def setReq (s : State) (n i : Nat) (r : HrtReq) : State :=
  let q := s.qp n
  s.setQp n { q with reqs := setAt q.reqs i r }

/-- A request meets a failure while its packets are being built: alone while no packet of it has left, else the QP ends
(R292). -/
def buildFails (s : State) (n i : Nat) (r : HrtReq) (st : Nat) : State :=
  if r.sent = 0 then (s.setReq n i { r with status := some st, count := 0 }).settleQp n
  else (s.setReq n i { r with status := some st }).qpError n (fun _ => false) st

/-- The first request that still has packets to send, by position. -/
def nextReq (q : Qp) : Option (Nat × HrtReq) :=
  (q.reqs.zipIdx.find? fun x => decide (x.1.sent < x.1.count) && x.1.status.isNone).map fun x => (x.2, x.1)

/-- PSNs that the next packet of a request takes: a READ_REQ takes one per response, up to 64 (R245). -/
def psnsOf (r : HrtReq) : Nat := if r.op = 3 then min 64 (r.count - r.sent) else 1

/-- READ_REQs and atomics whose responses are awaited (R260). -/
def readsOut (q : Qp) : Nat :=
  ((q.reqs.filter (·.op == 3)).map fun r =>
    ((List.range (ceilDiv r.sent 64)).filter fun g =>
      !((List.range (min 64 (r.sent - 64 * g))).all fun j => r.placed.contains (64 * g + j))).length).sum

def atomicsOut (q : Qp) : Nat := (q.reqs.filter fun r => (r.op == 5 || r.op == 6) && r.sent == 1 && r.status.isNone).length

/-- Cells that the next request packet of a QP needs at most: it is kept until it is acknowledged; a READ_REQ is formed anew (R17, R421). -/
def nextCells (q : Qp) : Nat :=
  match nextReq q with
  | some (_, r) =>
    if r.op = 3 then 0
    else cellsOf (84 + (if r.op = 1 ∨ r.op = 2 then min (paySize q.attr.payload) (r.len - r.sent * paySize q.attr.payload) else r.given.length))
  | none => 0

/-- A new request packet may leave (R260, R265, R292, R296). -/
def newReady (q : Qp) : Bool :=
  q.state = .rts && q.stall.isNone && q.waitUntil.isNone &&
  match nextReq q with
  | none => false
  | some (_, r) =>
    decide (q.next + psnsOf r ≤ q.una + 256) &&
    (if r.op == 3 then readsOut q < q.attr.maxReads else true) &&
    (if r.op == 5 || r.op == 6 then atomicsOut q < q.attr.maxAtomics else true) &&
    (if r.op == 1 && r.sent == 0 then
      (let m := subMod 65536 q.sendLimit q.sendIndex
       1 ≤ m && m ≤ 32768) else true)

/-- What a QP would send next: its class of R276, and where the frame goes. A new request waits for its drawer's next cells (R17). -/
def offerOf (s : State) (q : Qp) : Option (Nat × Nat × Nat × Nat) :=
  let own (c : Nat) := some (c, q.port, q.lane, s.qpClass q)
  let acks := q.replies.filter fun r => match r with
    | .response _ _ _ _ _ _ => false
    | _ => true
  match acks with
  | .stale p l tc _ :: _ => some (1, p, l, tc)
  | _ :: _ => own 1
  | [] =>
    if q.replies ≠ [] then own 2
    else if q.state = .rts ∧ q.stall.isNone ∧ q.waitUntil.isNone ∧ q.rtx ≠ [] then (if 0 ≤ s.bucketNow q then own 3 else none)
    else if newReady q ∧ 0 ≤ s.bucketNow q ∧ s.kittyRoom (q.owner.getD 0) (nextCells q) then own 4
    else none

/-- The QP that its pipeline serves next for the same sub-port and class: the best precedence, then the rotating pointer in
ascending QPN (R276). -/
def pipelineTurn (s : State) (n : Nat) (o : Nat × Nat × Nat × Nat) : Bool :=
  let k := ((4 * o.2.1 + o.2.2.1) * 8 + o.2.2.2) * 8 + n % 8
  let rivals := s.hrt.qps.filterMap fun kv =>
    if kv.1 % 8 = n % 8 ∧ s.cachedQp kv.1 then (match s.offerOf kv.2 with
      | some x => if x.2 = o.2 then some (kv.1, x.1) else none
      | none => none)
    else none
  let best := rivals.filter fun x => rivals.all fun y => x.2 ≤ y.2
  let p := s.hrt.pointer.num (k * 8 + o.1)
  match (best.find? fun x => p ≤ x.1) with
  | some x => x.1 == n
  | none => (match best with
    | x :: _ => x.1 == n
    | [] => false)

/-- The re-request of a READ from its first missing packet m, in its group of 64 (R270, R274). -/
def readReq (q : Qp) (r : HrtReq) (m : Nat) : List Byte × Nat :=
  let ps := paySize q.attr.payload
  let stop := min (64 * (m / 64 + 1) * ps) r.len
  (hrtRx r.key (r.roff + m * ps) (q.attr.payload * 2 ^ 30 + (stop - m * ps)), r.first + m)

/-- Remove the first reply that `p` picks. -/
def takeReply (p : HrtReply → Bool) : List HrtReply → Option (HrtReply × List HrtReply)
  | [] => none
  | r :: rs => if p r then some (r, rs) else (takeReply p rs).map fun x => (x.1, r :: x.2)

/-- A NAK leaves: what R305 counts of it. -/
def countNak (s : State) (syndrome : Nat) : State :=
  if syndrome = 0x20 then s.count 0x5101 1 1 else if syndrome = 0x21 then s.count 0x5101 2 1
  else if syndrome = 0x10 then s.count 0x5101 7 1 else s

/-- Send the first acknowledgement or reply of R259. -/
def sendReply (s : State) (n : Nat) (cls : Nat) : State :=
  let q := s.qp n
  let isResp (r : HrtReply) : Bool := match r with
    | .response _ _ _ _ _ _ => true
    | _ => false
  match takeReply (fun r => isResp r == (cls == 2)) q.replies with
  | none => s
  | some (r, rest) =>
    let s1 := s.setQp n { q with replies := rest }
    match r with
    | .stale p l tc fr => ((s1.offerFrame p l tc (n % 8) ⟨fr, .hrt, false, false, 0⟩).count 0x5100 1 1).count 0x5100 0x0F 1
    | .ack ext =>
      let pkt := s.qpPacket q n 0x10 0 true true false false false ext [] []
      ((((s1.countSynth n).countSecure q.attr.sa 1).sendQp n pkt).count 0x5100 (if beAt ext 0 1 < 0x10 then 0x0F else 0x10) 1).countNak (beAt ext 0 1)
    | .response op psn first last ext payload =>
      let pkt := s.qpPacket q n op psn first last false false false ext payload []
      ((s1.countSynth n).countSecure q.attr.sa (ceilDiv payload.length 16 + 1)).sendQp n pkt

/-- Send the next retransmission (R270): stored bytes, or a re-request of a READ. A PSN that has been acknowledged since is
passed over. Those due at the end of a NAK_PAGE wait are sent again under R296 and do not count (R277). -/
def sendRtx (s : State) (n : Nat) : State :=
  let q := s.qp n
  match q.rtx with
  | [] => s
  | m :: rest =>
    let s1 := s.setQp n { q with rtx := rest }
    match q.reqs.find? (fun r => r.op == 3 && r.first ≤ m && m < r.first + r.sent && r.status.isNone) with
    | some r =>
      let off := m - r.first
      if r.placed.contains off then s1
      else
        let x := readReq q r off
        ((s1.sendRequest n (s.qpPacket q n 3 x.2 true true true false false x.1 [] [])).count 0x5100 3 (bnat !q.rtxPage))
    | none =>
      if q.una ≤ m ∧ !bit q.sack (m - q.una) ∧ Sparse.get (fun _ => []) q.kept m ≠ [] then
        (s1.sendRequest n (Sparse.get (fun _ => []) q.kept m)).count 0x5100 3 (bnat !q.rtxPage)
      else s1

/-- Send the next packet of the next request (R245, R292). A stall keeps no translation that no access has used: the pages are translated
again when it ends, so that an INVALIDATE needs no end of it (R134; DEDUCED, log 148). -/
def sendNew (s : State) (n : Nat) : State :=
  let q := s.qp n
  match nextReq q with
  | none => s
  | some (i, r0) =>
    let d := q.owner.getD 0
    let ps := paySize q.attr.payload
    let msg := r0.op = 1 ∨ r0.op = 2
    let lo := r0.sent * ps
    let hi := min (lo + ps) r0.len
    let upto := if msg then hi else r0.len
    match (if r0.given ≠ [] ∨ r0.op = 8 ∨ r0.op = 9 then (r0, s, none) else s.resolveMore d upto (!msg) (r0.len / 65536 + 2) r0) with
    | (r, s1, some t) =>
      let page := (match r.buf with
        | .dva a => (a + (r.pieces.map Piece.len).sum) / 65536 * 65536
        | _ => 0)
      (match t with
      | .moving => if r0.waited = some page then s else s1.setReq n i { r with waited := some page }
      | .notPresent =>
        let s2 := s1.setReq n i { r with pieces := if r.buf.isNone then r.pieces else subPieces r.pieces 0 (if msg then lo else 0) }
        (s2.setQp n { s2.qp n with stall := some ⟨page, !msg, s.now, s.obj 0x2701 2⟩ }).pageRequest n page (!msg) false
      | _ => match t.ringStatus with
        | some st => s1.buildFails n i r st
        | none => s1.setReq n i r)
    | (r, s1, none) =>
      let part := subPieces r.pieces lo (hi - lo)
      if msg ∧ r.given = [] ∧ !s1.piecesReady part then s1.setReq n i r
      else
        match (if !msg then (some r.given, s1) else if r.given ≠ [] then (some (slice r.given lo (hi - lo)), s1) else s1.readPieces part) with
        | (none, s2) => s2.buildFails n i r 0x0B
        | (some payload, s2) =>
          let r1 := if r.sent = 0 then { r with first := q.next, index := q.sendIndex } else r
          let last := r1.sent + psnsOf r1 = r1.count
          let psn := q.next
          let ackReq := !msg || last || decide (psn % 2 ^ 24 % 64 = 0)
          let mx := hrtMx lo (if last then r1.len else 0) (if last then r1.imm.getD 0 else 0) (if r1.op = 1 then r1.index else 0) (r1.peg.getD 0)
          let rx := hrtRx r1.key r1.roff (if r1.op = 8 then r1.len else 8)
          let ext :=
            if r1.op = 1 then mx
            else if r1.op = 2 then mx ++ hrtRx r1.key (r1.roff + lo) 0
            else if r1.op = 3 then (readReq q r1 r1.sent).1
            else if r1.op = 8 then rx
            else if r1.op = 9 then []
            else rx ++ beBytes 8 r1.operand ++ beBytes 8 r1.compare
          let body := if r1.op = 9 then r1.given else if msg then payload else []
          let pkt := s.qpPacket q n r1.op psn (if msg then r1.sent = 0 else true) (if msg then last else true) ackReq
            (msg && r1.peg.isSome) (msg && last && r1.imm.isSome) ext body (if q.attr.sa = 0 then [] else countedNonce (psn - q.attr.sqPsn))
          let s3 := s2.setReq n i { r1 with sent := r1.sent + psnsOf r1 }
          let q3 := s3.qp n
          let s4 := s3.setQp n { q3 with next := q.next + psnsOf r1,
                                         sendIndex := if r1.op = 1 ∧ r1.sent = 0 then (q.sendIndex + 1) % 65536 else q.sendIndex,
                                         kept := if r1.op = 3 then q3.kept else Sparse.set (fun _ => []) q3.kept psn pkt }
          let s5 := (s4.countSecure q.attr.sa (ceilDiv body.length 16 + 1)).sendRequest n pkt
          match r1.origin with
          | .hand t mark => s5.countSegment t mark
          | _ => s5

end State

def execHrtSend (fid idx : Nat) (s : State) : Host.Outcome State Fault Refusal :=
  s.live (s.runEntry fid idx [0x10] fun e t => t.startHrt fid e)

def execHrtWrite (fid idx : Nat) (s : State) : Host.Outcome State Fault Refusal :=
  s.live (s.runEntry fid idx [0x11] fun e t => t.startHrt fid e)

def execHrtRead (fid idx : Nat) (s : State) : Host.Outcome State Fault Refusal :=
  s.live (s.runEntry fid idx [0x12] fun e t => t.startHrt fid e)

def execHrtAdd (fid idx : Nat) (s : State) : Host.Outcome State Fault Refusal :=
  s.live (s.runEntry fid idx [0x13] fun e t => t.startHrt fid e)

def execHrtCas (fid idx : Nat) (s : State) : Host.Outcome State Fault Refusal :=
  s.live (s.runEntry fid idx [0x14] fun e t => t.startHrt fid e)

def execHrtFlush (fid idx : Nat) (s : State) : Host.Outcome State Fault Refusal :=
  s.live (s.runEntry fid idx [0x15] fun e t => t.startHrt fid e)

/-- CONTEXT_FETCH: the context enters the cache of 4,096 (R250). -/
def execContextFetch (qp : Nat) (s : State) : Host.Outcome State Fault Refusal :=
  s.live (if s.cachedQp qp ∨ 65536 ≤ qp then s
    else ({ s with hrt := { s.hrt with cached := (qp :: s.hrt.cached).take 4096 } }).count 0x5100 0x13 1)

end Sys2Proof.Machine
end

