-- ==== Sys2Proof/Machine/HandEngine.lean ====
section
/-! DEFINITION. Machine/HandEngine.lean: how a hand runs on one member: the streams of each algorithm (R208 to R214), the
packets that carry them and their credits (R220 to R226), and the end-of-hand round with aborts (R227 to R233). -/

namespace Sys2Proof.Machine

/-! Groups and trees (R195, R209, R213) -/

def Deal.member (d : Deal) (r : Nat) : Member := nth ⟨0, 0, none, 0⟩ d.members r

/-- The lowest rank of a group. -/
def Deal.leader (d : Deal) (g : Nat) : Nat := ((List.range d.count).find? fun r => (d.member r).group == g).getD 0

/-- The ranks of a group. -/
def Deal.group (d : Deal) (g : Nat) : List Nat := (List.range d.count).filter fun r => (d.member r).group == g

/-- This member's own group. -/
def Deal.mine (d : Deal) : Nat := (d.member d.rank).group

/-- Parent and children of virtual rank v among n, as virtual ranks (R209). -/
def treeParent (v : Nat) : Option Nat := if v = 0 then none else some ((v - 1) / 2)
def treeChildren (n v : Nat) : List Nat := [2 * v + 1, 2 * v + 2].filter (· < n)

/-! Streams -/

/-- A stream of plain elements. -/
def mkStream (lo hi : Nat) (srcs : List HandSrc) (ownAt : Nat) (toDst : Option Nat) (sends : List Nat) (step : Nat) : HandStream :=
  ⟨lo, hi, srcs, .plain, ownAt, toDst, sends, step, lo, []⟩

/-- DIRECT (R208). -/
def directStreams (op n r root count : Nat) : List HandStream :=
  let others := (List.range n).filter (· != r)
  let all := (List.range n).map fun i => if i = r then HandSrc.own else .from i 0
  if op = 1 then [mkStream 0 count [.own] 0 none others 0, mkStream 0 count all 0 (some 0) [] 0]
  else if op = 2 then (if r = root then [mkStream 0 count all 0 (some 0) [] 0] else [mkStream 0 count [.own] 0 none [root] 0])
  else if op = 3 then (if r = root then [mkStream 0 count [.own] 0 none others 0] else [mkStream 0 count [.from root 0] 0 (some 0) [] 0])
  else if op = 4 then
    others.map (fun c => mkStream (c * count) ((c + 1) * count) [.own] (c * count) none [c] 0) ++
    [mkStream (r * count) ((r + 1) * count) all (r * count) (some 0) [] 0]
  else if op = 5 then
    mkStream (r * count) ((r + 1) * count) [.own] 0 (some (r * count)) others 0 ::
    others.map fun j => mkStream (j * count) ((j + 1) * count) [.from j 0] 0 (some (j * count)) [] 0
  else if op = 6 then
    others.map (fun j => mkStream (r * count) ((r + 1) * count) [.own] (j * count) none [j] 0) ++
    [mkStream (r * count) ((r + 1) * count) [.own] (r * count) (some (r * count)) [] 0] ++
    others.map fun j => mkStream (j * count) ((j + 1) * count) [.from j 0] 0 (some (j * count)) [] 0
  else []

/-- TREE over n members whose virtual ranks `real` turns into ranks (R209): sums up in step 0, results down in step 1. -/
def treeStreams (op n v count : Nat) (real : Nat → Nat) : List HandStream :=
  let kids := (treeChildren n v).map real
  let fold := HandSrc.own :: kids.map fun k => .from k 0
  let down := match treeParent v with
    | some p => [mkStream 0 count [.from (real p) 1] 0 (some 0) kids 1]
    | none => []
  if op = 1 then (match treeParent v with
    | none => [mkStream 0 count fold 0 (some 0) kids 1]
    | some p => mkStream 0 count fold 0 none [real p] 0 :: down)
  else if op = 2 then (match treeParent v with
    | none => [mkStream 0 count fold 0 (some 0) [] 0]
    | some p => [mkStream 0 count fold 0 none [real p] 0])
  else if op = 3 then (if v = 0 then [mkStream 0 count [.own] 0 none kids 1] else down)
  else []

/-- Chunk c of n over `count` elements (R210): its first element and the one after its last. -/
def ringChunk (n count c : Nat) : Nat × Nat :=
  let q := count / n
  let m := count % n
  let lo := c * q + min c m
  (lo, lo + q + (if c < m then 1 else 0))

/-- RING (R210): step j − 1 carries what the member in place j of a chunk's chain sends; the second round follows from n − 1. -/
def ringStreams (op n r count : Nat) : List HandStream :=
  let next := (r + 1) % n
  let prev := (r + n - 1) % n
  if op = 5 then
    (List.range n).map fun j =>
      let i := (r + n - j) % n
      let lo := j * count
      if i = 0 then mkStream lo (lo + count) [.own] 0 (some lo) (if n = 1 then [] else [next]) 0
      else mkStream lo (lo + count) [.from prev (i - 1)] 0 (some lo) (if i + 1 < n then [next] else []) i
  else if op = 1 ∨ op = 4 then
    ((List.range n).flatMap fun c =>
      let b := if op = 4 then (c * count, (c + 1) * count) else ringChunk n count c
      let i := (r + n - c) % n
      let j := if i = 0 then n else i
      let out := if op = 4 then 0 else b.1
      let first :=
        if n = 1 then mkStream b.1 b.2 [.own] b.1 (some out) [] 0
        else if j = 1 then mkStream b.1 b.2 [.own] b.1 none [next] 0
        else if j < n then mkStream b.1 b.2 [.from prev (j - 2), .own] b.1 none [next] (j - 1)
        else mkStream b.1 b.2 [.from prev (n - 2), .own] b.1 (some out) (if op = 1 then [next] else []) (n - 1)
      if op = 4 ∨ i = 0 then [first]
      else [first, mkStream b.1 b.2 [.from prev (n + i - 2)] 0 (some b.1) (if i + 1 < n then [next] else []) (n - 1 + i)]).filter
        fun x => decide (x.lo < x.hi)
  else []

/-- HIER ALL_REDUCE (R213, R214): inner sums in step 0, results in step 1, hop i of the outer ring in step 1 + i. -/
def hierStreams (d : Deal) (count : Nat) (narrowed : Bool) : List HandStream :=
  let g := d.mine
  let lead := d.leader g
  let n := (d.group g).length
  let v := d.rank - lead
  let real (x : Nat) := lead + x
  let kids := (treeChildren n v).map real
  let fold := HandSrc.own :: kids.map fun k => .from k 0
  if v ≠ 0 ∨ d.groups = 1 then treeStreams 1 n v count real
  else
    let next := d.leader ((g + 1) % d.groups)
    let prev := d.leader ((g + d.groups - 1) % d.groups)
    let own : HandStream := { mkStream 0 count fold 0 none [d.rank, next] 2 with form := if narrowed then .narrow else .plain }
    let hops := (List.range (d.groups - 2)).map fun k =>
      { mkStream 0 count [.from prev (2 + k)] 0 none [next] (3 + k) with form := if narrowed then .blocks else .plain }
    let srcs := (List.range d.groups).map fun h =>
      if h = g then HandSrc.from d.rank 2 else .from prev (1 + (g + d.groups - h) % d.groups)
    own :: (hops ++ [{ mkStream 0 count srcs 0 (some 0) kids 1 with form := if narrowed then .widen else .plain }])

/-- The hand narrows its outer level (R214). -/
def narrows (d : Deal) (alg redop : Nat) : Bool := alg == 4 && decide (1 < d.groups) && d.outer != 2 && redop == 0

/-- The streams of a member (R207 to R214). -/
def handStreams (d : Deal) (op alg root count redop : Nat) : List HandStream :=
  if op = 7 then []
  else if alg = 1 then directStreams op d.count d.rank root count
  else if alg = 2 then treeStreams op d.count ((d.rank + d.count - root) % d.count) count fun v => (v + root) % d.count
  else if alg = 3 then ringStreams op d.count d.rank count
  else hierStreams d count (narrows d alg redop)

/-! Elements -/

/-- Bytes of an element of a TYPE. -/
def typeBytes (type : Nat) : Nat := ((Fmt.ofCode type).map Fmt.width).getD 8 / 8

/-- One combining step on element codes (R47, R48, R206). -/
def combineCodes (type redop a b : Nat) : Nat :=
  let f := if type = 1 then fmtBf16 else fp32
  let x := f.decode a
  let y := f.decode b
  f.encode .toInf (if redop = 1 then fmax x y else if redop = 2 then fmin x y else if type = 1 then bf16Add x y else fadd x y)

/-- The format of the narrowed outer level (R196). -/
def outerFmt (d : Deal) : Fmt := if d.outer = 0 then .mxe4m3 else .mxe5m2

/-- Staged or held packets of a rank and step that hold element i. -/
def packetAt (h : Hand) (narrow : Bool) (rank step i : Nat) : Option HandPkt :=
  (h.staged ++ h.held).find? fun p => p.src == rank && p.step == step && decide (p.element ≤ i) &&
    decide (i < p.element + (if narrow then p.data.length / 33 * 32 else p.data.length / typeBytes h.type))

/-- Contiguous elements staged from i on, at most `cap`. -/
def runAt (h : Hand) (narrow : Bool) (rank step i cap : Nat) : Nat → Nat
  | 0 => 0
  | fuel + 1 =>
    if cap = 0 then 0
    else match packetAt h narrow rank step i with
      | none => 0
      | some p =>
        let n := min cap (p.element + (if narrow then p.data.length / 33 * 32 else p.data.length / typeBytes h.type) - i)
        n + runAt h narrow rank step (i + n) (cap - n) fuel

/-- The code of element i that a rank sent in a step. -/
def codeAt (h : Hand) (rank step i : Nat) : Nat :=
  match packetAt h false rank step i with
  | some p => leAt p.data ((i - p.element) * typeBytes h.type) (typeBytes h.type)
  | none => 0

/-- Element byte and scale byte of element i of narrowed data. -/
def blockAt (h : Hand) (rank step i : Nat) : Nat × Nat :=
  match packetAt h true rank step i with
  | some p =>
    let b := p.data.length / 33
    (leAt p.data (i - p.element) 1, leAt p.data (32 * b + (i - p.element) / 32) 1)
  | none => (0, 0)

/-- Fold the sources of one element, `own` being the member's own code (R208 to R213). -/
def foldCodes (h : Hand) (srcs : List HandSrc) (i own : Nat) : Nat :=
  match srcs with
  | [] => 0
  | x :: xs =>
    let get (y : HandSrc) := match y with
      | .own => own
      | .from r st => codeAt h r st i
    xs.foldl (fun a y => combineCodes h.type h.redop a (get y)) (get x)

/-- The widened sum of narrowed sources, in FP32 (R213). -/
def widenFold (d : Deal) (h : Hand) (srcs : List HandSrc) (i : Nat) : Nat :=
  let get (y : HandSrc) : Fp := match y with
    | .from r st => let b := blockAt h r st i; (outerFmt d).widen b.1 b.2
    | .own => .zero
  match srcs with
  | [] => 0
  | x :: xs =>
    let v := xs.foldl (fun a y => fadd a (get y)) (get x)
    if h.type = 1 then (Fmt.bf16.convert v).code else toF32 v

/-- The values of a TYPE that reducing operations take: FP32 or BF16 (R206). -/
def handFloat (type : Nat) : FpFormat := if type = 1 then fmtBf16 else fp32

/-- Element bytes, then scales, of narrowed blocks (R220). -/
def blockBytes (bs : List (Nat × List Conv)) : List Byte :=
  (bs.flatMap fun b => b.2.map fun c => BitVec.ofNat 8 c.code) ++ bs.map fun b => BitVec.ofNat 8 b.1

/-- Narrow a run of codes in blocks of 32 (R214). -/
def narrowCodes (d : Deal) (type : Nat) (codes : List Nat) : List (Nat × List Conv) :=
  (pieces32 (codes.length / 32) codes).map fun b => quantBlock (outerFmt d) (b.map (handFloat type).decode)
where
  /-- Blocks of 32. -/
  pieces32 : Nat → List Nat → List (List Nat)
    | 0, _ => []
    | n + 1, l => l.take 32 :: pieces32 n (l.drop 32)

/-! Signatures (R225) -/

/-- CRC-64/ECMA-182, one bit. -/
def crc64Bit (c : Nat) : Nat := if c < 2 ^ 63 then 2 * c else (2 * c % 2 ^ 64) ^^^ 0x42F0E1EBA9EA3693

def crc64 (bs : List Byte) : Nat :=
  bs.foldl (fun c b =>
    let f := crc64Bit
    f (f (f (f (f (f (f (f (c ^^^ (b.toNat * 2 ^ 56)))))))))) 0

def handSig (count root type redop op alg : Nat) : Nat :=
  crc64 (beBytes 8 count ++ beBytes 4 root ++ beBytes 1 type ++ beBytes 1 redop ++ beBytes 1 op ++ beBytes 1 alg)

/-! What a hand comes to (R228) -/

/-- The least of a list. -/
def leastOf (xs : List Nat) : Option Nat := xs.foldl (fun b x => some (min (b.getD x) x)) none

/-- The rank that a report of rank, status and failed rank counts by: its own, but that which MEMBER_FAILED or a group's DONE names (R228). -/
def reportRank (leaders : List Nat) (x : Nat × Nat × Nat) : Nat :=
  if x.2.2 ≠ 0xFFFF ∧ (x.2.1 = 0x0A ∨ x.1 ∈ leaders) then x.2.2 else x.1

/-- The precedence of R228 over reports, with the ranks that are missing: the combined status, and the lowest rank that reported it or is
missing. `leaders` are those whose reports are their groups' DONEs. -/
def combineReports (rs : List (Nat × Nat × Nat)) (missing leaders : List Nat) : Nat × Nat :=
  let least (p : Nat → Bool) : Option Nat := leastOf (((rs.filter fun x => p x.2.1).map (reportRank leaders)) ++ missing)
  if rs.any (·.2.1 == 8) then (8, (least (· == 8)).getD 0xFFFF)
  else if rs.any (·.2.1 == 9) then (9, (least (· == 9)).getD 0xFFFF)
  else match least (· != 0) with
    | some r => (0x0A, r)
    | none => (0, 0xFFFF)

namespace State

/-! Sending hand packets -/

/-- Data capacity of a hand packet to a rank (R220). -/
def handRoom (s : State) (d : Deal) (dst : Nat) : Nat :=
  if (d.member dst).group = d.mine then 4064
  else match (d.member dst).qp with
    | some n => min 4064 (paySize (s.qp n).attr.payload - 32)
    | none => 4064

/-- Send a hand packet: over Derone within the group (R221), over the record's QP between leaders (R222). A packet that cannot
leave is told to the hand as LINK_LOST (R233). -/
def sendHand (s : State) (t : Nat) (c : Table) (p : HandPkt) : State :=
  let m := c.deal.member p.dst
  let mark := handMark c p
  if m.group = c.deal.mine then
    let bytes := p.head false ++ p.data
    let x : Xfer :=
      { id := 0, origin := ⟨256 + t, mark⟩, read := false, drawer := c.fid, module := m.module, port := 8, vc := if p.kind = 1 then 0 else 1,
        addr := m.module * 2 ^ 44 + m.landing, len := bytes.length, data := bytes, dest := [], sig := none, firstSent := 0,
        lastSent := 0, resent := false, busyAt := none, next := 0 }
    (match s.startXfer x with
      | (s1, some st) => s1.noteHand t mark st
      | (s1, none) => s1)
  else match m.qp with
    | none => s.noteHand t mark 9
    | some n =>
      let q := s.qp n
      if q.state ≠ .rts ∨ q.owner ≠ some c.fid then s.noteHand t mark 9
      else if q.attr.sa ≠ 0 ∧ !s.cipherNormal ∧ p.data.length % 16 ≠ 0 then (s.count 0x5800 6 1).noteHand t mark 0x10
      else s.setQp n { q with reqs := q.reqs ++ [{ plainReq (.hand t mark) 9 0 1024 with given := p.head true ++ p.data }] }

/-- The frame of a hand's packet to a rank. -/
def handPkt (c : Table) (h : Hand) (dst kind status failed step element : Nat) (data : List Byte) : HandPkt :=
  ⟨c.deal.key, h.seq, h.sig, kind, status, c.deal.rank, dst, failed, step, element, data⟩

/-- Update the running hand of a table. -/
def setHand (s : State) (t : Nat) (h : Hand) : State :=
  match s.table t with
  | some c => s.setTable t (some { c with running := some h })
  | none => s

/-! The end of a hand -/

/-- The record's RESULT for a HAND_START (R353). -/
def handResult (t seq failed : Nat) : List Byte := leBytes 1 t ++ [0, 0, 0] ++ leBytes 4 seq ++ leBytes 2 failed

/-- The member's buffers overlap otherwise than as the same range of an ALL_REDUCE or a BROADCAST (R217). -/
def handOverlap (h : Hand) : Bool :=
  !((h.op == 1 || h.op == 3) && h.src == h.dst) && h.src.any fun x => h.dst.any fun y => match x, y with
    | .dev a n, .dev b m => overlaps a n b m
    | .bus p a n, .bus q b m => p == q && overlaps a n b m
    | _, _ => false

/-- The hand completes on this member with a status (R230). The contents of its DST are undefined after a status other than OK, and after an
overlap of its buffers (R217, R232). -/
def endHand (s : State) (t : Nat) (c : Table) (h : Hand) (status failed : Nat) : State :=
  let s0 := if status = 0 then s.count (tableCtr t) 2 1 else s.count (tableCtr t) 3 1
  let s1 := if status ≠ 0 ∨ handOverlap h = true then s0.scramblePieces c.fid h.dst else s0
  let s2 := s1.setTable t (some { c with running := none, inbox := c.inbox.filter (·.seq != h.seq), ends := [], lastStatus := status,
                                         lastFailed := failed })
  let s3 := if status = 0x0A then s2.raiseFn c.fid 0x0D t (handResult t h.seq failed) else s2
  s3.completeIdx c.fid h.entry status (handResult t h.seq failed)

/-- Statuses that a member keeps as its own when FIN arrives (R230). -/
def keepsOwn (st : Nat) : Bool := st == 0x0E || st == 0x12 || st == 6 || st == 2 || st == 0x0B || st == 3

/-- The ranks of this member's group and, for rank 0 and the other leaders, of the leaders it tells. -/
def tellLeaders (d : Deal) : List Nat := ((List.range d.groups).map d.leader).filter (· != d.rank)
def groupMates (d : Deal) : List Nat := (d.group d.mine).filter (· != d.rank)

/-- Send one packet without data to each of a list of ranks. -/
def tell (s : State) (t : Nat) (c : Table) (h : Hand) (ranks : List Nat) (kind status failed : Nat) : State :=
  ranks.foldl (fun st r => st.sendHand t c (handPkt c h r kind status failed 0 0 [])) s

/-- FIN leaves rank 0, or a leader relays it, and the member completes (R227, items 3 to 5). -/
def finish (s : State) (t : Nat) (c : Table) (h : Hand) (status failed : Nat) : State :=
  let d := c.deal
  let ranks := if d.rank = 0 then groupMates d ++ tellLeaders d else if d.rank = d.leader d.mine then groupMates d else []
  let s1 := s.tell t c h ranks 5 status failed
  match s1.table t with
  | some c1 => if keepsOwn h.status then s1.endHand t c1 h h.status h.failed else s1.endHand t c1 h status failed
  | none => s1

/-- A leader has every report it waits for, or its limit has passed with `missing` counted (R227, R229). -/
def leaderSends (s : State) (t : Nat) (late : Bool) : State :=
  match s.table t with
  | none => s
  | some c => match c.running with
    | none => s
    | some h =>
      let d := c.deal
      if d.rank ≠ d.leader d.mine ∨ (h.groupSent ∧ d.rank ≠ 0) then s
      else
        let expect := d.group d.mine ++ (if d.rank = 0 then tellLeaders d else [])
        let absent := expect.filter fun r => !h.reports.any (·.1 == r)
        if absent ≠ [] ∧ !late then s
        else
          let x := combineReports h.reports absent (if d.rank = 0 then tellLeaders d else [])
          if d.rank = 0 then s.finish t c h x.1 x.2
          else (s.setHand t { h with groupSent := true }).sendHand t c (handPkt c h 0 4 x.1 x.2 0 0 [])

/-- The member's DONE goes to its leader, carrying its local status (R227, item 1). -/
def sendDone (s : State) (t : Nat) : State :=
  match s.table t with
  | none => s
  | some c => match c.running with
    | none => s
    | some h =>
      if h.doneSent then s
      else
        let d := c.deal
        let h1 := { h with doneSent := true }
        if d.rank = d.leader d.mine then
          (s.setHand t { h1 with reports := h1.reports ++ [(d.rank, h.status, h.failed)] }).leaderSends t false
        else (s.setHand t h1).sendHand t c (handPkt c h (d.leader d.mine) 4 h.status h.failed 0 0 [])

/-- The local status becomes something other than OK: the member stops and sends ABORT (R231, items 1 to 4). -/
def failHand (s : State) (t status failed : Nat) : State :=
  match s.table t with
  | none => s
  | some c => match c.running with
    | none => s
    | some h =>
      if h.status ≠ 0 then s
      else
        let d := c.deal
        let h1 := { h with status := status, failed := failed, staged := [], held := [], streams := [], relayed := true }
        let ranks := groupMates d ++ (if d.rank = d.leader d.mine then tellLeaders d else [])
        (s.setHand t h1).tell t c h1 ranks 3 status failed

/-! Streams at work -/

/-- Credits that a stream must leave unspent at the ranks it sends to. Where packets go round a ring, a member adds its own only while two
credits are left, so that what is on its way can always be passed on (log 124). -/
def spareCredits (c : Table) (h : Hand) (x : HandStream) : Nat :=
  if (h.alg = 3 ∧ (x.srcs.all fun y => y == .own) ∨ h.alg = 4 ∧ x.sends.contains c.deal.rank) ∧
    (h.streams.any fun y => y.sends.any x.sends.contains && y.step != x.step) then 1 else 0

/-- Elements of a packet of a stream: whole blocks of 33 bytes where it is narrowed, else whole elements of the hand's TYPE (R220). -/
def packetElements (s : State) (c : Table) (h : Hand) (x : HandStream) : Nat :=
  let room := x.sends.foldl (fun m r => min m (s.handRoom c.deal r)) 4064
  if x.form = .narrow ∨ x.form = .blocks then room / 33 * 32 else room / typeBytes h.type

/-- Elements that stream i may take now, up to the end of the packet being formed: its sources are there, its packets have credit, and no
other stream still has to read the member's own element that it would write over (R217, R220, R224). -/
def streamRoom (s : State) (c : Table) (h : Hand) (i : Nat) (x : HandStream) : Nat :=
  let narrowIn := x.form = .blocks || x.form = .widen
  let left := x.hi - x.pos
  let avail := x.srcs.foldl (fun m y => match y with
    | .own => m
    | .from r st => min m (runAt h narrowIn r st x.pos m (h.staged.length + h.held.length + 1))) left
  let free := match x.toDst with
    | none => avail
    | some o =>
      let w := o + (x.pos - x.lo)
      (h.streams.zipIdx).foldl (fun m y =>
        if y.2 ≠ i ∧ y.1.srcs.contains .own ∧ y.1.pos < y.1.hi ∧ (h.op = 1 ∨ h.op = 3) then
          let a := y.1.ownAt + (y.1.pos - y.1.lo)
          let b := y.1.ownAt + (y.1.hi - y.1.lo)
          if b ≤ w ∨ w + m ≤ a then m else a - w
        else m) avail
  let outs := x.sends.filter (· != c.deal.rank)
  if x.sends = [] then free
  else if outs.any (fun r => decide (c.deal.depth ≤ h.spent.num r + spareCredits c h x)) then 0
  else min free (s.packetElements c h x - x.built.length)

/-- The packet that a stream has formed: the narrowed blocks of R214, and its data (R220). -/
def packetOf (c : Table) (h : Hand) (form : HandForm) (codes : List Nat) : List (Nat × List Conv) × List Byte :=
  match form with
  | .narrow =>
    let b := narrowCodes c.deal h.type codes
    (b, blockBytes b)
  | .blocks =>
    ([], codes.map (BitVec.ofNat 8) ++ (List.range (codes.length / 32)).map fun k => BitVec.ofNat 8 (nth 0 codes (32 * k) / 256))
  | _ => ([], codes.flatMap (leBytes (typeBytes h.type)))

/-- What a stream's next n elements come to; none after a parity error in the member's own contribution. -/
def streamRun (s : State) (c : Table) (h : Hand) (x : HandStream) (n : Nat) : Option (List Nat) × State :=
  let z := typeBytes h.type
  let ownPs := subPieces h.src ((x.ownAt + (x.pos - x.lo)) * z) (n * z)
  match (if x.srcs.contains .own then s.readPieces ownPs else (some [], s)) with
  | (none, s1) => (none, s1)
  | (some own, s1) =>
    let is := (List.range n).map (x.pos + ·)
    let codes := match x.form with
      | .blocks => (match x.srcs with
        | [.from r st] => is.map fun i => (blockAt h r st i).1 + 256 * (blockAt h r st i).2
        | _ => [])
      | .widen => is.map fun i => widenFold c.deal h x.srcs i
      | _ => is.map fun i => foldCodes h x.srcs i (leAt own ((i - x.pos) * z) z)
    (some codes, s1)

/-- A stream has taken all that it takes of a packet. -/
def takenBy (h : Hand) (p : HandPkt) (x : HandStream) : Bool :=
  !x.srcs.contains (.from p.src p.step) ||
  (let n := if x.form = .blocks ∨ x.form = .widen then p.data.length / 33 * 32 else p.data.length / typeBytes h.type
   decide (min x.hi (p.element + n) ≤ x.pos) || decide (x.hi ≤ p.element) || decide (p.element + n ≤ x.lo))

/-- The stream that combines all the Q_g at a leader (R213): it takes the leader's own from the leader itself. -/
def gathersAll (c : Table) (x : HandStream) : Bool := x.srcs.any fun y => match y with
  | .from r _ => r == c.deal.rank
  | .own => false

/-- Staged packets whose elements every stream has taken leave, and their credits are returned (R224). A leader holds each Q_g that it has
passed on until it combines them all (R213). -/
def releaseStaged (s : State) (t : Nat) : State :=
  match s.table t with
  | none => s
  | some c => match c.running with
    | none => s
    | some h =>
      if !h.joined then s
      else
      let usedUp (p : HandPkt) : Bool := h.streams.all fun x => gathersAll c x || takenBy h p x
      let gone := h.staged.filter usedUp
      let s1 := s.setHand t { h with
        staged := h.staged.filter fun p => !usedUp p,
        held := (h.held ++ gone).filter fun p => !h.streams.all (takenBy h p) }
      (gone.filter fun p => p.src != c.deal.rank).foldl (fun st p => st.sendHand t c (handPkt c h p.src 2 0 0xFFFF 1 0 [])) s1

/-- The final places of a stream's elements i … i + n − 1 in the member's DST; in its SRC where its DST has no place for them (R212). -/
def stepPieces (h : Hand) (x : HandStream) (i n : Nat) : List Piece :=
  let z := typeBytes h.type
  let at0 := x.toDst.getD x.lo + (i - x.lo)
  if h.dst = [] ∨ (h.op = 4 ∧ x.toDst = none) then subPieces h.src ((x.ownAt + (i - x.lo)) * z) (n * z) else subPieces h.dst (at0 * z) (n * z)

/-- The benches whose banks hold a piece (R122). -/
def pieceBenches : Piece → List Nat
  | .dev off k => (List.range ((off + k - 1) / 2 ^ 21 - off / 2 ^ 21 + 1)).map fun i => 64 * stackOf off + (off % 2 ^ 36 / 2 ^ 21 + i) / 384
  | _ => []

/-- The benches whose vector units combine a stream's next n elements; none for copies, nor in a registered region (R212). -/
def combiners (h : Hand) (x : HandStream) (n : Nat) : List Nat :=
  if x.srcs.length < 2 ∧ x.form ≠ .narrow then [] else ((stepPieces h x x.pos n).flatMap pieceBenches).eraseDups

/-- The bench that combines element i. -/
def combinerAt (h : Hand) (x : HandStream) (i : Nat) : Option Nat := ((stepPieces h x i 1).flatMap pieceBenches).head?

/-- A bench in GATED or PARKED needs a wake for its step (R212). -/
def asleep (s : State) (b : Nat) : Bool := (s.bench b).run = .gated || (s.bench b).run = .parked

/-- Ask for the wakes that the combining steps of a run need; the governor grants at once what it may (R73, R212; one wake for a run of
elements, log 53). -/
def wakeCombiners (s : State) (bs : List Nat) : State :=
  (bs.filter s.asleep).foldl
    (fun st b =>
      let t := st.askHelp b
      let k := t.stack (b / 64)
      if k.wakes = [] ∧ (k.helps.head?.map (·.1)) = some (b % 64) then t.grantWake (b / 64) else t) s

/-- Every bench of a run is awake for its step. -/
def combinersReady (s : State) (bs : List Nat) : Bool := bs.all fun b => !s.asleep b || (s.stack (b / 64)).helped.contains (b % 64)

/-- The steps of a run are done: their wakes are used. -/
def useHelp (s : State) (bs : List Nat) : State :=
  bs.foldl (fun st b => st.setStack (b / 64) { st.stack (b / 64) with helped := (st.stack (b / 64)).helped.filter (· != b % 64) }) s

/-- One more in a counter of the bench that combines an element. -/
def countAt (s : State) (h : Hand) (x : HandStream) (i sub : Nat) : State := match combinerAt h x i with
  | some b => s.count (0x5400 + b) sub 1
  | none => s

/-- The NaNs that a stream's combining steps give, at the bench of each element (R37, R79). -/
def countSteps (s : State) (h : Hand) (x : HandStream) (codes : List Nat) : State :=
  if x.srcs.length < 2 ∨ x.form = .blocks then s
  else (codes.zipIdx).foldl (fun st y => if ((handFloat h.type).decode y.1).isNan then st.countAt h x (x.pos + y.2) 0x0E else st) s

/-- The NaNs and saturations of narrowed blocks whose first element is `at_`. -/
def countNarrowed (s : State) (h : Hand) (x : HandStream) (at_ : Nat) (blocks : List (Nat × List Conv)) : State :=
  ((blocks.flatMap (·.2)).zipIdx).foldl
    (fun st y => (fun u => if y.1.saturated then u.countAt h x (at_ + y.2) 0x0F else u)
      (if y.1.wasNan then st.countAt h x (at_ + y.2) 0x0E else st)) s

/-- A stream has taken elements: the packet that they complete leaves, with a credit for each rank that it goes to; else they wait in it for
the rest. -/
def formPacket (s : State) (t : Nat) (c : Table) (h : Hand) (i : Nat) (x : HandStream) (codes : List Nat) : State :=
  let built := x.built ++ codes
  let pos := x.pos + codes.length
  let y := { x with pos := pos, built := built }
  if x.sends = [] then s.setHand t { h with streams := setAt h.streams i { x with pos := pos } }
  else if built.length < s.packetElements c h x ∧ pos < x.hi then s.setHand t { h with streams := setAt h.streams i y }
  else
    let r := packetOf c h x.form built
    let at_ := pos - built.length
    let outs := x.sends.filter (· != c.deal.rank)
    let h1 := { h with streams := setAt h.streams i { y with built := [] },
                       staged := if x.sends.contains c.deal.rank then
                         h.staged ++ [handPkt c h c.deal.rank 1 0 0xFFFF x.step at_ r.2] else h.staged,
                       spent := outs.foldl (fun m r => m.setNum r (m.num r + 1)) h.spent,
                       outstanding := h.outstanding + outs.length }
    outs.foldl (fun st k => st.sendHand t c (handPkt c h k 1 0 0xFFFF x.step at_ r.2)) ((s.countNarrowed h x at_ r.1).setHand t h1)

/-- The first element of a run whose own contribution has bad parity. -/
def badElement (s : State) (h : Hand) (x : HandStream) (n : Nat) : Nat :=
  let z := typeBytes h.type
  ((List.range n).find? fun i => (subPieces h.src ((x.ownAt + (x.pos + i - x.lo)) * z) z).any s.pieceBad).getD 0

/-- One stream takes its next elements: they are combined, written to DST and sent on. None when none can. -/
def pumpOne (s : State) (t : Nat) : Option State :=
  match s.table t with
  | none => none
  | some c => match c.running with
    | none => none
    | some h =>
      if h.status ≠ 0 then none
      else match (h.streams.zipIdx).findSome? (fun y =>
        let n := s.streamRoom c h y.2 y.1
        if n = 0 then none else some (y.2, y.1, n)) with
      | none => none
      | some (i, x, n) =>
        let z := typeBytes h.type
        let own := subPieces h.src ((x.ownAt + (x.pos - x.lo)) * z) (n * z)
        let bs := combiners h x n
        let s0 := s.wakeCombiners bs
        if (x.srcs.contains .own ∧ !s.piecesReady own) ∨ s.stackHeld h.dst then none
        else if !s0.combinersReady bs then (if s0.cmp.stk = s.cmp.stk then none else some s0)
        else match (s0.useHelp bs).streamRun c h x n with
        | (none, s1) =>
          some ((match bs, combinerAt h x (x.pos + s.badElement h x n) with
            | _ :: _, some b => s1.count (0x5400 + b) 0x10 1
            | _, _ => s1).failHand t 0x0B c.deal.rank)
        | (some codes, s1) =>
          let dest := match x.toDst with
            | some o => subPieces h.dst ((o + (x.pos - x.lo)) * z) (n * z)
            | none => []
          if dest.any (fun p => match p with
            | .bus port _ _ => !s.busOk port
            | _ => false) then some ((s1.raiseSource 7).failHand t 0x0B c.deal.rank)
          else
            let s2 := (((s1.countSteps h x codes).writePieces c.fid dest (codes.flatMap (leBytes z))).race dest).noteBus c.fid h.entry h.dst
            some ((s2.formPacket t c h i x codes).releaseStaged t)

def pumpN (s : State) (t : Nat) : Nat → State
  | 0 => s
  | k + 1 => match s.pumpOne t with
    | some s1 => s1.pumpN t k
    | none => s

/-- The streams go as far as they can. -/
def pump (s : State) (t : Nat) : State :=
  match s.table t with
  | some c => match c.running with
    | some h => s.pumpN t ((h.streams.map fun x => x.hi - x.pos).sum + 1)
    | none => s
  | none => s

/-- One end of a packet reaches its hand: DATA that was acknowledged is no longer outstanding; a failure becomes the local
status (R227, R230, R233). -/
def takeEnd (s : State) (t : Nat) (e : Nat × Nat) : State :=
  match s.table t with
  | none => s
  | some c => match c.running with
    | none => s
    | some h =>
      if e.1 / 8 ≠ 2 ^ 32 * c.deals + h.seq then s
      else
        let s1 := if e.1 % 8 = 1 then s.setHand t { h with outstanding := h.outstanding - 1 } else s
        if e.2 = 0 then s1
        else s1.failHand t (if e.2 = 3 ∨ e.2 = 0x0B ∨ e.2 = 0x10 then e.2 else 9) c.deal.rank

/-- Every table hears of its packets' ends. -/
def settleHands (s : State) : State :=
  (List.range 64).foldl
    (fun st t => match st.table t with
      | some c => c.ends.foldl (fun u e => u.takeEnd t e) (st.setTable t (some { c with ends := [] }))
      | none => st) s

end State

end Sys2Proof.Machine
end

