-- ==== Sys2Proof/Machine/HrtControl.lean ====
section
/-! DEFINITION. Machine/HrtControl.lean: QP_MODIFY and RESUME (R253 to R255, R293), what a requester does with the
acknowledgements and responses that arrive (R268, R269, R296), and the timers of a QP (R267, R270, R271, R294, R300). -/

namespace Sys2Proof.Machine

/-- Each field of the attribute block keeps its rule (R253), judged for the fields whose mask bit is set. The reserved fields have no
mask bit: they are judged under R8 whenever the block is read (log 126). -/
def attrOk (b : List Byte) (mask : Nat) (laneOk : Bool) : Bool :=
  let m := fun k => !bit mask k
  let u := fun o n => leAt b o n
  let log := u 0x51 1
  (m 0 || u 0 4 < 65536) && (m 3 || (u 6 1 < 128 && bits (u 6 1) 3 2 == 0 && laneOk)) && (m 4 || u 7 1 ≤ 3) &&
  (m 5 || isMapped (slice b 8 16) == isMapped (slice b 0x18 16)) &&
  (m 6 || u 0x34 1 ≤ 2) && (m 7 || u 0x35 1 < 64) && (m 8 || u 0x38 4 < 2 ^ 24) && (m 9 || u 0x3C 4 < 2 ^ 24) &&
  (m 10 || ((List.range 9).any (fun k => u 0x40 2 == 2 ^ k) && u 0x42 2 < 2 ^ 14)) &&
  (m 11 || (8 ≤ u 0x44 4 && u 0x44 4 ≤ 16000 && 1 ≤ u 0x48 1 && u 0x48 1 ≤ 15)) &&
  (m 12 || (1 ≤ u 0x49 1 && u 0x49 1 ≤ 64 && 1 ≤ u 0x4A 2 && u 0x4A 2 ≤ 255)) &&
  (m 13 || (1 ≤ u 0x4C 1 && u 0x4C 1 ≤ 16 && 1 ≤ u 0x4D 1 && u 0x4D 1 ≤ 16)) &&
  (m 15 || (u 0x50 1 ≤ 2 && 4 ≤ log && log ≤ 15 && u 0x54 4 % 64 == 0 && 64 ≤ u 0x54 4 && u 0x54 4 ≤ 2 ^ 24 &&
    u 0x58 8 % 64 == 0 && (u 0x50 1 != 2 || u 0x58 8 < 2 ^ 48))) &&
  (m 16 || u 0x60 4 ≤ 32768) && (m 17 || (1 ≤ u 0x64 4 && u 0x64 4 ≤ 32768)) &&
  (slice b 0x2E 2 ++ slice b 0x36 2 ++ slice b 0x52 2 ++ slice b 0x68 24).all (· == 0)

/-- The masked fields replace those of the QP (R253). -/
def attrApply (a : QpAttr) (b : List Byte) (mask : Nat) : QpAttr :=
  let on := bit mask
  let u := fun o n => leAt b o n
  let a1 := { a with given := a.given ||| mask % 2 ^ 18 }
  let a2 := if on 0 then { a1 with destQpn := u 0 4 } else a1
  let a3 := if on 1 then { a2 with remoteInc := u 4 1 } else a2
  let a4 := if on 2 then { a3 with remoteEpoch := u 5 1 } else a3
  let a5 := if on 3 then { a4 with port := u 6 1 } else a4
  let a6 := if on 4 then { a5 with payload := u 7 1 } else a5
  let a7 := if on 5 then { a6 with srcIp := slice b 8 16, dstIp := slice b 0x18 16, dstMac := slice b 0x28 6 } else a6
  let a8 := if on 6 then { a7 with vlanOuter := u 0x30 2, vlanInner := u 0x32 2, tags := u 0x34 1 } else a7
  let a9 := if on 7 then { a8 with dscp := u 0x35 1 } else a8
  let b0 := if on 8 then { a9 with sqPsn := u 0x38 4 } else a9
  let b1 := if on 9 then { b0 with rqPsn := u 0x3C 4 } else b0
  let b2 := if on 10 then { b1 with paths := u 0x40 2, entropy := u 0x42 2 } else b1
  let b3 := if on 11 then { b2 with rtoBase := u 0x44 4, retryLimit := u 0x48 1 } else b2
  let b4 := if on 12 then { b3 with coalesce := u 0x49 1, ackDelay := u 0x4A 2 } else b3
  let b5 := if on 13 then { b4 with maxReads := u 0x4C 1, maxAtomics := u 0x4D 1 } else b4
  let b6 := if on 14 then { b5 with sa := u 0x4E 2 } else b5
  let b7 := if on 15 then { b6 with recvLoc := u 0x50 1, recvLog := u 0x51 1, recvSize := u 0x54 4, recvBase := u 0x58 8 } else b6
  if on 16 then { b7 with remoteSlots := u 0x60 4 } else b7

/-- Mask bits that may be set in a state (R253). From RESET to INIT they are those of INIT, which the QP enters. -/
def settable (st : QpState) (target : Nat) : Nat :=
  match st with
  | .reset => if target = 1 then 0x1FEFF else 0
  | .init => 0x1FEFF
  | .rtr => 0x33D80
  | .rts => 0x21C80
  | .error => 0

namespace State

/-- The region ring of RECV_LOC 1 lies wholly in a valid region of the function with LOCAL_WRITE (R254, R265). -/
def recvRingOk (s : State) (f : Nat) (a : QpAttr) : Bool :=
  a.recvLoc != 1 ||
  (let g := s.region (a.recvBase / 2 ^ 40)
   a.recvBase / 2 ^ 40 < 262144 && g.valid && g.owner == f && bit g.rights 4 &&
     decide (a.recvBase % 2 ^ 40 + 2 ^ a.recvLog * a.recvSize ≤ g.length))

/-- The conditions of INIT to RTR but for the keys (R254). -/
def rtrOk (s : State) (f : Nat) (a : QpAttr) : Bool :=
  let p := a.port / 16
  let l := a.port % 4
  (0x22F : Nat) &&& a.given == 0x22F && s.ownsIp p l a.srcIp && isMapped a.srcIp == isMapped a.dstIp &&
  decide (largestFrame a.tags (!isMapped a.srcIp) (a.sa != 0) (paySize a.payload) ≤ s.obj (0x2500 + 16 * p) 6) && s.recvRingOk f a

/-- QPs of a drawer that are not in RESET. -/
def qpsOf (s : State) (d : Nat) : List Nat := (s.hrt.qps.filter fun kv => kv.2.owner == some d && kv.2.state != .reset).map (·.1)

/-- SAs that are BOUND, in the module (R418). -/
def boundSas (s : State) : Nat :=
  (s.led.vals.filter fun kv =>
    let idx := kv.1 / 16777216
    decide (0x2B40 ≤ idx) && decide (idx < 0x2B80) && kv.1 / 65536 % 256 == 3 && kv.2 == 2).length

/-- Name an SA in INIT (R418, item 1): the former one returns to READY. None where it may not be named: where it is not READY, or 448 are
BOUND, before the former one is given up. -/
def nameSa (s : State) (d n old new : Nat) : Option State :=
  let i (a : Nat) := 0x2B40 + a - 1
  let s1 := if old = 0 ∨ s.obj (i old) 4 d ≠ n then s else (s.setObj (i old) 3 d 1).setObj (i old) 4 d 0xFFFFFFFF
  if new = 0 then some s1
  else if 64 < new ∨ s.obj (i new) 3 d ≠ 1 ∨ 448 ≤ s.boundSas then none
  else some ((s1.setObj (i new) 3 d 2).setObj (i new) 4 d n)

/-- Take both keys of the QP's SA at INIT to RTR (R418, item 2): the state with them, or a status. -/
def bindKeys (s : State) (n d : Nat) (a : QpAttr) : State × Option Nat :=
  if a.sa = 0 then (s, none)
  else
    let i := 0x2B40 + a.sa - 1
    let tx := s.obj i 1 d
    let rx := s.obj i 2 d
    let bad (k : Nat) : Bool := (s.keySlot d k).state == 0 || (s.keySlot d k).type == 3
    if s.obj i 4 d != n || bad tx || bad rx then (s, some 0x12)
    else match s.takeKey d tx with
      | (none, s1) => (s1, some 0x0F)
      | (some kt, s1) => match s1.takeKey d rx with
        | (none, s2) => (s2, some 0x0F)
        | (some kr, s2) => (s2.setQp n { s2.qp n with txKey := kt, rxKey := kr }, none)

/-- The status and result of a QP_MODIFY. -/
def modifyEnds (s : State) (f : Nat) (e : Entry) (st : Nat) : State :=
  let n := e.u32 8
  let q := s.qp n
  s.complete f e st (leBytes 4 n ++ leBytes 1 q.state.code ++ leBytes 1 q.incarnation)

/-- The slots of both keys leave with the SA (R418, item 4). -/
def emptySa (s : State) (d a : Nat) : State :=
  if a = 0 then s
  else
    let i := 0x2B40 + a - 1
    let drop (t : State) (k : Nat) : State :=
      if k = 0xFFFF then t else t.emptySlot d k
    (drop (drop s (s.obj i 1 d)) (s.obj i 2 d)).freeSa d a

/-- A QP passes to RESET with its entries already ended (R254), and the SA that is bound to it is emptied (R418, item 4). -/
def resetQp (s : State) (n : Nat) : State :=
  let q := s.qp n
  (if s.obj (0x2B40 + q.attr.sa - 1) 4 (q.owner.getD 0) = n then s.emptySa (q.owner.getD 0) q.attr.sa else s).qpToReset n

/-- The transition of a QP_MODIFY with the attributes applied (R254). -/
def qpMove (s : State) (f n : Nat) (q : Qp) (a : QpAttr) (target : Nat) : State × Nat :=
  let put (x : Qp) := s.setQp n x
  match q.state, target with
  | .reset, 1 => (put { Qp.reset n q.incarnation q.quarantine with state := .init, owner := some f, attr := a, replies := q.replies }, 0)
  | .init, 2 =>
    if !s.rtrOk f a then (s, 0x12)
    else match (put { q with attr := a }).bindKeys n f a with
      | (s1, some st) => (s1.setQp n q, st)
      | (s1, none) =>
        let k := s1.qp n
        (s1.setQp n { k with state := .rtr, ePsn := a.rqPsn, arrived := 0, atomics := [], k := 0, ringLost := false,
                             recvLimit := if a.recvLoc = 0 then 0 else 2 ^ a.recvLog }, 0)
  | .rtr, 3 =>
    if !bit a.given 8 then (s, 0x12)
    else (put { q with state := .rts, attr := a, next := a.sqPsn, una := a.sqPsn, sendIndex := 0, sendLimit := a.remoteSlots % 65536,
                       retries := 0, timeout := a.rtoBase, rung := 0, pressure := 0, clean := 0, lastEcn := none, lastCut := none,
                       climbAt := none, rate := s.rateNow, bucket := ⟨0, s.now⟩ }, 0)
  | .init, 1 => (put { q with attr := a }, 0)
  | .rtr, 2 => (put { q with attr := a }, 0)
  | .rts, 3 => (put { q with attr := a }, 0)
  | .error, 4 => (s, 0)
  | .reset, 0 => (s, 0)
  | .reset, _ => (s, 0x12)
  | .error, 0 => ((s.flushQp n (fun _ => false) 0x0D).resetQp n, 0)
  | .error, _ => (s, 0x12)
  | _, 4 =>
    let s1 := (s.leaveOut n).flushQp n (fun _ => false) 0x0D
    (s1.setQp n { (s1.qp n).halt with attr := a, replies := (s1.qp n).replies.filter HrtReply.isStale }, 0)
  | _, 0 => ((s.flushQp n (fun _ => false) 0x0D).resetQp n, 0)
  | _, _ => (s, 0x12)

/-- QP_MODIFY once its block has been read. -/
def modifyWith (s : State) (f : Nat) (e : Entry) (q : Qp) (b : List Byte) : State :=
  let n := e.u32 8
  let mask := e.u32 0x10
  let target := e.u8 0x0C
  let pb := leAt b 6 1
  let laneOk := lowestLane (s.obj (0x2500 + 16 * (pb / 16 % 8)) 2) (pb % 4)
  if !attrOk b mask laneOk then s.modifyEnds f e 0x0E
  else
    let base := if q.state = .reset then QpAttr.default n else q.attr
    let a := attrApply base b mask
    match (if bit mask 14 then s.nameSa f n base.sa a.sa else some s) with
    | none => s.modifyEnds f e 0x12
    | some s1 =>
      -- A QP that passes to RESET keeps none of the fields, and names no SA.
      let r := (if target = 0 then s else s1).qpMove f n q a target
      -- Of a transition that fails, what taking the keys did stays: slots that failed to unwrap, the cache, and the counts (R414).
      if r.2 ≠ 0 then { s with cipher := r.1.cipher, drawn := r.1.drawn, led := { s.led with ctrs := r.1.led.ctrs } }.modifyEnds f e r.2
      else
        let t := r.1
        let t1 := if bit mask 17 ∧ target ≠ 0 then t.setQp n { t.qp n with recvLimit := ((t.qp n).recvLimit + leAt b 0x64 4) % 65536 } else t
        t1.modifyEnds f e 0

/-- QP_MODIFY (R252 to R254). -/
def runModify (s : State) (f : Nat) (e : Entry) : State :=
  let n := e.u32 8
  let mask := e.u32 0x10
  s.withQp n fun q t =>
    if 2 ^ 18 ≤ mask then t.modifyEnds f e 0x0E
    else if q.state ≠ .reset ∧ q.owner ≠ some f then t.modifyEnds f e 0x12
    else if q.state = .reset ∧ e.u8 0x0C ≠ 0 ∧
      (t.now < q.quarantine ∨ t.qpsAvailable ≤ n ∨ n < t.obj 0x2300 4 f ∨ t.obj 0x2300 4 f + t.obj 0x2300 5 f ≤ n) then t.modifyEnds f e 0x12
    else if mask &&& settable q.state (e.u8 0x0C) ≠ mask then t.modifyEnds f e 0x12
    else if mask = 0 then t.modifyWith f e q (List.replicate 128 0)
    else match e.buf 0x14 with
      | none => t.modifyEnds f e 0x0E
      | some b => match t.resolveBuf f b 128 false false with
        | (.fail st, t1) => t1.modifyEnds f e st
        | (.wait, t1) => t.moveWait f e t1
        | (.ok ps, t1) =>
          if !t1.piecesReady ps then t1
          else match t1.readPieces ps with
            | (none, t2) => t2.modifyEnds f e 0x0B
            | (some bs, t2) => t2.modifyWith f e q bs

/-! Acknowledgements and responses at the requester -/

/-- A wire PSN as the count nearest to una (R245); none for one that lies before every count. -/
def absPsn (q : Qp) (p : Nat) : Option Nat :=
  let d := subMod (2 ^ 24) p q.una
  if d < 2 ^ 23 then some (q.una + d) else if 2 ^ 24 ≤ q.una + d then some (q.una + d - 2 ^ 24) else none

/-- A wire PSN lies in [una, next PSN): its distance from una (R268). -/
def outstanding (q : Qp) (p : Nat) : Option Nat :=
  let d := subMod (2 ^ 24) p q.una
  if d < q.next - q.una then some d else none

/-- Some PSN is unacknowledged or a response is awaited (R270). -/
def awaiting (q : Qp) : Bool :=
  decide (q.una < q.next) || q.reqs.any fun r => r.status.isNone && ((r.op == 3 && r.placed.length < r.sent) || ((r.op == 5 || r.op == 6) && r.sent == 1))

/-- Every PSN below `a` is acknowledged (R268): the timer restarts or stops, but not in a NAK_PAGE wait. It stops too where the last response
awaited has come after the ACK of its PSNs (R270). -/
def ackTo (s : State) (n a : Nat) : State :=
  let q := s.qp n
  if a ≤ q.una then (if q.waitUntil.isNone && !awaiting q then s.setQp n { q with timerAt := none } else s)
  else
    let q1 := { q with una := a, retries := 0, timeout := q.attr.rtoBase, sack := q.sack / 2 ^ (a - q.una),
                       kept := q.kept.filter (fun kv => a ≤ kv.1), nakSeen := q.nakSeen.filter fun x => a ≤ x.1 }
    let q2 := if q.waitUntil.isSome then q1
      else { q1 with timerAt := if awaiting q1 then some (s.now + q1.timeout * 1000000) else none }
    s.setQp n q2

/-- Take what every ACK that passes step 6 carries: RECV_LIMIT and ECE (R265, R268). -/
def takeLimit (s : State) (n : Nat) (p : HrtPkt) : State :=
  let q := s.qp n
  let lim := beAt p.ack 6 2
  let s1 := if subMod 65536 lim q.sendLimit < 32768 then s.setQp n { q with sendLimit := lim } else s
  if beAt p.ack 4 1 / 128 = 1 then s1.ecnEvent n else s1

/-- Record the SACK: bit i stands for PSN una + i once una is ACK_PSN + 1 (R244, R268). -/
def ackSack (p : HrtPkt) : Nat := ((List.range 8).map fun i => beAt p.ack (16 + 4 * i) 4 * 2 ^ (32 * i)).sum

/-- ACK_PSN and SACK of an acknowledgement (R268). -/
def takeAck (s : State) (n : Nat) (p : HrtPkt) : State :=
  let q := s.qp n
  let a := beAt p.ack 1 3
  match outstanding q a with
  | some d =>
    let s1 := s.ackTo n (q.una + d + 1)
    s1.setQp n { s1.qp n with sack := ackSack p }
  | none => if (a + 1) % 2 ^ 24 = q.una % 2 ^ 24 then s.setQp n { q with sack := ackSack p } else s

/-- What is due again from PSN `lo`, in PSN order (R270, R296): unSACKed PSNs of una … next − 1, and for each READ_REQ with
missing responses its first missing PSN. -/
def dueAgain (q : Qp) (lo : Nat) : List Nat :=
  let reads := q.reqs.filter fun r => r.op == 3 && r.status.isNone
  let inRead (p : Nat) : Bool := q.reqs.any fun r => r.op == 3 && decide (r.first ≤ p) && decide (p < r.first + r.sent)
  let groups := reads.flatMap fun r =>
    (List.range (ceilDiv r.sent 64)).filterMap fun g =>
      ((List.range (min 64 (r.sent - 64 * g))).find? fun j => !r.placed.contains (64 * g + j)).map fun j => r.first + 64 * g + j
  let plain := (List.range (q.next - q.una)).filterMap fun i =>
    if !bit q.sack i && !inRead (q.una + i) then some (q.una + i) else none
  ((groups.filter (lo ≤ ·)) ++ (plain.filter (lo ≤ ·))).insertionSort (· ≤ ·)

/-- The retransmission timer has expired, or a NAK_PAGE counts as an expiry (R270, R271, R296, R301). -/
def rtoExpires (s : State) (n : Nat) : State :=
  let q := s.qp n
  if q.retries = q.attr.retryLimit then (s.count 0x5100 5 1).qpErrorAll n 5
  else
    let t := min (2 * q.timeout) 16000
    s.setQp n { q with retries := q.retries + 1, timeout := t, rtx := dueAgain q 0, rtxPage := false, timerAt := some (s.now + t * 1000000) }

end State

/-- HRT_PACKET_TRANSMIT: the QP's next packet leaves when it is the QP's turn and its pipeline's last packet of that class has
gone (R260, R276, R315). -/
def execHrtPacketTransmit (qp : Nat) (s : State) : Host.Outcome State Fault Refusal :=
  s.live (s.withQp qp fun q t =>
    match t.offerOf q with
    | none => s
    | some o =>
      let k := ((4 * o.2.1 + o.2.2.1) * 8 + o.2.2.2) * 8 + qp % 8
      if !t.pipelineTurn qp o ∨ (t.sub (4 * o.2.1 + o.2.2.1)).queue o.2.2.2 (qp % 8) ≠ [] then s
      else if t.synthSpent q then (t.endSpent qp).settleHands
      else
        let t1 := { t with hrt := { t.hrt with pointer := t.hrt.pointer.setNum (k * 8 + o.1) (qp + 1) } }
        ((if o.1 ≤ 2 then t1.sendReply qp o.1 else if o.1 = 3 then t1.sendRtx qp else t1.sendNew qp).endSpent qp).settleHands)

def execQpModify (fid idx : Nat) (s : State) : Host.Outcome State Fault Refusal :=
  s.live (s.runEntry fid idx [0x18] fun e t => (t.runModify fid e).settleHands)

/-- RESUME (R293). While a table read waits for P0, or the page is being moved, RESUME waits with its translation (R133, R362). -/
def execResume (fid idx : Nat) (s : State) : Host.Outcome State Fault Refusal :=
  s.live (s.runEntry fid idx [0x19] fun e t =>
    let n := e.u32 8
    t.withQp n fun q t1 =>
      if q.owner ≠ some fid ∨ q.state ≠ .rts then t1.complete fid e 0x12 (leBytes 4 n)
      else match q.stall with
        | none => t1.complete fid e 0 (leBytes 4 n)
        | some st =>
          match t1.translate fid st.page st.write false with
          | (.wait, _) => s
          | (.moving, t2) => t1.moveWait fid e t2
          | (.notPresent, t2) => (t2.pageRequest n st.page st.write false).complete fid e 0 (leBytes 4 n)
          | (_, t2) => (t2.setQp n { t2.qp n with stall := none }).complete fid e 0 (leBytes 4 n))

/-- RETRANSMIT_TIMEOUT (R270, R271, R301). -/
def execRetransmitTimeout (qp : Nat) (s : State) : Host.Outcome State Fault Refusal :=
  s.live (
    let q := s.qp qp
    match q.timerAt with
    | some t => if q.state = .rts ∧ t ≤ s.now then (((s.count 0x5100 4 1).lossCut qp).rtoExpires qp).settleHands else s
    | none => s)

/-- PAGE_WAIT_END (R296, item 2). -/
def execPageWaitEnd (qp : Nat) (s : State) : Host.Outcome State Fault Refusal :=
  s.live (
    let q := s.qp qp
    match q.waitUntil with
    | some t =>
      if q.state = .rts ∧ t ≤ s.now then
        s.setQp qp ({ q with waitUntil := none, rtx := State.dueAgain q q.waitFrom, rtxPage := true }.startTimer s.now)
      else s
    | none => s)

/-- PAGE_WAIT_TIMEOUT (R294). -/
def execPageWaitTimeout (qp : Nat) (s : State) : Host.Outcome State Fault Refusal :=
  s.live (
    let q := s.qp qp
    match q.stall with
    | some st =>
      if st.since + st.limit * 1000000000 ≤ s.now then
        (match State.nextReq q with
        | some (i, r) => ((s.setReq qp i { r with status := some 7 }).qpError qp (fun _ => false) 7).count 0x5101 0x0A 1
        | none => (s.qpError qp (fun _ => false) 7).count 0x5101 0x0A 1)
      else s
    | none => s)

/-- CLIMB_TIMER (R300). -/
def execClimbTimer (qp : Nat) (s : State) : Host.Outcome State Fault Refusal :=
  s.live (
    let q := s.qp qp
    match q.climbAt with
    | some t =>
      if t ≤ s.now then s.climb qp t else s
    | none => s)

/-- ACK_DELAY_EXPIRY (R267, item 3). -/
def execAckDelayExpiry (qp : Nat) (s : State) : Host.Outcome State Fault Refusal :=
  s.live (
    match (s.qp qp).ackAt with
    | some t => if t ≤ s.now then s.sendAck qp 0 0 0 else s
    | none => s)

end Sys2Proof.Machine
end

