-- ==== Sys2Proof/Machine/HrtRecv.lean ====
section
/-! DEFINITION. Machine/HrtRecv.lean: a received HRT packet (R257 to R259), the window and the effects of messages (R258, R262
to R265), requests executed in PSN order with atomics and FLUSH (R264, R284 to R291), and the requester's share (R268, R269,
R296). -/

namespace Sys2Proof.Machine

/-- A packet received on a sub-port, with its headers. -/
structure HrtIn where
  frame : RxFrame
  link : Link
  udp : Udp
  pkt : HrtPkt
  deriving DecidableEq, Repr

/-- The message produces a receive completion (R263). -/
def HrtEffect.receives (e : HrtEffect) : Bool := !e.write || e.imm.isSome

/-- The packet carried CE as it arrived (R257). -/
def HrtIn.ce (x : HrtIn) : Bool := x.udp.ecn == 3

namespace State

/-- A frame of the kitty's HRT queue with its headers (R312). -/
def hrtOf (s : State) (f : RxFrame) : Option HrtIn :=
  let l := Link.parse (s.obj (0x2500 + 16 * f.port) 7) f.bytes
  match Udp.parse l f.bytes with
  | none => none
  | some u => match HrtPkt.parse u.len u.bytes with
    | .inl p => some ⟨f, l, u, p⟩
    | .inr _ => none

/-- The packets that come first for their HRT pipelines, with their positions in the kitty's HRT queue: QP n is served by pipeline
n mod 8, so a packet that waits holds none of another pipeline (R250). -/
def hrtFirsts (s : State) : Nat → List Nat → List RxFrame → List (Nat × HrtIn)
  | _, _, [] => []
  | i, taken, f :: fs =>
    match s.hrtOf f with
    | none => s.hrtFirsts (i + 1) taken fs
    | some x =>
      let l := x.pkt.destQpn % 8
      if taken.contains l then s.hrtFirsts (i + 1) taken fs else (i, x) :: s.hrtFirsts (i + 1) (l :: taken) fs

/-- Those of them that a command takes. -/
def hrtNext (s : State) (ops : HrtPkt → Bool) : List (Nat × HrtIn) :=
  (s.hrtFirsts 0 [] s.eth.hrtIn).filter fun y => ops y.2.pkt

/-- The packet at a position leaves the queue and its cells are released (R314). -/
def popHrt (s : State) (i : Nat) : State :=
  let s1 := { s with eth := { s.eth with hrtIn := s.eth.hrtIn.eraseIdx i } }
  match s.eth.hrtIn[i]? with
  | some f => s1.pfcTick f.port
  | none => s1

/-- The answer to a stale request, built from the arriving packet (R259). -/
def staleReply (s : State) (x : HrtIn) : HrtReply :=
  let ext := beBytes 4 (2 ^ 24 + x.pkt.psn) ++ List.replicate 44 0
  let h := hrtBase 0x10 true true false false false false 0 x.pkt.srcInc x.pkt.srcQpn 0 0 (s.qp x.pkt.destQpn).incarnation x.pkt.destQpn
  let udp := udpBytes x.udp.v6 x.udp.dst x.udp.src x.udp.sport (s.forced 0x2700 1) (withIcrc (h ++ ext))
  let f := frameOf x.link.src (s.portMac x.frame.port x.frame.lane) x.link.tags x.link.etype
    (ipBytesOf x.udp.v6 x.udp.dst x.udp.src x.udp.dscp x.udp.flow udp)
  .stale x.frame.port x.frame.lane (s.frameClass x.frame.port x.link (some x.udp.dscp)) f

/-- Steps 3 to 6 of R257. None where the packet has been dealt with. -/
def passSix (s : State) (x : HrtIn) : Option Qp × State :=
  let p := x.pkt
  let n := p.destQpn
  let stale := p.op == 0x10 && beAt p.ack 0 1 == 1
  let q := s.qp n
  if p.destInc ≠ q.incarnation ∨ (!stale ∧ p.destEpoch ≠ s.obj 0x2001 3 % 256) then
    let s1 := s.count 0x5100 7 1
    (none, if p.isRequest then s1.setQp n { q with replies := q.replies ++ [s.staleReply x] } else s1)
  else
    let takes := match q.state with
      | .rtr => p.isRequest
      | .rts => true
      | .error => p.isRequest && q.fatal.isSome
      | _ => false
    if !takes then (none, s.count 0x5100 0x0D 1)
    else if p.srcQpn ≠ q.attr.destQpn ∨ x.udp.src ≠ q.attr.dstIp ∨ p.sec ≠ (q.attr.sa != 0) then (none, s.count 0x5100 0x0E 1)
    else match q.fatal with
      | some (c, psn) => (none, if q.state = .error then (if c = 0x24 then s.count 0x5800 3 1 else s).sendNak n c psn else s)
      | none => (some q, s)

/-- Take a packet through steps 3 to 6 of R257. One whose context is not cached waits (R250), and so does one that `k` cannot take yet. -/
def receiveAt (s : State) (i : Nat) (x : HrtIn) (k : HrtIn → Qp → State → Option State) : Option State :=
  if 65536 ≤ x.pkt.destQpn ∨ s.qpsAvailable ≤ x.pkt.destQpn then some ((s.popHrt i).count 0x5100 0x0D 1)
  else if !s.cachedQp x.pkt.destQpn then none
  else match ((s.popHrt i).touchQp x.pkt.destQpn).passSix x with
    | (none, s1) => some s1
    | (some q, s1) => (k x q s1).map settleHands

/-- Take the first packet that is first for its pipeline, whose opcode is one of `ops` and that does not wait: one that waits holds no packet
of another pipeline. -/
def receive (s : State) (ops : HrtPkt → Bool) (k : HrtIn → Qp → State → Option State) : State :=
  ((s.hrtNext ops).findSome? fun y => s.receiveAt y.1 y.2 k).getD s

/-! Effects and the window -/

/-- The RECEIVE record of a message (R354). -/
def receiveRecord (n : Nat) (e : HrtEffect) : List Byte :=
  [2, 0, 0, 0, 0, 0, 0, 0] ++ padTo 24
    (leBytes 4 n ++ leBytes 4 (e.imm.getD 0) ++ leBytes 4 e.len ++ leBytes 2 (if e.write then 0 else e.index) ++
     leBytes 1 (bnat e.imm.isSome + 2 * bnat e.write))

/-- Apply a message's effects: its signal and its receive record (R158, R263). -/
def applyEffect (s : State) (f n : Nat) (e : HrtEffect) : State :=
  let s1 := match e.peg with
    | some h => s.addHubPeg h 1
    | none => s
  if e.receives then s1.placeRecord f (receiveRecord n e) else s1

/-- The ordering read's place for a message whose LAST packet has this PSN: the packets before it that are not passed yet are the
message's (R159). -/
def lastSpot (q : Qp) (psn : Nat) : Option (Nat × Nat) := lastBusOf ((q.spots.filter (·.1 ≤ psn)).flatMap (·.2))

/-- Put a packet's pieces among the others in PSN order. -/
def insertSpot (x : Nat × List Piece) : List (Nat × List Piece) → List (Nat × List Piece)
  | [] => [x]
  | y :: ys => if x.1 < y.1 then x :: y :: ys else y :: insertSpot x ys

/-- ePSN advances over accepted packets, applying each message's effects as it passes its LAST packet (R258, R263). It stops
at a message whose signal waits for an ordering read (R159) or whose record cannot be staged (R358). Answers whether it
passed a packet that carried ACKREQ. -/
def advanceN (s : State) (n : Nat) : Nat → Bool → State × Bool
  | 0, a => (s, a)
  | fuel + 1, a =>
    let q := s.qp n
    if q.arrived % 2 = 0 then (s, a)
    else
      let f := q.owner.getD 0
      let pass (t : State) (last : Bool) : State × Bool :=
        let q1 := t.qp n
        (t.setQp n { q1 with ePsn := q.ePsn + 1, arrived := q.arrived / 2, ackReqs := q1.ackReqs.filter (· != q.ePsn),
                             effects := q1.effects.filter (·.psn != q.ePsn),
                             spots := if last then q1.spots.filter (fun x => q.ePsn < x.1) else q1.spots }).advanceN n fuel
          (a || q.ackReqs.contains q.ePsn)
      match q.effects.find? (·.psn == q.ePsn) with
      | none => pass s false
      | some e =>
        match (if e.peg.isSome && !e.ordered then lastSpot q e.psn else none) with
        | some (port, addr) =>
          if e.asked.isSome then (s, a)
          else
            ((s.issueOrdering port addr f (.message n e.psn)).setQp n
              { q with effects := q.effects.map fun x => if x.psn == e.psn then { x with asked := some s.fab.nextOrdering } else x }, a)
        | none =>
          let v := s.fn f
          if e.receives ∧ !(v.canRecord && v.heldRecords.isEmpty) then (s.pause f, a)
          else pass (s.applyEffect f n e) true

/-- ePSN advances, and an ACK leaves where a packet with ACKREQ was passed (R267, item 1). -/
def advanceQp (s : State) (n : Nat) : State :=
  let r := s.advanceN n 260 false
  if r.2 then r.1.sendAck n 0 0 0 else r.1

/-- A request packet of k PSNs from `psn` is accepted (R258, R266, R267). -/
def accept (s : State) (n psn k : Nat) (ackReq ce marked : Bool) : State :=
  let q := s.qp n
  let q1 := { q with arrived := q.arrived ||| ((2 ^ k - 1) * 2 ^ (psn - q.ePsn)), ackReqs := if ackReq then q.ackReqs ++ [psn + k - 1] else q.ackReqs,
                     ece := q.ece || ce || marked, coalesced := q.coalesced + 1,
                     ackAt := some (q.ackAt.getD (s.now + q.attr.ackDelay * 1000000)) }
  let s1 := if ce then s.count 0x5101 0x0B 1 else if marked then s.count 0x5101 0x0C 1 else s
  let s2 := (s1.setQp n q1).advanceQp n
  if q.attr.coalesce ≤ (s2.qp n).coalesced then s2.sendAck n 0 0 0 else s2

/-! Authentication (R420, R424) -/

/-- The count that a request's nonce is formed from: its PSN counts on from RQ_PSN; none for a packet behind it, which was never sent
under this key (R420). -/
def requestCount (q : Qp) (ahead : Bool) (d : Nat) : Option Nat :=
  let ne := q.ePsn - q.attr.rqPsn
  if ahead then some (ne + d) else if ne < 2 ^ 24 - d then none else some (ne - (2 ^ 24 - d))

/-- The engine refuses a payload under R410. -/
def cipherRefuses (s : State) (p : HrtPkt) : Bool := !s.cipherNormal && p.payload.length % 16 != 0

/-- The payload of a secure request after step 8; none where authentication fails. -/
def openRequest (s : State) (q : Qp) (p : HrtPkt) (ahead : Bool) (d : Nat) : Option (List Byte) :=
  if q.attr.sa = 0 then some p.payload
  else match requestCount q ahead d with
    | none => none
    | some k =>
      let iv := countedNonce k
      if s.cipherRefuses p then none
      else if Aes.gcmTag q.rxKey iv p.aad p.payload = p.tag then some (Aes.gcmText q.rxKey iv p.payload) else none

/-- An ACK or a response of a secure QP verifies (R419, R424). -/
def openReply (q : Qp) (p : HrtPkt) : Bool := q.attr.sa == 0 || Aes.gcmTag q.rxKey (synthNonce p.aad) p.aad p.payload == p.tag

/-! Access (R283) -/

/-- A region is shared with a drawer (R374). -/
def sharedWith (s : State) (r d : Nat) : Bool :=
  (List.range 64).any fun i =>
    s.obj (0x2360 + i) 1 == r && s.obj (0x2360 + i) 4 == 1 && s.obj (0x2360 + i) 5 == 1 && s.obj (0x2360 + i) 3 == d &&
    (s.region r).valid && s.obj (0x2360 + i) 2 == (s.region r).owner

/-- Checks 1 to 6 of R283 for a key: the syndrome of the first failure. -/
def keyCheck (s : State) (d : Nat) (p : HrtPkt) (n : Nat) : Option Nat :=
  let g := s.region (p.key / 256)
  if 262144 ≤ p.key / 256 ∨ !g.valid then some 0x20
  else if p.key % 256 ≠ g.generation then some 0x20
  else if g.owner ≠ d ∧ !s.sharedWith (p.key / 256) d then some 0x20
  else if g.length < p.roff + n then some 0x20
  else if (p.op = 5 ∨ p.op = 6) ∧ (g.base + p.roff) % 8 ≠ 0 then some 0x21
  else if !bit g.rights (if p.op = 2 then 1 else if p.op = 3 then 0 else if p.op = 8 then 3 else 2) then some 0x20
  else none

/-- The bytes of a keyed range, page by page through the owner's tables; what stopped, and at which page (R283, check 9). -/
def keyPieces (s : State) (p : HrtPkt) (n : Nat) (write : Bool) : List Piece × State × Option (Tr × Nat) :=
  let g := s.region (p.key / 256)
  if n = 0 then ([], s, none)
  else if g.kind = .bus then ([.bus g.port (g.base + p.roff) n], s, none)
  else
    let base := g.base + p.roff
    let r := s.resolveMore g.owner n write (n / 65536 + 2) { plainReq (.entry 0) 1 n 1024 with buf := .dva base }
    (r.1.pieces, r.2.1, r.2.2.map fun t => (t, (base + (r.1.pieces.map Piece.len).sum) / 65536 * 65536))

/-- The DVA of a SEND's bytes in its slot, of a ring in device or host memory (R265). -/
def slotDva (s : State) (q : Qp) (p : HrtPkt) : Nat :=
  let a := q.attr
  let off := p.sendIndex % 2 ^ a.recvLog * a.recvSize + p.msgOff
  if a.recvLoc = 1 then (s.region (a.recvBase / 2 ^ 40)).base + a.recvBase % 2 ^ 40 + off else a.recvBase + off

/-- The slot bytes of a SEND (R265); checks of the ring: a syndrome, or the pieces. -/
def sendPieces (s : State) (q : Qp) (p : HrtPkt) (payload : List Byte) : Option Nat × List Piece × State × Option (Tr × Nat) :=
  let a := q.attr
  let d := q.owner.getD 0
  let m := subMod 65536 q.recvLimit p.sendIndex
  let n := payload.length
  let base := s.slotDva q p
  let viaDva (owner base : Nat) : Option Nat × List Piece × State × Option (Tr × Nat) :=
    let r := s.resolveMore owner n true (n / 65536 + 2) { plainReq (.entry 0) 1 n 1024 with buf := .dva base }
    (none, r.1.pieces, r.2.1, r.2.2.map fun t => (t, (base + (r.1.pieces.map Piece.len).sum) / 65536 * 65536))
  if a.recvLoc = 0 ∨ m = 0 ∨ 32768 < m ∨ a.recvSize < p.msgOff + n then (some 0x22, [], s, none)
  else if a.recvLoc = 1 then
    let g := s.region (a.recvBase / 2 ^ 40)
    if q.ringLost ∨ !g.valid ∨ g.owner ≠ d then (some 0x22, [], s, none)
    else if g.kind = .bus then (none, if n = 0 then [] else [.bus g.port base n], s, none)
    else viaDva d base
  else viaDva d base

/-- A page that stops a responder: the NAK of R133's column, with the PAGE_REQUEST of R295. None where the request waits
because P0 is down (R362). -/
def pageNak (s : State) (n psn : Nat) (t : Tr) (page : Nat) (write : Bool) : Option State :=
  let nakPage (post : Bool) : State :=
    let q := s.qp n
    let s1 := if post ∧ q.reported ≠ some page then (s.setQp n { q with reported := some page }).pageRequest n page write true else s
    s1.sendAck n 0x10 psn (s.obj 0x2701 1)
  match t with
  | .notPresent => some (nakPage true)
  | .moving => some (nakPage false)
  | .protection => some (s.fatalNak n 0x20 psn)
  | .wait => none
  | .mapParity => some (s.fatalNak n 0x23 psn)
  | _ => some (s.fatalNak n 0x21 psn)

/-- A page of the QP's own drawer that has translated for the QP is no longer the page it last reported (R295): `len` bytes from a DVA have
translated. -/
def forget (s : State) (n base len : Nat) : State :=
  let q := s.qp n
  match q.reported with
  | some pg => if len ≠ 0 ∧ base / 65536 * 65536 ≤ pg ∧ pg < base + len then s.setQp n { q with reported := none } else s
  | none => s

/-- The pages of a keyed DVA range that have translated; a shared region's pages are another drawer's, and a BUS region has none. -/
def forgetKey (s : State) (n : Nat) (p : HrtPkt) (ps : List Piece) : State :=
  let g := s.region (p.key / 256)
  if g.kind = .dva then s.forget n (g.base + p.roff) (ps.map Piece.len).sum else s

/-- The pages of a SEND's slot that have translated. -/
def forgetSlot (s : State) (n : Nat) (q : Qp) (p : HrtPkt) (ps : List Piece) : State :=
  if q.attr.recvLoc = 1 ∧ (s.region (q.attr.recvBase / 2 ^ 40)).kind = .bus then s else s.forget n (s.slotDva q p) (ps.map Piece.len).sum

/-- A piece cannot be placed at all: its port is down, or P1's Bus Master Enable is clear (R262). -/
def unplaceable (s : State) (ps : List Piece) : Bool := ps.any fun p => match p with
  | .bus port _ _ => !s.busOk port
  | _ => false

/-- Note where a packet's bytes went behind PCIe ports (R159, R289). -/
def noteSpots (s : State) (n psn : Nat) (ps : List Piece) : State :=
  let q := s.qp n
  let spots := if (busPieces ps).isEmpty then q.spots else insertSpot (psn, busPieces ps) q.spots
  let fb := ps.foldl (fun (m : Sparse Nat) p => match p with
    | .bus port a k => if k = 0 then m else m.setNum port (a + k)
    | _ => m) q.flushBus
  s.setQp n { q with spots := spots, flushBus := fb }

/-- The hub peg of a SIG packet is refused (R283, check 8). -/
def pegRefused (s : State) (d : Nat) (p : HrtPkt) : Bool := p.sig && !s.ownsPeg d p.peg

/-- Write a packet's bytes for a QP. Bytes that another message has placed, whose sender cannot know yet that it is complete, are left
undefined (R262; log 149). -/
def placeHrt (s : State) (x : HrtPlace) (bs : List Byte) : State :=
  let f := (s.qp x.qp).owner.getD 0
  let others := s.hrt.placed.filter fun y => !(y.qp == x.qp && y.requester == x.requester && y.msg == x.msg)
  let mix := others.flatMap fun y => commonPieces x.pieces y.pieces
  let s1 := s.writePieces f x.pieces bs
  let s2 := if mix = [] then s1 else s1.scramblePieces f mix
  { s2 with hrt := { s2.hrt with placed := s2.hrt.placed ++ [x] } }

/-! A new SEND or WRITE -/

/-- Place a new SEND or WRITE, and accept it (R262, R263). -/
def placeNew (s : State) (n psn : Nat) (x : HrtIn) (p : HrtPkt) (ps : List Piece) : State :=
  if s.unplaceable ps then (s.raiseSource 7).fatalNak n 0x23 psn
  else
    let s1 := ((s.placeHrt ⟨n, false, psn - ceilDiv p.msgOff (paySize (s.qp n).attr.payload), psn, ps, p.last⟩ p.payload).race ps).noteSpots n psn ps
    let q := s1.qp n
    let eff := if p.last then q.effects ++ [⟨psn, p.op == 2, p.msgLen, if p.immSet then some p.imm else none, p.sendIndex,
      if p.sig then some p.peg else none, none, false⟩] else q.effects
    (s1.setQp n { q with effects := eff }).accept n psn 1 p.ackReq (x.ce) x.frame.ce

/-- A new WRITE after step 8 (R283). -/
def newWrite (s : State) (n psn : Nat) (x : HrtIn) (p : HrtPkt) : Option State :=
  let d := (s.qp n).owner.getD 0
  match s.keyCheck d p p.payload.length with
  | some c => some (s.fatalNak n c psn)
  | none =>
    if s.pegRefused d p then some (s.fatalNak n 0x20 psn)
    else match s.keyPieces p p.payload.length true with
      | (ps, s1, some (t, page)) => (s1.forgetKey n p ps).pageNak n psn t page true
      | (ps, s1, none) => if s1.stackHeld ps then none else some ((s1.forgetKey n p ps).placeNew n psn x p ps)

/-- A new SEND after step 8 (R265, R283). -/
def newSend (s : State) (n psn : Nat) (x : HrtIn) (p : HrtPkt) : Option State :=
  let q := s.qp n
  let d := q.owner.getD 0
  match s.sendPieces q p p.payload with
  | (some c, _, _, _) => some (s.fatalNak n c psn)
  | (none, ps, s1, stop) =>
    if s.pegRefused d p then some (s.fatalNak n 0x20 psn)
    else match stop with
      | some (t, page) => (s1.forgetSlot n q p ps).pageNak n psn t page true
      | none => if s1.stackHeld ps then none else some ((s1.forgetSlot n q p ps).placeNew n psn x p ps)

/-! Requests in PSN order -/

/-- The READ_RESP packets of a READ_REQ (R245, R274). -/
def readReplies (p : HrtPkt) (bs : List Byte) : List HrtReply :=
  let ps := paySize p.readPs
  let cs := pieces ps bs
  cs.zipIdx.map fun (c, j) =>
    .response 4 ((p.psn + j) % 2 ^ 24) (j == 0) (j + 1 == cs.length) (hrtMx (j * ps) p.len 0 0 0) c

/-- Checks of a READ_REQ at the responder (R283, checks 1 to 7, R422). -/
def readCheck (s : State) (q : Qp) (p : HrtPkt) : Option Nat :=
  let a := q.attr
  match s.keyCheck (q.owner.getD 0) p p.len with
  | some c => some c
  | none =>
    if a.sa ≠ 0 then some 0x20
    else if p.len = 0 ∨ 64 * paySize p.readPs < p.len then some 0x22
    else if s.obj (0x2500 + 16 * q.port) 6 < largestFrame a.tags (!isMapped a.srcIp) (a.sa != 0) (paySize p.readPs) then some 0x22
    else none

/-- Serve a READ_REQ: its bytes as responses; a page or parity NAK otherwise (R133, R146, R274). None where it waits. -/
def serveRead (s : State) (n psn : Nat) (p : HrtPkt) : Option (State × Bool) :=
  match s.keyPieces p p.len false with
  | (ps, s1, some (t, page)) => ((s1.forgetKey n p ps).pageNak n psn t page false).map fun x => (x, false)
  | (ps, s1, none) =>
    let s0 := s1.forgetKey n p ps
    if !s0.piecesReady ps then none
    else match s0.readPieces ps with
      | (none, s2) => some (s2.fatalNak n 0x23 psn, false)
      | (some bs, s2) =>
        let q := s2.qp n
        some (s2.setQp n { q with replies := q.replies ++ readReplies p bs }, true)

/-- ORIGINAL is known: it is cached and answered, and the atomic is accepted (R273, R284). -/
def atomicDone (s : State) (n psn : Nat) (p : HrtPkt) (v : Nat) : State :=
  let q := s.qp n
  ((s.setQp n { q with busy := none, atomics := ((psn % 2 ^ 24, v) :: q.atomics).take 16,
                         replies := q.replies ++ [.response 7 (psn % 2 ^ 24) true true (beBytes 8 v) []] }).count 0x5101 3 1).accept n psn 1 p.ackReq p.ce p.marked

/-- What an ADD or a CAS writes over an original value; a CAS whose comparison fails writes nothing (R284). -/
def atomicResult (p : HrtPkt) (v : Nat) : Option Nat :=
  if p.op = 5 then some ((v + p.operand) % 2 ^ 64) else if v = p.compare then some p.operand else none

/-- Execute an atomic whose turn has come (R285, R286). -/
def execAtomic (s : State) (n psn : Nat) (p : HrtPkt) : Option State :=
  match s.keyPieces p 8 true with
  | (ps, s1, some (t, page)) => (s1.forgetKey n p ps).pageNak n psn t page true
  | (ps, s1, none) =>
    let s0 := s1.forgetKey n p ps
    match ps with
    | [.bus port a _] =>
      if port = 0 ∧ !s0.ring.p0.up then none
      else if !s0.busOk port then some ((s0.raiseSource 7).fatalNak n 0x23 psn)
      else
        let q := s0.qp n
        some (((s0.setQp n { q with busy := some (.atomic p port a) }).count 0x5101 4 1).emit
          (.pcieRequest port (requester port (q.owner.getD 0)) a (leBytes 1 p.op ++ leBytes 8 p.operand ++ leBytes 8 p.compare)))
    | _ =>
      if s0.stackHeld ps then none
      else match s0.readPieces ps with
      | (none, s2) => some (s2.fatalNak n 0x23 psn)
      | (some bs, s2) =>
        let v := ofLe bs
        some ((match atomicResult p v with
          | some w => (s2.writePieces ((s.qp n).owner.getD 0) ps (leBytes 8 w)).race ps
          | none => s2).atomicDone n psn p v)

/-- The completer has applied an AtomicOp at a bus address: the memory behind the port holds its result, and it is a write of the owning
function (R284, R286). -/
def atomicApplied (s : State) (f port a : Nat) (p : HrtPkt) (v : Nat) : State :=
  match atomicResult p v with
  | some w => if port = 0 then (s.setHost (s.mem.host.writeBytes a (leBytes 8 w))).logWrite f a 8 else s.setPeer (s.mem.peer.writeBytes a (leBytes 8 w))
  | none => s

/-- Begin a FLUSH whose turn has come: one read for each port written since the last one (R289). -/
def startFlush (s : State) (n psn : Nat) (p : HrtPkt) : State :=
  let q := s.qp n
  let s1 := s.setQp n { q with busy := some (.flush p), flushBus := [], flushReads := (List.range q.flushBus.length).map (s.fab.nextOrdering + ·) }
  (q.flushBus.foldl (fun st kv => st.issueOrdering kv.1 (kv.2 - 1) (q.owner.getD 0) (.flush n psn)) s1).count 0x5101 6 q.flushBus.length

/-- Execute a request at ePSN (R264). None where it waits. -/
def execInOrder (s : State) (n psn : Nat) (p : HrtPkt) : Option State :=
  if p.op = 3 then
    match s.readCheck (s.qp n) p with
    | some c => some (s.fatalNak n c psn)
    | none => (s.serveRead n psn p).map fun r => if r.2 then r.1.accept n psn p.psns p.ackReq p.ce p.marked else r.1
  else if p.op = 8 then some (s.startFlush n psn p)
  else match s.keyCheck ((s.qp n).owner.getD 0) p 8 with
    | some c => some (s.fatalNak n c psn)
    | none => s.execAtomic n psn p

/-- The checks of a request that is held or executed in order, at its arrival (R283): a finished NAK, or the state. -/
def arrivalCheck (s : State) (n psn : Nat) (p : HrtPkt) : Option (State ⊕ State) :=
  let q := s.qp n
  let size := if p.op = 3 ∨ p.op = 8 then p.len else 8
  match (if p.op = 3 then s.readCheck q p else s.keyCheck (q.owner.getD 0) p size) with
  | some c => some (.inl (s.fatalNak n c psn))
  | none =>
    if p.op = 8 then some (.inr s)
    else match s.keyPieces p size (p.op != 3) with
      | (ps, s1, some (t, page)) => ((s1.forgetKey n p ps).pageNak n psn t page (p.op != 3)).map .inl
      | (ps, s1, none) => some (.inr (s1.forgetKey n p ps))

/-- A new READ_REQ, ADD, CAS or FLUSH: executed at ePSN, else held in its drawer's cells (R264). It counts in ECE only once it is
accepted (R257, R298). -/
def newOrdered (s : State) (n psn : Nat) (x : HrtIn) (p : HrtPkt) : Option State :=
  match s.arrivalCheck n psn p with
  | none => none
  | some (.inl t) => some t
  | some (.inr t) =>
    let p1 := { p with ce := x.ce, marked := x.frame.ce, cells := x.frame.cells }
    let q := t.qp n
    if psn = q.ePsn ∧ q.busy.isNone then t.execInOrder n psn p1
    else if 16 ≤ q.held.length ∨ !t.kittyRoom (q.owner.getD 0) p1.cells then some (t.count 0x5100 9 1)
    else some (t.setQp n { q with held := q.held ++ [p1] })

/-! Classes of R258 -/

/-- A PSN of the window is taken already: its bit is set, or its packet is held or executes (R258, R264, R290). -/
def taken (q : Qp) (d : Nat) (psn : Nat) : Bool :=
  bit q.arrived d || q.held.any (fun h => h.psn == psn) || (d == 0 && q.busy.isSome)

/-- A duplicate (R267, item 4, R272 to R274, R290). None where it waits. -/
def duplicate (s : State) (n : Nat) (p : HrtPkt) (behind : Bool) : Option State :=
  let q := s.qp n
  let s1 := s.count 0x5100 6 1
  let held := q.held.any (fun h => h.psn == p.psn) || (match q.busy with
    | some (.flush h) => h.psn == p.psn
    | some (.atomic h _ _) => h.psn == p.psn
    | none => false)
  if p.op = 8 then some (if held then s1 else s1.sendAck n 0 0 0)
  else if behind ∧ (p.op = 5 ∨ p.op = 6) then
    match q.atomics.find? (fun a => a.1 == p.psn) with
    | some a =>
      let q1 := s1.qp n
      some ((s1.setQp n { q1 with replies := q1.replies ++ [.response 7 p.psn true true (beBytes 8 a.2) []] }).count 0x5100 0x12 1)
    | none => some (s1.fatalNak n 0x22 p.psn)
  else if behind ∧ p.op = 3 then
    match s.readCheck q p with
    | some c => some (s1.fatalNak n c p.psn)
    | none => (s1.serveRead n p.psn p).map (·.1)
  else some (s1.sendAck n 0 0 0)

/-- A request packet from step 7 on (R258, R420). None where it waits. -/
def request (s : State) (x : HrtIn) (n : Nat) : Option State :=
  let q := s.qp n
  let p := x.pkt
  let d := subMod (2 ^ 24) p.psn q.ePsn
  let inWindow := decide (d + max 1 p.psns ≤ 256)
  let behind := decide (2 ^ 23 ≤ d)
  if !behind ∧ !inWindow then some (s.count 0x5100 8 1)
  else match s.openRequest q p (!behind) d with
    | none =>
      let s1 := (s.count 0x5800 3 1)
      some ((if s.cipherRefuses p then s1.count 0x5800 6 1 else s1.countBlocks (bnat (requestCount q (!behind) d).isSome)).fatalNak n 0x24 p.psn)
    | some payload =>
      let s1 := s.countSecure q.attr.sa (ceilDiv payload.length 16 + 1)
      let y := { p with payload := payload }
      if behind ∨ taken q d p.psn then s1.duplicate n y behind
      else
        let psn := q.ePsn + d
        if p.op = 1 then s1.newSend n psn x y
        else if p.op = 2 then s1.newWrite n psn x y
        else if p.op = 9 then
          some ((s1.deliverHand (q.owner.getD 0) (HandPkt.parse payload true)).accept n psn 1 p.ackReq (x.ce) x.frame.ce)
        else s1.newOrdered n psn x y

/-- A command that takes a request packet of one opcode. -/
def receiveRequest (s : State) (op : Nat) : State := s.receive (fun p => p.op == op) fun x _ t => t.request x x.pkt.destQpn

/-- The offset in a READ's destination of a response of PSN offset j: MSG_OFFSET from the start of the READ_REQ that it answers, the one
whose first PSN lies as many packets before it in its group of 64; none where it answers no READ_REQ (R262, R274; log 46). -/
def readPlace (ps j off : Nat) : Option Nat :=
  let k := off / ps
  if k ≤ j % 64 then some ((j - k) * ps + off) else none

/-- A READ_RESP is one that a read awaits (R268). -/
def HrtReq.awaitsRead (ps : Nat) (p : HrtPkt) (r : HrtReq) : Bool :=
  let j := subMod (2 ^ 24) p.psn r.first
  r.op == 3 && r.status.isNone && (readPlace ps j p.msgOff).isSome && decide (j < r.sent) && !r.placed.contains j

/-- An ATOMIC_RESP is one that an atomic awaits (R268). -/
def HrtReq.awaitsAtomic (p : HrtPkt) (r : HrtReq) : Bool :=
  (r.op == 5 || r.op == 6) && r.sent == 1 && r.status.isNone && r.first % 2 ^ 24 == p.psn

/-- Step 7 of R257 for a response, which comes before its tag: a request awaits it. -/
def Qp.awaits (q : Qp) (p : HrtPkt) : Bool :=
  q.reqs.any fun r => if p.op = 4 then HrtReq.awaitsRead (paySize q.attr.payload) p r else HrtReq.awaitsAtomic p r

/-- A command that takes an ACK or a response after step 8 (R268, R424). -/
def receiveReply (s : State) (ops : HrtPkt → Bool) (k : HrtPkt → Nat → State → Option State) : State :=
  s.receive ops fun x q t =>
    let u := t.countSecure q.attr.sa 1
    if (x.pkt.op = 4 ∨ x.pkt.op = 7) ∧ !Qp.awaits q x.pkt then some (t.count 0x5100 6 1)
    else if openReply q x.pkt then k x.pkt x.pkt.destQpn u else some (u.count 0x5800 4 1)

/-- The syndrome of an ACK satisfies p. -/
def isAck (p : Nat → Bool) (x : HrtPkt) : Bool := x.op == 0x10 && p (beAt x.ack 0 1)

/-- A requester's outstanding reads or atomics land on a stack whose hub interface is lost. -/
def replyHeld (s : State) (n : Nat) : Bool := (s.qp n).reqs.any fun r => r.status.isNone && s.stackHeld r.pieces

/-- Bytes of a response are placed for a request of the QP: a race for a running job (R22), with the end of the entry's destination for R526.
The PSN is that of the packet. -/
def placeOwn (s : State) (n psn : Nat) (r : HrtReq) (dest : List Piece) (bs : List Byte) : State :=
  let t := (s.placeHrt ⟨n, true, r.first, psn, dest, false⟩ bs).race dest
  match r.origin with
  | .entry idx => t.noteBus ((s.qp n).owner.getD 0) idx r.pieces
  | _ => t

/-- Why a response's bytes cannot be placed: a port that takes no write (R262), or a chunk that is the drawer's no longer (R124). -/
def placeFails (s : State) (d : Nat) (dest : List Piece) : Option Nat :=
  if s.unplaceable dest then some 0x0B
  else if dest.all (fun p => match p with
    | .dev off k => k == 0 || s.chunksOwned d off k
    | _ => true) then none else some 2

/-- Place a READ_RESP (R262, R268). -/
def placeRead (s : State) (n : Nat) (p : HrtPkt) : State :=
  let q := s.qp n
  let ps := paySize q.attr.payload
  let at_ (r : HrtReq) : Option Nat := readPlace ps (subMod (2 ^ 24) p.psn r.first) p.msgOff
  match q.reqs.zipIdx.find? (fun x => HrtReq.awaitsRead ps p x.1) with
  | none => s.count 0x5100 6 1
  | some (r, i) =>
    let j := subMod (2 ^ 24) p.psn r.first
    let off := (at_ r).getD 0
    let want := min ps (r.len - off)
    let dest := subPieces r.pieces off (min want p.payload.length)
    let bad := s.placeFails (q.owner.getD 0) dest
    let s1 := if bad = some 0x0B then s.raiseSource 7 else if bad.isSome then s else s.placeOwn n (r.first + j) r dest (p.payload.take want)
    let r1 := { r with placed := r.placed ++ [j], kept := if r.kept = 0 then bad.getD 0 else r.kept }
    let s2 := s1.setReq n i r1
    let g := j / 64
    let size := min 64 (r.count - 64 * g)
    let whole := (List.range size).all fun k => r1.placed.contains (64 * g + k)
    let s3 := s2.ackTo n (r.first + 64 * g)
    (if whole ∧ (s3.qp n).una = r.first + 64 * g then s3.ackTo n (r.first + 64 * g + size) else s3).settleQp n

/-- Take an ATOMIC_RESP (R268, R284). -/
def placeAtomic (s : State) (n : Nat) (p : HrtPkt) : State :=
  let q := s.qp n
  match q.reqs.zipIdx.find? (fun x => HrtReq.awaitsAtomic p x.1) with
  | none => s.count 0x5100 6 1
  | some (r, i) =>
    let bad := s.placeFails (q.owner.getD 0) r.pieces
    let s1 := if bad = some 0x0B then s.raiseSource 7 else if bad.isSome then s else s.placeOwn n r.first r r.pieces (leBytes 8 p.operand)
    let s2 := s1.setReq n i { r with status := some (bad.getD 0) }
    (s2.ackTo n (r.first + 1)).settleQp n

/-- A NAK_PAGE (R296). -/
def takeNakPage (s : State) (n : Nat) (p : HrtPkt) : State :=
  let s1 := ((s.takeLimit n p).takeAck n p).settleQp n
  let q := s1.qp n
  let nak := (absPsn q (beAt p.ack 9 3)).getD 0
  let till := s.now + beAt p.ack 12 4 * 1000000
  let first := ((q.nakSeen.find? (·.1 == nak)).map (·.2)).getD s.now
  let seen := if q.nakSeen.any (·.1 == nak) then q.nakSeen else q.nakSeen ++ [(nak, s.now)]
  let q1 := { q with nakSeen := seen, timerAt := none, waitUntil := some (max till (q.waitUntil.getD 0)),
                     waitFrom := if q.waitUntil.isSome then min q.waitFrom nak else nak }
  let s2 := ((s1.setQp n q1).count 0x5100 0x11 1).count 0x5101 8 1
  if s.now < first + 16000000000 then s2
  else if q.retries = q.attr.retryLimit then (s2.count 0x5100 5 1).qpErrorAll n 5
  else s2.setQp n { q1 with retries := q.retries + 1 }

/-- A fatal NAK (R269). -/
def takeFatal (s : State) (n : Nat) (p : HrtPkt) : State :=
  let s1 := ((s.takeLimit n p).takeAck n p).settleQp n
  let q := s1.qp n
  let nak := absPsn q (beAt p.ack 9 3)
  let st := syndromeStatus (beAt p.ack 0 1)
  let named (r : HrtReq) : Bool := match nak with
    | some k => decide (0 < r.sent) && decide (r.first ≤ k) && decide (k < r.first + r.count)
    | none => false
  (s1.qpError n named st).count 0x5100 0x11 1

end State

def execHrtRxSend (s : State) : Host.Outcome State Fault Refusal := s.live (s.receiveRequest 1)
def execHrtRxWrite (s : State) : Host.Outcome State Fault Refusal := s.live (s.receiveRequest 2)
def execHrtRxReadReq (s : State) : Host.Outcome State Fault Refusal := s.live (s.receiveRequest 3)
def execHrtRxAdd (s : State) : Host.Outcome State Fault Refusal := s.live (s.receiveRequest 5)
def execHrtRxCas (s : State) : Host.Outcome State Fault Refusal := s.live (s.receiveRequest 6)
def execHrtRxFlush (s : State) : Host.Outcome State Fault Refusal := s.live (s.receiveRequest 8)
def execHrtRxColl (s : State) : Host.Outcome State Fault Refusal := s.live (s.receiveRequest 9)

/-- A response whose destination lies on a stack with a lost hub interface waits with its frame (R472). -/
def execHrtRxReadResp (s : State) : Host.Outcome State Fault Refusal :=
  s.live (s.receiveReply (fun p => p.op == 4) fun p n t => if t.replyHeld n then none else some (t.placeRead n p))

def execHrtRxAtomicResp (s : State) : Host.Outcome State Fault Refusal :=
  s.live (s.receiveReply (fun p => p.op == 7) fun p n t => if t.replyHeld n then none else some (t.placeAtomic n p))

def execHrtRxAck (s : State) : Host.Outcome State Fault Refusal :=
  s.live (s.receiveReply (State.isAck (· == 0)) fun p n t => some (((t.takeLimit n p).takeAck n p).settleQp n))

/-- ACK_STALE (R259). -/
def execHrtRxAckStale (s : State) : Host.Outcome State Fault Refusal :=
  s.live (s.receiveReply (State.isAck (· == 1)) fun p n t =>
    let q := t.qp n
    some (if q.state = .rts ∧ (State.outstanding q (beAt p.ack 1 3)).isSome then t.qpErrorAll n 4 else t))

def execHrtRxNakPage (s : State) : Host.Outcome State Fault Refusal :=
  s.live (s.receiveReply (State.isAck (· == 0x10)) fun p n t => some (t.takeNakPage n p))

def execHrtRxFatalNak (s : State) : Host.Outcome State Fault Refusal :=
  s.live (s.receiveReply (State.isAck (0x20 ≤ ·)) fun p n t => some (t.takeFatal n p))

/-- HELD_REQUEST_EXECUTE (R264): the held request at ePSN, once ePSN has moved on as far as it can. -/
def execHeldRequestExecute (qp : Nat) (s : State) : Host.Outcome State Fault Refusal :=
  s.live (
    let s0 := s.advanceQp qp
    let q := s0.qp qp
    match q.held.find? (fun h => h.psn == q.ePsn % 2 ^ 24) with
    | none => s0
    | some p =>
      if q.busy.isSome ∨ (q.state ≠ .rtr ∧ q.state ≠ .rts) then s0
      else
        let s1 := s0.setQp qp { q with held := q.held.filter (·.psn != p.psn) }
        (match s1.execInOrder qp q.ePsn p with
        | some t => t.settleHands
        | none => s0))

/-- FLUSH_CONDITION_MET (R289): every ordering read of the FLUSH has completed. -/
def execFlushConditionMet (qp : Nat) (s : State) : Host.Outcome State Fault Refusal :=
  s.live (
    let q := s.qp qp
    match q.busy with
    | some (.flush p) =>
      if q.flushReads = [] then
        ((s.setQp qp { q with busy := none }).count 0x5101 5 1).accept qp q.ePsn 1 p.ackReq p.ce p.marked
      else s
    | _ => s)

/-- ATOMICOP_COMPLETION (R286). An AtomicOp whose QP has left its state since it was issued completes first: it changes the memory and nothing
else. Of an unsuccessful completion, value 0 stands for Unsupported Request or Completer Abort, any
other value for poisoned data or a Completion Timeout. -/
def execAtomicopCompletion (qp : Nat) (success : Bool) (value : Nat) (s : State) : Host.Outcome State Fault Refusal :=
  s.live (
    let q := s.qp qp
    match s.hrt.strays.find? (·.qp == qp) with
    | some x =>
      let t := { s with hrt := { s.hrt with strays := s.hrt.strays.erase x } }
      if success then t.atomicApplied x.fid x.port x.addr x.pkt (value % 2 ^ 64) else t
    | none => match q.busy with
    | some (.atomic p port a) =>
      if success then (s.atomicApplied (q.owner.getD 0) port a p (value % 2 ^ 64)).atomicDone qp q.ePsn p (value % 2 ^ 64)
      else (s.fatalNak qp (if value = 0 then 0x21 else 0x23) q.ePsn).settleHands
    | _ => s)

end Sys2Proof.Machine
end

