-- ==== Sys2Proof/Machine/Rings.lean ====
section
/-! DEFINITION. Machine/Rings.lean: the commands of "PCIe functions and the work rings": register writes and reads, fetching,
the mirror, the completion interrupt and back-pressure (R333–R341, R356–R358). -/

namespace Sys2Proof.Machine

/-- How a function identifies itself on PCIe (R3, R332): vendor ID, device ID and Subsystem ID. PF0 and the peer function of P1 are the device
0x0480, told apart by the Subsystem ID; a VF is 0x0481, and the spec gives its Subsystem ID no value. Only a function's configuration
space shows them, which no command reads. PF0's ACS capability reports P2P Request Redirect, P2P Completion Redirect and Upstream Forwarding:
no request of one function reaches another inside the device, and no meaning of this model lets one. -/
structure PcieIdentity where
  vendor : Nat
  device : Nat
  subsystem : Option Nat
  acs : Bool
  deriving DecidableEq, Repr

def PcieIdentity.ofFunction (f : Nat) : PcieIdentity := if f = 0 then ⟨0xB0CA, 0x0480, some 0, true⟩ else ⟨0xB0CA, 0x0481, none, false⟩
def PcieIdentity.peer : PcieIdentity := ⟨0xB0CA, 0x0480, some 1, false⟩

namespace State

/-- The host reaches a function's page: P0 is up, Stage 1 has been entered (R492, R495), the function exists, and it is not wedged
(R331, R361). -/
def pageOpen (s : State) (f : Nat) : Bool :=
  s.ring.p0.up && decide (0 < s.level) && (f == 0 || (s.ring.vfEnable && decide (f ≤ s.ring.numVfs))) && !(s.fn f).wedged

/-- A write of RING_CTRL.ENABLE (R331, R335). -/
def ringEnable (s : State) (f : Nat) (on : Bool) : State :=
  let v := s.fn f
  let bad := s.setFn f { v with ctrlError := true }
  if f ≠ 0 ∧ s.level < 2 then bad
  else if on = v.enable then s
  else if on then
    (if 6 ≤ v.wrLog ∧ v.wrLog ≤ 16 ∧ 6 ≤ v.crLog ∧ v.crLog ≤ 16 then
      (s.setFn f { v with enable := true, wrProd := 0, wrCons := 0, crProd := 0, crCons := 0, mirrored := 0, mirrorDue := none,
                          lap := 0, copies := [] }).drain f
     else bad)
  else if v.entries.isEmpty && v.staged.isEmpty && v.wrProd == v.wrCons then
    s.setFn f { v with enable := false, copies := [] }
  else bad

/-- A write of WR_PROD (R335, R336). -/
def wrProdWrite (s : State) (f x : Nat) : State :=
  let v := s.fn f
  if v.enable ∧ subMod (2 ^ 32) x v.wrCons ≤ 2 ^ v.wrLog ∧ subMod (2 ^ 32) v.wrProd v.wrCons ≤ subMod (2 ^ 32) x v.wrCons then
    s.setFn f { v with wrProd := x }
  else s.setFn f { v with prodError := true }

/-- A write of CR_CONS (R335, R336); the room it makes lets records leave, and messages of the function's QPs whose records could
not be staged pass (R358). -/
def crConsWrite (s : State) (f x : Nat) : State :=
  let v := s.fn f
  if v.enable ∧ subMod (2 ^ 32) x v.crCons ≤ subMod (2 ^ 32) v.crProd v.crCons then
    let s1 := (s.setFn f { v with crCons := x }).drain f
    (s1.qpsOf f).foldl (fun st n => st.advanceQp n) s1
  else s.setFn f { v with consError := true }

/-- A write of CR_ARM (R335, R357). -/
def crArmWrite (s : State) (f x : Nat) : State :=
  let v := s.fn f
  if v.enable then s.setFn f { v with armed := some x } else s.setFn f { v with consError := true }

/-- Take the value of a 64-bit register from its two halves (R333). -/
def wideWrite (s : State) (f off half : Nat) (high : Bool) (use : Fn → Nat → Fn) (old : Nat) : State :=
  let v := s.fn f
  if !high then s.setFn f { v with halves := v.halves.setNum off (half + 1) }
  else
    let lo := if v.halves.num off = 0 then old % 2 ^ 32 else v.halves.num off - 1
    s.setFn f (use { v with halves := v.halves.setNum off 0 } (half * 2 ^ 32 + lo))

/-- Send an MSI-X message of a vector, or leave it pending while the vector is masked. It follows the writes before it: while P0 is down it is
held with them (R356, R362). HOLDOFF runs from the function's last message (R357). -/
def sendVector (s : State) (f vec : Nat) : State :=
  let v := s.fn f
  let d := fun i => v.msix.num (16 * vec + 4 * i)
  let a := d 0 / 4 * 4 + d 1 * 2 ^ 32
  if bit (d 3) 0 then s.setFn f { v with pba := v.pba ||| 2 ^ vec }
  else
    let t := s.setFn f { v with lastMessage := some s.now }
    if s.ring.p0.up then t.emit (.msix f vec a (d 2)) else { t with mem := { t.mem with p0Held := t.mem.p0Held ++ [⟨f, a, leBytes 4 (d 2), some vec⟩] } }

/-- A 4-byte write at an offset of a page (R333, R334, R445). Offsets not listed are reserved (R7). -/
def write32 (s : State) (f off x : Nat) : State :=
  let v := s.fn f
  let bad := s.setFn f { v with ctrlError := true }
  let wrBase := fun (w : Fn) y => { w with wrBase := y / 4096 * 4096 }
  let crBase := fun (w : Fn) y => { w with crBase := y / 4096 * 4096 }
  let mirror := fun (w : Fn) y => { w with mirror := y / 4 * 4 + y % 2 }
  if off = 0x000 then (if v.enable then bad else s.wideWrite f 0 x false wrBase v.wrBase)
  else if off = 0x004 then (if v.enable then bad else s.wideWrite f 0 x true wrBase v.wrBase)
  else if off = 0x008 then
    (if v.enable then bad else if 6 ≤ x % 32 ∧ x % 32 ≤ 16 then s.setFn f { v with wrLog := x % 32 } else s)
  else if off = 0x00C then s.wrProdWrite f x
  else if off = 0x018 then (if v.enable then bad else s.wideWrite f 0x18 x false crBase v.crBase)
  else if off = 0x01C then (if v.enable then bad else s.wideWrite f 0x18 x true crBase v.crBase)
  else if off = 0x020 then
    (if v.enable then bad else if 6 ≤ x % 32 ∧ x % 32 ≤ 16 then s.setFn f { v with crLog := x % 32 } else s)
  else if off = 0x028 then s.crConsWrite f x
  else if off = 0x030 then s.wideWrite f 0x30 x false mirror v.mirror
  else if off = 0x034 then s.wideWrite f 0x30 x true mirror v.mirror
  else if off = 0x038 then s.crArmWrite f x
  else if off = 0x03C then
    s.setFn f { v with intCtrl := bits x 25 16 * 2 ^ 16 + (if v.vectors = 0 then v.intCtrl % 2 else x % 2) }
  else if off = 0x040 then s.ringEnable f (bit x 0)
  else if f = 0 ∧ off = 0x100 then s.setFn 0 { v with halves := v.halves.setNum 0x100 (x + 1) }
  else if f = 0 ∧ off = 0x104 then
    let lo := if v.halves.num 0x100 = 0 then s.led.mbBase % 2 ^ 32 else v.halves.num 0x100 - 1
    let s1 := s.setFn 0 { v with halves := v.halves.setNum 0x100 0 }
    { s1 with led := { s1.led with mbBase := (x * 2 ^ 32 + lo) / 4096 * 4096 } }
  else if f = 0 ∧ off = 0x110 then { s with led := { s.led with mbIntEn := bit x 0 } }
  else if 0x800 ≤ off ∧ off < 0xC00 then
    let k := off - 0x800
    let s1 := s.setFn f { v with msix := v.msix.setNum k x }
    if k % 16 = 12 ∧ !bit x 0 ∧ bit v.pba (k / 16) then
      (s1.setFn f { s1.fn f with pba := v.pba - 2 ^ (k / 16) }).sendVector f (k / 16)
    else s1
  else s

/-- A write of any size: 8 bytes are two registers or one 64-bit register; other sizes write nothing (R333). -/
def pageWrite (s : State) (f off size x : Nat) : State :=
  if size = 4 ∧ off % 4 = 0 ∧ off < 4096 then s.write32 f off (x % 2 ^ 32)
  else if size = 8 ∧ off % 8 = 0 ∧ off < 4096 then (s.write32 f off (x % 2 ^ 32)).write32 f (off + 4) (x / 2 ^ 32 % 2 ^ 32)
  else s

/-- RING_STATUS as it reads (R334). -/
def ringStatus (v : Fn) : Nat :=
  bnat v.prodError + 2 * bnat v.consError + 4 * bnat v.ctrlError + 8 * bnat v.backpressure + 16 * bnat v.pausedSince.isSome

/-- FUNCTION_ID (R334): until Stage 2 a VF's page reads SERVICE_LEVEL as 1 (R331). -/
def functionId (s : State) (f : Nat) : Nat := (if f = 0 ∨ s.level = 2 then s.level else 1) * 2 ^ 16 + f

/-- A register of a page as an aligned 4-byte read returns it (R334, R445); reserved offsets and write-only registers read as 0. -/
def read32 (s : State) (f off : Nat) : Nat :=
  let v := s.fn f
  let half (x : Nat) : Nat := if off % 8 = 0 then x % 2 ^ 32 else x / 2 ^ 32
  if off < 0x008 then half v.wrBase
  else if off = 0x008 then v.wrLog
  else if off = 0x00C then v.wrProd
  else if off = 0x010 then v.wrCons
  else if off = 0x018 ∨ off = 0x01C then half v.crBase
  else if off = 0x020 then v.crLog
  else if off = 0x024 then v.crProd
  else if off = 0x028 then v.crCons
  else if off = 0x030 ∨ off = 0x034 then half v.mirror
  else if off = 0x03C then v.intCtrl
  else if off = 0x040 then bnat v.enable
  else if off = 0x044 then ringStatus v
  else if off = 0x048 then s.functionId f
  else if off = 0x04C then s.obj 0x2001 3 % 2 ^ 32
  else if f = 0 ∧ (off = 0x100 ∨ off = 0x104) then half s.led.mbBase
  else if f = 0 ∧ off = 0x10C then s.led.mbDone
  else if f = 0 ∧ off = 0x110 then bnat s.led.mbIntEn
  else if f = 0 ∧ off = 0x114 then 2 * bnat s.led.mbBusy + bnat s.led.mbError
  else if 0x800 ≤ off ∧ off < 0xC00 then v.msix.num (off - 0x800)
  else if off = 0xC00 ∨ off = 0xC04 then half v.pba
  else 0

/-- What a read of a register clears: the RC fields of RING_STATUS and MB_STATUS (R334, R445). -/
def clear32 (s : State) (f off : Nat) : State :=
  let v := s.fn f
  if off = 0x044 then s.setFn f { v with backpressure := false, ctrlError := false, consError := false, prodError := false }
  else if f = 0 ∧ off = 0x114 then { s with led := { s.led with mbError := false } }
  else s

/-- A read of a page: 4 bytes, or 8 bytes as two registers or one; of any other size or alignment it reads as 0 (R333). A wedged
function's registers read as 0 (R361). -/
def pageRead (s : State) (f off size : Nat) : Nat × State :=
  if (s.fn f).wedged then (0, s)
  else if size = 4 ∧ off % 4 = 0 ∧ off < 4096 then (s.read32 f off, s.clear32 f off)
  else if size = 8 ∧ off % 8 = 0 ∧ off < 4096 then
    (s.read32 f off + s.read32 f (off + 4) * 2 ^ 32, (s.clear32 f off).clear32 f (off + 4))
  else (0, s)

/-- The host reads a register: the page answers, where it can be reached or its function is wedged. The table's two commands read
RING_STATUS and MB_STATUS; the other registers have no reader among the commands (log 131). -/
def readPage (s : State) (f off size : Nat) : State :=
  if s.pageOpen f ∨ (s.fn f).wedged then
    let r := s.pageRead f off size
    r.2.emit (.regRead f off r.1)
  else s

/-- A function has an entry to fetch and may fetch it (R339, R341, R358); none below Stage 1, or under the recovery firmware (R426,
R480). -/
def wantsFetch (s : State) (f : Nat) : Bool :=
  let v := s.fn f
  decide (0 < s.level) && s.cipher.running != some 2 && v.enable && v.wrProd != v.wrCons && decide (v.entries.length < 1024) && v.pausedSince.isNone && !v.wedged && v.flrAt.isNone

/-- The function that the rotating pointer serves next (R341). -/
def nextServed (s : State) : Option Nat :=
  ((List.range 128).map fun k => (s.ring.pointer + k) % 128).find? s.wantsFetch

/-- The entry at WR_CONS is fetched: WR_CONS passes it, and it is in flight (R336, R339). -/
def takeEntry (s : State) (f : Nat) (raw : List Byte) : State :=
  let v := s.fn f
  let e : Entry := ⟨v.wrCons, raw, .ready, 0, 0, 0, s.drawerState f != 0, [], []⟩
  let s1 := s.setFn f { v with wrCons := (v.wrCons + 1) % 2 ^ 32, lap := min (v.lap + 1) (2 ^ 17), entries := v.entries ++ [e],
                               copies := v.copies.filter (·.1 != v.wrCons) }
  ({ s1 with ring := { s1.ring with pointer := (f + 1) % 128 } }).count (fnCtr f) 1 1

/-- A fetch that failed at the bus (R339). -/
def failedFetch (s : State) (f : Nat) : State :=
  let i := (s.fn f).wrCons
  let s1 := (s.takeEntry f (List.replicate 64 0)).raiseSource 7
  match s1.findEntry f i with
  | some e => s1.complete f { e with raw := List.replicate 64 0 } 0x0B []
  | none => s1

/-- Fetch the entry at WR_CONS, from a copy that matches or from memory (R339, R340). -/
def fetch (s : State) (f : Nat) : State :=
  let v := s.fn f
  let i := v.wrCons
  let a := v.wrBase + 64 * (i % 2 ^ v.wrLog)
  match v.copies.find? (·.1 == i) with
  | some (_, raw) =>
    if leAt raw 0x3C 4 = i then ((s.takeEntry f raw).count (fnCtr f) 2 1).settle f
    else if !s.ring.p0.up then s
    else if s.mem.host.hasBad a 64 then (s.count (fnCtr f) 3 1).failedFetch f
    else (((s.count (fnCtr f) 3 1).takeEntry f (s.mem.host.readBytes a 64))).settle f
  | none =>
    if !s.ring.p0.up then s
    else if s.mem.host.hasBad a 64 then s.failedFetch f
    else (s.takeEntry f (s.mem.host.readBytes a 64)).settle f

/-- The ring engine may read an index ahead of WR_PROD (R340). -/
def maySpeculate (s : State) (f i : Nat) : Bool :=
  let v := s.fn f
  s.obj 0x2403 2 == 1 && v.enable && s.ring.p0.up && v.pausedSince.isNone && !v.wedged &&
  decide (subMod (2 ^ 32) i v.wrProd < 8) && decide (subMod (2 ^ 32) i v.wrCons < 2 ^ v.wrLog) &&
  decide (2 ^ v.wrLog ≤ v.lap + subMod (2 ^ 32) i v.wrCons)

end State

/-! The commands -/

def execEntryFetch (fid : Nat) (s : State) : Host.Outcome State Fault Refusal :=
  s.live (if s.nextServed = some fid then s.fetch fid else s)

def execSpeculativeFetch (fid idx : Nat) (s : State) : Host.Outcome State Fault Refusal :=
  let v := s.fn fid
  let a := v.wrBase + 64 * (idx % 2 ^ v.wrLog)
  s.live (if !s.maySpeculate fid idx then s
    else if s.mem.host.hasBad a 64 then s
    else s.setFn fid { v with copies := v.copies.filter (·.1 != idx) ++ [(idx, s.mem.host.readBytes a 64)] })

/-- The stores that the host and the peers have made before the doorbell are the command's operands (log 5). -/
def execWrProdWrite (fid value : Nat) (hostStores peerStores : List Host.Cell) (s : State) : Host.Outcome State Fault Refusal :=
  let s1 := (s.setHost (s.mem.host.apply hostStores)).setPeer (s.mem.peer.apply peerStores)
  s.live (if s1.pageOpen fid then s1.wrProdWrite fid (value % 2 ^ 32) else s1)

def execCrConsWrite (fid value : Nat) (s : State) : Host.Outcome State Fault Refusal :=
  s.live (if s.pageOpen fid then s.crConsWrite fid (value % 2 ^ 32) else s)

def execCrArmWrite (fid value : Nat) (s : State) : Host.Outcome State Fault Refusal :=
  s.live (if s.pageOpen fid then s.crArmWrite fid (value % 2 ^ 32) else s)

def execRingEnable (fid : Nat) (s : State) : Host.Outcome State Fault Refusal :=
  s.live (if s.pageOpen fid then s.ringEnable fid true else s)

def execRingDisable (fid : Nat) (s : State) : Host.Outcome State Fault Refusal :=
  s.live (if s.pageOpen fid then s.ringEnable fid false else s)

def execRingStatusRead (fid : Nat) (s : State) : Host.Outcome State Fault Refusal := s.live (s.readPage fid 0x44 4)

def execCrMirrorWrite (fid : Nat) (s : State) : Host.Outcome State Fault Refusal :=
  let v := s.fn fid
  s.live (if bit v.mirror 0 ∧ v.mirrorDue.isSome then
      (s.hostWrite fid (v.mirror / 4 * 4) (leBytes 4 v.crProd)).setFn fid { v with mirrored := v.crProd, mirrorDue := none }
    else s)

/-- The message waits for the mirror write that covers CR_PROD, where the mirror is written, and for HOLDOFF (R357). -/
def execMsixMessage (fid : Nat) (s : State) : Host.Outcome State Fault Refusal :=
  let v := s.fn fid
  s.live (match v.armed with
    | some a =>
      if !bit v.intCtrl 0 ∨ v.vectors = 0 ∨ v.crProd = a ∨ (bit v.mirror 0 ∧ v.mirrorDue.isSome) ∨
         (v.lastMessage.map fun t => decide (s.now < t + bits v.intCtrl 25 16 * 1000000)).getD false then s
      else (s.setFn fid { v with armed := none }).sendVector fid 0
    | none => s)

def execCompletionBackpressure (fid : Nat) (s : State) : Host.Outcome State Fault Refusal :=
  let v := s.fn fid
  s.live (match v.pausedSince with
    | some t =>
      if v.pauseRaised ∨ s.now < t + 1000000000 then s
      else (s.setFn fid { v with backpressure := true, pauseRaised := true }).raiseDevice 8 fid [BitVec.ofNat 8 fid]
    | none => s)

def execPcieTlpError (port : Nat) (s : State) : Host.Outcome State Fault Refusal :=
  s.live (if port < 2 then s.raiseSource 12 else s)

end Sys2Proof.Machine
end

