-- ==== Sys2Proof/Machine/Storage.lean ====
section
/-! DEFINITION. Machine/Storage.lean: the storage service (R389 to R396): connections, the NVME_IO entry, and the PDUs of NVMe/TCP
that carry its commands and data. -/

namespace Sys2Proof.Machine

/-! PDUs (NVMe over Fabrics TCP) -/

/-- A PDU with the digests that DIGESTS asks for: `head` is the header after its first eight bytes, `flags` those of the type. -/
def nvmePdu (digests type flags : Nat) (head data : List Byte) : List Byte :=
  let hd := bit digests 0
  let dd := bit digests 1 && !data.isEmpty
  let hlen := 8 + head.length
  let pdo := hlen + (if hd then 4 else 0)
  let plen := pdo + data.length + (if dd then 4 else 0)
  let h := [BitVec.ofNat 8 type, BitVec.ofNat 8 (flags + bnat hd + 2 * bnat dd), BitVec.ofNat 8 hlen, BitVec.ofNat 8 (if data.isEmpty then 0 else pdo)] ++
    leBytes 4 plen ++ head
  h ++ (if hd then leBytes 4 (crc32c h) else []) ++ data ++ (if dd then leBytes 4 (crc32c data) else [])

/-- A command capsule: the submission queue entry. -/
def capsule (digests opcode cid nsid bytes : Nat) (cdw : List Byte) : List Byte :=
  nvmePdu digests 0x04 0
    ([BitVec.ofNat 8 opcode, 0x40] ++ leBytes 2 cid ++ leBytes 4 nsid ++ List.replicate 16 0 ++
     List.replicate 8 0 ++ leBytes 4 bytes ++ [0, 0, 0, 0x5A] ++ padTo 24 cdw) []

/-- ICReq, which opens a queue: the digests that DIGESTS asks for (log 75). -/
def icReq (digests : Nat) : List Byte := [0, 0, 128, 0] ++ leBytes 4 128 ++ padTo 120 [0, 0, 0, BitVec.ofNat 8 (digests % 4)]

/-- Fabrics Connect for a queue of so many entries, the Keep Alive Timeout 60 s on the admin queue; its data name the subsystem and the
host (log 75). -/
def connectCapsule (digests queue depth : Nat) (subnqn hostnqn : List Byte) : List Byte :=
  nvmePdu digests 0x04 0
    ([0x7F, 0x40, 0, 0, 1] ++ List.replicate 19 0 ++ List.replicate 8 0 ++ leBytes 4 1024 ++ [0, 0, 0, 0x01] ++ [0, 0] ++ leBytes 2 queue ++
     leBytes 2 (depth - 1) ++ [0, 0] ++ leBytes 4 (if queue = 0 then 60000 else 0) ++ List.replicate 12 0)
    (List.replicate 16 0 ++ [0xFF, 0xFF] ++ List.replicate 238 0 ++ padTo 256 subnqn ++ padTo 256 hostnqn ++ List.replicate 256 0)

/-- H2CTermReq for a PDU whose header digest fails: the PDU's header follows (log 75). -/
def termReq (p : List Byte) : List Byte :=
  let h := p.take (beAt p 2 1)
  [2, 0, 24, 0] ++ leBytes 4 (24 + h.length) ++ [3, 0] ++ List.replicate 14 0 ++ h

/-- What a received PDU's digests say. -/
inductive Digest where
  | good
  | badHeader
  | badData
  deriving DecidableEq, Repr

def digestOf (digests : Nat) (p : List Byte) : Digest :=
  let hlen := beAt p 2 1
  let pdo := beAt p 3 1
  let plen := leAt p 4 4
  if bit digests 0 && leAt p hlen 4 != crc32c (p.take hlen) then .badHeader
  else if bit digests 1 && pdo != 0 && leAt p (plen - 4) 4 != crc32c (slice p pdo (plen - 4 - pdo)) then .badData
  else .good

/-- The data of a received data PDU. -/
def pduData (digests : Nat) (p : List Byte) : List Byte :=
  let pdo := beAt p 3 1
  slice p pdo (leAt p 4 4 - (if bit digests 1 then 4 else 0) - pdo)

/-- Whole blocks under XTS from a block's LBA on (R392). -/
def xtsUnits (encrypt : Bool) (key : List Byte) (block lba : Nat) (bs : List Byte) : List Byte :=
  (pieces block bs).zipIdx.flatMap fun x => Aes.xts encrypt key (lba + x.2) x.1

/-- Data cut where data units of `block` bytes begin, each part with its offset; `n` bounds the parts. -/
def unitParts (block : Nat) : Nat → Nat → List Byte → List (Nat × List Byte)
  | 0, _, _ => []
  | n + 1, o, bs =>
    if bs.isEmpty then []
    else
      let k := block - o % block
      (o, bs.take k) :: unitParts block n (o + k) (bs.drop k)

/-- A data unit from the parts of it that have been received; none while a byte is wanting. -/
def wholeUnit (block unit : Nat) (parts : List (Nat × List Byte)) : Option (List Byte) :=
  ((List.range block).map fun k =>
    let a := unit * block + k
    (parts.find? fun x => decide (x.1 ≤ a) && decide (a < x.1 + x.2.length)).map fun x => nth 0 x.2 (a - x.1)).foldr
      (fun b r => match b, r with
        | some b, some r => some (b :: r)
        | _, _ => none) (some [])

/-- The parts with other bytes in place of theirs. -/
def NvmeCmd.freshParts (m : NvmeCmd) (bs : List Byte) : List (Nat × List Byte) :=
  (m.part.foldl (fun (r : List Byte × List (Nat × List Byte)) x => (r.1.drop x.2.length, r.2 ++ [(x.1, r.1.take x.2.length)])) (bs, [])).2

/-- A part of a data unit joins what has been received of it; a unit that is now whole leaves the parts and joins the whole ones. -/
def NvmeCmd.takePart (m : NvmeCmd) (block : Nat) (x : Nat × List Byte) (whole : List (Nat × List Byte)) : NvmeCmd × List (Nat × List Byte) :=
  let u := x.1 / block
  let mine := x :: m.part.filter fun y => y.1 / block == u
  match wholeUnit block u mine with
  | some bs => ({ m with part := m.part.filter fun y => y.1 / block != u }, whole ++ [(u, bs)])
  | none => ({ m with part := m.part ++ [x] }, whole)

namespace State

def conn (s : State) (c : Nat) : NvmeConn := Sparse.get (fun _ => NvmeConn.reset) s.clu.conns c

def setConn (s : State) (c : Nat) (v : NvmeConn) : State :=
  { s with clu := { s.clu with conns := Sparse.set (fun _ => NvmeConn.reset) s.clu.conns c v } }

def connObj (c : Nat) : Nat := 0x2C40 + c
def connState (s : State) (c : Nat) : Nat := s.obj (connObj c) 3
def digests (s : State) (c : Nat) : Nat := s.obj (connObj c) 0x0B

/-- The storage service serves the connection at this service level (R385). -/
def connServed (s : State) (c : Nat) : Bool :=
  let p := s.obj (connObj c) 4
  bit (s.obj 0x2C00 3) 2 && s.subportRuns (p / 16 % 8) (p % 4) && (2 ≤ s.level || s.obj (connObj c) 1 % 128 == 0)

/-! Entries -/

def findIo (s : State) (f idx : Nat) : Option NvmeIo := s.clu.ios.find? fun i => i.fid == f && i.idx == idx

def setIo (s : State) (v : NvmeIo) : State :=
  { s with clu := { s.clu with ios := s.clu.ios.map fun i => if i.fid == v.fid && i.idx == v.idx then v else i } }

/-- RESULT of an NVME_IO (R395). -/
def nvmeResult (i : NvmeIo) : List Byte :=
  leBytes 2 i.conn ++ leBytes 2 i.nvmeStatus ++ leBytes 4 i.commands ++ leBytes 8 i.failLba

/-- The entry leaves the service and completes; a Read that failed leaves its buffer undefined (R394). -/
def endIo (s : State) (i : NvmeIo) (status : Nat) : State :=
  let s1 := { s with clu := { s.clu with ios := s.clu.ios.filter fun x => !(x.fid == i.fid && x.idx == i.idx) } }
  let s2 := if status ≠ 0 ∧ i.op = 2 then s1.scramblePieces i.fid i.pieces else s1
  let s3 := if i.op = 2 then s2.noteBus i.fid i.idx i.pieces else s2
  s3.completeIdx i.fid i.idx status (nvmeResult i)

/-- The first failure of an entry: its status, and the first block of the command that failed (R393, R395). -/
def NvmeIo.fails (i : NvmeIo) (status lba : Nat) : NvmeIo := if i.status = 0 then { i with status := status, failLba := lba } else i

/-- The first block of the oldest command that is out; it counts as the first that failed when the connection is lost (log 77). -/
def NvmeIo.oldest (i : NvmeIo) : Nat := (i.cmds.head?.map NvmeCmd.slba).getD 0

/-- An entry joins the service. Two Reads at once that place into the same bytes leave those undefined (R394). -/
def joinIo (s : State) (v : NvmeIo) : State :=
  let reads := s.clu.ios.filter fun i => i.op == 2 && v.op == 2
  let ios := s.clu.ios.map fun i => if i.op = 2 ∧ v.op = 2 then { i with mixed := i.mixed ++ commonPieces i.pieces v.pieces } else i
  { s with clu := { s.clu with ios := ios ++ [{ v with mixed := reads.flatMap fun i => commonPieces v.pieces i.pieces }] } }

/-- Commands in flight on a connection. -/
def connLoad (s : State) (c : Nat) : Nat := ((s.clu.ios.filter (·.conn == c)).map (·.cmds.length)).sum

/-- Issue the next command of an entry (R393, step 6). -/
def issueOne (s : State) (i : NvmeIo) : State :=
  let c := i.conn
  let v := s.conn c
  let n := if i.op = 0 then 0 else min (i.blocks - i.issued) (min 65536 (Config.nvmeMdts c v.session + 1))
  let cid := v.nextCid
  let lba := i.slba + i.issued
  let cmd : NvmeCmd := ⟨cid, lba, n, i.issued * i.block, 0, [], s.now⟩
  let cdw := if i.op = 0 then [] else leBytes 8 lba ++ leBytes 4 (n - 1 + (if i.fua then 2 ^ 30 else 0))
  let s1 := s.setConn c { v with nextCid := (cid + 1) % 65536 }
  let s2 := s1.setIo { i with issued := if i.op = 0 then i.blocks else i.issued + n, commands := i.commands + 1, cmds := i.cmds ++ [cmd] }
  (s2.emit (.nvme c (capsule (s.digests c) i.op cid i.nsid (n * i.block) cdw))).count 0x5700 1 1

/-- Issue what an entry may: at most 8 outstanding, within the connection's queue. -/
def pumpIo (s : State) (f idx : Nat) : Nat → State
  | 0 => s
  | n + 1 =>
    match s.findIo f idx with
    | some i =>
      if i.status ≠ 0 ∨ i.blocks ≤ i.issued ∨ 8 ≤ i.cmds.length ∨ s.obj (connObj i.conn) 0x0C ≤ s.connLoad i.conn + 1 then s
      else (s.issueOne i).pumpIo f idx n
    | none => s

/-- Every entry of the connection issues what it may, oldest first. -/
def pumpConn (s : State) (c : Nat) : State :=
  (s.clu.ios.filter (·.conn == c)).foldl (fun st i => st.pumpIo i.fid i.idx 8) s

/-- The entry's last command has ended: the signal, then the completion (R393, step 9). -/
def finishIo (s : State) (i : NvmeIo) : State :=
  if !i.cmds.isEmpty ∨ (i.status = 0 ∧ i.issued < i.blocks) then s
  else if i.status ≠ 0 then s.endIo i i.status
  else match s.findEntry i.fid i.idx with
    | some e =>
      if !e.sig then s.endIo i 0
      else (match (if i.op = 2 then lastBusOf i.pieces else none) with
        | some (port, a) => s.issueOrdering port a i.fid (.nvme i.fid i.idx)
        | none => (s.addHubPeg e.sigPeg 1).endIo i 0)
    | none => s.endIo i 0

/-- The first failure at step 7 or 8 decides the status, and no further commands go out. -/
def failIo (s : State) (i : NvmeIo) (status lba : Nat) : State :=
  let i1 := NvmeIo.fails i status lba
  (s.setIo i1).finishIo i1

/-- The ordering read of an entry's signal has completed. -/
def nvmeOrdered (s : State) (f idx : Nat) (ok : Bool) : State :=
  match s.findIo f idx, s.findEntry f idx with
  | some i, some e => if ok then (s.addHubPeg e.sigPeg 1).endIo i 0 else s.endIo i 0x0B
  | _, _ => s

/-- NVME_IO from step 2 on (R393). -/
def startIo (s : State) (f : Nat) (e : Entry) : State :=
  let c := e.u16 8
  let op := e.u8 0x0A
  let xts := bit (e.u8 0x0B) 0
  let v := s.conn c
  let bsz := Config.nvmeBlock c v.session (e.u32 0x0C)
  let blocks := if op = 0 then 1 else e.u16 0x18 + 1
  let bytes := if op = 0 then 0 else blocks * bsz
  let k := e.u16 0x1A
  let fail (st : Nat) (t : State) : State := t.complete f e st (leBytes 2 c)
  if s.obj (connObj c) 1 ≠ 128 + f ∨ (e.sig ∧ !s.ownsPeg f e.sigPeg) then fail 0x12 s
  else if s.connState c ≠ 2 ∨ !s.connServed c then fail 9 s
  else
    let known := v.spaces.any (·.1 == e.u32 0x0C)
    let s1 := if known then s
      else ((s.setConn c { v with spaces := v.spaces ++ [(e.u32 0x0C, bsz)], nextCid := (v.nextCid + 1) % 65536 }).emit
        (.nvme c (capsule (s.digests c) 0x06 v.nextCid (e.u32 0x0C) 4096 [])))
    if (bsz ≠ 512 ∧ bsz ≠ 4096) ∨ 2 ^ 30 < bytes ∨ (xts ∧ (s.obj 0x2300 9 f ≤ k ∨ (s.keySlot f k).state = 0 ∨ (s.keySlot f k).type ≠ 3)) then fail 0x12 s1
    else
      let kr := if xts then s1.takeKey f k else (some [], s1)
      match e.buf 0x1C with
      | none => s
      | some b =>
        match kr.2.resolveBuf f b bytes (op == 2) false with
        | (.wait, t) => s.moveWait f e t
        | (.fail st, s2) => fail st s2
        | (.ok ps, s2) =>
          let win := match b with
            | .dva a => s2.touching f a bytes
            | .region r off => if (s2.region r).kind = .dva then s2.touching f ((s2.region r).base + off) bytes else []
            | .none => []
          let io : NvmeIo :=
            { fid := f, idx := e.idx, conn := c, op := op, fua := bit (e.u8 0x0B) 1, nsid := e.u32 0x0C, slba := e.u64 0x10, block := bsz,
              blocks := blocks, issued := 0, commands := 0, xts := xts, key := kr.1.getD [], keyBad := kr.1.isNone, pieces := ps, mixed := [], windows := win,
              cmds := [], status := 0, nvmeStatus := 0, failLba := 0 }
          ((s2.busy f e).joinIo io).pumpIo f e.idx 8

/-! Connections (R391) -/

/-- A passage to DOWN or IDLE: every outstanding entry completes, the one whose PDU failed a digest, in the command that begins at a given
block, with DATA_PARITY. An entry that has failed already keeps its first failure. -/
def leaveConn (s : State) (c next error : Nat) (bad : Option (Nat × Nat × Nat)) : State :=
  let ios := s.clu.ios.filter (·.conn == c)
  let s1 := (s.setObj (connObj c) 3 0 next).setConn c { s.conn c with since := s.now, spaces := [] }
  let s2 := if next = 3 then s1.setObj (connObj c) 0x0F 0 error else s1
  ios.foldl (fun st i => match bad with
    | some (f, x, lba) =>
      if i.fid = f ∧ i.idx = x then st.endIo (NvmeIo.fails i 0x0B lba) 0x0B
      else st.endIo (NvmeIo.fails i 9 (NvmeIo.oldest i)) (NvmeIo.fails i 9 0).status
    | none => st.endIo (NvmeIo.fails i 9 (NvmeIo.oldest i)) (NvmeIo.fails i 9 0).status) s2

/-- The next hop of a connection is asked for where the table of neighbours does not hold it (R385, R387). -/
def resolveHop (s : State) (c : Nat) : State :=
  let p := s.obj (connObj c) 4
  let via := padTo 16 (s.blob (connObj c) 8)
  let hop := if via.all (· == 0) then padTo 16 (s.blob (connObj c) 6) else via
  if (s.neighbour (p / 16 % 8) (p % 4) hop).isSome then s else s.solicit (p / 16 % 8) (p % 4) hop

/-- Set-up begins: the next hop is resolved and the admin queue opened. -/
def beginConn (s : State) (c : Nat) : State :=
  let v := s.conn c
  let t := (s.setObj (connObj c) 3 0 1).setConn c
    { v with since := s.now, session := v.session + 1, spaces := [], nextCid := 0, tcpPort := 49152 + Config.tcpPort c (v.session + 1) % 16384 }
  (if t.connServed c then t.resolveHop c else t).emit (.nvme c (icReq (t.digests c)))

/-- The set-up steps after the first, which each go out as the one before is answered (R389, log 75). -/
def setupConn (s : State) (c : Nat) : State :=
  let d := s.digests c
  let hello (queue depth : Nat) : List Byte := connectCapsule d queue depth (s.blob (connObj c) 9) (s.blob (connObj c) 0x0A)
  [hello 0 32, capsule d 0x06 1 0 4096 [1], capsule d 0x09 2 0 0 [7, 0, 0, 0, 0, 0, 0, 0], icReq d, hello 1 (s.obj (connObj c) 0x0C)].foldl
    (fun st p => st.emit (.nvme c p)) s

/-- A write of CONNECT; none where it is rejected. -/
def connect (s : State) (c : Nat) : Option State :=
  if s.connState c = 0 ∧ 128 ≤ s.obj (connObj c) 1 ∧ bit (s.obj 0x2C00 3) 2 then some (s.beginConn c) else none

/-- A write of DISCONNECT. -/
def disconnect (s : State) (c : Nat) : State := if s.connState c = 0 then s else s.leaveConn c 0 0 none

/-! PDUs from the controller -/

/-- The entry and command that a PDU names. -/
def findCmd (s : State) (c cid : Nat) : Option (NvmeIo × NvmeCmd) :=
  (s.clu.ios.filter (·.conn == c)).findSome? fun i => (i.cmds.find? (·.cid == cid)).map fun m => (i, m)

def NvmeIo.setCmd (i : NvmeIo) (m : NvmeCmd) : NvmeIo := { i with cmds := i.cmds.map fun x => if x.cid == m.cid then m else x }

/-- A PDU that arrives on a READY connection, its digests checked: what follows, or the connection goes DOWN. -/
def withPdu (s : State) (c type cidAt : Nat) (p : List Byte) (k : NvmeIo → NvmeCmd → State → State) : State :=
  if s.connState c ≠ 2 ∨ beAt p 0 1 ≠ type then s
  else
    let cmd := s.findCmd c (leAt p cidAt 2)
    let bad := cmd.map fun x => (x.1.fid, x.1.idx, x.2.slba)
    match digestOf (s.digests c) p with
    | .badHeader => ((s.emit (.nvme c (termReq p))).count 0x5700 4 1).leaveConn c 3 0x0B bad
    | .badData => (s.count 0x5700 5 1).leaveConn c 3 0x0B bad
    | .good => match cmd with
      | some (i, m) => k i m s
      | none => s

/-- Write a part of a Read's buffer, for the command that begins at a block; the bytes that another Read places too are then undefined
(R394). -/
def placeNvme (s : State) (i : NvmeIo) (off lba : Nat) (bs : List Byte) : State :=
  let ps := subPieces i.pieces off bs.length
  if ps.any fun p => match p with
      | .bus port _ _ => !s.busOk port
      | _ => false then s.failIo i 0x0B lba
  else
    let mix := commonPieces ps i.mixed
    let s1 := if mix = [] then s.writePieces i.fid ps bs else (s.writePieces i.fid ps bs).scramblePieces i.fid mix
    ((s1.race ps).noteBus i.fid i.idx i.pieces).count 0x5700 2 bs.length

/-- C2HData: deciphered by whole data units when XTS is set, in whatever order its parts arrive, and placed at buffer + DATAO. A part of a
unit waits in kitty cells charged to the drawer (R394), and the PDU for those where there is none (R17). -/
def c2hData (s : State) (c : Nat) (p : List Byte) : State :=
  s.withPdu c 0x07 8 p fun i m t =>
    let bs := pduData (t.digests c) p
    let o := leAt p 0x0C 4
    if i.op ≠ 2 ∨ m.blocks * i.block < o + bs.length then t
    else if s.stackHeld i.pieces then s
    else if !i.xts then ((t.setIo (NvmeIo.setCmd i { m with got := max m.got (o + bs.length) })).placeNvme i (m.off + o) m.slba bs)
    else if i.keyBad then t.failIo i 0x0F m.slba
    else
      let parts := unitParts i.block (bs.length / i.block + 2) o bs
      let r := parts.foldl (fun (r : NvmeCmd × List (Nat × List Byte)) x => r.1.takePart i.block x r.2) (m, [])
      let m1 := { r.1 with got := o + bs.length }
      if m.cells < m1.cells ∧ !t.kittyRoom i.fid (m1.cells - m.cells) then s
      else
        let t1 := (t.setIo (NvmeIo.setCmd i m1)).countUnits i.block (i.block * r.2.length)
        r.2.foldl (fun st x => match st.findIo i.fid i.idx with
          | some v => st.placeNvme v (m.off + i.block * x.1) m.slba (xtsUnits false i.key i.block (m.slba + x.1) x.2)
          | none => st) t1

/-- An R2T: the buffer's bytes leave in H2CData, enciphered by whole data units when XTS is set (R389, R394). -/
def r2t (s : State) (c : Nat) (p : List Byte) : State :=
  s.withPdu c 0x09 8 p fun i m t =>
    let o := leAt p 0x0C 4
    let n := leAt p 0x10 4
    if i.op ≠ 1 ∨ m.blocks * i.block < o + n then t
    else if i.keyBad then t.failIo i 0x0F m.slba
    else
      let lo := if i.xts then o / i.block * i.block else o
      let hi := if i.xts then roundUp (o + n) i.block else o + n
      let ps := subPieces i.pieces (m.off + lo) (hi - lo)
      if !t.piecesReady ps then s
      else match t.readPieces ps with
        | (none, t1) => t1.failIo i 0x0B m.slba
        | (some bs, t1) =>
          let enc := if i.xts then xtsUnits true i.key i.block (m.slba + lo / i.block) bs else bs
          let head := leBytes 2 m.cid ++ slice p 0x0A 2 ++ leBytes 4 o ++ leBytes 4 n ++ [0, 0, 0, 0]
          ((if i.xts then t1.countUnits i.block (hi - lo) else t1).emit (.nvme c (nvmePdu (t1.digests c) 0x06 4 head (slice enc (o - lo) n)))).count 0x5700 3 n

/-- A completion queue entry (R393, step 8). -/
def capsuleResp (s : State) (c : Nat) (p : List Byte) : State :=
  s.withPdu c 0x05 0x14 p fun i m t =>
    let st := leAt p 0x16 2 / 2 % 2048
    let i1 := { i with cmds := i.cmds.filter (·.cid != m.cid) }
    let i2 := if st = 0 then i1
      else { NvmeIo.fails i1 4 m.slba with nvmeStatus := if i1.nvmeStatus = 0 then st else i1.nvmeStatus }
    let i3 := if st = 0 ∧ i2.keyBad then NvmeIo.fails i2 0x0F m.slba else i2
    (((if st = 0 then t else t.count 0x5700 6 1).setIo i3).finishIo i3).pumpConn c

end State

/-! The commands -/

def execNvmeRead (fid idx : Nat) (s : State) : Host.Outcome State Fault Refusal :=
  s.live (s.runEntry fid idx [0x48] fun e t => if e.u8 0x0A = 2 then t.startIo fid e else t)

def execNvmeWrite (fid idx : Nat) (s : State) : Host.Outcome State Fault Refusal :=
  s.live (s.runEntry fid idx [0x48] fun e t => if e.u8 0x0A = 1 then t.startIo fid e else t)

def execNvmeFlush (fid idx : Nat) (s : State) : Host.Outcome State Fault Refusal :=
  s.live (s.runEntry fid idx [0x48] fun e t => if e.u8 0x0A = 0 then t.startIo fid e else t)

def execNvmeConnect (conn : Nat) (s : State) : Host.Outcome State Fault Refusal := s.liveLedger ((s.connect conn).getD s)

def execNvmeDisconnect (conn : Nat) (s : State) : Host.Outcome State Fault Refusal := s.liveLedger (s.disconnect conn)

/-- Every set-up step has succeeded, over a sub-port that is UP. -/
def execNvmeConnectDone (conn : Nat) (s : State) : Host.Outcome State Fault Refusal :=
  let p := s.obj (State.connObj conn) 4
  s.live (if s.connState conn = 1 ∧ s.connServed conn ∧ (s.sub (4 * (p / 16 % 8) + p % 4)).link = .up then
      ((s.setObj (State.connObj conn) 3 0 2).setConn conn { s.conn conn with since := s.now, keepAt := s.now }).setupConn conn
    else s)

/-- A set-up step fails or 10 s pass; `digestsRefused` says that the controller refused the digests asked for. -/
def execNvmeConnectTimeout (conn : Nat) (digestsRefused : Bool) (s : State) : Host.Outcome State Fault Refusal :=
  s.live (if s.connState conn = 1 then s.leaveConn conn 3 (if digestsRefused then 0x12 else 9) none else s)

/-- A TCP reset, a missed Keep Alive response or a C2HTermReq. -/
def execNvmeConnectionLoss (conn : Nat) (s : State) : Host.Outcome State Fault Refusal :=
  s.live (if s.connState conn = 2 then s.leaveConn conn 3 9 none else s)

/-- A command has passed IO_TIMEOUT. -/
def execNvmeIoTimeout (conn : Nat) (s : State) : Host.Outcome State Fault Refusal :=
  let late (m : NvmeCmd) : Bool := m.sentAt + s.obj (State.connObj conn) 0x0D * 1000000000 ≤ s.now
  s.live (if s.connState conn = 2 ∧ s.clu.ios.any (fun i => i.conn == conn && i.cmds.any late) then s.leaveConn conn 3 9 none else s)

/-- RECONNECT_DELAY has passed in DOWN. -/
def execNvmeReconnectDelay (conn : Nat) (s : State) : Host.Outcome State Fault Refusal :=
  s.live (if s.connState conn = 3 ∧ bit (s.obj 0x2C00 3) 2 ∧ (s.conn conn).since + s.obj (State.connObj conn) 0x0E * 1000000000 ≤ s.now then
      (s.beginConn conn).count 0x5700 7 1
    else s)

/-- The 30 s timer of a READY connection. -/
def execNvmeKeepAlive (conn : Nat) (s : State) : Host.Outcome State Fault Refusal :=
  let v := s.conn conn
  s.live (if s.connState conn = 2 ∧ v.keepAt + 30000000000000 ≤ s.now then
      (s.setConn conn { v with keepAt := s.now, nextCid := (v.nextCid + 1) % 65536 }).emit
        (.nvme conn (capsule (s.digests conn) 0x18 v.nextCid 0 0 []))
    else s)

def execNvmeC2hData (conn : Nat) (pdu : List Byte) (s : State) : Host.Outcome State Fault Refusal := s.live (s.c2hData conn pdu)

def execNvmeR2t (conn : Nat) (pdu : List Byte) (s : State) : Host.Outcome State Fault Refusal := s.live (s.r2t conn pdu)

def execNvmeCapsuleResp (conn : Nat) (pdu : List Byte) (s : State) : Host.Outcome State Fault Refusal := s.live (s.capsuleResp conn pdu)

end Sys2Proof.Machine
end

