-- ==== Sys2Proof/Machine/Derone.lean ====
section
/-! DEFINITION. Machine/Derone.lean: the commands of "Derone links and the scale-up fabric": links, packets arriving,
timeouts, and the drain-and-swap of routes. -/

namespace Sys2Proof.Machine

namespace State

/-- A D port is in DOWN or MISWIRED. -/
def portBad (s : State) (p : Nat) : Bool := s.obj (0x2808 + p) 2 == 3 || s.obj (0x2808 + p) 2 == 4

/-- DERONE_LINK follows whether any D port is in DOWN or MISWIRED (R471); a port that passes there beside another merges. -/
def judgeDerone (s : State) (before : State) : State :=
  s.newCauses 9 ((List.range 8).filter fun p => s.portBad p && !before.portBad p).length ((List.range 8).any s.portBad)

/-- Cells in use at an input VC: the flits of the packets that came in there and wait at an output (R179). -/
def inputCells (s : State) (port vc : Nat) : Nat :=
  ceilDiv ((((List.range 8).flatMap fun p => s.outQueue (2 * p + vc)).filter (·.source == port)).map fun q => ceilDiv q.packet.length 64).sum 4

/-- An input VC sends OFF when its cells rise to 192, and ON when they fall to 128 (R179). -/
def judgeInput (s : State) (k : Nat) : State :=
  let n := s.inputCells (k / 2) (k % 2)
  let put (t : State) (v : Nat) : State := { t with fab := { t.fab with inOff := t.fab.inOff.setNum k v } }
  if s.fab.inOff.num k = 0 then
    (if 192 ≤ n then ((put s 1).emit (.deroneFlow (k / 2) (k % 2) true)).count (0x5280 + k / 2) 5 1 else s)
  else if n ≤ 128 then (put s 0).emit (.deroneFlow (k / 2) (k % 2) false)
  else s

def judgeInputs (s : State) : State := (List.range 16).foldl judgeInput s

/-- The partner holds an output OFF, or lets it go on (R179). -/
def setOff (s : State) (k : Nat) (v : Option Nat) : State :=
  { s with fab := { s.fab with off := Sparse.set (fun _ => none) s.fab.off k v } }

/-- An output is held OFF no longer; the time is counted (R179, R189). -/
def endOff (s : State) (port vc : Nat) : State :=
  match s.heldOff (2 * port + vc) with
  | some t => (s.setOff (2 * port + vc) none).count (0x5280 + port) 6 ((s.now - t) / 1000)
  | none => s

/-- A packet is lost here: its sender learns by the NAK LOST, or, when the sender is this module, at once (R193). -/
def lose (s : State) (pkt : List Byte) (code : Nat) : State :=
  match Packet.parse pkt with
  | some p =>
    if p.src = s.moduleId then
      (match (if p.kind ≤ 1 then s.findXfer p.id else none) with
      | some x => s.endXfer x 0x09
      | none => s)
    else s.answerDerone p.src 4 p.id code
  | none => s

/-- Discard every packet that waits at a port's outputs, or came in by the port and waits at another output (R193). -/
def dropQueues (s : State) (port : Nat) : State :=
  let ks := List.range 16
  let gone (k : Nat) (q : Queued) : Bool := k / 2 == port || q.source == port
  let lost := ks.flatMap fun k => (s.outQueue k).filter (gone k)
  let s1 := ks.foldl (fun st k => st.setOutQueue k ((st.outQueue k).filter fun q => !gone k q)) s
  let s2 := lost.foldl (fun st q => st.lose q.packet 2) ((s1.endOff port 0).endOff port 1)
  { s2 with fab := { s2.fab with inOff := (s2.fab.inOff.setNum (2 * port) 0).setNum (2 * port + 1) 0 } }

def findContext (s : State) (src id : Nat) : Option RxContext := s.fab.contexts.find? fun c => c.src == src && c.id == id

/-- A transfer fails: the ranges it has placed are undefined from then on (R23, R184). -/
def scramblePlaced (s : State) (c : RxContext) : State := s.scramblePieces 0 (c.placed.map fun r => .dev r.1 r.2)

/-- A transfer of which packets are on a port that goes DOWN will never be whole here: it has failed, and what it has placed is undefined
(R23, R193). Its source learns of it by a NAK LOST, or by its timeout (R184). -/
def cutTransfers (s : State) (port : Nat) : State :=
  let cut (c : RxContext) : Bool := c.port == port && c.src != 256 && !c.failed
  let s1 := (s.fab.contexts.filter cut).foldl scramblePlaced s
  { s1 with fab := { s1.fab with contexts := s1.fab.contexts.map fun c => if cut c then { c with failed := true, placed := [], crossed := [] } else c } }

/-- The interface of a stack is lost: a transfer that is placing bytes there meets a parity error in placement (R176, R472; log 150). -/
def parityTransfers (s : State) (k : Nat) : State :=
  let hit (c : RxContext) : Bool := !c.failed && c.src != 256 && c.placed.any fun r => stackOf r.1 == k
  let s1 := (s.fab.contexts.filter hit).foldl
    (fun st c => (((st.scramblePlaced c).parityMet (.dev ((c.placed.find? fun r => stackOf r.1 == k).map (·.1) |>.getD 0) 1)).answerDerone c.src 4 c.id 4)) s
  { s1 with fab := { s1.fab with contexts := s1.fab.contexts.map fun c => if hit c then { c with failed := true, placed := [], crossed := [] } else c } }

/-- A D port in UP goes DOWN (R169, R193). -/
def deroneDown (s : State) (port : Nat) : State :=
  let i := 0x2808 + port
  let s1 := ((s.setObj i 2 0 3).count (0x5280 + port) 0x0B 1).judgeDerone s
  ((((s1.dropQueues port).cutTransfers port).judgeInputs).raiseDevice 4 (1 * 256 + port) [0, BitVec.ofNat 8 port, 0, BitVec.ofNat 8 (s.obj i 3)]).settleHands

/-- A codeword that is not correctable: 16 within a window of 1 ms take the port DOWN (R169). The windows begin at the multiples of
1 ms of the model's clock (DESIGN CHOICE, log 147). -/
def badCodeword (s : State) (port : Nat) : State :=
  let w := s.now / 1000000000
  let old := Sparse.get (fun _ => (0, 0)) s.fab.badWords port
  let n := if old.1 = w then old.2 + 1 else 1
  let s1 := ({ s with fab := { s.fab with badWords := Sparse.set (fun _ => (0, 0)) s.fab.badWords port (w, n) } }).count (0x5280 + port) 0x0A 1
  if n = 16 then s1.deroneDown port else s1

/-- A READ_RESP for a read of this module's own is one of the packets that R172 cuts it into. -/
def respFits (s : State) (p : Packet) : Bool :=
  match s.findXfer p.id with
  | some x =>
    let cs := cuts 4096 x.addr x.len
    p.kind != 2 || p.dst != s.moduleId || !x.read || x.module != p.src || (cs[p.index]? == some (p.addr, p.len) && p.last == decide (p.index + 1 = cs.length))
  | none => true

/-- Count a packet's arrival on an input VC, and its flits (R171, R189). -/
def countArrival (s : State) (port vc bytes : Nat) : State :=
  let k := 2 * port + vc
  let f := packetFlits bytes (s.fab.rxHalf.num k == s.now + 1)
  (({ s with fab := { s.fab with rxHalf := s.fab.rxHalf.setNum k (if f.2 then s.now + 1 else 0) } }).count (0x5280 + port) 4 1).count
    (0x5280 + port) 2 f.1

/-- The port counts a packet's arrival and R175 judges it: header and epoch. Answers the packet that survives. A packet that arrives without
all the slots of its LENGTH has flits in an uncorrectable codeword: it is discarded, with the NAK LOST where its header is intact (R169,
log 121). -/
def arrive (s : State) (port : Nat) (bytes : List Byte) : State × Option Packet :=
  if !s.portUp port then (s, none)
  else if bytes.length < 32 then (s.badCodeword port, none)
  else
    let s1 := s.countArrival port (bits (leAt bytes 0 1) 4 4) bytes.length
    match Packet.header bytes with
    | none => (s1.count (0x5280 + port) 0x0C 1, none)
    | some p =>
      if !s1.respFits p then (s1.count (0x5280 + port) 0x0C 1, none)
      else if bytes.length < 32 + roundUp p.len 32 then ((s1.answerDerone p.src 4 p.id 2).badCodeword port, none)
      else if 32 + roundUp p.len 32 < bytes.length then (s1.count (0x5280 + port) 0x0C 1, none)
      else if p.epoch ≠ s1.epoch8 then ((s1.count (0x5280 + port) 0x0D 1).answerDerone p.src 4 p.id 5, none)
      else (s1, some p)

/-- Run what a packet of one TYPE does at its destination; a packet of another kind does not make this command. -/
def atDestination (s : State) (port : Nat) (bytes : List Byte) (kind : Nat) (k : Packet → State → State) : State :=
  match Packet.header bytes with
  | some p =>
    if p.dst ≠ s.moduleId ∨ p.kind ≠ kind then s
    else match s.arrive port bytes with
      | (s1, some q) => k q s1
      | (s1, none) => s1
  | none => (s.arrive port bytes).1

/-- Replace or remove the context of a transfer. -/
def setContext (s : State) (src id : Nat) (c : Option RxContext) : State :=
  { s with fab := { s.fab with contexts := s.fab.contexts.filter (fun x => !(x.src == src && x.id == id)) ++ c.toList } }

/-- Refuse or lose a write transfer: the NAK leaves and the rest of its packets are discarded (R182, R184). What it has placed is undefined. -/
def refuseWrite (s : State) (port : Nat) (p : Packet) (code : Nat) : State :=
  let s1 := match s.findContext p.src p.id with
    | some c => s.scramblePlaced c
    | none => s
  (s1.setContext p.src p.id (if p.last then none else some ⟨p.src, p.id, port, p.index + 1, true, [], []⟩)).answerDerone p.src 4 p.id code

/-- Check and place one WRITE packet in sequence, and answer its last (R181, R182). -/
def placeWrite (s : State) (port : Nat) (p : Packet) : State :=
  match s.arrival p.src p.drawer p.addr p.len true with
  | none => (s.count 0x5288 8 1).refuseWrite port p 1
  | some d =>
    let off := dpaOffset p.addr
    let s0 := if p.first ∧ !p.last then s.setContext p.src p.id (some ⟨p.src, p.id, port, 0, false, [], []⟩) else s
    let s1 := if s.landingOf d off then s0.deliverHand d (HandPkt.parse p.payload false) else s0.placeBytes none p.src p.id off p.payload
    if !p.last then
      { s1 with fab := { s1.fab with contexts := s1.fab.contexts.map fun c =>
          if c.src = p.src ∧ c.id = p.id then { c with next := p.index + 1 } else c } }
    else
      let s2 := s1.setContext p.src p.id none
      if !p.sig then s2.answerDerone p.src 3 p.id 0
      else if s2.ownsPeg d p.info then (s2.addHubPeg p.info 1).answerDerone p.src 3 p.id 0
      else (s2.count 0x5288 8 1).answerDerone p.src 4 p.id 6

/-- A WRITE packet at its destination (R181–R184). A first packet of a transfer in progress is out of INDEX order; one of a transfer that has
failed begins it again (R184, a resend after BUSY). -/
def rxWrite (port : Nat) (p : Packet) (s : State) : State :=
  let held := s.findContext p.src p.id
  if p.first then
    (if p.index ≠ 0 ∨ (held.any fun c => !c.failed) = true then s.refuseWrite port p 2
     else if !p.last && decide (16384 ≤ (s.fab.contexts.filter fun c => !c.failed && c.src != 256).length) then s.refuseWrite port p 3
     else s.placeWrite port p)
  else match held with
    | some c =>
      if c.failed then (if p.last then s.setContext p.src p.id none else s)
      else if c.next ≠ p.index then s.refuseWrite port p 2
      else s.placeWrite port p
    | none => s.refuseWrite port p 2

/-- Read contexts in use: requests with a READ_RESP packet still waiting at an output. -/
def readContexts (s : State) : Nat :=
  ((((List.range 8).flatMap fun p => s.outQueue (2 * p)).filterMap fun b => match Packet.parse b.packet with
    | some q => if q.kind = 2 ∧ q.src = s.moduleId then some (q.dst, q.id) else none
    | none => none).dedup).length

/-- Send the READ_RESP packets of a request, until a parity error (R183). -/
def respond (s : State) (p : Packet) (n : Nat) : List ((Nat × Nat) × Nat) → State
  | [] => s
  | (c, i) :: r =>
    let off := dpaOffset p.addr + c.1
    if s.pieceBad (.dev off c.2) then (s.parityMet (.dev off c.2)).answerDerone p.src 4 p.id 4
    else
      (s.sendRouted { kind := 2, vc := 0, first := i == 0, last := i + 1 == n, sig := false, dst := p.src, src := s.moduleId,
                      drawer := p.drawer, epoch := s.epoch8, len := c.2, hops := 0, id := p.id, index := i, addr := c.1,
                      info := 0, payload := s.mem.dev.readBytes off c.2 }).respond p n r

/-- A READ_REQ at its destination (R183). -/
def rxReadReq (p : Packet) (s : State) : State :=
  if 256 ≤ s.readContexts then s.answerDerone p.src 4 p.id 3
  else match s.arrival p.src p.drawer p.addr p.info false with
    | none => (s.count 0x5288 8 1).answerDerone p.src 4 p.id 1
    | some _ =>
      let cs := cuts 4096 p.addr p.info
      s.respond p cs.length cs.zipIdx

/-- A READ_RESP at the requester (R183). A packet out of sequence fails the read as LOST (DEDUCED, log 21). Bytes for a peer that cannot be
reached end it with DATA_PARITY (R362). -/
def rxReadResp (p : Packet) (s : State) : State :=
  match s.findXfer p.id with
  | some x =>
    if !x.read ∨ x.module ≠ p.src then s
    else if p.index ≠ x.next then s.endXfer x 0x09
    else if (subPieces x.dest p.addr p.len).any (fun q => match q with | .bus 1 _ _ => !s.busOk 1 | _ => false) then s.endXfer x 0x0B
    else
      let s1 := s.placeOnto x.drawer 256 x.id (subPieces x.dest p.addr p.len) p.payload
      if p.last then s1.endXfer x 0
      else s1.mapXfer x.id fun y => { y with next := y.next + 1 }
  | none => s

/-- An ACK at the source (R181). -/
def rxAck (p : Packet) (s : State) : State :=
  match s.findXfer p.id with
  | some x => if x.read ∨ x.module ≠ p.src then s else s.endXfer x 0
  | none => s

/-- The status of a NAK code (R176). -/
def nakStatus (code : Nat) : Nat := if code = 1 ∨ code = 6 then 0x03 else if code = 4 then 0x0B else 0x09

/-- A NAK at the source (R184). A reserved code is ignored. -/
def rxNak (p : Packet) (s : State) : State :=
  let s1 := s.count 0x5288 6 1
  match s1.findXfer p.id with
  | some x =>
    if p.info = 0 ∨ 7 < p.info then s1
    else if p.info = 3 then
      (s1.dropPackets x.id).mapXfer x.id fun y => { y with busyAt := some s1.now }
    else s1.endXfer x (nakStatus p.info)
  | none => s1

/-- The packet that an output VC's arbiter grants next: the first of the first requester from the rotating pointer on (R177). -/
def nextGranted (s : State) (k : Nat) : Option Nat :=
  (List.range 9).findSome? fun i => findPos (fun q : Queued => min q.source 8 == (s.fab.pointer.num k + i) % 9) (s.outQueue k)

/-- Packets leave an output that the partner has turned ON, as its arbiter grants it (R177, R179). -/
def release (s : State) (port vc : Nat) : Nat → State
  | 0 => s
  | fuel + 1 =>
    let q := s.outQueue (2 * port + vc)
    match s.nextGranted (2 * port + vc) with
    | some i => (match q[i]? with
      | some p => ((s.setOutQueue (2 * port + vc) (q.eraseIdx i)).sendPacket port vc p.source p.packet).release port vc fuel
      | none => s)
    | none => s

/-- A D port enters TRAINING and sends its partner this module's ID and its own number (R168). -/
def startTraining (s : State) (port : Nat) : State := (s.setObj (0x2808 + port) 2 0 1).emit (.deroneTraining port s.moduleId)

/-- A write of LINK_ENABLE (R168, R169). -/
def linkEnable (s : State) (port value : Nat) : State :=
  let i := 0x2808 + port
  let s1 := s.putObj i 1 0 value
  -- What its codewords have counted until now is a free amount (R189, log 118).
  let s2 := if s.obj i 2 = 0 then s1 else (s1.riseNow (0x5280 + port) 9).riseNow (0x5280 + port) 0x0A
  (if value = 0 then ((s2.dropQueues port).judgeInputs).setObj i 2 0 0
   else if s.obj i 1 = 0 ∨ s.obj i 2 = 4 then s1.startTraining port
   else s1).judgeDerone s

/-- The staged table passes the SWAP check (R192). -/
def stagedOk (s : State) : Bool :=
  let t := (s.blob 0x2801 2).map BitVec.toNat
  (t.zipIdx).all (fun (e, m) => if m == s.moduleId then e == 8 else e < 8 || e == 0xFF) &&
  s.obj 0x2801 3 % 256 != s.epoch8

/-- A job or hand of this module still uses Derone, or a transfer of its own is outstanding (R191). `hands` says whether a
hand over other modules runs. -/
def deroneIdle (s : State) (hands : Bool) : Bool :=
  !hands && s.fab.xfers.isEmpty && s.fab.waiting.isEmpty && s.fab.held.isEmpty && s.fab.copies.isEmpty && s.readContexts == 0 &&
  (List.range 128).all fun d => match s.job d with
    | some j => j.image.moduleCount ≤ 1
    | none => true

end State

/-! The commands -/

def execDeroneTrainingDone (port partnerModule partnerPort : Nat) (s : State) : Host.Outcome State Fault Refusal :=
  let i := 0x2808 + port
  s.live (if s.obj i 2 ≠ 1 ∨ s.obj i 1 = 0 then s
    else
      let s1 := (s.setObj i 3 0 partnerModule).setObj i 4 0 partnerPort
      if partnerModule = s.moduleId then (s1.setObj i 2 0 4).judgeDerone s1
      else ((s1.setObj i 2 0 2).judgeDerone s1).raiseDevice 2 (1 * 256 + port) [1, BitVec.ofNat 8 port, 0])

def execDeroneLinkDown (port : Nat) (s : State) : Host.Outcome State Fault Refusal :=
  s.live (if s.obj (0x2808 + port) 2 ≠ 2 then s else s.deroneDown port)

/-- The corrected codewords of the present window of 1 s have reached DEGRADE_LEVEL: FEC_CORRECTED has counted as many in it (R170).
The windows begin at the whole seconds of the model's clock (DESIGN CHOICE, log 147). -/
def execDeroneDegraded (port : Nat) (s : State) : Host.Outcome State Fault Refusal :=
  let w := s.now / 1000000000000
  s.live (if s.obj (0x2808 + port) 2 ≠ 2 ∨ s.fab.degraded.num port = w + 1 then s
    else
      let s1 := s.countSince (0x5280 + port) 9 (s.obj (0x2808 + port) 5) (w * 1000000000000)
      ({ s1 with fab := { s1.fab with degraded := s1.fab.degraded.setNum port (w + 1) } }).raiseDevice 3 (1 * 256 + port)
        [1, BitVec.ofNat 8 port, 0])

/-- ON: the time held off is counted, and the queue leaves. -/
def State.flowOn (s : State) (port vc : Nat) : State :=
  let s1 := s.endOff port vc
  (s1.release port vc (s1.outQueue (2 * port + vc)).length).judgeInputs.settleHands

def execDeroneFlowControl (port vc : Nat) (stop : Bool) (s : State) : Host.Outcome State Fault Refusal :=
  s.live (match s.heldOff (2 * port + vc) with
    | none => if stop then s.setOff (2 * port + vc) (some s.now) else s
    | some _ => if stop then s else s.flowOn port vc)

def execDeroneForward (port : Nat) (packet : List Byte) (s : State) : Host.Outcome State Fault Refusal :=
  s.live (match Packet.header packet with
    | none => (s.arrive port packet).1
    | some p =>
      if p.dst = s.moduleId then s
      else match s.arrive port packet with
        | (s1, none) => s1
        | (s1, some q) =>
          if q.hops = 15 then (s1.count (0x5280 + port) 0x0E 1).answerDerone q.src 4 q.id 2
          else
            let e := s1.routeEntry q.dst
            if e < 8 ∧ s1.portUp e then (s1.putPacket e q.vc port { q with hops := q.hops + 1 }.bytes).judgeInputs
            else s1.answerDerone q.src 4 q.id 7)

/-- A stack whose hub interface is lost holds the placement (R472). -/
def execDeroneRxWrite (port : Nat) (packet : List Byte) (s : State) : Host.Outcome State Fault Refusal :=
  s.live (s.atDestination port packet 0 fun p t => if t.stackHeld [.dev (dpaOffset p.addr) p.len] then s else State.rxWrite port p t)

def execDeroneRxReadReq (port : Nat) (packet : List Byte) (s : State) : Host.Outcome State Fault Refusal :=
  s.live (s.atDestination port packet 1 fun p t => if t.stackHeld [.dev (dpaOffset p.addr) p.info] then s else State.rxReadReq p t)

def execDeroneRxReadResp (port : Nat) (packet : List Byte) (s : State) : Host.Outcome State Fault Refusal :=
  s.live (s.atDestination port packet 2 fun p t =>
    if ((t.findXfer p.id).map fun x => t.stackHeld x.dest).getD false then s else State.rxReadResp p t)

def execDeroneRxAck (port : Nat) (packet : List Byte) (s : State) : Host.Outcome State Fault Refusal :=
  s.live (s.atDestination port packet 3 fun p t => (State.rxAck p t).settleHands)

def execDeroneRxNak (port : Nat) (packet : List Byte) (s : State) : Host.Outcome State Fault Refusal :=
  s.live (s.atDestination port packet 4 fun p t => (State.rxNak p t).settleHands)

def execDeroneStallDiscard (port vc : Nat) (s : State) : Host.Outcome State Fault Refusal :=
  let k := 2 * port + vc
  s.live (match s.outQueue k with
    | [] => s
    | q :: r =>
      if s.now < q.since + s.obj 0x2800 5 * 1000000 then s
      else ((((s.setOutQueue k r).count (0x5280 + port) 8 1).raiseSource 10).lose q.packet 2).judgeInputs.settleHands)

/-- The time runs from the departure of the transfer's last packet; after a resend, from its first sending (R184). -/
def execDeroneAckTimeout (id : Nat) (s : State) : Host.Outcome State Fault Refusal :=
  s.live (match s.findXfer id with
    | some x =>
      if (!x.resent ∧ s.packetsWait id = true) ∨ s.now < (if x.resent then x.firstSent else x.lastSent) + s.obj 0x2800 6 * 1000000 then s
      else ((s.count 0x5288 4 1).endXfer x 0x09).settleHands
    | none => s)

/-- A transfer whose port is no longer UP cannot be sent again: it fails as one that finds no route (R184, R186). -/
def execDeroneBusyResend (id : Nat) (s : State) : Host.Outcome State Fault Refusal :=
  s.live (match s.findXfer id with
    | some x =>
      match x.busyAt with
      | some t =>
        if s.now < t + 2000000 then s
        else if 8 ≤ s.xferPort x ∨ !s.portUp (s.xferPort x) then (s.endXfer x 0x09).settleHands
        else
          let y := { x with busyAt := none, resent := true, next := 0 }
          ((s.count 0x5288 7 1).mapXfer id fun _ => y).sendXfer y
      | none => s
    | none => s)

def execDovetailIssue (id : Nat) (s : State) : Host.Outcome State Fault Refusal :=
  s.live (match s.fab.held.find? (·.id == id) with
    | some h =>
      if s.now < h.issue then s
      else ({ s with fab := { s.fab with held := s.fab.held.filter (·.id != id) } }).startOp h.op
    | none => s)

def execDeroneTransferStart (s : State) : Host.Outcome State Fault Refusal :=
  s.live (match s.fab.waiting with
    | x :: r =>
      if 4096 ≤ s.fab.xfers.length then s
      else match ({ s with fab := { s.fab with waiting := r } }).launch x with
        | (s1, none) => s1.settleHands
        | (s1, some st) => (s1.originDone x.origin st).settleHands
    | [] => s)

namespace State

/-- RUN_JOBs of several modules whose checks have passed and that have not been dispatched are held again: they meet R115 when they are released
(R191). -/
def holdStarts (s : State) : State :=
  let many (j : Job) : Bool := decide (1 < j.image.moduleCount)
  (s.cmp.checked.filter many).foldl (fun st j => match st.findEntry j.fid j.entry with
    | some e => st.setEntry j.fid { e with stage := .ready }
    | none => st) { s with cmp := { s.cmp with checked := s.cmp.checked.filter fun j => !many j } }

/-- ROUTE_COMMAND (R191): none where the command is not listed for the present state. -/
def routeCommand (s : State) (c : Nat) : Option State :=
  let st := s.obj 0x2800 3
  if c = 1 ∧ st = 0 then some (s.holdStarts.setObj 0x2800 3 0 1)
  else if c = 4 ∧ (st = 1 ∨ st = 2) then some (s.setObj 0x2800 3 0 0)
  else if c = 3 ∧ st = 3 then some (s.setObj 0x2800 3 0 0)
  else if c = 2 ∧ st = 2 ∧ s.stagedOk then
    let e := s.obj 0x2801 3
    let s1 := ({ s with fab := { s.fab with active := s.blob 0x2801 2 } }).setObj 0x2800 2 0 e
    some ((s1.setObj 0x2800 3 0 3).raiseDevice 5 0 ([0, 0, 0, 0] ++ leBytes 4 e))
  else none

end State

def execRouteDrain (s : State) : Host.Outcome State Fault Refusal := s.liveLedger ((s.routeCommand 1).getD s)

def execRouteSwap (s : State) : Host.Outcome State Fault Refusal := s.liveLedger ((s.routeCommand 2).getD s)

def execRouteResume (s : State) : Host.Outcome State Fault Refusal := s.liveLedger ((s.routeCommand 3).getD s)

def execRouteAbort (s : State) : Host.Outcome State Fault Refusal := s.liveLedger ((s.routeCommand 4).getD s)

def execDeroneLinkEnableWrite (port value : Nat) (s : State) : Host.Outcome State Fault Refusal :=
  s.liveLedger (if 1 < value then s else (s.linkEnable port value).settleHands)

end Sys2Proof.Machine
end

