-- ==== Sys2Proof/Machine/Tables.lean ====
section
/-! DEFINITION. Machine/Tables.lean: "Tables and hands: collective operations": dealing, re-dealing and clearing (R194 to R204),
starting a hand (R205 to R217), the packets a hand takes (R223 to R231) and its limits (R229). -/

namespace Sys2Proof.Machine

/-- FP32, BF16, FP16, FP8_E4M3, FP8_E5M2, INT8, INT32 and U32 (R206). -/
def handType (ty : Nat) : Bool := ty ≤ 5 || ty == 15 || ty == 16

/-- FANIN of R199 for the algorithms that a deal permits. -/
def fanIn (algorithms n : Nat) : Nat :=
  max (if bit algorithms 0 then n - 1 else 0) (max (if bit algorithms 1 then 3 else 0) (max (if bit algorithms 2 then 1 else 0) (if bit algorithms 3 then 4 else 0)))

/-- CELLS (R199). -/
def Deal.cells (d : Deal) : Nat := 16 * d.depth * fanIn d.algorithms d.count * 2

/-- A member record (R196). -/
def Member.parse (b : List Byte) : Member :=
  let q := leAt b 4 4
  ⟨leAt b 0 1, leAt b 2 2, if bit q 31 then some (q % 2 ^ 24) else none, leAt b 8 8⟩

/-- A deal block's bytes as fields (R196). -/
def Deal.parse (b : List Byte) : Deal :=
  let n := leAt b 4 2
  let dl := leAt b 0x10 4
  { key := leAt b 0 4, count := n, rank := leAt b 6 2, groups := leAt b 8 2, algorithms := leAt b 0x0A 1, outer := leAt b 0x0B 1,
    depth := leAt b 0x0C 1, deadline := if dl = 0 then 100000 else dl,
    members := (List.range n).map fun r => Member.parse (slice b (64 + 16 * r) 16) }

/-- The header keeps the rules of R196. -/
def dealHeadOk (b : List Byte) : Bool :=
  let n := leAt b 4 2
  let g := leAt b 8 2
  let a := leAt b 0x0A 1
  let dl := leAt b 0x10 4
  1 ≤ n && n ≤ 1024 && leAt b 6 2 < n && 1 ≤ g && g ≤ n && 1 ≤ a && a < 16 && (g == 1 || a == 8) && leAt b 0x0B 1 < 3 &&
  2 ≤ leAt b 0x0C 1 && leAt b 0x0C 1 ≤ 16 && (slice b 0x0D 3).all (· == 0) && (dl == 0 || (1000 ≤ dl && dl ≤ 60000000)) &&
  (slice b 0x14 44).all (· == 0)

/-- Ranks whose QP the local member needs (R196). -/
def Deal.needsQp (d : Deal) : List Nat :=
  if d.groups = 1 ∨ d.rank ≠ d.leader d.mine then []
  else
    (d.leader ((d.mine + 1) % d.groups)) ::
      (if d.rank = 0 then (List.range d.groups).map d.leader |>.filter (· != 0) else [0])

/-- Groups are contiguous and ascending (R195). -/
def Deal.groupsOk (d : Deal) : Bool :=
  let gs := d.members.map (·.group)
  nth 0 gs 0 == 0 && nth 0 gs (d.count - 1) + 1 == d.groups &&
  (gs.zip (gs.drop 1)).all fun x => x.2 == x.1 || x.2 == x.1 + 1

/-! What a HAND_START may ask (R205 to R207) -/

/-- Elements of SRC and DST that a member names, by operation and root (R205). -/
def handSrcLen (d : Deal) (op root count : Nat) : Nat :=
  if op = 4 ∨ op = 6 then d.count * count else if op = 7 ∨ (op = 3 ∧ d.rank ≠ root) then 0 else count

def handDstLen (d : Deal) (op root count : Nat) : Nat :=
  if op = 5 ∨ op = 6 then d.count * count else if op = 7 ∨ (op = 2 ∧ d.rank ≠ root) ∨ (op = 3 ∧ d.rank = root) then 0 else count

/-- The limits of a HAND_START's entry (R205, R206, R214): COUNT at least 1 but 0 for BARRIER, ROOT below N and 0 where the operation has none, the
buffers present or absent by operation and root and at most 1 GiB, and reserved codes; what fails them completes with BAD_ENTRY. -/
def handLimits (d : Deal) (e : Entry) : Bool :=
  let op := e.u8 9
  let ty := e.u8 0x0A
  let red := e.u8 0x0B
  let alg := e.u8 0x0C
  let root := e.u16 0x0E
  let n := e.u64 0x18
  let src := handSrcLen d op root n
  let dst := handDstLen d op root n
  1 ≤ op && op ≤ 7 && 1 ≤ alg && alg ≤ 4 && root < d.count && (root == 0 || op == 2 || op == 3) &&
  (if op = 7 then n == 0 && ty == 0 && red == 0
   else
     1 ≤ n &&
     (if op == 1 ∨ op == 2 ∨ op == 4 then (ty == 1 || ty == 0) && red ≤ 2 else handType ty && red == 0) &&
     src * typeBytes ty ≤ 2 ^ 30 && dst * typeBytes ty ≤ 2 ^ 30) &&
  e.bufOk 0x20 (src == 0) && e.bufOk 0x2C (dst == 0) && (!narrows d alg red || n % 32 == 0)

/-- R207: the table's ALGORITHMS permits the algorithm, and the algorithm has the operation; NOT_PERMITTED otherwise. -/
def algorithmOk (d : Deal) (op alg : Nat) : Bool :=
  bit d.algorithms (alg - 1) &&
  (if alg = 1 then true else if alg = 2 then op == 1 || op == 2 || op == 3 || op == 7
   else if alg = 3 then op == 1 || op == 4 || op == 5 || op == 7 else op == 1 || op == 7)

/-- The status that step 3 of R215 gives an entry: BAD_ENTRY by R205, then NOT_PERMITTED by R207. -/
def handEarly (d : Deal) (e : Entry) : Nat :=
  if !handLimits d e then 0x0E else if !algorithmOk d (e.u8 9) (e.u8 0x0C) then 0x12 else 0

namespace State

/-- The records keep the rules of R196 and R197: LANDING of the members of this member's group, which it reaches over Derone, and the
connected QPs of those that it reaches over HRT; both fields are ignored elsewhere. That a QP leads to the member's module cannot be judged
here (log 123). -/
def dealOk (s : State) (f : Nat) (b : List Byte) : Bool :=
  let d := Deal.parse b
  d.groupsOk &&
  (List.range d.count).all (fun r =>
    let m := slice b (64 + 16 * r) 16
    leAt m 1 1 == 0 && leAt m 2 2 < d.groups &&
    ((d.member r).group != d.mine || (leAt m 8 8 % 65536 == 0 && leAt m 8 8 < 2 ^ 44))) &&
  d.needsQp.all fun r => leAt (slice b (64 + 16 * r) 16) 4 4 / 2 ^ 24 % 128 == 0 && match (d.member r).qp with
    | some n => n < 65536 && (s.qp n).owner == some f && ((s.qp n).state == .rtr || (s.qp n).state == .rts)
    | none => false

/-- Read bytes of a buffer for an entry: nothing while it must wait, else a status or the bytes. -/
def readBuf (s : State) (f : Nat) (b : BufRef) (len : Nat) : Option (Nat ⊕ List Byte) × State :=
  match s.resolveBuf f b len false false with
  | (.wait, s1) => (none, s1)
  | (.fail st, s1) => (some (.inl st), s1)
  | (.ok ps, s1) =>
    if !s1.piecesReady ps then (none, s)
    else match s1.readPieces ps with
      | (none, s2) => (some (.inl 0x0B), s2)
      | (some bs, s2) => (some (.inr bs), s2)

/-- Read and check a deal block: nothing while it must wait, else a status or the deal (R197). -/
def readDeal (s : State) (f : Nat) (b : BufRef) : Option (Nat ⊕ Deal) × State :=
  let bad (st : Nat) := if st = 1 then 0x0E else st
  match s.readBuf f b 64 with
  | (none, s1) => (none, s1)
  | (some (.inl st), s1) => (some (.inl (bad st)), s1)
  | (some (.inr h), s1) =>
    if !dealHeadOk h then (some (.inl 0x0E), s1)
    else match s1.readBuf f b (64 + 16 * leAt h 4 2) with
      | (none, s2) => (none, s2)
      | (some (.inl st), s2) => (some (.inl (bad st)), s2)
      | (some (.inr bs), s2) => if dealHeadOk bs && s2.dealOk f bs then (some (.inr (Deal.parse bs)), s2) else (some (.inl 0x0E), s2)

/-- Another context of the drawer has this key and rank (R198). -/
def dealtTwice (s : State) (t f : Nat) (d : Deal) : Bool :=
  (List.range 64).any fun k => k != t && match s.table k with
    | some c => c.fid == f && c.deal.key == d.key && c.deal.rank == d.rank
    | none => false

/-- A context just dealt, with its counters at zero (R198, R237). A context that is dealt anew keeps the status of its last completed hand,
since it has not been empty (R202, R236). -/
def dealt (s : State) (t f cells : Nat) (d : Deal) : State :=
  let s1 := (List.range 8).foldl (fun st k => st.setCtr (tableCtr t) (k + 1) 0) s
  ({ s1 with hands := { s1.hands with deals := s1.hands.deals + 1 } }).setTable t (some
    { fid := f, deal := d, cells := cells, deals := s1.hands.deals + 1, seq := 1, running := none, queue := [], inbox := [], ends := [],
      lastStatus := ((s.table t).map Table.lastStatus).getD 0, lastFailed := ((s.table t).map Table.lastFailed).getD 0xFFFF })

/-- An entry on a table takes its turn among the function's earlier entries on the same table: after deals and clears have
completed and hand starts have been taken. -/
def tableTurn (s : State) (f : Nat) (e : Entry) : Bool :=
  (earlier (s.fn f) e).all fun x => match x.stage with
    | .done _ _ => true
    | .ready => x.malformed || !(0x38 ≤ x.opcode && x.opcode ≤ 0x3B && x.u8 8 == e.u8 8) || (x.opcode == 0x3B && e.opcode == 0x3A)
    | .busy => true

/-- A HAND_START on the table that is earlier in the ring has not completed (R202). -/
def handsBefore (s : State) (f : Nat) (e : Entry) : Bool :=
  (earlier (s.fn f) e).any fun x => !x.malformed && x.opcode == 0x3B && x.u8 8 == e.u8 8 && match x.stage with
    | .done _ _ => false
    | _ => true

/-- TABLE_DEAL (R198). -/
def runDeal (s : State) (f : Nat) (e : Entry) : State :=
  let t := e.u8 8
  let fin (u : State) (st : Nat) := u.complete f e st (leBytes 1 t)
  match e.buf 0x0C with
  | none => s
  | some b =>
    match s.readDeal f b with
    | (none, s1) => s.moveWait f e s1
    | (some (.inl st), s1) => fin s1 st
    | (some (.inr d), s1) =>
      let base := s1.obj 0x2300 7 f
      if (s1.table t).isSome || t < base || base + s1.obj 0x2300 8 f ≤ t || s1.dealtTwice t f d ||
         s1.obj 0x2300 3 f < s1.cellsHeld f + d.cells + 256 then fin s1 0x12
      else fin (s1.dealt t f d.cells d) 0

/-- TABLE_REDEAL (R202). -/
def runRedeal (s : State) (f : Nat) (e : Entry) : State :=
  let t := e.u8 8
  let fin (u : State) (st : Nat) := u.complete f e st (leBytes 1 t)
  match e.buf 0x0C with
  | none => s
  | some b =>
    if s.handsBefore f e then s
    else match s.readDeal f b with
      | (none, s1) => s.moveWait f e s1
      | (some (.inl st), s1) => fin s1 st
      | (some (.inr d), s1) =>
        match s1.table t with
        | none => fin s1 0x12
        | some c =>
          let cells := max c.cells d.cells
          if c.fid ≠ f ∨ c.deal.key = d.key ∨ s1.dealtTwice t f d ∨
             (c.cells < d.cells ∧ s1.obj 0x2300 3 f + c.cells < s1.cellsHeld f + cells + 256) then fin s1 0x12
          else fin (s1.dealt t f cells d) 0

/-- The member tells the others why it stops (R231, item 3). -/
def sendAbort (s : State) (t : Nat) (c : Table) (h : Hand) (status : Nat) : State :=
  let d := c.deal
  s.tell t c h (groupMates d ++ (if d.rank = d.leader d.mine then tellLeaders d else [])) 3 status d.rank

/-! Starting a hand (R205 to R217) -/

/-- One of a hand's buffers (R133, R215, item 4). -/
def handBuf (s : State) (f : Nat) (b : BufRef) (len : Nat) (write : Bool) : Res × State :=
  match b with
  | .none => (.ok [], s)
  | .dva _ =>
    (match s.resolveBuf f b len write false with
    | (.ok ps, s1) => if ps.all (fun p => match p with
        | .dev _ _ => true
        | _ => false) then (.ok ps, s1) else (.fail 6, s1)
    | r => r)
  | .region _ _ =>
    match s.resolveBuf f b len write false with
    | (.fail 1, s1) => (.fail 2, s1)
    | r => r

/-- What a resolved buffer covers. -/
def piecesOf : Res → List Piece
  | .ok ps => ps
  | _ => []

/-- The status that step 4 of R215 leaves: that of the first buffer that fails. -/
def handFailure (src dst : Res) : Nat :=
  match src, dst with
    | .fail x, _ => x
    | _, .fail x => x
    | _, _ => 0

/-- A hand's two buffers, resolved in order (R215, step 4). -/
def handBufs (s : State) (c : Table) (e : Entry) : Res × Res × State :=
  let d := c.deal
  let op := e.u8 9
  let root := e.u16 0x0E
  let n := e.u64 0x18
  let z := typeBytes (e.u8 0x0A)
  let src := s.handBuf c.fid ((e.buf 0x20).getD .none) (handSrcLen d op root n * z) false
  let dst := src.2.handBuf c.fid ((e.buf 0x2C).getD .none) (handDstLen d op root n * z) true
  (src.1, dst.1, dst.2)

/-- The hand that takes the context's HAND_SEQ for an entry (R215, step 2). -/
def newHand (c : Table) (e : Entry) (now : Nat) : Hand :=
  { entry := e.idx, seq := c.seq, op := e.u8 9, type := e.u8 0x0A, redop := e.u8 0x0B, alg := e.u8 0x0C, root := e.u16 0x0E,
    count := e.u64 0x18, sig := handSig (e.u64 0x18) (e.u16 0x0E) (e.u8 0x0A) (e.u8 0x0B) (e.u8 9) (e.u8 0x0C), src := [], dst := [],
    startedAt := now, status := 0, failed := 0xFFFF, streams := [], joined := false, staged := [], held := [], spent := [], outstanding := 0,
    doneSent := false, groupSent := false, relayed := false, reports := [] }

/-- Steps 4 and 5 of R215: the buffers are translated, and the member joins the hand, or the failure becomes its local status. Nothing while
a page is being moved, or P0 is down. -/
def joinHand (s : State) (t : Nat) : State :=
  match s.table t with
  | none => s
  | some c => match c.running with
    | none => s
    | some h =>
      if h.joined ∨ h.status ≠ 0 then s
      else match s.findEntry c.fid h.entry with
        | none => s
        | some e =>
          let r := s.handBufs c e
          if r.1 = .wait ∨ r.2.1 = .wait then s.moveWait c.fid e r.2.2
          else
            let h1 := { h with joined := true, src := piecesOf r.1, dst := piecesOf r.2.1 }
            let st := handFailure r.1 r.2.1
            if st = 0 then (r.2.2.setHand t { h1 with streams := handStreams c.deal h.op h.alg h.root h.count h.redop }).pump t
            else (r.2.2.setHand t h1).failHand t st c.deal.rank

/-- Where the DST of an entry that step 3 refuses resolves as it stands: its contents are undefined all the same (R232). -/
def lostDst (s : State) (c : Table) (e : Entry) : List Piece :=
  let len := handDstLen c.deal (e.u8 9) (e.u16 0x0E) (e.u64 0x18) * typeBytes (e.u8 0x0A)
  if 2 ^ 30 < len then [] else piecesOf (s.handBuf c.fid ((e.buf 0x2C).getD .none) len true).1

/-- Some member of the table lies on another module (R234). -/
def offModule (s : State) (d : Deal) : Bool := d.members.any fun m => m.module != s.moduleId

/-- The running hand and the queued ones end at once with a status, after an ABORT each; a queued one takes its number first
(R203, R232, R235). -/
def stopQueued (s : State) (t status : Nat) : List Nat → State
  | [] => s
  | i :: r =>
    let s1 := match s.table t, (s.table t).bind fun c => s.findEntry c.fid i with
      | some c, some e =>
        let h : Hand := { newHand c e s.now with status := status, failed := c.deal.rank, doneSent := true, groupSent := true, relayed := true,
                                                 dst := s.lostDst c e }
        let c1 := { c with seq := (c.seq + 1) % 2 ^ 32, running := some h }
        let s2 := ((s.setTable t (some c1)).count (tableCtr t) 1 1).sendAbort t c1 h status
        s2.endHand t ((s2.table t).getD c1) h status c.deal.rank
      | _, _ => s
    stopQueued s1 t status r

def stopHands (s : State) (t status : Nat) : State :=
  match s.table t with
  | none => s
  | some c =>
    let q := c.queue
    let s0 := s.setTable t (some { c with queue := [] })
    let s1 := match c.running with
      | some h =>
        let s1 := s0.sendAbort t c h status
        s1.endHand t ((s1.table t).getD c) h status c.deal.rank
      | none => s0
    s1.stopQueued t status q

/-- HAND_STARTs that have not been accepted yet join their table's queue, to end with it (R203, R235). -/
def queueHands (s : State) (f t : Nat) (es : List Entry) : State :=
  match s.table t with
  | some c => es.foldl (fun st x => st.busy f x) (s.setTable t (some { c with queue := c.queue ++ es.map (·.idx) }))
  | none => s

/-- TABLE_CLEAR (R203). -/
def runClear (s : State) (f : Nat) (e : Entry) : State :=
  let t := e.u8 8
  match s.table t with
  | none => s.complete f e 0x12 (leBytes 1 t)
  | some c =>
    if c.fid ≠ f then s.complete f e 0x12 (leBytes 1 t)
    else
      let held := (earlier (s.fn f) e).filter fun x => x.opcode == 0x3B && x.u8 8 == t && x.stage == .ready
      let later := (s.fn f).entries.filter fun x => !(earlier (s.fn f) e).any (·.idx == x.idx)
      let after := c.queue.filter fun i => later.any (·.idx == i)
      let s1 := (s.setTable t (some { c with queue := c.queue.filter fun i => !after.contains i })).queueHands f t held
      let s2 := (s1.stopHands t 0x0D).setTable t none
      let s3 := after.foldl (fun st i => st.completeIdx f i 0x12 (handResult t 0 0xFFFF)) s2
      s3.complete f e 0 (leBytes 1 t)

/-! Packets of a running hand (R223 to R231) -/

/-- The STATUS of a hand packet: one that is none of R13's codes counts as MEMBER_FAILED (log 123). -/
def listedStatus (st : Nat) : Nat := if st ≤ 0x12 then st else 0x0A

/-- The oldest packet of the running hand with one of these kinds leaves the inbox. -/
def takeHand (s : State) (t kind : Nat) (k : Table → Hand → HandPkt → State → State) : State :=
  match s.table t with
  | none => s
  | some c => match c.running with
    | none => s
    | some h =>
      match findPos (fun p : HandPkt => p.seq == h.seq && p.kind == kind) c.inbox with
      | none => s
      | some i =>
        let c1 := { c with inbox := c.inbox.eraseIdx i }
        match c.inbox[i]? with
        | some p => (k c1 h p (s.setTable t (some c1))).settleHands
        | none => s

/-- A DATA packet holds whole elements, or whole narrowed blocks (R220). -/
def wholeData (c : Table) (h : Hand) (p : HandPkt) : Bool :=
  if narrows c.deal h.alg h.redop && (c.deal.member p.src).group != c.deal.mine then p.data.length % 33 == 0
  else p.data.length % typeBytes h.type == 0

/-- DATA (R223, R226). -/
def takeData (s : State) (t : Nat) : State :=
  s.takeHand t 1 fun c h p u =>
    if p.sig ≠ h.sig ∨ !wholeData c h p ∨ c.deal.count ≤ p.src then
      let u1 := u.count (tableCtr t) 6 1
      (if p.src < c.deal.count then u1.sendHand t c (handPkt c h p.src 2 0 0xFFFF 1 0 []) else u1).failHand t 8 c.deal.rank
    else if h.status ≠ 0 then u
    else ((u.setHand t { h with staged := h.staged ++ [p] }).releaseStaged t).pump t

/-- CREDIT (R224). -/
def takeCredit (s : State) (t : Nat) : State :=
  s.takeHand t 2 fun _ h p u =>
    if h.status ≠ 0 then u else (u.setHand t { h with spent := h.spent.setNum p.src (h.spent.num p.src - p.step) }).pump t

/-- ABORT (R231, items 4 to 6). -/
def takeAbort (s : State) (t : Nat) : State :=
  s.takeHand t 3 fun c h p u =>
    if h.doneSent ∨ h.status ≠ 0 then u
    else
      let d := c.deal
      let st := if p.status = 8 ∨ p.status = 9 then p.status else 0x0A
      let h1 := { h with status := st, failed := p.failed, staged := [], held := [], streams := [], relayed := true }
      let ranks := if h.relayed ∨ d.rank ≠ d.leader d.mine then [] else if (d.member p.src).group = d.mine then tellLeaders d else groupMates d
      ((u.setHand t h1).tell t c h1 ranks 3 (listedStatus p.status) p.failed).sendDone t

/-- A HAND_START whose turn has come takes the context's HAND_SEQ, and its limits begin to run (R215, step 2; R229). An entry that step 3
refuses has that for its local status; an ABORT that was recorded for the hand is adopted now (R231, item 7); else the member goes on to
join. -/
def beginHand (s : State) (t : Nat) (c : Table) (e : Entry) : State :=
  let early := handEarly c.deal e
  let h := { newHand c e s.now with dst := if early = 0 then [] else s.lostDst c e }
  let s1 := (s.setTable t (some { c with seq := (c.seq + 1) % 2 ^ 32, running := some h, queue := c.queue.filter (· != e.idx) })).count (tableCtr t) 1 1
  let s2 := s1.busy c.fid e
  (if early = 0 then (s2.takeAbort t).joinHand t else s2.failHand t early c.deal.rank).settleHands

/-- A function's HAND_STARTs that are accepted and not completed (R216). -/
def handsAccepted (s : State) (f : Nat) : Nat := ((s.fn f).entries.filter fun x => x.opcode == 0x3B && x.stage = .busy).length

/-- HAND_START (R215, R216): the hand starts, or waits in the table's queue. One beyond 64 is not accepted. -/
def runHand (s : State) (f : Nat) (e : Entry) : State :=
  let t := e.u8 8
  match s.table t with
  | none => s.complete f e 0x12 (handResult t 0 0xFFFF)
  | some c =>
    if c.fid ≠ f then s.complete f e 0x12 (handResult t 0 0xFFFF)
    else if 64 ≤ s.handsAccepted f ∨ (s.obj 0x2800 3 ≠ 0 ∧ s.offModule c.deal) then s
    else if c.running.isSome ∨ c.queue ≠ [] then
      (s.setTable t (some { c with queue := c.queue ++ [e.idx] })).busy f e
    else s.beginHand t c e

/-- DONE (R226, R227, item 2). -/
def takeDone (s : State) (t : Nat) : State :=
  s.takeHand t 4 fun c h p u =>
    if c.deal.rank ≠ c.deal.leader c.deal.mine ∨ h.reports.any (·.1 == p.src) then u
    else
      let r := if p.sig ≠ h.sig then (p.src, 8, p.src) else (p.src, listedStatus p.status, p.failed)
      (u.setHand t { h with reports := h.reports ++ [r] }).leaderSends t false

/-- FIN (R227, items 3 to 5). -/
def takeFin (s : State) (t : Nat) : State := s.takeHand t 5 fun c h p u => u.finish t c h (listedStatus p.status) p.failed

/-- Other ranks whose data a member still awaits: some of what its streams have yet to take is neither staged nor held (R230). -/
def awaited (c : Table) (h : Hand) : List Nat :=
  h.streams.flatMap fun x => x.srcs.filterMap fun y => match y with
    | .own => none
    | .from r st =>
      let nar := x.form = .blocks || x.form = .widen
      if r = c.deal.rank ∨ x.hi - x.pos ≤ runAt h nar r st x.pos (x.hi - x.pos) (h.staged.length + h.held.length + 1) then none else some r

/-- The limits of R229, counted in quarters of DEADLINE from the hand's start. -/
def pastLimit (s : State) (c : Table) (h : Hand) (quarters : Nat) : Bool := h.startedAt + c.deal.deadline * 1000000 * quarters / 4 ≤ s.now

/-- The running hand of a table, when its limit has passed. -/
def atLimit (s : State) (t quarters : Nat) (k : Table → Hand → State) : State :=
  match s.table t with
  | some c => match c.running with
    | some h => if s.pastLimit c h quarters then (k c h).settleHands else s
    | none => s
  | none => s

/-- A hand over other modules runs (R191). -/
def handsOut (s : State) : Bool :=
  (List.range 64).any fun t => match s.table t with
    | some c => c.running.isSome && s.offModule c.deal
    | none => false

end State

/-! The commands -/

def execTableDeal (fid idx : Nat) (s : State) : Host.Outcome State Fault Refusal :=
  s.live (s.runEntry fid idx [0x38] fun e t => if t.tableTurn fid e then t.runDeal fid e else t)

def execTableRedeal (fid idx : Nat) (s : State) : Host.Outcome State Fault Refusal :=
  s.live (s.runEntry fid idx [0x39] fun e t => if t.tableTurn fid e then t.runRedeal fid e else t)

def execTableClear (fid idx : Nat) (s : State) : Host.Outcome State Fault Refusal :=
  s.live (s.runEntry fid idx [0x3A] fun e t => if t.tableTurn fid e then t.runClear fid e else t)

def execHandStart (fid idx : Nat) (s : State) : Host.Outcome State Fault Refusal :=
  s.live (s.runEntry fid idx [0x3B] fun e t => if t.tableTurn fid e then t.runHand fid e else t)

/-- HAND_QUEUED_START: the oldest waiting HAND_START of its table starts once no hand runs there (R216, R234). -/
def execHandQueuedStart (fid idx : Nat) (s : State) : Host.Outcome State Fault Refusal :=
  s.live (match s.findEntry fid idx with
    | none => s
    | some e =>
      match s.table (e.u8 8) with
      | some c =>
        if e.opcode = 0x3B ∧ c.fid = fid ∧ c.running.isNone ∧ c.queue.head? = some idx ∧ ¬(s.obj 0x2800 3 ≠ 0 ∧ s.offModule c.deal) then
          s.beginHand (e.u8 8) c e
        else s
      | none => s)

def execHandData (table : Nat) (s : State) : Host.Outcome State Fault Refusal := s.live (s.takeData table)

def execHandCredit (table : Nat) (s : State) : Host.Outcome State Fault Refusal := s.live (s.takeCredit table)

def execHandAbort (table : Nat) (s : State) : Host.Outcome State Fault Refusal := s.live (s.takeAbort table)

def execHandDone (table : Nat) (s : State) : Host.Outcome State Fault Refusal := s.live (s.takeDone table)

def execHandFin (table : Nat) (s : State) : Host.Outcome State Fault Refusal := s.live (s.takeFin table)

/-- HAND_PART_DONE: every DATA packet is acknowledged, every result is written and no DATA is awaited, or the member has stopped
(R227, R231). A member that has waited for a page or for P0 joins first (R215). -/
def execHandPartDone (table : Nat) (s : State) : Host.Outcome State Fault Refusal :=
  s.live (
    let s1 := ((s.settleHands).joinHand table).pump table
    match s1.table table with
    | some c => (match c.running with
      | some h =>
        if h.status ≠ 0 ∨ (h.joined ∧ h.streams.all (fun x => decide (x.hi ≤ x.pos)) ∧ h.outstanding = 0) then (s1.sendDone table).settleHands else s1
      | none => s1)
    | none => s1)

def execHandLeaderDeadline (table : Nat) (s : State) : Host.Outcome State Fault Refusal :=
  s.live (s.atLimit table 4 fun c _ => if c.deal.rank = 0 then s else s.leaderSends table true)

def execHandRootDeadline (table : Nat) (s : State) : Host.Outcome State Fault Refusal :=
  s.live (s.atLimit table 6 fun c _ => if c.deal.rank = 0 then s.leaderSends table true else s)

/-- HAND_MEMBER_DEADLINE: a member without FIN completes (R229, R230). -/
def execHandMemberDeadline (table : Nat) (s : State) : Host.Outcome State Fault Refusal :=
  s.live (s.atLimit table 8 fun c h =>
    if h.status ≠ 0 then s.endHand table c h h.status h.failed
    else s.endHand table c h 0x0A ((leastOf (State.awaited c h)).getD 0))

/-- ROUTE_DRAINED: nothing of this module's own still uses Derone (R191). -/
def execRouteDrained (s : State) : Host.Outcome State Fault Refusal :=
  s.live (if s.obj 0x2800 3 = 1 ∧ s.deroneIdle s.handsOut then s.setObj 0x2800 3 0 2 else s)

end Sys2Proof.Machine
end

