-- ==== Sys2Proof/Machine/FnReset.lean ====
section
/-! DEFINITION. Machine/FnReset.lean: Function Level Reset (R360, R361), and the completions of the device's own PCIe requests:
ordering reads (R159) and Completion Timeouts (R330, R362). -/

namespace Sys2Proof.Machine

namespace State

/-! Function Level Reset (R360) -/

/-- The drawer's running job is taken off its benches, without a completion. -/
def dropJob (s : State) (d : Nat) : State :=
  let s0 := { s with cmp := { s.cmp with checked := s.cmp.checked.filter (·.fid != d) } }
  match s0.job d with
  | some j => (j.map.foldl (fun st b => if (st.bench b).ended then st else st.park b) s0).clearJob d j
  | none => s0

/-- Transfers of the function's COPYs and of its drawer's job are discarded. -/
def dropMoves (s : State) (f : Nat) : State :=
  let mine (x : Nat) : Bool := x == f || x == 128 + f
  { s with fab := { s.fab with
      copies := s.fab.copies.filter fun c => !mine c.fid, xfers := s.fab.xfers.filter fun x => !mine x.origin.fid,
      waiting := s.fab.waiting.filter fun x => !mine x.origin.fid, held := s.fab.held.filter fun h => !mine h.op.fid,
      orderings := s.fab.orderings.filter (·.fid != f) } }

/-- Every QP of the drawer passes to RESET, its entries discarded (R254). -/
def dropQps (s : State) (d : Nat) : State :=
  (s.qpsOf d).foldl (fun st n => (st.setQp n { st.qp n with reqs := [] }).resetQp n) s

/-- Page moves of the drawer finish the page they are copying; what must wait for P0 stays. -/
def settleMoves (s : State) (d : Nat) : State :=
  (s.mem.moves.filter (·.drawer == d)).foldl
    (fun st m => match st.finishMove m with
      | some (t, 0) => t
      | some (t, _) => (match t.findEntry d m.entry with
        | some e => t.scramblePieces d (t.moveRest d e m.evict)
        | none => t.scramblePieces d ((t.movePiece m).toList))
      | none => st) s

def movesLeft (s : State) (d : Nat) : Bool := s.mem.moves.any (·.drawer == d)

/-- The effects of FLR on a function and its drawer (R360). -/
def flrEffects (s : State) (f : Nat) : State :=
  let s1 := (List.range 32).foldl (fun st q => if st.obj (rawObj q) 2 = 128 + f then st.dropRaw q else st) (s.settleMoves f)
  let s2 := ((s1.dropJob f).dropMoves f).dropQps f
  let s3 := (List.range 16).foldl (fun st k => st.setSlot f k none) s2
  let s4 := { s3 with
    cmp := { s3.cmp with waits := s3.cmp.waits.filter (·.fid != f), views := s3.cmp.views.filter (·.fid != f) },
    clu := { s3.clu with ios := s3.clu.ios.filter (·.fid != f) },
    hands := { s3.hands with tables := s3.hands.tables.filter fun t => match t.2 with
      | some c => c.fid != f
      | none => true } }
  let s5 := (s4.mem.regions.filter fun r => r.2.valid && r.2.owner == f).foldl (fun st r => st.invalidateRegion r.1) s4
  let s6 := (s5.setWindows f []).renewDrawer f
  let s7 := s6.setFn f { Fn.reset (s6.fn f).vectors with flrAt := if s6.movesLeft f then some s6.now else none }
  let s8 := (List.range 9).foldl (fun st k => st.setCtr (fnCtr f) k 0) s7
  if f = 0 then
    { s8 with led := { s8.led with mbBase := 0, mbDone := 0, mbIntEn := false, mbBusy := false, mbError := false } }
  else s8

/-- FLR of a function; of a wedged one it has no effect (R361). -/
def flr (s : State) (f : Nat) : State := if (s.fn f).wedged then s else s.flrEffects f

/-- The chunks that a RECYCLE could not take while their page moves had to finish (R373). -/
def releaseDrained (s : State) (d : Nat) : State :=
  let mine (c : Nat) : Bool := s.mem.draining.contains c && s.mem.owner.num c == 128 + d
  { s with mem := { s.mem with owner := s.mem.owner.filter fun c => !mine c.1, draining := s.mem.draining.filter fun c => !mine c } }

/-- The page moves that an FLR waited for have finished. -/
def flrSettle (s : State) (f : Nat) : State :=
  match (s.fn f).flrAt with
  | some _ =>
    if (s.fn f).wedged then s
    else
      let s1 := s.settleMoves f
      if s1.movesLeft f then s1 else (s1.setFn f { s1.fn f with flrAt := none }).releaseDrained f
  | none => s

/-! Ordering reads (R159) -/

/-- What a responder has placed for the message whose LAST packet has this PSN: undefined once its ordering read has failed (R159). -/
def scrambleMessage (s : State) (n psn : Nat) : State :=
  match s.hrt.placed.find? fun x => x.qp == n && !x.requester && x.psn == psn with
  | some y => s.scramblePieces ((s.qp n).owner.getD 0)
      ((s.hrt.placed.filter fun x => x.qp == n && !x.requester && x.msg == y.msg).flatMap (·.pieces))
  | none => s

/-- A message's ordering read at a responder has completed. -/
def messageOrdered (s : State) (id n psn : Nat) (ok : Bool) : State :=
  let q := s.qp n
  if !(q.effects.any fun e => e.psn == psn && e.asked == some id) then s
  else if ok then
    ((s.setQp n { q with effects := q.effects.map fun e => if e.psn == psn then { e with ordered := true } else e }).advanceQp n).settleHands
  else (((s.scrambleMessage n psn).setQp n { q with effects := q.effects.filter (·.psn != psn) }).fatalNak n 0x23 psn).settleHands

/-- An ordering read of the executing FLUSH has completed (R289); one of an earlier life of the QP changes nothing. -/
def flushOrdered (s : State) (id n psn : Nat) (ok : Bool) : State :=
  let q := s.qp n
  if !q.flushReads.contains id then s
  else if ok then s.setQp n { q with flushReads := q.flushReads.erase id }
  else ((s.setQp n { q with busy := none, flushReads := [] }).fatalNak n 0x23 psn).settleHands

/-- What waited for an ordering read goes on, or ends with DATA_PARITY. -/
def orderingDone (s : State) (r : OrderingRead) (ok : Bool) : State :=
  let s0 := { s with fab := { s.fab with orderings := s.fab.orderings.filter (·.id != r.id) } }
  let s1 := if ok then s0 else s0.raiseSource 7
  match r.why with
  | .copy f i =>
    (match s1.findEntry f i with
    | some e =>
      if ok then (s1.addHubPeg e.sigPeg 1).completeIdx f i 0 []
      else s1.copyFailed f i 0x0B (s1.copyDest f e)
    | none => s1)
  | .pegAdd f i =>
    (match s1.findEntry f i with
    | some e =>
      if !ok then s1.complete f e 0x0B (leBytes 2 (e.u16 0x0A))
      else if e.left ≤ 1 then s1.pegAdded f e
      else s1.setEntry f { e with left := e.left - 1 }
    | none => s1)
  | .send d w h => if ok then (s1.addHubPeg h 1).workDone d w 0 else s1.workDone d w 0x0B
  | .message n psn => s1.messageOrdered r.id n psn ok
  | .flush n psn => s1.flushOrdered r.id n psn ok
  | .nvme f i => s1.nvmeOrdered f i ok
  | .count _ h => if ok then s1.addHubPeg h 1 else s1

/-! Completion Timeouts (R330, R339, R362) -/

/-- Opcodes of entries that read or write over PCIe themselves. -/
def usesPcie : List Nat := [0x02, 0x18, 0x28, 0x29, 0x30, 0x31, 0x38, 0x39, 0x3B, 0x48]

/-- An entry's own request has timed out: DATA_PARITY, with what its failure leaves. -/
def timeoutEntry (s : State) (f : Nat) (e : Entry) : State :=
  let s1 := s.raiseSource 7
  let at_ := e.u64 0x10 + e.step
  let moving := e.opcode = 0x28 ∨ (e.opcode = 0x29 ∧ e.u8 8 = 5)
  let s2 := if moving then { s1 with mem := { s1.mem with moves := s1.mem.moves.filter fun m => !(m.drawer == f && m.base == at_) } } else s1
  let s3 := if e.opcode = 0x30 then s2.setSlot f (e.u8 8) none else s2
  if e.opcode = 0x02 then s3.copyFailed f e.idx 0x0B (s3.copyDest f e)
  else if moving then s3.moveFails f e (e.opcode == 0x29) 0x0B at_
  else s3.complete f e 0x0B (s3.earlyResult e)

/-- Some of the pieces lie behind a PCIe port. -/
def overBus (ps : List Piece) : Bool := !(busPieces ps).isEmpty

/-- An entry that has begun reads its own buffer over PCIe: a SEND or WRITE that still has packets to build, a hand, or an NVME_IO that
writes. What its failure is, where it has one. -/
def timeoutBusy (s : State) (f idx : Nat) : Option State :=
  let t := s.raiseSource 7
  let req := s.hrt.qps.findSome? fun kv =>
    if kv.2.owner = some f then
      (kv.2.reqs.zipIdx.find? fun x => x.1.origin == .entry idx && (x.1.op == 1 || x.1.op == 2) && x.1.status.isNone &&
        decide (x.1.sent < x.1.count) && overBus x.1.pieces).map fun x => (kv.1, x.2, x.1)
    else none
  let hand := (List.range 64).find? fun k => match s.table k with
    | some c => c.fid == f && (match c.running with
      | some h => h.entry == idx && overBus h.src
      | none => false)
    | none => false
  match req, hand, s.findIo f idx with
  | some (n, i, r), _, _ => some (t.buildFails n i r 0x0B)
  | none, some k, _ => some (t.failHand k 0x0B (match s.table k with
    | some c => c.deal.rank
    | none => 0xFFFF))
  | none, none, some i => if i.op = 1 ∧ overBus i.pieces then some (t.failIo i 0x0B (State.NvmeIo.oldest i)) else none
  | none, none, none => none

/-- The read of a READ_REQ over PCIe, held at ePSN or first for its pipeline, ends in a Completion Timeout: NAK_PARITY (R133, R269). -/
def timeoutServed (s : State) (n : Nat) : State :=
  let bus (t : State) (p : HrtPkt) : Bool := overBus (t.keyPieces p p.len false).1
  let q := s.qp n
  match q.held.find? fun p => p.op == 3 && p.psn == q.ePsn % 2 ^ 24 with
  | some p => if bus s p then ((s.raiseSource 7).fatalNak n 0x23 q.ePsn).settleHands else s
  | none =>
    s.receive (fun p => p.op == 3 && p.destQpn == n) fun x k t =>
      if x.pkt.psn = k.ePsn % 2 ^ 24 ∧ bus t x.pkt = true then some ((t.raiseSource 7).fatalNak n 0x23 k.ePsn) else none

end State

/-! The commands -/

def execFlr (fid : Nat) (s : State) : Host.Outcome State Fault Refusal := s.live (s.flr fid)

/-- Discarding has not finished 100 ms after the FLR request: the function is wedged (R361). -/
def execFlrWedgeTimeout (fid : Nat) (s : State) : Host.Outcome State Fault Refusal :=
  s.live (match (s.fn fid).flrAt with
    | some t =>
      if t + 100000000000 ≤ s.now ∧ !(s.fn fid).wedged then (s.setFn fid { s.fn fid with wedged := true }).newCauses 14 1 true else s
    | none => s)

def execOrderingReadComplete (id : Nat) (success : Bool) (s : State) : Host.Outcome State Fault Refusal :=
  s.live (match s.fab.orderings.find? (·.id == id) with
    | some r => s.orderingDone r success
    | none => s)

/-- A request of the device ends in a Completion Timeout: of a function's entry, the fetch of the index at WR_CONS, the ordering read
that the entry waits for, or the entry's own access; or, with fid 128, which is no function, a read that QP `idx` makes to
serve a READ_REQ. Poisoned data takes the same way (R330; log 130). -/
def execCompletionTimeout (fid idx : Nat) (s : State) : Host.Outcome State Fault Refusal :=
  let mine (r : OrderingRead) : Bool := match r.why with
    | .copy f i | .pegAdd f i | .nvme f i => f == fid && i == idx
    | _ => false
  s.live (if fid = 128 then s.timeoutServed idx
    else if idx = (s.fn fid).wrCons ∧ s.nextServed = some fid then s.failedFetch fid
    else match s.fab.orderings.find? mine with
      | some r => s.orderingDone r false
      | none => match (s.findEntry fid idx).map (·.stage == .ready), s.timeoutBusy fid idx with
        | some false, some t => t.settleHands
        | _, _ => s.runEntry fid idx State.usesPcie fun e t => t.timeoutEntry fid e)

/-- VF Enable is set: the VFs come up with the vectors that the ledger allots (R331, R363). Until Stage 1 a configuration request to PF0 gets
CRS (R492). Where it was set already, software has cleared
it before: the VFs that it ended have met FLR's effects (DESIGN CHOICE, log 131). -/
def execVfEnable (numVfs : Nat) (s : State) : Host.Outcome State Fault Refusal :=
  s.live (if 127 < numVfs ∨ !s.ring.p0.up ∨ s.level = 0 then s
    else
      let s0 := if s.ring.vfEnable then (List.range s.ring.numVfs).foldl (fun t k => t.flr (k + 1)) s else s
      let s1 := { s0 with ring := { s0.ring with vfEnable := true, numVfs := numVfs } }
      let vectors (k : Nat) : Nat := (nth 0 (s.blob 0x2402 1) (k + 1)).toNat
      (List.range numVfs).foldl (fun t k =>
        t.setFn (k + 1) (if s.ring.vfEnable then { t.fn (k + 1) with vectors := vectors k } else Fn.reset (vectors k))) s1)

end Sys2Proof.Machine
end

