-- ==== Sys2Proof/Machine/Drawers.lean ====
section
/-! DEFINITION. Machine/Drawers.lean: "Drawers, isolation and migration": chunks and benches changing hands (R368, R369), stopping,
starting and recycling a drawer (R370 to R373), and migration (R377 to R382). -/

namespace Sys2Proof.Machine

namespace State

/-! Chunks (R368) -/

/-- A byte range of device memory that a piece names. -/
def devMeets (base len : Nat) (p : Piece) : Bool :=
  match p with
  | .dev a n => overlaps a n base len
  | _ => false

/-- An access into device memory that has been admitted and not finished (R126, step 4). -/
def admittedDev (s : State) (base len : Nat) : Bool := s.inFlight [.dev base len]

/-- A drawer migrates: a command is BUSY, or its writes are being logged. -/
def migrating (s : State) (d : Nat) : Bool := s.obj 0x23C0 2 d == 1 || s.obj 0x23C0 9 d != 0

/-- Page moves of a drawer whose source or destination lies in a chunk. -/
def chunkMoves (s : State) (d c : Nat) : List PageMove :=
  s.mem.moves.filter fun m => m.drawer == d &&
    (m.dst :: m.src).any (devMeets (chunkBase c) (2 ^ 21))

/-- A window of the drawer maps the chunk, or a hand or an NVME_IO holds a page of it (R217, R368). -/
def chunkHeld (s : State) (d c : Nat) : Bool :=
  ((s.windows d).any fun w => w.leaves.any fun l => !pteHost l && chunkOf (dpaOffset (pteDpa l)) == c) ||
  s.handHolds d [.dev (chunkBase c) (2 ^ 21)]

/-- How a chunk command takes one chunk. -/
inductive ChunkStep where
  | done (s : State)
  | fail (reason : Nat)
  | wait (s : State)

/-- Steps 1 to 6 of R368 for one chunk, and R126 where it is assigned. -/
def chunkStep (s : State) (c target : Nat) : ChunkStep :=
  let own := s.mem.owner.num c
  let want := if 128 ≤ target then target else 0
  if reservedChunk c then .fail 1
  else if own = want then (if want = 0 ∧ s.admittedDev (chunkBase c) (2 ^ 21) then .wait s else .done s)
  else if own ≠ 0 ∧ want ≠ 0 then .fail 2
  else if own ≠ 0 ∧ s.chunkHeld (own % 128) c then .fail 3
  else if (own ≠ 0 ∧ s.migrating (own % 128)) ∨ (want ≠ 0 ∧ s.migrating (want % 128)) then .fail 4
  else if want ≠ 0 then
    let t := s.setDev (s.mem.dev.zeroFill (chunkBase c) (2 ^ 21))
    .done ({ t with mem := { t.mem with owner := t.mem.owner.setNum c want } }.count (0x5300 + c / 24576) 4 1)
  else
    let d := own % 128
    let t := (s.chunkMoves d c).foldl settleMove s
    if t.chunkMoves d c ≠ [] then .wait t
    else
      let u := { t with mem := { t.mem with owner := t.mem.owner.setNum c 0 } }.dropChunk d c
      if u.admittedDev (chunkBase c) (2 ^ 21) then .wait u else .done u

/-- The command goes on from its next chunk. -/
def chunkLoop (s : State) (first count target : Nat) : Nat → State
  | 0 => { s.setObj 0x2301 5 0 2 with led := { (s.setObj 0x2301 5 0 2).led with chunkRun := none } }
  | n + 1 =>
    match s.chunkStep (first + (count - (n + 1))) target with
    | .done t => chunkLoop (t.setObj 0x2301 6 0 (count - n)) first count target n
    | .wait t => t
    | .fail r =>
      let t := (s.setObj 0x2301 5 0 3).setObj 0x2301 7 0 r
      { t with led := { t.led with chunkRun := none } }

/-- A chunk command in progress goes on. -/
def chunkResume (s : State) : State :=
  match s.led.chunkRun with
  | some (first, count, target) => s.chunkLoop first count target (count - s.obj 0x2301 6)
  | none => s

/-- A write of 1 to CHUNK_GO; none where it is rejected (R368). -/
def chunkGo (s : State) : Option State :=
  let first := s.obj 0x2301 1
  let count := s.obj 0x2301 2
  if s.obj 0x2301 5 = 1 ∨ 196608 < first + count then none
  else
    let t := ((s.setObj 0x2301 5 0 1).setObj 0x2301 6 0 0).setObj 0x2301 7 0 0
    some { t with led := { t.led with chunkRun := some (first, count, s.obj 0x2301 3) } }.chunkResume

/-! Benches (R369) -/

/-- A bench's new owner byte. -/
def benchByte (s : State) (b v : Nat) : State :=
  let pend := s.cmp.ownerDue.find? (·.1 == b)
  let rest := s.cmp.ownerDue.filter (·.1 != b)
  let due (l : List (Nat × Nat)) : State := { s with cmp := { s.cmp with ownerDue := l } }
  if v = s.benchOwner b then (if pend.isSome then due rest else s)
  else if pend.isSome ∨ (s.bench b).job.isSome then (if pend = some (b, v) then s else due (rest ++ [(b, v)]))
  else s.giveBench b v

/-- A write of BENCH_OWNER, bench by bench. -/
def benchOwners (s : State) (bs : List Byte) : State := (bs.zipIdx).foldl (fun st (v, b) => st.benchByte b v.toNat) s

/-! Stopping and starting (R370 to R372) -/

/-- Entries that a stop ends before they begin: RUN_JOB, LOAD_JOB and HAND_START. -/
def stopEntries (s : State) (d : Nat) : State :=
  let v := s.fn d
  let waiting := v.entries.filter fun e => e.stage = .ready
  let s1 := s.setFn d { v with entries := v.entries.map fun e =>
    if e.stage = .ready ∧ e.opcode ∈ [0x30, 0x31, 0x3B] then { e with stopped := true } else e }
  let s2 := (waiting.filter fun e => e.opcode == 0x30 && !e.malformed).foldl (fun t e => t.setSlot d (e.u8 8) none) s1
  let s3 := (waiting.filter fun e => e.opcode == 0x31 && mayStart v e).foldl (fun t e => t.completeIdx d e.idx 0x11 e.plainResult) s2
  s3.settle d

/-- Jobs that have passed their checks and wait for dispatch complete with DRAWER_STOPPED. -/
def stopChecked (s : State) (d : Nat) : State :=
  (s.cmp.checked.filter (·.fid == d)).foldl
    (fun st j => ({ st with cmp := { st.cmp with checked := st.cmp.checked.erase j } }).completeIdx d j.entry 0x11 (jobResult j)) s

/-- Pending PEG_SET waits of a drawer complete with DRAWER_STOPPED (R166). -/
def stopWaits (s : State) (d : Nat) : State :=
  (s.cmp.waits.filter (·.fid == d)).foldl
    (fun st w => ({ st with cmp := { st.cmp with waits := st.cmp.waits.erase w } }).completeIdx d w.entry 0x11 (leBytes 2 w.peg)) s

/-- Tables dealt to a drawer. -/
def tablesOf (s : State) (d : Nat) : List Nat :=
  (s.hands.tables.filter fun t => match t.2 with
    | some c => c.fid == d
    | none => false).map (·.1)

/-- Every HAND_START of the drawer acts under R235: the running hands, the queued ones, and those fetched that no table has taken yet. -/
def stopAllHands (s : State) (d : Nat) : State :=
  (s.tablesOf d).foldl
    (fun st t => (st.queueHands d t ((st.fn d).entries.filter fun e => e.stage = .ready && e.opcode == 0x3B && e.u8 8 == t)).stopHands t 0x11) s

/-- A QP of a stopped drawer: its entries complete with DRAWER_STOPPED, the ABORTs of its hands leave at once, and it enters ERROR
(R235, R370; log 127). -/
def stopQp (s : State) (n : Nat) : State :=
  let q := s.qp n
  let aborts := q.reqs.filter fun r => r.op == 9 && r.sent == 0
  let s1 := (q.reqs.filter fun r => !(r.op == 9 && r.sent == 0)).foldl
    (fun st r => st.endReq n q.owner r ((reqDone q r).getD 0x11)) (s.setQp n { q with reqs := aborts })
  let s2 := if q.state = .rts then (List.range aborts.length).foldl (fun st _ => st.sendNew n) s1 else s1
  s2.qpErrorAll n 0x11

/-- The effects of STOP (R370). -/
def stopEffects (s : State) (d : Nat) : State :=
  let s1 := (((s.setObj 0x2300 1 d 1).failJob d 0x11 0xFFFF 0xFFFFFFFF).stopChecked d).stopAllHands d
  let s2 := ((s1.stopEntries d).stopWaits d)
  ((s2.qpsOf d).filter fun n => (s2.qp n).state != .error).foldl (fun st n => st.stopQp n) s2

/-- STOP; none where it is rejected. -/
def drawerStop (s : State) (d : Nat) : Option State := if d = 0 ∨ 127 < d ∨ s.drawerState d ≠ 0 then none else some (s.stopEffects d)

/-- Nothing that a stopping drawer fetched is left, and no placement made for it is in flight (R370). -/
def drawerQuiet (s : State) (d : Nat) : Bool :=
  let mine (x : Nat) : Bool := x == d || x == 128 + d
  (s.fn d).entries.isEmpty && (s.job d).isNone && (s.cmp.checked.all (·.fid != d)) && (s.fab.copies.all fun c => !mine c.fid) &&
  (s.fab.xfers.all fun x => !mine x.origin.fid) && (s.fab.waiting.all fun x => !mine x.origin.fid) &&
  (s.fab.held.all fun h => !mine h.op.fid) && (s.fab.orderings.all fun o => !mine o.fid) && (s.mem.moves.all (·.drawer != d)) &&
  (s.clu.ios.all (·.fid != d)) && (s.mem.p0Held.all (·.fid != d))

/-- START; none where it is rejected (R372). -/
def drawerStart (s : State) (d : Nat) : Option State :=
  if d = 0 ∨ 127 < d ∨ s.drawerState d ≠ 2 then none else some (s.setObj 0x2300 1 d 0)

/-! Recycling (R373) -/

/-- A session closes: its transfers and snapshots go with it (R444, R447). -/
def closeSession (s : State) (k : Nat) : State :=
  let t := s.setSession k none
  { t with led := { t.led with domains := t.led.domains.filter (·.session != k), snapshots := t.led.snapshots.filter (·.session != k) } }

/-- Every session of a credential closes (R441). -/
def closeCredential (s : State) (c : Nat) : State :=
  (List.range 17).foldl (fun st k => match st.session k with
    | some ss => if ss.credential = c then st.closeSession k else st
    | none => st) s

/-- A credential's secret, SET or EMPTY (R441). -/
def setSecret (s : State) (c : Nat) (v : Option (List Byte)) : State :=
  let t := (s.setObj (0x2D10 + c) 4 0 (bnat v.isSome)).markFlash (0x2D10 + c) 3 0
  { t with led := { t.led with secrets := Sparse.set (fun _ => none) t.led.secrets c v } }

/-- The credentials of Tenants of a drawer are revoked (R441). -/
def revoke (s : State) (d : Nat) : State :=
  (List.range 32).foldl
    (fun st c => if st.obj (0x2D10 + c) 1 = 3 ∧ st.obj (0x2D10 + c) 2 = d then ((st.putObj (0x2D10 + c) 1 0 0).setSecret c none).closeCredential c
      else st) s

/-- Every numeric and byte object of a record returns to its default for one drawer. -/
def clearRecord (s : State) (idx d : Nat) : State :=
  let keep (k : Nat) : Bool := !(k / 16777216 == idx && k % 65536 == d)
  { s with led := { s.led with vals := s.led.vals.keep keep, blobs := s.led.blobs.keep keep } }

/-- The resources of R365 are released (R373, step 3). A chunk of a page move that must still finish stays until it has (R360, R368). -/
def releaseAll (s : State) (d : Nat) : State :=
  let left : Sparse Nat := s.mem.owner.filter fun c => c.2 == 128 + d && !(s.chunkMoves d c.1).isEmpty
  let s1 := { s with mem := { s.mem with
    owner := s.mem.owner.filter fun c => c.2 != 128 + d || !(s.chunkMoves d c.1).isEmpty,
    draining := s.mem.draining ++ left.keys } }
  let s2 := (List.range 512).foldl (fun st b => if st.benchOwner b = 128 + d then st.giveBench b 0 else st) s1
  let s3 := { s2 with cmp := { s2.cmp with ownerDue := s2.cmp.ownerDue.map fun (b, v) => if v = 128 + d then (b, 0) else (b, v) } }
  let s4 := (List.range 64).foldl (fun st n => if st.obj 0x2340 (n + 1) = 128 + d then st.setPegBlock n 0 else st) s3
  let s5 := ((s4.emptySlots d).clearRecord 0x2B01 d)
  let s6 := { s5 with cipher := { s5.cipher with keks := s5.cipher.keks.keep (· != d) } }
  let s7 := (List.range 64).foldl (fun st a => st.clearRecord (0x2B40 + a) d) s6
  (List.range 7).foldl (fun st k => st.setObj 0x2300 (k + 3) d 0) s7

/-- Shares that name a drawer, and accept windows and connections whose DRAWER it is, are cleared. -/
def unshare (s : State) (d : Nat) : State :=
  let s1 := (List.range 64).foldl
    (fun st n => if st.obj (0x2820 + n) 2 = d then st.setObj (0x2820 + n) 1 0 0 else st) s
  let s2 := (List.range 64).foldl
    (fun st i => if st.obj (0x2360 + i) 2 = d ∨ st.obj (0x2360 + i) 3 = d then
        (List.range 5).foldl (fun u k => u.setObj (0x2360 + i) (k + 1) 0 0) st else st) s1
  (List.range 64).foldl
    (fun st c => if st.obj (connObj c) 1 = 128 + d then (st.disconnect c).setObj (connObj c) 1 0 d else st) s2

/-- A migration command in progress ends (R378). -/
def migEnd (s : State) (d status : Nat) : State :=
  (s.setObj 0x23C0 2 d (if status = 0 then 2 else 3)).setObj 0x23C0 3 d status

/-- RECYCLE; none where it is rejected (R373, R484). -/
def recycle (s : State) (d : Nat) : Option State :=
  if d = 0 ∨ 127 < d ∨ (s.fn d).wedged then none
  else
    let s1 := (s.stopEffects d).flrEffects d
    let s2 := s1.releaseAll d
    let s3 := ((s2.clearRecord 0x2320 d).clearRecord 0x2810 d).unshare d
    let s4 := if s3.obj 0x23C0 2 d = 1 then s3.migEnd d 0x11 else s3
    let s5 := { s4 with led := { s4.led with ctrs := s4.led.ctrs.keep fun k => k / 16777216 != fnCtr d } }
    some ((s5.revoke d).setObj 0x2300 1 d 2)

/-! Migration (R377 to R382) -/

/-- The chunks that a drawer holds in a stack, in ascending module chunk number. -/
def chunksIn (s : State) (d k : Nat) : List Nat := (s.mem.owner.filter fun c => c.2 == 128 + d && c.1 / 24576 == k).map (·.1)

/-- The chunks of a drawer in the order of R379. -/
def imageChunks (s : State) (d : Nat) : List Nat := (List.range 8).flatMap (s.chunksIn d)

/-- The blocks of hub pegs that a drawer owns, in ascending number. -/
def pegBlocks (s : State) (d : Nat) : List Nat := (List.range 64).filter fun n => s.obj 0x2340 (n + 1) == 128 + d

/-- The attribute block of R253 as SAVE writes it. -/
def attrBlock (a : QpAttr) : List Byte :=
  leBytes 4 a.destQpn ++ leBytes 1 a.remoteInc ++ leBytes 1 a.remoteEpoch ++ leBytes 1 a.port ++ leBytes 1 a.payload ++
  padTo 16 a.srcIp ++ padTo 16 a.dstIp ++ padTo 6 a.dstMac ++ [0, 0] ++ leBytes 2 a.vlanOuter ++ leBytes 2 a.vlanInner ++
  leBytes 1 a.tags ++ leBytes 1 a.dscp ++ [0, 0] ++ leBytes 4 a.sqPsn ++ leBytes 4 a.rqPsn ++ leBytes 2 a.paths ++ leBytes 2 a.entropy ++
  leBytes 4 a.rtoBase ++ leBytes 1 a.retryLimit ++ leBytes 1 a.coalesce ++ leBytes 2 a.ackDelay ++ leBytes 1 a.maxReads ++
  leBytes 1 a.maxAtomics ++ leBytes 2 a.sa ++ leBytes 1 a.recvLoc ++ leBytes 1 a.recvLog ++ [0, 0] ++ leBytes 4 a.recvSize ++
  leBytes 8 a.recvBase ++ leBytes 4 a.remoteSlots ++ List.replicate 28 0

/-- The blob of R382, its CRC field included. -/
def migBlob (s : State) (d : Nat) : List Byte :=
  let regs := s.mem.regions.filter fun r => r.2.valid && r.2.owner == d
  let qps := s.qpsOf d
  let pegs := s.pegBlocks d
  let n := 80 + 32 * regs.length + 144 * qps.length + 264 * pegs.length
  let head := leBytes 4 0x53444B51 ++ leBytes 2 1 ++ leBytes 1 d ++ leBytes 1 s.moduleId ++
    ((List.range 8).flatMap fun k => leBytes 4 (s.chunksIn d k).length) ++ leBytes 4 regs.length ++ leBytes 4 qps.length ++
    leBytes 2 pegs.length ++ [0, 0] ++ leBytes 4 n ++ leBytes 4 0
  let body := leBytes 8 (s.obj 0x2320 3 d) ++ leBytes 4 (s.obj 0x2320 2 d) ++ leBytes 1 (s.obj 0x2320 1 d) ++ [0, 0, 0] ++
    (regs.flatMap fun r => leBytes 4 r.1 ++ leBytes 1 r.2.generation ++ leBytes 1 (if r.2.kind = .bus then 0 else 1) ++
      leBytes 1 r.2.port ++ leBytes 1 r.2.rights ++ leBytes 8 r.2.base ++ leBytes 8 r.2.length ++ List.replicate 8 0) ++
    (qps.flatMap fun q => leBytes 4 q ++ leBytes 4 0 ++ leBytes 4 ((s.qp q).next % 2 ^ 24) ++ leBytes 4 ((s.qp q).ePsn % 2 ^ 24) ++
      attrBlock (s.qp q).attr) ++
    (pegs.zipIdx.flatMap fun (b, i) => leBytes 1 i ++ List.replicate 7 0 ++ (List.range 64).flatMap fun k => leBytes 4 (s.hubPeg (64 * b + k)))
  head ++ leBytes 4 (crc32c (head ++ [0, 0, 0, 0] ++ body)) ++ body

/-- The blob is well formed (R382). -/
def blobOk (b : List Byte) : Bool :=
  leAt b 0 4 == 0x53444B51 && leAt b 4 2 == 1 && leAt b 0x34 4 == b.length &&
  b.length == 80 + 32 * leAt b 0x28 4 + 144 * leAt b 0x2C 4 + 264 * leAt b 0x30 2 &&
  leAt b 0x3C 4 == crc32c (overlay b 0x3C [0, 0, 0, 0])

/-- The records of a blob. -/
def blobRegions (b : List Byte) : List (List Byte) := (List.range (leAt b 0x28 4)).map fun i => slice b (80 + 32 * i) 32
def blobQps (b : List Byte) : List (List Byte) :=
  (List.range (leAt b 0x2C 4)).map fun i => slice b (80 + 32 * leAt b 0x28 4 + 144 * i) 144
def blobPegs (b : List Byte) : List (List Byte) :=
  (List.range (leAt b 0x30 2)).map fun i => slice b (80 + 32 * leAt b 0x28 4 + 144 * leAt b 0x2C 4 + 264 * i) 264

/-- The drawer holds, in every stack, the chunk count that a blob records. -/
def countsMatch (s : State) (d : Nat) (b : List Byte) : Bool :=
  (List.range 8).all fun k => leAt b (8 + 4 * k) 4 == (s.chunksIn d k).length

/-- The conditions of RESTORE beside the blob's form (R382). -/
def restoreOk (s : State) (d : Nat) (b : List Byte) : Bool :=
  let q0 := s.obj 0x2300 4 d
  s.countsMatch d b &&
  ((blobRegions b).all fun r => decide (leAt r 0 4 < 262144) && !(s.region (leAt r 0 4)).valid) &&
  decide (leAt b 0x28 4 ≤ s.obj 0x2300 6 d) &&
  ((blobQps b).all fun q => decide (q0 ≤ leAt q 0 4) && decide (leAt q 0 4 < q0 + s.obj 0x2300 5 d) && (s.qp (leAt q 0 4)).state == .reset) &&
  decide (leAt b 0x30 2 ≤ (s.pegBlocks d).length)

/-- RESTORE's effects. A QP names its saved SA where that one may be named here (R382, R418; log 84). -/
def restore (s : State) (d : Nat) (b : List Byte) : State :=
  let s1 := (((s.setObj 0x2320 3 d (leAt b 0x40 8)).setObj 0x2320 2 d (leAt b 0x48 4)).setObj 0x2320 1 d (leAt b 0x4C 1)).renewDrawer d
  let s2 := (blobRegions b).foldl
    (fun st r => st.setRegion (leAt r 0 4)
      ⟨true, d, leAt r 4 1, if leAt r 5 1 = 0 then .bus else .dva, leAt r 6 1, leAt r 8 8, leAt r 16 8, leAt r 7 1⟩) s1
  let s3 := (blobQps b).foldl
    (fun st q =>
      let n := leAt q 0 4
      let o := st.qp n
      let a := attrApply (QpAttr.default n) (slice q 16 128) 0x1FEFF
      ((st.nameSa d n 0 a.sa).getD st).setQp n { Qp.reset n o.incarnation o.quarantine with
        state := .init, owner := some d, attr := { a with rqPsn := leAt q 12 4 % 2 ^ 24 }, replies := o.replies }) s2
  (((blobPegs b).zip (s3.pegBlocks d)).foldl
    (fun st (p, n) => (List.range 64).foldl (fun u k => u.setHubPeg (64 * n + k) (leAt p (8 + 4 * k) 4)) st) s3)

/-- RESTORE waits for the quarantine of R255 of every QP that it would move to INIT. -/
def restoreRun (s : State) (d : Nat) : State :=
  let b := s.blob 0x23C0 0x0D d
  if !blobOk b then s.migEnd d 0x0E
  else if !s.restoreOk d b then s.migEnd d 0x12
  else if (blobQps b).any fun q => decide (s.now < (s.qp (leAt q 0 4)).quarantine) then s
  else (s.restore d b).migEnd d 0

/-- A granule of 64 KiB has been written since LOG_START. -/
def isDirty (s : State) (off : Nat) : Bool := s.mem.dirty.num (granuleOf off) == 1

/-- COPY_OUT of the granules from g on of image chunk i, module chunk c (R379): the status, the bits set and the state. -/
def outGranules (s : State) (d c i base : Nat) (only : Bool) (ps : List Piece) : Nat → Nat → Nat → Nat × Nat × State
  | 0, _, word => (0, word, s)
  | n + 1, g, word =>
    let off := chunkBase c + 65536 * g
    if only && !s.isDirty off then outGranules s d c i base only ps n (g + 1) word
    else
      let s1 := { s with mem := { s.mem with dirty := if only then s.mem.dirty.setNum (granuleOf off) 0 else s.mem.dirty } }
      match s1.readPieces [.dev off 65536] with
      | (none, s2) => (0x0B, word, s2)
      | (some bs, s2) =>
        let s3 := s2.writePieces 0 (subPieces ps (2 ^ 21 * i + 65536 * g) 65536) bs
        outGranules (s3.setObj 0x23C0 0x0C d (s3.obj 0x23C0 0x0C d + 65536)) d c i base only ps n (g + 1) (word + 2 ^ g)

/-- COPY_OUT chunk by chunk; each chunk's word of the bitmap follows its granules. -/
def outChunks (s : State) (d total : Nat) (only : Bool) (ps : List Piece) : List (Nat × Nat) → Nat × State
  | [] => (0, s)
  | (c, i) :: r =>
    match s.outGranules d c i 0 only ps 32 0 0 with
    | (0, word, s1) => outChunks (s1.writePieces 0 (subPieces ps (2 ^ 21 * total + 4 * i) 4) (leBytes 4 word)) d total only ps r
    | (st, _, s1) => (st, s1)

/-- COPY_IN of the granules from g on. -/
def inGranules (s : State) (d c i word : Nat) (ps : List Piece) : Nat → Nat → Nat × State
  | 0, _ => (0, s)
  | n + 1, g =>
    if !bit word g then inGranules s d c i word ps n (g + 1)
    else match s.readPieces (subPieces ps (2 ^ 21 * i + 65536 * g) 65536) with
      | (none, s1) => (0x0B, s1)
      | (some bs, s1) =>
        let s2 := s1.devWrite (chunkBase c + 65536 * g) bs
        inGranules (s2.setObj 0x23C0 0x0C d (s2.obj 0x23C0 0x0C d + 65536)) d c i word ps n (g + 1)

/-- COPY_IN chunk by chunk. -/
def inChunks (s : State) (d total : Nat) (only : Bool) (ps : List Piece) : List (Nat × Nat) → Nat × State
  | [] => (0, s)
  | (c, i) :: r =>
    match (if only then s.readPieces (subPieces ps (2 ^ 21 * total + 4 * i) 4) else (some (leBytes 4 0xFFFFFFFF), s)) with
    | (none, s1) => (0x0B, s1)
    | (some w, s1) =>
      match s1.inGranules d c i (ofLe w) ps 32 0 with
      | (0, s2) => inChunks s2 d total only ps r
      | (st, s2) => (st, s2)

/-- COPY_OUT and COPY_IN (R379); a copy that must wait for P0 or for a page of the staging region leaves the command BUSY. -/
def copyRun (s : State) (d : Nat) (out : Bool) : State :=
  let cs := s.imageChunks d
  let only := s.obj 0x23C0 5 d == 1
  let n := cs.length
  let st := s.obj 0x23C0 4 d
  let blob := s.blob 0x23C0 0x0B d
  if !out && blob != [] && !s.countsMatch d blob then s.migEnd d 0x12
  else match s.resolveRegion 0 (st / 2 ^ 40) (st % 2 ^ 40) (2 ^ 21 * n + (if out || only then 4 * n else 0)) out false with
    | (.wait, s1) => s.waitForMove 0 (512 + d) s1
    | (.fail e, s1) => s1.migEnd d e
    | (.ok ps, s1) =>
      if !s1.piecesReady ps ∨ cs.any (fun c => (s1.stack (stackOf (chunkBase c))).lost) then s
      else if out && ps.any (fun p => match p with
          | .bus port _ _ => !s1.busOk port
          | _ => false) then s1.migEnd d 0x0B
      else
        let s2 := s1.setObj 0x23C0 0x0C d 0
        let r := if out then s2.outChunks d n only ps cs.zipIdx else s2.inChunks d n only ps cs.zipIdx
        r.2.migEnd d r.1

/-- The condition of a migration command (R378). -/
def migAllowed (s : State) (d cmd : Nat) : Bool :=
  let stopped := s.drawerState d == 2
  let log := s.obj 0x23C0 9 d != 0
  if cmd = 1 then stopped && (log || (decide ((s.imageChunks d).length ≤ 8192) && decide ((s.qpsOf d).length ≤ 256)))
  else if cmd = 2 then stopped && s.blob 0x23C0 0x0D d != []
  else if cmd = 3 then stopped || log
  else if cmd = 4 then stopped
  else if cmd = 5 then !log
  else log

/-- The effect of a migration command, or what is left of one that is BUSY. -/
def migRun (s : State) (d cmd : Nat) : State :=
  if cmd = 1 then ((s.setBlob 0x23C0 0x0B d (s.migBlob d)).setBlob 0x23C0 0x0D d (s.migBlob d)).migEnd d 0
  else if cmd = 2 then s.restoreRun d
  else if cmd = 3 then s.copyRun d true
  else if cmd = 4 then s.copyRun d false
  else if cmd = 5 then
    let gs := (s.imageChunks d)
    ({ s with mem := { s.mem with dirty := s.mem.dirty.keep fun g => !gs.contains (g / 32) } }.setObj 0x23C0 9 d 1).migEnd d 0
  else if cmd = 6 then (s.setObj 0x23C0 9 d (3 - s.obj 0x23C0 9 d)).migEnd d 0
  else (s.setObj 0x23C0 9 d 0).migEnd d 0

/-- A write of MIG_COMMAND; none where it is rejected (R377). The command in progress stays in MIG_COMMAND, which no one reads. -/
def migWrite (s : State) (d cmd : Nat) : Option State :=
  if d = 0 ∨ 127 < d ∨ cmd = 0 ∨ 7 < cmd ∨ s.obj 0x23C0 2 d = 1 then none
  else if !s.migAllowed d cmd then some (s.migEnd d 0x12)
  else some (((s.setObj 0x23C0 2 d 1).setObj 0x23C0 1 d cmd).migRun d cmd)

/-- The command as it is given, or, while it is BUSY, as it goes on. -/
def migCommand (s : State) (d cmd : Nat) : State :=
  if s.obj 0x23C0 2 d = 1 then (if s.obj 0x23C0 1 d = cmd then s.migRun d cmd else s) else (s.migWrite d cmd).getD s

end State

/-! The commands -/

def execDrawerStop (drawer : Nat) (s : State) : Host.Outcome State Fault Refusal := s.liveLedger ((s.drawerStop drawer).getD s)

def execDrawerStoppedReached (drawer : Nat) (s : State) : Host.Outcome State Fault Refusal :=
  s.live (if s.drawerState drawer = 1 ∧ s.drawerQuiet drawer then s.setObj 0x2300 1 drawer 2 else s)

def execDrawerStart (drawer : Nat) (s : State) : Host.Outcome State Fault Refusal := s.liveLedger ((s.drawerStart drawer).getD s)

def execRecycle (drawer : Nat) (s : State) : Host.Outcome State Fault Refusal := s.liveLedger ((s.recycle drawer).getD s)

/-- A write of 1 to CHUNK_GO; while a command is BUSY, its next step. -/
def execChunkGo (s : State) : Host.Outcome State Fault Refusal :=
  s.liveLedger (if s.led.chunkRun.isSome then s.chunkResume else (s.chunkGo).getD s)

def execBenchOwnerWrite (bytes : List Byte) (s : State) : Host.Outcome State Fault Refusal :=
  s.liveLedger (if bytes.length = 512 then s.benchOwners bytes else s)

def execMigSave (drawer : Nat) (s : State) : Host.Outcome State Fault Refusal := s.liveLedger (s.migCommand drawer 1)
def execMigRestore (drawer : Nat) (s : State) : Host.Outcome State Fault Refusal := s.liveLedger (s.migCommand drawer 2)
def execMigCopyOut (drawer : Nat) (s : State) : Host.Outcome State Fault Refusal := s.liveLedger (s.migCommand drawer 3)
def execMigCopyIn (drawer : Nat) (s : State) : Host.Outcome State Fault Refusal := s.liveLedger (s.migCommand drawer 4)
def execMigLogStart (drawer : Nat) (s : State) : Host.Outcome State Fault Refusal := s.liveLedger (s.migCommand drawer 5)
def execMigLogSwap (drawer : Nat) (s : State) : Host.Outcome State Fault Refusal := s.liveLedger (s.migCommand drawer 6)
def execMigLogStop (drawer : Nat) (s : State) : Host.Outcome State Fault Refusal := s.liveLedger (s.migCommand drawer 7)

end Sys2Proof.Machine
end

