-- ==== Sys2Proof/Machine/Faults.lean ====
section
/-! DEFINITION. Machine/Faults.lean: "Faults, the scorecard and resets": events, windows and severity, clearing, injection and
the causes of a full reset, with the heartbeat watchdog of R451. -/

namespace Sys2Proof.Machine

/-- The order in which causes of one tick are recorded (R482). -/
def ResetCause.rank : ResetCause → Nat
  | .perst0 => 0
  | .p0LinkLoss => 1
  | .scorecard => 2
  | .watchdog => 3
  | .command => 4
  | .powerUp => 5

/-- The condition sources of R471. -/
def conditionSource (src : Nat) : Bool :=
  src == 1 || src == 2 || src == 3 || src == 8 || src == 9 || src == 13 || src == 14 || (decide (16 ≤ src) && decide (src < 24))

/-- A mask with the bits of another set, and with them cleared. -/
def maskOr (a b : Nat) : Nat := a ||| b
def maskClear (a b : Nat) : Nat := a ^^^ (a &&& b)

namespace State

/-! Causes of a full reset (R480, R482) -/

/-- A cause of a full reset has come: it merges into a reset that is under way. -/
def resetCause (s : State) (c : ResetCause) : State :=
  if s.flt.inReset then s
  else match s.flt.resetDue with
    | none => { s with flt := { s.flt with resetDue := some (c, s.now) } }
    | some (o, t) =>
      if t / 10000 = s.tick ∧ c.rank < o.rank then { s with flt := { s.flt with resetDue := some (c, t) } } else s

/-! Windows and severity (R473, R474) -/

/-- The tick at which a source's present run of windows began: its own, or that of the last reset. -/
def runBegan (s : State) (src : Nat) : Nat := if s.flt.runStart.num src = 0 then s.flt.runStart.num 64 else s.flt.runStart.num src - 1

/-- The window of a source that a tick belongs to. -/
def windowOf (s : State) (src : Nat) : Nat := (s.tick - s.runBegan src) / s.obj (sourceIndex src) 2

/-- A new run of windows begins at this tick, with WINDOW_EVENTS 0. -/
def newRun (s : State) (src : Nat) : State :=
  let t := s.setCtr (sourceIndex src) 4 0
  { t with flt := { t.flt with runStart := t.flt.runStart.setNum src (t.tick + 1), lastWindow := t.flt.lastWindow.setNum src 0 } }

/-- WINDOW_EVENTS as a read finds it: 0 once the window of the last event has ended. -/
def windowEvents (s : State) (src : Nat) : Nat :=
  if s.windowOf src = s.flt.lastWindow.num src then s.ctr (sourceIndex src) 4 else 0

/-- The passage to severe: the actions of R475, each with those above it. -/
def goSevere (s : State) (src : Nat) : State :=
  let a := s.obj (sourceIndex src) 3
  let s1 := { s with flt := { s.flt with severe := maskOr s.flt.severe (2 ^ src) } }
  let s2 := if 1 ≤ a then
      s1.raiseDevice 9 src ([BitVec.ofNat 8 src] ++ List.replicate 7 0 ++ leBytes 8 s1.flt.scorecard ++ List.replicate 8 0) else s1
  let s3 := if 2 ≤ a then { s2 with flt := { s2.flt with faulting := maskOr s2.flt.faulting (2 ^ src) } } else s2
  if 3 ≤ a then s3.resetCause .scorecard else s3

/-- An event of a source (R469, R473, R474). -/
def scoreEvent (s : State) (src : Nat) : State :=
  let w := s.windowOf src
  let n := min ((if w = s.flt.lastWindow.num src then s.ctr (sourceIndex src) 4 else 0) + 1) 255
  let s1 := ((s.setCtr (sourceIndex src) 4 n).count (sourceIndex src) 5 1).setCtr (sourceIndex src) 7 s.deviceTime
  let s2 := { s1 with flt := { s1.flt with
    scorecard := maskOr s1.flt.scorecard (2 ^ src), lastWindow := s1.flt.lastWindow.setNum src w } }
  if n = s.obj (sourceIndex src) 1 ∧ !bit s2.flt.severe src then s2.goSevere src else s2

/-- The collector runs: main rails are up and ROOT is locked (R469). -/
def collecting (s : State) : Bool := s.pw.mainUp && s.pw.rootLocked

/-- A line stays asserted after it has been sampled: its condition holds, or a block still responds to its error (R470). -/
def staysUp (s : State) (src : Nat) (l : FaultLine) : Bool := if conditionSource src then !l.pulse else s.responding src

/-- The collector samples a line that has risen, once at a tick. A line that does not stay up falls, and is then held (R470). -/
def sampleLine (s : State) (src : Nat) : State :=
  let l := s.line src
  if !l.up ∨ l.sampled ∨ l.downAt = s.tick + 1 then s
  else (s.setLine src (if s.staysUp src l then { l with sampled := true } else l.fallen)).scoreEvent src

/-- One source's line at one tick: a hold ends, a response that is over has let the line fall, or the line is sampled. -/
def tickLine (s : State) (src : Nat) : State :=
  let l := s.line src
  if l.hold then s.setLine src ⟨l.again, false, false, false, l.again && l.pulse, s.tick + 1⟩
  else if l.up ∧ l.sampled ∧ !s.staysUp src l then s.setLine src { FaultLine.down with downAt := s.tick + 1 }
  else s.sampleLine src

/-- R477's return, one tick after a clear, of the sources whose lines are still asserted. -/
def returnCleared (s : State) : State :=
  let still (m : Nat) : Nat := (List.range 24).foldl (fun a k => if bit m k ∧ (s.line k).up ∧ (s.line k).sampled then a + 2 ^ k else a) 0
  let sev := still s.flt.clearedSevere
  { s with flt := { s.flt with scorecard := maskOr s.flt.scorecard (still s.flt.cleared), severe := maskOr s.flt.severe sev,
                                faulting := maskOr s.flt.faulting (still s.flt.clearedFaulting), cleared := 0, clearedSevere := 0,
                                clearedFaulting := 0 } }

/-- The collector's work at one tick. -/
def tickFaults (s : State) : State := if s.collecting then (List.range 24).foldl tickLine s.returnCleared else s

/-- A write of SCORECARD_CLEAR (R477). -/
def scorecardClear (s : State) (mask : Nat) : State :=
  let m := s.flt.scorecard &&& mask
  let s1 := { s with flt := { s.flt with
    scorecard := maskClear s.flt.scorecard m, severe := maskClear s.flt.severe m, faulting := maskClear s.flt.faulting m,
    cleared := maskOr s.flt.cleared m, clearedSevere := maskOr s.flt.clearedSevere (s.flt.severe &&& m),
    clearedFaulting := maskOr s.flt.clearedFaulting (s.flt.faulting &&& m) } }
  (List.range 64).foldl (fun st k => if bit m k then st.newRun k else st) s1

/-- FAULT_N is asserted (R476). -/
def faultPin (s : State) : Bool := s.flt.faulting != 0 || s.flt.bootFault

/-- ALERT_N is asserted (R329, R476): for a standby wake until PERST0_N rises, and outside standby while SEVERE is not 0. -/
def alertPin (s : State) : Bool := s.pw.auxOk && (s.flt.wakeAlert || (s.pw.mainUp && s.flt.severe != 0))

/-! Injection (R478) -/

/-- A write of INJECT_GO with 1; none outside factory test mode, where the record does not exist. -/
def injectStart (s : State) : Option State :=
  if !s.pw.testmode then none
  else some { s with flt := { s.flt with
    injection := some ⟨s.obj 0x7F00 1, s.obj 0x7F00 2, s.obj 0x7F00 3, s.tick + 1⟩ } }

def injectStop (s : State) : State := { s with flt := { s.flt with injection := none } }

/-- A line rises for one tick: it merges, waits out a hold, or is asserted (R470, R478). -/
def pulseLine (s : State) (src : Nat) : State :=
  let l := s.line src
  if l.up then s.count (sourceIndex src) 6 1
  else if l.hold then (if l.again then s.count (sourceIndex src) 6 1 else s.setLine src { l with again := true, pulse := conditionSource src })
  else s.setLine src { l with up := true, pulse := conditionSource src }

/-- One rise of an injection, once its tick has come: it is sampled at that tick unless the line has just been sampled deasserted, and
falls after it. Test mode goes on through a reset that the rise causes (R478). -/
def injectRise (s : State) (i : Injection) : State :=
  let s1 := { s with flt := { s.flt with
    injection := if i.left ≤ 1 then none else some { i with left := i.left - 1, next := i.next + i.interval } } }
  if 24 ≤ i.source then s1
  else
    let l := s1.line i.source
    let t := s1.pulseLine i.source
    let u := if l.up ∨ l.hold then t else t.sampleLine i.source
    { u with pw := { u.pw with testKept := u.pw.testKept || (s.flt.resetDue.isNone && u.flt.resetDue.isSome) } }

/-! The heartbeat watchdog (R451) -/

/-- The action of an expiry. -/
def watchdogAct (s : State) : State :=
  if s.obj 0x2D01 3 = 1 then (List.range 127).foldl (fun st k => (st.drawerStop (k + 1)).getD st) s
  else if s.obj 0x2D01 3 = 2 then s.resetCause .watchdog else s

/-- The watchdog expires at the tick that ends its interval. -/
def watchdogTick (s : State) : State :=
  match s.led.watchdog with
  | .armed t =>
    if t ≤ s.now then ((({ s with led := { s.led with watchdog := .expired } }).raiseSource 15).count 0x5900 6 1).watchdogAct else s
  | _ => s

/-- A write of HEARTBEAT, after an expiry that falls no later. -/
def heartbeatWrite (s : State) (v : Nat) : State :=
  let s1 := (s.watchdogTick).setObj 0x2D01 1 0 v
  if s.obj 0x2D01 2 = 0 then s1
  else { s1 with led := { s1.led with watchdog := .armed (s1.now + s1.obj 0x2D01 2 * 1000000000) } }

end State

/-! The commands -/

/-- The collector samples a source's line that has risen. What raises the lines of a regulator fault (source 2), of a kitty cell (5) and of
another hub path (6) is no other step of the model: the step itself raises them (log 101). -/
def execScorecardEvent (source : Nat) (s : State) : Host.Outcome State Fault Refusal :=
  let t := if source = 5 ∨ source = 6 then s.raiseSource source else if source = 2 ∧ !(s.line 2).up then s.pulseLine 2 else s
  s.live (if source < 24 ∧ s.collecting then (if (t.line source).hold then t else t.sampleLine source) else s)

def execScorecardClear (mask : Nat) (s : State) : Host.Outcome State Fault Refusal := s.liveLedger (s.scorecardClear mask)

def execInjectStart (s : State) : Host.Outcome State Fault Refusal := s.liveLedger ((s.injectStart).getD s)

def execInjectStop (s : State) : Host.Outcome State Fault Refusal := s.liveLedger (if s.pw.testmode then s.injectStop else s)

def execInjectEvent (s : State) : Host.Outcome State Fault Refusal :=
  s.live (match s.flt.injection with
    | some i => if s.collecting ∧ i.next ≤ s.tick then s.injectRise i else s
    | none => s)

def execWatchdogExpiry (s : State) : Host.Outcome State Fault Refusal := s.live s.watchdogTick

end Sys2Proof.Machine
end

