-- ==== Sys2Proof/Machine/P384.lean ====
section
/-! DEFINITION. Machine/P384.lean: the NIST curve P-384, as R412 (key agreement), R425 (manifest signatures) and R429
(attestation signatures) use it: points in Jacobian coordinates, ECDH, and ECDSA. -/

namespace Sys2Proof.Machine.P384

def p : Nat := 2 ^ 384 - 2 ^ 128 - 2 ^ 96 + 2 ^ 32 - 1
def b : Nat := 0xB3312FA7E23EE7E4988E056BE3F82D19181D9C6EFE8141120314088F5013875AC656398D8A2ED19D2A85C8EDD3EC2AEF
def n : Nat := (2 ^ 192 - 1) * 2 ^ 192 + 0xC7634D81F4372DDF581A0DB248B0A77AECEC196ACCC52973
def gx : Nat := 0xAA87CA22BE8B05378EB1C71EF320AD746E1D3B628BA79B9859F741E082542A385502F25DBF55296C3A545E3872760AB7
def gy : Nat := 0x3617DE4A96262C6F5D9E98BF9292DC29F8F41DBD289A147CE9DA3113B5F0B8C00A60B1CE1D7E819D7A431D7C90EA0E5F

/-- x^e modulo m, by the low k bits of e from the highest. -/
def powMod (m x e : Nat) : Nat → Nat
  | 0 => 1 % m
  | k + 1 =>
    let r := powMod m x (e / 2) k
    let q := r * r % m
    if e % 2 = 1 then q * x % m else q

/-- Inverse modulo a prime m. -/
def invMod (m x : Nat) : Nat := powMod m x (m - 2) 384

/-- Subtraction modulo p. -/
def sub (x y : Nat) : Nat := (x + (p - y % p)) % p

/-- A point in Jacobian coordinates; z = 0 is the point at infinity. -/
structure Pt where
  x : Nat
  y : Nat
  z : Nat
  deriving DecidableEq, Repr

def Pt.inf : Pt := ⟨1, 1, 0⟩

def Pt.dbl (q : Pt) : Pt :=
  if q.z = 0 ∨ q.y = 0 then Pt.inf
  else
    let d := q.z * q.z % p
    let g := q.y * q.y % p
    let be := q.x * g % p
    let al := 3 * (sub q.x d) * ((q.x + d) % p) % p
    let x3 := sub (al * al) (8 * be)
    let z3 := 2 * q.y * q.z % p
    let y3 := sub (al * sub (4 * be) x3) (8 * g * g)
    ⟨x3, y3, z3⟩

def Pt.add (q r : Pt) : Pt :=
  if q.z = 0 then r
  else if r.z = 0 then q
  else
    let z1 := q.z * q.z % p
    let z2 := r.z * r.z % p
    let u1 := q.x * z2 % p
    let u2 := r.x * z1 % p
    let s1 := q.y * r.z * z2 % p
    let s2 := r.y * q.z * z1 % p
    if u1 = u2 then (if s1 = s2 then q.dbl else Pt.inf)
    else
      let h := sub u2 u1
      let t := sub s2 s1
      let h2 := h * h % p
      let h3 := h * h2 % p
      let v := u1 * h2 % p
      let x3 := sub (t * t) (h3 + 2 * v)
      let y3 := sub (t * sub v x3) (s1 * h3)
      ⟨x3, y3, h * q.z * r.z % p⟩

/-- k times a point, by the low bits of k from the highest. -/
def Pt.mul (q : Pt) (k : Nat) : Nat → Pt
  | 0 => Pt.inf
  | f + 1 =>
    let h := (Pt.mul q (k / 2) f).dbl
    if k % 2 = 1 then h.add q else h

/-- The affine coordinates. -/
def Pt.affine (q : Pt) : Nat × Nat :=
  let i := invMod p q.z
  (q.x * i * i % p, q.y * i * i * i % p)

def g : Pt := ⟨gx, gy, 1⟩

/-- (x, y) lies on the curve. -/
def onCurve (x y : Nat) : Bool := x < p && y < p && y * y % p == (x * x * x + (p - 3) * x + b) % p

/-- The uncompressed form: 0x04, X, Y (R412). -/
def encode (q : Pt) : List Byte :=
  let a := q.affine
  (4 : Byte) :: (beBytes 48 a.1 ++ beBytes 48 a.2)

def decode (bs : List Byte) : Option Pt :=
  let x := beAt bs 1 48
  let y := beAt bs 49 48
  if bs.length = 97 ∧ bs.take 1 = [4] ∧ onCurve x y then some ⟨x, y, 1⟩ else none

/-- A private key of 48 bytes, reduced to 1 … n − 1. -/
def privKey (bs : List Byte) : Nat := ofBe bs % (n - 1) + 1

/-- The public key of a private one. -/
def pubKey (d : Nat) : List Byte := encode (g.mul d 384)

/-- Z: the x-coordinate of the shared point. -/
def ecdh (d : Nat) (q : Pt) : List Byte := beBytes 48 (q.mul d 384).affine.1

/-- ECDSA over a 48-byte digest with per-signature secret k: r then s. -/
def sign (d k : Nat) (digest : List Byte) : List Byte :=
  let r := (g.mul k 384).affine.1 % n
  let s := invMod n k * ((ofBe digest + r * d) % n) % n
  beBytes 48 r ++ beBytes 48 s

/-- The signature r, s over a digest verifies under a public key. -/
def verify (q : Pt) (digest sig : List Byte) : Bool :=
  let r := beAt sig 0 48
  let s := beAt sig 48 48
  let w := invMod n s
  let u := (g.mul (ofBe digest * w % n) 384).add (q.mul (r * w % n) 384)
  1 ≤ r && r < n && 1 ≤ s && s < n && u.z != 0 && u.affine.1 % n == r

end Sys2Proof.Machine.P384
end

