-- ==== Sys2Proof/Machine/Trust.lean ====
section
/-! DEFINITION. Machine/Trust.lean: "Cipher engine, keys and device trust": loading KEKs and keys (R411 to R413), the boot chain and
its fallback (R425, R426), the fused version (R427), firmware updates (R428) and attestation reports (R429, R430). -/

namespace Sys2Proof.Machine

/-- ASCII labels of the derivations of this chapter. -/
def labelKek : List Byte := [0x51, 0x4B, 0x45, 0x4B]
def labelKid : List Byte := [0x51, 0x4B, 0x49, 0x44]

namespace State

/-! KEKs and key slots -/

/-- The drawer's KEK is gone, or none has been accepted, after so many unwraps that failed (R431). -/
def kekFailed (s : State) (d unwraps : Nat) : State :=
  let t := ((s.setObj 0x2B01 2 d 2).setBlob 0x2B01 3 d (List.replicate 8 0)).count 0x5800 5 unwraps
  { t with cipher := { t.cipher with keks := t.cipher.keks.keep (· != d) } }

/-- A write of KEK_LOAD (R412). -/
def kekLoad (s : State) (d : Nat) (blob : List Byte) : State :=
  let s0 := s.emptySlots d
  let pub := blob.take 97
  match P384.decode pub with
  | none => s0.kekFailed d 0
  | some q =>
    let s1 := s0.countUnwrap (blob.drop 97)
    let z := P384.ecdh (P384.privKey s1.cipher.exchange) q
    let t := (sha384 (labelKek ++ z ++ s1.blob 0x2B00 2 ++ pub ++ [BitVec.ofNat 8 d])).take 32
    match Aes.unwrapKey t (blob.drop 97) 32 with
    | none => s1.kekFailed d 1
    | some kek =>
      let s2 := (s1.setObj 0x2B01 2 d 1).setBlob 0x2B01 3 d ((sha384 (labelKid ++ kek)).take 8)
      { s2 with cipher := { s2.cipher with keks := Sparse.set (fun _ => []) s2.cipher.keks d kek } }

/-- The slot belongs to a bound association (R418). -/
def slotBound (s : State) (d k : Nat) : Bool :=
  (List.range 64).any fun a => s.obj (0x2B40 + a) 3 d == 2 && (s.obj (0x2B40 + a) 1 d == k || s.obj (0x2B40 + a) 2 d == k)

/-- The 92 bytes of KEY_WRITE are well formed (R413). -/
def keyBlobOk (b : List Byte) : Bool :=
  let n := leAt b 5 1
  b.length == 92 && slice b 2 2 == [0, 0] && slice b 6 6 == List.replicate 6 0 &&
  ((leAt b 4 1 == 1 && n == 24) || (leAt b 4 1 == 2 && n == 40) || (leAt b 4 1 == 3 && n == 72)) && (b.drop (20 + n)).all (· == 0)

/-- A write of KEY_WRITE; none where it is rejected. -/
def keyWrite (s : State) (d : Nat) (b : List Byte) : Option State :=
  let k := leAt b 0 2
  if !keyBlobOk b ∨ s.obj 0x2300 9 d ≤ k ∨ s.obj 0x2B01 2 d ≠ 1 ∨ s.slotBound d k then none
  else
    some ((s.emptySlot d k).setKeySlot d k ⟨leAt b 4 1, slice b 20 (leAt b 5 1), 1, slice b 12 8⟩)

/-- A write of KEY_CLEAR; none where it is rejected. -/
def keyClear (s : State) (d k : Nat) : Option State :=
  if s.obj 0x2300 9 d ≤ k ∨ s.slotBound d k then none else some (s.emptySlot d k)

/-- KEY_STATE and KEY_IDS of a drawer (R416). -/
def keyStates (s : State) (d : Nat) : List Byte :=
  (List.range (s.obj 0x2300 9 d)).map fun k => BitVec.ofNat 8 ((s.keySlot d k).type * 16 + (s.keySlot d k).state)

def keyIds (s : State) (d : Nat) : List Byte := (List.range (s.obj 0x2300 9 d)).flatMap fun k => padTo 8 (s.keySlot d k).id

/-- A fresh exchange key at a reset (R412). -/
def newExchange (s : State) : State :=
  let r := s.randomBytes 48
  let t := r.2.setBlob 0x2B00 2 0 (P384.pubKey (P384.privKey r.1))
  { t with cipher := { t.cipher with exchange := r.1 } }

/-! The boot chain (R425, R426) -/

/-- The image in a bank. -/
def bank (s : State) (b : Nat) : List Byte := Sparse.get Config.factoryImage s.cipher.banks b

/-- The security version of an image's manifest: one byte, as every object and field that reports it (R428, R429). -/
def imageSvn (img : List Byte) : Nat := Config.manifestSvn img % 256

/-- The checks of R425 on an image: the index of the root key that signed it. -/
def checkImage (s : State) (img : List Byte) : Option Nat :=
  let key := Config.manifestKey img
  match firstBelow 4 (fun k => Config.rootDigest k == sha384 key), P384.decode key with
  | some k, some q =>
    if !bit s.cipher.revoked k ∧ P384.verify q (sha384 (Config.manifest img)) (Config.manifestSignature img) = true ∧
      s.cipher.fusedSvn ≤ imageSvn img ∧
      (List.range 4).all (fun c => sha384 (Config.component img c) == Config.componentDigest img c) = true then some k else none
  | _, _ => none

/-- The result of a check of bank A or B, kept for BOOT_BANK (R428). -/
def noteBank (s : State) (b : Nat) (ok : Bool) : State :=
  { s with cipher := { s.cipher with bankOk := s.cipher.bankOk.setNum b (bnat ok) } }

/-- The image of a bank starts to run: its measurements, its version and its components' versions are in force. -/
def runBank (s : State) (b k : Nat) : State :=
  let img := s.bank b
  let v (c : Nat) : Nat := Config.componentVersion img c % 2 ^ 32
  let s1 := (s.setObj 0x2B08 2 0 b).setObj 0x2B08 6 0 (imageSvn img)
  let s2 := (List.range 4).foldl (fun st c => st.setObj 0x1001 (c + 2) 0 (v c)) s1
  let s3 := (s2.setBlob 0x1001 6 0 ((Config.releaseName img).take 32)).setObj 0x2C00 2 0 (v 1)
  { s3 with
    cipher := { s3.cipher with running := some b, rootKey := k,
                               measured := sha384 (Config.manifest img) ++ (List.range 4).flatMap fun c => padTo 48 (Config.componentDigest img c) },
    flt := { s3.flt with bootFault := false },
    pw := { s3.pw with booted := true, bootStuck := false } }

/-- The banks are tried in turn; each fallback counts under source 0. -/
def bootFrom (s : State) : List Nat → State
  | [] => { s with flt := { s.flt with bootFault := true }, pw := { s.pw with bootStuck := true } }
  | b :: rest =>
    match s.checkImage (s.bank b) with
    | some k => (s.noteBank b true).runBank b k
    | none => bootFrom (if rest = [] then s.noteBank b false else (s.noteBank b false).raiseSource 0) rest

/-- The boot ROM's checks: the bank of BOOT_BANK, the other one, and the recovery image. -/
def boot (s : State) : State := s.bootFrom [s.obj 0x2B08 1, 1 - s.obj 0x2B08 1, 2]

/-- The recovery firmware runs (R426). -/
def recovery (s : State) : Bool := s.cipher.running == some 2

/-- A whole write of FW_IMAGE (R428). -/
def firmwareWritten (s : State) (img : List Byte) : State :=
  let b := 1 - s.obj 0x2B08 1
  let s1 := { s with cipher := { s.cipher with banks := Sparse.set Config.factoryImage s.cipher.banks b img } }
  match s1.checkImage img with
  | some _ => (s1.noteBank b true).setObj 0x2B08 4 0 2
  | none => (s1.noteBank b false).setObj 0x2B08 4 0 3

/-- A write of SVN_COMMIT; none where it is rejected (R427). The blowing is over when the write is answered. -/
def svnCommit (s : State) (v : Nat) : Option State :=
  if v ≤ s.cipher.fusedSvn ∨ s.obj 0x2B08 6 < v then none
  else some ({ s with cipher := { s.cipher with fusedSvn := v } }.setObj 0x2B08 8 0 2)

/-! Attestation (R429, R430) -/

/-- The identity key, or the factory test key in factory test mode. -/
def signingKey (s : State) : Nat := P384.privKey (if s.pw.testmode then Config.testKey else Config.identityKey)

def identityPublic : List Byte := P384.pubKey (P384.privKey Config.identityKey)

/-- The bytes 0x000–0x1AF of a report. -/
def reportBody (s : State) (d : Nat) : List Byte :=
  [0x51, 0x4B, 0x41, 0x52] ++ leBytes 2 1 ++ leBytes 2 528 ++
  leBytes 4 (bnat s.pw.testmode + 2 * bnat s.recovery + 4 * bnat (s.cipher.running == some 1)) ++
  leBytes 1 s.cipher.fusedSvn ++ leBytes 1 (s.obj 0x2B08 6) ++ leBytes 1 s.cipher.rootKey ++ [5] ++
  padTo 16 (s.blob 0x1000 6) ++ leBytes 8 (s.obj 0x2001 3) ++ leBytes 8 s.deviceTime ++ padTo 32 (s.blob 0x2B09 1 d) ++
  padTo 97 (s.blob 0x2B00 2) ++ leBytes 1 d ++ List.replicate 14 0 ++ padTo 240 s.cipher.measured

/-- A report, formed and signed at its read. -/
def report (s : State) (d : Nat) : List Byte × State :=
  let body := s.reportBody d
  let r := s.randomBytes 48
  (body ++ P384.sign s.signingKey (P384.privKey r.1) (sha384 body), r.2)

end State

/-! The commands -/

def execKekLoad (drawer : Nat) (blob : List Byte) (s : State) : Host.Outcome State Fault Refusal :=
  s.liveLedger (if drawer < 128 ∧ blob.length = 137 then s.kekLoad drawer blob else s)

def execKeyWrite (drawer : Nat) (blob : List Byte) (s : State) : Host.Outcome State Fault Refusal :=
  s.liveLedger (if drawer < 128 then (s.keyWrite drawer blob).getD s else s)

def execKeyClear (drawer slot : Nat) (s : State) : Host.Outcome State Fault Refusal :=
  s.liveLedger (if drawer < 128 then (s.keyClear drawer slot).getD s else s)

def execSvnCommit (value : Nat) (s : State) : Host.Outcome State Fault Refusal := s.liveLedger ((s.svnCommit value).getD s)

end Sys2Proof.Machine
end

