-- ==== Sys2Proof/Machine/Clocks.lean ====
section
/-! DEFINITION. Machine/Clocks.lean: the device time counter (R462, R488) and the pulses PPS_OUT and PPS_IN (R489, R519). -/

namespace Sys2Proof.Machine

namespace State

/-- The time service of the cluster steers the counter: an Owner's write of TIME_STEP and FREQ_ADJ is rejected (R462). -/
def timeServiceRuns (s : State) : Bool := s.obj 0x2C01 1 == 1 && bit (s.obj 0x2C00 3) 1

/-- A write of TIME_STEP; none where it is rejected. It is added to the integer part at the next tick, with any other of the
same tick. -/
def timeStep (s : State) (v : Int) : Option State :=
  let sum := s.pw.stepDue.getD 0 + v
  if s.timeServiceRuns ∨ (s.deviceTime : Int) + sum < 0 then none
  else some { s with pw := { s.pw with stepDue := some sum } }

/-- The counter after one tick: 10 ns and FREQ_ADJ, and a step's integer part. -/
def timeAfter (s : State) : Nat :=
  let adj := signed 32 (s.obj 0x2600 3)
  (((s.pw.time : Int) + 10 * 2 ^ 32 + adj + s.pw.stepDue.getD 0 * 2 ^ 32).toNat) % 2 ^ 96

/-- The time service steers the counter while it runs: what its servo writes to FREQ_ADJ and TIME_STEP are free values in their ranges
(R388, R462; log 71). -/
def steerTime (s : State) : State :=
  if !s.timeServiceRuns then s
  else
    let a := s.freeNat 32
    let b := a.2.freeNat 64
    let adj : Int := (a.1 % (2 ^ 27 + 1) : Nat) - 2 ^ 26
    let t := b.2.setObj 0x2600 3 0 (adj % 2 ^ 32).toNat
    let step := signed 64 b.1
    if (t.deviceTime : Int) + step < 0 then t else { t with pw := { t.pw with stepDue := some step } }

/-- The counter advances by one tick, steered. PPS_OUT must rise where the integer part reaches or passes a multiple of 10^9. -/
def tickTime (u : State) : State :=
  let s := u.steerTime
  let t := s.timeAfter
  let crossed := (t / 2 ^ 32) / 1000000000 != s.deviceTime / 1000000000
  { s with pw := { s.pw with time := t, stepDue := none, ppsDue := s.pw.ppsDue || (crossed && s.obj 0x2600 4 == 1) } }

/-- PPS_OUT is high. -/
def ppsOutHigh (s : State) : Bool :=
  match s.pw.ppsOutUntil with
  | some t => decide (s.now < t)
  | none => false

/-- PPS_OUT rises, for 1,000,000 ticks. -/
def ppsOut (s : State) : State :=
  if s.pw.ppsDue then { s with pw := { s.pw with ppsDue := false, ppsOutUntil := some (s.now + 10000000000) } } else s

/-- A rising edge on PPS_IN is first seen. -/
def ppsIn (s : State) : State :=
  let early := match s.pw.ppsInAt with
    | some t => decide (s.now < t + 100000000000)
    | none => false
  if s.obj 0x2600 5 ≠ 1 ∨ early = true then s
  else
    let t := s.setObj 0x2600 6 0 (s.deviceTime - 20)
    { t with pw := { t.pw with ppsInAt := some t.now } }

end State

/-! The commands -/

/-- TIME_STEP's operand is the 64-bit field of an I64. -/
def execTimeStep (value : Nat) (s : State) : Host.Outcome State Fault Refusal := s.liveLedger ((s.timeStep (signed 64 value)).getD s)

def execPpsOutPulse (s : State) : Host.Outcome State Fault Refusal := s.live s.ppsOut

def execPpsInEdge (s : State) : Host.Outcome State Fault Refusal := s.live s.ppsIn

end Sys2Proof.Machine
end

