-- ==== Sys2Proof/Machine/Objects.lean ====
section
/-! DEFINITION. Machine/Objects.lean: what a read of a ledger object returns (R433, R453 to R468): stored values as they stand, and
the values that the device forms from its state. Figures that the manual gives no rule for are free values. -/

namespace Sys2Proof.Machine

/-- Bytes of a scalar type; none for the others (R433). -/
def ObjType.width : ObjType → Option Nat
  | .bool => some 1
  | .unsigned n => some n
  | .int n => some n
  | _ => none

namespace State

/-- STACK_STATE (R464). -/
def stackState (s : State) (k : Nat) : Nat :=
  let v := s.stack k
  if !v.up then 0 else if v.trimFailed then 5 else if v.clock = .mhz1600 then 4 else if v.trimmed then 3 else 1

/-- A share is in force (R376). -/
def shareActive (s : State) (i : Nat) : Bool :=
  let o := 0x2360 + i
  let g := s.region (s.obj o 1)
  s.obj o 4 == 1 && s.obj o 5 == 1 && g.valid && s.obj o 2 == g.owner

/-- A field of the table record (R203). -/
def tableField (s : State) (t sub : Nat) : Nat :=
  match s.table t with
  | none => if sub = 10 then 0xFFFF else 0
  | some c =>
    if sub = 1 then (if c.running.isSome then 2 else 1)
    else if sub = 2 then 128 + c.fid
    else if sub = 3 then c.deal.key
    else if sub = 4 then c.deal.count
    else if sub = 5 then c.deal.rank
    else if sub = 6 then c.deal.groups
    else if sub = 7 then c.seq
    else if sub = 8 then c.cells
    else if sub = 9 then c.lastStatus
    else c.lastFailed

/-- A field of the QP record (R463); one without meaning in the QP's state reads 0. -/
def qpField (s : State) (n sub : Nat) : Nat :=
  let q := s.qp n
  let rts := q.state = .rts
  if sub = 1 then q.state.code
  else if sub = 2 then (match q.owner with
    | some d => 128 + d
    | none => 0)
  else if sub = 3 then q.incarnation
  else if sub = 6 then (if rts ∨ q.state = .rtr ∨ q.state = .error then q.ePsn % 2 ^ 24 else 0)
  else if !rts then 0
  else if sub = 4 then q.next % 2 ^ 24
  else if sub = 5 then q.una % 2 ^ 24
  else if sub = 7 then q.retries
  else if sub = 8 then q.timeout
  else if sub = 9 then s.qpRate q
  else if sub = 10 then q.rung
  else if sub = 11 then q.pressure
  else if q.stall.isSome then 1 else if q.waitUntil.isSome then 2 else 0

/-- A rail's voltage or current (R458, R498). -/
def railField (s : State) (r : Nat) (cur : Bool) : Nat × State :=
  if !s.pw.sampled then s.freeNat 32
  else (if s.pw.railMisses.num r ≠ 0 then 0xFFFFFFFF else if cur then s.pw.railMa.num r else s.pw.railMv.num r, s)

/-- POWER_NOW: the sum over the eight rails (R498). -/
def powerNow (s : State) : Nat := ((List.range 8).map fun r => s.pw.railMv.num r * s.pw.railMa.num r).sum / 1000

/-- The PCIe link record (R363). -/
def pcieField (l : PcieLink) (sub : Nat) : Nat :=
  if !l.up then 0 else if sub = 1 then 1 else if sub = 2 then l.speed else if sub = 3 then l.width else bnat l.flit

/-- A counter of a bench, its present stay in a state of R72 included (R79). -/
def benchCounter (s : State) (b sub : Nat) : Nat := satAdd 64 (s.counter (0x5400 + b) sub) (s.stay b sub)

/-- Time that a D port's outputs have been held OFF up to now, in ns, beyond what OFF_HELD_TIME has counted (R179). -/
def heldTime (s : State) (port : Nat) : Nat :=
  ((List.range 2).map fun vc => match s.heldOff (2 * port + vc) with
    | some t => (s.now - t) / 1000
    | none => 0).sum

/-- Time that a function has been paused up to now, in ns, beyond what PAUSE_TIME has counted (R364). -/
def pausedNow (s : State) (f : Nat) : Nat :=
  match (s.fn f).pausedSince with
  | some t => (s.now - t) / 1000
  | none => 0

/-- Counters of codewords, and of the dies' own corrections: no step of the table says what they count, and they may have risen by any
amount since they were last read (R146, R189, R326; log 118). -/
def rising (idx sub : Nat) : Bool :=
  (decide (0x5280 ≤ idx ∧ idx < 0x5288) && (sub == 9 || sub == 10)) || (decide (0x5000 ≤ idx ∧ idx < 0x5008) && (sub == 0x11 || sub == 0x12))

/-- The port of a counter of codewords has a link whose codewords arrive: none does on a port of which nothing runs (R189, R326). -/
def portLive (s : State) (idx : Nat) : Bool :=
  if idx < 0x5280 then (List.range 4).any fun l => (s.sub (4 * (idx - 0x5000) + l)).link != .disabled else s.obj (0x2808 + idx - 0x5280) 2 != 0

/-- A scalar object, read as the number its bytes spell. `inst` is the instance, or the QPN for the QP record. -/
def readNum (s : State) (idx sub inst : Nat) : Nat × State :=
  match recordOf idx with
  | none => (0, s)
  | some r =>
    let n := (r.position idx).getD 0
    match r.kind with
    | .service => (if sub = 2 then bnat s.pw.testmode else s.obj idx sub, s)
    | .clocks => (bnat s.pw.rootLocked, s)
    | .power => if sub = 2 then (if s.pw.sampled then (s.powerNow, s) else s.freeNat 32) else (s.obj idx sub, s)
    | .rails => s.railField ((sub - 1) % 8) (8 < sub)
    | .thermal => if s.pw.thermed ∨ 9 < sub then (s.obj idx sub, s) else s.freeNat 32
    | .scorecard => (if sub = 1 then s.flt.scorecard else if sub = 3 then s.flt.severe else bnat s.faultPin, s)
    | .source => (if sub = 4 then s.windowEvents n else if 4 < sub then s.ctr idx sub else s.obj idx sub, s)
    | .drawer => (if sub = 12 then s.kittyHeld inst else s.obj idx sub inst, s)
    | .translation => (if sub = 4 then (s.windows inst).length else s.obj idx sub inst, s)
    | .share => (if sub = 6 then bnat (s.shareActive n) else s.obj idx sub, s)
    | .pcieLink => (pcieField (if n = 0 then s.ring.p0 else s.ring.p1) sub, s)
    | .m0 => (if sub = 3 then (s.sub 32).link.code else s.obj idx sub, s)
    | .time => (if sub = 1 then s.deviceTime else s.obj idx sub, s)
    | .hrt => (if sub = 2 then s.qpsAvailable else if sub = 3 then (s.hrt.qps.filter fun q => q.2.state != .reset).length else s.obj idx sub, s)
    | .hrtAccess => (if sub = 3 then (s.mem.regions.filter fun g => g.2.valid).length else s.obj idx sub, s)
    | .qp => (s.qpField inst sub, s)
    | .table => (s.tableField n sub, s)
    | .stack => (if sub = 1 then s.stackState n else if (s.stack n).hot then 1950 else 3900, s)
    | .firmware => (if sub = 5 then s.cipher.fusedSvn else s.obj idx sub, s)
    | .cluster =>
      if sub = 4 then
        let d := s.freeNat 32
        (d.1 % 17, d.2)
      else (s.obj idx sub, s)
    | .timeService =>
      let p := s.obj 0x2C01 2
      let up := (s.sub (if p = 0x80 then 32 else 4 * (p / 16 % 8) + p % 4)).link = .up
      -- A port that is not UP has no master: the offset is 0 (R388).
      if 6 ≤ sub ∧ s.timeServiceRuns = true ∧ (sub = 6 ∨ up) then
        let d := s.freeNat 64
        (if sub = 6 then d.1 % 4 else d.1, d.2)
      else (s.obj idx sub, s)
    | .jorol => (if sub = 3 then ((List.range 17).filter fun k => (s.session k).isSome).length else s.obj idx sub, s)
    | .heartbeat => (if sub = 4 then (match s.led.watchdog with
        | .disarmed => 0
        | .armed _ => 1
        | .expired => 2) else s.obj idx sub, s)
    | .collCounters => (if sub = 2 then ((List.range 128).map s.cellsHeld).sum else s.ctr idx sub, s)
    | .benchCounters => (s.benchCounter n sub, s)
    | .memoryCounters =>
      -- The dies may have corrected bits in any access since the last read (R146): the counter rises by a free amount (log 118).
      if sub = 1 ∧ n < 8 then
        let t := s.riseNow idx sub
        (t.counter idx sub, t)
      else (if sub = 5 ∧ n < 8 then s.mapEntries n else s.ctr idx sub, s)
    | _ =>
      if idx < 0x5000 ∨ 0x6000 ≤ idx then (s.obj idx sub inst, s)
      else if rising idx sub then
        let t := if s.portLive idx then s.riseNow idx sub else s
        (t.counter idx sub, t)
      else if 0x5600 ≤ idx ∧ idx < 0x5680 ∧ sub = 7 then (satAdd 64 (s.ctr idx sub) (s.pausedNow (idx - 0x5600)), s)
      else if 0x5280 ≤ idx ∧ idx < 0x5288 ∧ sub = 6 then (satAdd 64 (s.ctr idx sub) (s.heldTime (idx - 0x5280)), s)
      else (s.ctr idx sub, s)

/-- Bytes of a bit mask, bit i mod 8 of byte i // 8. -/
def maskBytes (n : Nat) (p : Nat → Bool) : List Byte :=
  (List.range n).map fun k => BitVec.ofNat 8 (((List.range 8).map fun j => if p (8 * k + j) then 2 ^ j else 0).sum)

/-- LINK_STATE of a data port: 0xFF for a lane that is no lowest lane of its mode (R308); before Stage 2 E0 is the one sub-port E0.0
(R307). -/
def linkStates (s : State) (port : Nat) : List Byte :=
  (List.range 4).map fun l => if lowestLane (s.portMode port) l ∧ (2 ≤ s.level ∨ port ≠ 0 ∨ l = 0) then BitVec.ofNat 8 (s.sub (4 * port + l)).link.code else 0xFF

/-- Free bytes of the grandmaster's identity, while the time service runs. -/
def grandmaster (s : State) : List Byte × State :=
  if s.timeServiceRuns then
    let d := s.freeNat 64
    (leBytes 8 d.1, d.2)
  else (List.replicate 8 0, s)

/-- The active route table's 256 bytes (R190). -/
def activeTable (s : State) : List Byte :=
  (List.range 256).map fun m => if s.fab.active = [] then (if m = s.moduleId then 8 else 0xFF) else nth 0xFF s.fab.active m

/-- An object of bytes or text. -/
def readOctets (s : State) (idx sub inst : Nat) : List Byte × State :=
  match recordOf idx with
  | none => ([], s)
  | some r =>
    let n := (r.position idx).getD 0
    match r.kind with
    | .clocks => ((List.range 8).flatMap fun k =>
        leBytes 2 (if !(s.stack k).up then 0 else if (s.stack k).clock = .mhz1600 then 1600 else if (s.stack k).clock = .mhz800 then 800 else 0), s)
    | .power => ((List.range 8).map fun k => BitVec.ofNat 8 (s.skipOf k), s)
    | .drawer =>
      (if sub = 10 then (List.range 8).map fun k => BitVec.ofNat 8 (s.benchesOf inst k).length
       else (List.range 8).flatMap fun k => leBytes 4 (s.chunksIn inst k).length, s)
    | .benchOwners =>
      (if sub = 1 then padTo 512 (s.blob idx sub) else maskBytes 64 fun i => s.cmp.ownerDue.any (·.1 == i), s)
    | .port => (if sub = 4 then s.linkStates n else s.blob idx sub, s)
    | .routes => (if sub = 1 then s.activeTable else s.blob idx sub, s)
    | .timeService => s.grandmaster
    | .cipher => (if sub = 3 then identityPublic else s.blob idx sub, s)
    | _ => (s.blob idx sub inst, s)

/-- Bytes of a scalar in a path's byte order. -/
def scalarBytes (be : Bool) (n v : Nat) : List Byte := if be then beBytes n v else leBytes n v

/-- The value of an object in a path's byte order (R433). Subindex 0 is the highest subindex (R11). -/
def readObj (s : State) (be : Bool) (idx sub inst : Nat) : List Byte × State :=
  if sub = 0 then
    ([BitVec.ofNat 8 (((recordOf idx).map (·.objs.length)).getD 0)], s)
  else match objInfo idx sub with
    | none => ([], s)
    | some o =>
      match o.ty.width with
      | some n =>
        let v := s.readNum idx sub inst
        (scalarBytes be n v.1, v.2)
      | none => s.readOctets idx sub inst

/-- A read by a credential that clears (R434): the object returns to its default. -/
def clearRead (s : State) (idx sub inst : Nat) : State :=
  if 0x5000 ≤ idx ∧ idx < 0x6000 then s.clearCtr idx sub else (s.setObj idx sub inst (objDefault (objKey idx sub inst))).markFlash idx sub inst

/-- A DOMAIN object's value, formed at the snapshot (R447, R466). -/
def domainValue (s : State) (idx sub inst : Nat) : List Byte × State :=
  if idx = 0x2301 then ((List.range 196608).map fun c => BitVec.ofNat 8 (s.mem.owner.num c), s)
  else if idx = 0x23C0 then (s.blob idx sub inst, s)
  else if idx = 0x2B02 then (if sub = 3 then s.keyStates inst else s.keyIds inst, s)
  else if idx = 0x2B09 then (if sub = 2 then s.report inst else (Config.identityHead :: Config.identityChain.take 8191, s))
  else (s.blob idx sub inst, s)

end State

end Sys2Proof.Machine
end

