-- ==== Sys2Proof/Machine/Rights.lean ====
section
/-! DEFINITION. Machine/Rights.lean: who may read and write an object (R432, R434, R453, R454 and the entries of the objects), and
which values an object takes (R433 and the entries). -/

namespace Sys2Proof.Machine

/-- Who makes a request (R434, R441): a role (1 Owner, 2 Operator, 3 Tenant, 4 Observer, 0 none), a Tenant's drawer, and the
session key that wraps secrets, where the request came by a session (R443). -/
structure Requester where
  role : Nat
  drawer : Nat
  key : Option (List Byte)
  deriving DecidableEq, Repr

/-- The mailbox with SESSION 0 acts with the Owner's rights (R446). -/
def Requester.owner : Requester := ⟨1, 0, none⟩

/-- A telemetry stream reads with Observer rights (R401). -/
def Requester.observer : Requester := ⟨4, 0, none⟩

namespace State

/-! Existence and instances -/

/-- The record that a request's index names, where it exists now (R453, R467). -/
def recordNow (s : State) (idx : Nat) : Option RecordInfo :=
  if 0x7F00 ≤ idx ∧ idx < 0x8000 ∧ !s.pw.testmode then none else recordOf idx

/-- The scope of an object: that of its record, but for IDENTITY_CHAIN, which is Device-scoped (R430, R453). -/
def scopeOf (r : RecordInfo) (sub : Nat) : Scope := if r.kind = .attestation ∧ sub = 3 then .device else r.scope

/-- INSTANCE and OFFSET name an instance of the object (R432); `domain` says that OFFSET has the meaning of R447. Drawer 0 does
not migrate (R377). -/
def instanceOk (r : RecordInfo) (sub inst off : Nat) (domain : Bool) : Bool :=
  match scopeOf r sub with
  | .device => inst == 0 && (domain || off == 0)
  | .drawer => decide (inst < 128) && (domain || off == 0) && !(r.kind == .migration && inst == 0)
  | .qp => inst == 0 && decide (off < 65536)

/-- The instance that a request names, or the QPN (R432). -/
def instanceNamed (r : RecordInfo) (inst off : Nat) : Nat := if r.scope = .qp then off else inst

/-! Rights -/

/-- The record or instance is the Tenant's own (R454). -/
def tenantOwns (s : State) (d idx sub inst : Nat) (r : RecordInfo) : Bool :=
  let n := (r.position idx).getD 0
  match r.tenant with
  | .none => false
  | .read => true
  | .readOwn | .writeOwn => inst == d || scopeOf r sub == .device
  | .share => s.obj idx 2 == d || s.obj idx 3 == d
  | .qpOwn => (s.qp inst).owner == some d
  | .drawerField => if r.kind = .acceptWindow then s.obj idx 2 == d else if r.kind = .rawQueue then s.obj idx 2 == 128 + d else s.obj idx 1 == 128 + d
  | .tableOwn => (match s.table n with
    | some c => c.fid == d
    | none => false)
  | .benchOwn => s.benchOwner n == 128 + d
  | .functionOwn => n == d

/-- A requester may read an object. A Tenant reads the RESETS record but for RESET_COMMAND (R453). -/
def mayRead (s : State) (q : Requester) (idx sub inst : Nat) (r : RecordInfo) : Bool :=
  if q.role = 1 then true
  else if q.role = 3 then !(r.kind == .resets && sub == 1) && s.tenantOwns q.drawer idx sub inst r
  else if q.role = 2 ∨ q.role = 4 then
    (if r.kind = .kek ∨ r.kind = .keys ∨ r.kind = .inject ∨ r.kind = .countermeasures then false
     else if r.kind = .attestation then inst == 0 else true)
  else false

/-- Records that the Operator writes beside the Owner. -/
def operatorWrites (k : RecordKind) (sub : Nat) : Bool :=
  match k with
  | .link | .port | .classMap | .addresses | .buckets | .gates | .scorecard | .telemetry => true
  | .heartbeat => sub == 1
  | _ => false

/-- A requester may write an object. Of IDENTITY_CHAIN a Tenant's row grants a read alone (R453). -/
def mayWrite (s : State) (q : Requester) (idx sub inst : Nat) (r : RecordInfo) : Bool :=
  if q.role = 1 then true
  else if q.role = 2 then operatorWrites r.kind sub || (r.kind == .attestation && sub == 1 && inst == 0)
  else if q.role = 4 then r.kind == .attestation && sub == 1 && inst == 0
  else if q.role = 3 then
    s.tenantOwns q.drawer idx sub inst r &&
    (match r.tenant with
     | .writeOwn => !(r.kind == .attestation && sub == 3)
     | .share => (sub == 4 && s.obj idx 2 == q.drawer) || (sub == 5 && s.obj idx 3 == q.drawer)
     | .drawerField => if r.kind = .rawQueue then sub != 2 && sub != 11 && sub != 12 else if r.kind = .storage then sub != 1 else true
     | _ => false)
  else false

/-- Whose reads clear an RC object (R434): a port's counters by the Owner and the Operator, the others by the Owner. -/
def mayClear (q : Requester) (r : RecordInfo) : Bool := q.role == 1 || (q.role == 2 && r.kind == .ethCounters)

/-! Stopped targets (R433) -/

/-- The target of an RWS object is stopped; a block without an owner is always writable. -/
def targetStopped (s : State) (idx sub inst : Nat) (r : RecordInfo) : Bool :=
  match r.kind with
  | .translation => s.drawerState inst == 2
  | .hubPegBlocks => let o := s.obj idx sub
      decide (o < 128) || s.drawerState (o % 128) == 2
  | .port | .m0 => s.obj idx 1 == 0
  | .sa => s.obj idx 3 inst != 2
  | .rawQueue => s.obj idx 1 == 0
  | .storage => s.obj idx 3 == 0
  | _ => true

/-! Values -/

/-- A UTF-8 sequence: continuation bytes still owed, and the bounds on the next one (ill-formed UTF-8 is reserved, R433). -/
def utf8From : Nat → Nat → Nat → List Byte → Bool
  | owed, _, _, [] => owed == 0
  | 0, _, _, b :: bs =>
    let v := b.toNat
    if v < 0x80 then utf8From 0 0 0 bs
    else if 0xC2 ≤ v ∧ v ≤ 0xDF then utf8From 1 0x80 0xBF bs
    else if v = 0xE0 then utf8From 2 0xA0 0xBF bs
    else if v = 0xED then utf8From 2 0x80 0x9F bs
    else if 0xE1 ≤ v ∧ v ≤ 0xEF then utf8From 2 0x80 0xBF bs
    else if v = 0xF0 then utf8From 3 0x90 0xBF bs
    else if 0xF1 ≤ v ∧ v ≤ 0xF3 then utf8From 3 0x80 0xBF bs
    else if v = 0xF4 then utf8From 3 0x80 0x8F bs
    else false
  | n + 1, lo, hi, b :: bs => decide (lo ≤ b.toNat) && decide (b.toNat ≤ hi) && utf8From n 0x80 0xBF bs

/-- A value between bounds. -/
def between (lo hi v : Nat) : Bool := decide (lo ≤ v) && decide (v ≤ hi)

/-- A PORT byte in the manner of R253: bits 7 and [3:2] are zero. -/
def portByte (v : Nat) : Bool := v / 128 == 0 && bits v 3 2 == 0

/-- The bounds that the entry of a scalar object states for its value alone. -/
def scalarOk (n : Nat) (k : RecordKind) (sub v : Nat) : Bool :=
  match k with
  | .resets => v == 1
  | .power => between 300 (if Config.classE then 600 else 950) v
  | .source => if sub = 1 then decide (1 ≤ v) && (n != 8 || v == 1) else if sub = 2 then decide (100 ≤ v) else decide (v ≤ 3)
  | .drawer =>
    if sub = 2 then between 1 3 v else if sub = 3 then decide (v ≤ 131072) else if sub = 4 then decide (v ≤ 65535)
    else if sub = 5 then decide (v ≤ 65536) else if sub = 6 then decide (v ≤ 262144) else if sub = 7 then decide (v ≤ 63)
    else if sub = 8 then decide (v ≤ 64) else decide (v ≤ 4096)
  | .chunkCommand => if sub = 1 then decide (v ≤ 196607) else if sub = 2 then between 1 196608 v else sub == 3 || v == 1
  | .translation => if sub = 2 then decide (v < 2 ^ 24) else sub != 3 || v % 4096 == 0
  | .share => if sub = 1 then decide (v ≤ 262143) else decide (v ≤ 127)
  | .migration =>
    if sub = 1 then between 1 7 v else if sub = 4 then v % 4096 == 0 else if sub = 5 then decide (v ≤ 1) else if sub = 6 then v % 64 == 0
    else v % 2 ^ 21 == 0 && (sub != 8 || decide (v ≤ 2 ^ 44))
  | .port =>
    if sub = 2 then decide (v ≤ 3) else if sub = 3 then decide (v ≤ 2) else if sub = 6 then between 1522 9216 v
    else if sub = 7 then v == 0x8100 || v == 0x88A8 else if sub = 8 then between 1024 16384 v else if sub = 9 then decide (v ≤ 7)
    else sub != 10 || decide (1 ≤ v)
  | .classMap => if sub = 1 then decide (v ≤ 1) else sub != 2 || decide (v ≤ 7)
  | .buckets =>
    if sub ≤ 8 then decide (v ≤ 400000) else (between 17 24 sub) || between 1522 16777216 v
  | .m0 => sub != 2 || decide (v ≤ 2)
  | .wake => decide (v < 512)
  | .time => sub != 3 || (decide (-(2 ^ 26 : Int) ≤ signed 32 v) && decide (signed 32 v ≤ 2 ^ 26))
  | .gates => if sub = 3 then decide (1 ≤ v) else if sub = 4 then between 1 256 v else sub != 6 || v == 1
  | .hrt => decide (1 ≤ v)
  | .hrtAccess => if sub = 1 then between 1 16000 v else between 1 60000 v
  | .congestion =>
    if sub = 2 then between 1 16 v else if sub = 3 ∨ sub = 8 then between 1 32 v else if 4 ≤ sub ∧ sub ≤ 6 then between 1 10000 v
    else if sub = 7 then decide (v ≤ 63) else if sub = 9 then between 10 50000 v else if sub = 10 then decide (v ≤ 131071)
    else if sub = 11 then between 1 131072 v else sub != 12 || decide (1 ≤ v)
  | .fabric => if sub = 4 then between 1 4 v else if sub = 5 then between 10 100000 v else sub != 6 || between 40 1000000 v
  | .link => sub != 5 || decide (1 ≤ v)
  | .membership => decide (v ≤ 256)
  | .acceptWindow =>
    if sub = 2 then decide (v ≤ 127) else if sub = 4 then decide (v ≤ 1) else if sub = 5 then decide (v ≤ 127) || v == 255
    else if sub = 6 ∨ sub = 7 then v % 65536 == 0 else sub != 8 || decide (v ≤ 3)
  | .scrub => between 1 168 v
  | .firmware => sub != 1 || decide (v ≤ 1)
  | .timeService =>
    if sub = 1 then decide (v ≤ 1) else if sub = 2 then v == 0x80 || portByte v else if sub = 3 then decide (v ≤ 127) else sub != 4 || decide (v ≤ 2)
  | .rawQueue =>
    if sub = 3 then portByte v else if sub = 4 then decide (v < 2 ^ 24) else if sub = 5 ∨ sub = 7 then v % 64 == 0
    else if sub = 6 ∨ sub = 8 then between 6 12 v else if sub = 9 then v % 64 == 0 && between 128 9216 v
    else sub != 10 || (v % 4 == 0 && decide (v < 4096))
  | .storage =>
    if sub = 2 then between 1 2 v else if sub = 4 then portByte v else if sub = 7 then decide (1 ≤ v) else if sub = 11 then decide (v ≤ 3)
    else if sub = 12 then between 2 128 v else if sub = 13 then between 1000 600000 v else sub != 14 || between 100 60000 v
  | .telemetry =>
    if sub = 2 then between 1 3600000 v else if sub = 3 then decide (v ≤ 1) else if sub = 5 then decide (1 ≤ v)
    else if sub = 6 then v % 2048 == 0 else if sub = 7 then between 4 12 v else if sub = 8 then decide (v < 4096) || v == 0xFFFF
    else sub != 9 || decide (v ≤ 64)
  | .jorol => if sub = 1 then decide (1 ≤ v) else between 5 86400 v
  | .heartbeat => if sub = 2 then decide (v ≤ 60000) else sub != 3 || decide (v ≤ 2)
  | .credential => if sub = 1 then (if n = 0 then v == 1 else v == 0 || between 2 4 v) else decide (v ≤ 127)
  | .inject => if sub = 1 then decide (v ≤ 63) else if sub = 4 then between 1 2 v else decide (1 ≤ v)
  | _ => true

/-- The bounds that the entry of an object of bytes states. -/
def octetsOk (k : RecordKind) (sub : Nat) (bs : List Byte) : Bool :=
  match k with
  | .msix => bs.all (fun b => decide (b.toNat ≤ 64)) && decide ((bs.map BitVec.toNat).sum ≤ 2048)
  | .port => (nth 0 bs 5).toNat % 4 == 0
  | .classMap => bs.all fun b => decide (b.toNat ≤ 7)
  | .routes => sub != 2 || bs.all fun b => decide (b.toNat ≤ 8) || b == 0xFF
  | .addresses => decide ((nth 0 bs 16).toNat ≤ 3) && decide ((nth 0 bs 17).toNat ≤ 1) && bs.drop 18 == [0, 0]
  | .rawQueue => nth 0 bs 11 == 0 && nth 0 bs 15 == 0 && decide ((nth 0 bs 14).toNat < 32)
  | .storage => (sub != 9 && sub != 10) || utf8From 0 0 0 bs
  | _ => true

/-! Conditions that join several values. `t` is the state with every value of the write in its place. -/

/-- Half-open ranges that no other drawer's meets. -/
def rangeFree (t : State) (d baseSub countSub : Nat) : Bool :=
  (List.range 128).all fun e =>
    e == d || !overlaps (t.obj 0x2300 baseSub d) (t.obj 0x2300 countSub d) (t.obj 0x2300 baseSub e) (t.obj 0x2300 countSub e)

/-- The conditions of R367. -/
def drawerOk (s t : State) (d sub : Nat) : Bool :=
  if sub = 3 then
    decide (t.kittySum ≤ 131072) && ((s.tablesOf d).isEmpty || decide (s.cellsHeld d + 256 ≤ t.obj 0x2300 3 d))
  else if sub = 4 ∨ sub = 5 then
    let b := t.obj 0x2300 4 d
    let n := t.obj 0x2300 5 d
    decide (b + n ≤ 65536) && t.rangeFree d 4 5 &&
    (s.hrt.qps.all fun q => q.2.owner != some d || q.2.state == .reset || (decide (b ≤ q.1) && decide (q.1 < b + n)))
  else if sub = 6 then
    decide (s.regionCount d ≤ t.obj 0x2300 6 d) && decide (((List.range 128).map fun e => t.obj 0x2300 6 e).sum ≤ 262144)
  else if sub = 7 ∨ sub = 8 then
    let b := t.obj 0x2300 7 d
    let n := t.obj 0x2300 8 d
    decide (b + n ≤ 64) && t.rangeFree d 7 8 && ((s.tablesOf d).all fun k => decide (b ≤ k) && decide (k < b + n))
  else if sub = 9 then
    (s.cipher.slots.all fun k => k.1 / 4096 != d || decide (k.1 % 4096 < t.obj 0x2300 9 d)) &&
    decide (((List.range 128).map fun e => t.obj 0x2300 9 e).sum ≤ 4096)
  else true

/-- The objects that a telemetry stream names, in order. -/
def streamObjects (s : State) (k : Nat) : List (Nat × Nat) :=
  (List.range (s.obj (0x2C80 + k) 9)).map fun i => (leAt (s.blob (0x2C80 + k) 10) (3 * i) 2, leAt (s.blob (0x2C80 + k) 10) (3 * i + 2) 1)

/-- A stream may name an object: it exists and is a scalar (R401). Subindex 0 is a U8. -/
def streamable (s : State) (o : Nat × Nat) : Bool :=
  (s.recordNow o.1).isSome && (o.2 == 0 || match objInfo o.1 o.2 with
    | some i => i.ty.width.isSome
    | none => false)

/-- The conditions that an entry states between a value and others, of the record or of the device. -/
def joinedOk (s t : State) (q : Requester) (idx sub inst : Nat) (r : RecordInfo) : Bool :=
  let n := (r.position idx).getD 0
  match r.kind with
  | .drawer => s.drawerOk t inst sub
  | .share => (sub != 4 && sub != 5) || q.role = 3 || t.obj idx sub == 0 || t.obj idx (sub - 2) == 0
  | .port => sub != 8 || decide (t.kittySum ≤ 131072)
  | .classMap => (sub != 7 && sub != 8) || decide (t.obj idx 8 < t.obj idx 7)
  | .time => sub != 3 || !s.timeServiceRuns
  | .congestion => decide (t.obj idx 10 < t.obj idx 11) && decide (t.obj idx 2 ≤ t.obj idx 3)
  | .fabric => (sub != 5 && sub != 6) || decide (4 * t.obj idx 5 ≤ t.obj idx 6)
  | .membership =>
    let ms := (t.blob idx 2 inst).map BitVec.toNat
    let c := t.obj idx 1 inst
    (ms.take c).dedup.length == min c ms.length && (ms.drop c).all (· == 0)
  | .acceptWindow => q.role != 3 || t.obj idx 2 == q.drawer
  | .firmware => sub != 1 || s.cipher.bankOk.num (t.obj idx 1) == 1
  | .sa =>
    let v := t.obj idx sub inst
    v == 0xFFFF || (decide (v < s.obj 0x2300 9 inst) && v != t.obj idx (3 - sub) inst)
  | .storage => sub != 1 || s.obj idx 3 == 0
  | .telemetry => (sub != 9 && sub != 10) || (t.streamObjects n).all s.streamable
  | .credential => sub != 2 || (if t.obj idx 1 = 3 then decide (1 ≤ t.obj idx 2) else t.obj idx 2 == 0)
  | _ => true

end State

end Sys2Proof.Machine
end

