-- ==== Sys2Proof/Machine/Telemetry.lean ====
section
/-! DEFINITION. Machine/Telemetry.lean: telemetry streams (R401 to R403) and the end of the cluster's watchdog (R386). -/

namespace Sys2Proof.Machine

/-- TYPE codes of a record's entries (R402). -/
def ObjType.code : ObjType → Nat
  | .bool => 1
  | .unsigned n => if n = 1 then 2 else if n = 2 then 3 else if n = 4 then 4 else 5
  | .int n => if n = 4 then 6 else 7
  | _ => 0

namespace State

def streamObj (k : Nat) : Nat := 0x2C80 + k

/-- The telemetry service runs (R385, R386). -/
def telemetryRuns (s : State) : Bool := bit (s.obj 0x2C00 3) 4

/-- A stream's value of an object, read with Observer rights; where those do not reach, and of a write-only object, it is a free
value. -/
def streamValue (s : State) (o : Nat × Nat) : Nat × Nat × State :=
  match recordOf o.1, objInfo o.1 o.2 with
  | some r, some i =>
    let n := i.ty.width.getD 0
    if i.access = .wo ∨ !s.mayRead .observer o.1 o.2 0 r then
      let d := s.freeNat (8 * n)
      (i.ty.code, d.1, d.2)
    else
      let v := s.readNum o.1 o.2 0
      (i.ty.code, (if i.ty = .int 4 then wrapInt 64 (signed 32 v.1) else v.1), v.2)
  | some r, none => (2, r.objs.length, s)
  | none, _ => (2, 0, s)

/-- A record's entries, read in listed order. -/
def streamEntries (s : State) (be : Bool) : List (Nat × Nat) → List Byte × State
  | [] => ([], s)
  | o :: os =>
    let v := s.streamValue o
    let r := v.2.2.streamEntries be os
    (scalarBytes be 2 o.1 ++ leBytes 1 o.2 ++ leBytes 1 v.1 ++ [0, 0, 0, 0] ++ scalarBytes be 8 v.2.1 ++ r.1, r.2)

/-- A record of R402. -/
def streamRecord (s : State) (k : Nat) (be : Bool) : List Byte × State :=
  let os := s.streamObjects k
  let e := s.streamEntries be os
  let w := scalarBytes be
  let q := s.obj (streamObj k) 11
  ([0x51, 0x4B, 0x54, 0x4C] ++ w 2 1 ++ leBytes 1 k ++ leBytes 1 s.moduleId ++ w 4 q ++ w 2 os.length ++ w 2 (36 + 16 * os.length) ++
    w 8 s.deviceTime ++ w 4 (s.obj 0x2001 3 % 2 ^ 32) ++ leBytes 1 s.level ++ [0, 0, 0] ++ e.1 ++ w 4 q, e.2)

/-- A record is skipped, or has been taken: the counter that it counts in. -/
def streamCount (s : State) (taken : Bool) : State := s.count 0x5700 (if taken then 11 else 12) 1

/-- A record to a collector over M0 (R403). -/
def streamUdp (s : State) (k : Nat) : State :=
  let ip := padTo 16 (s.blob (streamObj k) 4)
  let v6 := !isMapped ip
  if (s.sub 32).link ≠ .up then s.streamCount false
  else match s.neighbour 8 0 ip, (s.portIps 8 0).find? (fun a => isMapped a == isMapped ip) with
    | some mac, some src =>
      let r := s.streamRecord k true
      let udp := udpBytes v6 src ip 52102 (r.2.obj (streamObj k) 5) r.1
      (r.2.offerOwn 8 0 (frameOf mac (r.2.portMac 8 0) (r.2.ownTags 8) (if v6 then 0x86DD else 0x0800) (ipBytesOf v6 src ip 0 0 udp))).streamCount true
    | _, _ => (s.solicit 8 0 ip).streamCount false

/-- A record to a slot of a region of PF0, its hub peg behind an ordering read (R403); false while a page of the region moves. -/
def streamRegion (s : State) (k : Nat) : Bool × State :=
  let ring := s.obj (streamObj k) 6
  let off := ring % 2 ^ 40 + 2048 * (s.obj (streamObj k) 11 % 2 ^ s.obj (streamObj k) 7)
  let r := s.streamRecord k false
  match r.2.resolveRegion 0 (ring / 2 ^ 40) off r.1.length true false with
  | (.wait, t) => (false, s.waitForMove 0 (640 + k) t)
  | (.fail _, t) => (true, t.streamCount false)
  | (.ok ps, t) =>
    if ps.any fun p => match p with
      | .bus port _ _ => !t.busOk port
      | _ => false then (true, t.streamCount false)
    else
      let u := ((t.writePieces 0 ps r.1).race ps).streamCount true
      let h := u.obj (streamObj k) 8
      (true, if h = 0xFFFF ∨ !u.ownsPeg 0 h then u
        else match lastBusOf ps with
          | some (port, a) => u.issueOrdering port a 0 (.count 0 h)
          | none => u.addHubPeg h 1)

/-- The next record of a stream has its number, and falls due a PERIOD after the last. -/
def streamNext (s : State) (k due : Nat) : State :=
  let t := s.setObj (streamObj k) 11 0 ((s.obj (streamObj k) 11 + 1) % 2 ^ 32)
  { t with clu := { t.clu with due := t.clu.due.setNum k (due + t.obj (streamObj k) 2 * 1000000000 + 1) } }

/-- Records that could not be started before the next fell due are skipped, their numbers consumed. -/
def streamSkips (s : State) (k : Nat) : Nat → State
  | 0 => s
  | n + 1 => ((s.streamCount false).streamNext k (s.clu.due.num k - 1)).streamSkips k n

/-- A stream takes the record that is due. -/
def streamTake (s : State) (k : Nat) : State :=
  let due := s.clu.due.num k
  let period := s.obj (streamObj k) 2 * 1000000000
  if due = 0 ∨ s.now + 1 < due ∨ !s.telemetryRuns then s
  else
    let t := s.streamSkips k ((s.now + 1 - due) / period)
    let at_ := t.clu.due.num k - 1
    match (if t.obj (streamObj k) 3 = 0 then (true, t.streamUdp k) else t.streamRegion k) with
    | (true, u) => u.streamNext k at_
    | (false, u) => u

/-- ENABLE has been written: a stream starts with record 0 at once, or stops. -/
def streamEnable (s : State) (k v : Nat) : State :=
  if v = 0 then { s with clu := { s.clu with due := s.clu.due.setNum k 0 } }
  else
    let t := s.setObj (streamObj k) 11 0 0
    ({ t with clu := { t.clu with due := t.clu.due.setNum k (t.now + 1) } }).streamTake k

/-- Streams whose ENABLE is stored start again at Stage 1 (R481). -/
def streamsRestart (s : State) : State :=
  (List.range 8).foldl (fun st k => if st.obj (streamObj k) 1 = 1 then st.streamEnable k 1 else st) s

/-- Descriptors and frames of a raw queue in the cluster are discarded, without completion. -/
def rawDiscard (s : State) (q : Nat) (r : RawQueue) : State :=
  (((s.rawUnqueue q).setRaw q (some { r with offered := [], inbox := [], held := [], flush := 0 })).rawGoOn q).pfcTick (s.rawPort q)

/-- The cluster's firmware has failed (R386). -/
def clusterFails (s : State) : State :=
  if s.obj 0x2C00 1 ≠ 1 then s
  else
    let s1 := ((s.setObj 0x2C00 1 0 2).setObj 0x2C00 3 0 0).setCondition 13 true
    let s2 := s1.clu.ios.foldl (fun st i => st.endIo (NvmeIo.fails i 9 (NvmeIo.oldest i)) 9) s1
    let s3 := (List.range 64).foldl (fun st c => if st.connState c = 1 ∨ st.connState c = 2 then st.leaveConn c 3 9 none else st) s2
    (List.range 32).foldl (fun st q => match st.raw q with
      | some r => st.rawDiscard q r
      | none => st) s3

end State

/-! The commands -/

def execTelemetryEnable (stream : Nat) (s : State) : Host.Outcome State Fault Refusal :=
  s.live (if stream < 8 ∧ 0 < s.level then (s.putObj (State.streamObj stream) 1 0 1).streamEnable stream 1 else s)

def execTelemetryRecord (stream : Nat) (s : State) : Host.Outcome State Fault Refusal := s.live (if stream < 8 then s.streamTake stream else s)

def execClusterWatchdogExpiry (s : State) : Host.Outcome State Fault Refusal := s.live s.clusterFails

end Sys2Proof.Machine
end

