-- ==== Sys2Proof/Machine/Ledger.lean ====
section
/-! DEFINITION. Machine/Ledger.lean: reading and writing the ledger's objects (R433 to R436, R439, R447, R455): the checks in their
order, and the effect of each write. -/

namespace Sys2Proof.Machine

/-- The answer statuses of R440. -/
inductive Answer where
  | ok
  | noObject
  | denied
  | access
  | rejected
  | notStopped
  | length
  | badInstance
  | busy
  | segment
  | malformed
  deriving DecidableEq, Repr

def Answer.code : Answer → Nat
  | .ok => 0
  | .noObject => 1
  | .denied => 2
  | .access => 3
  | .rejected => 4
  | .notStopped => 5
  | .length => 6
  | .badInstance => 7
  | .busy => 8
  | .segment => 9
  | .malformed => 10

/-- One value of a write: subindex and bytes, scalars in network byte order. -/
abbrev Item := Nat × List Byte

namespace State

/-! The values of a write in their places -/

/-- Objects whose write is an act that puts the value in place itself, or puts none. -/
def actsAlone (k : RecordKind) (n sub : Nat) : Bool :=
  match k with
  | .source => decide (24 ≤ n)
  | .benchOwners | .hubPegBlocks => true
  | .port | .m0 | .link | .rawQueue | .heartbeat => sub == 1
  | _ => false

/-- A value takes its place. -/
def place (s : State) (idx inst : Nat) (r : RecordInfo) (i : Item) : State :=
  match r.objs[i.1 - 1]? with
  | some o =>
    if i.1 = 0 ∨ o.access = .wo ∨ o.access = .ro ∨ o.access = .rc ∨ actsAlone r.kind ((r.position idx).getD 0) i.1 = true then s
    else match o.ty with
      | .domain => s
      | .octets _ | .text _ => s.putBlob idx i.1 inst i.2
      | _ => s.putObj idx i.1 inst (ofBe i.2)
  | none => s

/-! Effects -/

/-- The wake record is copied into the VDD_AUX domain (R328). -/
def copyWake (s : State) : State :=
  if s.pw.auxOk then
    { s with pw := { s.pw with wakeEnable := s.obj 0x2581 1, wakePatterns := (List.range 8).map fun p => s.blob 0x2581 (p + 2) } }
  else s

/-- A new secret, or none where it is rejected: plain through the mailbox, wrapped through a session (R443). -/
def secretOf (q : Requester) (bs : List Byte) : Option (List Byte) :=
  match q.key with
  | none => if bs.drop 32 = List.replicate 8 0 then some (bs.take 32) else none
  | some k => Aes.unwrapKey ((hmac256 k [0x4A, 0x52, 0x4C, 0x57]).take 32) bs 32

/-- A write of SECRET_LOAD. -/
def secretLoad (s : State) (q : Requester) (c : Nat) (bs : List Byte) : Option State :=
  (secretOf q bs).map fun v => (s.setSecret c (some v)).closeCredential c

/-- A slot of a security association has been named (R417). -/
def saNamed (s : State) (idx d : Nat) : State :=
  s.setObj idx 3 d (bnat (s.obj idx 1 d != 0xFFFF && s.obj idx 2 d != 0xFFFF))

/-- What a write does beside placing its value; none where it is rejected. -/
def writeEffect (s : State) (q : Requester) (idx sub inst : Nat) (r : RecordInfo) (bs : List Byte) : Option State :=
  let n := (r.position idx).getD 0
  let v := ofBe bs
  match r.kind with
  | .resets => some (s.resetCause .command)
  | .scorecard => some (s.scorecardClear v)
  | .source => some (if n < 24 ∧ sub ≤ 2 then s.newRun n else s)
  | .drawer => if sub = 2 then (if v = 1 then s.drawerStop inst else if v = 2 then s.drawerStart inst else s.recycle inst) else some s
  | .chunkCommand => if sub = 4 then s.chunkGo else some s
  | .benchOwners => some (s.benchOwners bs)
  | .translation => some (s.renewDrawer inst)
  | .hubPegBlocks => some (s.setPegBlock (sub - 1) v)
  | .share => some (if sub ≤ 3 then (s.setObj idx 4 0 0).setObj idx 5 0 0 else s)
  | .migration => if sub = 1 then s.migWrite inst v else some s
  | .port => some (if sub = 1 then s.ethEnable n v else s)
  | .m0 => some (if sub = 1 then s.ethEnable 8 v else s)
  | .buckets => some (s.resetBucket n sub)
  | .gates => if sub = 6 then s.configChange n else some s
  | .wake => some s.copyWake
  | .time => if sub = 2 then s.timeStep (signed 64 v) else some s
  | .link => some (if sub = 1 then (s.linkEnable n v).settleHands else s)
  | .fabric => if sub = 4 then s.routeCommand v else some s
  | .kek => some (s.kekLoad inst bs)
  | .keys => if sub = 1 then s.keyWrite inst bs else s.keyClear inst v
  | .sa => some (s.saNamed idx inst)
  | .firmware => if sub = 7 then s.svnCommit v else some s
  | .rawQueue => if sub = 1 then (if v = 1 then s.rawEnable n else some (s.rawDisable n)) else some s
  | .storage => if sub = 2 then (if v = 1 then s.connect n else some (s.disconnect n)) else some s
  | .telemetry => some (if sub = 1 then s.streamEnable n v else s)
  | .heartbeat =>
    some (if sub = 1 then s.heartbeatWrite v
      else if sub = 2 ∧ v = 0 then { s with led := { s.led with watchdog := .disarmed } } else s)
  | .credential => if sub = 3 then s.secretLoad q n bs else some (s.closeCredential n)
  | .inject => if sub = 4 then (if v = 1 then s.injectStart else some s.injectStop) else some s
  | _ => some s

/-! The checks of R455, from step 2 on -/

/-- The bytes fit the type (R433). -/
def lengthOk (o : ObjInfo) (bs : List Byte) : Bool :=
  match o.ty with
  | .octets n => bs.length == n
  | .text n => decide (bs.length ≤ n)
  | .domain => true
  | t => t.width == some bs.length

/-- The value keeps the rules of its entry; `t` holds the whole write's values (R433, R439). -/
def valueOk (s t : State) (q : Requester) (idx inst : Nat) (r : RecordInfo) (o : ObjInfo) (i : Item) : Bool :=
  (match o.ty with
   | .bool => decide (ofBe i.2 ≤ 1)
   | .octets _ | .text _ => octetsOk r.kind i.1 i.2
   | _ => scalarOk ((r.position idx).getD 0) r.kind i.1 (ofBe i.2)) && s.joinedOk t q idx i.1 inst r

/-- One item of a write, against the state before it and the state with all its values. -/
def checkItem (s t : State) (q : Requester) (idx inst off : Nat) (r : RecordInfo) (i : Item) : Answer :=
  if r.objs.length < i.1 then .noObject
  else if !instanceOk r i.1 inst off false then .badInstance
  else if !s.mayWrite q idx i.1 (instanceNamed r inst off) r then .denied
  else match (if i.1 = 0 then none else r.objs[i.1 - 1]?) with
    | none => .access
    | some o =>
      if o.access = .ro ∨ o.access = .rc ∨ o.ty = .domain then .access
      else if o.access = .rws ∧ !s.targetStopped idx i.1 inst r then .notStopped
      else if !lengthOk o i.2 then .length
      else if !s.valueOk t q idx inst r o i then .rejected
      else .ok

/-- The items in order: the first that fails decides, and the effects follow one another on `u`. -/
def writeGo (s t : State) (q : Requester) (idx inst off : Nat) (r : RecordInfo) : List Item → State → Answer × State
  | [], u => (.ok, u)
  | i :: is, u =>
    match s.checkItem t q idx inst off r i with
    | .ok =>
      (match u.writeEffect q idx i.1 inst r i.2 with
      | some w => writeGo s t q idx inst off r is w
      | none => (.rejected, s))
    | c => (c, s)

/-- A write of one or several items as one write (R439). -/
def writeAll (s : State) (q : Requester) (idx inst off : Nat) (is : List Item) : Answer × State :=
  match s.recordNow idx with
  | none => (.noObject, s)
  | some r =>
    let t := is.foldl (fun st i => st.place idx inst r i) s
    s.writeGo t q idx inst off r is t

/-- The checks of a read of one object. -/
def checkRead (s : State) (q : Requester) (idx sub inst off : Nat) (domain : Bool) : Answer :=
  match s.recordNow idx with
  | none => .noObject
  | some r =>
    if r.objs.length < sub then .noObject
    else if !instanceOk r sub inst off domain then .badInstance
    else if !s.mayRead q idx sub (instanceNamed r inst off) r then .denied
    else match (if sub = 0 then none else r.objs[sub - 1]?) with
      | none => if domain then .access else .ok
      | some o => if o.access = .wo ∨ (o.ty = .domain) ≠ (domain = true) then .access else .ok

/-- A read of one object by a credential, in network byte order; an RC object that it may clear is cleared (R434). -/
def readOne (s : State) (q : Requester) (idx sub inst off : Nat) : List Byte × State :=
  match recordOf idx with
  | none => ([], s)
  | some r =>
    let v := s.readObj true idx sub (instanceNamed r inst off)
    match (if sub = 0 then none else objInfo idx sub) with
    | some o => (v.1, if o.access = .rc ∧ mayClear q r = true then v.2.clearRead idx sub inst else v.2)
    | none => v

/-- An item as it travels (R439), in network byte order. -/
def itemBytes (sub : Nat) (v : List Byte) : List Byte :=
  leBytes 1 sub ++ [0] ++ beBytes 2 v.length ++ padTo (roundUp v.length 4) v

/-- The items of a WHOLE read, from a subindex on. -/
def wholeFrom (s : State) (q : Requester) (idx inst off sub : Nat) : Nat → List Byte × State
  | 0 => ([], s)
  | n + 1 =>
    if s.checkRead q idx sub inst off false = .ok then
      let v := s.readOne q idx sub inst off
      let r := v.2.wholeFrom q idx inst off (sub + 1) n
      (itemBytes sub v.1 ++ r.1, r.2)
    else s.wholeFrom q idx inst off (sub + 1) n

/-- The items of a MULTI write: none for a bad list (R439). -/
def parseItems : Nat → List Byte → Option (List Item)
  | _, [] => some []
  | 0, _ => none
  | n + 1, bs =>
    let len := beAt bs 2 2
    let all := 4 + roundUp len 4
    if bs.length < 4 ∨ bs.length < all ∨ nth 0 bs 1 ≠ 0 ∨ (slice bs (4 + len) (all - 4 - len)).any (· != 0) = true then none
    else (parseItems n (bs.drop all)).map fun is => ((nth 0 bs 0).toNat, slice bs 4 len) :: is

/-- A good item list: at least one item, no subindex twice. -/
def itemList (bs : List Byte) : Option (List Item) :=
  match parseItems bs.length bs with
  | some is => if is.isEmpty ∨ (is.map (·.1)).dedup.length ≠ is.length then none else some is
  | none => none

/-! Long objects (R447, R466) -/

/-- The lengths that a DOMAIN_BEGIN may name; none where the object is not writable. -/
def domainLengths (idx sub : Nat) : Option (Nat × Nat) :=
  if idx = 0x23C0 ∧ sub = 0x0B then some (64, 17842768)
  else if 0x2610 ≤ idx ∧ idx ≤ 0x2617 ∧ sub = 5 then some (2048, 2048)
  else if idx = 0x2B08 ∧ sub = 3 then some (1, 67108864)
  else none

/-- The checks of a DOMAIN write message; a Tenant has no writable DOMAIN object. -/
def checkDomain (s : State) (q : Requester) (idx sub inst : Nat) : Answer :=
  match s.recordNow idx with
  | none => .noObject
  | some r =>
    if r.objs.length < sub then .noObject
    else if !instanceOk r sub inst 0 true then .badInstance
    else if !s.mayWrite q idx sub inst r then .denied
    else if (domainLengths idx sub).isNone then .access
    else .ok

/-- The value of a whole DOMAIN write takes effect. A blob written into STATE is what RESTORE takes; a read of STATE goes on giving the last
SAVE's (R466; log 151). -/
def domainWritten (s : State) (idx sub inst : Nat) (v : List Byte) : State :=
  if idx = 0x2B08 then s.firmwareWritten v else if idx = 0x23C0 then s.setBlob idx 0x0D inst v else s.putBlob idx sub inst v

/-- A DOMAIN_READ: status, OFFSET of the answer, and the segment. -/
def domainRead (s : State) (q : Requester) (k idx sub inst off limit : Nat) : Answer × Nat × List Byte × State :=
  match s.checkRead q idx sub inst off true with
  | .ok =>
    let key := objKey idx sub inst
    if off = 0 then
      let v := s.domainValue idx sub inst
      let shot : Snapshot := ⟨key, k, v.1⟩
      let t := v.2
      let rest := t.led.snapshots.filter fun x => !(x.key == key && x.session == k)
      (.ok, v.1.length, v.1.take limit, { t with led := { t.led with snapshots := rest ++ [shot] } })
    else match s.led.snapshots.find? (fun x => x.key == key && x.session == k) with
      | none => (.segment, off, [], s)
      | some x => if x.value.length ≤ off then (.length, off, [], s) else (.ok, x.value.length, slice x.value off limit, s)
  | c => (c, off, [], s)

/-- The open transfer of an object by a session. -/
def openWrite (s : State) (k key : Nat) : Option DomainWrite := s.led.domains.find? fun x => x.key == key && x.session == k

def dropWrite (s : State) (k key : Nat) : State :=
  { s with led := { s.led with domains := s.led.domains.filter fun x => !(x.key == key && x.session == k) } }

/-- A DOMAIN_BEGIN. -/
def domainBegin (s : State) (q : Requester) (k idx sub inst total : Nat) : Answer × State :=
  match s.checkDomain q idx sub inst, domainLengths idx sub with
  | .ok, some (lo, hi) =>
    let key := objKey idx sub inst
    if !between lo hi total then (.length, s)
    else if s.led.domains.any (·.key == key) then (.busy, s)
    else (.ok, { s with led := { s.led with domains := s.led.domains ++ [⟨key, k, total, [], s.now⟩] } })
  | c, _ => (c, s)

/-- A DOMAIN_SEGMENT. -/
def domainSegment (s : State) (q : Requester) (k idx sub inst off limit : Nat) (bs : List Byte) : Answer × State :=
  let key := objKey idx sub inst
  match s.checkDomain q idx sub inst, s.openWrite k key with
  | .ok, none => (.segment, s)
  | .ok, some w =>
    if off ≠ w.received.length then (.segment, s.dropWrite k key)
    else if bs.isEmpty ∨ limit < bs.length ∨ w.total < off + bs.length then (.length, s)
    else
      let upd (x : DomainWrite) : DomainWrite :=
        if x.key == key && x.session == k then { x with received := x.received ++ bs, lastAt := s.now } else x
      (.ok, { s with led := { s.led with domains := s.led.domains.map upd } })
  | c, _ => (c, s)

/-- A STATE blob carries no reserved encoding and sets no reserved bit (R9, R253, R280, R382): its header, and, where its length is the one
its counts give, its translation section and its records. -/
def stateFieldsOk (b : List Byte) : Bool :=
  let zero (x : List Byte) : Bool := x.all (· == 0)
  let n := leAt b 0x28 4
  let m := leAt b 0x2C 4
  zero (slice b 0x32 2) && zero (slice b 0x38 4) &&
  (b.length != 80 + 32 * n + 144 * m + 264 * leAt b 0x30 2 ||
    (decide (leAt b 0x4C 1 ≤ 1) && zero (slice b 0x4D 3) &&
     ((blobRegions b).all fun r => decide (leAt r 5 1 ≤ 1) && decide (leAt r 6 1 ≤ 1) && decide (leAt r 7 1 < 32) && zero (slice r 24 8)) &&
     ((blobQps b).all fun q => zero (slice q 4 4) && decide (leAt q 8 4 < 2 ^ 24) && decide (leAt q 12 4 < 2 ^ 24) && attrOk (slice q 16 128) 0x1FEFF true) &&
     ((blobPegs b).all fun p => decide (leAt p 0 1 < 64) && zero (slice p 1 7))))

/-- A DOMAIN value sets no reserved bit (R9, R433): bits [31:8] of each entry of ADMIN_LIST (R318), and the fields of STATE. The INTERVALs of
ADMIN_LIST are judged where R320 says. -/
def domainOk (idx : Nat) (v : List Byte) : Bool :=
  if idx = 0x23C0 then stateFieldsOk v
  else !(decide (0x2610 ≤ idx) && decide (idx ≤ 0x2617)) || (List.range (v.length / 8)).all fun i => leAt v (8 * i + 1) 3 == 0

/-- A DOMAIN_END: the whole value is applied as one write; a rejected one leaves the object and ends the transfer. -/
def domainEnd (s : State) (q : Requester) (k idx sub inst : Nat) : Answer × State :=
  let key := objKey idx sub inst
  match s.checkDomain q idx sub inst, s.openWrite k key with
  | .ok, none => (.segment, s)
  | .ok, some w => if w.received.length ≠ w.total then (.segment, s)
    else if !domainOk idx w.received then (.rejected, s.dropWrite k key)
    else (.ok, (s.dropWrite k key).domainWritten idx sub inst w.received)
  | c, _ => (c, s)

/-- A DOMAIN_ABORT. -/
def domainAbort (s : State) (q : Requester) (k idx sub inst : Nat) : Answer × State :=
  let key := objKey idx sub inst
  match s.checkDomain q idx sub inst, s.openWrite k key with
  | .ok, none => (.segment, s)
  | .ok, some _ => (.ok, s.dropWrite k key)
  | c, _ => (c, s)

/-- Transfers of a session without a segment for 60 s are discarded. -/
def domainExpire (s : State) (k : Nat) : State :=
  { s with led := { s.led with domains := s.led.domains.filter fun x => !(x.session == k && decide (x.lastAt + 60000000000000 ≤ s.now)) } }

end State

end Sys2Proof.Machine
end

