-- ==== Sys2Proof/Machine/Jorol.lean ====
section
/-! DEFINITION. Machine/Jorol.lean: "The ledger and the Jorol management link": messages (R437 to R440), sessions (R441 to R444), the
PF0 mailbox (R445, R446), service below Stage 1 (R448) and notifications (R449). -/

namespace Sys2Proof.Machine

/-- A message (R437); `tag` is what follows the payload. -/
structure Msg where
  version : Nat
  type : Nat
  flags : Nat
  status : Nat
  session : Nat
  seq : Nat
  index : Nat
  sub : Nat
  inst : Nat
  offset : Nat
  len : Nat
  rsv : Nat
  payload : List Byte
  tag : List Byte
  deriving DecidableEq, Repr

/-- A number at an offset in a path's byte order. -/
def numAt (be : Bool) (bs : List Byte) (off n : Nat) : Nat := if be then beAt bs off n else leAt bs off n

def Msg.parse (be : Bool) (bs : List Byte) : Option Msg :=
  let g := numAt be bs
  if bs.length < 24 then none
  else some
    { version := g 0 1, type := g 1 1, flags := g 2 1, status := g 3 1, session := g 4 4, seq := g 8 4, index := g 12 2, sub := g 14 1,
      inst := g 15 1, offset := g 16 4, len := g 20 2, rsv := g 22 2, payload := slice bs 24 (g 20 2), tag := bs.drop (24 + g 20 2) }

/-- Header and payload in a path's byte order; the payload is as it stands. -/
def Msg.encode (m : Msg) (be : Bool) : List Byte :=
  let w := State.scalarBytes be
  w 1 m.version ++ w 1 m.type ++ w 1 m.flags ++ w 1 m.status ++ w 4 m.session ++ w 4 m.seq ++ w 2 m.index ++ w 1 m.sub ++ w 1 m.inst ++
  w 4 m.offset ++ w 2 m.len ++ w 2 m.rsv ++ m.payload

/-! The byte order of payloads -/

/-- A value in the other byte order. -/
def swapValue (idx sub : Nat) (bs : List Byte) : List Byte :=
  match objInfo idx sub with
  | some o => if o.ty.width = some bs.length then bs.reverse else bs
  | none => bs

/-- A list of items in the other byte order; `be` is the order it stands in. -/
def swapItems (be : Bool) (idx : Nat) : Nat → List Byte → List Byte
  | 0, bs => bs
  | n + 1, bs =>
    if bs.length < 4 then bs
    else
      let len := numAt be bs 2 2
      let all := 4 + roundUp len 4
      bs.take 2 ++ (slice bs 2 2).reverse ++ swapValue idx (nth 0 bs 0).toNat (slice bs 4 len) ++ slice bs (4 + len) (all - 4 - len) ++
      swapItems be idx n (bs.drop all)

/-- The payload of a message in the other byte order. -/
def Msg.swapped (m : Msg) (be : Bool) : List Byte :=
  let answer := bit m.flags 0
  if m.type = 1 ∧ answer = true then
    (if bit m.flags 1 then swapItems be m.index m.payload.length m.payload else swapValue m.index m.sub m.payload)
  else if m.type = 2 ∧ answer = false then
    (if bit m.flags 2 then swapItems be m.index m.payload.length m.payload else swapValue m.index m.sub m.payload)
  else if m.type = 0x10 then
    (if answer then m.payload.take 4 ++ (slice m.payload 4 4).reverse ++ (m.payload.drop 8).reverse else m.payload.reverse)
  else if m.type = 0x11 ∧ answer = false then m.payload.reverse
  else m.payload

/-! Requests -/

/-- The types that give OFFSET no meaning (R437). -/
def noOffset (t : Nat) : Bool := t == 6 || t == 7 || (decide (0x10 ≤ t) && decide (t ≤ 0x22))

/-- The types of requests (R438). -/
def requestType (t : Nat) : Bool :=
  (decide (1 ≤ t) && decide (t ≤ 7)) || t == 0x10 || t == 0x11 || t == 0x13 || t == 0x20 || t == 0x21 || t == 0x22

/-- Step 1 of R455: the header, and the item list of a MULTI write. A segment that is too long is answered with LENGTH (R447). -/
def Msg.wellMade (m : Msg) : Bool :=
  m.version == 1 && requestType m.type && m.status == 0 && m.rsv == 0 &&
  ((m.type == 5 && decide (1396 < m.len)) || (decide (m.len ≤ 1396) && m.payload.length == m.len)) &&
  decide (m.flags < 8) && !bit m.flags 0 && (!bit m.flags 1 || (m.type == 1 && m.sub == 0)) &&
  (!bit m.flags 2 || (m.type == 2 && m.sub == 0 && (State.itemList m.payload).isSome)) && (!noOffset m.type || m.offset == 0)

/-- What is served below Stage 1 (R448). -/
def Msg.early (m : Msg) : Bool :=
  m.type == 0x10 || m.type == 0x20 || m.type == 0x21 || m.type == 0x22 || (m.type == 1 && (m.index == 0x2000 || m.index == 0x2001))

/-- An answer: its header repeats the request's names (R438). -/
def Msg.answer (m : Msg) (a : Answer) (offset : Nat) (payload : List Byte) : Msg :=
  { m with version := 1, flags := m.flags % 8 / 2 * 2 + 1, status := a.code, offset := offset, len := payload.length, rsv := 0, payload := payload, tag := [] }

namespace State

/-- The requester of an established session. -/
def requesterOf (s : State) (ss : Session) : Requester := ⟨s.obj (0x2D10 + ss.credential) 1, s.obj (0x2D10 + ss.credential) 2, ss.key⟩

/-- A HEARTBEAT answer's payload (R451). -/
def heartbeatAnswer (s : State) : List Byte :=
  [BitVec.ofNat 8 s.level, 0, 0, 0] ++ beBytes 4 (s.obj 0x2001 3 % 2 ^ 32) ++ beBytes 8 s.flt.scorecard

/-- A notification has been acknowledged; an event that waits takes its place (R449). -/
def acknowledge (s : State) (k seq : Nat) : State :=
  match s.session k with
  | none => s
  | some ss =>
    let left := ss.unacked.filter (·.sequence != seq)
    match ss.waiting with
    | e :: es =>
      if left.length < 32 then (s.setSession k (some { ss with unacked := left, waiting := es })).notifySession k { ss with unacked := left, waiting := es } e
      else s.setSession k (some { ss with unacked := left })
    | [] => s.setSession k (some { ss with unacked := left })

/-- A well-made request that the controller serves: status, OFFSET and payload of the answer, and the state. A payload where the type has
none is judged at LENGTH, step 7 of R455. -/
def serve (s : State) (q : Requester) (k limit : Nat) (m : Msg) : Answer × Nat × List Byte × State :=
  let plain (r : Answer × State) : Answer × Nat × List Byte × State := (r.1, m.offset, [], r.2)
  let bare (r : Answer × Nat × List Byte × State) : Answer × Nat × List Byte × State :=
    if r.1 = .ok ∧ m.len ≠ 0 then (.length, m.offset, [], s) else r
  if m.type = 1 then
    bare (if bit m.flags 1 then
      match s.checkRead q m.index 0 m.inst m.offset false with
      | .ok =>
        let v := s.wholeFrom q m.index m.inst m.offset 0 (((recordOf m.index).map (·.objs.length)).getD 0 + 1)
        (.ok, m.offset, v.1, v.2)
      | c => plain (c, s)
     else match s.checkRead q m.index m.sub m.inst m.offset false with
      | .ok =>
        let v := s.readOne q m.index m.sub m.inst m.offset
        (.ok, m.offset, v.1, v.2)
      | c => plain (c, s))
  else if m.type = 2 then
    plain (s.writeAll q m.index m.inst m.offset (if bit m.flags 2 then (itemList m.payload).getD [] else [(m.sub, m.payload)]))
  else if m.type = 3 then bare (s.domainRead q k m.index m.sub m.inst m.offset limit)
  else if m.type = 4 then bare (plain (s.domainBegin q k m.index m.sub m.inst m.offset))
  else if m.type = 5 then plain (s.domainSegment q k m.index m.sub m.inst m.offset limit (padTo m.len m.payload))
  else if m.type = 6 then bare (plain (s.domainEnd q k m.index m.sub m.inst))
  else if m.type = 7 then bare (plain (s.domainAbort q k m.index m.sub m.inst))
  else if m.type = 0x10 then
    (if q.role ≠ 1 ∧ q.role ≠ 2 then plain (.denied, s)
     else if m.len ≠ 4 then plain (.length, s)
     else
      let t := s.heartbeatWrite (ofBe m.payload)
      (.ok, 0, t.heartbeatAnswer, t))
  else if m.type = 0x11 then
    (if q.role = 3 then plain (.denied, s)
     else if m.len ≠ 2 then plain (.length, s)
     else if bit (ofBe m.payload) 0 ∨ bit (ofBe m.payload) 15 then plain (.rejected, s)
     else match s.session k with
      | some ss => plain (.ok, s.setSession k (some { ss with mask := ofBe m.payload }))
      | none => plain (.rejected, s))
  else if m.type = 0x13 then plain (.ok, s.acknowledge k m.seq)
  else if m.type = 0x22 then plain (if k = 0 then (.rejected, s) else (.ok, s.closeSession k))
  else plain (.malformed, s)

/-- A request of a requester, through the checks of R455 and R448. -/
def handle (s : State) (q : Requester) (k limit : Nat) (m : Msg) : Msg × State :=
  let s1 := s.count 0x5900 1 1
  if !m.wellMade then (m.answer .malformed m.offset [], s1)
  else if s.level = 0 ∧ !m.early then (m.answer .busy m.offset [], s1)
  else
    let r := s1.serve q k limit m
    (m.answer r.1 r.2.1 r.2.2.1, r.2.2.2)

/-! Opening a session (R442) -/

/-- The data of the proofs and of the session key. -/
def proofData (label : Byte) (ss : Session) : List Byte :=
  [0x4A, 0x52, 0x4C, label] ++ ss.clientNonce ++ ss.deviceNonce ++ beBytes 4 ss.id ++ leBytes 1 ss.credential

/-- An established or half-open session has this ID. -/
def slotOf (s : State) (id : Nat) : Option Nat := (List.range 17).find? fun k => match s.session k with
  | some ss => ss.id == id
  | none => false

/-- A fresh SESSION: non-zero, and not in use. -/
def freshId (s : State) (r : Nat) : Nat :=
  let at_ (i : Nat) : Nat := 1 + (r + i) % (2 ^ 32 - 1)
  match firstBelow 17 fun i => (s.slotOf (at_ i)).isNone with
  | some i => at_ i
  | none => at_ 0

/-- A HELLO; none where it goes unanswered. -/
def hello (s : State) (m : Msg) : Option Msg × State :=
  let c := (nth 0 m.payload 0).toNat
  let s1 := s.count 0x5900 1 1
  if !m.wellMade ∨ m.session ≠ 0 then (some (m.answer .malformed m.offset []), s1)
  else if m.len ≠ 20 then (some (m.answer .length 0 []), s1)
  else if slice m.payload 1 3 ≠ [0, 0, 0] then (some (m.answer .rejected 0 []), s1)
  else if s.now < s.led.helloBlocked.num c then (none, s)
  else match (List.range 16).find? (fun k => (s.session (k + 1)).isNone) with
    | none => (some (m.answer .busy 0 []), s1)
    | some k =>
      let r := s1.randomBytes 20
      let id := s1.freshId (ofBe (r.1.take 4))
      let nonce := r.1.drop 4
      let ss : Session :=
        { id := id, credential := c, clientNonce := m.payload.drop 4, deviceNonce := nonce, key := none, openedAt := s.now, lastUse := s.now,
          lastSeq := 0, cached := [], mask := 0, notifyCtr := 0, unacked := [], waiting := [] }
      (some { m.answer .ok 0 nonce with session := id }, r.2.setSession (k + 1) (some ss))

/-- A failed AUTH; the eighth in a row silences the credential's HELLOs for 1 s. -/
def authFails (s : State) (c : Nat) : State :=
  let n := s.led.authFails.num c + 1
  let t := s.count 0x5900 3 1
  if n < 8 then { t with led := { t.led with authFails := t.led.authFails.setNum c n } }
  else { t with led := { t.led with authFails := t.led.authFails.setNum c 0, helloBlocked := t.led.helloBlocked.setNum c (t.now + 1000000000000) } }

/-- An AUTH; none where the message is discarded. -/
def auth (s : State) (m : Msg) : Option Msg × State :=
  let lost := (none, s.count 0x5900 2 1)
  let s1 := s.count 0x5900 1 1
  match s.slotOf m.session with
  | none => lost
  | some k =>
    match s.session k with
    | none => lost
    | some ss =>
      if ss.key.isSome ∨ ss.openedAt + 1000000000000 ≤ s.now then lost
      else if !m.wellMade then (some (m.answer .malformed m.offset []), s1)
      else if m.len ≠ 32 then (some (m.answer .length 0 []), s1)
      else match Sparse.get (fun _ => none) s.led.secrets ss.credential with
        | none => (some (m.answer .denied 0 []), s1.authFails ss.credential)
        | some secret =>
          if ss.credential < 32 ∧ s.obj (0x2D10 + ss.credential) 1 ≠ 0 ∧ m.payload = hmac256 secret (proofData 0x31 ss) then
            let key := hmac256 secret (proofData 0x4B ss)
            let t := s1.setSession k (some { ss with key := some key, lastUse := s.now })
            (some (m.answer .ok 0 (hmac256 secret (proofData 0x32 ss))),
              { t with led := { t.led with authFails := t.led.authFails.setNum ss.credential 0 } })
          else (some (m.answer .denied 0 []), s1.authFails ss.credential)

/-! Requests of a session (R444) -/

/-- An answer as it goes out: header, payload and tag, in network byte order. -/
def sealed (key : List Byte) (a : Msg) : List Byte := a.encode true ++ hmac256 key (a.encode true)

/-- A tagged request of a session, its tag verified: the answer to send, if any. -/
def sessionRequest (s : State) (k : Nat) (ss : Session) (key : List Byte) (limit : Nat) (m : Msg) : Option (List Byte) × State :=
  let d := subMod (2 ^ 32) m.seq ss.lastSeq
  let used := s.setSession k (some { ss with lastUse := s.now })
  if m.type = 0x13 then
    let r := used.handle (s.requesterOf ss) k limit m
    (some (sealed key r.1), r.2)
  else if d = 0 then (if ss.cached = [] then none else some ss.cached, used)
  else if 2 ^ 31 ≤ d then (none, s.count 0x5900 4 1)
  else
    let r := used.handle (s.requesterOf ss) k limit m
    let out := sealed key r.1
    (some out, match r.2.session k with
      | some s2 => if s2.id = ss.id then r.2.setSession k (some { s2 with lastSeq := m.seq, cached := out }) else r.2
      | none => r.2)

/-- A message whose tag is wrong or whose SESSION is unknown is discarded (R442). -/
def checkTag (s : State) (k : Nat) (m : Msg) : Option (Session × List Byte) :=
  match s.session k with
  | some ss =>
    (match ss.key with
    | some key => if m.session = ss.id ∧ m.tag = hmac256 key (m.encode true) then some (ss, key) else none
    | none => none)
  | none => none

/-- Send on M0. -/
def jorolSend (s : State) (o : Option (List Byte)) : State :=
  match o with
  | some b => s.emit (.jorol b)
  | none => s

/-- A tagged message that arrives on M0 for a session slot. -/
def jorolRequest (s : State) (k : Nat) (m : Msg) : State :=
  match s.checkTag k m with
  | some (ss, key) =>
    let r := s.sessionRequest k ss key 1396 m
    r.2.jorolSend r.1
  | none => s.count 0x5900 2 1

/-! The mailbox (R445, R446) -/

/-- A request of the mailbox, in network byte order: the answer in network byte order, if any. -/
def mailboxHandle (s : State) (v : Nat) (m : Msg) : Option (List Byte) × State :=
  let plain (r : Option Msg × State) : Option (List Byte) × State := (r.1.map fun a => a.encode true, r.2)
  if m.session = 0 then
    (if m.seq ≠ v then plain (some (m.answer .malformed m.offset []), s.count 0x5900 1 1)
     else if m.type = 0x20 then plain (s.hello m)
     else
      let r := s.handle .owner 0 1024 m
      plain (some r.1, r.2))
  else if m.type = 0x21 then plain (s.auth m)
  else match (s.slotOf m.session).bind fun k => (s.checkTag k m).map fun x => (k, x.1, x.2) with
    | some (k, ss, key) => s.sessionRequest k ss key 1024 m
    | none => (none, s.count 0x5900 2 1)

/-- An answer in the mailbox's byte order, its tag as it stands. -/
def mailboxBytes (a : List Byte) : List Byte :=
  match Msg.parse true a with
  | some m => { m with payload := m.swapped true }.encode false ++ m.tag
  | none => []

/-- A request that stands in the mailbox's buffer is handled and answered. -/
def mailboxRun (s : State) (v : Nat) (bytes : List Byte) : State :=
  match Msg.parse false bytes with
  | none => s
  | some m0 =>
    let m := { m0 with payload := m0.swapped false, tag := m0.tag.take 32 }
    match s.mailboxHandle v m with
    | (none, t) => t
    | (some a, t) =>
      let t1 := if t.led.mbBase = 0 then t else t.hostWrite 0 (t.led.mbBase + 0x800) (mailboxBytes a)
      let t2 := { t1 with led := { t1.led with mbDone := v } }
      if t2.led.mbIntEn then t2.sendVector 0 1 else t2

/-- A write of MB_DOORBELL. A request that reads as poisoned is a parity error (R330): it is ignored, and ERROR says so (log 95). -/
def doorbell (s : State) (v : Nat) : State :=
  if s.led.mbBusy ∨ s.led.mbBase = 0 then { s with led := { s.led with mbError := true } }
  else if s.mem.host.hasBad s.led.mbBase 0x800 then ({ s with led := { s.led with mbError := true } }).raiseSource 7
  else s.mailboxRun v (s.mem.host.readBytes s.led.mbBase 0x800)

/-! Notifications and expiries -/

/-- Send again every notification that has waited 10 ms (R449). -/
def notifyAgain (s : State) (k : Nat) : State :=
  match s.session k with
  | none => s
  | some ss =>
    let late (n : Notify) : Bool := decide (n.sentAt + 10000000000 ≤ s.now)
    let t := s.setSession k (some { ss with unacked := ss.unacked.map fun n => if late n then { n with sentAt := s.now } else n })
    (ss.unacked.filter late).foldl (fun st n => (st.count 0x5900 5 1).emit (.jorol (notifyMessage ss n))) t

/-- A half-open session expires 1 s after its HELLO. -/
def helloExpire (s : State) (k : Nat) : State :=
  match s.session k with
  | some ss => if ss.key.isNone ∧ ss.openedAt + 1000000000000 ≤ s.now then s.closeSession k else s
  | none => s

/-- A session closes when SESSION_IDLE passes without a request (R444). -/
def idleExpire (s : State) (k : Nat) : State :=
  match s.session k with
  | some ss => if ss.key.isSome ∧ ss.lastUse + s.obj 0x2D00 2 * 1000000000000 ≤ s.now then s.closeSession k else s
  | none => s

/-- A message of one of a row's types: on a session slot 1 to 16 it arrives on M0, and with 0 it stands in the mailbox. -/
def jorolRow (s : State) (p : Nat → Bool) (session : Nat) (bytes : List Byte) : State :=
  match Msg.parse (session != 0) bytes with
  | none => s
  | some m =>
    if !p m.type ∨ 16 < session then s
    else if session = 0 then s.mailboxRun m.seq bytes
    else s.jorolRequest session m

end State

/-! The commands -/

/-- The host's stores into the buffer are the command's operand (log 5). -/
def execMbDoorbellWrite (value : Nat) (hostStores : List Host.Cell) (s : State) : Host.Outcome State Fault Refusal :=
  let s1 := s.setHost (s.mem.host.apply hostStores)
  s.live (if s1.pageOpen 0 then s1.doorbell (value % 2 ^ 32) else s1)

/-- MB_STATUS: the read clears ERROR. -/
def execMbStatusRead (s : State) : Host.Outcome State Fault Refusal :=
  s.live (s.readPage 0 0x114 4)

/-- A write of a register page; a write that covers MB_DOORBELL rings it. -/
def execRegisterWrite (fid offset size value : Nat) (s : State) : Host.Outcome State Fault Refusal :=
  s.live (if !s.pageOpen fid then s
    else
      let t := s.pageWrite fid offset size value
      if fid = 0 ∧ offset = 0x108 ∧ (size = 4 ∨ size = 8) then t.doorbell (value % 2 ^ 32) else t)

/-- READ, and every TYPE that no other row names. -/
def execLedgerRead (session : Nat) (req : List Byte) (s : State) : Host.Outcome State Fault Refusal :=
  s.live (s.jorolRow (fun t => t == 1 || !requestType t) session req)

def execLedgerWrite (session : Nat) (req : List Byte) (s : State) : Host.Outcome State Fault Refusal :=
  s.live (s.jorolRow (· == 2) session req)

def execDomainRead (session : Nat) (req : List Byte) (s : State) : Host.Outcome State Fault Refusal :=
  s.live (s.jorolRow (· == 3) session req)

def execDomainBegin (session : Nat) (req : List Byte) (s : State) : Host.Outcome State Fault Refusal :=
  s.live (s.jorolRow (· == 4) session req)

def execDomainSegment (session : Nat) (req : List Byte) (s : State) : Host.Outcome State Fault Refusal :=
  s.live (s.jorolRow (· == 5) session req)

def execDomainEnd (session : Nat) (req : List Byte) (s : State) : Host.Outcome State Fault Refusal :=
  s.live (s.jorolRow (· == 6) session req)

def execDomainAbort (session : Nat) (req : List Byte) (s : State) : Host.Outcome State Fault Refusal :=
  s.live (s.jorolRow (· == 7) session req)

def execDomainTransferTimeout (session : Nat) (s : State) : Host.Outcome State Fault Refusal := s.live (s.domainExpire session)

def execHeartbeat (session : Nat) (req : List Byte) (s : State) : Host.Outcome State Fault Refusal :=
  s.live (s.jorolRow (· == 0x10) session req)

def execSubscribe (session : Nat) (req : List Byte) (s : State) : Host.Outcome State Fault Refusal :=
  s.live (s.jorolRow (· == 0x11) session req)

def execNotifyAck (session : Nat) (req : List Byte) (s : State) : Host.Outcome State Fault Refusal :=
  s.live (s.jorolRow (· == 0x13) session req)

def execClose (session : Nat) (req : List Byte) (s : State) : Host.Outcome State Fault Refusal :=
  s.live (s.jorolRow (· == 0x22) session req)

/-- HELLO arrives on M0 without a tag. -/
def execHello (req : List Byte) (s : State) : Host.Outcome State Fault Refusal :=
  s.live (match Msg.parse true req with
    | some m =>
      if m.type = 0x20 then
        let r := s.hello m
        r.2.jorolSend (r.1.map fun a => a.encode true)
      else s
    | none => s)

/-- AUTH arrives on M0 without a tag. -/
def execAuth (req : List Byte) (s : State) : Host.Outcome State Fault Refusal :=
  s.live (match Msg.parse true req with
    | some m =>
      if m.type = 0x21 then
        let r := s.auth m
        r.2.jorolSend (r.1.map fun a => a.encode true)
      else s
    | none => s)

def execHelloExpiry (session : Nat) (s : State) : Host.Outcome State Fault Refusal := s.live (s.helloExpire session)

def execSessionIdleExpiry (session : Nat) (s : State) : Host.Outcome State Fault Refusal := s.live (s.idleExpire session)

def execNotifyResend (session : Nat) (s : State) : Host.Outcome State Fault Refusal := s.live (s.notifyAgain session)

/-- RESET_COMMAND 1 by the Owner, through the mailbox or by a session of the Owner (R457). -/
def execResetCommand (session : Nat) (s : State) : Host.Outcome State Fault Refusal :=
  let owner := session = 0 ∨ (match s.session session with
    | some ss => ss.key.isSome && s.obj (0x2D10 + ss.credential) 1 == 1
    | none => false) = true
  s.live (if 0 < s.level ∧ owner then s.resetCause .command else s)

/-- A write of SECRET_LOAD through the mailbox with SESSION 0 (R443). -/
def execSecretLoad (credential : Nat) (blob : List Byte) (s : State) : Host.Outcome State Fault Refusal :=
  s.live (if 0 < s.level ∧ credential < 32 ∧ blob.length = 40 then (s.secretLoad .owner credential blob).getD s else s)

end Sys2Proof.Machine
end

