-- ==== Sys2Proof/Machine/Resets.lean ====
section
/-! DEFINITION. Machine/Resets.lean: the resets of R25: power-up and full reset (R479 to R483, R490, R491), the main rails and standby
(R328, R329, R505, R515), and the reset pins (R479, R492, R517). -/

namespace Sys2Proof.Machine

/-! What survives (R436, R481) -/

/-- Objects without /F that no reset returns to their default: WAKE_REASON (R329) and the secrets' states. -/
def keptObject (key : Nat) : Bool :=
  key == objKey 0x2581 0x0A 0 || (decide (objKey 0x2D10 4 0 ≤ key) && decide (key < objKey 0x2D30 0 0) && key / 65536 % 256 == 4)

/-- A neighbour's number as last reported in training (R170). -/
def neighbourObject (key : Nat) : Bool :=
  decide (objKey 0x2808 0 0 ≤ key) && decide (key < objKey 0x2810 0 0) && (key / 65536 % 256 == 3 || key / 65536 % 256 == 4)

/-- The object of a key has /F. -/
def flashObject (key : Nat) : Bool := ((objInfo (key / 16777216) (key / 65536 % 256)).map (·.flash)).getD false

/-- Event sources' lines fall with the work that was discarded. The conditions that end with a reset are 8, 9, 13 and 14. -/
def lineAfterReset (src : Nat) (l : FaultLine) : FaultLine :=
  if conditionSource src ∧ src ≠ 8 ∧ src ≠ 9 ∧ src ≠ 13 ∧ src ≠ 14 then l
  else if l.up then l.fallen else { l with again := false, pulse := false }

namespace State

/-- The collector's state at the start of a reset that keeps the scorecard (R473, R481). -/
def faultsAfterReset (s : State) : FaultState :=
  { s.flt with
    lines := (List.range 24).foldl (fun m k => Sparse.set (fun _ => FaultLine.down) m k (lineAfterReset k (s.line k))) s.flt.lines,
    runStart := Sparse.setNum [] 64 (s.tick + 1), lastWindow := [], injection := none, resetDue := none, inReset := true }

/-- Register pages after a reset: PF0 takes the vectors that the ledger allots (R334, R363). -/
def pagesAfterReset (s : State) : Sparse Fn :=
  (List.range 128).foldl
    (fun m f => Sparse.set Fn.default m f (Fn.reset (if f = 0 then (nth 0 (s.blob 0x2402 1) 0).toNat else (s.fn f).vectors))) []

/-- A PCIe link that a reset keeps: it is up if it was up, and has then been up since the reset (R481, R483). -/
def keptLink (l : PcieLink) : PcieLink := if l.up then { l with wasUp := true, downSince := none } else PcieLink.down

/-- M0 goes on through a full reset, its queues emptied. -/
def m0Only (s : State) : Sparse SubPort :=
  Sparse.set (fun _ => SubPort.reset) [] 32 { SubPort.reset with link := (s.sub 32).link, degraded := (s.sub 32).degraded }

/-- Discard all work, and return every block to its state after a full reset of a cause (R481). -/
def discardAll (s : State) (perst : Bool) : State :=
  { s with
    mem := { MemState.reset with dev := s.mem.dev, host := s.mem.host, peer := s.mem.peer }, cmp := ComputeState.reset,
    ring := { RingState.reset with
      fns := s.pagesAfterReset, p0 := if perst then PcieLink.down else keptLink s.ring.p0, p1 := keptLink s.ring.p1,
      p1BusMaster := s.ring.p1BusMaster, vfEnable := s.ring.vfEnable && !perst, numVfs := if perst then 0 else s.ring.numVfs },
    fab := FabricState.reset, eth := { EthState.reset with subs := s.m0Only, draws := s.eth.draws }, clu := ClusterState.reset,
    hrt := HrtState.reset, hands := HandState.reset,
    led := { s.led with
      vals := s.led.vals.keep fun k => flashObject k || keptObject k || neighbourObject k, blobs := s.led.blobs.keep flashObject, ctrs := [], rises := [], riseAt := [],
      domains := [], snapshots := [], chunkRun := none, mbBase := 0, mbDone := 0, mbIntEn := false, mbBusy := false, mbError := false,
      watchdog := .disarmed },
    cipher := { CipherState.reset with
      banks := s.cipher.banks, bankOk := s.cipher.bankOk, fusedSvn := s.cipher.fusedSvn, revoked := s.cipher.revoked },
    flt := s.faultsAfterReset,
    pw := { s.pw with
      bootReady := true, booted := false, bootStuck := false, dAt := if s.pw.perst0 then none else some s.now, stacksDone := 0,
      calibrated := false, trimsDone := 0, stepsDone := 0, lastStepAt := 0, kp := 0, kt := [], railMisses := [], energyRest := 0,
      sampled := false, thermed := false, testKept := s.pw.testKept || s.flt.injection.isSome, held := s.pw.perst0, stepDue := none, ppsInAt := none, lostD := 0, lostE := 0, lostP1 := false, resetAt := s.now } }

/-- The reset epoch rises, at once and in flash (R457). -/
def nextEpoch (s : State) : State :=
  let e := (s.obj 0x2001 3 + 1) % 2 ^ 64
  let t := s.setObj 0x2001 3 0 e
  { t with led := { t.led with flashVals := Sparse.set objDefault t.led.flashVals (objKey 0x2001 3 0) e } }

/-- SERVICE_LEVEL changes, with LEVEL_TIME (R457). -/
def setLevel (s : State) (l : Nat) : State := (s.setObj 0x2000 1 0 l).setObj 0x2000 3 0 s.deviceTime

/-- A full reset of a cause (R480, R481). -/
def fullReset (s : State) (c : ResetCause) : State :=
  let s1 := (((s.discardAll (c == .perst0)).nextEpoch).setObj 0x2001 2 0 c.code).newExchange
  let s2 := if s.level = 0 then s1.setObj 0x2000 3 0 (s.obj 0x2000 3) else (s1.setLevel 0).raiseJorol 0x0C 0 [0]
  s2.setCondition 2 (s.pw.railsOut != 0 || !s.pw.auxOk)

/-! Power (R479, R490, R491, R505) -/

/-- What the flash and the VDD_AUX domain hold stays; everything else is lost with the main rails. -/
def powerLost (s : State) : State :=
  let secret (c : Nat) : Option (List Byte) :=
    let b := Sparse.get blobDefault s.led.flashBlobs (objKey (0x2D10 + c) 3 0)
    if b.length = 32 then some b else none
  let wake := s.obj 0x2581 0x0A
  let t : State :=
    { State.reset with
      pending := s.pending, now := s.now, drawn := s.drawn, out := s.out,
      mem := { MemState.reset with dev := s.mem.dev.lose, host := s.mem.host, peer := s.mem.peer },
      led := { LedgerState.reset with
        vals := s.led.flashVals, blobs := s.led.flashBlobs.keep fun k => !(k / 65536 % 256 == 3 && decide (0x2D10 ≤ k / 16777216) && decide (k / 16777216 < 0x2D30)),
        flashVals := s.led.flashVals, flashBlobs := s.led.flashBlobs },
      eth := { EthState.reset with draws := s.eth.draws },
      cipher := { CipherState.reset with
        banks := s.cipher.banks, bankOk := s.cipher.bankOk, fusedSvn := s.cipher.fusedSvn, revoked := s.cipher.revoked },
      flt := { FaultState.reset with wakeAlert := s.flt.wakeAlert },
      pw := { PowerState.reset with
        perst0 := s.pw.perst0, perst1 := s.pw.perst1, auxOk := s.pw.auxOk, wakeEnable := s.pw.wakeEnable, wakePatterns := s.pw.wakePatterns,
        woken := s.pw.woken, boundary := s.pw.boundary } }
  let t1 := (List.range 32).foldl
    (fun st c => match secret c with
      | some v => ({ st with led := { st.led with secrets := Sparse.set (fun _ => none) st.led.secrets c (some v) } }).setObj (0x2D10 + c) 4 0 1
      | none => st) t
  t1.setObj 0x2581 0x0A 0 wake

/-- The causes of the SUPPLY condition (R471): each main rail out of its range, VDD_AUX, and each regulator without an answer. -/
def supplyCauses (s : State) : List Bool :=
  ((List.range 7).map (bit s.pw.railsOut)) ++ [!s.pw.auxOk] ++ (List.range 8).map fun r => s.pw.railMisses.num r != 0

/-- The SUPPLY condition after some of its causes have begun or ended (R471, R490, R498, R515). -/
def judgeSupply (s : State) (before : State) : State :=
  s.newCauses 2 ((s.supplyCauses.zip before.supplyCauses).countP fun x => x.1 && !x.2) (s.supplyCauses.any id)

/-- What flash holds is checked as it is read: a value that fails behaves as one that was never written (R472). Answers whether any failed. -/
def checkFlash (s : State) : Bool × State :=
  let good (k : Nat) : Bool := !Config.flashFails k s.drawn
  let t : State := { s with
    drawn := s.drawn + 1, led := { s.led with flashVals := s.led.flashVals.keep fun k => k == objKey 0x2001 3 0 || good k,
                                              flashBlobs := s.led.flashBlobs.keep good } }
  (t.led.flashVals.length != s.led.flashVals.length || t.led.flashBlobs.length != s.led.flashBlobs.length, t)

/-- A power-up: the last main rail enters its range, ROOT locks, flash is read, and M0 trains. -/
def powerUp (s : State) : State :=
  let f := s.checkFlash
  let s1 := f.2.powerLost
  let s2 := { s1 with
    pw := { s1.pw with mainUp := true, rootLocked := true, bootReady := true, dAt := if s1.pw.perst0 then none else some s1.now, resetAt := s1.now },
    ring := { s1.ring with fns := s1.pagesAfterReset },
    flt := { s1.flt with runStart := Sparse.setNum [] 64 (s1.tick + 1), inReset := true } }
  let s3 := (((((s2.nextEpoch).setObj 0x2001 2 0 0).newExchange).forceAll.trainPort 8)).judgeSupply State.reset
  if f.1 then s3.raiseSource 4 else s3

/-- A P1 link in use goes down (R362). -/
def p1Down (s : State) : State :=
  ({ s with ring := { s.ring with p1 := PcieLink.down, p1BusMaster := false } }.raiseSource 12).portEvent 1 3 1 0

/-! Wake frames (R328) -/

/-- Pattern bytes match a frame: 16 bytes of mask, then 128 of pattern. -/
def patternMatches (p f : List Byte) : Bool :=
  let used := (List.range 128).filter fun i => bit (nth 0 p (i / 8)).toNat (i % 8)
  !used.isEmpty && used.all fun i => decide (i < f.length) && nth 0 f i == nth 0 p (16 + i)

/-- Six bytes of 0xFF and sixteen copies of M0's address, anywhere after the source address. -/
def magicFrame (mac f : List Byte) : Bool :=
  let body := List.replicate 6 0xFF ++ (List.replicate 16 mac).flatten
  (List.range (f.length - 12)).any fun i => slice f (12 + i) body.length == body

/-- WAKE_REASON for a frame; 0 where it wakes nothing. -/
def wakeReason (s : State) (f : List Byte) : Nat :=
  match firstBelow 8 (fun p => bit s.pw.wakeEnable p && patternMatches (s.pw.wakePatterns.getD p []) f) with
  | some p => p + 1
  | none => if bit s.pw.wakeEnable 8 ∧ magicFrame (s.blob 0x2580 4) f then 9 else 0

/-- The detector's first wake of a standby period (R329). -/
def wake (s : State) (f : List Byte) : State :=
  let r := s.wakeReason f
  if s.pw.mainUp ∨ !s.pw.auxOk ∨ s.pw.woken ∨ f.length < 64 ∨ 1522 < f.length ∨ !fcsOk f ∨ r = 0 then s
  else
    let t := s.setObj 0x2581 0x0A 0 r
    { t with pw := { t.pw with woken := true }, flt := { t.flt with wakeAlert := true } }

/-! The reset pins -/

/-- PERST0_N is asserted, for long enough to pass its glitch filter (R517, log 153): a cause of a full reset, and the reset of P0's functions (R362, R480, R482). -/
def perst0Down (s : State) : State :=
  let s1 := { s with pw := { s.pw with perst0 := true, dAt := if s.level = 0 then none else s.pw.dAt, held := s.pw.held || s.flt.inReset } }
  if !s.pw.mainUp ∨ s.pw.tripped ∨ s.pw.perst0 then s1
  else ({ s1 with ring := { s1.ring with p0 := PcieLink.down } }).resetCause .perst0

/-- PERST0_N is deasserted: D, unless a full reset has still to begin (R492); a standby wake's ALERT_N ends (R329). -/
def perst0Up (s : State) : State :=
  { s with
    pw := { s.pw with perst0 := false, held := false, dAt := if s.pw.perst0 ∧ s.pw.mainUp ∧ s.flt.resetDue.isNone then some s.now else s.pw.dAt },
    flt := { s.flt with wakeAlert := s.flt.wakeAlert && !s.pw.mainUp } }

end State

/-! The commands -/

def execPowerGood (s : State) : Host.Outcome State Fault Refusal := .next (if s.pw.mainUp then s else s.powerUp)

/-- The main rails fall: the device is in standby, and a new standby period begins (R328, R505). -/
def execMainRailsDown (s : State) : Host.Outcome State Fault Refusal :=
  .next (if s.pw.mainUp then
      let t := s.powerLost
      { t with pw := { t.pw with woken := false } }
    else s)

/-- A main rail leaves its range: positions 0 to 6 of R458. -/
def execMainRailExcursion (rail : Nat) (s : State) : Host.Outcome State Fault Refusal :=
  .next (if s.pw.mainUp ∧ rail < 7 then ({ s with pw := { s.pw with railsOut := maskOr s.pw.railsOut (2 ^ rail) } }).judgeSupply s else s)

def execMainRailReturn (rail : Nat) (s : State) : Host.Outcome State Fault Refusal :=
  .next (if s.pw.mainUp ∧ rail < 7 then ({ s with pw := { s.pw with railsOut := maskClear s.pw.railsOut (2 ^ rail) } }).judgeSupply s else s)

def execVddAuxExcursion (inRange : Bool) (s : State) : Host.Outcome State Fault Refusal :=
  .next (if !s.pw.mainUp then s
    else
      let t := { s with pw := { s.pw with auxOk := inRange } }
      (if inRange then t.copyWake else t).judgeSupply s)

def execWakeFrameReceive (frame : List Byte) (s : State) : Host.Outcome State Fault Refusal := .next (s.wake frame)

def execPerst0Assert (s : State) : Host.Outcome State Fault Refusal := .next s.perst0Down

def execPerst0Deassert (s : State) : Host.Outcome State Fault Refusal := .next s.perst0Up

/-- PERST1_N, asserted for long enough to pass its glitch filter (R517, log 153), resets P1 and the peer function alone (R362, R479). -/
def execPerst1Assert (s : State) : Host.Outcome State Fault Refusal :=
  .next (
    let t := { s with pw := { s.pw with perst1 := true } }
    if s.running ∧ s.ring.p1.up then t.p1Down else { t with ring := { t.ring with p1BusMaster := false } })

def execPerst1Deassert (s : State) : Host.Outcome State Fault Refusal := .next { s with pw := { s.pw with perst1 := false } }

/-- The reset whose cause has come begins, and completes. -/
def execFullReset (s : State) : Host.Outcome State Fault Refusal :=
  s.live (match s.flt.resetDue with
    | some (c, _) => s.fullReset c
    | none => s)

/-! The PCIe links (R19, R362, R483) -/

def execP0DlDown (s : State) : Host.Outcome State Fault Refusal :=
  s.live (if s.ring.p0.up then { s with ring := { s.ring with p0 := { s.ring.p0 with up := false, downSince := some s.now } } } else s)

namespace State

/-- P0 has been down for the time that R19 allows. -/
def p0Late (s : State) (t : Nat) : Bool := !s.ring.p0.up && s.ring.p0.wasUp && decide (t + 1000000000 ≤ s.now)

/-- P0 is up: held posted writes go on, in order. -/
def p0Up (s : State) (speed width : Nat) (flit : Bool) : State :=
  let held := s.mem.p0Held
  held.foldl (fun st h => match h.vector with
      | none => st.hostWrite h.fid h.addr h.bytes
      | some v => (st.setFn h.fid { st.fn h.fid with lastMessage := some st.now }).emit (.msix h.fid v h.addr (leAt h.bytes 0 4)))
    { s with ring := { s.ring with p0 := ⟨true, true, none, speed, width, flit⟩ }, mem := { s.mem with p0Held := [] } }

end State

/-- A speed and a width that LINK_SPEED and LINK_WIDTH have codes for (R363). -/
def linkTrains (speed width : Nat) : Bool := decide (1 ≤ speed) && decide (speed ≤ 6) && (width == 4 || width == 8 || width == 16)

/-- The link trains from D (R492), and not while the boot ROM stays at Stage 0 (R426). A return later than 1 ms finds the reset of R19
due. -/
def execP0DlUp (speed width : Nat) (flit : Bool) (s : State) : Host.Outcome State Fault Refusal :=
  s.live (if s.ring.p0.up ∨ s.pw.perst0 ∨ s.pw.dAt.isNone ∨ s.pw.bootStuck ∨ !linkTrains speed width then s
    else
      let late : Bool := s.ring.p0.wasUp && (s.ring.p0.downSince.map fun t => decide (t + 1000000000 < s.now)).getD false
      let t := s.p0Up speed width flit
      if late then t.resetCause .p0LinkLoss else t)

def execP0LinkLossTimeout (s : State) : Host.Outcome State Fault Refusal :=
  s.live (match s.ring.p0.downSince with
    | some t =>
      if !s.p0Late t then s
      -- Before Stage 1 is reached again the cause merges into the reset that is under way (R482).
      else if s.flt.inReset then { s with ring := { s.ring with p0 := PcieLink.down } }
      else s.resetCause .p0LinkLoss
    | none => s)

def execP1LinkDown (s : State) : Host.Outcome State Fault Refusal := s.live (if s.ring.p1.up then s.p1Down else s)

/-- P1 trains from Stage 2 (R330, R494). What its host then writes to Bus Master Enable of the peer function is a free value, drawn anew
by a repeat of the command with P1 up (R332; DESIGN CHOICE, log 60). -/
def execP1DlUp (speed width : Nat) (flit : Bool) (s : State) : Host.Outcome State Fault Refusal :=
  let d := s.freeNat 1
  let t := { d.2 with ring := { d.2.ring with p1BusMaster := d.1 == 1 } }
  s.live (if s.pw.perst1 ∨ s.level < 2 ∨ !linkTrains speed width then s
    else if s.ring.p1.up then t
    else ({ t with ring := { t.ring with p1 := ⟨true, true, none, speed, width, flit⟩ } }).portEvent 2 3 1 0)

end Sys2Proof.Machine
end

