-- ==== Sys2Proof/Machine/Bringup.lean ====
section
/-! DEFINITION. Machine/Bringup.lean: "Clocks, bring-up and power": the boot ROM, Stages 1 and 2 (R491 to R495, R76, R77), loss and
return of ROOT (R487), the governor (R498, R499), temperature (R58, R501 to R503), stack interfaces (R472, R493), and one tick. -/

namespace Sys2Proof.Machine

namespace State

/-! Stage 0 and Stage 1 (R425, R491 to R493) -/

/-- A PMBus read of a command from the regulator of each rail, in rail order: addresses 0x40 + r, page 0 (R497). -/
def pmbusReads (s : State) (commands : List Nat) : State :=
  (List.range 8).foldl (fun st r => commands.foldl (fun u c => u.emit (.pmbus (0x40 + r) 0 c)) st) s

/-- The boot ROM starts, unless PERST0_N keeps the device in reset (R480): the mode pins are sampled, VOUT_MODE of each regulator is read,
and the images are checked (R425, R478, R491, R520). -/
def bootRom (s : State) : State :=
  if !s.pw.mainUp ∨ !s.pw.bootReady ∨ s.pw.held then s
  else
    (({ s with
      drawn := s.drawn + 1, cipher := { s.cipher with running := none },
      pw := { s.pw with
        bootReady := false, testmode := if s.pw.testKept then s.pw.testmode else Config.testPins s.drawn, testKept := false,
        voutMode := (List.range 8).foldl (fun m r => m.setNum r (Config.voutMode r s.drawn % 256)) s.pw.voutMode } }).pmbusReads [0x20]).boot

/-- The next stack is brought up; one whose interface has been reported lost does not train and stays OFF (R493). -/
def bringUp (s : State) (k : Nat) : State :=
  if k ≠ s.pw.stacksDone ∨ 8 ≤ k ∨ !s.pw.booted ∨ s.recovery ∨ s.level ≠ 0 ∨ s.pw.held then s
  else
    let t := { s with pw := { s.pw with stacksDone := k + 1 } }
    if (s.stack k).lost then t.setCondition (16 + k) true
    else (t.setStack k { s.stack k with up := true, clock := .mhz800, cycleAt := s.now }).setCondition (16 + k) false

/-- The staged route table comes into force, or the table that reaches nothing (R190). -/
def installRoutes (s : State) : State :=
  if s.stagedOk then ({ s with fab := { s.fab with active := s.blob 0x2801 2 } }).setObj 0x2800 2 0 (s.obj 0x2801 3)
  else ({ s with fab := { s.fab with active := [] } }).setObj 0x2800 2 0 0

/-- D ports with LINK_ENABLE 1 enter TRAINING (R168). -/
def trainDerone (s : State) : State :=
  (List.range 8).foldl (fun st p => if st.obj (0x2808 + p) 1 = 1 then st.startTraining p else st) s

/-- The cluster's services start: all five (R385, R386). -/
def clusterStarts (s : State) : State := ((s.setObj 0x2C00 1 0 1).setObj 0x2C00 3 0 0x1F).streamsRestart

/-- Stage 1 may be entered: the boot checks have passed, every stack has been tried, and PERST0_N is deasserted (R492). -/
def stage1Ready (s : State) : Bool :=
  s.level == 0 && s.pw.mainUp && s.pw.booted && !s.pw.perst0 && s.pw.dAt.isSome && (s.recovery || s.pw.stacksDone == 8)

/-- Entry to Stage 1 (R492), and T1 of R494. A P0 loss whose time ended before it has merged into the reset (R482). The recovery firmware offers PF0, the ledger and Jorol alone (R426). -/
def stage1 (s : State) : State :=
  let s1 := ((s.forceAll).setLevel 1).setObj 0x2B00 1 0 0
  let late := (s1.ring.p0.downSince.map s1.p0Late).getD false
  let s2 := { s1 with flt := { s1.flt with inReset := false }, ring := { s1.ring with p0 := if late then PcieLink.down else s1.ring.p0 } }
  let s3 := if s2.recovery then s2 else ((s2.clusterStarts).trainPort 0).installRoutes.trainDerone
  let s4 := s3.raiseDevice 0x0C 0 [1]
  if s.obj 0x2001 2 = 5 then s4.raiseJorol 0x0E 0 (leBytes 4 (s.obj 0x2001 3 % 2 ^ 32)) else s4

/-! The way to Stage 2 (R76, R77, R494) -/

/-- The first stack from k on that is up. -/
def nextStack (s : State) (k : Nat) : Option Nat := (List.range 8).find? fun i => k ≤ i && (s.stack i).up

/-- Running benches of a stack resume through the wake governor (R73, R76). While one waits for its grant it stays RUNNING, and RUN_CYCLES goes
on counting (R72, R79; DESIGN CHOICE, log 147). -/
def resumeStack (s : State) (k : Nat) : State :=
  (List.range 64).foldl (fun st b => if (st.bench (64 * k + b)).run = .running then st.askWake (64 * k + b) else st) s

def trimFailed (s : State) : Bool := (List.range 8).any fun k => (s.stack k).trimFailed

/-- The trim of the next stack ends (R76, R77). -/
def trim (s : State) (k : Nat) (passed : Bool) : State :=
  if s.level ≠ 1 ∨ !s.pw.calibrated ∨ s.trimFailed ∨ s.nextStack s.pw.trimsDone ≠ some k then s
  else
    let t := ({ s with pw := { s.pw with trimsDone := k + 1 } }).setStack k { s.stack k with trimmed := passed, trimFailed := !passed }
    (if passed then t else t.setCondition 8 true).resumeStack k

/-- Every stack that is up has passed its trim. -/
def allTrimmed (s : State) : Bool := s.pw.calibrated && !s.trimFailed && (s.nextStack s.pw.trimsDone).isNone

/-- The clock step of the next stack, 100 µs after the one before (R76). -/
def clockStep (s : State) (k : Nat) : State :=
  if s.level ≠ 1 ∨ !s.allTrimmed ∨ s.nextStack s.pw.stepsDone ≠ some k ∨ (s.pw.stepsDone ≠ 0 ∧ s.now < s.pw.lastStepAt + 100000000) then s
  else
    let t := s.settleStack k
    (({ t with pw := { t.pw with stepsDone := k + 1, lastStepAt := s.now } }).setStack k { t.stack k with clock := .mhz1600 }).resumeStack k

/-- Stage 2 may be entered: every stack that is up has had its clock step. -/
def stage2Ready (s : State) : Bool := s.level == 1 && !s.recovery && s.allTrimmed && (s.nextStack s.pw.stepsDone).isNone

/-- The descriptors of a raw queue on E0.0 that are posted and not sent complete with FLUSHED (R385). -/
def flushPosted (s : State) (q : Nat) : State :=
  match s.raw q with
  | some r => if s.rawPort q = 0 ∧ s.rawLane q = 0 then s.rawFlush q r.closing else s
  | none => s

/-- E0.0 goes DOWN on the entry to Stage 2, and what used it ends (R307, R385). -/
def leaveE0 (s : State) : State :=
  let up := (s.sub 0).link = .up
  let s1 := (s.dropSub 0 0 .disabled)
  let s2 := if up then s1.count (ethCtr 0) 0x13 1 else s1
  let s3 := (List.range 32).foldl flushPosted s2
  (List.range 64).foldl
    (fun st c => if (st.connState c = 1 ∨ st.connState c = 2) ∧ st.obj (connObj c) 4 / 16 % 8 = 0 ∧ st.obj (connObj c) 4 % 4 = 0 then
        st.leaveConn c 3 9 none else st) s3

/-- Entry to Stage 2 (R494); in factory test mode the cipher engine stays RESTRICTED (R408). -/
def stage2 (s : State) : State :=
  let s1 := ((s.leaveE0).setLevel 2).setObj 0x2B00 1 0 (bnat !s.pw.testmode)
  ((List.range 8).foldl trainPort s1).raiseDevice 0x0C 0 [2]

/-! ROOT (R487) -/

/-- Items whose bytes are undefined from now on, and the state after they are drawn. -/
def freshAll {α : Type} (size : α → Nat) (put : α → List Byte → α) : List α → State → List α × State
  | [], s => ([], s)
  | x :: xs, s =>
    let b := s.freeBytes (size x)
    let r := freshAll size put xs b.2
    (put x b.1 :: r.1, r.2)

def freshBytes : List (List Byte) → State → List (List Byte) × State := freshAll List.length fun _ b => b
def freshFrames : List RxFrame → State → List RxFrame × State := freshAll (·.bytes.length) fun x b => { x with bytes := b }
def freshHands : List HandPkt → State → List HandPkt × State := freshAll (·.data.length) fun x b => { x with data := b }

/-- A held request: its key, offset, length and operands are undefined. -/
def freshHeld : List HrtPkt → State → List HrtPkt × State :=
  freshAll (fun p => 32 + p.payload.length) fun p b =>
    { p with key := leAt b 0 4, roff := leAt b 4 8, len := leAt b 12 4, operand := leAt b 16 8, compare := leAt b 24 8, payload := b.drop 32 }

/-- The kitty's contents are undefined: the staged records, the HRT frames and held requests, the stored packets, the data of hands, of
Derone transfers, of raw queues and of NVME_IOs. What they are and whose is kept, because the work resumes (R487, log 145). -/
def loseKitty (s : State) : State :=
  let s1 := s.ring.fns.foldl (fun st kv =>
    let r := freshBytes kv.2.staged st
    r.2.setFn kv.1 { kv.2 with staged := r.1 }) s
  let s2 := s1.hrt.qps.foldl (fun st kv =>
    let k := freshAll (fun x : Nat × List Byte => x.2.length) (fun x b => (x.1, b)) kv.2.kept st
    let h := freshHeld kv.2.held k.2
    h.2.setQp kv.1 { kv.2 with kept := k.1, held := h.1 }) s1
  let f := freshFrames s2.eth.hrtIn s2
  let s3 := { f.2 with eth := { f.2.eth with hrtIn := f.1 } }
  let s4 := s3.hands.tables.foldl (fun st kv => match kv.2 with
    | none => st
    | some c =>
      let i := freshHands c.inbox st
      match c.running with
      | none => i.2.setTable kv.1 (some { c with inbox := i.1 })
      | some h =>
        let a := freshHands h.staged i.2
        let b := freshHands h.held a.2
        b.2.setTable kv.1 (some { c with inbox := i.1, running := some { h with staged := a.1, held := b.1 } })) s3
  let x := freshAll (fun v : Xfer => v.data.length) (fun v b => { v with data := b }) s4.fab.xfers s4
  let s5 := { x.2 with fab := { x.2.fab with xfers := x.1 } }
  let s6 := s5.clu.raws.foldl (fun st kv => match kv.2 with
    | none => st
    | some q =>
      let r := freshFrames q.inbox st
      r.2.setRaw kv.1 (some { q with inbox := r.1 })) s5
  s6.clu.ios.foldl (fun st i =>
    let r := freshAll (fun m : NvmeCmd => (m.part.map fun x => x.2.length).sum) (fun m b => { m with part := m.freshParts b }) i.cmds st
    r.2.setIo { i with cmds := r.1 }) s6

/-- ROOT loses lock: every divided clock stops, memory contents are lost, and every port is down. What the ports' passages to
DOWN raise waits for the restart. -/
def rootLost (s : State) : State :=
  let dUp := ((List.range 8).map fun p => if s.obj (0x2808 + p) 2 = 2 then 2 ^ p else 0).sum
  let eUp := ((List.range 33).map fun k => if (s.sub k).link = .up then 2 ^ k else 0).sum
  let s1 := (List.range 8).foldl (fun st p => if bit dUp p then st.setObj (0x2808 + p) 2 0 3 else st) s
  let s2 := (List.range 33).foldl (fun st k => if bit eUp k then st.setSub k { st.sub k with link := .down } else st) s1
  let s2 := s2.loseKitty
  let s3 := { s2 with
    mem := { s2.mem with dev := s2.mem.dev.lose },
    ring := { s2.ring with p0 := { s2.ring.p0 with up := false }, p1 := { s2.ring.p1 with up := false } },
    pw := { s2.pw with rootLocked := false, lostD := dUp, lostE := eUp, lostP1 := s.ring.p1.up } }
  s3.setCondition 1 true

/-- The ports' passages to DOWN at the restart. -/
def tellPorts (s : State) : State :=
  let s1 := (List.range 8).foldl (fun st p => if bit s.pw.lostD p then st.deroneDown p else st) s
  let s2 := (List.range 33).foldl
    (fun st k => if bit s.pw.lostE k then (st.setSub k { st.sub k with link := .up }).subDown (k / 4) (k % 4) else st) s1
  let s3 := if s.pw.lostP1 then s2.p1Down else s2
  { s3 with pw := { s3.pw with lostD := 0, lostE := 0, lostP1 := false } }

/-- ROOT locks again: the collector counts the event of line 1 at its first tick, and P0's 1 ms runs from the restart. -/
def rootBack (s : State) : State :=
  let p := s.ring.p0
  let l := s.line 1
  ({ s with
    pw := { s.pw with rootLocked := true },
    ring := { s.ring with p0 := { p with downSince := if p.wasUp then some s.now else p.downSince } } }.setLine 1
      { l with pulse := l.up || l.again }).tellPorts

/-! The governor (R498, R499) -/

/-- m × 2^e thousandths, e a signed field of 5 bits (PMBus's LINEAR formats; PRESUMED, log 110). -/
def linear (m e : Nat) : Nat := if e < 16 then 1000 * m * 2 ^ e else 1000 * m / 2 ^ (32 - e)

/-- READ_VOUT in mV: the word by the exponent of VOUT_MODE; in a mode other than linear a free value. -/
def voutOf (s : State) (r raw : Nat) : Nat × State :=
  let m := s.pw.voutMode.num r
  if m / 32 = 0 then (linear raw (m % 32), s) else s.freeNat 32

/-- READ_IOUT in mA: LINEAR11, a negative current as 0. -/
def ioutOf (raw : Nat) : Nat := if bit raw 10 then 0 else linear (raw % 1024) (raw / 2048)

/-- One rail of a sample: the words of READ_VOUT and READ_IOUT, or no answer. -/
def takeRail (s : State) (r vout iout : Nat) : State :=
  if 0x10000 ≤ vout ∨ 0x10000 ≤ iout then { s with pw := { s.pw with railMisses := s.pw.railMisses.setNum r (s.pw.railMisses.num r + 1) } }
  else
    let v := s.voutOf r vout
    { v.2 with pw := { v.2.pw with
    railMv := v.2.pw.railMv.setNum r (v.1 % 2 ^ 32), railMa := v.2.pw.railMa.setNum r (ioutOf iout), railMisses := v.2.pw.railMisses.setNum r 0 } }

/-- k_p after a sample of power in mW against a limit in W; `blind` for a rail that has not answered four times running. -/
def nextKp (kp mw limit : Nat) (blind : Bool) : Nat :=
  if blind then min 63 (kp + 4)
  else if 1000 * limit < mw then min 63 (kp + ceilDiv (64 * (mw - 1000 * limit)) mw)
  else if mw ≤ 1000 * (limit - limit / 50) then kp - 1
  else kp

/-- A throttle value rises from 0: its event is raised once (R499, R502). -/
def throttleEvent (s : State) (code domain old new skipped : Nat) : State :=
  if old = 0 ∧ new ≠ 0 then s.raiseDevice code domain [BitVec.ofNat 8 domain, BitVec.ofNat 8 skipped] else s

/-- A sample of all eight rails: the words of READ_VOUT and READ_IOUT in turn. One that is missing, or no word of 16 bits, stands for a
transaction that is not acknowledged or fails its PEC (R498). -/
def governorSample (s : State) (readings : List Nat) : State :=
  let s1 := (List.range 8).foldl
    (fun st r => st.takeRail r (nth 0x10000 readings (2 * r)) (nth 0x10000 readings (2 * r + 1))) (s.settleCycles.pmbusReads [0x8B, 0x8C])
  let mw := s1.powerNow
  let blind := (List.range 8).any fun r => 4 ≤ s1.pw.railMisses.num r
  let kp := nextKp s.pw.kp mw (s.obj 0x2101 1) blind
  let e := s.pw.energyRest + mw
  let s2 := { s1 with pw := { s1.pw with kp := kp, sampled := true, energyRest := e % 1000 } }
  ((s2.count 0x5A00 3 (e / 1000)).judgeSupply s).throttleEvent 0x0B 0 s.pw.kp kp kp

/-! Temperature (R58, R501 to R503) -/

/-- Throttle, limit and trip levels of a domain in m°C. -/
def throttleAt (d : Nat) : Int := if d = 0 then 100000 else 90000
def limitAt (d : Nat) : Int := if d = 0 then 105000 else 95000
def tripAt (d : Nat) : Int := if d = 0 then 115000 else 105000

/-- k_t after a reading. -/
def nextKt (kt d : Nat) (t : Int) : Nat :=
  if throttleAt d ≤ t then min 63 (kt + 2) else if t < throttleAt d - 3000 then kt - 1 else kt

/-- The refresh interval's hysteresis (R58). -/
def nextHot (hot : Bool) (t : Int) : Bool := if 85000 ≤ t then true else if t < 82000 then false else hot

/-- One domain's reading. -/
def takeTemp (s : State) (d raw : Nat) : State :=
  let t := signed 32 raw
  let s1 := s.setObj 0x2103 (d + 1) 0 (raw % 2 ^ 32)
  let s2 := { s1 with pw := { s1.pw with kt := s1.pw.kt.setNum d (nextKt (s1.pw.kt.num d) d t) } }
  if d = 0 then s2 else s2.setStack (d - 1) { s2.stack (d - 1) with hot := nextHot (s2.stack (d - 1)).hot t }

/-- The greatest skip that a domain concerns: its stack's, or any stack's for the hub. -/
def skipOfDomain (s : State) (d : Nat) : Nat :=
  if d = 0 then ((List.range 8).map s.skipOf).foldl max 0 else s.skipOf (d - 1)

/-- The nine domains are read. At a trip the device stops, and writes no record. -/
def thermalReading (s : State) (temps : List Nat) : State :=
  let ts := temps.take 9
  let s1 := (ts.zipIdx).foldl (fun st x => st.takeTemp x.2 x.1) s.settleCycles
  let exceeds (lv : Nat → Int) : Bool := (ts.zipIdx).any fun x => decide (lv x.2 ≤ signed 32 x.1)
  let before (d : Nat) : Bool := !s.pw.thermed || decide (limitAt d ≤ signed 32 (s.obj 0x2103 (d + 1)))
  let new := (ts.zipIdx).countP fun x => decide (limitAt x.2 ≤ signed 32 x.1) && !before x.2
  let s2 := ({ s1 with pw := { s1.pw with thermed := true } }).newCauses 3 new (exceeds limitAt)
  if exceeds tripAt then { s2 with pw := { s2.pw with tripped := true } }
  else
    (ts.zipIdx).foldl (fun st x => st.throttleEvent 0x0A x.2 (s.pw.kt.num x.2) (s2.pw.kt.num x.2) (s2.skipOfDomain x.2)) s2

/-! Stack interfaces (R472) -/

/-- A page move that is being copied through a lost interface fails with DATA_PARITY; its leaf is unchanged (R146). -/
def failMove (s : State) (k : Nat) (m : PageMove) : State :=
  let onStack (p : Piece) : Bool := match p with
    | .dev off _ => stackOf off == k
    | _ => false
  if !(m.dst :: m.src).any onStack then s
  else match s.findEntry m.drawer m.entry with
    | some e =>
      (({ s with mem := { s.mem with moves := s.mem.moves.filter (· != m) } }).parityMet (.dev (k * 2 ^ 36) 1)).moveFails m.drawer e m.evict 0x0B
        m.base
    | none => s

/-- The interface of a stack reports an error or a loss of training. -/
def interfaceLost (s : State) (k : Nat) : State :=
  if 8 ≤ k ∨ (s.stack k).lost then s
  else
    let t := s.setStack k { s.stack k with lost := true }
    if (s.stack k).up then ((t.mem.moves.foldl (fun st m => st.failMove k m) t).parityTransfers k).setCondition (16 + k) true else t

/-- The interface has retrained. A stack that was left OFF is tried again only after the next reset. -/
def interfaceBack (s : State) (k : Nat) : State :=
  if 8 ≤ k ∨ !(s.stack k).lost ∨ (!(s.stack k).up ∧ k < s.pw.stacksDone) then s
  else (s.setStack k { s.stack k with lost := false }).setCondition (16 + k) false

/-! One tick of CK_TICK -/

/-- What waits for no command of its own: FLRs, chunk commands in progress, completions and records of raw queues, and the refresh of
neighbours. -/
def tickWaits (s : State) : State :=
  let s1 := (List.range 128).foldl (fun st f => if (st.fn f).flrAt.isSome then st.flrSettle f else st) s
  let s2 := if s1.led.chunkRun.isSome then s1.chunkResume else s1
  s2.rawsGoOn.refreshNeighbours

/-- 10 ns pass: the counter, the collector, and the throttled times (R465, R469, R488). -/
def tickOnce (s : State) : State :=
  if !s.running then s
  else
    let s1 := (({ s with now := s.now + 10000 }).tickTime).tickFaults
    let s2 := if s1.pw.kp = 0 then s1 else s1.count 0x5A00 1 10
    (if (List.range 9).any fun d => s2.pw.kt.num d != 0 then s2.count 0x5A00 2 10 else s2).tickWaits

end State

/-! The commands -/

def execBootRomRun (s : State) : Host.Outcome State Fault Refusal := s.live s.bootRom

def execStackBringup (stack : Nat) (s : State) : Host.Outcome State Fault Refusal := s.live (s.bringUp stack)

def execStage1Entry (s : State) : Host.Outcome State Fault Refusal := s.live (if s.stage1Ready then s.stage1 else s)

/-- The receivers of the D lanes, of E0's lanes 1 to 3, of E1 to E7 and of P1 have been adapted. -/
def execLaneCalibration (s : State) : Host.Outcome State Fault Refusal :=
  s.live (if s.level = 1 ∧ !s.recovery then { s with pw := { s.pw with calibrated := true } } else s)

def execStackTrim (stack : Nat) (passed : Bool) (s : State) : Host.Outcome State Fault Refusal := s.live (s.trim stack passed)

def execClockStep (stack : Nat) (s : State) : Host.Outcome State Fault Refusal := s.live (s.clockStep stack)

def execStage2Entry (s : State) : Host.Outcome State Fault Refusal := s.live (if s.stage2Ready then s.stage2 else s)

def execRootLockLoss (s : State) : Host.Outcome State Fault Refusal := .next (if s.pw.mainUp ∧ s.pw.rootLocked then s.rootLost else s)

def execRootLockRestore (s : State) : Host.Outcome State Fault Refusal :=
  .next (if s.pw.mainUp ∧ !s.pw.rootLocked ∧ !s.pw.tripped then s.rootBack else s)

/-- From Stage 1 the governor samples (R498). -/
def execGovernorSample (readings : List Nat) (s : State) : Host.Outcome State Fault Refusal :=
  s.live (if 0 < s.level then s.governorSample readings else s)

def execThermalReading (temps : List Nat) (s : State) : Host.Outcome State Fault Refusal := s.live (s.thermalReading temps)

def execStackInterfaceLoss (stack : Nat) (s : State) : Host.Outcome State Fault Refusal := s.live (s.interfaceLost stack)

def execStackInterfaceRetrained (stack : Nat) (s : State) : Host.Outcome State Fault Refusal := s.live (s.interfaceBack stack)

end Sys2Proof.Machine
end

