-- ==== Sys2Proof/Machine/Benches.lean ====
section
/-! DEFINITION. Machine/Benches.lean: a bench's instruction stream, its control and peg instructions (R94, R96–R99), its
waits and wakes (R72, R73, R162), parity (R78) and refresh (R58). -/

namespace Sys2Proof.Machine

open BenchInstr

namespace State

/-- The bench runs its job's stream now: RUNNING, and no wake pending (R72, R76). -/
def mayIssue (s : State) (b : Nat) : Option (Nat × Job) :=
  let v := s.bench b
  let k := s.stack (b / 64)
  if v.run = .running ∧ !v.wakeAsked ∧ !v.ended ∧ k.clock ≠ .stopped then
    match v.job with
    | some d => match s.job d with
      | some j => if j.stopping then none else some (d, j)
      | none => none
    | none => none
  else none

/-- A bench detects a parity error in the work of its job (R78): in the piece of device memory that it names (R146), or else in the
bench's own stores and paths. -/
def benchParity (s : State) (b : Nat) (p : Option Piece := none) : State :=
  let v := s.bench b
  match v.job with
  | some d =>
    let t := (s.failJob d 0x0B v.logical v.pc).count (0x5400 + b) 0x10 1
    (match p with
      | some x => t.parityMet x
      | none => t.raiseSource 7)
  | none => s

/-- An instruction of the bench fails with a status (R100, R113, R118). -/
def benchFault (s : State) (b status : Nat) : State :=
  let v := s.bench b
  match v.job with
  | some d => s.failJob d status v.logical v.pc
  | none => s

/-- The pieces of the bench's current instruction, in its stack's device memory (R83). -/
def instrPieces (s : State) (b d : Nat) (j : Job) : Option (List Piece) :=
  let v := s.bench b
  match j.image.sections.find? (fun x => x.kind == 1 && x.target == v.logical) with
  | some x => if 16 * v.pc + 16 ≤ x.size then s.windowRange d (j.loadBase + x.place + 16 * v.pc) 16 else none
  | none => none

/-- The window map's entry for the bench's current instruction has bad parity (R146). -/
def instrMapBad (s : State) (b d : Nat) (j : Job) : Bool :=
  match j.image.sections.find? (fun x => x.kind == 1 && x.target == (s.bench b).logical) with
  | some x => s.mapBad d (j.loadBase + x.place + 16 * (s.bench b).pc) 16
  | none => false

/-- Where the instruction buffer holds the bench's current instruction (R65). -/
def bufferPlace (v : Bench) : Nat := 0x3C000 + 16 * (v.pc % 512)

/-- The bytes of the bench's current instruction: from the instruction buffer, or fetched into it through the bank port (R65, R66), as the
bench finds them (R22). A fetch that meets bad parity, or bytes that the drawer does not own (R124), fails the job. -/
def fetchInstr (s : State) (b d : Nat) (j : Job) : Option (List Byte) × State :=
  let v := s.bench b
  if v.buffered.num (v.pc % 512) = v.pc + 1 then
    (if v.store.hasBad (bufferPlace v) 16 then (none, s.benchParity b) else (some (v.store.readBytes (bufferPlace v) 16), s))
  else match s.instrPieces b d j with
    | none => (none, s.benchFault b 0x0C)
    | some ps => match (ps.head?.filter fun _ => s.instrMapBad b d j).or (ps.find? s.pieceBad) with
      | some p => (none, s.benchParity b (some p))
      | none => match s.readPieces ps with
        | (some bs0, s1) =>
          let bs := s1.foundIn b ps bs0
          let w := { v with store := v.store.writeBytes (bufferPlace v) bs, buffered := v.buffered.setNum (v.pc % 512) (v.pc + 1) }
          (some bs, (s1.setBench b w).count (0x5400 + b) 0x0A 16)
        | (none, s1) => (none, s1)

/-- Run the bench's current instruction if it has the opcode. -/
def runInstr (s : State) (b code : Nat) (k : Nat → Job → Nat → State → State) : State :=
  match s.mayIssue b with
  | some (d, j) =>
    match s.fetchInstr b d j with
    | (some bs, s1) => if op (ofLe bs) = code then k d j (ofLe bs) s1 else s
    | (none, s1) => s1
  | none => s

/-- The bench passes to its next instruction. -/
def step1 (s : State) (b : Nat) : State := s.setBench b (s.bench b).advance

/-- Bytes of the bench's argument window have bad parity (R78). -/
def windowBad (s : State) (b off n : Nat) : Bool := (s.bench b).store.hasBad (0x3E000 + off) n

/-- The bytes of the argument window that a source of BRANCH reads: offset and length. -/
def branchBytes (c : Nat) : Nat × Nat := if c = 0 ∨ 0x3F < c then (0, 0) else if c ≤ 0x1F then (8 * c, 4) else (0x400 + 8 * (c - 0x20), 4)

/-- A 32-bit source of BRANCH (R97). -/
def branchSource (s : State) (b : Nat) (j : Job) (c : Nat) : Nat :=
  let v := s.bench b
  if c ≤ 0x1F then argWord j.args c % 2 ^ 32
  else if c ≤ 0x3F then leAt j.args (j.image.commonSize + v.logical * j.image.sliceSize + 8 * (c - 0x20)) 4
  else if c ≤ 0x6F then s.pegValue b (c - 0x40)
  else match v.loops.reverse[c - 0x70]? with
    | some f => f.index % 2 ^ 32
    | none => 0

/-- The condition of BRANCH holds (R97). -/
def branchTaken (cond x v : Nat) : Bool :=
  if cond = 0 then true else if cond = 1 then x == v else if cond = 2 then x != v else if cond = 3 then x < v else v ≤ x

/-- A MOVE of the bench by KIND 2 addresses of this module is still held or waits for a transfer (R87, R154, R174, R186). -/
def movesHere (s : State) (b d : Nat) (j : Job) : Bool :=
  let mine (idx : Nat) := j.work.any fun w => w.id == idx && w.logical == (s.bench b).logical
  let here (op : CopyOp) := op.fid == 128 + d && mine op.idx && (op.todo ++ op.final.toList).any (·.module == s.moduleId)
  (s.fab.held.any fun h => here h.op) || s.fab.copies.any here ||
  s.fab.waiting.any fun x => x.origin.fid == 128 + d && mine x.origin.idx && x.module == s.moduleId

/-- Bytes of this module's memory meet what an earlier MOVE of the bench by KIND 2 addresses of this module has still to place there: the
instruction that reads or writes them waits (R55, R111). -/
def moveMeets (s : State) (b d : Nat) (j : Job) (off n : Nat) : Bool :=
  let mine (idx : Nat) := j.work.any fun w => w.id == idx && w.logical == (s.bench b).logical
  let onto (x : Xfer) := x.module == s.moduleId && overlaps (dpaOffset x.addr) x.len off n
  let here (op : CopyOp) := op.fid == 128 + d && mine op.idx && (op.todo ++ op.final.toList).any onto
  (s.fab.held.any fun h => here h.op) || s.fab.copies.any here ||
  s.fab.waiting.any fun x => x.origin.fid == 128 + d && mine x.origin.idx && onto x

/-- Where a taken BRANCH goes: leaving the innermost body discards its index, and goes on as the body's end does (R97). -/
def branchTo (v : Bench) (t : Nat) : Bench :=
  match v.loops with
  | f :: fs =>
    if t = f.last + 1 then
      let r := advanceFrom f.last fs
      { v with pc := r.1, loops := r.2 }
    else { v with pc := t }
  | [] => { v with pc := t }

end State

/-! The commands -/

def execBenchNop (bench : Nat) (s : State) : Host.Outcome State Fault Refusal :=
  s.live (s.runInstr bench 0x00 fun _ _ _ t => t.step1 bench)

def execBenchEnd (bench : Nat) (s : State) : Host.Outcome State Fault Refusal :=
  s.live (s.runInstr bench 0x01 fun _ _ _ t => (t.setBench bench { t.bench bench with ended := true }).park bench)

def execBenchLoop (bench : Nat) (s : State) : Host.Outcome State Fault Refusal :=
  s.live (s.runInstr bench 0x02 fun _ j w t =>
    let v := t.bench bench
    if mode w = 1 ∧ t.windowBad bench (8 * bits w 36 32) 8 = true then t.benchParity bench
    else
    let n := if mode w = 1 then State.argWord j.args (bits w 36 32) % 2 ^ 32 else imm w
    if n = 0 then
      let r := advanceFrom (target w) v.loops
      t.setBench bench { v with pc := r.1, loops := r.2 }
    else t.setBench bench { v with pc := v.pc + 1, loops := ⟨v.pc, target w, 0, n⟩ :: v.loops })

def execBenchBranch (bench : Nat) (s : State) : Host.Outcome State Fault Refusal :=
  s.live (s.runInstr bench 0x03 fun _ j w t =>
    if t.windowBad bench (State.branchBytes (src w)).1 (State.branchBytes (src w)).2 then t.benchParity bench
    else
    let t := if 0x40 ≤ src w ∧ src w ≤ 0x6F then t.observePeg bench (src w - 0x40) else t
    if State.branchTaken (mode w) (t.branchSource bench j (src w)) (imm w) then t.setBench bench (State.branchTo (t.bench bench) (target w))
    else t.step1 bench)

/-- An add to a view waits for the bench's earlier MOVEs to this module (R154). -/
def execPegAdd (bench : Nat) (s : State) : Host.Outcome State Fault Refusal :=
  s.live (s.runInstr bench 0x08 fun d j w t =>
    if (t.viewOf bench (peg w)).isSome ∧ t.movesHere bench d j = true then s
    else (t.step1 bench).addBenchPeg bench (peg w) (imm w))

def execPegWait (bench : Nat) (s : State) : Host.Outcome State Fault Refusal :=
  s.live (s.runInstr bench 0x09 fun _ _ w t =>
    if pegMet (t.pegValue bench (peg w)) (imm w) then (t.observePeg bench (peg w)).step1 bench
    else (t.setBench bench { t.bench bench with awaits := some (peg w, imm w), spinSince := t.run64 (bench / 64) }).enter bench .spin)

/-- The add waits for the bench's earlier MOVEs to this module (R154). -/
def execPegSignal (bench : Nat) (s : State) : Host.Outcome State Fault Refusal :=
  s.live (s.runInstr bench 0x0A fun d j w t =>
    if t.movesHere bench d j then s
    else if mode w = 1 then
      (match j.map[pegTarget w]? with
        | some c => (t.step1 bench).addBenchPeg c (peg w) (imm w)
        | none => t.benchFault bench 0x0C)
    else if t.ownsPeg d (pegTarget w) then (t.step1 bench).addHubPeg (pegTarget w) (imm w)
    else t.benchFault bench 0x0C)

def execBenchParityError (bench : Nat) (s : State) : Host.Outcome State Fault Refusal :=
  s.live (match (s.bench bench).job with
    | some _ => s.benchParity bench
    | none => s)

/-- 64 cycles of the bench's own clock, none of them skipped, have passed in SPIN (R74, R162). -/
def execSpinTimeout (bench : Nat) (s : State) : Host.Outcome State Fault Refusal :=
  let v := s.bench bench
  s.live (if v.run = .spin ∧ v.spinSince + 64 * 64 ≤ s.run64 (bench / 64) then s.enter bench .gated else s)

/-- The stack's wake governor makes its next grant (R73). -/
def execWakeGrant (stack : Nat) (s : State) : Host.Outcome State Fault Refusal := s.live (s.grantWake stack)

/-- 16 cycles after its grant, none of them skipped, the bench runs, or evaluates its wait again (R72, R162). -/
def execBenchWake (bench : Nat) (s : State) : Host.Outcome State Fault Refusal :=
  let v := s.bench bench
  s.live (match v.granted with
    | some t =>
      if s.run64 (bench / 64) < t + 16 * 64 then s
      else
        let s1 := s.setBench bench { v with granted := none, wakeAsked := false }
        match v.awaits with
        | some (p, th) =>
          if v.run ≠ .gated then s1
          else if pegMet (s.pegValue bench p) th then ((s1.observePeg bench p).step1 bench).enter bench .running
          else (s1.setBench bench { s1.bench bench with spinSince := s.run64 (bench / 64) }).enter bench .spin
        | none => if v.job.isSome ∧ !v.ended then s1.enter bench .running else s1
    | none => s)

/-- The tREFI in force for a bank, in picoseconds (R58). -/
def State.trefi (s : State) (bench bank : Nat) : Nat :=
  if (s.stack (bench / 64)).bankHot.num (bench % 64 * 12 + bank) = 1 then 1950000 else 3900000

/-- A bank's refresh is due: its turn in the bench's rotation has come, one twelfth of its tREFI after the refresh before it was due and no
sooner than its tREFI after its own last one was (R58). -/
def State.refreshDue (s : State) (bench bank : Nat) : Bool :=
  let k := s.stack (bench / 64)
  let n := bench % 64
  let key := n * 12 + bank
  k.clock != .stopped && k.turn.num n == bank && (k.turnAt.num n == 0 || k.turnAt.num n + s.trefi bench bank / 12 ≤ s.now + 1) &&
  (k.refreshed.num key == 0 || k.refreshed.num key + s.trefi bench bank ≤ s.now + 1)

/-- When a refresh that is made now was due, plus 1: a twelfth of tREFI after the one before it, so that the rotation keeps its pace whatever
tick shows each refresh; one that comes a whole turn late, or first, counts from now (R58). -/
def State.refreshSlot (s : State) (bench bank : Nat) : Nat :=
  let at0 := (s.stack (bench / 64)).turnAt.num (bench % 64)
  let turn := s.trefi bench bank / 12
  if at0 = 0 ∨ at0 + 2 * turn ≤ s.now + 1 then s.now + 1 else at0 + turn

/-- A bank's refresh: the tREFI in force from the stack's last reading takes effect for the bank (R58). -/
def execRefresh (bench bank : Nat) (s : State) : Host.Outcome State Fault Refusal :=
  let i := bench / 64
  let k := s.stack i
  let n := bench % 64
  let key := n * 12 + bank
  s.live (if s.refreshDue bench bank then
      s.setStack i { k with
        refreshed := k.refreshed.setNum key (s.refreshSlot bench bank), bankHot := k.bankHot.setNum key (bnat k.hot),
        turn := k.turn.setNum n ((bank + 1) % 12), turnAt := k.turnAt.setNum n (s.refreshSlot bench bank) }
    else s)

end Sys2Proof.Machine
end

