-- ==== Sys2Proof/Machine/Operands.lean ====
section
/-! DEFINITION. Machine/Operands.lean: the operand forms of kernel instructions: effective bases (R90), where each element and
scale of a descriptor lies (R29, R30, R90, R91), the address checks of R66 and R100, and reading and writing through them. -/

namespace Sys2Proof.Machine

open BenchInstr

/-- A descriptor with its effective bases. -/
structure View where
  d : Desc
  base : Nat
  sbase : Nat
  deriving DecidableEq, Repr

/-- Reduce an effective address: modulo 2^48 for a DVA, 2^52 for a DPA; a store offset must fall within the store (R90). -/
def reduceBase (loc : Nat) (x : Int) : Option Nat :=
  if loc = 0 then some (x % (2 ^ 48 : Nat)).toNat
  else if loc = 2 then some (x % (2 ^ 52 : Nat)).toNat
  else if 0 ≤ x ∧ x < 0x40000 then some x.toNat else none

/-- R90: the element array's and the scale array's effective bases. -/
def Desc.view (d : Desc) (args : List Byte) (loops : List LoopFrame) : Option View :=
  let arg : Int := if d.baseArg = 0 then 0 else (State.argWord args d.baseArg : Nat)
  let idx : Int := match loops.reverse[d.loopLevel]? with
    | some f => (f.index : Nat)
    | none => 0
  let loop : Int := if d.loopEn then idx * signed 48 d.loopStride else 0
  let bb : Int := (d.fmt.blockBytes : Nat)
  match reduceBase d.loc ((d.base : Nat) + arg + loop) with
  | none => none
  | some base =>
    if d.fmt.blocked ∧ d.layout ≠ 2 then
      (if arg % bb ≠ 0 ∨ loop % bb ≠ 0 then none
       else (reduceBase d.loc ((d.scaleBase : Nat) + arg / bb + loop / bb)).map fun sb => ⟨d, base, sb⟩)
    else some ⟨d, base, 0⟩

namespace View

/-- Runs of elements in index order: byte address, elements, and the number of the first block (R90, R91). -/
def runs (v : View) : List (Nat × Nat × Nat) :=
  if v.d.layout = 1 then
    let c := (tileColumns v.d.fmt).getD 1
    let t := v.d.dim 0 / 96
    (List.range (v.d.dim 1)).flatMap fun o => (List.range t).map fun k =>
      let n := ((o / c) * t + k) * c + o % c
      (v.base + n * (96 * v.d.fmt.width / 8), 96, 3 * n)
  else if v.d.layout = 2 then
    (List.range (v.d.dim 2)).map fun p => (v.base + p * v.d.pageBytes, v.d.pageBytes * 8 / v.d.fmt.width, 0)
  else
    (List.range (v.d.dim 3)).flatMap fun k => (List.range (v.d.dim 2)).flatMap fun j => (List.range (v.d.dim 1)).map fun i =>
      (v.base + i * v.d.stride 1 + j * v.d.stride 2 + k * v.d.stride 3, v.d.dim 0,
        ((k * v.d.dim 2 + j) * v.d.dim 1 + i) * (v.d.dim 0 / 32))

/-- Every byte of the operand: address and length of each run, and the scales. -/
def spans (v : View) : List (Nat × Nat) :=
  (v.runs.map fun r => (r.1, v.d.rowBytes r.2.1)) ++ (if v.d.scaleBytes = 0 then [] else [(v.sbase, v.d.scaleBytes)])

/-- The elements of the operand in index order, each with its block's scale code. -/
def elems (v : View) (rd : Nat → Byte) : List (Nat × Nat) :=
  v.runs.flatMap fun r => (List.range r.2.1).map fun k =>
    (unpack rd r.1 v.d.fmt k, if v.d.fmt.blocked ∧ v.d.layout ≠ 2 then (rd (v.sbase + r.2.2 + k / 32)).toNat else 0)

/-- The bytes that elements in index order write: each run packed, and the scale of each block. -/
def stores (v : View) (es : List (Nat × Nat)) : List (Nat × List Byte) :=
  let step := fun (acc : List (Nat × List Byte) × List (Nat × Nat)) (r : Nat × Nat × Nat) =>
    let mine := acc.2.take r.2.1
    let el := [(r.1, packCodes v.d.fmt (mine.map (·.1)))]
    let sc := if v.d.fmt.blocked ∧ v.d.layout ≠ 2 then
        [(v.sbase + r.2.2, (List.range (r.2.1 / 32)).map fun b => BitVec.ofNat 8 (nth (0, 0) mine (32 * b)).2)] else []
    (acc.1 ++ el ++ sc, acc.2.drop r.2.1)
  (v.runs.foldl step ([], es)).1

/-- The elements as FP32 (R52). -/
def widened (v : View) (rd : Nat → Byte) : List Fp := (v.elems rd).map fun e => v.d.fmt.widen e.1 e.2

/-- Its factor (R45). -/
def factor (v : View) : Fp := ofF32 v.d.factor

end View

/-! Address checks (R66, R100) -/

/-- [a, a + n) lies in the union of ranges (base, length). -/
def coveredIn (ranges : List (Nat × Nat)) : Nat → Nat → Nat → Bool
  | 0, _, n => n == 0
  | fuel + 1, a, n =>
    if n = 0 then true
    else match ranges.find? (fun r => r.1 ≤ a && a < r.1 + r.2) with
      | some r => coveredIn ranges fuel (max (r.1 + r.2) (a + 1)) (n - (max (r.1 + r.2) (a + 1) - a))
      | none => false

def covered (ranges : List (Nat × Nat)) (a n : Nat) : Bool := coveredIn ranges (ranges.length + 1) a n

namespace State

/-- Placed sections of a job (R85). -/
def placedRanges (j : Job) : List (Nat × Nat) :=
  (j.image.sections.filter fun x => placedType x.kind).map fun x => (j.loadBase + x.place, x.size)

/-- Declared ranges of some kinds, with the bases that RUN_JOB's checks resolved (R85). -/
def declared (j : Job) (p : Nat → Bool) : List (Nat × Nat) := (j.ranges.filter fun r => p r.kind).map fun r => (r.base, r.length)

/-- A span of device memory may be read: placed or declared, in the bench's stack, in owned chunks (R100). The argument block is read
through the window alone (R85). -/
def readOk (s : State) (b d : Nat) (j : Job) (a n : Nat) : Bool :=
  covered (placedRanges j ++ declared j (· ≤ 1)) a n &&
  (match s.windowRange d a n with
    | some ps => ps.all fun p => match p with
      | .dev off _ => stackOf off == b / 64
      | _ => false
    | none => false)

/-- A span of device memory may be written: declared for writing, in owned chunks of this module (R100, R111). -/
def writeOk (s : State) (d : Nat) (j : Job) (a n : Nat) : Bool :=
  covered (declared j (· == 1)) a n &&
  (placedRanges j ++ declared j (· == 0)).all (fun r => !overlaps a n r.1 r.2) && (s.windowRange d a n).isSome

/-- Every span of an operand passes its check. -/
def spansOk (s : State) (b d : Nat) (j : Job) (v : View) (sp : List (Nat × Nat)) (write : Bool) : Bool :=
  sp.all fun (a, n) =>
    if v.d.loc = 1 then storeOk a n write
    else if v.d.loc = 2 then write && covered (declared j (· == 2)) a n
    else if write then s.writeOk d j a n else s.readOk b d j a n

/-- The first parity error that reading spans of an operand meets (R78): in the store (none in the inner place), or in a piece of device
memory or the window map's entry for it (R146). -/
def spansBad (s : State) (b d : Nat) (v : View) (sp : List (Nat × Nat)) : Option (Option Piece) :=
  sp.findSome? fun (a, n) =>
    if v.d.loc = 1 then (if (s.bench b).store.hasBad a n then some none else none)
    else if s.mapBad d a n then some ((s.windowRange d a n).bind List.head?)
    else match s.windowRange d a n with
      | some ps => (ps.find? s.pieceBad).map some
      | none => none

/-- The first bad window map entry that writing spans of an operand meets (R78, R146). -/
def mapsBad (s : State) (d : Nat) (v : View) (sp : List (Nat × Nat)) : Option (Option Piece) :=
  if v.d.loc ≠ 0 then none
  else (sp.find? fun x => s.mapBad d x.1 x.2).map fun x => (s.windowRange d x.1 x.2).bind List.head?

/-- The first parity error in the operands that an instruction reads, or in its parameter block, which lies in the store. -/
def readsBad (s : State) (b d : Nat) (reads : List (View × List (Nat × Nat))) (params : List (Nat × Nat)) : Option (Option Piece) :=
  match reads.findSome? fun r => s.spansBad b d r.1 r.2 with
  | some p => some p
  | none => if params.any fun p => (s.bench b).store.hasBad p.1 p.2 then some none else none

/-- Bytes of a span of device memory that lie in the bench's own banks (R54), and so pass its bank port (R79). -/
def bankSpan (s : State) (b d a n : Nat) : Nat :=
  let lo := b / 64 * 2 ^ 36 + b % 64 * (768 * 2 ^ 20)
  match s.windowRange d a n with
  | some ps => (ps.map fun p => match p with
    | .dev off k => min (off + k) (lo + 768 * 2 ^ 20) - max off lo
    | _ => 0).sum
  | none => 0

def bankBytes (s : State) (b d : Nat) (v : View) (sp : List (Nat × Nat)) : Nat :=
  if v.d.loc = 0 then (sp.map fun x => s.bankSpan b d x.1 x.2).sum else 0

/-- A destination lies on another stack whose hub interface is lost: the instruction waits (R472). -/
def spansHeld (s : State) (b d : Nat) (v : View) (sp : List (Nat × Nat)) : Bool :=
  v.d.loc != 1 && sp.any fun (a, n) => match s.windowRange d a n with
    | some ps => s.stackHeld (ps.filter fun p => match p with
      | .dev off _ => stackOf off != b / 64
      | _ => false)
    | none => false

/-- An operand meets what an earlier MOVE of the bench has still to place in this module's memory (R111). -/
def movesOnto (s : State) (b d : Nat) (j : Job) (vs : List (View × List (Nat × Nat))) : Bool :=
  vs.any fun v => v.1.d.loc == 0 && v.2.any fun x => match s.windowRange d x.1 x.2 with
    | some ps => ps.any fun p => match p with
      | .dev off n => s.moveMeets b d j off n
      | _ => false
    | none => false

/-- Read one byte of an operand, as the bench finds it (R22). -/
def rd (s : State) (b d loc a : Nat) : Byte :=
  if loc = 1 then (s.bench b).store.read a
  else match s.windowLeaf d a with
    | some (_, leaf) =>
      let off := dpaOffset (pteDpa leaf) + a % 65536
      s.found b off (s.mem.dev.read off)
    | none => 0

/-- The drawer's job writes into the declared ranges that [a, a + n) meets (R78, R118). -/
def noteRange (s : State) (d a n : Nat) : State :=
  match s.job d with
  | some j =>
    let hit := (j.ranges.zipIdx.filter fun (r, i) => r.kind == 1 && overlaps r.base r.length a n && !j.wrote.contains i).map (·.2)
    if hit.isEmpty then s else s.setJob d (some { j with wrote := j.wrote ++ hit })
  | none => s

/-- Write bytes of an operand in the store or in this module's device memory. Other benches of the job see the latter in order only through
pegs (R55). -/
def wr (s : State) (b d loc : Nat) : List (Nat × List Byte) → State
  | [] => s
  | (a, bs) :: r =>
    (if loc = 1 then s.setBench b { s.bench b with store := (s.bench b).store.writeBytes a bs }
      else match s.windowRange d a bs.length with
        | some ps => ((s.writePieces d ps bs).raceBut (some b) ps).noteRange d a bs.length
        | none => s).wr b d loc r

end State

/-- What fetching an operand gives: the operand, a reason to fail with JOB_FAULT (R100), or a parity error (R78) and the piece of
device memory it lies in. -/
inductive Fetched (α : Type) where
  | ok (a : α)
  | fault
  | bad (p : Option Piece)

namespace State

/-- A descriptor in the bench's stack's copy of the table, as the bench finds it (R22). Its fetch is counted in no bank port's bytes
(log 118). -/
def descAt (s : State) (b d : Nat) (j : Job) (i : Nat) : Fetched Desc :=
  match j.image.sections.find? (fun x => x.kind == 3 && x.target == b / 64) with
  | some x =>
    if i < j.image.descCount then
      match s.windowRange d (j.loadBase + x.place + 64 * i) 64 with
      | some ps => (match (ps.head?.filter fun _ => s.mapBad d (j.loadBase + x.place + 64 * i) 64).or (ps.find? s.pieceBad) with
        | some p => .bad (some p)
        | none => match (s.readPieces ps).1 with
          | some bs => .ok (Desc.parse (s.foundIn b ps bs))
          | none => .fault)
      | none => .fault
    else .fault
  | none => .fault

end State

/-- The operands of one kernel instruction with their effective bases. -/
structure Ops4 where
  d : Option View
  a : Option View
  b : Option View
  c : Option View

namespace State

/-- Fetch an operand: none where the index is 0xFFFF. -/
def operand (s : State) (b d : Nat) (j : Job) (i : Nat) : Fetched (Option View) :=
  if i = 0xFFFF then .ok none
  else match s.descAt b d j i with
    | .ok x =>
      if x.baseArg ≠ 0 ∧ s.windowBad b (8 * x.baseArg) 8 = true then .bad none
      else if x.ok (j.image.commonSize / 8) then (match x.view j.args (s.bench b).loops with
        | some v => .ok (some v)
        | none => .fault)
      else .fault
    | .fault => .fault
    | .bad p => .bad p

/-- The four operands of an instruction, fetched in the order TD_D, TD_A, TD_B, TD_C. -/
def operands (s : State) (b d : Nat) (j : Job) (w : Nat) : Fetched Ops4 :=
  match s.operand b d j (tdD w), s.operand b d j (tdA w), s.operand b d j (tdB w), s.operand b d j (tdC w) with
  | .ok x, .ok y, .ok z, .ok u => .ok ⟨x, y, z, u⟩
  | .bad p, _, _, _ => .bad p
  | .ok _, .bad p, _, _ => .bad p
  | .ok _, .ok _, .bad p, _ => .bad p
  | .ok _, .ok _, .ok _, .bad p => .bad p
  | _, _, _, _ => .fault

/-- Run a kernel instruction with its operands; operands that cannot be formed fail the job (R78, R100). -/
def runKernelInstr (s : State) (b code : Nat) (k : Nat → Job → Nat → Ops4 → State → State) : State :=
  s.runInstr b code fun d j w t =>
    match t.operands b d j w with
    | .ok o => k d j w o t
    | .fault => t.benchFault b 0x0C
    | .bad p => t.benchParity b p

end State

/-- The descriptors of the operands, for the checks of Image.lean. -/
def Ops4.descs (o : Ops4) : Operands := ⟨o.d.map (·.d), o.a.map (·.d), o.b.map (·.d), o.c.map (·.d)⟩

end Sys2Proof.Machine
end

