-- ==== Sys2Proof/Machine/Kernels.lean ====
section
/-! DEFINITION. Machine/Kernels.lean: the kernel instructions whose effect lies on the bench: MATVEC, ATTEND, GATHER, NORM,
ACT, QUANT, DEQUANT, TOPK, SAMPLE and REDUCE (R101–R110). Each computes the whole of its result from its operands' bytes. -/

namespace Sys2Proof.Machine

open BenchInstr

/-- What a kernel does: the bytes it writes, by LOC; the NaN and saturated elements written and the activation vectors that the array
takes (R79), where the kernel fixes their number; and what it leaves in the bench's registers. -/
structure KernelOut where
  writes : List (Nat × List (Nat × List Byte))
  nans : Nat
  sats : Nat
  busy : Option Nat := some 0
  leaves : Bench → Bench := id

/-- The bytes of a destination's elements. -/
def View.puts (v : View) (es : List (Nat × Nat)) : Nat × List (Nat × List Byte) := (v.d.loc, v.stores es)

/-- Convert FP32 results to a format without a block scale. -/
def convertAll (f : Fmt) (xs : List Fp) : List (Nat × Nat) × Nat × Nat :=
  let cs := xs.map f.convert
  (cs.map fun c => (c.code, 0), (cs.filter (·.wasNan)).length, (cs.filter (·.saturated)).length)

/-- One destination of converted results. -/
def output (v : View) (xs : List Fp) : KernelOut :=
  let r := convertAll v.d.fmt xs
  { writes := [v.puts r.1], nans := r.2.1, sats := r.2.2 }

/-- Rows of n elements. -/
def rows {α : Type} (n : Nat) : Nat → List α → List (List α)
  | 0, _ => []
  | k + 1, xs => xs.take n :: rows n k (xs.drop n)

/-! MATVEC (R43, R44, R101) -/

/-- The dot product of a row of weights and a row of activations: by blocks (R43), or by elements for BF16 and FP16 (R44). -/
def dotRow (fw fa : Fmt) (ws as : List (Nat × Nat)) (acc0 : Fp) : Fp :=
  if fw = .bf16 ∨ fw = .fp16 then
    (List.zipWith (fun w a => fmul (fw.elem w.1) (fa.elem a.1)) ws as).foldl fadd acc0
  else
    let n := ws.length / 32
    dotBlocks (List.zipWith (fun w a => blockValue fw fa (w.map (·.1)) (a.map (·.1)) (nth (0, 0) w 0).2 (nth (0, 0) a 0).2)
      (rows 32 n ws) (rows 32 n as)) acc0

/-- Activation vectors of one pass, at most (R63). -/
def passBatch (f : Fmt) : Nat := 12288 / (tileColumns f).getD 1

/-- Passes over one column tile (R63): each streams its weights again. -/
def passCount (a b : View) : Nat := ceilDiv (b.d.dim 1) (passBatch a.d.fmt)

/-- Loads of tiles into the latches, in order: for each column tile, each pass takes its tiles in ascending order (R62, R63; the order
of the passes is a DESIGN CHOICE, log 22). The i-th load takes this tile. -/
def loadTile (n p i : Nat) : Nat := i / (p * n) * n + i % n

/-- The latches after the loads of a MATVEC: they fill by turns, so the last two loads stay (R62). -/
def latchTiles (v : Bench) (a b : View) (rd : Nat → Byte) : Bench :=
  let c := (tileColumns a.d.fmt).getD 1
  let n := a.d.dim 0 / 96
  let p := passCount a b
  let loads := a.d.dim 1 / c * n * p
  let eb := c * 96 * a.d.fmt.width / 8
  let sb := if a.d.fmt.blocked then 3 * c else 0
  let tile := fun i => (⟨(List.range eb).map fun k => rd (a.base + i * eb + k), (List.range sb).map fun k => rd (a.sbase + i * sb + k)⟩ : Latch)
  let put := fun (w : Bench) i =>
    let t := tile (loadTile n p i)
    if w.nextLatch = 0 then { w with latch0 := t, nextLatch := 1 } else { w with latch1 := t, nextLatch := 0 }
  if loads = 0 then v else if loads = 1 then put v 0 else put (put { v with nextLatch := (v.nextLatch + loads) % 2 } (loads - 2)) (loads - 1)

/-- The accumulators after a MATVEC: the passes over its last column tile leave their sums before R45, one after the other, in accumulator
column + columns × vector of the pass (R63; the numbering is a DESIGN CHOICE, log 22). `accs` gives each vector's sums. -/
def lastPass (v : Bench) (a : View) (accs : List (List Fp)) : Bench :=
  let c := (tileColumns a.d.fmt).getD 1
  let vals := accs.zipIdx.flatMap fun (row, k) =>
    (row.drop (a.d.dim 1 - c)).zipIdx.map fun (x, i) => (i + c * (k % passBatch a.d.fmt), toF32 x + 1)
  { v with accs := vals.foldl (fun m x => Sparse.setNum m x.1 x.2) v.accs }

def matvec (o : Ops4) (w : Nat) (rdA rdB rdC : Nat → Byte) : Option KernelOut :=
  match o.a, o.b, o.d with
  | some a, some b, some d =>
    let ws := rows (a.d.dim 0) (a.d.dim 1) (a.elems rdA)
    let vs := rows (b.d.dim 0) (b.d.dim 1) (b.elems rdB)
    let accs := match o.c with
      | some c => rows (c.d.dim 0) (c.d.dim 1) (c.widened rdC)
      | none => []
    let sums := vs.zipIdx.map fun (v, k) => ws.zipIdx.map fun (wr, i) => dotRow a.d.fmt b.d.fmt wr v (nth Fp.zero (nth [] accs k) i)
    let outs := sums.flatten.map fun acc => if bit (mode w) 1 then applyFactor acc a.factor b.factor else acc
    some { output d outs with
      busy := some (a.d.dim 1 / (tileColumns a.d.fmt).getD 1 * (a.d.dim 0 / 96) * b.d.dim 1)
      leaves := fun x => lastPass (latchTiles x a b rdA) a sums }
  | _, _, _ => none

/-! ATTEND (R102, R103, R144, R145) -/

/-- The formats of a pool: element format, and the format of the probabilities. -/
def probFmt (pool : Fmt) : Fmt := if pool = .bf16 then .bf16 else .e4m3

/-- Offsets in a page (R144): key scales, value elements, value scales. -/
def keyScales (d : Desc) : Nat := d.dim 1 * d.dim 0 * d.fmt.width / 8
def valElems (d : Desc) : Nat := keyScales d + (if d.fmt.blocked then d.dim 1 * d.dim 0 / 32 else 0)
def valScales (d : Desc) : Nat := valElems d + keyScales d

/-- key(j): its elements with their scales. `page` is the base of the page that the list names for position j. -/
def keyRow (d : Desc) (rd : Nat → Byte) (page t : Nat) : List (Nat × Nat) :=
  let dd := d.dim 0
  (List.range dd).map fun i =>
    (unpack rd (page + t * dd * d.fmt.width / 8) d.fmt i,
     if d.fmt.blocked then (rd (page + keyScales d + t * dd / 32 + i / 32)).toNat else 0)

/-- Value column e of a chunk: 96 tokens with their scales. -/
def valColumn (d : Desc) (rd : Nat → Byte) (page chunk e : Nat) : List (Nat × Nat) :=
  let dd := d.dim 0
  (List.range 96).map fun t =>
    (unpack rd (page + valElems d + (chunk * dd + e) * 96 * d.fmt.width / 8) d.fmt t,
     if d.fmt.blocked then (rd (page + valScales d + chunk * 3 * dd + 3 * e + t / 32)).toNat else 0)

/-- Running state of one head: m, l, o. -/
structure Head where
  m : Fp
  l : Fp
  o : List Fp

/-- One chunk of 96 positions for one head. `s` gives its 96 scores; `cols` the value columns. -/
def attendChunk (pool : Fmt) (s : List Fp) (cols : List (List (Nat × Nat))) (h : Head) : Head :=
  let mn := s.foldl fmax h.m
  let alpha := fexp (fsub h.m mn)
  let pf := probFmt pool
  let pq := s.map fun x => (pf.convert (fexp (fsub x mn))).code
  let l := pq.foldl (fun acc c => fadd acc (pf.widen c 0)) (fmul h.l alpha)
  let pqs := pq.map fun c => (c, 0)
  let o := List.zipWith (fun x col => dotRow pool pf col pqs (fmul x alpha)) h.o cols
  ⟨mn, l, o⟩

/-- The accumulators and the latches after an ATTEND are free: the manual gives neither the order of its loads nor its tiles' places
(log 22). `k` numbers the free values. -/
def attendLeaves (k : Nat) (v : Bench) : Bench :=
  let latch (i : Nat) : Latch :=
    ⟨(List.range 2304).map fun n => BitVec.ofNat 8 (Config.freeValue k (13057 + 4096 * i + n)),
     (List.range 288).map fun n => BitVec.ofNat 8 (Config.freeValue k (15361 + 4096 * i + n))⟩
  { v with accs := [], accFree := k, latch0 := latch 0, latch1 := latch 1, nextLatch := Config.freeValue k 13056 % 2 }

def attend (o : Ops4) (scale : Fp) (tokens window : Nat) (rdA rdB rdC : Nat → Byte) (free : Nat) : Option KernelOut :=
  match o.a, o.b, o.c, o.d with
  | some a, some b, some c, some d =>
    let dd := a.d.dim 0
    let g := a.d.dim 1
    let t := b.d.dim 1
    let lo := if window = 0 then 0 else tokens - window
    if tokens = 0 ∨ tokens ≤ lo then some (output d (List.replicate (dd * g) Fp.zero))
    else
      let page := fun j => b.base + ((nth (0, 0) (c.elems rdC) (j / t)).1) * b.d.pageBytes
      let gq := fmul a.factor b.factor
      let qs := rows dd g (a.elems rdA)
      let chunks := (List.range ((tokens - 1) / 96 - lo / 96 + 1)).map (lo / 96 + ·)
      let heads := qs.map fun q =>
        chunks.foldl
          (fun (h : Head) ch =>
            let s := (List.range 96).map fun k =>
              let j := 96 * ch + k
              if j < lo ∨ tokens ≤ j then Fp.inf true
              else fmul (fmul (dotRow b.d.fmt a.d.fmt (keyRow b.d rdB (page j) (j % t)) q Fp.zero) gq) scale
            let p := page (96 * ch)
            let cols := (List.range dd).map fun e => valColumn b.d rdB p (96 * ch % t / 96) e
            attendChunk b.d.fmt s cols h)
          ⟨.inf true, Fp.zero, List.replicate dd Fp.zero⟩
      some { output d (heads.flatMap fun h => h.o.map fun x => fmul (fmul x (frcp h.l)) b.factor) with
        busy := none, leaves := attendLeaves free }
  | _, _, _, _ => none

/-! GATHER (R104) -/

/-- An index, as the integer its format spells. -/
def indexOf (f : Fmt) (c : Nat) : Int := if f = .u32 then ((c : Nat) : Int) else signed 32 c

/-- Row i of the destination is a byte copy of row index[i] of the table, with its scale bytes. -/
def gather (o : Ops4) (zero : Bool) (rdA rdB : Nat → Byte) : Option KernelOut :=
  match o.a, o.b, o.d with
  | some a, some b, some d =>
    let n := a.d.dim 0
    let table := a.d.dim 1
    let idx := (b.elems rdB).map fun e => indexOf b.d.fmt e.1
    let bad := fun (i : Int) => i < 0 || (table : Int) ≤ i
    if idx.any bad && !zero then none
    else
      let copy := fun (i : Int) at0 len => (List.range len).map fun k => if bad i then 0 else rdA (at0 + k)
      some { writes := [(d.d.loc, (idx.zip d.runs).flatMap fun (i, q) =>
        let r := nth (0, 0, 0) a.runs i.toNat
        (q.1, copy i r.1 (a.d.rowBytes n)) ::
          (if a.d.fmt.blocked then [(d.sbase + q.2.2, copy i (a.sbase + r.2.2) (n / 32))] else []))], nans := 0, sats := 0 }
  | _, _, _ => none

/-! NORM (R105) -/

def normRow (layer : Bool) (eps : Fp) (x gain bias : List Fp) : List Fp :=
  let rn := frcp (Fp.ofInt (x.length : Nat) 0)
  let mean := if layer then fmul (sumR71 x) rn else Fp.zero
  let c := x.map fun v => fsub v mean
  let var := fmul (sumR71 (c.map fun v => fmul v v)) rn
  let r := frsqrt (fadd var eps)
  c.zipIdx.map fun (v, i) => ffma (fmul v r) (nth Fp.zero gain i) (nth Fp.zero bias i)

def norm (o : Ops4) (w : Nat) (rdA rdB rdC : Nat → Byte) : Option KernelOut :=
  match o.a, o.b, o.d with
  | some a, some b, some d =>
    let gain := b.widened rdB
    let bias := match o.c with
      | some c => c.widened rdC
      | none => []
    some (output d ((rows (a.d.dim 0) (a.d.dim 1) (a.widened rdA)).flatMap fun x => normRow (mode w == 1) (ofF32 (imm w)) x gain bias))
  | _, _, _ => none

/-! ACT (R106) -/

def act1 (m : Nat) (a : Fp) (imm : Nat) : Fp :=
  match m with
  | 0x01 => fexp a
  | 0x02 => ftanh a
  | 0x03 => fsigmoid a
  | 0x04 => fsilu a
  | 0x05 => fgeluTanh a
  | 0x06 => fgeluErf a
  | 0x07 => fmax a Fp.zero
  | 0x14 => fmul a (ofF32 imm)
  | _ => a

def act2 (m : Nat) (a b : Fp) : Fp :=
  match m with
  | 0x10 => fadd a b
  | 0x11 => fmul a b
  | 0x12 => fmul (fsilu a) b
  | _ => fmul (fgeluTanh a) b

/-- ROTARY over pairs. -/
def rotary : List Fp → List Fp → List Fp
  | x :: y :: xs, c :: s :: cs => ffma x c (fmul y s).neg :: ffma x s (fmul y c) :: rotary xs cs
  | _, _ => []

def act (o : Ops4) (w : Nat) (rdA rdB : Nat → Byte) : Option KernelOut :=
  match o.a, o.d with
  | some a, some d =>
    let xs := a.widened rdA
    let ys := match o.b with
      | some b => b.widened rdB
      | none => []
    some (output d (if mode w = 0x20 then rotary xs ys
      else if actBinary (mode w) then List.zipWith (act2 (mode w)) xs ys
      else xs.map fun x => act1 (mode w) x (imm w)))
  | _, _ => none

/-! QUANT and DEQUANT (R107) -/

def quant (o : Ops4) (rdA : Nat → Byte) : Option KernelOut :=
  match o.a, o.d with
  | some a, some d =>
    let xs := a.widened rdA
    if d.d.fmt.blocked then
      let bs := (rows 32 (xs.length / 32) xs).map (quantBlock d.d.fmt)
      some { writes := [d.puts (bs.flatMap fun b => b.2.map fun c => (c.code, b.1))],
             nans := ((bs.flatMap (·.2)).filter (·.wasNan)).length, sats := ((bs.flatMap (·.2)).filter (·.saturated)).length }
    else some (output d xs)
  | _, _ => none

def dequant (o : Ops4) (rdA : Nat → Byte) : Option KernelOut :=
  match o.a, o.d with
  | some a, some d => some (output d (a.widened rdA))
  | _, _ => none

/-! TOPK and SAMPLE (R47, R108, R109) -/

/-- The position and value of the highest entry, the earliest of equals. -/
def best : List (Nat × Fp) → Option (Nat × Fp)
  | [] => none
  | x :: xs => match best xs with
    | some y => if fltOrd x.2 y.2 then some y else some x
    | none => some x

/-- The k highest entries, highest first. -/
def topEntries : Nat → List (Nat × Fp) → List (Nat × Fp)
  | 0, _ => []
  | k + 1, xs => match best xs with
    | some y => y :: topEntries k (xs.filter fun x => x.1 != y.1)
    | none => []

def indexed (xs : List Fp) : List (Nat × Fp) := xs.zipIdx.map fun (x, i) => (i, x)

def topk (o : Ops4) (w : Nat) (rdA : Nat → Byte) : Option KernelOut :=
  match o.a, o.c, o.d with
  | some a, some c, some d =>
    let top := (rows (a.d.dim 0) (a.d.dim 1) (a.widened rdA)).flatMap fun r => topEntries (imm w) (indexed r)
    some { writes := [d.puts (top.map fun e => (toF32 e.2, 0)), c.puts (top.map fun e => (e.1, 0))],
           nans := (top.filter (·.2.isNan)).length, sats := 0 }
  | _, _, _ => none

/-- SAMPLE's parameters. -/
structure SampleParams where
  invTemp : Fp
  topP : Fp
  topK : Nat
  greedy : Bool

/-- The running sums of w, each addition rounded. -/
def runningSums (acc : Fp) : List Fp → List Fp
  | [] => []
  | x :: xs => fadd acc x :: runningSums (fadd acc x) xs

/-- Running sums that start at the first value itself. -/
def cumulative : List Fp → List Fp
  | [] => []
  | x :: xs => x :: runningSums x xs

/-- The entry of a row that SAMPLE picks. Where no prefix reaches TOP_P's bound, as when every cum is NaN, all candidates are kept
(DESIGN CHOICE, log 147). -/
def samplePick (p : SampleParams) (row : List Fp) (st : List Nat) : Nat :=
  let entries := indexed row
  if p.greedy then ((best entries).map (·.1)).getD 0
  else
    let cand := if p.topK = 0 then entries else topEntries (min p.topK row.length) entries
    let z := cand.map fun e => fmul e.2 p.invTemp
    let mx := match z with
      | x :: xs => xs.foldl fmax x
      | [] => Fp.zero
    let cum := cumulative (z.map fun x => fexp (fsub x mx))
    let last := (cum.getLast?).getD Fp.zero
    let full := toF32 p.topP == 0x3F800000
    let n := if full then cum.length
      else match findPos (fun c => fge c (fmul p.topP last)) cum with
        | some i => i + 1
        | none => cum.length
    let keep := cum.take n
    let x0 := (philox (nth 0 st 0) (nth 0 st 1) (nth 0 st 2) (nth 0 st 3)).1
    let u := Fp.fin false (x0 / 256) (-24)
    let goal := fmul u ((keep.getLast?).getD Fp.zero)
    let i := (findPos (fun c => fgt c goal) keep).getD (n - 1)
    (nth (0, Fp.zero) cand i).1

/-- (c1:c0) + 1 modulo 2^64. -/
def advanceCounter (st : List Nat) : List Nat :=
  let c := (nth 0 st 2 + nth 0 st 3 * 2 ^ 32 + 1) % 2 ^ 64
  [nth 0 st 0, nth 0 st 1, c % 2 ^ 32, c / 2 ^ 32]

def sample (o : Ops4) (w : Nat) (p : SampleParams) (rdA rdB rdC : Nat → Byte) : Option KernelOut :=
  match o.a, o.b, o.d with
  | some a, some b, some d =>
    let n := a.d.dim 1
    let logits := rows (a.d.dim 0) n (a.widened rdA)
    let states := rows 4 n ((b.elems rdB).map (·.1))
    let picks := List.zipWith (samplePick { p with greedy := bit (mode w) 1 }) logits states
    let tokens := match o.c with
      | some c => List.zipWith (fun r i => (nth (0, 0) r i).1) (rows (a.d.dim 0) n (c.elems rdC)) picks
      | none => picks
    some { writes := d.puts (tokens.map fun t => (t, 0)) ::
             (if bit (mode w) 0 then [b.puts ((states.flatMap advanceCounter).map fun x => (x, 0))] else []), nans := 0, sats := 0 }
  | _, _, _ => none

/-! REDUCE (R110) -/

def reduceStep (bf : Bool) (m : Nat) (a b : Fp) : Fp :=
  if m = 1 then fmax a b else if m = 2 then fmin a b else if bf then bf16Add a b else fadd a b

def reduce (o : Ops4) (w : Nat) (g : Option Fp) (rdA : Nat → Byte) : Option KernelOut :=
  match o.a, o.d with
  | some a, some d =>
    match rows d.d.count (imm w) (a.widened rdA) with
    | x :: xs =>
      let acc := xs.foldl (List.zipWith (reduceStep (a.d.fmt == .bf16) (bits (mode w) 1 0))) x
      some (output d (match g with
        | some f => acc.map fun v => fmul v f
        | none => acc))
    | [] => none
  | _, _ => none

/-! Running a kernel -/

namespace State

/-- What the instruction has left in the bench's registers: the vector registers are free (log 22). -/
def leaveScratch (s : State) (b : Nat) (leaves : Bench → Bench) : State :=
  { s.setBench b { leaves (s.bench b) with scratch := s.drawn + 1 } with drawn := s.drawn + 1 }

/-- The counters of R79 that an instruction's own work moves. The manual gives no figure for the cycles lost to latches, refresh and
store conflicts, nor for the vectors of an ATTEND: those counters rise by free amounts (log 118). -/
def countKernel (s : State) (b d : Nat) (out : KernelOut) (reads : List (View × List (Nat × Nat))) : State :=
  let c := 0x5400 + b
  let read := (reads.map fun r => s.bankBytes b d r.1 r.2).sum
  let written := (out.writes.map fun x => if x.1 = 0 then (x.2.map fun y => s.bankSpan b d y.1 y.2.length).sum else 0).sum
  let s1 := ((((s.count c 0x0A read).count c 0x0B written).count c 0x0E out.nans).count c 0x0F out.sats).countFree c 3
  let s2 := (s1.countFree c 0x0C).countFree c 0x0D
  match out.busy with
  | some n => s2.count c 2 n
  | none => s2.countFree c 2

/-- Check, compute and write one kernel instruction (R100). `reads` and `writes` are the operands in those roles, with the
spans each touches; `params` a parameter block's span, which lies in the store. -/
def runKernel (s : State) (b d : Nat) (j : Job) (reads writes : List (View × List (Nat × Nat))) (params : List (Nat × Nat))
    (k : State → Option KernelOut) : State :=
  if !(reads.all fun r => s.spansOk b d j r.1 r.2 false) || !(writes.all fun r => s.spansOk b d j r.1 r.2 true) ||
     !(params.all fun p => storeOk p.1 p.2 false) then s.benchFault b 0x0C
  else if writes.any (fun r => s.spansHeld b d r.1 r.2) ∨ s.movesOnto b d j (reads ++ writes) = true then s
  else match (s.readsBad b d reads params).or (writes.findSome? fun r => s.mapsBad d r.1 r.2) with
    | some p => s.benchParity b p
    | none => match k s with
      | none => s.benchFault b 0x0C
      | some out =>
        let s1 := out.writes.foldl (fun t x => t.wr b d x.1 x.2) s
        ((s1.countKernel b d out reads).step1 b).leaveScratch b out.leaves

/-- Read an operand's bytes. -/
def rdOf (s : State) (b d : Nat) (v : Option View) (a : Nat) : Byte := s.rd b d ((v.map (·.d.loc)).getD 1) a

/-- Whole operands, in one role. -/
def whole (vs : List (Option View)) : List (View × List (Nat × Nat)) := vs.filterMap fun v => v.map fun x => (x, x.spans)

/-- A parameter block's bytes. -/
def paramAt (s : State) (b w n : Nat) : List Byte := (s.bench b).store.readBytes (param w) n

/-- Run a kernel whose operands are checked whole. -/
def plainKernel (s : State) (b code : Nat) (ok : Nat → Operands → Bool) (k : Ops4 → Nat → State → Nat → Option KernelOut) : State :=
  s.runKernelInstr b code fun d j w o t =>
    if ok w o.descs then t.runKernel b d j (whole [o.a, o.b, o.c]) (whole [o.d]) [] (fun u => k o w u d) else t.benchFault b 0x0C

end State

/-! The commands -/

/-- Each pass of a MATVEC streams the weights again (R63). -/
def execMatvec (bench : Nat) (s : State) : Host.Outcome State Fault Refusal :=
  s.live (s.runKernelInstr bench 0x10 fun d j w o t =>
    let passes := match o.a, o.b with
      | some a, some b => passCount a b
      | _, _ => 1
    if matvecOk w o.descs then
      t.runKernel bench d j (State.whole (List.replicate passes o.a ++ [o.b, o.c])) (State.whole [o.d]) []
        (fun x => matvec o w (x.rdOf bench d o.a) (x.rdOf bench d o.b) (x.rdOf bench d o.c))
    else t.benchFault bench 0x0C)

/-- ATTEND reads only the pages and list entries that its tokens use (R145); the pages lie in declared ranges (R102). -/
def execAttend (bench : Nat) (s : State) : Host.Outcome State Fault Refusal :=
  s.live (s.runKernelInstr bench 0x11 fun d j w o t =>
    match o.a, o.b, o.c with
    | some a, some b, some c =>
      let p := t.paramAt bench w 16
      let scale := ofF32 (leAt p 0 4)
      let tokens := leAt p 8 4
      let window := leAt p 12 4
      let lo := if window = 0 then 0 else tokens - window
      let tpp := b.d.dim 1
      let used := if tokens = 0 ∨ tokens ≤ lo then [] else (List.range ((tokens - 1) / tpp - lo / tpp + 1)).map (lo / tpp + ·)
      let list := if used.isEmpty then [] else [(c.base + 4 * (lo / tpp), 4 * used.length)]
      if !attendOk w o.descs || !storeOk (param w) 16 false then t.benchFault bench 0x0C
      else if (t.bench bench).store.hasBad (param w) 16 then t.benchParity bench
      else if !scale.isFinite || leAt p 4 2 != a.d.dim 1 || leAt p 6 2 != a.d.dim 0 || a.d.dim 0 % 32 != 0 ||
          decide (c.d.dim 0 < ceilDiv tokens tpp) || b.base % 256 != 0 || !t.spansOk bench d j c list false ||
          !t.spansOk bench d j a a.spans false || !((o.d.map fun dv => t.spansOk bench d j dv dv.spans true).getD false) then t.benchFault bench 0x0C
      else if t.movesOnto bench d j [(c, list)] then s
      else match t.spansBad bench d c list with
        | some q => t.benchParity bench q
        | none =>
          let entry := fun i => unpack (t.rdOf bench d o.c) c.base .u32 i
          let size := valScales b.d + (if b.d.fmt.blocked then b.d.dim 1 * b.d.dim 0 / 32 else 0)
          let pages := used.map fun i => (b.base + entry i * b.d.pageBytes, size)
          if (used.any fun i => b.d.dim 2 ≤ entry i) || !(pages.all fun p => covered (State.declared j (· ≤ 1)) p.1 p.2) then t.benchFault bench 0x0C
          else
            t.runKernel bench d j [(a, a.spans), (c, list), (b, pages)] (State.whole [o.d]) [(param w, 16)]
              (fun x => attend o scale tokens window (x.rdOf bench d o.a) (x.rdOf bench d o.b) (x.rdOf bench d o.c) (x.drawn + 1))
    | _, _, _ => t.benchFault bench 0x0C)

/-- GATHER reads the rows that its indices name. -/
def execGather (bench : Nat) (s : State) : Host.Outcome State Fault Refusal :=
  s.live (s.runKernelInstr bench 0x12 fun d j w o t =>
    match o.a, o.b with
    | some a, some b =>
      if !gatherOk w o.descs || !t.spansOk bench d j b b.spans false then t.benchFault bench 0x0C
      else if t.movesOnto bench d j [(b, b.spans)] then s
      else
        let idx := (b.elems (t.rdOf bench d o.b)).map fun e => indexOf b.d.fmt e.1
        let inside := idx.filter fun i => 0 ≤ i && i < (a.d.dim 1 : Int)
        let spans := inside.flatMap fun i =>
          let r := nth (0, 0, 0) a.runs i.toNat
          (r.1, a.d.rowBytes r.2.1) :: (if a.d.fmt.blocked then [(a.sbase + r.2.2, a.d.dim 0 / 32)] else [])
        t.runKernel bench d j [(b, b.spans), (a, spans)] (State.whole [o.d]) []
          (fun x => gather o (bit (mode w) 0) (x.rdOf bench d o.a) (x.rdOf bench d o.b))
    | _, _ => t.benchFault bench 0x0C)

def execNorm (bench : Nat) (s : State) : Host.Outcome State Fault Refusal :=
  s.live (s.plainKernel bench 0x13 normOk fun o w t d => norm o w (t.rdOf bench d o.a) (t.rdOf bench d o.b) (t.rdOf bench d o.c))

def execAct (bench : Nat) (s : State) : Host.Outcome State Fault Refusal :=
  s.live (s.plainKernel bench 0x14 actOk fun o w t d => act o w (t.rdOf bench d o.a) (t.rdOf bench d o.b))

def execQuant (bench : Nat) (s : State) : Host.Outcome State Fault Refusal :=
  s.live (s.plainKernel bench 0x15 (fun w o => quantOk w o false) fun o _ t d => quant o (t.rdOf bench d o.a))

def execDequant (bench : Nat) (s : State) : Host.Outcome State Fault Refusal :=
  s.live (s.plainKernel bench 0x16 (fun w o => quantOk w o true) fun o _ t d => dequant o (t.rdOf bench d o.a))

/-- TOPK writes its values and its indices. -/
def execTopk (bench : Nat) (s : State) : Host.Outcome State Fault Refusal :=
  s.live (s.runKernelInstr bench 0x17 fun d j w o t =>
    if topkOk w o.descs then t.runKernel bench d j (State.whole [o.a]) (State.whole [o.d, o.c]) [] (fun x => topk o w (x.rdOf bench d o.a))
    else t.benchFault bench 0x0C)

/-- SAMPLE reads and writes its state. -/
def execSample (bench : Nat) (s : State) : Host.Outcome State Fault Refusal :=
  s.live (s.runKernelInstr bench 0x18 fun d j w o t =>
    let p := t.paramAt bench w 16
    let it := ofF32 (leAt p 0 4)
    let tp := ofF32 (leAt p 4 4)
    let tk := leAt p 8 4
    let greedy := bit (mode w) 1
    if !sampleOk w o.descs || !storeOk (param w) 16 false then t.benchFault bench 0x0C
    else if (t.bench bench).store.hasBad (param w) 16 then t.benchParity bench
    else if (!greedy && !(it.isFinite && !it.isNeg && !it.isZero)) || !(tp.isFinite && !tp.isNeg && !tp.isZero) || fgt tp Fp.one || 1024 < tk ||
        (tk == 0 && toF32 tp != 0x3F800000) || leAt p 12 4 != 0 then t.benchFault bench 0x0C
    else t.runKernel bench d j (State.whole [o.a, o.b, o.c]) (State.whole (if bit (mode w) 0 then [o.d, o.b] else [o.d])) [(param w, 16)]
      (fun x => sample o w ⟨it, tp, tk, greedy⟩ (x.rdOf bench d o.a) (x.rdOf bench d o.b) (x.rdOf bench d o.c)))

def execReduce (bench : Nat) (s : State) : Host.Outcome State Fault Refusal :=
  s.live (s.runKernelInstr bench 0x19 fun d j w o t =>
    if !reduceOk w o.descs then t.benchFault bench 0x0C
    else
      let apply := bit (mode w) 2
      t.runKernel bench d j (State.whole [o.a]) (State.whole [o.d]) (if apply then [(param w, 8)] else [])
        (fun x =>
          let p := x.paramAt bench w 8
          reduce o w (if apply then some (fmul (ofF32 (leAt p 0 4)) (ofF32 (leAt p 4 4))) else none) (x.rdOf bench d o.a)))

end Sys2Proof.Machine
end

