-- ==== Sys2Proof/Machine/Moves.lean ====
section
/-! DEFINITION. Machine/Moves.lean: MOVE (R87, R111, R156, R160, R188). -/

namespace Sys2Proof.Machine

open BenchInstr

/-- The elements of a KV_PAGED pool without the pad of its pages: pages copied whole (R111, R144). -/
def pageBytesUsed (d : Desc) : Nat := valScales d + (if d.fmt.blocked then d.dim 1 * d.dim 0 / 32 else 0)

/-- What a MOVE reads and writes of an operand: whole pages of a pool, otherwise its runs and scales. -/
def View.moveSpans (v : View) : List (Nat × Nat) :=
  if v.d.layout = 2 then (List.range (v.d.dim 2)).map fun p => (v.base + p * v.d.pageBytes, pageBytesUsed v.d) else v.spans

/-- The bytes that SEND sends, as they lie in memory (log 37): tiles and pages one after the other, without the pad of a page, which is never
read (R112, R144). -/
def View.sendSpans (v : View) : List (Nat × Nat) :=
  if v.d.layout = 1 then (v.base, v.d.count * v.d.fmt.width / 8) :: (if v.d.scaleBytes = 0 then [] else [(v.sbase, v.d.scaleBytes)]) else v.moveSpans

/-- Bytes copied as they lie. -/
def rawBytes (rd : Nat → Byte) (src n : Nat) : List Byte := (List.range n).map fun k => rd (src + k)

/-- The bytes a MOVE writes, by address (R111): whole pages, the same bytes where both descriptors have the same layout, dimensions and
strides, and otherwise element by element. -/
def moveBytes (a d : View) (rd : Nat → Byte) : List (Nat × List Byte) :=
  if a.d.layout = 2 then
    (List.range (a.d.dim 2)).map fun p =>
      (d.base + p * d.d.pageBytes, rawBytes rd (a.base + p * a.d.pageBytes) (pageBytesUsed a.d))
  else if a.d.layout = d.d.layout ∧ a.d.dims = d.d.dims ∧ a.d.strides = d.d.strides then
    ((a.runs.zip d.runs).map fun (x, y) => (y.1, rawBytes rd x.1 (a.d.rowBytes x.2.1))) ++
      (if a.d.scaleBytes = 0 then [] else [(d.sbase, rawBytes rd a.sbase a.d.scaleBytes)])
  else d.stores (a.elems rd)

/-- Join writes that follow each other in memory. -/
def joinRuns : List (Nat × List Byte) → List (Nat × List Byte)
  | [] => []
  | (a, x) :: r => match joinRuns r with
    | (b, y) :: q => if a + x.length = b then (a, x ++ y) :: q else (a, x) :: (b, y) :: q
    | [] => [(a, x)]

/-- Cut runs so that each fits one transfer of at most 1 GiB (R172). -/
def cutRuns (rs : List (Nat × List Byte)) : List (Nat × List Byte) :=
  rs.flatMap fun (a, x) => (List.range (ceilDiv x.length (2 ^ 30))).map fun i => (a + 2 ^ 30 * i, (x.drop (2 ^ 30 * i)).take (2 ^ 30))

namespace State

/-- The write transfers of a remote MOVE: one for each run of its destination; the signal rides in the last (R156, R188). -/
def moveXfers (d work port vc : Nat) (runs : List (Nat × List Byte)) : List Xfer :=
  runs.map fun r =>
    { id := 0, origin := ⟨128 + d, work⟩, read := false, drawer := d, module := dpaModule r.1, port := port, vc := vc, addr := r.1,
      len := r.2.length, data := r.2, dest := [], sig := none, firstSent := 0, lastSent := 0, resent := false, busyAt := none, next := 0 }

/-- A job takes note of a transfer it has issued (R118). -/
def issueWork (s : State) (d : Nat) (j : Job) (logical instr : Nat) : State × Nat :=
  (s.setJob d (some { j with work := j.work ++ [⟨logical, instr, j.nextWork⟩], nextWork := j.nextWork + 1 }), j.nextWork)

/-- A MOVE to another module: scheduled when it matches a dovetail entry (R87, R188). -/
def moveRemote (s : State) (b d : Nat) (j : Job) (runs : List (Nat × List Byte)) (sig : Option Nat) : State :=
  let v := s.bench b
  let key := v.logical * 2 ^ 20 + v.pc
  let ord := j.ordinals.num key
  let j1 := { j with ordinals := j.ordinals.setNum key (ord + 1) }
  let (s1, work) := s.issueWork d j1 v.logical v.pc
  let entry := j.image.dovetail.find? fun e => e.bench == v.logical && e.instr == v.pc && e.ordinal == ord
  let xs := match entry with
    | some e => moveXfers d work e.port e.vc runs
    | none => moveXfers d work 8 0 runs
  let op : CopyOp := match sig with
    | some h =>
      { fid := 128 + d, idx := work, todo := xs.dropLast, final := xs.getLast?.map (fun x => { x with sig := some h }), outstanding := 0,
        status := 0, dest := [], mixed := false }
    | none => { fid := 128 + d, idx := work, todo := xs, final := none, outstanding := 0, status := 0, dest := [], mixed := false }
  let s2 := s1.step1 b
  match entry with
  | some e =>
    let due := j.dispatchedAt + e.issue * 10000
    let s3 := s2.count 0x5288 1 1
    if s.now < due then
      { s3 with fab := { s3.fab with held := s3.fab.held ++ [⟨s3.fab.nextHeld, due, op⟩], nextHeld := s3.fab.nextHeld + 1 } }
    else (if due < s.now then s3.count 0x5288 3 1 else s3).startOp op
  | none => (s2.count 0x5288 2 1).startOp op

/-- The bytes of a MOVE that pass the bench's bank port (R79). -/
def countMove (s : State) (b d : Nat) (a dv : View) : State :=
  (s.count (0x5400 + b) 0x0A (s.bankBytes b d a a.moveSpans)).count (0x5400 + b) 0x0B (s.bankBytes b d dv dv.moveSpans)

end State

/-- Signals are checked before any byte moves: a hub peg of this module in a block the drawer owns (R160). A signal within this module waits
for the bench's earlier MOVEs to this module (R154, R156). -/
def execMove (bench : Nat) (s : State) : Host.Outcome State Fault Refusal :=
  s.live (s.runKernelInstr bench 0x1A fun d j w o t =>
    match o.a, o.d with
    | some a, some dv =>
      let info : StreamInfo := ⟨j.image.benches.length, j.image.commonSize, j.image.sliceSize, [], [], 0⟩
      let sig := bits (imm w) 31 30
      let target := bits (imm w) 29 18
      if !moveOk info w o.descs || !t.spansOk bench d j a a.moveSpans false || !t.spansOk bench d j dv dv.moveSpans true ||
         (a.d.layout == 2 && (a.base % 256 != 0 || dv.base % 256 != 0)) ||
         (dv.d.loc != 2 && sig == 2 && !t.ownsPeg d target) then t.benchFault bench 0x0C
      else if dv.d.loc ≠ 2 ∧ (t.spansHeld bench d dv dv.moveSpans ∨ (sig ≠ 0 ∧ t.movesHere bench d j = true)) then s
      else if t.movesOnto bench d j [(a, a.moveSpans), (dv, dv.moveSpans)] then s
      else match (t.spansBad bench d a a.moveSpans).or (t.mapsBad d dv dv.moveSpans) with
        | some p => t.benchParity bench p
        | none =>
          let bytes := moveBytes a dv (t.rdOf bench d o.a)
          let t1 := t.countMove bench d a dv
          if dv.d.loc = 2 then t1.moveRemote bench d j (cutRuns (joinRuns bytes)) (if sig = 2 then some target else none)
          else
            let u := (t1.wr bench d dv.d.loc bytes).step1 bench
            if sig = 1 then (match j.map[target]? with
              | some c => u.addBenchPeg c (bits (imm w) 17 12) 1
              | none => u)
            else if sig = 2 then u.addHubPeg target 1
            else u
    | _, _ => t.benchFault bench 0x0C)

end Sys2Proof.Machine
end

