-- ==== Sys2Proof/Machine/Pins.lean ====
section
/-! DEFINITION. Machine/Pins.lean: the low-speed outputs and the test access port (R503, R518, R519, R521), and the copies of stored
values in flash (R436). -/

namespace Sys2Proof.Machine

namespace State

/-! The test access port (R521). Cell i of the boundary register, counted from TDI, is bit i: five input cells, then a data
cell and a control cell for each of FAULT_N, ALERT_N, THERMTRIP_N, PPS_OUT, PMB_SCL and PMB_SDA. -/

def idcodeValue : Nat := 0x10480997

/-- EXTEST, CLAMP and HIGHZ take effect only while PERST0_N is asserted; at any other time they act as BYPASS. -/
def tapActs (s : State) : TapInstr :=
  match s.pw.tap with
  | .extest | .clamp | .highz => if s.pw.perst0 then s.pw.tap else .bypass
  | t => t

/-- What the device drives on its six low-speed outputs by itself, in cell order: true is a high level, none is released.
PMBus lines idle. -/
def ownPins (s : State) : List (Option Bool) :=
  [if s.pw.mainUp && s.faultPin then some false else none, if s.alertPin then some false else none,
   if s.pw.mainUp && s.pw.tripped then some false else none, if s.pw.mainUp then some s.ppsOutHigh else none, none, none]

/-- The six outputs as the boundary register drives them. -/
def boundaryPins (s : State) : List (Option Bool) :=
  (List.range 6).map fun k => if bit s.pw.boundary (6 + 2 * k) then some (bit s.pw.boundary (5 + 2 * k)) else none

/-- The levels that the low-speed outputs have at the lands. -/
def outputPins (s : State) : List (Option Bool) :=
  match s.tapActs with
  | .extest | .clamp => s.boundaryPins
  | .highz => List.replicate 6 none
  | _ => s.ownPins

/-- The levels of the five inputs, as the cells sample them: PERST0_N and PERST1_N as the model holds them; the others are
undefined here, and drawn. -/
def samplePins (s : State) : Nat × State :=
  let r := s.freeNat 3
  let outs := (s.outputPins.zipIdx.map fun x => (match x.1 with
    | some true => 3
    | some false => 2
    | none => 1) * 2 ^ (5 + 2 * x.2)).sum
  (bnat (!s.pw.perst0) + 2 * bnat (!s.pw.perst1) + 4 * r.1 + outs, r.2)

/-- The instruction register takes an instruction; the register it selects is captured and shifted out. -/
def tapTake (s : State) (i : TapInstr) : State :=
  if !s.pw.mainUp then s
  else
    let t := { s with pw := { s.pw with tap := i, bypassBit := false } }
    match t.tapActs with
    | .idcode => t.emit (.tdo 32 idcodeValue)
    | .samplePreload =>
      let r := s.samplePins
      ({ r.2 with pw := { r.2.pw with tap := i, bypassBit := false } }).emit (.tdo 17 r.1)
    | .extest =>
      let r := t.samplePins
      r.2.emit (.tdo 17 r.1)
    | _ => t.emit (.tdo 1 0)

/-! Copies in flash (R436) -/

/-- An object's value as it is stored. -/
def store (s : State) (key : Nat) : State :=
  let idx := key / 16777216
  let sub := key / 65536 % 256
  let inst := key % 65536
  if 0x2D10 ≤ idx ∧ idx < 0x2D30 ∧ sub = 3 then
    let v := (Sparse.get (fun _ => none) s.led.secrets (idx - 0x2D10)).getD []
    { s with led := { s.led with flashBlobs := Sparse.set blobDefault s.led.flashBlobs key v } }
  else match (objInfo idx sub).bind (·.ty.width) with
    | some _ => { s with led := { s.led with flashVals := Sparse.set objDefault s.led.flashVals key (s.obj idx sub inst) } }
    | none => { s with led := { s.led with flashBlobs := Sparse.set blobDefault s.led.flashBlobs key (s.blob idx sub inst) } }

/-- The copy of an object that was written and is not yet in flash: it completes, or fails under source 4. -/
def flashWrite (s : State) (key : Nat) (success : Bool) : State :=
  if !s.led.flashDue.contains key then s
  else
    let t := { s with led := { s.led with flashDue := s.led.flashDue.filter (· != key) } }
    if success then t.store key else t.raiseSource 4

end State

/-! The commands -/

def execTapReset (s : State) : Host.Outcome State Fault Refusal := .next { s with pw := { s.pw with tap := .idcode } }

def execExtest (s : State) : Host.Outcome State Fault Refusal := .next (s.tapTake .extest)

def execIdcode (s : State) : Host.Outcome State Fault Refusal := .next (s.tapTake .idcode)

/-- The pins' values are captured, and the cells are loaded. -/
def execSamplePreload (cells : Nat) (s : State) : Host.Outcome State Fault Refusal :=
  .next (if s.pw.mainUp then
      let t := s.tapTake .samplePreload
      { t with pw := { t.pw with boundary := cells % 2 ^ 17 } }
    else s)

def execClamp (s : State) : Host.Outcome State Fault Refusal := .next (s.tapTake .clamp)

def execHighz (s : State) : Host.Outcome State Fault Refusal := .next (s.tapTake .highz)

def execBypass (s : State) : Host.Outcome State Fault Refusal := .next (s.tapTake .bypass)

/-- `object` is the object's key: index, subindex and instance. -/
def execFlashWrite (object : Nat) (success : Bool) (s : State) : Host.Outcome State Fault Refusal := s.live (s.flashWrite object success)

end Sys2Proof.Machine
end

