-- ==== Sys2Proof/Machine/Sends.lean ====
section
/-! DEFINITION. Machine/Sends.lean: the bench instruction SEND (R112). -/

namespace Sys2Proof.Machine

open BenchInstr

/-- The parameter block of SEND. The offset is not judged for kind 1, which names no remote address: R112 gives it no value there (DESIGN
CHOICE, log 119). -/
structure SendParam where
  kind : Nat
  flags : Nat
  target : Nat
  key : Nat
  imm : Nat
  off : Nat
  peg : Nat
  ok : Bool

def SendParam.parse (p : List Byte) : SendParam :=
  let kind := leAt p 0 1
  let flags := leAt p 1 1
  ⟨kind, flags, leAt p 4 4, leAt p 8 4, leAt p 0x0C 4, leAt p 0x10 8, leAt p 0x18 2,
   1 ≤ kind && kind ≤ 3 && flags < 4 && leAt p 2 2 == 0 && leAt p 4 4 < 2 ^ 24 && (slice p 0x1A 6).all (· == 0) &&
   (kind == 2 || leAt p 8 4 == 0) && (bit flags 0 || leAt p 0x0C 4 == 0) &&
   (if bit flags 1 then leAt p 0x18 2 < 4096 else leAt p 0x18 2 == 0)⟩

namespace State

/-- Kinds 1 and 2: the message joins the QP, as HRT_SEND and HRT_WRITE do (R260, R282, R422). `read` of its bytes came through the bench's
bank port (R79). -/
def sendOnQp (s : State) (b d : Nat) (j : Job) (p : SendParam) (bytes : List Byte) (read : Nat) : State :=
  s.withQp p.target fun q t =>
    if 65536 ≤ p.target ∨ q.state = .reset ∨ q.owner ≠ some d then t.benchFault b 2
    else if q.state = .error then t.benchFault b 0x0D
    else if q.state ≠ .rts then t.benchFault b 0x12
    else if q.attr.sa ≠ 0 ∧ !t.cipherNormal ∧ bytes.length % 16 ≠ 0 then (t.count 0x5800 6 1).benchFault b 0x10
    else
      let v := t.bench b
      let w := t.issueWork d j v.logical v.pc
      let r : HrtReq :=
        { plainReq (.job d w.2) p.kind bytes.length (paySize q.attr.payload) with
          key := p.key, roff := if p.kind = 2 then p.off else 0, imm := if bit p.flags 0 then some p.imm else none,
          peg := if bit p.flags 1 then some p.peg else none, given := bytes }
      ((w.1.setQp p.target { q with reqs := q.reqs ++ [r] }).step1 b).count (0x5400 + b) 0x0A read

/-- The status that a bench gives to a region that does not resolve: R113 lists LOCAL_PROTECTION and LOCAL_LENGTH, and R78 DATA_PARITY; a
translation status is none of a bench's (R124), and counts as LOCAL_PROTECTION (log 38). -/
def sendStatus (st : Nat) : Nat := if st = 1 ∨ st = 0x0B then st else 2

/-- Kind 3: the bytes go into a region of the drawer's function; a signal follows behind an ordering read (R159, R160). -/
def sendToRegion (s : State) (b d : Nat) (j : Job) (p : SendParam) (bytes : List Byte) (read : Nat) : State :=
  match s.resolveRegion d p.target p.off bytes.length true false with
    | (.wait, s1) => s.waitForMove d b s1
    | (.fail st, s1) => s1.benchFault b (sendStatus st)
    | (.ok ps, s1) =>
      if s1.stackHeld ps then s
      else
      let v := s1.bench b
      let w := s1.issueWork d j v.logical v.pc
      let s2 := ((((w.1.writePieces d ps bytes).race ps).noteBus d j.entry ps).step1 b).count (0x5400 + b) 0x0A read
      if ps.any fun x => match x with
          | .bus port _ _ => !s2.busOk port
          | _ => false then s2.workDone d w.2 0x0B
      else if !bit p.flags 1 then s2.workDone d w.2 0
      else match lastBusOf ps with
        | some (port, a) => s2.issueOrdering port a d (.send d w.2 p.peg)
        | none => (s2.addHubPeg p.peg 1).workDone d w.2 0

end State

def execSend (bench : Nat) (s : State) : Host.Outcome State Fault Refusal :=
  s.live (s.runKernelInstr bench 0x1B fun d j w o t =>
    match o.a with
    | some a =>
      let p := SendParam.parse (t.paramAt bench w 32)
      if !sendOk w o.descs || !storeOk (param w) 32 false || !t.spansOk bench d j a a.sendSpans false then t.benchFault bench 0x0C
      else if (t.bench bench).store.hasBad (param w) 32 then t.benchParity bench
      else if !p.ok || (p.kind == 3 && bit p.flags 1 && !t.ownsPeg d p.peg) then t.benchFault bench 0x0C
      else if t.movesOnto bench d j [(a, a.sendSpans)] then s
      else match t.spansBad bench d a a.sendSpans with
        | some q => t.benchParity bench q
        | none =>
            let bytes := a.sendSpans.flatMap fun x => (List.range x.2).map fun k => t.rdOf bench d o.a (x.1 + k)
            let read := t.bankBytes bench d a a.sendSpans
            if p.kind = 3 then t.sendToRegion bench d j p bytes read else t.sendOnQp bench d j p bytes read
    | none => t.benchFault bench 0x0C)

end Sys2Proof.Machine
end

