-- ==== Sys2Proof/Machine/Dispatch.lean ====
section
/-! DEFINITION. Machine/Dispatch.lean: one arm for each command, each one direct call of that command's meaning. -/

namespace Sys2Proof.Machine

def exec (i : Instr) (s : State) : Host.Outcome State Fault Refusal :=
  match i with
  | .nop fid idx => Sys2Proof.Machine.execNop fid idx s
  | .fence fid idx => Sys2Proof.Machine.execFence fid idx s
  | .copy fid idx => Sys2Proof.Machine.execCopy fid idx s
  | .hrtSend fid idx => Sys2Proof.Machine.execHrtSend fid idx s
  | .hrtWrite fid idx => Sys2Proof.Machine.execHrtWrite fid idx s
  | .hrtRead fid idx => Sys2Proof.Machine.execHrtRead fid idx s
  | .hrtAdd fid idx => Sys2Proof.Machine.execHrtAdd fid idx s
  | .hrtCas fid idx => Sys2Proof.Machine.execHrtCas fid idx s
  | .hrtFlush fid idx => Sys2Proof.Machine.execHrtFlush fid idx s
  | .qpModify fid idx => Sys2Proof.Machine.execQpModify fid idx s
  | .resume fid idx => Sys2Proof.Machine.execResume fid idx s
  | .regRegion fid idx => Sys2Proof.Machine.execRegRegion fid idx s
  | .deregRegion fid idx => Sys2Proof.Machine.execDeregRegion fid idx s
  | .prefetch fid idx => Sys2Proof.Machine.execPrefetch fid idx s
  | .advisePrewalk fid idx => Sys2Proof.Machine.execAdvisePrewalk fid idx s
  | .advisePin fid idx => Sys2Proof.Machine.execAdvisePin fid idx s
  | .adviseUnpin fid idx => Sys2Proof.Machine.execAdviseUnpin fid idx s
  | .adviseHold fid idx => Sys2Proof.Machine.execAdviseHold fid idx s
  | .adviseRelease fid idx => Sys2Proof.Machine.execAdviseRelease fid idx s
  | .adviseEvict fid idx => Sys2Proof.Machine.execAdviseEvict fid idx s
  | .invalidate fid idx => Sys2Proof.Machine.execInvalidate fid idx s
  | .loadJob fid idx => Sys2Proof.Machine.execLoadJob fid idx s
  | .runJob fid idx => Sys2Proof.Machine.execRunJob fid idx s
  | .jobDispatch fid idx => Sys2Proof.Machine.execJobDispatch fid idx s
  | .jobComplete drawer => Sys2Proof.Machine.execJobComplete drawer s
  | .jobDeadlineExpiry drawer => Sys2Proof.Machine.execJobDeadlineExpiry drawer s
  | .tableDeal fid idx => Sys2Proof.Machine.execTableDeal fid idx s
  | .tableRedeal fid idx => Sys2Proof.Machine.execTableRedeal fid idx s
  | .tableClear fid idx => Sys2Proof.Machine.execTableClear fid idx s
  | .handStart fid idx => Sys2Proof.Machine.execHandStart fid idx s
  | .handQueuedStart fid idx => Sys2Proof.Machine.execHandQueuedStart fid idx s
  | .pegSetWrite fid idx => Sys2Proof.Machine.execPegSetWrite fid idx s
  | .pegSetAdd fid idx => Sys2Proof.Machine.execPegSetAdd fid idx s
  | .pegSetWait fid idx => Sys2Proof.Machine.execPegSetWait fid idx s
  | .pegSetBind fid idx => Sys2Proof.Machine.execPegSetBind fid idx s
  | .pegSetUnbind fid idx => Sys2Proof.Machine.execPegSetUnbind fid idx s
  | .nvmeRead fid idx => Sys2Proof.Machine.execNvmeRead fid idx s
  | .nvmeWrite fid idx => Sys2Proof.Machine.execNvmeWrite fid idx s
  | .nvmeFlush fid idx => Sys2Proof.Machine.execNvmeFlush fid idx s
  | .entryFetch fid => Sys2Proof.Machine.execEntryFetch fid s
  | .speculativeFetch fid idx => Sys2Proof.Machine.execSpeculativeFetch fid idx s
  | .wrProdWrite fid value hostStores peerStores => Sys2Proof.Machine.execWrProdWrite fid value hostStores peerStores s
  | .crConsWrite fid value => Sys2Proof.Machine.execCrConsWrite fid value s
  | .crArmWrite fid value => Sys2Proof.Machine.execCrArmWrite fid value s
  | .ringEnable fid => Sys2Proof.Machine.execRingEnable fid s
  | .ringDisable fid => Sys2Proof.Machine.execRingDisable fid s
  | .ringStatusRead fid => Sys2Proof.Machine.execRingStatusRead fid s
  | .registerWrite fid offset size value => Sys2Proof.Machine.execRegisterWrite fid offset size value s
  | .crMirrorWrite fid => Sys2Proof.Machine.execCrMirrorWrite fid s
  | .msixMessage fid => Sys2Proof.Machine.execMsixMessage fid s
  | .completionBackpressure fid => Sys2Proof.Machine.execCompletionBackpressure fid s
  | .mbDoorbellWrite value hostStores => Sys2Proof.Machine.execMbDoorbellWrite value hostStores s
  | .mbStatusRead => Sys2Proof.Machine.execMbStatusRead s
  | .flr fid => Sys2Proof.Machine.execFlr fid s
  | .flrWedgeTimeout fid => Sys2Proof.Machine.execFlrWedgeTimeout fid s
  | .benchNop bench => Sys2Proof.Machine.execBenchNop bench s
  | .benchEnd bench => Sys2Proof.Machine.execBenchEnd bench s
  | .benchLoop bench => Sys2Proof.Machine.execBenchLoop bench s
  | .benchBranch bench => Sys2Proof.Machine.execBenchBranch bench s
  | .pegAdd bench => Sys2Proof.Machine.execPegAdd bench s
  | .pegWait bench => Sys2Proof.Machine.execPegWait bench s
  | .pegSignal bench => Sys2Proof.Machine.execPegSignal bench s
  | .matvec bench => Sys2Proof.Machine.execMatvec bench s
  | .attend bench => Sys2Proof.Machine.execAttend bench s
  | .gather bench => Sys2Proof.Machine.execGather bench s
  | .norm bench => Sys2Proof.Machine.execNorm bench s
  | .act bench => Sys2Proof.Machine.execAct bench s
  | .quant bench => Sys2Proof.Machine.execQuant bench s
  | .dequant bench => Sys2Proof.Machine.execDequant bench s
  | .topk bench => Sys2Proof.Machine.execTopk bench s
  | .sample bench => Sys2Proof.Machine.execSample bench s
  | .reduce bench => Sys2Proof.Machine.execReduce bench s
  | .move bench => Sys2Proof.Machine.execMove bench s
  | .send bench => Sys2Proof.Machine.execSend bench s
  | .benchParityError bench => Sys2Proof.Machine.execBenchParityError bench s
  | .spinTimeout bench => Sys2Proof.Machine.execSpinTimeout bench s
  | .wakeGrant stack => Sys2Proof.Machine.execWakeGrant stack s
  | .benchWake bench => Sys2Proof.Machine.execBenchWake bench s
  | .refresh bench bank => Sys2Proof.Machine.execRefresh bench bank s
  | .scrubAccess corrected => Sys2Proof.Machine.execScrubAccess corrected s
  | .thermalReading temps => Sys2Proof.Machine.execThermalReading temps s
  | .governorSample readings => Sys2Proof.Machine.execGovernorSample readings s
  | .stackBringup stack => Sys2Proof.Machine.execStackBringup stack s
  | .stackTrim stack passed => Sys2Proof.Machine.execStackTrim stack passed s
  | .clockStep stack => Sys2Proof.Machine.execClockStep stack s
  | .stage1Entry => Sys2Proof.Machine.execStage1Entry s
  | .stage2Entry => Sys2Proof.Machine.execStage2Entry s
  | .laneCalibration => Sys2Proof.Machine.execLaneCalibration s
  | .powerGood => Sys2Proof.Machine.execPowerGood s
  | .bootRomRun => Sys2Proof.Machine.execBootRomRun s
  | .mainRailsDown => Sys2Proof.Machine.execMainRailsDown s
  | .mainRailExcursion rail => Sys2Proof.Machine.execMainRailExcursion rail s
  | .vddAuxExcursion inRange => Sys2Proof.Machine.execVddAuxExcursion inRange s
  | .wakeFrameReceive frame => Sys2Proof.Machine.execWakeFrameReceive frame s
  | .perst0Assert => Sys2Proof.Machine.execPerst0Assert s
  | .perst0Deassert => Sys2Proof.Machine.execPerst0Deassert s
  | .perst1Assert => Sys2Proof.Machine.execPerst1Assert s
  | .perst1Deassert => Sys2Proof.Machine.execPerst1Deassert s
  | .fullReset => Sys2Proof.Machine.execFullReset s
  | .p0DlDown => Sys2Proof.Machine.execP0DlDown s
  | .p0DlUp speed width flit => Sys2Proof.Machine.execP0DlUp speed width flit s
  | .p0LinkLossTimeout => Sys2Proof.Machine.execP0LinkLossTimeout s
  | .p1LinkDown => Sys2Proof.Machine.execP1LinkDown s
  | .rootLockLoss => Sys2Proof.Machine.execRootLockLoss s
  | .rootLockRestore => Sys2Proof.Machine.execRootLockRestore s
  | .orderingReadComplete id success => Sys2Proof.Machine.execOrderingReadComplete id success s
  | .deroneTrainingDone port partnerModule partnerPort => Sys2Proof.Machine.execDeroneTrainingDone port partnerModule partnerPort s
  | .deroneLinkDown port => Sys2Proof.Machine.execDeroneLinkDown port s
  | .deroneDegraded port => Sys2Proof.Machine.execDeroneDegraded port s
  | .deroneFlowControl port vc stop => Sys2Proof.Machine.execDeroneFlowControl port vc stop s
  | .deroneForward port packet => Sys2Proof.Machine.execDeroneForward port packet s
  | .deroneRxWrite port packet => Sys2Proof.Machine.execDeroneRxWrite port packet s
  | .deroneRxReadReq port packet => Sys2Proof.Machine.execDeroneRxReadReq port packet s
  | .deroneRxReadResp port packet => Sys2Proof.Machine.execDeroneRxReadResp port packet s
  | .deroneRxAck port packet => Sys2Proof.Machine.execDeroneRxAck port packet s
  | .deroneRxNak port packet => Sys2Proof.Machine.execDeroneRxNak port packet s
  | .deroneStallDiscard port vc => Sys2Proof.Machine.execDeroneStallDiscard port vc s
  | .deroneAckTimeout id => Sys2Proof.Machine.execDeroneAckTimeout id s
  | .deroneBusyResend id => Sys2Proof.Machine.execDeroneBusyResend id s
  | .dovetailIssue id => Sys2Proof.Machine.execDovetailIssue id s
  | .deroneTransferStart => Sys2Proof.Machine.execDeroneTransferStart s
  | .routeDrain => Sys2Proof.Machine.execRouteDrain s
  | .routeDrained => Sys2Proof.Machine.execRouteDrained s
  | .routeSwap => Sys2Proof.Machine.execRouteSwap s
  | .routeResume => Sys2Proof.Machine.execRouteResume s
  | .routeAbort => Sys2Proof.Machine.execRouteAbort s
  | .deroneLinkEnableWrite port value => Sys2Proof.Machine.execDeroneLinkEnableWrite port value s
  | .handData table => Sys2Proof.Machine.execHandData table s
  | .handCredit table => Sys2Proof.Machine.execHandCredit table s
  | .handAbort table => Sys2Proof.Machine.execHandAbort table s
  | .handDone table => Sys2Proof.Machine.execHandDone table s
  | .handFin table => Sys2Proof.Machine.execHandFin table s
  | .handPartDone table => Sys2Proof.Machine.execHandPartDone table s
  | .handLeaderDeadline table => Sys2Proof.Machine.execHandLeaderDeadline table s
  | .handRootDeadline table => Sys2Proof.Machine.execHandRootDeadline table s
  | .handMemberDeadline table => Sys2Proof.Machine.execHandMemberDeadline table s
  | .hrtPacketTransmit qp => Sys2Proof.Machine.execHrtPacketTransmit qp s
  | .hrtRxSend => Sys2Proof.Machine.execHrtRxSend s
  | .hrtRxWrite => Sys2Proof.Machine.execHrtRxWrite s
  | .hrtRxReadReq => Sys2Proof.Machine.execHrtRxReadReq s
  | .hrtRxAdd => Sys2Proof.Machine.execHrtRxAdd s
  | .hrtRxCas => Sys2Proof.Machine.execHrtRxCas s
  | .hrtRxFlush => Sys2Proof.Machine.execHrtRxFlush s
  | .hrtRxColl => Sys2Proof.Machine.execHrtRxColl s
  | .hrtRxReadResp => Sys2Proof.Machine.execHrtRxReadResp s
  | .hrtRxAtomicResp => Sys2Proof.Machine.execHrtRxAtomicResp s
  | .hrtRxAck => Sys2Proof.Machine.execHrtRxAck s
  | .hrtRxAckStale => Sys2Proof.Machine.execHrtRxAckStale s
  | .hrtRxNakPage => Sys2Proof.Machine.execHrtRxNakPage s
  | .hrtRxFatalNak => Sys2Proof.Machine.execHrtRxFatalNak s
  | .heldRequestExecute qp => Sys2Proof.Machine.execHeldRequestExecute qp s
  | .flushConditionMet qp => Sys2Proof.Machine.execFlushConditionMet qp s
  | .ackDelayExpiry qp => Sys2Proof.Machine.execAckDelayExpiry qp s
  | .retransmitTimeout qp => Sys2Proof.Machine.execRetransmitTimeout qp s
  | .pageWaitEnd qp => Sys2Proof.Machine.execPageWaitEnd qp s
  | .pageWaitTimeout qp => Sys2Proof.Machine.execPageWaitTimeout qp s
  | .climbTimer qp => Sys2Proof.Machine.execClimbTimer qp s
  | .contextFetch qp => Sys2Proof.Machine.execContextFetch qp s
  | .frameReceive port lane frame code => Sys2Proof.Machine.execFrameReceive port lane frame code s
  | .pfcReceive port lane frame => Sys2Proof.Machine.execPfcReceive port lane frame s
  | .pfcPauseExpiry port lane cls => Sys2Proof.Machine.execPfcPauseExpiry port lane cls s
  | .pfcRepeat port lane cls => Sys2Proof.Machine.execPfcRepeat port lane cls s
  | .frameTransmit port lane => Sys2Proof.Machine.execFrameTransmit port lane s
  | .subportUp port lane => Sys2Proof.Machine.execSubportUp port lane s
  | .subportDown port lane => Sys2Proof.Machine.execSubportDown port lane s
  | .subportDegraded port lane => Sys2Proof.Machine.execSubportDegraded port lane s
  | .ethLinkEnableWrite port value => Sys2Proof.Machine.execEthLinkEnableWrite port value s
  | .gateEntryChange port lane => Sys2Proof.Machine.execGateEntryChange port lane s
  | .configChange port lane => Sys2Proof.Machine.execConfigChange port lane s
  | .gateConfigApply port lane => Sys2Proof.Machine.execGateConfigApply port lane s
  | .nvmeConnect conn => Sys2Proof.Machine.execNvmeConnect conn s
  | .nvmeDisconnect conn => Sys2Proof.Machine.execNvmeDisconnect conn s
  | .nvmeConnectDone conn => Sys2Proof.Machine.execNvmeConnectDone conn s
  | .nvmeConnectTimeout conn digestsRefused => Sys2Proof.Machine.execNvmeConnectTimeout conn digestsRefused s
  | .nvmeConnectionLoss conn => Sys2Proof.Machine.execNvmeConnectionLoss conn s
  | .nvmeIoTimeout conn => Sys2Proof.Machine.execNvmeIoTimeout conn s
  | .nvmeReconnectDelay conn => Sys2Proof.Machine.execNvmeReconnectDelay conn s
  | .nvmeKeepAlive conn => Sys2Proof.Machine.execNvmeKeepAlive conn s
  | .nvmeC2hData conn pdu => Sys2Proof.Machine.execNvmeC2hData conn pdu s
  | .nvmeR2t conn pdu => Sys2Proof.Machine.execNvmeR2t conn pdu s
  | .nvmeCapsuleResp conn pdu => Sys2Proof.Machine.execNvmeCapsuleResp conn pdu s
  | .rawQueueEnable queue => Sys2Proof.Machine.execRawQueueEnable queue s
  | .rawQueueDisable queue => Sys2Proof.Machine.execRawQueueDisable queue s
  | .rawTxDescriptor queue => Sys2Proof.Machine.execRawTxDescriptor queue s
  | .rawRxFrame queue => Sys2Proof.Machine.execRawRxFrame queue s
  | .telemetryEnable stream => Sys2Proof.Machine.execTelemetryEnable stream s
  | .telemetryRecord stream => Sys2Proof.Machine.execTelemetryRecord stream s
  | .clusterWatchdogExpiry => Sys2Proof.Machine.execClusterWatchdogExpiry s
  | .timeStep value => Sys2Proof.Machine.execTimeStep value s
  | .ppsOutPulse => Sys2Proof.Machine.execPpsOutPulse s
  | .ppsInEdge => Sys2Proof.Machine.execPpsInEdge s
  | .kekLoad drawer blob => Sys2Proof.Machine.execKekLoad drawer blob s
  | .keyWrite drawer blob => Sys2Proof.Machine.execKeyWrite drawer blob s
  | .keyClear drawer slot => Sys2Proof.Machine.execKeyClear drawer slot s
  | .svnCommit value => Sys2Proof.Machine.execSvnCommit value s
  | .ledgerRead session request => Sys2Proof.Machine.execLedgerRead session request s
  | .ledgerWrite session request => Sys2Proof.Machine.execLedgerWrite session request s
  | .domainRead session request => Sys2Proof.Machine.execDomainRead session request s
  | .domainBegin session request => Sys2Proof.Machine.execDomainBegin session request s
  | .domainSegment session request => Sys2Proof.Machine.execDomainSegment session request s
  | .domainEnd session request => Sys2Proof.Machine.execDomainEnd session request s
  | .domainAbort session request => Sys2Proof.Machine.execDomainAbort session request s
  | .domainTransferTimeout session => Sys2Proof.Machine.execDomainTransferTimeout session s
  | .hello request => Sys2Proof.Machine.execHello request s
  | .auth request => Sys2Proof.Machine.execAuth request s
  | .close session request => Sys2Proof.Machine.execClose session request s
  | .helloExpiry session => Sys2Proof.Machine.execHelloExpiry session s
  | .sessionIdleExpiry session => Sys2Proof.Machine.execSessionIdleExpiry session s
  | .heartbeat session request => Sys2Proof.Machine.execHeartbeat session request s
  | .subscribe session request => Sys2Proof.Machine.execSubscribe session request s
  | .notifyAck session request => Sys2Proof.Machine.execNotifyAck session request s
  | .notifyResend session => Sys2Proof.Machine.execNotifyResend session s
  | .watchdogExpiry => Sys2Proof.Machine.execWatchdogExpiry s
  | .resetCommand session => Sys2Proof.Machine.execResetCommand session s
  | .scorecardClear mask => Sys2Proof.Machine.execScorecardClear mask s
  | .scorecardEvent source => Sys2Proof.Machine.execScorecardEvent source s
  | .injectStart => Sys2Proof.Machine.execInjectStart s
  | .injectStop => Sys2Proof.Machine.execInjectStop s
  | .injectEvent => Sys2Proof.Machine.execInjectEvent s
  | .drawerStop drawer => Sys2Proof.Machine.execDrawerStop drawer s
  | .drawerStoppedReached drawer => Sys2Proof.Machine.execDrawerStoppedReached drawer s
  | .drawerStart drawer => Sys2Proof.Machine.execDrawerStart drawer s
  | .recycle drawer => Sys2Proof.Machine.execRecycle drawer s
  | .chunkGo => Sys2Proof.Machine.execChunkGo s
  | .benchOwnerWrite bytes => Sys2Proof.Machine.execBenchOwnerWrite bytes s
  | .hubPegBlockWrite block value => Sys2Proof.Machine.execHubPegBlockWrite block value s
  | .migSave drawer => Sys2Proof.Machine.execMigSave drawer s
  | .migRestore drawer => Sys2Proof.Machine.execMigRestore drawer s
  | .migCopyOut drawer => Sys2Proof.Machine.execMigCopyOut drawer s
  | .migCopyIn drawer => Sys2Proof.Machine.execMigCopyIn drawer s
  | .migLogStart drawer => Sys2Proof.Machine.execMigLogStart drawer s
  | .migLogSwap drawer => Sys2Proof.Machine.execMigLogSwap drawer s
  | .migLogStop drawer => Sys2Proof.Machine.execMigLogStop drawer s
  | .secretLoad credential blob => Sys2Proof.Machine.execSecretLoad credential blob s
  | .tapReset => Sys2Proof.Machine.execTapReset s
  | .extest => Sys2Proof.Machine.execExtest s
  | .idcode => Sys2Proof.Machine.execIdcode s
  | .samplePreload cells => Sys2Proof.Machine.execSamplePreload cells s
  | .clamp => Sys2Proof.Machine.execClamp s
  | .highz => Sys2Proof.Machine.execHighz s
  | .bypass => Sys2Proof.Machine.execBypass s
  | .p1DlUp speed width flit => Sys2Proof.Machine.execP1DlUp speed width flit s
  | .stackInterfaceLoss stack => Sys2Proof.Machine.execStackInterfaceLoss stack s
  | .stackInterfaceRetrained stack => Sys2Proof.Machine.execStackInterfaceRetrained stack s
  | .mainRailReturn rail => Sys2Proof.Machine.execMainRailReturn rail s
  | .completionTimeout fid idx => Sys2Proof.Machine.execCompletionTimeout fid idx s
  | .atomicopCompletion qp success value => Sys2Proof.Machine.execAtomicopCompletion qp success value s
  | .flashWrite object success => Sys2Proof.Machine.execFlashWrite object success s
  | .vfEnable numVfs => Sys2Proof.Machine.execVfEnable numVfs s
  | .pcieTlpError port => Sys2Proof.Machine.execPcieTlpError port s

end Sys2Proof.Machine
end

