-- ==== Sys2Proof/Certificates/Slice0/Obligations.lean ====
section
/-! DEFINITION. Certificates/Slice0/Obligations.lean: the statements for the provers. `t` is always the next state. A frame
is written as an equation: put back the fields named in it, and the old state is what remains. -/

namespace Sys2Proof.Claims

open Sys2Proof Sys2Proof.Machine

/-- The entry `e` in flight at an index of a function's ring may begin its operation: it is ready, of the opcode, not malformed, not
ended by a stop of its drawer, and no earlier FENCE, INVALIDATE or hand holds it (R339, R341, R342, R371). -/
def ready (s : State) (f i : Nat) (e : Entry) (op : Nat) : Prop :=
  s.running = true ∧ s.findEntry f i = some e ∧ e.stage = .ready ∧ e.opcode = op ∧ State.mayStart (s.fn f) e = true ∧
  s.earlyStatus f e = none

/-- An ADVISE entry of a kind (R143). -/
def advising (s : State) (f i : Nat) (e : Entry) (kind : Nat) : Prop := ready s f i e 0x29 ∧ e.u8 8 = kind

/-- The outcome is a next state with a property. -/
def answers (c : Instr) (s : State) (p : State → Prop) : Prop := ∃ t, exec c s = .next t ∧ p t

/-- Nothing but the function pages differs. -/
def onlyPages (s t : State) : Prop := { t with ring := { t.ring with fns := s.ring.fns } } = s

/-- Nothing but one function's page differs. -/
def onlyPage (s t : State) (f : Nat) : Prop := onlyPages s t ∧ ∀ g, g ≠ f → t.fn g = s.fn g

/-- Every byte memory is in its canonical form. -/
def canonical (s : State) : Prop := s.mem.dev.wf = true ∧ s.mem.host.wf = true ∧ s.mem.peer.wf = true

/-- The bench issues the instruction `w` of opcode `code` for the job `j` of drawer `d`: it is RUNNING with a clock and no wake pending, and
its next 16 bytes are in the instruction buffer or are fetched without error (R65, R72, R76, R83, R94). -/
def issues (s : State) (b d : Nat) (j : Job) (w code : Nat) : Prop :=
  s.running = true ∧ s.mayIssue b = some (d, j) ∧ (s.fetchInstr b d j).1.map ofLe = some w ∧ BenchInstr.op w = code

/-- The state after the bench's instruction has been fetched (R65). -/
def fetched (s : State) (b d : Nat) (j : Job) : State := (s.fetchInstr b d j).2

/-- A kernel's operands lie where they may, no destination waits for a lost interface, no operand waits for an earlier MOVE of the bench, and
neither what it reads nor a window that it writes through has bad parity (R55, R78, R100, R146, R472). -/
def runnable (s : State) (b d : Nat) (j : Job) (reads writes : List (View × List (Nat × Nat))) (params : List (Nat × Nat)) : Prop :=
  reads.all (fun r => s.spansOk b d j r.1 r.2 false) = true ∧ writes.all (fun r => s.spansOk b d j r.1 r.2 true) = true ∧
  params.all (fun p => storeOk p.1 p.2 false) = true ∧ writes.any (fun r => s.spansHeld b d r.1 r.2) = false ∧
  s.movesOnto b d j (reads ++ writes) = false ∧ (s.readsBad b d reads params).or (writes.findSome? fun r => s.mapsBad d r.1 r.2) = none

/-- A kernel's results in place: each destination written, what R79 counts of it counted, and the bench at its next instruction, with what
the kernel leaves in the bench's registers (R62, R63, R79, R100). -/
def written (s : State) (b d : Nat) (reads : List (View × List (Nat × Nat))) (out : KernelOut) : State :=
  (((out.writes.foldl (fun t x => t.wr b d x.1 x.2) s).countKernel b d out reads).step1 b).leaveScratch b out.leaves

/-- The packet `x`, at place `i` of the queue, is the first of its pipeline and has one of the forms `ops`, and those of other pipelines that are
asked before it wait for their contexts (R250). -/
def firstTaken (s : State) (ops : HrtPkt → Bool) (i : Nat) (x : HrtIn) : Prop :=
  ∃ pre post, s.hrtNext ops = pre ++ (i, x) :: post ∧
    ∀ y ∈ pre, y.2.pkt.destQpn < 65536 ∧ y.2.pkt.destQpn < s.qpsAvailable ∧ s.cachedQp y.2.pkt.destQpn = false

/-- Such a packet reaches step 7 of R257 on the QP `q`, whose context is cached (R250, R257). -/
def arrivesAt (s : State) (ops : HrtPkt → Bool) (i : Nat) (x : HrtIn) (q : Qp) : Prop :=
  s.running = true ∧ firstTaken s ops i x ∧ x.pkt.destQpn < 65536 ∧ x.pkt.destQpn < s.qpsAvailable ∧
  s.cachedQp x.pkt.destQpn = true ∧ (((s.popHrt i).touchQp x.pkt.destQpn).passSix x).1 = some q

/-- The state in which step 7 of R257 finds such a packet. -/
def arrived (s : State) (i : Nat) (x : HrtIn) : State := (((s.popHrt i).touchQp x.pkt.destQpn).passSix x).2

/-- The rational number that a finite datum stands for. -/
def value (n : Bool) (m : Nat) (e : Int) : ℚ := (if n then -1 else 1) * (m : ℚ) * (2 : ℚ) ^ e

end Sys2Proof.Claims

open Sys2Proof Sys2Proof.Machine Sys2Proof.Claims

/-! The machine as a whole -/

/-- A step takes the command at the front of the queue and runs it on the state with the rest of the queue. -/
def Obligations.StepRunsFrontCommand : Prop :=
  ∀ (s : State) (c : Instr) (rest : List Instr), s.pending = c :: rest → step s = exec c { s with pending := rest }

/-- With no command waiting, one tick of CK_TICK passes while ROOT runs: time moves on by 10 ns, and nothing moves while ROOT is stopped.
While the time service runs, what it writes to FREQ_ADJ and TIME_STEP comes first (R462). That the tick stands on the empty queue is the
model's choice (log 6), and what the service writes is free (log 71). While ROOT is unlocked, or after a thermal trip, only the supplies,
the reset pins, the wake detector, the loss and return of ROOT and the test access port act: every other command changes nothing (R487,
R503). -/
def Obligations.TimePassesOnlyWhileRootRuns : Prop :=
  (∀ s : State, s.pending = [] →
    (s.running = true → (∀ f, (s.fn f).flrAt = none) → s.led.chunkRun = none → ∃ t, step s = .next t ∧ t.now = s.now + 10000 ∧
      (let u := s.steerTime
       t.pw.time = (((u.pw.time : Int) + 10 * 2 ^ 32 + signed 32 (u.obj 0x2600 3) + u.pw.stepDue.getD 0 * 2 ^ 32).toNat) % 2 ^ 96) ∧
      (s.timeServiceRuns = false → t.pw.time =
        (((s.pw.time : Int) + 10 * 2 ^ 32 + signed 32 (s.obj 0x2600 3) + s.pw.stepDue.getD 0 * 2 ^ 32).toNat) % 2 ^ 96) ∧
      t.pending = []) ∧
    (s.running = false → step s = .next s)) ∧
  (∀ (c : Instr) (s : State), s.running = false →
    (match c with
      | .rootLockLoss | .rootLockRestore | .powerGood | .mainRailsDown | .mainRailExcursion _ | .mainRailReturn _
      | .vddAuxExcursion _ | .wakeFrameReceive _ | .perst0Assert | .perst0Deassert | .perst1Assert | .perst1Deassert
      | .tapReset | .extest | .idcode | .samplePreload _ | .clamp | .highz | .bypass => True
      | _ => exec c s = .next s))

/-- Every command completes in every state: no command faults and none is refused. -/
def Obligations.EveryCommandCompletes : Prop :=
  ∀ (c : Instr) (s : State), ∃ t, exec c s = .next t

/-- After reset: standby, with nothing pending and nothing sent, Stage 0, both PCIe links down, every ring page at the Reset column of R334,
and every byte memory in canonical form. -/
def Obligations.ResetIsStandby : Prop :=
  State.reset.pending = [] ∧ State.reset.out = [] ∧ State.reset.level = 0 ∧ State.reset.running = false ∧
  State.reset.pw.mainUp = false ∧ State.reset.ring.p0.up = false ∧ State.reset.ring.p1.up = false ∧
  (∀ f, State.reset.fn f = Fn.reset (if f = 0 then 16 else 15)) ∧ (∀ b, State.reset.bench b = Bench.reset) ∧
  (∀ n, State.reset.session n = none) ∧ (∀ src, State.reset.line src = FaultLine.down) ∧ canonical State.reset

/-- Every step keeps every byte memory in its canonical form, so equal memories are equal data. -/
def Obligations.StepKeepsMemoryCanonical : Prop :=
  ∀ s t : State, canonical s → step s = .next t → canonical t

/-- Saturating counters: counting never lowers a counter, never passes 2^64 − 1, and touches no other counter (R12). -/
def Obligations.CountersSaturate : Prop :=
  ∀ (s : State) (i b n : Nat), s.ctr i b < 2 ^ 64 →
    (s.count i b n).ctr i b = min (s.ctr i b + n) (2 ^ 64 - 1) ∧
    (∀ j k, objKey j k 0 ≠ objKey i b 0 → (s.count i b n).ctr j k = s.ctr j k) ∧
    { s.count i b n with led := { (s.count i b n).led with ctrs := s.led.ctrs } } = s

/-! PCIe functions and the work rings -/

/-- NOP and FENCE complete with OK, and do nothing else, once they may start; a well-formed FENCE may start only when it is the oldest entry
in flight, and nothing behind it may (R342). Completing the only entry in flight, with room on a completion ring that has nothing staged:
the WORK record of R352 lies in slot CR_PROD mod S, CR_PROD advances by one, the entry is gone, and no other function's page differs. Room
on the ring lets staged records leave oldest first, before anything newer: one move takes the oldest staged record to slot CR_PROD mod S
(R336, R358). -/
def Obligations.EntriesCompleteWithTheirRecord : Prop :=
  ((∀ s f i e, ready s f i e 0x00 → exec (.nop f i) s = .next (s.complete f e 0 [])) ∧
  (∀ s f i e, ready s f i e 0x01 → exec (.fence f i) s = .next (s.complete f e 0 [])) ∧
  (∀ (v : Fn) (e : Entry), e.opcode = 0x01 → e.malformed = false → State.mayStart v e = true → State.earlier v e = []) ∧
  (∀ (v : Fn) (e x : Entry), State.mayStart v e = true → x ∈ State.earlier v e → x.malformed = false → x.opcode ≠ 0x01)) ∧
  (∀ (s : State) (f st : Nat) (e : Entry) (res : List Byte),
    (s.fn f).entries = [e] → e.stage = .ready → (s.fn f).staged = [] → (s.fn f).room = true → s.ring.p0.up = true → s.obj 0x23C0 9 f = 0 →
    let t := s.complete f e st res
    let a := (s.fn f).crBase + 32 * ((s.fn f).crProd % 2 ^ (s.fn f).crLog)
    t.mem.host.readBytes a 32 = workRecord st e.opcode e.tag res ∧ (t.fn f).entries = [] ∧
    (t.fn f).crProd = ((s.fn f).crProd + 1) % 2 ^ 32 ∧ (∀ g, g ≠ f → t.fn g = s.fn g) ∧ t.mem.dev = s.mem.dev ∧
    (∀ x, x < a ∨ a + 32 ≤ x → t.mem.host.read x = s.mem.host.read x)) ∧
  (∀ (s : State) (f : Nat) (r : List Byte) (rest : List (List Byte)),
    (s.fn f).staged = r :: rest → (s.fn f).room = true → s.ring.p0.up = true → s.obj 0x23C0 9 f = 0 →
    let t := s.drainOne f
    let a := (s.fn f).crBase + 32 * ((s.fn f).crProd % 2 ^ (s.fn f).crLog)
    t.mem.host.readBytes a r.length = r ∧ (t.fn f).staged = rest ∧ (t.fn f).crProd = ((s.fn f).crProd + 1) % 2 ^ 32 ∧
    (t.fn f).entries = (s.fn f).entries ∧ (t.fn f).events = (s.fn f).events)

/-- WR_PROD only advances and never passes a full ring; a write that would is ignored and sets PROD_ERROR. The host's earlier stores are in
memory first (log 5), and no other page differs (R335, R336). CR_CONS and CR_ARM. A write of CR_CONS past CR_PROD, or of either while
ENABLE is 0, changes nothing but CONS_ERROR. A write of CR_CONS that holds its condition takes effect, then staged records leave and the
waiting messages of the function's QPs go on. CR_ARM arms the interrupt (R335, R336, R357, R358). -/
def Obligations.RingIndexWrites : Prop :=
  (∀ (s : State) (f x : Nat) (hs ps : List Host.Cell), s.running = true → s.pageOpen f = true → x < 2 ^ 32 →
    answers (.wrProdWrite f x hs ps) s fun t =>
      t.fn f = (if (s.fn f).enable = true ∧ subMod (2 ^ 32) x (s.fn f).wrCons ≤ 2 ^ (s.fn f).wrLog ∧
          subMod (2 ^ 32) (s.fn f).wrProd (s.fn f).wrCons ≤ subMod (2 ^ 32) x (s.fn f).wrCons
        then { s.fn f with wrProd := x } else { s.fn f with prodError := true }) ∧
      (∀ g, g ≠ f → t.fn g = s.fn g) ∧ t.mem.host = s.mem.host.apply hs ∧ t.mem.peer = s.mem.peer.apply ps ∧
      { t with ring := { t.ring with fns := s.ring.fns }, mem := { t.mem with host := s.mem.host, peer := s.mem.peer } } = s) ∧
  (∀ (s : State) (f x : Nat), s.running = true → s.pageOpen f = true → x < 2 ^ 32 →
    let v := s.fn f
    let s1 := (s.setFn f { v with crCons := x }).drain f
    (v.enable = true → subMod (2 ^ 32) x v.crCons ≤ subMod (2 ^ 32) v.crProd v.crCons →
      exec (.crConsWrite f x) s = .next ((s1.qpsOf f).foldl (fun st n => st.advanceQp n) s1)) ∧
    (v.enable = false ∨ subMod (2 ^ 32) v.crProd v.crCons < subMod (2 ^ 32) x v.crCons →
      answers (.crConsWrite f x) s fun t => t.fn f = { v with consError := true } ∧ onlyPage s t f) ∧
    (v.enable = true → answers (.crArmWrite f x) s fun t => t.fn f = { v with armed := some x } ∧ onlyPage s t f) ∧
    (v.enable = false → answers (.crArmWrite f x) s fun t => t.fn f = { v with consError := true } ∧ onlyPage s t f))

/-- RING_CTRL.ENABLE (R335): 1 takes effect only with both sizes from 6 to 16 and zeroes the four indices; 0 takes effect only with no entry
in flight, no record staged and WR_PROD equal to WR_CONS; a write that breaks its condition sets CTRL_ERROR alone; the value in force
changes nothing. A read of RING_STATUS answers the five bits and clears the four RC ones; a wedged page reads 0 (R334, R361). Bases and
sizes are written only while ENABLE is 0, a 64-bit base takes its value with its high half, and an access of any other size or alignment
writes nothing (R333 to R335). -/
def Obligations.RingPageRegisters : Prop :=
  (∀ (s : State) (f : Nat), s.running = true → s.pageOpen f = true → (f = 0 ∨ 2 ≤ s.level) →
    let v := s.fn f
    let sized := 6 ≤ v.wrLog ∧ v.wrLog ≤ 16 ∧ 6 ≤ v.crLog ∧ v.crLog ≤ 16
    (v.enable = true → exec (.ringEnable f) s = .next s) ∧ (v.enable = false → exec (.ringDisable f) s = .next s) ∧
    (v.enable = false → sized →
      let w := { v with enable := true, wrProd := 0, wrCons := 0, crProd := 0, crCons := 0, mirrored := 0, mirrorDue := none, lap := 0,
                        copies := [] }
      exec (.ringEnable f) s = .next ((s.setFn f w).drain f)) ∧
    (v.enable = false → ¬ sized → answers (.ringEnable f) s fun t => t.fn f = { v with ctrlError := true } ∧ onlyPage s t f) ∧
    (v.enable = true → v.entries = [] → v.staged = [] → v.wrProd = v.wrCons →
      answers (.ringDisable f) s fun t => t.fn f = { v with enable := false, copies := [] } ∧ onlyPage s t f) ∧
    (v.enable = true → (v.entries ≠ [] ∨ v.staged ≠ [] ∨ v.wrProd ≠ v.wrCons) →
      answers (.ringDisable f) s fun t => t.fn f = { v with ctrlError := true } ∧ onlyPage s t f)) ∧
  (∀ (s : State) (f : Nat), s.running = true →
    let v := s.fn f
    (v.wedged = true → exec (.ringStatusRead f) s = .next (s.emit (.regRead f 0x44 0))) ∧
    (s.pageOpen f = true → answers (.ringStatusRead f) s fun t =>
      t.out = s.out ++ [.regRead f 0x44 (bnat v.prodError + 2 * bnat v.consError + 4 * bnat v.ctrlError + 8 * bnat v.backpressure +
        16 * bnat v.pausedSince.isSome)] ∧
      t.fn f = { v with backpressure := false, ctrlError := false, consError := false, prodError := false } ∧
      (∀ g, g ≠ f → t.fn g = s.fn g) ∧ { t with ring := { t.ring with fns := s.ring.fns }, out := s.out } = s)) ∧
  (∀ (s : State) (f x : Nat), s.running = true → s.pageOpen f = true →
    let v := s.fn f
    (v.enable = true → ∀ off ∈ [0x000, 0x004, 0x008, 0x018, 0x01C, 0x020],
      answers (.registerWrite f off 4 x) s fun t => t.fn f = { v with ctrlError := true } ∧ onlyPage s t f) ∧
    (v.enable = false → answers (.registerWrite f 0 8 x) s fun t => (t.fn f).wrBase = x % 2 ^ 64 / 4096 * 4096 ∧ onlyPage s t f) ∧
    (v.enable = false → answers (.registerWrite f 0x18 8 x) s fun t => (t.fn f).crBase = x % 2 ^ 64 / 4096 * 4096 ∧ onlyPage s t f) ∧
    (v.enable = false → 6 ≤ x → x ≤ 16 → answers (.registerWrite f 8 4 x) s fun t => t.fn f = { v with wrLog := x } ∧ onlyPage s t f) ∧
    (v.enable = false → 6 ≤ x → x ≤ 16 → answers (.registerWrite f 0x20 4 x) s fun t => t.fn f = { v with crLog := x } ∧ onlyPage s t f) ∧
    (∀ off size, size ≠ 4 → size ≠ 8 → exec (.registerWrite f off size x) s = .next s) ∧
    (∀ off, off % 4 ≠ 0 → exec (.registerWrite f off 4 x) s = .next s) ∧
    (∀ off, off % 8 ≠ 0 → exec (.registerWrite f off 8 x) s = .next s))

/-- The mirror takes the value of CR_PROD; the completion interrupt is sent after it, no sooner than HOLDOFF after the last message, and
disarms, leaving as a message, held behind the earlier writes while P0 is down (R362), or pending while its vector is masked; a pause of 1
ms sets BACKPRESSURE and raises its event once (R356 to R358). -/
def Obligations.MirrorInterruptAndBackpressure : Prop :=
  ∀ (s : State) (f : Nat), s.running = true →
    let v := s.fn f
    (bit v.mirror 0 = true → v.mirrorDue.isSome = true → s.ring.p0.up = true → s.obj 0x23C0 9 f = 0 →
      answers (.crMirrorWrite f) s fun t => t.mem.host.readBytes (v.mirror / 4 * 4) 4 = leBytes 4 v.crProd ∧
        t.fn f = { v with mirrored := v.crProd, mirrorDue := none } ∧ t.mem.dev = s.mem.dev ∧ t.out = s.out) ∧
    (∀ a, v.armed = some a → bit v.intCtrl 0 = true → v.vectors ≠ 0 → v.crProd ≠ a → (bit v.mirror 0 = true → v.mirrorDue = none) →
      (∀ u, v.lastMessage = some u → u + bits v.intCtrl 25 16 * 1000000 ≤ s.now) →
      (v.msix.num 12 % 2 = 0 → s.ring.p0.up = true → answers (.msixMessage f) s fun t =>
        t.out = s.out ++ [.msix f 0 (v.msix.num 0 / 4 * 4 + v.msix.num 4 * 2 ^ 32) (v.msix.num 8)] ∧
        t.fn f = { v with armed := none, lastMessage := some s.now } ∧ onlyPage { s with out := t.out } t f) ∧
      (v.msix.num 12 % 2 = 0 → s.ring.p0.up = false → answers (.msixMessage f) s fun t =>
        t.mem.p0Held = s.mem.p0Held ++ [⟨f, v.msix.num 0 / 4 * 4 + v.msix.num 4 * 2 ^ 32, leBytes 4 (v.msix.num 8), some 0⟩] ∧
        t.fn f = { v with armed := none, lastMessage := some s.now } ∧ onlyPage { s with mem := t.mem } t f ∧
        { t.mem with p0Held := s.mem.p0Held } = s.mem) ∧
      (v.msix.num 12 % 2 = 1 → answers (.msixMessage f) s fun t =>
        t.fn f = { v with armed := none, pba := v.pba ||| 2 ^ 0 } ∧ onlyPage s t f)) ∧
    (∀ a u, v.armed = some a → v.lastMessage = some u → s.now < u + bits v.intCtrl 25 16 * 1000000 →
      exec (.msixMessage f) s = .next s) ∧
    (bit v.mirror 0 = true → v.mirrorDue.isSome = true → exec (.msixMessage f) s = .next s) ∧
    (∀ u, v.pausedSince = some u → v.pauseRaised = false → u + 1000000000 ≤ s.now →
      exec (.completionBackpressure f) s =
        .next ((s.setFn f { v with backpressure := true, pauseRaised := true }).raiseDevice 8 f [BitVec.ofNat 8 f])) ∧
    (v.pauseRaised = true → exec (.completionBackpressure f) s = .next s)

/-- Fetching: the function next in rotation is served; WR_CONS passes the entry, which is in flight with the 64 bytes read; the pointer moves
past the function; a poisoned read is a failed fetch. A speculative read is kept only where R340 allows it (R336, R339 to R341). -/
def Obligations.FetchTakesTheEntryAtWrCons : Prop :=
  ∀ (s : State) (f : Nat), s.running = true →
    let v := s.fn f
    let a := v.wrBase + 64 * (v.wrCons % 2 ^ v.wrLog)
    let raw := s.mem.host.readBytes a 64
    (s.nextServed = some f → v.copies = [] → s.ring.p0.up = true → s.mem.host.hasBad a 64 = false →
      exec (.entryFetch f) s = .next ((s.takeEntry f raw).settle f)) ∧
    (s.nextServed = some f → v.copies = [] → s.ring.p0.up = true → s.mem.host.hasBad a 64 = true →
      exec (.entryFetch f) s = .next (s.failedFetch f)) ∧
    ((s.takeEntry f raw).fn f).wrCons = (v.wrCons + 1) % 2 ^ 32 ∧
    (∃ e, ((s.takeEntry f raw).fn f).entries = v.entries ++ [e] ∧ e.raw = raw ∧ e.idx = v.wrCons ∧ e.stage = .ready) ∧
    (s.takeEntry f raw).ring.pointer = (f + 1) % 128 ∧ (s.takeEntry f raw).mem = s.mem ∧
    (∀ i, s.maySpeculate f i = true → s.mem.host.hasBad (v.wrBase + 64 * (i % 2 ^ v.wrLog)) 64 = false →
      answers (.speculativeFetch f i) s fun t =>
        (i, s.mem.host.readBytes (v.wrBase + 64 * (i % 2 ^ v.wrLog)) 64) ∈ (t.fn f).copies ∧ (t.fn f).wrCons = v.wrCons ∧
        (t.fn f).entries = v.entries ∧ onlyPage s t f) ∧
    (∀ i, s.maySpeculate f i = false → exec (.speculativeFetch f i) s = .next s)

/-- Setting VF Enable brings the VFs up with the vectors the ledger allots; an error of a PCIe TLP is an event of the PCIE source (R331, R363,
R471). FLR resets the function's page and its event counters, and of a wedged function it changes nothing; a function whose discards have
not finished 100 ms after the request is wedged, and the wedged-function source counts it (R360, R361). What waited for an ordering read
or for the device's own request goes on or ends: an ordering read in flight ends with its outcome, a Completion Timeout of a fetch fails
the fetch, and one of an entry's own access ends the entry with DATA_PARITY and raises the STACK_DATA source (R159, R330, R339, R362). -/
def Obligations.FunctionsResetAndTimeOut : Prop :=
  (∀ s : State, s.running = true →
    (∀ n, n ≤ 127 → s.ring.vfEnable = false → s.ring.p0.up = true → 0 < s.level → answers (.vfEnable n) s fun t =>
      t.ring.vfEnable = true ∧ t.ring.numVfs = n ∧
      (∀ k, 1 ≤ k → k ≤ n → t.fn k = Fn.reset (nth 0 (s.blob 0x2402 1) k).toNat) ∧ (∀ k, k = 0 ∨ n < k → t.fn k = s.fn k) ∧
      t.mem = s.mem ∧ t.led = s.led) ∧
    (∀ p, p < 2 → (s.line 12).up = false → (s.line 12).hold = false → answers (.pcieTlpError p) s fun t =>
      (t.line 12).up = true ∧ (∀ k, k ≠ 12 → t.line k = s.line k) ∧ { t with flt := s.flt } = s) ∧
    (∀ p, p < 2 → (s.line 12).up = true → (s.line 12).sampled = false → exec (.pcieTlpError p) s = .next (s.count 0x224C 6 1))) ∧
  (∀ (s : State) (f : Nat), s.running = true →
    ((s.fn f).wedged = true → exec (.flr f) s = .next s) ∧
    ((s.fn f).wedged = false → answers (.flr f) s fun t =>
      (∃ v x, t.fn f = { Fn.reset v with flrAt := x }) ∧ ∀ k, k < 9 → t.ctr (State.fnCtr f) k = 0) ∧
    (∀ u, (s.fn f).flrAt = some u → (s.fn f).wedged = false → u + 100000000000 ≤ s.now →
      (s.line 14).up = false → (s.line 14).hold = false → answers (.flrWedgeTimeout f) s fun t =>
      t.fn f = { s.fn f with wedged := true } ∧ (t.line 14).up = true ∧ (∀ g, g ≠ f → t.fn g = s.fn g) ∧ t.mem = s.mem)) ∧
  ((∀ (s : State) (id : Nat) (ok : Bool) (r : OrderingRead), s.running = true → s.fab.orderings.find? (·.id == id) = some r →
    exec (.orderingReadComplete id ok) s = .next (s.orderingDone r ok)) ∧
  (∀ (s : State) (f i : Nat), s.running = true → f ≠ 128 → i = (s.fn f).wrCons → s.nextServed = some f →
    exec (.completionTimeout f i) s = .next (s.failedFetch f)) ∧
  (∀ (s : State) (f i op : Nat) (e : Entry), ready s f i e op → f ≠ 128 → op ∈ [0x31, 0x38, 0x39, 0x3B, 0x48] → s.fab.orderings = [] →
    s.nextServed ≠ some f →
    exec (.completionTimeout f i) s = .next ((s.raiseSource 7).complete f e 0x0B e.plainResult)))

/-! Device memory, regions, windows and page moves -/

/-- REG_REGION takes the lowest index that is not VALID for an owner below its quota, records the entry's range, kind and rights there, and
answers the index and the remote key; at the quota, or with all 262,144 indices VALID, it completes with NOT_PERMITTED and records nothing
(R279, R280, R353). DEREG_REGION of a region of the function: the region is no longer VALID and its generation has moved on before the
entry ends, which waits while an access of the region that was in flight then has not finished; of any other index it completes with
NOT_PERMITTED (R281). -/
def Obligations.RegionsAreRegisteredAndRemoved : Prop :=
  (∀ (s : State) (f i : Nat) (e : Entry), ready s f i e 0x20 →
    (∀ r, r < 262144 → (s.region r).valid = false → (∀ q, q < r → (s.region q).valid = true) → s.regionCount f < s.obj 0x2300 6 f →
      exec (.regRegion f i) s = .next ((s.setRegion r ⟨true, f, (s.region r).generation, if e.u8 0x0C = 0 then .bus else .dva, e.u8 0x0D,
        e.u64 0x10, e.u64 0x18, e.u8 0x0E⟩).complete f e 0 (leBytes 4 r ++ leBytes 4 (r * 256 + (s.region r).generation)))) ∧
    ((∀ q, q < 262144 → (s.region q).valid = true) ∨ s.obj 0x2300 6 f ≤ s.regionCount f →
      exec (.regRegion f i) s = .next (s.complete f e 0x12 []))) ∧
  ((∀ (s : State) (f i : Nat) (e : Entry), ready s f i e 0x21 →
    let r := e.u32 8
    let g := s.region r
    let t := s.invalidateRegion r
    (e.step = 0 → 262144 ≤ r ∨ g.valid = false ∨ g.owner ≠ f → exec (.deregRegion f i) s = .next (s.complete f e 0x12 (leBytes 4 r))) ∧
    (e.step = 0 → r < 262144 → g.valid = true → g.owner = f → s.regionFlights r = [] →
      exec (.deregRegion f i) s = .next (t.complete f e 0 (leBytes 4 r))) ∧
    (e.step = 0 → r < 262144 → g.valid = true → g.owner = f → t.watched (s.regionFlights r) = true →
      exec (.deregRegion f i) s = .next (t.setEntry f { e with step := 1, watch := s.regionFlights r })) ∧
    (e.step ≠ 0 → s.watched e.watch = false → exec (.deregRegion f i) s = .next (s.complete f e 0 (leBytes 4 r)))) ∧
  (∀ (s : State) (r : Nat), (s.invalidateRegion r).region r = { Region.none with generation := ((s.region r).generation + 1) % 256 } ∧
    (∀ q, q ≠ r → (s.invalidateRegion r).region q = s.region q) ∧ (s.invalidateRegion r).mem.dev = s.mem.dev))

/-- ADVISE's page forms end with OK once every page of the range translates, with a failing page's status otherwise, and wait where a page is
being moved; PIN marks the leaves of the range within the two limits, and past either marks nothing and is not permitted; UNPIN clears the
mark (R143). That a PIN past a limit marks nothing is the model's choice (log 120). HOLD takes a window only of device leaves of one
stack, writable where asked, that overlaps no window held and fits the stack's window map, with at most 64 windows held, and answers each
failure with its status; RELEASE removes the window that begins at its base once no job's work depends on it (R137 to R140). -/
def Obligations.AdviseAndWindows : Prop :=
  (∀ (s : State) (f i : Nat) (e : Entry),
    let b := e.u64 0x10 / 65536 * 65536
    let n := State.pageCount (e.u64 0x10) (e.u64 0x18)
    let w := s.walkPages f n b
    (advising s f i e 0 →
      (w.1 = none → exec (.advisePrewalk f i) s = .next (w.2.complete f e 0 [])) ∧
      (∀ o st, w.1 = some o → o.ringStatus = some st → exec (.advisePrewalk f i) s = .next (w.2.complete f e st [])) ∧
      (∀ o, w.1 = some o → o.ringStatus = none → exec (.advisePrewalk f i) s = .next (s.moveWait f e w.2))) ∧
    (advising s f i e 1 →
      let t := w.2.setPins f b (n * 65536) true
      let pins := t.mem.leafCache.filter (·.pinned)
      (w.1 = none → pins.length ≤ 16384 → (pins.filter (·.drawer == f)).length ≤ 1024 →
        exec (.advisePin f i) s = .next (t.complete f e 0 [])) ∧
      (w.1 = none → 16384 < pins.length ∨ 1024 < (pins.filter (·.drawer == f)).length →
        exec (.advisePin f i) s = .next (w.2.complete f e 0x12 [])) ∧
      (∀ o st, w.1 = some o → o.ringStatus = some st → exec (.advisePin f i) s = .next (w.2.complete f e st [])) ∧
      (∀ o, w.1 = some o → o.ringStatus = none → exec (.advisePin f i) s = .next (s.moveWait f e w.2))) ∧
    (advising s f i e 2 → exec (.adviseUnpin f i) s = .next ((s.setPins f b (n * 65536) false).complete f e 0 [])) ∧
    (∀ p, ∀ c ∈ (s.setPins f b (n * 65536) p).mem.leafCache, c.drawer = f → overlaps c.base c.size b (n * 65536) = true → c.pinned = p)) ∧
  (∀ (s : State) (f i : Nat) (e : Entry),
    let base := e.u64 0x10
    let len := e.u64 0x18
    let g := s.granules f (len / 65536) base []
    let leaves := g.1.2
    let t := g.2
    let k := stackOf (dpaOffset (pteDpa (nth 0 leaves 0)))
    (advising s f i e 3 → 64 ≤ (s.windows f).length ∨ (s.windows f).any (fun w => overlaps w.base w.length base len) = true →
      exec (.adviseHold f i) s = .next (s.complete f e 0x12 [])) ∧
    (advising s f i e 3 → (s.windows f).length < 64 → (s.windows f).any (fun w => overlaps w.base w.length base len) = false →
      (∀ o st, g.1.1 = some o → o.ringStatus = some st → exec (.adviseHold f i) s = .next (t.complete f e st [])) ∧
      (g.1.1 = none → leaves.any pteHost = true → exec (.adviseHold f i) s = .next (t.complete f e 0x06 [])) ∧
      (g.1.1 = none → leaves.any pteHost = false → leaves.any (fun l => stackOf (dpaOffset (pteDpa l)) != k) = true →
        exec (.adviseHold f i) s = .next (t.complete f e 0x12 [])) ∧
      (g.1.1 = none → leaves.any pteHost = false → leaves.any (fun l => stackOf (dpaOffset (pteDpa l)) != k) = false →
        (e.u8 9 = 1 → leaves.any (fun l => !pteW l) = true → exec (.adviseHold f i) s = .next (t.complete f e 0x02 [])) ∧
        ((e.u8 9 = 1 → leaves.any (fun l => !pteW l) = false) → 1048576 < t.mapEntries k + len / 65536 →
          exec (.adviseHold f i) s = .next (t.complete f e 0x12 [])) ∧
        ((e.u8 9 = 1 → leaves.any (fun l => !pteW l) = false) → t.mapEntries k + len / 65536 ≤ 1048576 →
          exec (.adviseHold f i) s = .next ((t.addWindow f ⟨base, len, k, e.u8 9 == 1, leaves⟩).complete f e 0 [])))) ∧
    (∀ w, (s.addWindow f w).windows f = s.windows f ++ [w]) ∧
    (advising s f i e 4 → (s.windows f).any (·.base == base) = false → exec (.adviseRelease f i) s = .next (s.complete f e 0x12 [])) ∧
    (advising s f i e 4 → (s.windows f).any (·.base == base) = true → s.windowHeld f base = false →
      exec (.adviseRelease f i) s = .next ((s.releaseWindow f base).complete f e 0 [])) ∧
    (advising s f i e 4 → (s.windows f).any (·.base == base) = true → s.windowHeld f base = true → exec (.adviseRelease f i) s = .next s) ∧
    (∀ w ∈ (s.releaseWindow f base).windows f, w.base ≠ base))

/-- A page's move begins once no other move, job, hand or NVME_IO holds the page; a range whose leaves or destination do not fit is BAD_ENTRY,
a page that does not translate ends the entry with its status and DVA, and a page that lies at its destination already counts as moved. A
page in a held window has its bytes and its W bit from the window's map (R138). A move in progress ends once its pieces can be reached and
nothing in flight or held depends on the page: the entry goes on with the next page, or ends with OK where the page was the last, and a
page that cannot move ends the entry with the page's status and its DVA, the destination of the pages not moved undefined. PREFETCH and
EVICT differ in the destination alone (R141, R142, R353). INVALIDATE removes the cached translations of its range, or of the whole space,
before it ends; it ends when no access that used one of them is in flight, and counts in INVALIDATES (R134). -/
def Obligations.PageMovesAndInvalidation : Prop :=
  (∀ (s : State) (f i : Nat) (e : Entry) (evict : Bool), (if evict then advising s f i e 5 else ready s f i e 0x28) →
    let c := if evict then Instr.adviseEvict f i else Instr.prefetch f i
    let dest := e.u64 0x20
    let len := e.u64 0x18
    let dva := e.u64 0x10 + e.step
    let ends (t : State) (st at_ : Nat) : State :=
      (t.scramblePieces f (t.moveRest f e evict)).complete f e st (List.replicate 8 0 ++ leBytes 8 at_)
    let passed (t : State) (size : Nat) : State :=
      if len ≤ e.step + size then t.complete f e 0 (List.replicate 16 0) else t.setEntry f { e with step := e.step + size, stage := .ready }
    (∀ m, s.mem.moves.find? (fun m => m.drawer == f && m.entry == e.idx) = some m →
      (∀ t, s.finishMove m = some (t, 0) → exec c s = .next (passed t m.size)) ∧
      (∀ t st, s.finishMove m = some (t, st) → st ≠ 0 → exec c s = .next (ends t st m.base)) ∧
      (s.finishMove m = none → exec c s = .next s) ∧
      (s.movePiece m = none → ∃ t, s.finishMove m = some (t, 0x02)) ∧
      (∀ dst, s.movePiece m = some dst → s.piecesReady (m.src ++ [dst]) = true → (m.port = 0 → s.ring.p0.up = true) →
        s.inFlight m.src = false → s.breaksHeld m = false → ∃ t st, s.finishMove m = some (t, st))) ∧
    (s.mem.moves.find? (fun m => m.drawer == f && m.entry == e.idx) = none →
      let g := s.region (e.u32 0x28)
      let lies := if evict then !(g.valid && g.owner == f && decide (g.length < dest + len))
        else dpaModule dest == s.moduleId && decide (dest < 2 ^ 52) && populated (dpaOffset dest) && populated (dpaOffset (dest + len - 1)) &&
          stackOf (dpaOffset dest) == stackOf (dpaOffset (dest + len - 1))
      let fits := s.moveFits f (e.u64 0x10) len dest (len / 65536 + 1) 0
      (∀ ok, e.step = 0 → fits.1 = some ok → (ok && lies) = false → exec c s = .next (fits.2.complete f e 0x0E (List.replicate 16 0))) ∧
      (e.step = 0 → fits.1 = none → exec c s = .next s) ∧
      (∀ u, (e.step ≠ 0 ∧ u = s) ∨ (e.step = 0 ∧ fits = (some true, u) ∧ lies = true) →
        let w := if (u.windowLeaf f dva).isSome then u.walk f dva else u.walkLeaf f dva
        (∀ t st, w.1 = .stop t → t.ringStatus = some st → exec c s = .next (ends w.2 st dva)) ∧
        (∀ t, w.1 = .stop t → t.ringStatus = none → exec c s = .next u) ∧
        (∀ h, w.1 = .hit h →
          let size := levelSpan h.level
          let src := w.2.pageSource f dva size h.leaf
          let m : PageMove :=
            ⟨f, dva, size, h.leaf, h.port, h.addr, src.1, src.2, evict, e.u32 0x28, dest + e.step, .dev 0 0, e.idx, []⟩
          let found := (u.windowLeaf f dva).isSome || (match w.2.throughLeaf f dva dva size h.leaf false false with
            | .device _ | .bus _ _ => true
            | _ => false)
          found = true → w.2.mapBad f dva size = false → (∀ off n, Piece.dev off n ∈ m.src → w.2.chunksOwned f off n = true) →
          w.2.mem.moves.any (fun x => x.drawer == f && overlaps x.base x.size dva size) = false →
            (w.2.atDest m = true → len ≤ e.step + size → exec c s = .next (w.2.complete f e 0 (List.replicate 16 0))) ∧
            (w.2.atDest m = true → e.step + size < len → exec c s = .next (w.2.setEntry f { e with step := e.step + size })) ∧
            (w.2.atDest m = false → (w.2.touching f dva size).any (fun x => w.2.windowHeld f x) = false → w.2.handHolds f m.src = false →
              (∀ d, w.2.moveDest f e evict e.step size = some d →
                exec c s = .next { w.2 with mem := { w.2.mem with moves := w.2.mem.moves ++ [{ m with dst := d }] } }) ∧
              (w.2.moveDest f e evict e.step size = none → exec c s = .next (ends w.2 0x02 dva))))))) ∧
  (∀ (s : State) (f i : Nat) (e : Entry), ready s f i e 0x2A →
    let base := if e.u8 8 = 1 then 0 else e.u64 0x10
    let len := if e.u8 8 = 1 then 2 ^ 48 else e.u64 0x18
    let t := if e.u8 8 = 1 then s.dropDrawer f else s.dropCached f base len
    (e.step = 0 → s.rangeFlights f base len = [] →
      exec (.invalidate f i) s = .next (((t.dropStale f base len).count 0x5308 4 1).complete f e 0 [])) ∧
    (e.step = 0 → t.watched (s.rangeFlights f base len) = true →
      exec (.invalidate f i) s = .next (t.setEntry f { e with step := 1, watch := s.rangeFlights f base len })) ∧
    (e.step ≠ 0 → s.watched e.watch = false →
      exec (.invalidate f i) s = .next (((s.dropStale f base len).count 0x5308 4 1).complete f e 0 [])) ∧
    (e.step ≠ 0 → s.watched e.watch = true → exec (.invalidate f i) s = .next (s.setEntry f { e with step := 1 })) ∧
    (∀ c ∈ (s.dropDrawer f).mem.leafCache, c.drawer ≠ f) ∧
    (∀ c ∈ (s.dropCached f base len).mem.leafCache, c.drawer = f → overlaps c.base c.size base len = false))

/-- COPY: with both buffers found and reachable, the bytes of the source as read are those written to the destination, and the entry ends as
placed, or goes on over Derone where a side lies on another module; both sides there is BAD_ENTRY, buffers that share a byte are read and
carry undefined bytes, bad parity is DATA_PARITY, a signal to a peg of another drawer's is NOT_PERMITTED, and a buffer that is not found
ends the entry with its status. A COPY that fails leaves its destination, so far as it translates, undefined (R343). Patrol scrub moves to
the next unit whatever it finds, and a pass ends with the last; a unit with bad parity is logged with its DPA, counted and raised under
STACK_DATA; a corrected one is counted; one of a stack that cannot be read is passed (R147). -/
def Obligations.CopyAndScrub : Prop :=
  (∀ (s : State) (f i : Nat) (e : Entry) (sb db : BufRef), ready s f i e 0x02 → f < 128 → e.buf 0x08 = some sb → e.buf 0x14 = some db →
    let r1 := s.resolveBuf f sb (e.u64 0x20) false true
    let r2 := r1.2.resolveBuf f db (e.u64 0x20) true true
    let s2 := r2.2
    (∀ st, r1.1 = .fail st → exec (.copy f i) s = .next (r1.2.copyFailed f e.idx st (r1.2.copyDest f e))) ∧
    (∀ src st, r1.1 = .ok src → r2.1 = .fail st → exec (.copy f i) s = .next (s2.copyFailed f e.idx st (s2.copyDest f e))) ∧
    (∀ src dst, r1.1 = .ok src → r2.1 = .ok dst →
      let r3 := s2.readPieces src
      let away := State.hasRemote src || State.hasRemote dst
      let mixed := State.piecesMeet src dst
      (State.hasRemote src = true → State.hasRemote dst = true → exec (.copy f i) s = .next (s2.copyFailed f e.idx 0x0E dst)) ∧
      ((State.hasRemote src && State.hasRemote dst) = false → (away = true → s2.obj 0x2800 3 = 0) → s2.piecesReady (src ++ dst) = true →
        e.sig = true → (∀ a n, dst.getLast? ≠ some (.remote a n)) → s2.ownsPeg f e.sigPeg = false →
        exec (.copy f i) s = .next (s2.copyFailed f e.idx 0x12 dst)) ∧
      ((State.hasRemote src && State.hasRemote dst) = false → (away = true → s2.obj 0x2800 3 = 0) → s2.piecesReady (src ++ dst) = true →
        (e.sig = true → (∃ a n, dst.getLast? = some (.remote a n)) ∨ s2.ownsPeg f e.sigPeg = true) →
        (∀ p a n, Piece.bus p a n ∈ dst → s2.busOk p = true) →
        (r3.1 = none → exec (.copy f i) s = .next (r3.2.copyFailed f e.idx 0x0B dst)) ∧
        (∀ got, r3.1 = some got →
          let x := if mixed then r3.2.freeBytes got.length else (got, r3.2)
          let t := (x.2.writePieces f dst x.1).race dst
          (away = false → exec (.copy f i) s = .next (t.copyPlaced f e.idx dst false)) ∧
          (away = true → e.sig = false →
            let xs := State.remoteReads f e.idx dst State.subPieces src 0 ++ State.remoteRuns f e.idx x.1 dst 0
            (xs ≠ [] → exec (.copy f i) s = .next ((t.busy f e).startOp
              { fid := f, idx := e.idx, todo := xs, final := none, outstanding := 0, status := 0, dest := dst, mixed := mixed }))))))) ∧
  (∀ (s : State) (c : Bool), s.running = true →
    let n := 6144 * 2 ^ 20
    let p := s.mem.scrubPos % n
    let off := State.scrubOffset p
    let k := stackOf off
    answers (.scrubAccess c) s fun t =>
      t.mem = { s.mem with scrubPos := (p + 1) % n } ∧
      t.obj 0x2A08 2 = (if p + 1 = n then (s.obj 0x2A08 2 + 1) % 2 ^ 32 else s.obj 0x2A08 2) ∧
      ((s.stack k).up = true → (s.stack k).lost = false →
        (s.mem.dev.hasBad off 64 = true → t.obj 0x2A08 3 = s.moduleId * 2 ^ 44 + off ∧
          t.ctr (0x5300 + k) 3 = satAdd 64 (s.ctr (0x5300 + k) 3) 1 ∧
          ((s.line 7).up = false → (s.line 7).hold = false → (t.line 7).up = true)) ∧
        (s.mem.dev.hasBad off 64 = false →
          t.ctr (0x5300 + k) 1 = (if c then satAdd 64 (s.ctr (0x5300 + k) 1) 1 else s.ctr (0x5300 + k) 1) ∧ t.flt = s.flt)) ∧
      ((s.stack k).up = false ∨ (s.stack k).lost = true → t.led.ctrs = s.led.ctrs ∧ t.flt = s.flt))

/-! Pegs -/

/-- A wait on peg value p against threshold v is met when (p − v) mod 2^32 < 2^31: p has reached v, counting forward, and is no more than 2^31
− 1 past it (R161). -/
def Obligations.PegWaitIsMetWithinHalfTheRange : Prop :=
  (∀ p v : Nat, p < 2 ^ 32 → v < 2 ^ 32 → (pegMet p v = true ↔ ((p : Int) - v) % 2 ^ 32 < 2 ^ 31)) ∧
  (∀ v : Nat, pegMet v v = true) ∧
  (∀ v k : Nat, v < 2 ^ 32 → k < 2 ^ 32 → (pegMet ((v + k) % 2 ^ 32) v = true ↔ k ≤ 2 ^ 31 - 1))

/-- PEG_SET on a hub peg the drawer owns: WRITE leaves its operand; ADD waits for the function's earlier entries that place bytes, and behind
an ordering read, on each PCIe port, of the last bytes that they placed there, and then adds modulo 2^32; a met WAIT ends at once and an
unmet one waits within the limit of 64, and in a stopping or stopped drawer ends with DRAWER_STOPPED; BIND and UNBIND change one view of
an image that a quiet slot holds. WRITE, ADD, WAIT and BIND on any other peg, and BIND and UNBIND of a view that does not exist, end with
NOT_PERMITTED (R166, R370, R526). A hub peg takes its value, modulo 2^32, and no other hub peg changes, whichever waits and benches the
new value wakes (R149, R163). The owner byte of a hub peg block: the block's pegs read 0 afterwards, no wait and no view names one of
them, and pegs of other blocks keep their values (R151). -/
def Obligations.HubPegsAreSetAndOwned : Prop :=
  (∀ (s : State) (f i : Nat) (e : Entry), ready s f i e 0x40 →
    let h := e.u16 0x0A
    let v := e.u32 0x0C
    let res := leBytes 2 h ++ [0, 0]
    let ports := [0, 1].filterMap fun p => (s.lastBusBefore f i p).map fun a => (p, a)
    (e.u8 8 = 0 → s.ownsPeg f h = true → exec (.pegSetWrite f i) s = .next ((s.setHubPeg h v).completeIdx f e.idx 0 (res ++ leBytes 4 v))) ∧
    (e.u8 8 = 1 → s.ownsPeg f h = true → s.earlierHas f e Entry.places = true → exec (.pegSetAdd f i) s = .next s) ∧
    (e.u8 8 = 1 → s.ownsPeg f h = true → s.earlierHas f e Entry.places = false →
      (ports = [] → exec (.pegSetAdd f i) s =
        .next ((s.addHubPeg h v).completeIdx f e.idx 0 (res ++ leBytes 4 ((s.hubPeg h + v) % 2 ^ 32)))) ∧
      (ports ≠ [] → (∀ p ∈ ports, s.busOk p.1 = true) → exec (.pegSetAdd f i) s =
        .next ((ports.foldl (fun u p => u.issueOrdering p.1 (p.2 - 4) f (.pegAdd f i)) s).setEntry f
          { e with stage := .busy, left := ports.length })) ∧
      (∀ p ∈ ports, s.busOk p.1 = false → exec (.pegSetAdd f i) s =
        .next ((s.raiseSource 7).complete f e 0x0B (leBytes 2 h)))) ∧
    (∀ p a, s.lastBusBefore f i p = some a →
      ∃ x ∈ (s.fn f).lastBus, x.port = p ∧ x.addr = a ∧ 1 ≤ subMod (2 ^ 32) i x.idx ∧ subMod (2 ^ 32) i x.idx < 2 ^ 31) ∧
    (e.u8 8 = 2 → s.ownsPeg f h = true → pegMet (s.hubPeg h) v = true →
      exec (.pegSetWait f i) s = .next (s.complete f e 0 (res ++ leBytes 4 (s.hubPeg h)))) ∧
    (e.u8 8 = 2 → s.ownsPeg f h = true → pegMet (s.hubPeg h) v = false → s.drawerState f = 0 → (s.cmp.waits.filter (·.fid == f)).length < 64 →
      answers (.pegSetWait f i) s fun t => t.cmp.waits = s.cmp.waits ++ [PegWait.mk f i h v] ∧ t.mem = s.mem ∧ t.led = s.led) ∧
    (e.u8 8 = 2 → s.ownsPeg f h = true → pegMet (s.hubPeg h) v = false → s.drawerState f = 0 → 64 ≤ (s.cmp.waits.filter (·.fid == f)).length →
      exec (.pegSetWait f i) s = .next (s.complete f e 0x12 (leBytes 2 h))) ∧
    (e.u8 8 = 2 → s.ownsPeg f h = true → pegMet (s.hubPeg h) v = false → s.drawerState f ≠ 0 →
      exec (.pegSetWait f i) s = .next (s.complete f e 0x11 (leBytes 2 h))) ∧
    (e.u8 8 = 3 → s.slotQuiet f e (e.u8 0x10) = true → s.ownsPeg f h = true → s.viewExists f e = true →
      let t1 := s.unbind f (e.u8 0x10) (e.u16 0x12) (e.u8 0x11)
      exec (.pegSetBind f i) s =
        .next ({ t1 with cmp := { t1.cmp with views := t1.cmp.views ++
          [ViewBinding.mk f (e.u8 0x10) (e.u16 0x12) (e.u8 0x11) h] } }.complete f e 0 (leBytes 2 h))) ∧
    (e.u8 8 = 4 → s.slotQuiet f e (e.u8 0x10) = true → s.viewExists f e = true →
      exec (.pegSetUnbind f i) s = .next ((s.unbind f (e.u8 0x10) (e.u16 0x12) (e.u8 0x11)).complete f e 0 [0, 0])) ∧
    (e.u8 8 = 3 → s.slotQuiet f e (e.u8 0x10) = true → s.ownsPeg f h = false ∨ s.viewExists f e = false →
      exec (.pegSetBind f i) s = .next (s.complete f e 0x12 (leBytes 2 h))) ∧
    (e.u8 8 = 4 → s.slotQuiet f e (e.u8 0x10) = true → s.viewExists f e = false →
      exec (.pegSetUnbind f i) s = .next (s.complete f e 0x12 [0, 0])) ∧
    (s.slotQuiet f e (e.u8 0x10) = false →
      (e.u8 8 = 3 → exec (.pegSetBind f i) s = .next s) ∧ (e.u8 8 = 4 → exec (.pegSetUnbind f i) s = .next s)) ∧
    (s.ownsPeg f h = false →
      (e.u8 8 = 0 → exec (.pegSetWrite f i) s = .next (s.complete f e 0x12 (leBytes 2 h))) ∧
      (e.u8 8 = 1 → exec (.pegSetAdd f i) s = .next (s.complete f e 0x12 (leBytes 2 h))) ∧
      (e.u8 8 = 2 → exec (.pegSetWait f i) s = .next (s.complete f e 0x12 (leBytes 2 h))))) ∧
  (∀ (s : State) (h v : Nat), (s.setHubPeg h v).hubPeg h = v % 2 ^ 32 ∧ ∀ g, g ≠ h → (s.setHubPeg h v).hubPeg g = s.hubPeg g) ∧
  (∀ (s : State) (b v : Nat), s.running = true → 0 < s.level → b < 64 → v ≤ 255 →
    (s.obj 0x2340 (b + 1) < 128 ∨ s.drawerState (s.obj 0x2340 (b + 1) % 128) = 2) →
    answers (.hubPegBlockWrite b v) s fun t =>
      t.obj 0x2340 (b + 1) = v ∧ (∀ h, h / 64 = b → t.hubPeg h = 0) ∧ (∀ h, h / 64 ≠ b → t.hubPeg h = s.hubPeg h) ∧
      (∀ w ∈ t.cmp.waits, w.peg / 64 ≠ b) ∧ (∀ w ∈ t.cmp.views, w.hubPeg / 64 ≠ b))

/-! Jobs -/

/-- LOAD_JOB, once no earlier RUN_JOB of its slot is left: the slot is emptied first; a buffer that is not found ends it with the buffer's
status; an image of a reserved form or length is refused with BAD_ENTRY, too few benches with JOB_FAULT, a load area outside the windows
held with NOT_RESIDENT, a section in a window of another stack with JOB_FAULT; an image that passes every check is relocated, its placed
sections are written, and the slot holds it (R114). RUN_JOB of an empty slot is a JOB_FAULT, and of a stopped drawer ends with
DRAWER_STOPPED; a job whose checks have passed waits for its dispatch in order; dispatched, it is given its drawer's benches in order, its
argument block as it then reads, and a deadline (10 s where the image names none); it completes when every bench has executed END, or it
has failed, and nothing it issued is outstanding, a failed one leaving the ranges it wrote undefined; one that reaches its deadline fails
with JOB_FAULT (R93, R115 to R118). -/
def Obligations.JobsAreLoadedAndRun : Prop :=
  (∀ (s : State) (f i : Nat) (e : Entry) (b : BufRef), ready s f i e 0x30 →
    s.earlierHas f e (fun x => x.opcode == 0x31 && x.u8 8 == e.u8 8) = false → e.buf 0x0C = some b →
    let k := e.u8 8
    let base := e.u64 0x20
    let s0 := s.setSlot f k none
    let r1 := s0.resolveBuf f b (e.u64 0x18) false false
    let s1 := r1.2
    let res := [BitVec.ofNat 8 k]
    (∀ st, r1.1 = .fail st → exec (.loadJob f i) s = .next (s1.complete f e st res)) ∧
    (∀ ps, r1.1 = .ok ps → s1.piecesReady ps = true →
      let r2 := s1.readPieces ps
      let s2 := r2.2
      (r2.1 = none → exec (.loadJob f i) s = .next (s2.complete f e 0x0B res)) ∧
      (∀ bs, r2.1 = some bs →
        let members := s2.membersOf f
        let m := Image.parse bs
        let covered := s2.coveredBy f base m.loadSize (fun _ => true)
        let astray := m.sections.any (fun x => placedType x.kind && !s2.coveredBy f (base + x.place) x.size fun w => w.stack == State.sectionStack m x)
        (imageOk bs (e.u64 0x18) base members = false → exec (.loadJob f i) s = .next (s2.complete f e 0x0E res)) ∧
        (imageOk bs (e.u64 0x18) base members = true →
          (s2.enoughBenches f m = false → exec (.loadJob f i) s = .next (s2.complete f e 0x0C res)) ∧
          (s2.enoughBenches f m = true →
            (covered = false → exec (.loadJob f i) s = .next (s2.complete f e 0x06 res)) ∧
            (covered = true → astray = true → exec (.loadJob f i) s = .next (s2.complete f e 0x0C res)) ∧
            (covered = true → astray = false → s2.loadHeld m = false → relocatedOk bs base members = true →
              s2.sectionBad f base m = none → ∀ s3, s2.placeSections f base (relocate bs m base members (relocsOf bs m)) m = some s3 →
                ∃ used, exec (.loadJob f i) s =
                  .next ((s3.setSlot f k (some ⟨m, base, used⟩)).complete f e 0 (res ++ List.replicate 7 0 ++ leBytes 8 m.buildId)))))))) ∧
  ((∀ (s : State) (f i : Nat) (e : Entry), ready s f i e 0x31 → s.earlierHas f e (fun x => x.opcode == 0x30 && x.u8 8 == e.u8 8) = false →
    (s.slot f (e.u8 8) = none → exec (.runJob f i) s = .next (s.complete f e 0x0C e.plainResult)) ∧
    (∀ k, s.slot f (e.u8 8) = some k → e.stopped = true → exec (.runJob f i) s = .next (s.complete f e 0x11 e.plainResult)) ∧
    (∀ k, s.slot f (e.u8 8) = some k → e.stopped = false → (1 < k.image.moduleCount → s.obj 0x2800 3 = 0) →
      let base := e.u64 0x20
      let size := State.argSize k.image
      (s.runChecks f k = false → exec (.runJob f i) s = .next (s.complete f e 0x0C e.plainResult)) ∧
      (s.runChecks f k = true → s.coveredBy f k.loadBase k.image.loadSize (fun _ => true) = false ∨ s.coveredBy f base size (fun _ => true) = false →
        exec (.runJob f i) s = .next (s.complete f e 0x06 e.plainResult)) ∧
      (∀ ps, s.runChecks f k = true → s.coveredBy f k.loadBase k.image.loadSize (fun _ => true) = true →
        s.coveredBy f base size (fun _ => true) = true → s.windowRange f base size = some ps → s.stackHeld ps = false →
        let r := s.windowRead f base size ps
        ∀ args, r.1 = some args →
          let rs := State.residencyRanges k base args
          s.movesMeet f rs = false → rs.all (fun x => r.2.coveredBy f x.1 x.2.1 fun w => x.2.2.1 != 1 || w.writable) = true →
          rs.all (fun x => x.2.2.2 == 8 || r.2.coveredBy f x.1 x.2.1 fun w => w.stack == x.2.2.2) = true → State.argWord args 0 = 0 →
          answers (.runJob f i) s fun t => ∃ j, t.cmp.checked = r.2.cmp.checked ++ [j] ∧ j.fid = f ∧ j.entry = e.idx ∧ j.image = k.image ∧
            j.slot = e.u8 8 ∧ j.argBase = base))) ∧
  (∀ (s : State) (f i : Nat) (j : Job) (ps : List Piece), s.running = true → s.cmp.checked.find? (fun x => x.fid == f) = some j →
    j.entry = i → s.job f = none → s.enoughBenches f j.image = true →
    s.windowRange f j.argBase (State.argSize j.image) = some ps → s.stackHeld ps = false → ∀ args, (s.windowRead f j.argBase (State.argSize j.image) ps).1 = some args →
    answers (.jobDispatch f i) s fun t =>
      t.job f = some { j with
        args := args, map := s.mapBenches f j.image, dispatchedAt := s.now
        deadline := s.now + (if j.image.deadline = 0 then 10000000 else j.image.deadline) * 1000000 } ∧
      t.cmp.checked = s.cmp.checked.erase j) ∧
  (∀ (s : State) (d : Nat) (j : Job), s.running = true → s.job d = some j →
    (j.work = [] → j.failure = none → s.allEnded j = true →
      exec (.jobComplete d) s = .next ((s.clearJob d j).completeIdx j.fid j.entry 0 (State.jobResult j))) ∧
    (∀ st l k, j.work = [] → j.failure = some (st, l, k) → st ≠ 0 →
      exec (.jobComplete d) s = .next (((s.scrambleWrites d j).clearJob d j).completeIdx j.fid j.entry st (State.jobResult j))) ∧
    (j.work ≠ [] ∨ (j.failure = none ∧ s.allEnded j = false) → exec (.jobComplete d) s = .next s) ∧
    (∀ l, j.deadline ≤ s.now → j.failure = none → findPos (fun b => !(s.bench b).ended) j.map = some l →
      exec (.jobDeadlineExpiry d) s = .next (s.failJob d 0x0C l (s.bench (nth 0 j.map l)).pc)) ∧
    (∀ w ws, j.deadline ≤ s.now → j.failure = none → s.allEnded j = true → j.work = w :: ws →
      exec (.jobDeadlineExpiry d) s = .next (s.failJob d 0x0C w.logical w.instr)) ∧
    (s.now < j.deadline → exec (.jobDeadlineExpiry d) s = .next s)))

/-! Number formats -/

/-- Every block scale is an E8M0 byte: code c from 0x00 to 0xFE stands for 2^(c − 127), and 0xFF makes every element of its block NaN,
whatever the element bits are (R31). -/
def Obligations.BlockScaleIsE8M0 : Prop :=
  (∀ c : Nat, c ≤ 0xFE → scaleExp c = some ((c : Int) - 127)) ∧
  (∀ (f : Fmt) (code c : Nat), f.blocked = true → c ≤ 0xFE → f.value code c = (f.elem code).scale ((c : Int) - 127)) ∧
  (∀ (f : Fmt) (code : Nat), f.blocked = true → f.value code 0xFF = .nan)

/-- Rounding to FP32 is to nearest: no FP32 code is nearer to a datum that lies below the overflow threshold than its rounding is (R36, R47,
R69). Conversion from FP32 to an integer format rounds to the nearest integer with ties to even, saturates to the format's range, maps the
infinities to its ends and NaN to 0 (R50). -/
def Obligations.ConversionsRoundToNearest : Prop :=
  (∀ (n : Bool) (m : Nat) (e : Int), (m : ℚ) * (2 : ℚ) ^ e < (2 ^ 25 - 1) * 2 ^ 103 →
    ∃ n1 m1 e1, round32 (.fin n m e) = .fin n1 m1 e1 ∧
      ∀ (c : Nat) n2 m2 e2, fp32.decode c = .fin n2 m2 e2 → |value n1 m1 e1 - value n m e| ≤ |value n2 m2 e2 - value n m e|) ∧
  (∀ f : Fmt, f = .int4 ∨ f = .int8 ∨ f = .int32 ∨ f = .u32 →
    let lo : Int := if f = .u32 then 0 else -(2 ^ (f.width - 1) : Nat)
    let hi : Int := if f = .u32 then 2 ^ 32 - 1 else (2 ^ (f.width - 1) : Nat) - 1
    (∀ (n : Bool) (m : Nat) (e : Int), ∃ v : Int, (f.convert (.fin n m e)).code = wrapInt f.width (max lo (min hi v)) ∧
      |(v : ℚ) - value n m e| ≤ 1 / 2 ∧ (|(v : ℚ) - value n m e| = 1 / 2 → v % 2 = 0)) ∧
    (f.convert (.inf false)).code = wrapInt f.width hi ∧ (f.convert (.inf true)).code = wrapInt f.width lo ∧ (f.convert .nan).code = 0)

/-! Benches -/

/-- NOP passes to the next instruction; END marks the bench's part of the job as ended and parks the bench. A word that is not the command's
instruction changes nothing (R94, R98). LOOP with a count enters its body at the next instruction with index 0, and with a count of 0
passes its END; BRANCH taken goes to its target, leaving the body whose END precedes it, and otherwise to the next instruction; a body's
END starts the next iteration until its count is used up (R96, R97). PEG_ADD adds to the bench's own peg or the hub peg it views; PEG_WAIT
passes when its wait is met and otherwise spins; PEG_SIGNAL adds at another bench of the job, or at a hub peg the drawer owns, and any
other target is a JOB_FAULT. PEG_SIGNAL, and a PEG_ADD to a view, wait while the bench's earlier MOVEs to this module are not placed (R99,
R113, R154, R161, R162). -/
def Obligations.BenchControlInstructions : Prop :=
  (∀ (s : State) (b d : Nat) (j : Job) (w : Nat),
    let t := fetched s b d j
    let u := (t.setBench b { t.bench b with ended := true }).park b
    (issues s b d j w 0x00 → exec (.benchNop b) s = .next (t.setBench b (t.bench b).advance)) ∧
    (issues s b d j w 0x01 → exec (.benchEnd b) s = .next u) ∧
    (∀ code, issues s b d j w code → code ≠ 0x00 → exec (.benchNop b) s = .next s) ∧
    (u.bench b).run = .parked ∧ (u.bench b).ended = true ∧ (u.bench b).loops = []) ∧
  ((∀ (s : State) (b d : Nat) (j : Job) (w : Nat), issues s b d j w 0x02 →
    let t := fetched s b d j
    let v := t.bench b
    let n := if BenchInstr.mode w = 1 then State.argWord j.args (bits w 36 32) % 2 ^ 32 else BenchInstr.imm w
    let r := advanceFrom (BenchInstr.target w) v.loops
    (BenchInstr.mode w = 1 → t.windowBad b (8 * bits w 36 32) 8 = false) →
    (n ≠ 0 → exec (.benchLoop b) s =
      .next (t.setBench b { v with pc := v.pc + 1, loops := ⟨v.pc, BenchInstr.target w, 0, n⟩ :: v.loops })) ∧
    (n = 0 → exec (.benchLoop b) s = .next (t.setBench b { v with pc := r.1, loops := r.2 }))) ∧
  (∀ (s : State) (b d : Nat) (j : Job) (w : Nat), issues s b d j w 0x03 →
    let c := BenchInstr.src w
    let t := fetched s b d j
    let u := if 0x40 ≤ c ∧ c ≤ 0x6F then t.observePeg b (c - 0x40) else t
    let taken := State.branchTaken (BenchInstr.mode w) (u.branchSource b j c) (BenchInstr.imm w)
    t.windowBad b (State.branchBytes c).1 (State.branchBytes c).2 = false →
    (taken = false → exec (.benchBranch b) s = .next (u.setBench b (u.bench b).advance)) ∧
    (taken = true → exec (.benchBranch b) s = .next (u.setBench b (State.branchTo (u.bench b) (BenchInstr.target w))))) ∧
  (∀ (v : Bench) (k : Nat), (v.loops = [] → State.branchTo v k = { v with pc := k }) ∧
    (∀ f fs, v.loops = f :: fs →
      (k ≠ f.last + 1 → State.branchTo v k = { v with pc := k }) ∧
      (k = f.last + 1 → State.branchTo v k = { v with pc := (advanceFrom f.last fs).1, loops := (advanceFrom f.last fs).2 }))) ∧
  (∀ (pc k n start : Nat) (fs : List LoopFrame), k + 1 < n →
    advanceFrom pc (⟨start, pc, k, n⟩ :: fs) = (start + 1, ⟨start, pc, k + 1, n⟩ :: fs)) ∧
  (∀ (pc n start : Nat) (fs : List LoopFrame), advanceFrom pc (⟨start, pc, n, n + 1⟩ :: fs) = advanceFrom pc fs) ∧
  (∀ (pc last k n start : Nat) (fs : List LoopFrame), last ≠ pc → advanceFrom pc (⟨start, last, k, n⟩ :: fs) = (pc + 1, ⟨start, last, k, n⟩ :: fs))) ∧
  (∀ (s : State) (b d : Nat) (j : Job) (w : Nat),
    let t := fetched s b d j
    let p := BenchInstr.peg w
    let v := BenchInstr.imm w
    let h := BenchInstr.pegTarget w
    let moving := t.movesHere b d j
    (issues s b d j w 0x08 → t.viewOf b p = none ∨ moving = false → exec (.pegAdd b) s = .next ((t.step1 b).addBenchPeg b p v)) ∧
    (issues s b d j w 0x08 → (t.viewOf b p).isSome = true → moving = true → exec (.pegAdd b) s = .next s) ∧
    (issues s b d j w 0x09 → pegMet (t.pegValue b p) v = true →
      exec (.pegWait b) s = .next ((t.observePeg b p).step1 b)) ∧
    (issues s b d j w 0x09 → pegMet (t.pegValue b p) v = false → answers (.pegWait b) s fun u =>
      (u.bench b).run = .spin ∧ (u.bench b).awaits = some (p, v) ∧ (u.bench b).spinSince = t.run64 (b / 64) ∧
      (u.bench b).pc = (t.bench b).pc ∧ ∀ c, c ≠ b → u.bench c = t.bench c) ∧
    (issues s b d j w 0x0A → moving = true → exec (.pegSignal b) s = .next s) ∧
    (issues s b d j w 0x0A → moving = false →
      (BenchInstr.mode w = 1 → ∀ c, j.map[h]? = some c → exec (.pegSignal b) s = .next ((t.step1 b).addBenchPeg c p v)) ∧
      (BenchInstr.mode w = 1 → j.map[h]? = none → exec (.pegSignal b) s = .next (t.benchFault b 0x0C)) ∧
      (BenchInstr.mode w ≠ 1 → t.ownsPeg d h = true → exec (.pegSignal b) s = .next ((t.step1 b).addHubPeg h v)) ∧
      (BenchInstr.mode w ≠ 1 → t.ownsPeg d h = false → exec (.pegSignal b) s = .next (t.benchFault b 0x0C))))

/-- NORM, ACT, QUANT, DEQUANT, TOPK and REDUCE: with operands that meet the instruction's own table and lie where they may, the whole of the
result is written, what R79 counts of it is counted, and the bench goes on; operands that do not meet it are a JOB_FAULT (R79, R100, R104
to R108, R110). MATVEC writes its whole result and leaves the last tiles in the latches; GATHER reads the rows its indices name, and an
index outside the table is a JOB_FAULT without OOB_ZERO; ATTEND reads the pages and list entries its tokens use, and a page outside the
declared ranges is a JOB_FAULT; SAMPLE writes one token a row, and its state where asked; operands that do not meet the instruction's
table are a JOB_FAULT (R62, R101 to R104, R109, R145). -/
def Obligations.KernelsWriteTheirResults : Prop :=
  (∀ (s : State) (b d : Nat) (j : Job) (w : Nat) (o : Ops4),
    let t := fetched s b d j
    let rd := fun v => t.rdOf b d v
    let abc := State.whole [o.a, o.b, o.c]
    let one := State.whole [o.a]
    let dd := State.whole [o.d]
    let fault : Host.Outcome State Fault Refusal := .next (t.benchFault b 0x0C)
    t.operands b d j w = .ok o →
    (issues s b d j w 0x13 →
      (normOk w o.descs = true → runnable t b d j abc dd [] →
        ∃ out, norm o w (rd o.a) (rd o.b) (rd o.c) = some out ∧ exec (.norm b) s = .next (written t b d abc out)) ∧
      (normOk w o.descs = false → exec (.norm b) s = fault)) ∧
    (issues s b d j w 0x14 →
      (actOk w o.descs = true → runnable t b d j abc dd [] →
        ∃ out, act o w (rd o.a) (rd o.b) = some out ∧ exec (.act b) s = .next (written t b d abc out)) ∧
      (actOk w o.descs = false → exec (.act b) s = fault)) ∧
    (issues s b d j w 0x15 →
      (quantOk w o.descs false = true → runnable t b d j abc dd [] →
        ∃ out, quant o (rd o.a) = some out ∧ exec (.quant b) s = .next (written t b d abc out)) ∧
      (quantOk w o.descs false = false → exec (.quant b) s = fault)) ∧
    (issues s b d j w 0x16 →
      (quantOk w o.descs true = true → runnable t b d j abc dd [] →
        ∃ out, dequant o (rd o.a) = some out ∧ exec (.dequant b) s = .next (written t b d abc out)) ∧
      (quantOk w o.descs true = false → exec (.dequant b) s = fault)) ∧
    (issues s b d j w 0x17 →
      (topkOk w o.descs = true → runnable t b d j one (State.whole [o.d, o.c]) [] →
        ∃ out, topk o w (rd o.a) = some out ∧ exec (.topk b) s = .next (written t b d one out)) ∧
      (topkOk w o.descs = false → exec (.topk b) s = fault)) ∧
    (issues s b d j w 0x19 →
      (reduceOk w o.descs = true →
        let apply := bit (BenchInstr.mode w) 2
        let p := t.paramAt b w 8
        let g := if apply then some (fmul (ofF32 (leAt p 0 4)) (ofF32 (leAt p 4 4))) else none
        runnable t b d j one dd (if apply then [(BenchInstr.param w, 8)] else []) →
        ∃ out, reduce o w g (rd o.a) = some out ∧ exec (.reduce b) s = .next (written t b d one out)) ∧
      (reduceOk w o.descs = false → exec (.reduce b) s = fault))) ∧
  (∀ (s : State) (b d : Nat) (j : Job) (w : Nat) (o : Ops4),
    let t := fetched s b d j
    let rd := fun v => t.rdOf b d v
    let dd := State.whole [o.d]
    let p := t.paramAt b w 16
    let fault : Host.Outcome State Fault Refusal := .next (t.benchFault b 0x0C)
    t.operands b d j w = .ok o →
    (issues s b d j w 0x10 →
      (matvecOk w o.descs = false → exec (.matvec b) s = fault) ∧
      (∀ a v, matvecOk w o.descs = true → o.a = some a → o.b = some v →
        let reads := State.whole (List.replicate (passCount a v) o.a ++ [o.b, o.c])
        runnable t b d j reads dd [] → ∃ out, matvec o w (rd o.a) (rd o.b) (rd o.c) = some out ∧
          exec (.matvec b) s = .next (written t b d reads out) ∧
          ∀ x, (out.leaves x).latch0 = (latchTiles x a v (rd o.a)).latch0 ∧ (out.leaves x).latch1 = (latchTiles x a v (rd o.a)).latch1 ∧
            (out.leaves x).nextLatch = (latchTiles x a v (rd o.a)).nextLatch)) ∧
    (issues s b d j w 0x12 →
      (gatherOk w o.descs = false → exec (.gather b) s = fault) ∧
      (∀ a c, gatherOk w o.descs = true → o.a = some a → o.b = some c → t.spansOk b d j c c.spans false = true →
        let idx := (c.elems (rd o.b)).map fun e => indexOf c.d.fmt e.1
        let spans := (idx.filter fun i => 0 ≤ i && i < (a.d.dim 1 : Int)).flatMap fun i =>
          let r := nth (0, 0, 0) a.runs i.toNat
          (r.1, a.d.rowBytes r.2.1) :: (if a.d.fmt.blocked then [(a.sbase + r.2.2, a.d.dim 0 / 32)] else [])
        let reads := [(c, c.spans), (a, spans)]
        let inside := idx.all fun i => 0 ≤ i && i < (a.d.dim 1 : Int)
        runnable t b d j reads dd [] →
          (bit (BenchInstr.mode w) 0 = true ∨ inside = true →
            ∃ out, gather o (bit (BenchInstr.mode w) 0) (rd o.a) (rd o.b) = some out ∧ exec (.gather b) s = .next (written t b d reads out)) ∧
          (bit (BenchInstr.mode w) 0 = false → inside = false → exec (.gather b) s = fault))) ∧
    (issues s b d j w 0x11 →
      (attendOk w o.descs = false → exec (.attend b) s = fault) ∧
      (∀ a pool c, attendOk w o.descs = true → o.a = some a → o.b = some pool → o.c = some c → storeOk (BenchInstr.param w) 16 false = true →
        (t.bench b).store.hasBad (BenchInstr.param w) 16 = false →
        let tokens := leAt p 8 4
        let window := leAt p 12 4
        let lo := if window = 0 then 0 else tokens - window
        let tpp := pool.d.dim 1
        let used := if tokens = 0 ∨ tokens ≤ lo then [] else (List.range ((tokens - 1) / tpp - lo / tpp + 1)).map (lo / tpp + ·)
        let list := if used.isEmpty then [] else [(c.base + 4 * (lo / tpp), 4 * used.length)]
        let entry := fun i => unpack (rd o.c) c.base .u32 i
        let size := valScales pool.d + (if pool.d.fmt.blocked then pool.d.dim 1 * pool.d.dim 0 / 32 else 0)
        let pages := used.map fun i => (pool.base + entry i * pool.d.pageBytes, size)
        let reads := [(a, a.spans), (c, list), (pool, pages)]
        t.movesOnto b d j [(c, list)] = false →
        (ofF32 (leAt p 0 4)).isFinite = true → leAt p 4 2 = a.d.dim 1 → leAt p 6 2 = a.d.dim 0 → a.d.dim 0 % 32 = 0 →
        ceilDiv tokens tpp ≤ c.d.dim 0 → pool.base % 256 = 0 → t.spansOk b d j c list false = true → t.spansBad b d c list = none →
          (used.any (fun i => pool.d.dim 2 ≤ entry i) = true ∨ pages.all (fun x => covered (State.declared j (· ≤ 1)) x.1 x.2) = false →
            exec (.attend b) s = fault) ∧
          (used.any (fun i => pool.d.dim 2 ≤ entry i) = false → pages.all (fun x => covered (State.declared j (· ≤ 1)) x.1 x.2) = true → runnable t b d j reads dd [(BenchInstr.param w, 16)] →
            ∃ out, attend o (ofF32 (leAt p 0 4)) tokens window (rd o.a) (rd o.b) (rd o.c) (t.drawn + 1) = some out ∧
              exec (.attend b) s = .next (written t b d reads out)))) ∧
    (issues s b d j w 0x18 →
      (sampleOk w o.descs = false → exec (.sample b) s = fault) ∧
      (sampleOk w o.descs = true → storeOk (BenchInstr.param w) 16 false = true → (t.bench b).store.hasBad (BenchInstr.param w) 16 = false →
        let greedy := bit (BenchInstr.mode w) 1
        let it := ofF32 (leAt p 0 4)
        let tp := ofF32 (leAt p 4 4)
        let tk := leAt p 8 4
        let reads := State.whole [o.a, o.b, o.c]
        let right := (greedy || (it.isFinite && !it.isNeg && !it.isZero)) && (tp.isFinite && !tp.isNeg && !tp.isZero) && !fgt tp Fp.one &&
          decide (tk ≤ 1024) && (tk != 0 || toF32 tp == 0x3F800000) && leAt p 12 4 == 0
        (right = false → exec (.sample b) s = fault) ∧
        (right = true → runnable t b d j reads (State.whole (if bit (BenchInstr.mode w) 0 then [o.d, o.b] else [o.d])) [(BenchInstr.param w, 16)] →
          ∃ out, sample o w ⟨it, tp, tk, greedy⟩ (rd o.a) (rd o.b) (rd o.c) = some out ∧
            exec (.sample b) s = .next (written t b d reads out)))))

/-- MOVE makes its checks first, and an operand or a signal that fails them is a JOB_FAULT with no byte moved. On this module it writes the
bytes it read and applies its signal after them, once no stack of its destination is held, none of its operands waits for an earlier MOVE
of the bench, and none of those comes before its signal; to another module the bytes leave as transfers. SEND hands its bytes, as they lie
in memory, to the queue pair or the region its block names, and a block or an operand that fails its checks is a JOB_FAULT; bad parity in
what either reads is a parity error of the bench (R55, R78, R111, R112, R154, R156, R160, R472). -/
def Obligations.MoveAndSend : Prop :=
  (∀ (s : State) (b d : Nat) (j : Job) (w : Nat) (o : Ops4) (a dv : View), issues s b d j w 0x1A →
    let t := fetched s b d j
    t.operands b d j w = .ok o → o.a = some a → o.d = some dv →
    let info : StreamInfo := ⟨j.image.benches.length, j.image.commonSize, j.image.sliceSize, [], [], 0⟩
    let sg := bits (BenchInstr.imm w) 31 30
    let target := bits (BenchInstr.imm w) 29 18
    let bytes := moveBytes a dv (t.rdOf b d o.a)
    let t1 := t.countMove b d a dv
    let u := (t1.wr b d dv.d.loc bytes).step1 b
    let good := moveOk info w o.descs && t.spansOk b d j a a.moveSpans false && t.spansOk b d j dv dv.moveSpans true &&
      (a.d.layout != 2 || (a.base % 256 == 0 && dv.base % 256 == 0)) && (dv.d.loc == 2 || sg != 2 || t.ownsPeg d target)
    let held := (dv.d.loc != 2 && (t.spansHeld b d dv dv.moveSpans || (sg != 0 && t.movesHere b d j))) ||
      t.movesOnto b d j [(a, a.moveSpans), (dv, dv.moveSpans)]
    let bad := (t.spansBad b d a a.moveSpans).or (t.mapsBad d dv dv.moveSpans)
    (good = false → exec (.move b) s = .next (t.benchFault b 0x0C)) ∧
    (good = true → held = true → exec (.move b) s = .next s) ∧
    (∀ q, good = true → held = false → bad = some q → exec (.move b) s = .next (t.benchParity b q)) ∧
    (good = true → held = false → bad = none →
      (dv.d.loc = 2 → exec (.move b) s = .next (t1.moveRemote b d j (cutRuns (joinRuns bytes)) (if sg = 2 then some target else none))) ∧
      (dv.d.loc ≠ 2 →
        (sg = 0 → exec (.move b) s = .next u) ∧
        (sg = 2 → exec (.move b) s = .next (u.addHubPeg target 1)) ∧
        (∀ c, sg = 1 → j.map[target]? = some c → exec (.move b) s = .next (u.addBenchPeg c (bits (BenchInstr.imm w) 17 12) 1))))) ∧
  (∀ (s : State) (b d : Nat) (j : Job) (w : Nat) (o : Ops4) (a : View), issues s b d j w 0x1B →
    let t := fetched s b d j
    t.operands b d j w = .ok o → o.a = some a →
    let p := SendParam.parse (t.paramAt b w 32)
    let sent := a.sendSpans.flatMap fun x => (List.range x.2).map fun k => t.rdOf b d o.a (x.1 + k)
    let read := t.bankBytes b d a a.sendSpans
    let good := sendOk w o.descs && storeOk (BenchInstr.param w) 32 false && t.spansOk b d j a a.sendSpans false
    let block := (t.bench b).store.hasBad (BenchInstr.param w) 32
    let right := p.ok && (p.kind != 3 || !bit p.flags 1 || t.ownsPeg d p.peg)
    let held := t.movesOnto b d j [(a, a.sendSpans)]
    (good = false → exec (.send b) s = .next (t.benchFault b 0x0C)) ∧
    (good = true → block = true → exec (.send b) s = .next (t.benchParity b)) ∧
    (good = true → block = false → right = false → exec (.send b) s = .next (t.benchFault b 0x0C)) ∧
    (good = true → block = false → right = true →
      (held = true → exec (.send b) s = .next s) ∧
      (∀ q, held = false → t.spansBad b d a a.sendSpans = some q → exec (.send b) s = .next (t.benchParity b q)) ∧
      (held = false → t.spansBad b d a a.sendSpans = none →
        exec (.send b) s = .next (if p.kind = 3 then t.sendToRegion b d j p sent read else t.sendOnQp b d j p sent read))))

/-- A parity error in a bench's own stores fails its job with DATA_PARITY, is counted for the bench and raised under STACK_DATA; 64 cycles of
SPIN, none of them skipped, gate the bench; of the first requests of a stack's benches and of its combining steps the one that waits
longest is granted, at most 8 in 256.25 ns and none without a clock; 16 cycles after its grant the bench runs, or its met wait passes, or
it spins again; a bank is refreshed in its turn, a twelfth of its interval after the turn before it, and takes the interval that the
stack's last reading has set (R58, R72 to R74, R78, R162). -/
def Obligations.BenchWaitsWakesAndRefresh : Prop :=
  ∀ (s : State) (b : Nat), s.running = true →
    let v := s.bench b
    (∀ d, v.job = some d → exec (.benchParityError b) s =
      .next (((s.failJob d 0x0B v.logical v.pc).count (0x5400 + b) 0x10 1).raiseSource 7)) ∧
    (v.run = .spin → v.spinSince + 64 * 64 ≤ s.run64 (b / 64) → answers (.spinTimeout b) s fun t =>
      (t.bench b).run = .gated ∧ (t.bench b).since = s.now ∧ (t.bench b).awaits = v.awaits ∧ ∀ c, c ≠ b → t.bench c = s.bench c) ∧
    (v.run = .spin → s.run64 (b / 64) < v.spinSince + 64 * 64 → exec (.spinTimeout b) s = .next s) ∧
    (∀ k n u, let free := (s.stack k).clock ≠ .stopped ∧ ((s.stack k).grants.filter fun g => s.now < g + 256250).length < 8
      (∀ c t r h, State.nextGrant (s.stack k) = some (n, u, h) → ((s.stack k).wakes = (c, t) :: r → u ≤ t) ∧ ((s.stack k).helps = (c, t) :: r → u ≤ t)) ∧
      (State.nextGrant (s.stack k) = some (n, u, false) → free → answers (.wakeGrant k) s fun t =>
        (t.bench (64 * k + n)).granted = some (s.run64 k) ∧ (t.stack k).wakes = (s.stack k).wakes.tail ∧
        (t.stack k).helps = (s.stack k).helps ∧ t.mem = s.mem) ∧
      (State.nextGrant (s.stack k) = some (n, u, true) → free → answers (.wakeGrant k) s fun t =>
        (t.stack k).helped = (s.stack k).helped ++ [n] ∧ (t.stack k).helps = (s.stack k).helps.tail ∧ t.mem = s.mem ∧
        ∀ c, t.bench c = s.bench c) ∧
      (¬ free → exec (.wakeGrant k) s = .next s)) ∧
    (∀ g, v.granted = some g → g + 16 * 64 ≤ s.run64 (b / 64) →
      (v.awaits = none → v.job.isSome = true → v.ended = false →
        answers (.benchWake b) s fun t => (t.bench b).run = .running ∧ (t.bench b).granted = none ∧ (t.bench b).pc = v.pc) ∧
      (∀ p th, v.awaits = some (p, th) → v.run = .gated →
        (pegMet (s.pegValue b p) th = true → answers (.benchWake b) s fun t =>
          (t.bench b).run = .running ∧ (t.bench b).awaits = none ∧ (t.bench b).pc = v.advance.pc) ∧
        (pegMet (s.pegValue b p) th = false → answers (.benchWake b) s fun t =>
          (t.bench b).run = .spin ∧ (t.bench b).awaits = v.awaits ∧ (t.bench b).spinSince = s.run64 (b / 64)))) ∧
    (∀ g, v.granted = some g → s.run64 (b / 64) < g + 16 * 64 → exec (.benchWake b) s = .next s) ∧
    (∀ bank, let key := b % 64 * 12 + bank
      let k := s.stack (b / 64)
      let last := k.turnAt.num (b % 64)
      let twelfth := (if k.bankHot.num key = 1 then 1950000 else 3900000) / 12
      let slot := if last = 0 ∨ last + 2 * twelfth ≤ s.now + 1 then s.now + 1 else last + twelfth
      (s.refreshDue b bank = true → answers (.refresh b bank) s fun t => (t.stack (b / 64)).refreshed.num key = slot ∧
        (t.stack (b / 64)).turnAt.num (b % 64) = slot ∧
        (t.stack (b / 64)).bankHot.num key = bnat (s.stack (b / 64)).hot ∧ (t.stack (b / 64)).turn.num (b % 64) = (bank + 1) % 12 ∧
        t.mem = s.mem ∧ ∀ c, t.bench c = s.bench c) ∧
      (s.refreshDue b bank = false → exec (.refresh b bank) s = .next s))

/-! Derone -/

/-- A D port's link: a partner of another module brings it UP with LINK_EVENT, a partner of this module is MISWIRED; losing an UP link takes
it DOWN, with its packets discarded, the transfers they were of cut off, and LINK_LOSS; a degraded link is reported at most once a second;
LINK_ENABLE 0 disables the port, and 1 on a disabled port starts training, with this module's ID sent to the partner (R168 to R170, R193).
ROUTE_COMMAND by the route state: DRAIN from ACTIVE, with RUN_JOBs of several modules that are not dispatched held again, DRAINED once
nothing of this module uses Derone, SWAP from DRAINED with a staged table that passes its check, RESUME from SWAPPED, ABORT from DRAINING
or DRAINED; in any other state each changes nothing. SWAP puts the staged table and its epoch into force (R190 to R192). -/
def Obligations.DeroneLinksAndRoutes : Prop :=
  (∀ (s : State) (p : Nat), s.running = true →
    let i := 0x2808 + p
    (∀ m q, s.obj i 2 = 1 → s.obj i 1 ≠ 0 → m ≠ s.moduleId →
      let s1 := (s.setObj i 3 0 m).setObj i 4 0 q
      exec (.deroneTrainingDone p m q) s = .next (((s1.setObj i 2 0 2).judgeDerone s1).raiseDevice 2 (1 * 256 + p) [1, BitVec.ofNat 8 p, 0])) ∧
    (∀ q, s.obj i 2 = 1 → s.obj i 1 ≠ 0 → answers (.deroneTrainingDone p s.moduleId q) s fun t => t.obj i 2 = 4 ∧ t.out = s.out) ∧
    (∀ m q, s.obj i 2 ≠ 1 → exec (.deroneTrainingDone p m q) s = .next s) ∧
    (s.obj i 2 = 2 → exec (.deroneLinkDown p) s = .next (((((((s.setObj i 2 0 3).count (0x5280 + p) 0x0B 1).judgeDerone s).dropQueues p).cutTransfers p).judgeInputs).raiseDevice
      4 (1 * 256 + p) [0, BitVec.ofNat 8 p, 0, BitVec.ofNat 8 (s.obj i 3)]).settleHands) ∧
    (s.obj i 2 ≠ 2 → exec (.deroneLinkDown p) s = .next s) ∧
    (let w := s.now / 1000000000000
     let s1 := s.countSince (0x5280 + p) 9 (s.obj i 5) (w * 1000000000000)
     (s.obj i 2 = 2 → s.fab.degraded.num p ≠ w + 1 → exec (.deroneDegraded p) s =
      .next ({ s1 with fab := { s1.fab with degraded := s1.fab.degraded.setNum p (w + 1) } }.raiseDevice 3 (1 * 256 + p)
        [1, BitVec.ofNat 8 p, 0])) ∧
     (s.obj i 2 ≠ 2 ∨ s.fab.degraded.num p = w + 1 → exec (.deroneDegraded p) s = .next s)) ∧
    (∀ v, v ≤ 1 → 0 < s.level → exec (.deroneLinkEnableWrite p v) s = .next ((s.linkEnable p v).settleHands)) ∧
    (s.linkEnable p 0).obj i 2 = 0 ∧
    (s.obj i 1 = 0 → (s.linkEnable p 1).obj i 2 = 1 ∧ (s.linkEnable p 1).out = s.out ++ [.deroneTraining p s.moduleId]) ∧
    (∀ v, 1 < v → exec (.deroneLinkEnableWrite p v) s = .next s)) ∧
  (∀ s : State, s.running = true → 0 < s.level →
    let st := s.obj 0x2800 3
    (st = 0 → exec .routeDrain s = .next (s.holdStarts.setObj 0x2800 3 0 1)) ∧ (st ≠ 0 → exec .routeDrain s = .next s) ∧
    (st = 1 → s.deroneIdle s.handsOut = true → exec .routeDrained s = .next (s.setObj 0x2800 3 0 2)) ∧
    (st ≠ 1 ∨ s.deroneIdle s.handsOut = false → exec .routeDrained s = .next s) ∧
    (st = 1 ∨ st = 2 → exec .routeAbort s = .next (s.setObj 0x2800 3 0 0)) ∧
    (st ≠ 1 → st ≠ 2 → exec .routeAbort s = .next s) ∧
    (st = 3 → exec .routeResume s = .next (s.setObj 0x2800 3 0 0)) ∧ (st ≠ 3 → exec .routeResume s = .next s) ∧
    (st = 2 → s.stagedOk = true →
      let s1 := (({ s with fab := { s.fab with active := s.blob 0x2801 2 } }).setObj 0x2800 2 0 (s.obj 0x2801 3)).setObj 0x2800 3 0 3
      exec .routeSwap s = .next (s1.raiseDevice 5 0 ([0, 0, 0, 0] ++ leBytes 4 (s.obj 0x2801 3))) ∧
      s1.fab.active = s.blob 0x2801 2 ∧ s1.obj 0x2800 2 = s.obj 0x2801 3 ∧ s1.obj 0x2800 3 = 3) ∧
    (st ≠ 2 ∨ s.stagedOk = false → exec .routeSwap s = .next s))

/-- A packet that arrives for this module: one without a valid header is counted and dropped, as is one that is none of the packets its read
is answered with, one of another epoch is counted and answered with NAK STALE_EPOCH, and a valid one takes the effect of its TYPE, which
waits where its stack's interface is lost (R173 to R176, R181 to R184, R472). A write transfer of one packet that an accept window admits,
where no other transfer in progress writes the same bytes: its bytes lie where the packet says, every other byte of device memory is
unchanged, and the ACK is what leaves (R181, R182). A write that no window admits places nothing, is counted as refused and answered with
NAK ACCESS (R182). -/
def Obligations.DeronePacketsAtTheirDestination : Prop :=
  (∀ (s : State) (port : Nat) (bytes : List Byte), s.running = true → s.portUp port = true →
    let t := s.countArrival port (bits (leAt bytes 0 1) 4 4) bytes.length
    (32 ≤ bytes.length → Packet.header bytes = none → ∀ c ∈ [Instr.deroneRxWrite port bytes, .deroneRxReadReq port bytes,
      .deroneRxReadResp port bytes, .deroneRxAck port bytes, .deroneRxNak port bytes],
      exec c s = .next (t.count (0x5280 + port) 0x0C 1)) ∧
    (∀ p, Packet.parse bytes = some p → p.dst = s.moduleId → p.kind = 2 → t.respFits p = false →
      exec (.deroneRxReadResp port bytes) s = .next (t.count (0x5280 + port) 0x0C 1)) ∧
    (∀ p, Packet.parse bytes = some p → p.dst = s.moduleId → (p.kind = 2 → t.respFits p = true) →
      let stale := (t.count (0x5280 + port) 0x0D 1).answerDerone p.src 4 p.id 5
      (p.epoch ≠ s.epoch8 → (p.kind = 0 → exec (.deroneRxWrite port bytes) s = .next stale) ∧
        (p.kind = 1 → exec (.deroneRxReadReq port bytes) s = .next stale) ∧ (p.kind = 2 → exec (.deroneRxReadResp port bytes) s = .next stale) ∧
        (p.kind = 3 → exec (.deroneRxAck port bytes) s = .next stale) ∧ (p.kind = 4 → exec (.deroneRxNak port bytes) s = .next stale)) ∧
      (p.epoch = s.epoch8 →
        (p.kind = 0 →
          (t.stackHeld [.dev (dpaOffset p.addr) p.len] = false → exec (.deroneRxWrite port bytes) s = .next (State.rxWrite port p t)) ∧
          (t.stackHeld [.dev (dpaOffset p.addr) p.len] = true → exec (.deroneRxWrite port bytes) s = .next s)) ∧
        (p.kind = 1 →
          (t.stackHeld [.dev (dpaOffset p.addr) p.info] = false → exec (.deroneRxReadReq port bytes) s = .next (State.rxReadReq p t)) ∧
          (t.stackHeld [.dev (dpaOffset p.addr) p.info] = true → exec (.deroneRxReadReq port bytes) s = .next s)) ∧
        (p.kind = 2 →
          ((∀ x, t.findXfer p.id = some x → t.stackHeld x.dest = false) → exec (.deroneRxReadResp port bytes) s = .next (State.rxReadResp p t)) ∧
          (∀ x, t.findXfer p.id = some x → t.stackHeld x.dest = true → exec (.deroneRxReadResp port bytes) s = .next s)) ∧
        (p.kind = 3 → exec (.deroneRxAck port bytes) s = .next ((State.rxAck p t).settleHands)) ∧
        (p.kind = 4 → exec (.deroneRxNak port bytes) s = .next ((State.rxNak p t).settleHands))))) ∧
  (∀ (s : State) (port : Nat) (p : Packet) (d : Nat), p.first = true → p.last = true → p.sig = false → p.index = 0 → p.payload ≠ [] →
    p.payload.length = p.len → s.arrival p.src p.drawer p.addr p.len true = some d → s.landingOf d (dpaOffset p.addr) = false →
    (∀ c ∈ s.fab.contexts, c.src = p.src → c.id = p.id → c.failed = true) →
    (∀ c ∈ s.fab.contexts, ∀ r ∈ c.placed ++ c.crossed, overlaps (dpaOffset p.addr) p.len r.1 r.2 = false) →
    let t := State.rxWrite port p s
    let a := dpaOffset p.addr
    t.mem.dev.readBytes a p.payload.length = p.payload ∧
    (∀ x, x < a ∨ a + p.payload.length ≤ x → t.mem.dev.read x = s.mem.dev.read x) ∧
    ∃ u : State, t = u.answerDerone p.src 3 p.id 0 ∧ u.out = s.out ∧ u.fab.xfers = s.fab.xfers) ∧
  (∀ (s : State) (port : Nat) (p : Packet), p.first = true → p.last = true → p.index = 0 → s.findContext p.src p.id = none → s.arrival p.src p.drawer p.addr p.len true = none →
    let t := State.rxWrite port p s
    t.mem = s.mem ∧ t.cmp = s.cmp ∧ t.ring = s.ring ∧
    ∃ u : State, t = u.answerDerone p.src 4 p.id 1 ∧ u.ctr 0x5288 8 = satAdd 64 (s.ctr 0x5288 8) 1)

/-- Forwarding: a packet for another module leaves by the table's port with one more hop, on the same virtual channel; after 15 hops, or with
no way on, its source is answered with a NAK. An output that its partner holds OFF keeps its packets until ON, and the time it was held is
counted (R179, R186, R189). The timers of a transfer: an output whose oldest packet has waited for the stall time loses it; a transfer
unanswered for the ACK time after its last packet left, or after its first sending where it was sent again, ends with LINK_LOST; one
answered BUSY is sent again 2 µs later, or ends with LINK_LOST where its port is not UP; a dovetail transfer starts at its issue time; a
waiting one starts when fewer than 4,096 are outstanding (R174, R180, R184, R186, R188). -/
def Obligations.DeroneForwardingAndTimers : Prop :=
  ((∀ (s : State) (port : Nat) (bytes : List Byte) (p : Packet), s.running = true → s.portUp port = true → Packet.parse bytes = some p →
    p.dst ≠ s.moduleId → p.epoch = s.epoch8 →
    let t := s.countArrival port (bits (leAt bytes 0 1) 4 4) bytes.length
    let e := t.routeEntry p.dst
    (p.hops = 15 → exec (.deroneForward port bytes) s = .next ((t.count (0x5280 + port) 0x0E 1).answerDerone p.src 4 p.id 2)) ∧
    (p.hops ≠ 15 → e < 8 → t.portUp e = true →
      exec (.deroneForward port bytes) s = .next ((t.putPacket e p.vc port { p with hops := p.hops + 1 }.bytes).judgeInputs)) ∧
    (p.hops ≠ 15 → 8 ≤ e ∨ t.portUp e = false → exec (.deroneForward port bytes) s = .next (t.answerDerone p.src 4 p.id 7))) ∧
  (∀ (s : State) (port vc : Nat), s.running = true →
    let k := 2 * port + vc
    (s.heldOff k = none → answers (.deroneFlowControl port vc true) s fun t =>
      t.heldOff k = some s.now ∧ t.out = s.out ∧ t.mem = s.mem) ∧
    (∀ u, s.heldOff k = some u → s.ctr (0x5280 + port) 6 < 2 ^ 64 →
      let s1 := s.endOff port vc
      exec (.deroneFlowControl port vc false) s = .next ((s1.release port vc (s1.outQueue k).length).judgeInputs.settleHands) ∧
      s1.heldOff k = none ∧ s1.ctr (0x5280 + port) 6 = satAdd 64 (s.ctr (0x5280 + port) 6) ((s.now - u) / 1000)) ∧
    (s.heldOff k = none → exec (.deroneFlowControl port vc false) s = .next s)) ∧
  (∀ (s : State) (port vc source : Nat) (pkt : List Byte),
    let k := 2 * port + vc
    let t := s.putPacket port vc source pkt
    (s.outQueue k = [] → s.heldOff k = none → t.out = s.out ++ [.derone port vc pkt]) ∧
    ((s.heldOff k).isSome = true → t.out = s.out ∧ t.outQueue k = s.outQueue k ++ [⟨pkt, s.now, source⟩]))) ∧
  (∀ s : State, s.running = true →
    (∀ port vc q r, let k := 2 * port + vc
      s.outQueue k = q :: r →
      (q.since + s.obj 0x2800 5 * 1000000 ≤ s.now → exec (.deroneStallDiscard port vc) s =
        .next (((((s.setOutQueue k r).count (0x5280 + port) 8 1).raiseSource 10).lose q.packet 2).judgeInputs.settleHands)) ∧
      (s.now < q.since + s.obj 0x2800 5 * 1000000 → exec (.deroneStallDiscard port vc) s = .next s)) ∧
    (∀ id x, s.findXfer id = some x →
      let due := (if x.resent then x.firstSent else x.lastSent) + s.obj 0x2800 6 * 1000000
      (due ≤ s.now → (x.resent = false → s.packetsWait id = false) →
        exec (.deroneAckTimeout id) s = .next (((s.count 0x5288 4 1).endXfer x 0x09).settleHands)) ∧
      (s.now < due ∨ (x.resent = false ∧ s.packetsWait id = true) → exec (.deroneAckTimeout id) s = .next s)) ∧
    (∀ id x u, s.findXfer id = some x → x.busyAt = some u → u + 2000000 ≤ s.now →
      let y := { x with busyAt := none, resent := true, next := 0 }
      (s.xferPort x < 8 → s.portUp (s.xferPort x) = true →
        exec (.deroneBusyResend id) s = .next (((s.count 0x5288 7 1).mapXfer id fun _ => y).sendXfer y)) ∧
      (8 ≤ s.xferPort x ∨ s.portUp (s.xferPort x) = false → exec (.deroneBusyResend id) s = .next ((s.endXfer x 0x09).settleHands))) ∧
    (∀ id h, s.fab.held.find? (·.id == id) = some h → h.issue ≤ s.now → exec (.dovetailIssue id) s =
      .next ({ s with fab := { s.fab with held := s.fab.held.filter (·.id != id) } }.startOp h.op)) ∧
    (∀ id h, s.fab.held.find? (·.id == id) = some h → s.now < h.issue → exec (.dovetailIssue id) s = .next s) ∧
    (∀ x r, s.fab.waiting = x :: r →
      let l := ({ s with fab := { s.fab with waiting := r } }).launch x
      (s.fab.xfers.length < 4096 → l.2 = none → exec .deroneTransferStart s = .next l.1.settleHands) ∧
      (∀ st, s.fab.xfers.length < 4096 → l.2 = some st → exec .deroneTransferStart s = .next ((l.1.originDone x.origin st).settleHands)) ∧
      (4096 ≤ s.fab.xfers.length → exec .deroneTransferStart s = .next s)))

/-! Tables and hands -/

/-- TABLE_DEAL opens a free context of the drawer's range with HAND_SEQ 1 and its counters at zero; a context in use, outside the range, dealt
twice or past the drawer's kitty is not permitted; TABLE_REDEAL of an own context with no hand before it takes a new deal with another
key, within the kitty, and TABLE_CLEAR of the function's own context leaves none; a deal block that cannot be read or is not well formed
ends either with its status (R194, R197, R198, R202, R203). HAND_START on no context of the function is not permitted; on a context with a
hand running or waiting it joins the queue; on an idle one the hand takes the context's HAND_SEQ and its limits begin, and the member
joins, or has for its local status what its entry fails for; a waiting one does so when its turn comes; one past 64 accepted, or one over
other modules while the route changes, waits (R191, R215, R216, R229). RING's chunks of an ALL_REDUCE: in ascending order, each begins
where the last ended, together they are the COUNT elements, and chunk c holds one element more than COUNT // N exactly when c < COUNT mod
N (R210). -/
def Obligations.TablesAndHandStarts : Prop :=
  ((∀ (s : State) (f i : Nat) (e : Entry) (b : BufRef), ready s f i e 0x38 → s.tableTurn f e = true → e.buf 0x0C = some b →
    let t := e.u8 8
    (∀ st s1, s.readDeal f b = (some (.inl st), s1) → exec (.tableDeal f i) s = .next (s1.complete f e st (leBytes 1 t))) ∧
    (∀ s1, s.readDeal f b = (none, s1) → exec (.tableDeal f i) s = .next (s.moveWait f e s1)) ∧
    (∀ d s1, s.readDeal f b = (some (.inr d), s1) →
      let base := s1.obj 0x2300 7 f
      let bad := (s1.table t).isSome = true ∨ t < base ∨ base + s1.obj 0x2300 8 f ≤ t ∨ s1.dealtTwice t f d = true ∨
        s1.obj 0x2300 3 f < s1.cellsHeld f + d.cells + 256
      (bad → exec (.tableDeal f i) s = .next (s1.complete f e 0x12 (leBytes 1 t))) ∧
      (¬ bad → exec (.tableDeal f i) s = .next ((s1.dealt t f d.cells d).complete f e 0 (leBytes 1 t))))) ∧
  (∀ (s : State) (t f cells : Nat) (d : Deal), (∃ c, (s.dealt t f cells d).table t = some c ∧ c.fid = f ∧ c.deal = d ∧ c.seq = 1 ∧
      c.running = none ∧ c.queue = []) ∧ (∀ k, 1 ≤ k → k ≤ 8 → (s.dealt t f cells d).ctr (State.tableCtr t) k = 0) ∧
    ∀ u, u ≠ t → (s.dealt t f cells d).table u = s.table u) ∧
  (∀ (s : State) (f i : Nat) (e : Entry) (b : BufRef), ready s f i e 0x39 → s.tableTurn f e = true → e.buf 0x0C = some b →
    s.handsBefore f e = false →
    let t := e.u8 8
    (∀ st s1, s.readDeal f b = (some (.inl st), s1) → exec (.tableRedeal f i) s = .next (s1.complete f e st (leBytes 1 t))) ∧
    (∀ d s1, s.readDeal f b = (some (.inr d), s1) →
      (s1.table t = none → exec (.tableRedeal f i) s = .next (s1.complete f e 0x12 (leBytes 1 t))) ∧
      (∀ c, s1.table t = some c →
        let cells := max c.cells d.cells
        let bad := c.fid ≠ f ∨ c.deal.key = d.key ∨ s1.dealtTwice t f d = true ∨
          (c.cells < d.cells ∧ s1.obj 0x2300 3 f + c.cells < s1.cellsHeld f + cells + 256)
        (bad → exec (.tableRedeal f i) s = .next (s1.complete f e 0x12 (leBytes 1 t))) ∧
        (¬ bad → exec (.tableRedeal f i) s = .next ((s1.dealt t f cells d).complete f e 0 (leBytes 1 t)))))) ∧
  (∀ (s : State) (f i : Nat) (e : Entry), ready s f i e 0x3A → s.tableTurn f e = true →
    let t := e.u8 8
    (∀ c, s.table t = some c → c.fid = f → ∃ u : State, exec (.tableClear f i) s = .next (u.complete f e 0 (leBytes 1 t)) ∧ u.table t = none) ∧
    ((∀ c, s.table t = some c → c.fid ≠ f) → exec (.tableClear f i) s = .next (s.complete f e 0x12 (leBytes 1 t))))) ∧
  (∀ (s : State) (f i : Nat) (e : Entry),
    let t := e.u8 8
    let waits (c : Table) := s.obj 0x2800 3 ≠ 0 ∧ s.offModule c.deal = true
    let taken (c : Table) (dst : List Piece) : State :=
      let h : Hand := { State.newHand c e s.now with dst := dst }
      let c1 : Table := { c with seq := (c.seq + 1) % 2 ^ 32, running := some h, queue := c.queue.filter (· != e.idx) }
      ((s.setTable t (some c1)).count (State.tableCtr t) 1 1).busy c.fid e
    let begins (c : Table) (k : Instr) :=
      (handEarly c.deal e = 0 → exec k s = .next ((((taken c []).takeAbort t).joinHand t).settleHands)) ∧
      (handEarly c.deal e ≠ 0 → exec k s =
        .next (((taken c (s.lostDst c e)).failHand t (handEarly c.deal e) c.deal.rank).settleHands))
    (ready s f i e 0x3B → s.tableTurn f e = true →
      ((∀ c, s.table t = some c → c.fid ≠ f) → exec (.handStart f i) s = .next (s.complete f e 0x12 (State.handResult t 0 0xFFFF))) ∧
      (∀ c, s.table t = some c → c.fid = f →
        (64 ≤ s.handsAccepted f ∨ waits c → exec (.handStart f i) s = .next s) ∧
        (s.handsAccepted f < 64 → ¬ waits c →
          (c.running.isSome = true ∨ c.queue ≠ [] → exec (.handStart f i) s =
            .next ((s.setTable t (some { c with queue := c.queue ++ [e.idx] })).busy f e)) ∧
          (c.running = none → c.queue = [] → begins c (.handStart f i))))) ∧
    (∀ c, s.running = true → s.findEntry f i = some e → s.table t = some c → e.opcode = 0x3B → c.fid = f →
      (c.running = none → c.queue.head? = some i → ¬ waits c → begins c (.handQueuedStart f i)) ∧
      (c.running.isSome = true ∨ c.queue.head? ≠ some i ∨ waits c → exec (.handQueuedStart f i) s = .next s))) ∧
  (∀ n count : Nat, 0 < n →
    (ringChunk n count 0).1 = 0 ∧ (ringChunk n count (n - 1)).2 = count ∧
    (∀ c, c + 1 < n → (ringChunk n count (c + 1)).1 = (ringChunk n count c).2) ∧
    ∀ c, c < n → (ringChunk n count c).2 - (ringChunk n count c).1 = count / n + (if c < count % n then 1 else 0))

/-- The packets of a running hand: each takes the oldest packet of its kind and number, and no other. DATA of the hand's own signature, in
whole elements, is staged and the streams go on, and other DATA fails the hand with COLL_MISMATCH; CREDIT gives back what was spent; ABORT
of a hand that has not stopped is adopted and told on, and its DONE follows; DONE joins the leader's reports once per member; FIN ends the
member (R223 to R227, R231). A member whose streams are done, with every DATA acknowledged, or that has stopped, sends DONE; at D a leader
other than rank 0 sends its group's DONE, at 1.5 D rank 0 sends FIN, and at 2 D a member without FIN completes, with its own status or
with MEMBER_FAILED and the lowest rank it awaits; before its limit nothing happens (R227, R229, R230). -/
def Obligations.HandPacketsAndLimits : Prop :=
  (∀ (s : State) (t n : Nat) (c : Table) (h : Hand) (p : HandPkt), s.running = true → s.table t = some c → c.running = some h →
    findPos (fun q : HandPkt => q.seq == h.seq && q.kind == p.kind) c.inbox = some n → c.inbox[n]? = some p →
    let c1 := { c with inbox := c.inbox.eraseIdx n }
    let u := s.setTable t (some c1)
    let d := c.deal
    (p.kind = 1 →
      (p.sig = h.sig → State.wholeData c1 h p = true → p.src < d.count → h.status = 0 →
        exec (.handData t) s = .next ((((u.setHand t { h with staged := h.staged ++ [p] }).releaseStaged t).pump t).settleHands)) ∧
      (p.sig ≠ h.sig ∨ State.wholeData c1 h p = false → p.src < d.count → exec (.handData t) s =
        .next ((((u.count (State.tableCtr t) 6 1).sendHand t c1 (State.handPkt c1 h p.src 2 0 0xFFFF 1 0 [])).failHand t 8 d.rank).settleHands)) ∧
      (d.count ≤ p.src → exec (.handData t) s = .next (((u.count (State.tableCtr t) 6 1).failHand t 8 d.rank).settleHands))) ∧
    (p.kind = 2 → h.status = 0 → exec (.handCredit t) s =
      .next (((u.setHand t { h with spent := h.spent.setNum p.src (h.spent.num p.src - p.step) }).pump t).settleHands)) ∧
    (p.kind = 3 → (h.doneSent = true ∨ h.status ≠ 0) → exec (.handAbort t) s = .next u.settleHands) ∧
    (p.kind = 3 → h.doneSent = false → h.status = 0 →
      let st := if p.status = 8 ∨ p.status = 9 then p.status else 0x0A
      let h1 := { h with status := st, failed := p.failed, staged := [], held := [], streams := [], relayed := true }
      let ranks := if h.relayed = true ∨ d.rank ≠ d.leader d.mine then [] else if (d.member p.src).group = d.mine then State.tellLeaders d
        else State.groupMates d
      exec (.handAbort t) s = .next ((((u.setHand t h1).tell t c1 h1 ranks 3 (State.listedStatus p.status) p.failed).sendDone t).settleHands)) ∧
    (p.kind = 4 → d.rank = d.leader d.mine → h.reports.any (·.1 == p.src) = false →
      let r := if p.sig ≠ h.sig then (p.src, 8, p.src) else (p.src, State.listedStatus p.status, p.failed)
      exec (.handDone t) s = .next (((u.setHand t { h with reports := h.reports ++ [r] }).leaderSends t false).settleHands)) ∧
    (p.kind = 4 → d.rank ≠ d.leader d.mine ∨ h.reports.any (·.1 == p.src) = true → exec (.handDone t) s = .next u.settleHands) ∧
    (p.kind = 5 → exec (.handFin t) s = .next ((u.finish t c1 h (State.listedStatus p.status) p.failed).settleHands))) ∧
  (∀ (s : State) (t : Nat), s.running = true →
    (∀ c h, s.table t = some c → c.running = some h →
      let due := fun q => h.startedAt + c.deal.deadline * 1000000 * q / 4 ≤ s.now
      (due 4 → c.deal.rank ≠ 0 → exec (.handLeaderDeadline t) s = .next ((s.leaderSends t true).settleHands)) ∧
      (due 6 → c.deal.rank = 0 → exec (.handRootDeadline t) s = .next ((s.leaderSends t true).settleHands)) ∧
      (due 8 → h.status ≠ 0 → exec (.handMemberDeadline t) s = .next ((s.endHand t c h h.status h.failed).settleHands)) ∧
      (due 8 → h.status = 0 → exec (.handMemberDeadline t) s =
        .next ((s.endHand t c h 0x0A ((leastOf (State.awaited c h)).getD 0)).settleHands)) ∧
      (¬ due 4 → exec (.handLeaderDeadline t) s = .next s) ∧ (¬ due 6 → exec (.handRootDeadline t) s = .next s) ∧
      (¬ due 8 → exec (.handMemberDeadline t) s = .next s)) ∧
    (let s1 := ((s.settleHands).joinHand t).pump t
     ∀ c h, s1.table t = some c → c.running = some h →
      let done := h.status ≠ 0 ∨ (h.joined = true ∧ h.streams.all (fun x => decide (x.hi ≤ x.pos)) = true ∧ h.outstanding = 0)
      (done → exec (.handPartDone t) s = .next ((s1.sendDone t).settleHands)) ∧ (¬ done → exec (.handPartDone t) s = .next s1)))

/-- Reports combine by precedence: COLL_MISMATCH, then LINK_LOST, then MEMBER_FAILED for any other failure or a missing report, then OK with
FAILED_RANK 0xFFFF; the rank named is the least that reported the chosen status or is missing (R228). -/
def Obligations.ReportsCombineByPrecedence : Prop :=
  ∀ (rs : List (Nat × Nat × Nat)) (missing leaders : List Nat),
    let who := reportRank leaders
    let r := combineReports rs missing leaders
    let names (p : Nat → Prop) := ((∃ x ∈ rs, p x.2.1 ∧ who x = r.2) ∨ r.2 ∈ missing) ∧ (∀ x ∈ rs, p x.2.1 → r.2 ≤ who x) ∧ ∀ m ∈ missing, r.2 ≤ m
    ((∃ x ∈ rs, x.2.1 = 8) → r.1 = 8 ∧ names (· = 8)) ∧
    ((∀ x ∈ rs, x.2.1 ≠ 8) → (∃ x ∈ rs, x.2.1 = 9) → r.1 = 9 ∧ names (· = 9)) ∧
    ((∀ x ∈ rs, x.2.1 ≠ 8 ∧ x.2.1 ≠ 9) → (∃ x ∈ rs, x.2.1 ≠ 0) ∨ missing ≠ [] → r.1 = 0x0A ∧ names (· ≠ 0)) ∧
    ((∀ x ∈ rs, x.2.1 = 0) → missing = [] → r = (0, 0xFFFF))

/-! Harjan Reliable Transport -/

/-- The HRT entries at a requester, on a cached QP whose earlier requests have been sent: an entry that passes R282's checks puts its request
on the QP, and one that fails them ends with its status, at once where the QP is not the function's or not in RTS, else as the QP's
requests end in turn. On the function's own QP in RTS without a security association an entry passes where its local buffer is found and,
for ADD and CAS, its remote offset is a multiple of 8 (R252, R260, R275, R282). -/
def Obligations.HrtEntriesJoinTheirQp : Prop :=
  ∀ (s : State) (f i op : Nat) (c : Instr) (e : Entry),
    (op, c) ∈ [(0x10, Instr.hrtSend f i), (0x11, .hrtWrite f i), (0x12, .hrtRead f i), (0x13, .hrtAdd f i), (0x14, .hrtCas f i),
      (0x15, .hrtFlush f i)] →
    ready s f i e op →
    let n := e.u32 8
    let q := s.qp n
    let t := s.touchQp n
    (s.cachedQp n = true → t.firstOfQp f e = true → (q.owner = some f → State.allSent q = true) →
      (∀ r, t.entryReq f e q = .inl r → exec c s = .next ((t.busy f e).setQp n { q with reqs := q.reqs ++ [r] })) ∧
      (∀ st, t.entryReq f e q = .inr st →
        let t1 := if st = 0x10 then t.count 0x5800 6 1 else t
        (q.owner ≠ some f ∨ q.state ≠ .rts → exec c s = .next (t1.complete f e st (leBytes 4 n))) ∧
        (q.owner = some f → q.state = .rts → exec c s = .next (((t1.busy f e).setQp n { q with reqs := q.reqs ++
          [{ State.plainReq (.entry e.idx) 8 0 1024 with count := 0, status := some st }] }).settleQp n)))) ∧
    (s.cachedQp n = false → exec c s = .next s) ∧
    (∀ b x, q.owner = some f → q.state = .rts → q.attr.sa = 0 → (op = 0x13 ∨ op = 0x14 → e.u64 0x28 % 8 = 0) → e.buf 0x0C = some b →
      t.localBuf f b (if op = 0x13 ∨ op = 0x14 then 8 else if op = 0x15 then 0 else e.u64 0x18)
        (decide (op = 0x12 ∨ op = 0x13 ∨ op = 0x14)) = .inr x →
      ∃ r, t.entryReq f e q = .inl r ∧ r.origin = .entry e.idx ∧ r.op = State.hrtOp op ∧ r.key = e.u32 0x20 ∧ r.roff = e.u64 0x28 ∧
        r.sent = 0) ∧
    (q.owner ≠ some f → t.entryReq f e q = .inr 0x12) ∧ (q.state = .error → q.owner = some f → t.entryReq f e q = .inr 0x0D)

/-- A secure QP carries no READ: at the requester the entry whose buffer is found fails before any packet leaves, and no READ becomes a
request; at the responder a new READ_REQ that has been authenticated is answered with NAK_ACCESS (R422). -/
def Obligations.SecureQueuePairCarriesNoRead : Prop :=
  (∀ (s : State) (f : Nat) (e : Entry) (q : Qp) (b : BufRef) (x : List Piece × BufRef), e.opcode = 0x12 → q.attr.sa ≠ 0 → q.owner = some f →
    q.state = .rts → e.buf 0x0C = some b → s.localBuf f b (e.u64 0x18) true = .inr x → s.entryReq f e q = .inr 0x12) ∧
  (∀ (s : State) (f : Nat) (e : Entry) (q : Qp) (r : HrtReq), q.attr.sa ≠ 0 → s.entryReq f e q = .inl r → r.op ≠ 3) ∧
  (∀ (s : State) (n psn : Nat) (x : HrtIn) (p : HrtPkt), (s.qp n).attr.sa ≠ 0 → p.op = 3 →
    s.newOrdered n psn x p = some (s.fatalNak n 0x20 psn))

/-- QP_MODIFY of a cached QP: a mask with an unknown bit is malformed; another function's QP, and a mask bit that the state does not allow,
are not permitted; otherwise the attribute block is read and the transition of R254 is made. RESET to INIT takes ownership, INIT to RTR
and RTR to RTS set the counters their attributes give, a QP sent to ERROR is in ERROR with its attributes, one in ERROR takes no other
transition but RESET, and a QP that passes to RESET loses its owner, takes the next INCARNATION and is quarantined for 4 ms. RESUME ends a
stall, but where its page still is not present it posts a PAGE_REQUEST and the stall stays, and while the page is being moved or P0 is
down it waits (R133, R252 to R255, R293, R362). -/
def Obligations.QueuePairsAreModifiedAndResumed : Prop :=
  (∀ (s : State) (f i : Nat) (e : Entry), ready s f i e 0x18 →
    let n := e.u32 8
    let mask := e.u32 0x10
    let target := e.u8 0x0C
    let q := s.qp n
    let t := s.touchQp n
    let mayLeave := q.state = .reset → target ≠ 0 →
      q.quarantine ≤ s.now ∧ n < s.qpsAvailable ∧ s.obj 0x2300 4 f ≤ n ∧ n < s.obj 0x2300 4 f + s.obj 0x2300 5 f
    (s.cachedQp n = true →
      (2 ^ 18 ≤ mask → exec (.qpModify f i) s = .next (t.modifyEnds f e 0x0E).settleHands) ∧
      (mask < 2 ^ 18 → q.state ≠ .reset → q.owner ≠ some f → exec (.qpModify f i) s = .next (t.modifyEnds f e 0x12).settleHands) ∧
      (mask < 2 ^ 18 → ¬ mayLeave → exec (.qpModify f i) s = .next (t.modifyEnds f e 0x12).settleHands) ∧
      (mask < 2 ^ 18 → (q.state ≠ .reset → q.owner = some f) → mayLeave →
        (mask &&& settable q.state target ≠ mask → exec (.qpModify f i) s = .next (t.modifyEnds f e 0x12).settleHands) ∧
        (mask = 0 → exec (.qpModify f i) s = .next (t.modifyWith f e q (List.replicate 128 0)).settleHands) ∧
        (∀ b, mask ≠ 0 → mask &&& settable q.state target = mask → e.buf 0x14 = some b →
          let r := t.resolveBuf f b 128 false false
          (∀ st, r.1 = .fail st → exec (.qpModify f i) s = .next (r.2.modifyEnds f e st).settleHands) ∧
          (∀ ps bs, r.1 = .ok ps → r.2.piecesReady ps = true → (r.2.readPieces ps).1 = some bs →
            exec (.qpModify f i) s = .next ((r.2.readPieces ps).2.modifyWith f e q bs).settleHands)))) ∧
    (s.cachedQp n = false → exec (.qpModify f i) s = .next s.settleHands)) ∧
  (∀ (s : State) (f : Nat) (e : Entry) (q : Qp) (b : List Byte),
    let n := e.u32 8
    let mask := e.u32 0x10
    let laneOk := State.lowestLane (s.obj (0x2500 + 16 * (leAt b 6 1 / 16 % 8)) 2) (leAt b 6 1 % 4)
    let a := attrApply (if q.state = .reset then QpAttr.default n else q.attr) b mask
    let r := s.qpMove f n q a (e.u8 0x0C)
    (attrOk b mask laneOk = false → s.modifyWith f e q b = s.modifyEnds f e 0x0E) ∧
    (attrOk b mask laneOk = true → bit mask 14 = false → bit mask 17 = false → r.2 = 0 → s.modifyWith f e q b = r.1.modifyEnds f e 0) ∧
    (attrOk b mask laneOk = true → bit mask 14 = false → r.2 = 0x12 → s.modifyWith f e q b = s.modifyEnds f e 0x12)) ∧
  (∀ (s : State) (f n : Nat) (q : Qp) (a : QpAttr),
    (q.state = .reset → let r := s.qpMove f n q a 1
      r.2 = 0 ∧ (r.1.qp n).state = .init ∧ (r.1.qp n).owner = some f ∧ (r.1.qp n).attr = a ∧ (r.1.qp n).incarnation = q.incarnation) ∧
    (q.state = .rtr → bit a.given 8 = true → let r := s.qpMove f n q a 3
      r.2 = 0 ∧ (r.1.qp n).state = .rts ∧ (r.1.qp n).next = a.sqPsn ∧ (r.1.qp n).una = a.sqPsn ∧ (r.1.qp n).timeout = a.rtoBase ∧
      (r.1.qp n).rung = 0) ∧
    (q.state = .init → s.rtrOk f a = true → a.sa = 0 → let r := s.qpMove f n q a 2
      r.2 = 0 ∧ (r.1.qp n).state = .rtr ∧ (r.1.qp n).ePsn = a.rqPsn ∧ (r.1.qp n).arrived = 0) ∧
    (q.state = .init ∨ q.state = .rtr ∨ q.state = .rts → let r := s.qpMove f n q a 4
      r.2 = 0 ∧ (r.1.qp n).state = .error ∧ (r.1.qp n).attr = a) ∧
    (q.state = .error → (s.qpMove f n q a 1).2 = 0x12 ∧ (s.qpMove f n q a 2).2 = 0x12 ∧ (s.qpMove f n q a 3).2 = 0x12) ∧
    ((s.qpToReset n).qp n).state = .reset ∧ ((s.qpToReset n).qp n).owner = none ∧
    ((s.qpToReset n).qp n).incarnation = ((s.qp n).incarnation + 1) % 256 ∧ ((s.qpToReset n).qp n).quarantine = s.now + 4000000000) ∧
  (∀ (s : State) (f i : Nat) (e : Entry), ready s f i e 0x19 →
    let n := e.u32 8
    let q := s.qp n
    let t := s.touchQp n
    (s.cachedQp n = true →
      (q.owner ≠ some f ∨ q.state ≠ .rts → exec (.resume f i) s = .next (t.complete f e 0x12 (leBytes 4 n))) ∧
      (q.owner = some f → q.state = .rts → q.stall = none → exec (.resume f i) s = .next (t.complete f e 0 (leBytes 4 n))) ∧
      (∀ st, q.owner = some f → q.state = .rts → q.stall = some st →
        let r := t.translate f st.page st.write false
        (r.1 = .wait → exec (.resume f i) s = .next s) ∧
        (r.1 = .moving → exec (.resume f i) s = .next (t.moveWait f e r.2)) ∧
        (r.1 ≠ .notPresent → r.1 ≠ .wait → r.1 ≠ .moving → exec (.resume f i) s = .next ((r.2.setQp n { r.2.qp n with stall := none }).complete f e 0 (leBytes 4 n))) ∧
        (r.1 = .notPresent → exec (.resume f i) s = .next ((r.2.pageRequest n st.page st.write false).complete f e 0 (leBytes 4 n))))) ∧
    (s.cachedQp n = false → exec (.resume f i) s = .next s))

/-- An arriving request that is first for its pipeline and passes steps 1 to 6 leaves its cells and goes through step 7 on; each row takes a
packet of its own opcode and changes nothing where none is first. A packet whose context is not cached waits and holds no packet of
another pipeline, one that names no available QP is counted and dropped, and one that steps 3 to 6 deal with leaves the state they give
(R250, R257, R258, R314). The classes of R258 on a QP without a security association: a packet past the window is counted and dropped; a
SEND, WRITE or COLL that lies behind it, or that is taken already, is counted and acknowledged; a new SEND, WRITE or ordered request takes
its own effect, and a new COLL is delivered and accepted. A new SEND or WRITE whose checks pass and whose pages translate is placed, and
one whose bytes cannot be placed raises the STACK_DATA source and ends in NAK_PARITY (R146, R258, R262, R264, R265, R267, R272, R283). -/
def Obligations.ArrivingRequestsByClass : Prop :=
  (∀ (s : State) (op : Nat) (c : Instr),
    (op, c) ∈ [(1, Instr.hrtRxSend), (2, .hrtRxWrite), (3, .hrtRxReadReq), (5, .hrtRxAdd), (6, .hrtRxCas), (8, .hrtRxFlush),
      (9, .hrtRxColl)] →
    let ops := fun p : HrtPkt => p.op == op
    (∀ i x q, arrivesAt s ops i x q →
      (∀ u, (arrived s i x).request x x.pkt.destQpn = some u → exec c s = .next u.settleHands) ∧
      (s.hrtNext ops = [(i, x)] → (arrived s i x).request x x.pkt.destQpn = none → exec c s = .next s)) ∧
    (s.running = true → (∀ y ∈ s.hrtNext ops, y.2.pkt.destQpn < 65536 ∧ y.2.pkt.destQpn < s.qpsAvailable ∧
      s.cachedQp y.2.pkt.destQpn = false) → exec c s = .next s) ∧
    (∀ i x, s.running = true → firstTaken s ops i x →
      (65536 ≤ x.pkt.destQpn ∨ s.qpsAvailable ≤ x.pkt.destQpn → exec c s = .next ((s.popHrt i).count 0x5100 0x0D 1)) ∧
      (x.pkt.destQpn < s.qpsAvailable → x.pkt.destQpn < 65536 → s.cachedQp x.pkt.destQpn = true →
        (((s.popHrt i).touchQp x.pkt.destQpn).passSix x).1 = none → exec c s = .next (arrived s i x)))) ∧
  ((∀ (s : State) (x : HrtIn) (n : Nat), (s.qp n).attr.sa = 0 →
    let q := s.qp n
    let p := x.pkt
    let d := subMod (2 ^ 24) p.psn q.ePsn
    (d < 2 ^ 23 → 256 < d + max 1 p.psns → s.request x n = some (s.count 0x5100 8 1)) ∧
    (2 ^ 23 ≤ d → p.op = 1 ∨ p.op = 2 ∨ p.op = 9 → s.request x n = some ((s.count 0x5100 6 1).sendAck n 0 0 0)) ∧
    (d + max 1 p.psns ≤ 256 → d < 2 ^ 23 → State.taken q d p.psn = true → p.op ≠ 8 →
      s.request x n = some ((s.count 0x5100 6 1).sendAck n 0 0 0)) ∧
    (d + max 1 p.psns ≤ 256 → d < 2 ^ 23 → State.taken q d p.psn = false →
      (p.op = 1 → s.request x n = s.newSend n (q.ePsn + d) x p) ∧
      (p.op = 2 → s.request x n = s.newWrite n (q.ePsn + d) x p) ∧
      (p.op = 3 ∨ p.op = 5 ∨ p.op = 6 ∨ p.op = 8 → s.request x n = s.newOrdered n (q.ePsn + d) x p) ∧
      (p.op = 9 → s.request x n =
        some ((s.deliverHand (q.owner.getD 0) (HandPkt.parse p.payload true)).accept n (q.ePsn + d) 1 p.ackReq x.ce x.frame.ce)))) ∧
  (∀ (s : State) (n psn : Nat) (x : HrtIn) (p : HrtPkt),
    let q := s.qp n
    let d := q.owner.getD 0
    let len := p.payload.length
    let w := s.keyPieces p len true
    let r := s.sendPieces q p p.payload
    (s.keyCheck d p len = none → s.pegRefused d p = false → w.2.2 = none → w.2.1.stackHeld w.1 = false →
      s.newWrite n psn x p = some ((w.2.1.forgetKey n p w.1).placeNew n psn x p w.1)) ∧
    (∀ code, s.keyCheck d p len = some code → s.newWrite n psn x p = some (s.fatalNak n code psn)) ∧
    (r.1 = none → s.pegRefused d p = false → r.2.2.2 = none → r.2.2.1.stackHeld r.2.1 = false →
      s.newSend n psn x p = some ((r.2.2.1.forgetSlot n q p r.2.1).placeNew n psn x p r.2.1)) ∧
    (∀ code, r.1 = some code → s.newSend n psn x p = some (s.fatalNak n code psn)) ∧
    (∀ ps, s.unplaceable ps = true → s.placeNew n psn x p ps = (s.raiseSource 7).fatalNak n 0x23 psn)) ∧
  (∀ (s : State) (n : Nat), let t := (s.count 0x5100 6 1).sendAck n 0 0 0
    t.mem = s.mem ∧ t.cmp = s.cmp ∧ t.ring = s.ring))

/-- The key checks of R283 in their order: a packet passes them exactly when its key names a valid region of its generation that the drawer
owns or shares, the range lies inside it, an atomic is aligned, and the right is held; a misaligned atomic is the one failure that is not
NAK_ACCESS (R278, R280, R283). An atomic on eight bytes of device memory that can be read: ADD stores the sum modulo 2^64, CAS its swap
value where the comparison holds, and a CAS whose comparison fails stores nothing; ORIGINAL is what was there before. A store writes the
eight bytes of the target and no other byte of device memory (R284, R285). -/
def Obligations.RightsAndAtomics : Prop :=
  (∀ (s : State) (d n : Nat) (p : HrtPkt),
    let g := s.region (p.key / 256)
    let right := bit g.rights (if p.op = 2 then 1 else if p.op = 3 then 0 else if p.op = 8 then 3 else 2)
    let reach := p.key / 256 < 262144 ∧ g.valid = true ∧ p.key % 256 = g.generation ∧
      (g.owner = d ∨ s.sharedWith (p.key / 256) d = true) ∧ p.roff + n ≤ g.length
    let aligned := p.op = 5 ∨ p.op = 6 → (g.base + p.roff) % 8 = 0
    (s.keyCheck d p n = none ↔ reach ∧ aligned ∧ right = true) ∧ (s.keyCheck d p n = some 0x21 ↔ reach ∧ ¬ aligned) ∧
    (s.keyCheck d p n = none ∨ s.keyCheck d p n = some 0x20 ∨ s.keyCheck d p n = some 0x21)) ∧
  ((∀ (s : State) (n psn a : Nat) (p : HrtPkt),
    let r := s.keyPieces p 8 true
    let s0 := r.2.1.forgetKey n p r.1
    let v := ofLe (s0.mem.dev.readBytes a 8)
    r.1 = [.dev a 8] → r.2.2 = none → s0.stackHeld [.dev a 8] = false → s0.pieceBad (.dev a 8) = false → s0.pieceStale (.dev a 8) = false →
    (p.op = 5 → s.execAtomic n psn p =
      some (((s0.devWrite a (leBytes 8 ((v + p.operand) % 2 ^ 64))).race [.dev a 8]).atomicDone n psn p v)) ∧
    (p.op ≠ 5 → v = p.compare → s.execAtomic n psn p =
      some (((s0.devWrite a (leBytes 8 p.operand)).race [.dev a 8]).atomicDone n psn p v)) ∧
    (p.op ≠ 5 → v ≠ p.compare → s.execAtomic n psn p = some (s0.atomicDone n psn p v))) ∧
  (∀ (s : State) (a w : Nat), let t := (s.devWrite a (leBytes 8 w)).race [.dev a 8]
    (w < 2 ^ 64 → t.mem.dev.le a 8 = w) ∧ ∀ b, b < a ∨ a + 8 ≤ b → t.mem.dev.read b = s.mem.dev.read b))

/-- Acknowledgements and responses that verify: each row takes a packet of its own kind that is first for its pipeline, a response that no
request awaits is counted as a duplicate before its tag is looked at, one waits where its destination lies on a stack with a lost hub
interface, an ACK_STALE inside [una, next) of a QP in RTS ends the QP, and one that does not verify is counted and dropped; an ACK that
advances una clears the retry count and restores the timeout, and one that does not stops the timer of a QP that awaits nothing more, and
changes nothing else (R257, R259, R262, R268, R269, R296, R424). -/
def Obligations.AcknowledgementsAndResponses : Prop :=
  (∀ (s : State) (i : Nat) (x : HrtIn) (q : Qp),
    let n := x.pkt.destQpn
    let p := x.pkt
    let t := (arrived s i x).countSecure q.attr.sa 1
    (arrivesAt s (fun p => p.op == 4) i x q →
      (State.Qp.awaits q p = false → exec .hrtRxReadResp s = .next ((arrived s i x).count 0x5100 6 1).settleHands) ∧
      (State.Qp.awaits q p = true → State.openReply q p = true →
        (t.replyHeld n = false → exec .hrtRxReadResp s = .next (t.placeRead n p).settleHands) ∧
        (t.replyHeld n = true → s.hrtNext (fun p => p.op == 4) = [(i, x)] → exec .hrtRxReadResp s = .next s))) ∧
    (arrivesAt s (fun p => p.op == 7) i x q →
      (State.Qp.awaits q p = false → exec .hrtRxAtomicResp s = .next ((arrived s i x).count 0x5100 6 1).settleHands) ∧
      (State.Qp.awaits q p = true → State.openReply q p = true →
        (t.replyHeld n = false → exec .hrtRxAtomicResp s = .next (t.placeAtomic n p).settleHands) ∧
        (t.replyHeld n = true → s.hrtNext (fun p => p.op == 7) = [(i, x)] → exec .hrtRxAtomicResp s = .next s))) ∧
    (arrivesAt s (State.isAck (· == 0)) i x q → State.openReply q p = true →
      exec .hrtRxAck s = .next (((t.takeLimit n p).takeAck n p).settleQp n).settleHands) ∧
    (arrivesAt s (State.isAck (· == 1)) i x q → State.openReply q p = true → exec .hrtRxAckStale s =
      .next (if (t.qp n).state = .rts ∧ (State.outstanding (t.qp n) (beAt p.ack 1 3)).isSome = true then t.qpErrorAll n 4 else t).settleHands) ∧
    (arrivesAt s (State.isAck (· == 0x10)) i x q → State.openReply q p = true →
      exec .hrtRxNakPage s = .next (t.takeNakPage n p).settleHands) ∧
    (arrivesAt s (State.isAck (fun k => decide (0x20 ≤ k))) i x q → State.openReply q p = true →
      exec .hrtRxFatalNak s = .next (t.takeFatal n p).settleHands) ∧
    (∀ ops c, (ops, c) ∈ [((fun p => p.op == 4 : HrtPkt → Bool), Instr.hrtRxReadResp), (fun p => p.op == 7, .hrtRxAtomicResp),
        (State.isAck (· == 0), .hrtRxAck), (State.isAck (· == 1), .hrtRxAckStale), (State.isAck (· == 0x10), .hrtRxNakPage),
        (State.isAck (fun k => decide (0x20 ≤ k)), .hrtRxFatalNak)] →
      arrivesAt s ops i x q → (p.op = 4 ∨ p.op = 7 → State.Qp.awaits q p = true) → State.openReply q p = false → exec c s = .next (t.count 0x5800 4 1).settleHands)) ∧
  (∀ (s : State) (n a : Nat), (s.qp n).una < a → let q := s.qp n
    let r := (s.ackTo n a).qp n
    r.una = a ∧ r.retries = 0 ∧ r.timeout = q.attr.rtoBase ∧ (q.waitUntil.isSome = true → r.timerAt = q.timerAt) ∧
    (q.waitUntil = none → r.timerAt = none ∨ r.timerAt = some (s.now + q.attr.rtoBase * 1000000))) ∧
  (∀ (s : State) (n a : Nat), a ≤ (s.qp n).una → let q := s.qp n
    (q.waitUntil.isSome = true ∨ State.awaiting q = true → s.ackTo n a = s) ∧
    (q.waitUntil = none → State.awaiting q = false → s.ackTo n a = s.setQp n { q with timerAt := none }))

/-- A QP's turn to send: the packet of its best class leaves, the pointer moves past the QP, and a QP that has used all its synthetic nonces
enters ERROR, with the last of them or at its next turn; out of its turn, with nothing to offer, with its context not cached, or while its
pipeline's last packet of the class is still queued, it sends nothing. A context that is not cached is fetched into a cache of 4,096 and
counted (R250, R260, R276, R419). The other timers and held work of a QP: a delayed ACK leaves at its time; a NAK_PAGE wait ends in
retransmission; a stall past PAGE_WAIT_LIMIT ends the QP; the climb timer lowers the rung; a held request runs at ePSN; a FLUSH is
answered when its reads are done; an AtomicOp's successful completion places its result behind the port and answers ORIGINAL, and any
other ends the QP; that of an AtomicOp whose QP has left its state places the result alone. A timer that is not due changes nothing (R264,
R267, R286, R289, R294, R296, R300). -/
def Obligations.QueuePairsSendAndWait : Prop :=
  (∀ (s : State) (n : Nat), s.running = true →
    let q := s.qp n
    let t := s.touchQp n
    (s.cachedQp n = true →
      (∀ c port lane tc, t.offerOf q = some (c, port, lane, tc) → t.pipelineTurn n (c, port, lane, tc) = true →
        (t.sub (4 * port + lane)).queue tc (n % 8) = [] → t.synthSpent q = false →
        let k := ((4 * port + lane) * 8 + tc) * 8 + n % 8
        let t1 := { t with hrt := { t.hrt with pointer := t.hrt.pointer.setNum (k * 8 + c) (n + 1) } }
        exec (.hrtPacketTransmit n) s =
          .next ((if c ≤ 2 then t1.sendReply n c else if c = 3 then t1.sendRtx n else t1.sendNew n).endSpent n).settleHands) ∧
      (∀ o, t.offerOf q = some o → t.pipelineTurn n o = true → (t.sub (4 * o.2.1 + o.2.2.1)).queue o.2.2.2 (n % 8) = [] →
        t.synthSpent q = true → exec (.hrtPacketTransmit n) s = .next (t.endSpent n).settleHands) ∧
      (t.synthSpent (t.qp n) = true → (t.qp n).state ≠ .error → t.endSpent n = t.qpErrorAll n 0x0F) ∧
      (t.synthSpent (t.qp n) = false ∨ (t.qp n).state = .error → t.endSpent n = t) ∧
      (t.offerOf q = none → exec (.hrtPacketTransmit n) s = .next s) ∧
      (∀ o, t.offerOf q = some o → t.pipelineTurn n o = false ∨ (t.sub (4 * o.2.1 + o.2.2.1)).queue o.2.2.2 (n % 8) ≠ [] →
        exec (.hrtPacketTransmit n) s = .next s)) ∧
    (s.cachedQp n = false → exec (.hrtPacketTransmit n) s = .next s) ∧
    (s.cachedQp n = false → n < 65536 → answers (.contextFetch n) s fun u => u.cachedQp n = true ∧ u.hrt.qps = s.hrt.qps ∧
      u.hrt.cached.length ≤ 4096 ∧ u.ctr 0x5100 0x13 = satAdd 64 (s.ctr 0x5100 0x13) 1 ∧ u.mem = s.mem) ∧
    (s.cachedQp n = true → exec (.contextFetch n) s = .next s)) ∧
  (∀ (s : State) (n : Nat), s.running = true →
    let q := s.qp n
    (∀ t, q.ackAt = some t → t ≤ s.now → exec (.ackDelayExpiry n) s = .next (s.sendAck n 0 0 0)) ∧
    (∀ t, q.ackAt = some t → s.now < t → exec (.ackDelayExpiry n) s = .next s) ∧
    (∀ t, q.waitUntil = some t → q.state = .rts → t ≤ s.now → answers (.pageWaitEnd n) s fun u =>
      (u.qp n).waitUntil = none ∧ (u.qp n).rtx = State.dueAgain q q.waitFrom ∧
      (u.qp n).timerAt = some (s.now + (if q.retries = 0 then q.attr.rtoBase else q.timeout) * 1000000) ∧ u.mem = s.mem) ∧
    (∀ t, q.waitUntil = some t → s.now < t → exec (.pageWaitEnd n) s = .next s) ∧
    (∀ st, q.stall = some st → st.since + st.limit * 1000000000 ≤ s.now → State.nextReq q = none →
      exec (.pageWaitTimeout n) s = .next ((s.qpError n (fun _ => false) 7).count 0x5101 0x0A 1)) ∧
    (∀ st i r, q.stall = some st → st.since + st.limit * 1000000000 ≤ s.now → State.nextReq q = some (i, r) →
      exec (.pageWaitTimeout n) s =
        .next (((s.setReq n i { r with status := some 7 }).qpError n (fun _ => false) 7).count 0x5101 0x0A 1)) ∧
    (∀ st, q.stall = some st → s.now < st.since + st.limit * 1000000000 → exec (.pageWaitTimeout n) s = .next s) ∧
    (∀ t, q.climbAt = some t → t ≤ s.now → s.obj 0x2702 1 = 1 → answers (.climbTimer n) s fun u =>
      (u.qp n).clean = q.clean + 1 ∧ (u.qp n).rung = q.rung - (if s.obj 0x2702 7 < q.clean + 1 then 2 else 1) ∧
      (u.qp n).climbAt = (if (u.qp n).rung = 0 then none else some (t + s.obj 0x2702 6 * 1000000)) ∧ u.mem = s.mem) ∧
    (∀ t, q.climbAt = some t → s.now < t → exec (.climbTimer n) s = .next s) ∧
    (let s0 := s.advanceQp n
      let k := s0.qp n
      ∀ p, k.held.find? (fun h => h.psn == k.ePsn % 2 ^ 24) = some p → k.busy = none → (k.state = .rtr ∨ k.state = .rts) →
        exec (.heldRequestExecute n) s =
          .next (match (s0.setQp n { k with held := k.held.filter (·.psn != p.psn) }).execInOrder n k.ePsn p with
            | some u => u.settleHands
            | none => s0)) ∧
    (∀ p, q.busy = some (.flush p) → q.flushReads = [] → exec (.flushConditionMet n) s =
      .next (((s.setQp n { q with busy := none }).count 0x5101 5 1).accept n q.ePsn 1 p.ackReq p.ce p.marked)) ∧
    (∀ p, q.busy = some (.flush p) → q.flushReads ≠ [] → exec (.flushConditionMet n) s = .next s) ∧
    (∀ x v, s.hrt.strays.find? (·.qp == n) = some x →
      let u := { s with hrt := { s.hrt with strays := s.hrt.strays.erase x } }
      exec (.atomicopCompletion n true v) s = .next (u.atomicApplied x.fid x.port x.addr x.pkt (v % 2 ^ 64)) ∧
      exec (.atomicopCompletion n false v) s = .next u) ∧
    (∀ p port a v, (∀ x ∈ s.hrt.strays, x.qp ≠ n) → q.busy = some (.atomic p port a) → exec (.atomicopCompletion n true v) s =
      .next ((s.atomicApplied (q.owner.getD 0) port a p (v % 2 ^ 64)).atomicDone n q.ePsn p (v % 2 ^ 64))) ∧
    (∀ p port a v, (∀ x ∈ s.hrt.strays, x.qp ≠ n) → q.busy = some (.atomic p port a) → exec (.atomicopCompletion n false v) s =
      .next (s.fatalNak n (if v = 0 then 0x21 else 0x23) q.ePsn).settleHands))

/-- Each expiry of the retransmission timer under R270, whether or not it leads to R271, causes a loss cut: with congestion control enabled
and no climb due, r = min(63, r + STEP_LOSS), c = 0, the climb timer restarts and the HOLD_INTERVAL starts; the time of the last ECN event
is unchanged, and the pressure too but for R303's bound. Below the retry limit the timeout doubles up to 16 ms; at the limit the QP ends
with RETRY_EXHAUSTED. A timer that is not due changes nothing (R270, R271, R301, R302, R303). -/
def Obligations.EachTimerExpiryIsALossCut : Prop :=
  (∀ (s : State) (n t : Nat), s.running = true → (s.qp n).timerAt = some t →
    ((s.qp n).state = .rts → t ≤ s.now →
      exec (.retransmitTimeout n) s = .next ((((s.count 0x5100 4 1).lossCut n).rtoExpires n).settleHands)) ∧
    (s.now < t → exec (.retransmitTimeout n) s = .next s)) ∧
  (∀ (s : State) (n : Nat), s.obj 0x2702 1 = 1 → (∀ t, (s.qp n).climbAt = some t → s.now < t) →
    let q := s.qp n
    let r := (s.lossCut n).qp n
    r.rung = min 63 (q.rung + s.obj 0x2702 8) ∧ r.clean = 0 ∧ r.climbAt = some (s.now + s.obj 0x2702 6 * 1000000) ∧
    r.lastCut = some s.now ∧ r.pressure = min q.pressure (s.obj 0x2702 3 - s.obj 0x2702 2) ∧ r.lastEcn = q.lastEcn) ∧
  (∀ (s : State) (n : Nat),
    ((s.qp n).retries ≠ (s.qp n).attr.retryLimit →
      let q := s.qp n
      let r := (s.rtoExpires n).qp n
      r.retries = q.retries + 1 ∧ r.timeout = min (2 * q.timeout) 16000 ∧ r.timerAt = some (s.now + r.timeout * 1000000)) ∧
    ((s.qp n).retries = (s.qp n).attr.retryLimit → s.rtoExpires n = (s.count 0x5100 5 1).qpErrorAll n 5))

/-! Ethernet -/

/-- A whole frame that arrives on an UP data port is counted, classed and policed, takes its cells or is dropped, and is steered; one on M0
goes to the management controller; on a sub-port that is not UP nothing arrives. A PFC frame to the port or to a group address pauses each
class that it names and PFC_ENABLE admits, for its time, and a time of 0 ends a pause; a pause ends at its expiry; an XOFF is repeated
every 32,768 quanta while the class stays off (R311 to R314, R317, R322, R327). -/
def Obligations.FramesAreReceivedAndPausesKept : Prop :=
  ∀ (s : State) (port lane : Nat) (f : List Byte), s.running = true →
    let k := 4 * port + lane
    let v := s.sub k
    let c := State.ethCtr port
    let l := s.linkOf port f
    let s1 := (s.count c 1 1).count c 2 f.length
    let whole := v.link = .up ∧ port < 8 ∧ fcsOk f = true ∧ 64 ≤ f.length ∧ f.length ≤ s.maxFrame port
    let room := fun t : State => t.cellsHeldBy port + ceilDiv f.length 256 ≤ s.obj (0x2500 + 16 * port) 8
    (v.link ≠ .up → ∀ b, exec (.frameReceive port lane f b) s = .next s) ∧
    (whole → l.etype ≠ 0x8808 → s1.police port lane (s.classOf port f) f.length = none →
      exec (.frameReceive port lane f false) s = .next (s1.count c 0x0B 1)) ∧
    (∀ s2, whole → l.etype ≠ 0x8808 → s1.police port lane (s.classOf port f) f.length = some s2 →
      (¬ room s2 → exec (.frameReceive port lane f false) s = .next (s2.count c 0x0A 1)) ∧
      (room s2 → exec (.frameReceive port lane f false) s = .next (s2.steer port lane (s.classOf port f) 0 f))) ∧
    (v.link = .up → port = 8 → fcsOk f = true → 64 ≤ f.length → f.length ≤ s.maxFrame port →
      exec (.frameReceive port lane f false) s = .next (s1.steerM0 f)) ∧
    (whole → l.etype = 0x8808 → beAt f l.body 2 = 0x0101 →
      (room s1 → s.foreignDst port lane l = false → exec (.pfcReceive port lane f) s = .next (s1.pfcTake port lane l f)) ∧
      (room s1 → s.foreignDst port lane l = true →
        exec (.pfcReceive port lane f) s = .next (s1.clusterTake port lane (s.classOf port f) 0 f)) ∧
      (¬ room s1 → exec (.pfcReceive port lane f) s = .next (s1.count c 0x0A 1))) ∧
    (∀ t, t < 8 → ∀ u : State, (u.sub k).paused = v.paused → let w := u.pfcTake port lane l f
      bit (beAt f (l.body + 2) 2) t = false → (w.sub k).paused.num t = v.paused.num t) ∧
    (l.etype ≠ 0x8808 → exec (.pfcReceive port lane f) s = .next s) ∧
    (∀ t q, ((s.pauseClass port lane t q).sub k).paused.num t = (if q = 0 then 0 else s.now + s.bitTime port (512 * q))) ∧
    (∀ t, v.paused.num t ≤ s.now → answers (.pfcPauseExpiry port lane t) s fun u =>
      (u.sub k).paused.num t = 0 ∧ (∀ j, j ≠ k → u.sub j = s.sub j) ∧ { u with eth := s.eth } = s) ∧
    (∀ t, s.now < v.paused.num t → exec (.pfcPauseExpiry port lane t) s = .next s) ∧
    (∀ t, v.link = .up → bit v.off t = true → t < 8 → bit (s.obj (0x2501 + 16 * port) 6) t = true →
      v.xoffAt.num t + s.bitTime port (512 * 32768) ≤ s.now → answers (.pfcRepeat port lane t) s fun u =>
        (u.sub k).pfcDue = v.pfcDue ++ [s.pfcFrame port lane v.off 0xFFFF] ∧ (u.sub k).xoffAt.num t = s.now ∧ { u with eth := s.eth } = s) ∧
    (∀ t, v.link = .up → bit v.off t = true → t < 8 → bit (s.obj (0x2501 + 16 * port) 6) t = false →
      exec (.pfcRepeat port lane t) s = .next (s.setSub k { v with off := v.off - 2 ^ t })) ∧
    (∀ t, bit v.off t = false → exec (.pfcRepeat port lane t) s = .next s)

/-- Sending: nothing while the port is busy or not UP; a PFC frame first; then, with the frames that a lowered MAX_FRAME excludes discarded,
the highest class that has a frame, is not paused, has its gate open and its shaper's tokens, and ends before its gate closes; a frame
that its gate's close refuses is counted once for that close. Training ends in UP, which the network service announces; losing an UP link
discards its frames and starts training; LINK_ENABLE enables and disables (R308, R309, R315, R319, R321, R387). -/
def Obligations.SubportsSendAndChangeState : Prop :=
  ∀ (s : State) (port lane : Nat), s.running = true →
    let k := 4 * port + lane
    let v := s.sub k
    (v.link ≠ .up ∨ s.now < v.busyUntil → exec (.frameTransmit port lane) s = .next s) ∧
    (∀ p r, v.link = .up → v.busyUntil ≤ s.now → v.pfcDue = p :: r → answers (.frameTransmit port lane) s fun t =>
      t.out = s.out ++ [.frame port lane (withFcs p)] ∧ (t.sub k).pfcDue = r ∧ (t.sub k).queues = v.queues ∧ t.mem = s.mem) ∧
    (v.link = .up → v.busyUntil ≤ s.now → v.pfcDue = [] →
      exec (.frameTransmit port lane) s = .next ((s.dropLong port lane).transmitFrom port lane 8)) ∧
    ((∀ x ∈ v.queues.flatMap (·.2), max 60 x.bytes.length + 4 ≤ s.maxFrame port) → s.dropLong port lane = s) ∧
    (∀ n, s.txHead v n = none → s.transmitFrom port lane (n + 1) = s.transmitFrom port lane n) ∧
    (∀ n r f, s.txHead v n = some (r, f) → s.now < v.paused.num n ∨ bit (s.openGates port) n = false →
      s.transmitFrom port lane (n + 1) = s.transmitFrom port lane n) ∧
    (∀ n r f, s.txHead v n = some (r, f) → v.paused.num n ≤ s.now → bit (s.openGates port) n = true →
      (port = 8 ∨ s.shaperRate port n = 0 ∨ 0 ≤ s.shaperLevel port lane n) → s.fitsGate port n (withFcs f.bytes).length = none →
      s.transmitFrom port lane (n + 1) = s.startFrame port lane n r f) ∧
    (∀ n r f u, s.txHead v n = some (r, f) → v.paused.num n ≤ s.now → bit (s.openGates port) n = true →
      (port = 8 ∨ s.shaperRate port n = 0 ∨ 0 ≤ s.shaperLevel port lane n) → s.fitsGate port n (withFcs f.bytes).length = some u →
      (f.held = u + 1 → s.transmitFrom port lane (n + 1) = s.transmitFrom port lane n) ∧
      (f.held ≠ u + 1 → let w := { v with queues := Sparse.set (fun _ => []) v.queues (16 * n + r) ({ f with held := u + 1 } :: (v.queue n r).drop 1) }
        s.transmitFrom port lane (n + 1) = ((s.setSub k w).count (State.ethCtr port) 0x10 1).transmitFrom port lane n)) ∧
    (port < 8 → v.link = .training → s.subportRuns port lane = true →
      let s1 := (s.setSub k { v with link := .up, busyUntil := s.now }).subEvent 2 port lane
      exec (.subportUp port lane) s = .next ((if bit (s1.obj 0x2C00 3) 0 then s1.announce port lane else s1).pfcTick port)) ∧
    (port = 8 → v.link = .training → s.subportRuns port lane = true →
      exec (.subportUp port lane) s =
        .next (((s.setSub k { v with link := .up, busyUntil := s.now }).subEvent 2 port lane).announce port lane)) ∧
    (v.link ≠ .training → exec (.subportUp port lane) s = .next s) ∧
    (v.link = .up → exec (.subportDown port lane) s =
      .next ((((s.leaveUp port lane .training).subEvent 1 port lane).count (State.ethCtr port) 0x13 1).raiseSource 11)) ∧
    (v.link ≠ .up → exec (.subportDown port lane) s = .next s) ∧
    (v.queues = [] → ∀ n, let w := (s.leaveUp port lane n).sub k
      w.link = n ∧ w.paused = [] ∧ w.off = 0 ∧ w.pfcDue = []) ∧
    (v.link = .up → v.degraded ≠ s.now / 1000000000000 + 1 →
      let w := s.now / 1000000000000
      let s1 := if port = 8 then s else s.countSince (State.ethCtr port) 0x11 (s.obj (0x2500 + 16 * port) 0x0A) (w * 1000000000000)
      exec (.subportDegraded port lane) s = .next ((s1.setSub k { v with degraded := w + 1 }).subEvent 3 port lane)) ∧
    (v.link = .up → v.degraded = s.now / 1000000000000 + 1 → exec (.subportDegraded port lane) s = .next s) ∧
    (∀ x, x ≤ 1 → port ≤ 8 → 0 < s.level → exec (.ethLinkEnableWrite port x) s = .next (s.ethEnable port x)) ∧
    (∀ x, 1 < x → exec (.ethLinkEnableWrite port x) s = .next s)

/-- Gates: each entry's change puts its mask in force, and a port without gates has all of them open; CONFIG_CHANGE with a list that passes
its checks sets the change time to the first base time, or a whole number of cycles after it, that is no sooner than 1 ms ahead; at that
time the administrative list becomes the operating one; a list that does not pass, or a change whose time has not come, changes nothing
(R318, R320). -/
def Obligations.GateListsChangeAtTheirTime : Prop :=
  ∀ (s : State) (port lane : Nat), s.running = true →
    let k := 4 * port + lane
    let r := 0x2610 + port
    (answers (.gateEntryChange port lane) s fun t => t.sub k = { s.sub k with gates := s.openGates port } ∧
      (∀ j, j ≠ k → t.sub j = s.sub j) ∧ { t with eth := { t.eth with subs := s.eth.subs } } = s) ∧
    (s.eth.gateOn.num port = 0 → s.openGates port = 255) ∧
    (0 < s.level → s.gateOk port = true → 0 < s.obj r 3 → answers (.configChange port lane) s fun t =>
      t.obj r 7 = 1 ∧ s.deviceTime + 1000000 ≤ t.obj r 8 ∧ s.obj r 2 ≤ t.obj r 8 ∧ (s.obj r 3 * 10 ∣ t.obj r 8 - s.obj r 2) ∧
      (t.obj r 8 = s.obj r 2 ∨ t.obj r 8 < s.deviceTime + 1000000 + s.obj r 3 * 10) ∧
      (∀ sub, sub ≤ 6 → t.obj r sub = s.obj r sub) ∧ { t with led := { t.led with vals := s.led.vals } } = s) ∧
    (s.gateOk port = false → exec (.configChange port lane) s = .next s) ∧
    (s.obj r 7 ≠ 0 → s.obj r 8 ≤ s.deviceTime → answers (.gateConfigApply port lane) s fun t =>
      t.obj r 9 = s.obj r 2 ∧ t.obj r 0x0A = s.obj r 3 ∧ t.obj r 0x0B = s.obj r 4 ∧ t.blob r 0x0C = s.blob r 5 ∧ t.obj r 7 = 0 ∧
      t.eth.gateOn.num port = s.obj r 1 ∧ t.mem = s.mem ∧ t.out = s.out) ∧
    (s.obj r 7 = 0 ∨ s.deviceTime < s.obj r 8 → exec (.gateConfigApply port lane) s = .next s)

/-! Infrastructure cluster -/

/-- Raw queues: ENABLE starts a queue whose settings pass R397's checks at descriptor 0 and frame 0, and is refused otherwise; a queue that is
disabled closes behind what it must still complete, and one with nothing posted at once; what waits for a page goes on before anything
new; a malformed descriptor completes with BAD_ENTRY, one for a sub-port that is not UP with FLUSHED, one with another source address with
NOT_PERMITTED unless SPOOF allows it, and a good one is offered to its sub-port; a received frame goes to its slot with its record, or is
dropped where no slot is free or its slot is too small (R397 to R399). -/
def Obligations.RawQueuesSendAndReceive : Prop :=
  ∀ (s : State) (q : Nat), s.running = true →
    let o := State.rawObj q
    (0 < s.level → s.rawMayEnable q = true → answers (.rawQueueEnable q) s fun t =>
      t.raw q = some ⟨0, 0, [], [], [], 0, false⟩ ∧ t.obj o 1 = 1) ∧
    (s.rawMayEnable q = false → exec (.rawQueueEnable q) s = .next s) ∧
    (0 < s.level → s.raw q = none → exec (.rawQueueDisable q) s = .next (s.setObj o 1 0 0)) ∧
    (∀ r, 0 < s.level → s.raw q = some r → r.closing = true → exec (.rawQueueDisable q) s = .next s) ∧
    (∀ r, 0 < s.level → s.raw q = some r → r.closing = false →
      exec (.rawQueueDisable q) s =
        .next (((r.offered.foldl (fun u x => u.rawDone q x.1 0x0D 0 x.2) (s.rawUnqueue q)).rawFlush q true).pfcTick (s.rawPort q)) ∧
      (r.offered = [] → r.held = [] → s.rawPosted q r.txNext = 0 →
        answers (.rawQueueDisable q) s fun t => t.raw q = none ∧ t.obj o 1 = 0)) ∧
    (∀ r, s.raw q = some r → r.waits = true → exec (.rawTxDescriptor q) s = .next (s.rawGoOn q) ∧
      (s.rawServed q = true → exec (.rawRxFrame q) s = .next (s.rawGoOn q))) ∧
    (∀ r, s.raw q = some r → r.waits = false → (s.rawServed q = false ∨ s.rawPosted q r.txNext = 0) → exec (.rawTxDescriptor q) s = .next s) ∧
    (∀ r ps d, s.raw q = some r → r.waits = false → s.rawServed q = true → s.rawPosted q r.txNext ≠ 0 →
      let a := s.rawRange q (s.obj o 5 + 32 * (r.txNext % 2 ^ s.obj o 6)) 32 false
      let s2 := (a.2.readPieces ps).2
      a.1 = .ok ps → a.2.piecesReady ps = true → (a.2.readPieces ps).1 = some d → s2.raw q = some r →
      let i := r.txNext
      let cookie := leAt d 0x18 4
      let next : RawQueue := { r with txNext := (i + 1) % 2 ^ 32 }
      (s2.rawBad q i d = true → exec (.rawTxDescriptor q) s = .next ((s2.setRaw q (some next)).rawDone q i 0x0E 0 cookie)) ∧
      (s2.rawBad q i d = false → ∀ fs f,
        let b := s2.rawRange q (leAt d 0 8) (leAt d 8 2) false
        let s4 := (b.2.readPieces fs).2
        b.1 = .ok fs → b.2.piecesReady fs = true → (b.2.readPieces fs).1 = some f → s4.raw q = some r →
        let honest := s4.obj o 0x0C ≠ 0 ∨ slice f 6 6 = s4.portMac (s4.rawPort q) (s4.rawLane q)
        (¬ honest → exec (.rawTxDescriptor q) s = .next ((s4.setRaw q (some next)).rawDone q i 0x12 0 cookie)) ∧
        (honest → leAt d 0x0A 1 % 8 / 2 = 0 → (s4.sub (4 * s4.rawPort q + s4.rawLane q)).link ≠ .up → exec (.rawTxDescriptor q) s =
          .next (((s4.count (State.ethCtr (s4.rawPort q)) 0x0F 1).setRaw q (some next)).rawDone q i 0x0D 0 cookie)) ∧
        (honest → leAt d 0x0A 1 % 8 / 2 = 0 → (s4.sub (4 * s4.rawPort q + s4.rawLane q)).link = .up →
          let s5 := s4.setRaw q (some { next with offered := r.offered ++ [(i, cookie)] })
          exec (.rawTxDescriptor q) s = .next (s5.offerFrame (s4.rawPort q) (s4.rawLane q) (s5.classOf (s4.rawPort q) f) 8
            ⟨f, .raw q i, bit (leAt d 0x0A 1) 0, false, 0⟩)))) ∧
    (∀ r f rest, s.raw q = some r → r.waits = false → s.rawServed q = true → r.inbox = f :: rest →
      let n := r.rxNext
      let slots := 2 ^ s.obj o 8
      let u := s.setRaw q (some { r with inbox := rest })
      (slots ≤ subMod (2 ^ 32) n (s.hubPeg (s.rawPeg q 3)) ∨ s.obj o 9 < f.bytes.length →
        exec (.rawRxFrame q) s = .next ((u.count 0x5700 0x0A 1).pfcTick f.port)) ∧
      (subMod (2 ^ 32) n (s.hubPeg (s.rawPeg q 3)) < slots → f.bytes.length ≤ s.obj o 9 → f.flags = 0 →
        let a := s.rawRange q (s.obj o 7 + 32 * slots + s.obj o 9 * (n % slots)) f.bytes.length true
        a.1 ≠ .wait →
        let s2 := a.2.setRaw q (some { r with inbox := rest, rxNext := (n + 1) % 2 ^ 32 })
        let s3 := s2.rawWrite q (s.obj o 7 + 32 * slots + s.obj o 9 * (n % slots)) f.bytes none
        let record := [0, BitVec.ofNat 8 f.tc] ++ leBytes 2 f.bytes.length ++ leBytes 4 n ++ leBytes 8 f.stamp ++
          [BitVec.ofNat 8 f.lane] ++ List.replicate 15 0
        exec (.rawRxFrame q) s =
          .next (((s3.rawWrite q (s.obj o 7 + 32 * (n % slots)) record (some (s.rawPeg q 2))).count 0x5700 9 1).pfcTick f.port)))

/-- An NVME_IO of another drawer's connection is not permitted; on a connection that is not READY it ends with LINK_LOST; otherwise it takes
its place at the service, with its key where XTS is set, and issues what it may, at most 8 commands, each a capsule of its own; a
namespace of another block size, a transfer past 2^30 bytes or a slot that holds no XTS key is not permitted (R393). -/
def Obligations.NvmeEntriesIssueTheirCommands : Prop :=
  ∀ (s : State) (f i op : Nat) (c : Instr) (e : Entry),
    (op, c) ∈ [(0, Instr.nvmeFlush f i), (1, .nvmeWrite f i), (2, .nvmeRead f i)] → ready s f i e 0x48 → e.u8 0x0A = op →
    let n := e.u16 8
    let v := s.conn n
    let size := Config.nvmeBlock n v.session (e.u32 0x0C)
    let blocks := if op = 0 then 1 else e.u16 0x18 + 1
    let bytes := if op = 0 then 0 else blocks * size
    (s.obj (State.connObj n) 1 ≠ 128 + f → exec c s = .next (s.complete f e 0x12 (leBytes 2 n))) ∧
    (s.obj (State.connObj n) 1 = 128 + f → (e.sig = true → s.ownsPeg f e.sigPeg = true) → s.connState n ≠ 2 →
      exec c s = .next (s.complete f e 9 (leBytes 2 n))) ∧
    (∀ b, s.obj (State.connObj n) 1 = 128 + f → (e.sig = true → s.ownsPeg f e.sigPeg = true) → s.connState n = 2 → s.connServed n = true →
      e.buf 0x1C = some b →
      let k := e.u16 0x1A
      let xts := bit (e.u8 0x0B) 0
      let s1 := if v.spaces.any (·.1 == e.u32 0x0C) = true then s else
        (s.setConn n { v with spaces := v.spaces ++ [(e.u32 0x0C, size)], nextCid := (v.nextCid + 1) % 65536 }).emit
          (.nvme n (capsule (s.digests n) 0x06 v.nextCid (e.u32 0x0C) 4096 []))
      let key := if xts then s1.takeKey f k else (some [], s1)
      exec c s = .next (
        if (size ≠ 512 ∧ size ≠ 4096) ∨ 2 ^ 30 < bytes ∨
          (xts = true ∧ (s.obj 0x2300 9 f ≤ k ∨ (s.keySlot f k).state = 0 ∨ (s.keySlot f k).type ≠ 3)) then s1.complete f e 0x12 (leBytes 2 n)
        else match key.2.resolveBuf f b bytes (op == 2) false with
          | (.wait, s2) => s.moveWait f e s2
          | (.fail st, s2) => s2.complete f e st (leBytes 2 n)
          | (.ok ps, s2) =>
            let io : NvmeIo :=
              { fid := f, idx := e.idx, conn := n, op := op, fua := bit (e.u8 0x0B) 1, nsid := e.u32 0x0C, slba := e.u64 0x10, block := size,
                blocks := blocks, issued := 0, commands := 0, xts := xts, key := key.1.getD [], keyBad := key.1.isNone, pieces := ps, mixed := [],
                windows := (match b with
                  | .dva a => s2.touching f a bytes
                  | .region r off => if (s2.region r).kind = .dva then s2.touching f ((s2.region r).base + off) bytes else []
                  | .none => []), cmds := [], status := 0, nvmeStatus := 0, failLba := 0 }
            ((s2.busy f e).joinIo io).pumpIo f e.idx 8)) ∧
    (∀ (u : State) (x : NvmeIo), 8 ≤ x.cmds.length → u.findIo f i = some x → u.pumpIo f i 8 = u) ∧
    (∀ (u : State) (x : NvmeIo), x.op ≠ 0 → let k := min (x.blocks - x.issued) (min 65536 (Config.nvmeMdts x.conn (u.conn x.conn).session + 1))
      (u.issueOne x).out = u.out ++ [.nvme x.conn (capsule (u.digests x.conn) x.op (u.conn x.conn).nextCid x.nsid (k * x.block)
        (leBytes 8 (x.slba + x.issued) ++ leBytes 4 (k - 1 + (if x.fua then 2 ^ 30 else 0))))] ∧ (u.issueOne x).mem = u.mem)

/-- The states of a storage connection: CONNECT leaves IDLE for CONNECTING, set-up ends in READY, and a failed one, a loss or a late command
in DOWN with its reason, from which RECONNECT_DELAY begins again; a READY one sends Keep Alive every 30 s; each command of the row in
another state changes nothing (R389, R391). The bytes of the set-up PDUs are the model's, log 75. PDUs of a READY connection: a failed
digest takes it DOWN; C2HData places its bytes at the buffer's offset; an R2T is answered with H2CData of the buffer's bytes; a completion
takes the command off its entry, keeps the first failure, and lets the next commands go; one whose key failed to unwrap ends with
CIPHER_AUTH_FAIL (R391, R393, R394, R414). -/
def Obligations.StorageConnectionsAndPdus : Prop :=
  (∀ (s : State) (c : Nat), s.running = true →
    let o := State.connObj c
    let st := s.connState c
    let v := s.conn c
    (0 < s.level → st = 0 → 128 ≤ s.obj o 1 → bit (s.obj 0x2C00 3) 2 = true → answers (.nvmeConnect c) s fun t =>
      t.connState c = 1 ∧ (t.conn c).since = s.now ∧ (t.conn c).session = v.session + 1 ∧ (t.conn c).nextCid = 0 ∧ t.mem = s.mem ∧
        ∃ before, t.out = before ++ [.nvme c (icReq (s.digests c))]) ∧
    (st ≠ 0 → exec (.nvmeConnect c) s = .next s) ∧
    (0 < s.level → st ≠ 0 → exec (.nvmeDisconnect c) s = .next (s.leaveConn c 0 0 none)) ∧
    (st = 0 → exec (.nvmeDisconnect c) s = .next s) ∧
    (st = 1 → s.connServed c = true → (s.sub (4 * (s.obj o 4 / 16 % 8) + s.obj o 4 % 4)).link = .up →
      answers (.nvmeConnectDone c) s fun t => t.connState c = 2 ∧ (t.conn c).keepAt = s.now ∧ t.mem = s.mem ∧
        t.out = s.out ++ [connectCapsule (s.digests c) 0 32 (s.blob o 9) (s.blob o 0x0A), capsule (s.digests c) 0x06 1 0 4096 [1],
          capsule (s.digests c) 0x09 2 0 0 [7, 0, 0, 0, 0, 0, 0, 0], icReq (s.digests c),
          connectCapsule (s.digests c) 1 (s.obj o 0x0C) (s.blob o 9) (s.blob o 0x0A)].map (Output.nvme c)) ∧
    (st ≠ 1 → exec (.nvmeConnectDone c) s = .next s) ∧
    (∀ b, st = 1 → exec (.nvmeConnectTimeout c b) s = .next (s.leaveConn c 3 (if b then 0x12 else 9) none)) ∧
    (st = 2 → exec (.nvmeConnectionLoss c) s = .next (s.leaveConn c 3 9 none)) ∧
    (st ≠ 2 → exec (.nvmeConnectionLoss c) s = .next s) ∧
    (∀ x ∈ s.clu.ios, ∀ m ∈ x.cmds, x.conn = c → st = 2 → m.sentAt + s.obj o 0x0D * 1000000000 ≤ s.now →
      exec (.nvmeIoTimeout c) s = .next (s.leaveConn c 3 9 none)) ∧
    (s.clu.ios = [] → exec (.nvmeIoTimeout c) s = .next s) ∧
    (st = 3 → bit (s.obj 0x2C00 3) 2 = true → v.since + s.obj o 0x0E * 1000000000 ≤ s.now →
      exec (.nvmeReconnectDelay c) s = .next ((s.beginConn c).count 0x5700 7 1)) ∧
    (s.now < v.since + s.obj o 0x0E * 1000000000 → exec (.nvmeReconnectDelay c) s = .next s) ∧
    (st = 2 → v.keepAt + 30000000000000 ≤ s.now → answers (.nvmeKeepAlive c) s fun t =>
      t.out = s.out ++ [.nvme c (capsule (s.digests c) 0x18 v.nextCid 0 0 [])] ∧ (t.conn c).keepAt = s.now) ∧
    (s.now < v.keepAt + 30000000000000 → exec (.nvmeKeepAlive c) s = .next s) ∧
    ((∀ x ∈ s.clu.ios, x.conn ≠ c) → ∀ e, (s.leaveConn c 3 e none).connState c = 3 ∧ (s.leaveConn c 3 e none).obj o 0x0F = e ∧
      (s.leaveConn c 3 e none).clu.ios = s.clu.ios)) ∧
  (∀ (s : State) (c : Nat) (p : List Byte) (i : NvmeIo) (m : NvmeCmd), s.running = true → s.connState c = 2 →
    let bad := some (i.fid, i.idx, m.slba)
    let off := leAt p 0x0C 4
    let n := leAt p 0x10 4
    let data := pduData (s.digests c) p
    (beAt p 0 1 = 7 → s.findCmd c (leAt p 8 2) = some (i, m) → digestOf (s.digests c) p = .badData →
      exec (.nvmeC2hData c p) s = .next ((s.count 0x5700 5 1).leaveConn c 3 0x0B bad)) ∧
    (beAt p 0 1 = 5 → s.findCmd c (leAt p 0x14 2) = some (i, m) → digestOf (s.digests c) p = .badHeader →
      exec (.nvmeCapsuleResp c p) s = .next (((s.emit (.nvme c (termReq p))).count 0x5700 4 1).leaveConn c 3 0x0B bad)) ∧
    (digestOf (s.digests c) p = .good →
      (beAt p 0 1 = 7 → s.findCmd c (leAt p 8 2) = some (i, m) → i.op = 2 → off + data.length ≤ m.blocks * i.block → i.xts = false →
        s.stackHeld i.pieces = false →
        exec (.nvmeC2hData c p) s =
          .next ((s.setIo (State.NvmeIo.setCmd i { m with got := max m.got (off + data.length) })).placeNvme i (m.off + off) m.slba data)) ∧
      (beAt p 0 1 = 9 → s.findCmd c (leAt p 8 2) = some (i, m) → i.op = 1 → off + n ≤ m.blocks * i.block → i.keyBad = false → i.xts = false →
        ∀ bs t1, s.piecesReady (State.subPieces i.pieces (m.off + off) n) = true →
        s.readPieces (State.subPieces i.pieces (m.off + off) n) = (some bs, t1) →
        exec (.nvmeR2t c p) s = .next ((t1.emit (.nvme c (nvmePdu (t1.digests c) 0x06 4
          (leBytes 2 m.cid ++ slice p 0x0A 2 ++ leBytes 4 off ++ leBytes 4 n ++ [0, 0, 0, 0]) (bs.take n)))).count 0x5700 3 n)) ∧
      (beAt p 0 1 = 5 → s.findCmd c (leAt p 0x14 2) = some (i, m) → i.keyBad = false →
        let st := leAt p 0x16 2 / 2 % 2048
        let i1 := { i with cmds := i.cmds.filter (·.cid != m.cid) }
        let i2 := { i1 with status := if i.status = 0 then 4 else i.status, nvmeStatus := if i.nvmeStatus = 0 then st else i.nvmeStatus,
                            failLba := if i.status = 0 then m.slba else i.failLba }
        (st = 0 → exec (.nvmeCapsuleResp c p) s = .next (((s.setIo i1).finishIo i1).pumpConn c)) ∧
        (st ≠ 0 → exec (.nvmeCapsuleResp c p) s = .next ((((s.count 0x5700 6 1).setIo i2).finishIo i2).pumpConn c))) ∧
      (beAt p 0 1 = 5 → s.findCmd c (leAt p 0x14 2) = some (i, m) → i.keyBad = true → leAt p 0x16 2 / 2 % 2048 = 0 →
        let i1 := State.NvmeIo.fails { i with cmds := i.cmds.filter (·.cid != m.cid) } 0x0F m.slba
        exec (.nvmeCapsuleResp c p) s = .next (((s.setIo i1).finishIo i1).pumpConn c)) ∧
      (s.findCmd c (leAt p 8 2) = none → exec (.nvmeC2hData c p) s = .next s ∧ exec (.nvmeR2t c p) s = .next s)))

/-- A stream that is enabled starts at record 0; a record falls due a PERIOD after the last and consumes its number. The end of the cluster's
watchdog stops every service and raises its source. TIME_STEP waits for the next tick, or is refused while the time service steers;
PPS_OUT pulses for 10 ms; PPS_IN captures the time less 20 ns (R386, R401 to R403, R462, R488, R489). -/
def Obligations.TelemetryClusterAndTime : Prop :=
  ∀ s : State, s.running = true →
    (∀ k, k < 8 → 0 < s.level → exec (.telemetryEnable k) s = .next ((s.putObj (State.streamObj k) 1 0 1).streamEnable k 1)) ∧
    (∀ k, let t := s.streamNext k (s.clu.due.num k - 1)
      t.obj (State.streamObj k) 11 = (s.obj (State.streamObj k) 11 + 1) % 2 ^ 32 ∧
      t.clu.due.num k = s.clu.due.num k - 1 + s.obj (State.streamObj k) 2 * 1000000000 + 1) ∧
    (∀ k, (s.clu.due.num k = 0 ∨ s.now + 1 < s.clu.due.num k) → exec (.telemetryRecord k) s = .next s) ∧
    (∀ k, k < 8 → s.clu.due.num k ≠ 0 → s.clu.due.num k ≤ s.now + 1 → s.telemetryRuns = true →
      s.now + 1 - s.clu.due.num k < s.obj (State.streamObj k) 2 * 1000000000 → s.obj (State.streamObj k) 3 = 0 →
      exec (.telemetryRecord k) s = .next ((s.streamUdp k).streamNext k (s.clu.due.num k - 1))) ∧
    (s.obj 0x2C00 1 = 1 → s.clu.ios = [] → (∀ c, c < 64 → s.connState c ≠ 1 ∧ s.connState c ≠ 2) → (∀ q, q < 32 → s.raw q = none) →
      answers .clusterWatchdogExpiry s fun t =>
        t.obj 0x2C00 1 = 2 ∧ t.obj 0x2C00 3 = 0 ∧ t.clu = s.clu ∧ ((s.line 13) = FaultLine.down → (t.line 13).up = true)) ∧
    (s.obj 0x2C00 1 ≠ 1 → exec .clusterWatchdogExpiry s = .next s) ∧
    (∀ v, 0 < s.level → s.timeServiceRuns = false → 0 ≤ (s.deviceTime : Int) + (s.pw.stepDue.getD 0 + signed 64 v) →
      exec (.timeStep v) s = .next { s with pw := { s.pw with stepDue := some (s.pw.stepDue.getD 0 + signed 64 v) } }) ∧
    (∀ v, s.timeServiceRuns = true → exec (.timeStep v) s = .next s) ∧
    (s.pw.ppsDue = true → answers .ppsOutPulse s fun t => t.ppsOutHigh = true ∧ t.pw.ppsOutUntil = some (s.now + 10000000000) ∧
      t.pw.ppsDue = false) ∧
    (s.pw.ppsDue = false → exec .ppsOutPulse s = .next s) ∧
    (s.obj 0x2600 5 = 1 → s.pw.ppsInAt = none → answers .ppsInEdge s fun t =>
      t.obj 0x2600 6 = s.deviceTime - 20 ∧ t.pw.ppsInAt = some s.now ∧ t.out = s.out) ∧
    (∀ u, s.pw.ppsInAt = some u → s.now < u + 100000000000 → exec .ppsInEdge s = .next s)

/-! Keys, the ledger and Jorol -/

/-- KEY_WRITE of a well-formed blob into a slot of a drawer that holds a KEK leaves the slot LOADED with the wrapped key, and KEY_CLEAR leaves
it EMPTY; neither touches another slot, nor a slot of a bound association. KEK_LOAD empties every slot of the drawer first, and leaves the
KEK that the blob unwraps to, or none; a failed unwrap is counted. SVN_COMMIT raises the fuses, and no further than the running image's
version. SECRET_LOAD sets the secret and closes the credential's sessions (R411 to R413, R418, R427, R441, R443). -/
def Obligations.KeysAreLoadedAndCleared : Prop :=
  ∀ (s : State) (d : Nat), s.running = true → 0 < s.level → d < 128 →
    (∀ b, State.keyBlobOk b = true → leAt b 0 2 < s.obj 0x2300 9 d → s.obj 0x2B01 2 d = 1 → s.slotBound d (leAt b 0 2) = false →
      answers (.keyWrite d b) s fun t => t.keySlot d (leAt b 0 2) = ⟨leAt b 4 1, slice b 20 (leAt b 5 1), 1, slice b 12 8⟩ ∧
        (∀ x k, 4096 * x + k ≠ 4096 * d + leAt b 0 2 → t.keySlot x k = s.keySlot x k) ∧ (4096 * d + leAt b 0 2) ∉ t.cipher.cache ∧
        { t with cipher := s.cipher } = s) ∧
    (∀ b, (State.keyBlobOk b = false ∨ s.obj 0x2B01 2 d ≠ 1 ∨ s.slotBound d (leAt b 0 2) = true) → exec (.keyWrite d b) s = .next s) ∧
    (∀ k, k < s.obj 0x2300 9 d → s.slotBound d k = false → answers (.keyClear d k) s fun t =>
      t.keySlot d k = KeySlot.empty ∧ (∀ x j, 4096 * x + j ≠ 4096 * d + k → t.keySlot x j = s.keySlot x j) ∧
      { t with cipher := s.cipher } = s) ∧
    (∀ k, s.slotBound d k = true → exec (.keyClear d k) s = .next s) ∧
    (∀ b, b.length = 137 → P384.decode (b.take 97) = none → answers (.kekLoad d b) s fun t =>
      t.obj 0x2B01 2 d = 2 ∧ t.ctr 0x5800 5 = satAdd 64 (s.ctr 0x5800 5) 0 ∧ Sparse.get (fun _ => []) t.cipher.keks d = [] ∧
      (∀ k, k < 4096 → t.keySlot d k = KeySlot.empty) ∧ t.mem = s.mem) ∧
    (∀ b q, b.length = 137 → P384.decode (b.take 97) = some q → answers (.kekLoad d b) s fun t =>
      (match Aes.unwrapKey ((sha384 (labelKek ++ P384.ecdh (P384.privKey s.cipher.exchange) q ++ s.blob 0x2B00 2 ++ b.take 97 ++
          [BitVec.ofNat 8 d])).take 32) (b.drop 97) 32 with
        | some kek => t.obj 0x2B01 2 d = 1 ∧ Sparse.get (fun _ => []) t.cipher.keks d = kek ∧
            t.blob 0x2B01 3 d = (sha384 (labelKid ++ kek)).take 8
        | none => t.obj 0x2B01 2 d = 2 ∧ Sparse.get (fun _ => []) t.cipher.keks d = [] ∧
            t.ctr 0x5800 5 = satAdd 64 (s.ctr 0x5800 5) 1) ∧
      (∀ k, k < 4096 → t.keySlot d k = KeySlot.empty) ∧ t.mem = s.mem) ∧
    (∀ v, s.cipher.fusedSvn < v → v ≤ s.obj 0x2B08 6 → answers (.svnCommit v) s fun t => t.cipher.fusedSvn = v ∧ t.obj 0x2B08 8 = 2) ∧
    (∀ v, v ≤ s.cipher.fusedSvn ∨ s.obj 0x2B08 6 < v → exec (.svnCommit v) s = .next s) ∧
    (∀ c b, c < 32 → b.length = 40 → b.drop 32 = List.replicate 8 0 →
      exec (.secretLoad c b) s = .next ((s.setSecret c (some (b.take 32))).closeCredential c)) ∧
    (∀ c b, b.drop 32 ≠ List.replicate 8 0 → exec (.secretLoad c b) s = .next s)

/-- A request of a session: with a wrong tag it is discarded and counted; with the sequence number of the last it is answered again from the
copy kept, and nothing is done; with an older one it is counted and dropped; with a newer one it is handled, and its sealed answer is sent
and kept. On slot 0 it stands in the PF0 mailbox. Each row takes its own TYPE (R438, R442, R444, R445). -/
def Obligations.RequestsAreTakenInSequence : Prop :=
  ∀ (s : State) (n type : Nat) (b : List Byte) (c : Instr) (m : Msg),
    (type, c) ∈ [(1, Instr.ledgerRead n b), (2, .ledgerWrite n b), (3, .domainRead n b), (4, .domainBegin n b), (5, .domainSegment n b),
      (6, .domainEnd n b), (7, .domainAbort n b), (0x10, .heartbeat n b), (0x11, .subscribe n b), (0x13, .notifyAck n b), (0x22, .close n b)] →
    s.running = true → Msg.parse (n != 0) b = some m →
    (m.type = type → n = 0 → exec c s = .next (s.mailboxRun m.seq b)) ∧
    (m.type = type → 1 ≤ n → n ≤ 16 → s.checkTag n m = none → exec c s = .next (s.count 0x5900 2 1)) ∧
    (m.type ≠ type → requestType m.type = true → exec c s = .next s) ∧
    (∀ ss key, m.type = type → 1 ≤ n → n ≤ 16 → s.checkTag n m = some (ss, key) →
      let used := s.setSession n (some { ss with lastUse := s.now })
      let r := used.handle (s.requesterOf ss) n 1396 m
      let d := subMod (2 ^ 32) m.seq ss.lastSeq
      (type ≠ 0x13 → d = 0 → ss.cached ≠ [] → exec c s = .next (used.emit (.jorol ss.cached))) ∧
      (type ≠ 0x13 → 2 ^ 31 ≤ d → exec c s = .next (s.count 0x5900 4 1)) ∧
      (type ≠ 0x13 → 0 < d → d < 2 ^ 31 → r.2.session n = none → exec c s = .next (r.2.emit (.jorol (State.sealed key r.1)))) ∧
      (∀ s2, type ≠ 0x13 → 0 < d → d < 2 ^ 31 → r.2.session n = some s2 → s2.id = ss.id → exec c s =
        .next ((r.2.setSession n (some { s2 with lastSeq := m.seq, cached := State.sealed key r.1 })).emit (.jorol (State.sealed key r.1)))) ∧
      (type = 0x13 → exec c s = .next (r.2.emit (.jorol (State.sealed key r.1)))))

/-- What a request does: one that is not well made is MALFORMED, and below Stage 1 all but a few are BUSY; a READ answers the value, and
LENGTH where it carries a payload and nothing before that step fails; a WRITE checks its items in order and takes effect only when all
pass; a DOMAIN transfer collects its segments in order and takes effect as one write at its end, unless its value sets a reserved bit; a
HEARTBEAT arms the watchdog (R438, R439, R447, R448, R451, R455). -/
def Obligations.RequestsAreServed : Prop :=
  (∀ (s : State) (q : Requester) (k l : Nat) (m : Msg), let s1 := s.count 0x5900 1 1
    (m.wellMade = false → s.handle q k l m = (m.answer .malformed m.offset [], s1)) ∧
    (m.wellMade = true → s.level = 0 → m.early = false → s.handle q k l m = (m.answer .busy m.offset [], s1)) ∧
    (m.wellMade = true → 0 < s.level →
      s.handle q k l m = (m.answer (s1.serve q k l m).1 (s1.serve q k l m).2.1 (s1.serve q k l m).2.2.1, (s1.serve q k l m).2.2.2))) ∧
  (∀ (s : State) (q : Requester) (k l : Nat) (m : Msg), m.type = 1 → m.len = 0 → bit m.flags 1 = false →
    (s.checkRead q m.index m.sub m.inst m.offset false = .ok →
      s.serve q k l m = (.ok, m.offset, (s.readOne q m.index m.sub m.inst m.offset).1, (s.readOne q m.index m.sub m.inst m.offset).2)) ∧
    (s.checkRead q m.index m.sub m.inst m.offset false ≠ .ok →
      s.serve q k l m = (s.checkRead q m.index m.sub m.inst m.offset false, m.offset, [], s))) ∧
  (∀ (s : State) (q : Requester) (k l : Nat) (m : Msg), m.type = 1 → m.len ≠ 0 → bit m.flags 1 = false →
    s.serve q k l m = (if s.checkRead q m.index m.sub m.inst m.offset false = .ok then .length
      else s.checkRead q m.index m.sub m.inst m.offset false, m.offset, [], s)) ∧
  (∀ (s : State) (q : Requester) (idx inst off : Nat) (r : RecordInfo) (i : Item) (is : List Item), s.recordNow idx = some r →
    let t := (i :: is).foldl (fun st x => st.place idx inst r x) s
    (s.checkItem t q idx inst off r i ≠ .ok → s.writeAll q idx inst off (i :: is) = (s.checkItem t q idx inst off r i, s)) ∧
    (s.checkItem t q idx inst off r i = .ok → t.writeEffect q idx i.1 inst r i.2 = none → s.writeAll q idx inst off (i :: is) = (.rejected, s)) ∧
    (∀ u, s.checkItem t q idx inst off r i = .ok → t.writeEffect q idx i.1 inst r i.2 = some u → is = [] →
      s.writeAll q idx inst off (i :: is) = (.ok, u)) ∧
    (r.objs.length < i.1 → s.checkItem t q idx inst off r i = .noObject)) ∧
  (∀ (s : State) (q : Requester) (idx inst off : Nat) (is : List Item), (s.writeAll q idx inst off is).1 ≠ .ok →
    (s.writeAll q idx inst off is).2 = s) ∧
  (∀ (s : State) (q : Requester) (k idx sub inst n l : Nat) (bs : List Byte), s.checkDomain q idx sub inst = .ok →
    let key := objKey idx sub inst
    (∀ lo hi, State.domainLengths idx sub = some (lo, hi) → lo ≤ n → n ≤ hi → s.led.domains.any (·.key == key) = false →
      s.domainBegin q k idx sub inst n = (.ok, { s with led := { s.led with domains := s.led.domains ++ [⟨key, k, n, [], s.now⟩] } })) ∧
    (∀ w, s.openWrite k key = some w → n ≠ w.received.length →
      s.domainSegment q k idx sub inst n l bs = (.segment, s.dropWrite k key)) ∧
    (∀ w, s.openWrite k key = some w → n = w.received.length → (l < bs.length ∨ w.total < n + bs.length) →
      s.domainSegment q k idx sub inst n l bs = (.length, s)) ∧
    (∀ w, s.openWrite k key = some w → n = w.received.length → bs ≠ [] → bs.length ≤ l → n + bs.length ≤ w.total →
      (s.domainSegment q k idx sub inst n l bs).1 = .ok ∧
      ∃ x ∈ (s.domainSegment q k idx sub inst n l bs).2.led.domains, x.received = w.received ++ bs ∧ x.key = key ∧ x.session = k) ∧
    (∀ w, s.openWrite k key = some w → w.received.length = w.total →
      (State.domainOk idx w.received = true →
        s.domainEnd q k idx sub inst = (.ok, (s.dropWrite k key).domainWritten idx sub inst w.received)) ∧
      (State.domainOk idx w.received = false → s.domainEnd q k idx sub inst = (.rejected, s.dropWrite k key))) ∧
    (∀ w, s.openWrite k key = some w → w.received.length ≠ w.total → s.domainEnd q k idx sub inst = (.segment, s)) ∧
    (∀ w, s.openWrite k key = some w → s.domainAbort q k idx sub inst = (.ok, s.dropWrite k key))) ∧
  (∀ (s : State) (v : Nat), s.led.watchdog = .disarmed → s.obj 0x2D01 2 ≠ 0 →
    (s.heartbeatWrite v).led.watchdog = .armed (s.now + s.obj 0x2D01 2 * 1000000000) ∧ (s.heartbeatWrite v).obj 0x2D01 1 = v)

/-- Sessions: a HELLO opens a half-open session in a free slot and answers with a nonce; AUTH with the right proof establishes it, and any
other proof is denied and counted, the eighth in a row silencing the credential for 1 s. A half-open session ends after 1 s, an idle one
after SESSION_IDLE, a transfer after 60 s; a notification goes again after 10 ms; the heartbeat watchdog expires at its time (R442, R444,
R447, R449, R451). -/
def Obligations.SessionsOpenAndExpire : Prop :=
  ∀ (s : State), s.running = true →
    (∀ b m k, Msg.parse true b = some m → m.type = 0x20 → m.wellMade = true → m.session = 0 → m.len = 20 →
      slice m.payload 1 3 = [0, 0, 0] → s.led.helloBlocked.num (nth 0 m.payload 0).toNat ≤ s.now →
      (List.range 16).find? (fun k => (s.session (k + 1)).isNone) = some k → answers (.hello b) s fun t =>
      ∃ ss, t.session (k + 1) = some ss ∧ ss.key = none ∧ ss.credential = (nth 0 m.payload 0).toNat ∧ ss.clientNonce = m.payload.drop 4 ∧
        ss.openedAt = s.now ∧ t.out = s.out ++ [.jorol (({ m.answer .ok 0 ss.deviceNonce with session := ss.id } : Msg).encode true)]) ∧
    (∀ b m, Msg.parse true b = some m → m.type = 0x20 → m.wellMade = true → m.session = 0 → m.len = 20 → slice m.payload 1 3 = [0, 0, 0] →
      s.now < s.led.helloBlocked.num (nth 0 m.payload 0).toNat → exec (.hello b) s = .next s) ∧
    (∀ b m k ss secret, Msg.parse true b = some m → m.type = 0x21 → s.slotOf m.session = some k → s.session k = some ss → ss.key = none →
      s.now < ss.openedAt + 1000000000000 → m.wellMade = true → m.len = 32 → Sparse.get (fun _ => none) s.led.secrets ss.credential = some secret →
      ss.credential < 32 → s.obj (0x2D10 + ss.credential) 1 ≠ 0 →
      (m.payload = hmac256 secret (State.proofData 0x31 ss) → answers (.auth b) s fun t =>
        (∃ s2, t.session k = some s2 ∧ s2.key = some (hmac256 secret (State.proofData 0x4B ss)) ∧ s2.id = ss.id ∧ s2.lastUse = s.now) ∧
        t.led.authFails.num ss.credential = 0 ∧
        t.out = s.out ++ [.jorol ((m.answer .ok 0 (hmac256 secret (State.proofData 0x32 ss))).encode true)]) ∧
      (m.payload ≠ hmac256 secret (State.proofData 0x31 ss) → answers (.auth b) s fun t =>
        t.session k = some ss ∧ t.out = s.out ++ [.jorol ((m.answer .denied 0 []).encode true)] ∧
        t.ctr 0x5900 3 = satAdd 64 (s.ctr 0x5900 3) 1 ∧
        (s.led.authFails.num ss.credential + 1 < 8 → t.led.authFails.num ss.credential = s.led.authFails.num ss.credential + 1) ∧
        (8 ≤ s.led.authFails.num ss.credential + 1 → t.led.helloBlocked.num ss.credential = s.now + 1000000000000))) ∧
    (∀ k ss, s.session k = some ss →
      (ss.key = none → ss.openedAt + 1000000000000 ≤ s.now → answers (.helloExpiry k) s fun t => t.session k = none) ∧
      (ss.key ≠ none → exec (.helloExpiry k) s = .next s) ∧
      (ss.key ≠ none → ss.lastUse + s.obj 0x2D00 2 * 1000000000000 ≤ s.now → answers (.sessionIdleExpiry k) s fun t => t.session k = none ∧
        (∀ x ∈ t.led.domains, x.session ≠ k) ∧ ∀ j, j ≠ k → t.session j = s.session j) ∧
      (s.now < ss.lastUse + s.obj 0x2D00 2 * 1000000000000 → exec (.sessionIdleExpiry k) s = .next s) ∧
      (∀ n, ss.unacked = [n] → n.sentAt + 10000000000 ≤ s.now → answers (.notifyResend k) s fun t =>
        t.out = s.out ++ [.jorol (State.notifyMessage ss n)] ∧ t.session k = some { ss with unacked := [{ n with sentAt := s.now }] } ∧
        t.ctr 0x5900 5 = satAdd 64 (s.ctr 0x5900 5) 1)) ∧
    (∀ k, answers (.domainTransferTimeout k) s fun t =>
      (∀ x ∈ t.led.domains, x ∈ s.led.domains ∧ (x.session = k → s.now < x.lastAt + 60000000000000)) ∧
      (∀ x ∈ s.led.domains, (x.session ≠ k ∨ s.now < x.lastAt + 60000000000000) → x ∈ t.led.domains)) ∧
    (∀ u, s.led.watchdog = .armed u → u ≤ s.now → exec .watchdogExpiry s =
      .next (((({ s with led := { s.led with watchdog := .expired } }).raiseSource 15).count 0x5900 6 1).watchdogAct)) ∧
    (∀ u, s.led.watchdog = .armed u → s.now < u → exec .watchdogExpiry s = .next s)

/-- The PF0 mailbox: a doorbell with no base, or while it is BUSY, sets ERROR alone, and so does one whose buffer reads poisoned, which raises
source 7 (the model's reading, log 95); otherwise the request in the buffer is handled, its answer is written 0x800 past the base and
MB_DONE takes the doorbell's value; a read of MB_STATUS clears ERROR. RESET_COMMAND is the Owner's. A copy into flash completes or raises
its source (R436, R445, R446, R457). -/
def Obligations.MailboxResetCommandAndFlash : Prop :=
  ∀ (s : State) (v : Nat) (hs : List Host.Cell), s.running = true →
    let s1 := s.setHost (s.mem.host.apply hs)
    (s.pageOpen 0 = true → v < 2 ^ 32 →
      (s.led.mbBusy = true ∨ s.led.mbBase = 0 → exec (.mbDoorbellWrite v hs) s =
        .next { s1 with led := { s1.led with mbError := true } }) ∧
      (s.led.mbBusy = false → s.led.mbBase ≠ 0 → s1.mem.host.hasBad s.led.mbBase 0x800 = true → exec (.mbDoorbellWrite v hs) s =
        .next (({ s1 with led := { s1.led with mbError := true } } : State).raiseSource 7)) ∧
      (s.led.mbBusy = false → s.led.mbBase ≠ 0 → s1.mem.host.hasBad s.led.mbBase 0x800 = false →
        exec (.mbDoorbellWrite v hs) s = .next (s1.mailboxRun v (s1.mem.host.readBytes s.led.mbBase 0x800)))) ∧
    (s.pageOpen 0 = false → exec (.mbDoorbellWrite v hs) s = .next s1) ∧
    (∀ b m0 a t, Msg.parse false b = some m0 →
      s.mailboxHandle v { m0 with payload := m0.swapped false, tag := m0.tag.take 32 } = (some a, t) → t.led.mbBase ≠ 0 → t.led.mbIntEn = false →
      let t1 := t.hostWrite 0 (t.led.mbBase + 0x800) (State.mailboxBytes a)
      s.mailboxRun v b = { t1 with led := { t1.led with mbDone := v } }) ∧
    ((s.fn 0).wedged = true → exec .mbStatusRead s = .next (s.emit (.regRead 0 0x114 0))) ∧
    (s.pageOpen 0 = true → answers .mbStatusRead s fun t => t.led.mbError = false ∧
      t.out = s.out ++ [.regRead 0 0x114 (2 * bnat s.led.mbBusy + bnat s.led.mbError)] ∧
      { t with led := { t.led with mbError := s.led.mbError }, out := s.out } = s) ∧
    (0 < s.level → exec (.resetCommand 0) s = .next (s.resetCause .command)) ∧
    (∀ k, k ≠ 0 → s.session k = none → exec (.resetCommand k) s = .next s) ∧
    (s.flt.inReset = false → s.flt.resetDue = none → ∀ x, (s.resetCause x).flt.resetDue = some (x, s.now)) ∧
    (∀ k, k ∈ s.led.flashDue → let t := { s with led := { s.led with flashDue := s.led.flashDue.filter (· != k) } }
      exec (.flashWrite k true) s = .next (t.store k) ∧ exec (.flashWrite k false) s = .next (t.raiseSource 4)) ∧
    (∀ k b, k ∉ s.led.flashDue → exec (.flashWrite k b) s = .next s)

/-! Faults and the scorecard -/

/-- A risen line is an event: it sets the source's SCORECARD bit, counts in EVENTS and in WINDOW_EVENTS of the window it falls in, and leaves
its time; a line falls with its cause and is held until it has been sampled so; the event that reaches THRESHOLD sets SEVERE, once until
it is cleared. A clear clears the bits that it names and no other. In factory test mode an injection makes the rises asked for, the first
at the next tick (R469, R470, R473, R474, R477, R478). That SCORECARD_EVENT itself raises sources 2, 5 and 6 is the model's, log 101. -/
def Obligations.ScorecardCountsEpisodes : Prop :=
  ∀ (s : State) (k : Nat), s.running = true → k < 24 →
    let i := 0x2240 + k
    let l := s.line k
    let n := min ((if s.windowOf k = s.flt.lastWindow.num k then s.ctr i 4 else 0) + 1) 255
    let own := k = 2 ∨ k = 5 ∨ k = 6
    let risen : FaultLine := { l with up := true, pulse := conditionSource k }
    let fallen := if s.staysUp k l then { l with sampled := true } else l.fallen
    (s.collecting = true → l.hold = false → l.up = true → l.sampled = false → l.downAt ≠ s.tick + 1 → k ≠ 5 → k ≠ 6 →
      exec (.scorecardEvent k) s = .next ((s.setLine k fallen).scoreEvent k)) ∧
    (¬ own → (l.up = false ∨ l.hold = true ∨ l.sampled = true ∨ l.downAt = s.tick + 1) → exec (.scorecardEvent k) s = .next s) ∧
    (own → s.collecting = true → l = FaultLine.down →
      exec (.scorecardEvent k) s = .next (((s.setLine k risen).setLine k risen.fallen).scoreEvent k)) ∧
    (let t := s.scoreEvent k
     (n ≠ s.obj i 1 ∨ bit s.flt.severe k = true → t.flt.scorecard = s.flt.scorecard ||| 2 ^ k ∧ t.flt.severe = s.flt.severe ∧
       t.flt.faulting = s.flt.faulting ∧ t.ctr i 4 = n ∧ t.ctr i 5 = satAdd 64 (s.ctr i 5) 1 ∧ t.ctr i 7 = s.deviceTime ∧
       t.mem = s.mem ∧ t.ring = s.ring ∧ t.out = s.out) ∧
     (n = s.obj i 1 → bit s.flt.severe k = false →
       (s.obj i 3 = 0 → t.flt.severe = s.flt.severe ||| 2 ^ k ∧ t.flt.faulting = s.flt.faulting ∧ t.out = s.out) ∧
       (s.obj i 3 = 2 ∨ s.obj i 3 = 3 → bit t.flt.severe k = true ∧ bit t.flt.faulting k = true))) ∧
    (∀ m, 0 < s.level → answers (.scorecardClear m) s fun t =>
      (∀ j, j < 64 → bit t.flt.scorecard j = (bit s.flt.scorecard j && !bit m j)) ∧ t.mem = s.mem ∧ t.out = s.out ∧
      (bit s.flt.scorecard k = true → bit m k = true → bit t.flt.severe k = false ∧ bit t.flt.faulting k = false ∧ t.ctr i 4 = 0)) ∧
    (s.pw.testmode = true → 0 < s.level → answers .injectStart s fun t =>
      t.flt.injection = some ⟨s.obj 0x7F00 1, s.obj 0x7F00 2, s.obj 0x7F00 3, s.tick + 1⟩ ∧ { t with flt := s.flt } = s) ∧
    (s.pw.testmode = false → exec .injectStart s = .next s ∧ exec .injectStop s = .next s) ∧
    (s.pw.testmode = true → 0 < s.level → answers .injectStop s fun t => t.flt.injection = none ∧ { t with flt := s.flt } = s) ∧
    (∀ x, s.flt.injection = some x → s.collecting = true → x.next ≤ s.tick → 1 < x.left → x.source = k → l = FaultLine.down →
      let s1 := { s with flt := { s.flt with injection := some { x with left := x.left - 1, next := x.next + x.interval } } }
      let u := ((s1.setLine k risen).setLine k (if s.staysUp k risen then { risen with sampled := true } else risen.fallen)).scoreEvent k
      exec .injectEvent s = .next { u with pw := { u.pw with
        testKept := u.pw.testKept || (s.flt.resetDue.isNone && u.flt.resetDue.isSome) } }) ∧
    (∀ x, s.flt.injection = some x → s.tick < x.next → exec .injectEvent s = .next s)

/-! Drawers and migration -/

/-- START returns a STOPPED drawer to RUNNING with its QPs as they are; STOP is accepted in RUNNING; either in any other state, or for drawer
0, changes nothing. A stopping drawer is STOPPED once nothing that it fetched is left (R370, R372). RECYCLE ends in STOPPED, and is
refused for drawer 0 and a wedged function. A chunk command gives a free chunk to its target zero-filled, fails with OWNED on another
drawer's, and is refused while one is BUSY or where it runs past the last chunk. Each bench takes its new owner at once, or when its job
completes (R368, R369, R373, R484). -/
def Obligations.DrawersStopRecycleAndTakeResources : Prop :=
  (∀ (s : State) (d : Nat), s.running = true → 0 < s.level → d ≤ 127 →
    (d ≠ 0 → s.drawerState d = 2 → answers (.drawerStart d) s fun t => t.drawerState d = 0 ∧ t.hrt = s.hrt ∧
      (∀ x, x < 65536 → d < 65536 → x ≠ d → t.drawerState x = s.drawerState x) ∧ { t with led := { t.led with vals := s.led.vals } } = s) ∧
    (s.drawerState d ≠ 2 → exec (.drawerStart d) s = .next s) ∧
    (d ≠ 0 → s.drawerState d = 0 → exec (.drawerStop d) s = .next (s.stopEffects d)) ∧
    (s.drawerState d ≠ 0 → exec (.drawerStop d) s = .next s) ∧
    (d = 0 → exec (.drawerStart d) s = .next s ∧ exec (.drawerStop d) s = .next s) ∧
    (s.drawerState d = 1 → s.drawerQuiet d = true → answers (.drawerStoppedReached d) s fun t => t.drawerState d = 2 ∧
      { t with led := { t.led with vals := s.led.vals } } = s) ∧
    (s.drawerQuiet d = false → exec (.drawerStoppedReached d) s = .next s)) ∧
  (∀ (s : State), s.running = true → 0 < s.level →
    let c := s.obj 0x2301 1
    let target := s.obj 0x2301 3
    (∀ d, 1 ≤ d → d ≤ 127 → (s.fn d).wedged = false → answers (.recycle d) s fun t => t.drawerState d = 2) ∧
    (∀ d, d = 0 ∨ (s.fn d).wedged = true → exec (.recycle d) s = .next s) ∧
    (s.led.chunkRun = none → s.obj 0x2301 5 ≠ 1 → s.obj 0x2301 2 = 1 → c + 1 ≤ 196608 → 128 ≤ target → reservedChunk c = false →
      (s.mem.owner.num c = 0 → s.migrating (target % 128) = false → answers .chunkGo s fun t =>
        t.mem.owner.num c = target ∧ (∀ x, x ≠ c → t.mem.owner.num x = s.mem.owner.num x) ∧ t.obj 0x2301 5 = 2 ∧ t.obj 0x2301 6 = 1 ∧
        (∀ a, chunkBase c ≤ a → a < chunkBase c + 2 ^ 21 → t.mem.dev.read a = 0) ∧
        (∀ a, a < chunkBase c ∨ chunkBase c + 2 ^ 21 ≤ a → t.mem.dev.read a = s.mem.dev.read a)) ∧
      (s.mem.owner.num c ≠ 0 → s.mem.owner.num c ≠ target → answers .chunkGo s fun t =>
        t.obj 0x2301 5 = 3 ∧ t.obj 0x2301 7 = 2 ∧ t.mem = s.mem)) ∧
    (s.led.chunkRun = none → (s.obj 0x2301 5 = 1 ∨ 196608 < c + s.obj 0x2301 2) → exec .chunkGo s = .next s) ∧
    (∀ bs, bs.length = 512 → exec (.benchOwnerWrite bs) s = .next (s.benchOwners bs)) ∧
    (∀ bs, bs.length ≠ 512 → exec (.benchOwnerWrite bs) s = .next s) ∧
    (∀ b v, s.cmp.ownerDue.find? (·.1 == b) = none →
      (v = s.benchOwner b → s.benchByte b v = s) ∧
      (v ≠ s.benchOwner b → (s.bench b).job = none → s.benchByte b v = s.giveBench b v) ∧
      (v ≠ s.benchOwner b → (s.bench b).job ≠ none → (s.benchByte b v).cmp.benches = s.cmp.benches ∧ (b, v) ∈ (s.benchByte b v).cmp.ownerDue)))

/-- Migration commands: one whose condition fails ends FAILED with NOT_PERMITTED; SAVE leaves the drawer's blob in STATE; RESTORE judges the
blob that was saved or written last (log 151) and rebuilds the drawer, once no QP of it is quarantined; the copies run against the staging
region; the log starts in buffer A, swaps, and stops. Drawer 0 has none (R377 to R382). -/
def Obligations.MigrationCommandsAnswer : Prop :=
  (∀ (s : State) (d k : Nat) (c : Instr),
    (k, c) ∈ [(1, Instr.migSave d), (2, .migRestore d), (3, .migCopyOut d), (4, .migCopyIn d), (5, .migLogStart d), (6, .migLogSwap d),
      (7, .migLogStop d)] →
    s.running = true → 0 < s.level → s.obj 0x23C0 2 d ≠ 1 →
    let t := (s.setObj 0x23C0 2 d 1).setObj 0x23C0 1 d k
    (d = 0 → exec c s = .next s) ∧
    (1 ≤ d → d ≤ 127 → s.migAllowed d k = false → answers c s fun u => u.obj 0x23C0 2 d = 3 ∧ u.obj 0x23C0 3 d = 0x12 ∧
      { u with led := { u.led with vals := s.led.vals } } = s) ∧
    (1 ≤ d → d ≤ 127 → s.migAllowed d k = true →
      (k = 1 → answers c s fun u => u.blob 0x23C0 0x0B d = t.migBlob d ∧ u.blob 0x23C0 0x0D d = t.migBlob d ∧ u.obj 0x23C0 2 d = 2 ∧ u.obj 0x23C0 3 d = 0 ∧ u.mem = s.mem) ∧
      (k = 2 → State.blobOk (t.blob 0x23C0 0x0D d) = true → t.restoreOk d (t.blob 0x23C0 0x0D d) = true →
        (State.blobQps (t.blob 0x23C0 0x0D d)).any (fun q => decide (t.now < (t.qp (leAt q 0 4)).quarantine)) = false →
        exec c s = .next ((t.restore d (t.blob 0x23C0 0x0D d)).migEnd d 0)) ∧
      (k = 2 → State.blobOk (t.blob 0x23C0 0x0D d) = false → exec c s = .next (t.migEnd d 0x0E)) ∧
      (k = 3 → exec c s = .next (t.copyRun d true)) ∧ (k = 4 → exec c s = .next (t.copyRun d false)) ∧
      (k = 5 → answers c s fun u => u.obj 0x23C0 9 d = 1 ∧ u.obj 0x23C0 2 d = 2) ∧
      (k = 6 → answers c s fun u => u.obj 0x23C0 9 d = 3 - s.obj 0x23C0 9 d ∧ u.obj 0x23C0 2 d = 2) ∧
      (k = 7 → answers c s fun u => u.obj 0x23C0 9 d = 0 ∧ u.obj 0x23C0 2 d = 2))) ∧
  (∀ (s s1 : State) (d : Nat) (ps : List Piece),
    let cs := s.imageChunks d
    let at_ := s.obj 0x23C0 4 d
    let n := cs.length
    (∀ e, s.resolveRegion 0 (at_ / 2 ^ 40) (at_ % 2 ^ 40) (2 ^ 21 * n + 4 * n) true false = (.fail e, s1) → s.copyRun d true = s1.migEnd d e) ∧
    (s.resolveRegion 0 (at_ / 2 ^ 40) (at_ % 2 ^ 40) (2 ^ 21 * n + 4 * n) true false = (.ok ps, s1) → s1.piecesReady ps = true →
      cs.any (fun c => (s1.stack (stackOf (chunkBase c))).lost) = false →
      (∀ p a m, Piece.bus p a m ∈ ps → s1.busOk p = true) →
      let r := (s1.setObj 0x23C0 0x0C d 0).outChunks d n (s.obj 0x23C0 5 d == 1) ps cs.zipIdx
      s.copyRun d true = r.2.migEnd d r.1))

/-! Clocks, bring-up, power and pins -/

/-- POWER_GOOD brings up the main rails and ROOT, raises the reset epoch with cause POWER_UP and keeps nothing of device memory; the rails'
fall is standby; a rail or VDD_AUX out of range raises SUPPLY; the first wake frame of a standby period asserts ALERT_N. A full reset
raises the epoch, records its cause, returns to level 0 and keeps device memory and the scorecard. PERST0_N is a cause of one, PERST1_N is
not (R328, R329, R457, R479 to R482, R490, R505, R515). -/
def Obligations.PowerUpsAndResets : Prop :=
  ∀ s : State,
    (s.pw.mainUp = false → answers .powerGood s fun t => t.pw.mainUp = true ∧ t.pw.rootLocked = true ∧ t.obj 0x2001 2 = 0 ∧
      t.obj 0x2001 3 = (Sparse.get objDefault s.led.flashVals (objKey 0x2001 3 0) + 1) % 2 ^ 64 ∧ t.mem.dev = s.mem.dev.lose ∧
      t.mem.host = s.mem.host ∧ t.now = s.now ∧ t.pending = s.pending) ∧
    (s.pw.mainUp = true → exec .powerGood s = .next s ∧ answers .mainRailsDown s fun t => t.pw.mainUp = false ∧ t.pw.rootLocked = false ∧
      t.pw.woken = false ∧ t.mem.dev = s.mem.dev.lose ∧ t.mem.host = s.mem.host) ∧
    (s.pw.mainUp = false → exec .mainRailsDown s = .next s ∧ ∀ r b, exec (.mainRailExcursion r) s = .next s ∧
      exec (.mainRailReturn r) s = .next s ∧ exec (.vddAuxExcursion b) s = .next s) ∧
    (s.pw.mainUp = true → s.line 2 = FaultLine.down →
      (∀ r, r < 7 → answers (.mainRailExcursion r) s fun t => bit t.pw.railsOut r = true ∧ (t.line 2).up = true ∧ t.mem = s.mem) ∧
      (answers (.vddAuxExcursion false) s fun t => t.pw.auxOk = false ∧ (t.line 2).up = true ∧ t.mem = s.mem) ∧
      (answers (.vddAuxExcursion true) s fun t => t.pw.auxOk = true ∧ t.mem = s.mem)) ∧
    (s.pw.mainUp = true → ∀ r, r < 7 → answers (.mainRailReturn r) s fun t => bit t.pw.railsOut r = false ∧ t.mem = s.mem) ∧
    (∀ f, s.pw.mainUp = false → s.pw.auxOk = true → s.pw.woken = false → 64 ≤ f.length → f.length ≤ 1522 → fcsOk f = true →
      s.wakeReason f ≠ 0 → answers (.wakeFrameReceive f) s fun t => t.obj 0x2581 0x0A = s.wakeReason f ∧ t.pw.woken = true ∧
        t.flt.wakeAlert = true ∧ t.alertPin = true ∧ t.mem = s.mem) ∧
    (∀ f, s.pw.woken = true ∨ s.pw.mainUp = true → exec (.wakeFrameReceive f) s = .next s) ∧
    (s.pw.mainUp = true → s.pw.tripped = false → s.pw.perst0 = false → s.flt.inReset = false → s.flt.resetDue = none →
      answers .perst0Assert s fun t => t.pw.perst0 = true ∧ t.flt.resetDue = some (.perst0, s.now) ∧ t.ring.p0 = PcieLink.down) ∧
    (answers .perst0Deassert s fun t => t.pw.perst0 = false ∧ t.mem = s.mem ∧ t.ring = s.ring ∧
      (s.pw.perst0 = true → s.pw.mainUp = true → s.flt.resetDue = none → t.pw.dAt = some s.now)) ∧
    (s.ring.p1.up = false → answers .perst1Assert s fun t => t.pw.perst1 = true ∧ t.ring.p1BusMaster = false ∧ t.mem = s.mem ∧ t.flt = s.flt) ∧
    (exec .perst1Deassert s = .next { s with pw := { s.pw with perst1 := false } }) ∧
    (s.running = true → ∀ c u, s.flt.resetDue = some (c, u) → answers .fullReset s fun t =>
      t.level = 0 ∧ t.obj 0x2001 2 = c.code ∧ t.obj 0x2001 3 = (s.obj 0x2001 3 + 1) % 2 ^ 64 ∧ t.flt.resetDue = none ∧
      t.flt.scorecard = s.flt.scorecard ∧ t.flt.severe = s.flt.severe ∧ t.mem.dev = s.mem.dev ∧ t.cmp = ComputeState.reset ∧
      t.hrt = HrtState.reset ∧ t.hands = HandState.reset ∧ t.fab = FabricState.reset ∧ t.clu = ClusterState.reset ∧ t.led.ctrs = [] ∧
      t.led.rises = []) ∧
    (s.flt.resetDue = none → exec .fullReset s = .next s)

/-- The PCIe links: P0 going down notes when, its return lets held writes go on in order, and 1 ms without it is a cause of a full reset; a
later return finds that cause, and during a reset the loss merges into it. P1 trains from Stage 2, and its loss raises the PCIE source.
That the peer function's Bus Master Enable is then a free value is the model's choice (log 60) (R19, R362, R481, R483, R494). -/
def Obligations.PcieLinksGoDownAndUp : Prop :=
  ∀ s : State, s.running = true →
    let p := s.ring.p0
    (p.up = true → answers .p0DlDown s fun t => t.ring.p0 = { p with up := false, downSince := some s.now } ∧ t.mem = s.mem ∧ t.out = s.out) ∧
    (p.up = false → exec .p0DlDown s = .next s) ∧
    (∀ x w b, p.up = false → s.pw.perst0 = false → s.pw.dAt ≠ none → s.pw.bootStuck = false → linkTrains x w = true → s.mem.p0Held = [] →
      (p.wasUp = false ∨ p.downSince = none → answers (.p0DlUp x w b) s fun t => t.ring.p0 = ⟨true, true, none, x, w, b⟩ ∧ t.flt = s.flt ∧
        t.mem = s.mem) ∧
      (∀ u, p.downSince = some u → s.now ≤ u + 1000000000 → answers (.p0DlUp x w b) s fun t =>
        t.ring.p0 = ⟨true, true, none, x, w, b⟩ ∧ t.flt = s.flt) ∧
      (∀ u, p.downSince = some u → p.wasUp = true → u + 1000000000 < s.now → s.flt.inReset = false → s.flt.resetDue = none →
        answers (.p0DlUp x w b) s fun t => t.flt.resetDue = some (.p0LinkLoss, s.now))) ∧
    (∀ x w b, p.up = true ∨ s.pw.perst0 = true ∨ s.pw.dAt = none ∨ s.pw.bootStuck = true → exec (.p0DlUp x w b) s = .next s) ∧
    (∀ x w b h, p.up = false → s.pw.perst0 = false → s.pw.dAt ≠ none → s.pw.bootStuck = false → linkTrains x w = true →
      s.mem.p0Held = [h] → h.vector = none → p.downSince = none → s.obj 0x23C0 9 h.fid = 0 →
      answers (.p0DlUp x w b) s fun t => t.mem.host = s.mem.host.writeBytes h.addr h.bytes ∧ t.mem.p0Held = []) ∧
    (∀ u, p.up = false → p.wasUp = true → p.downSince = some u → u + 1000000000 ≤ s.now → s.flt.inReset = false → s.flt.resetDue = none →
      answers .p0LinkLossTimeout s fun t => t.flt.resetDue = some (.p0LinkLoss, s.now)) ∧
    (∀ u, p.up = false → p.wasUp = true → p.downSince = some u → u + 1000000000 ≤ s.now → s.flt.inReset = true →
      exec .p0LinkLossTimeout s = .next { s with ring := { s.ring with p0 := PcieLink.down } }) ∧
    (∀ u, p.downSince = some u → s.now < u + 1000000000 → exec .p0LinkLossTimeout s = .next s) ∧
    (s.ring.p1.up = true → exec .p1LinkDown s =
      .next ((({ s with ring := { s.ring with p1 := PcieLink.down, p1BusMaster := false } }).raiseSource 12).portEvent 1 3 1 0)) ∧
    (s.ring.p1.up = false → exec .p1LinkDown s = .next s) ∧
    (∀ x w b, s.pw.perst1 = false → 2 ≤ s.level → linkTrains x w = true →
      let t := { (s.freeNat 1).2 with ring := { (s.freeNat 1).2.ring with p1BusMaster := (s.freeNat 1).1 == 1 } }
      (s.ring.p1.up = false → exec (.p1DlUp x w b) s =
        .next (({ t with ring := { t.ring with p1 := ⟨true, true, none, x, w, b⟩ } }).portEvent 2 3 1 0)) ∧
      (s.ring.p1.up = true → exec (.p1DlUp x w b) s = .next t)) ∧
    (∀ x w b, s.level < 2 ∨ s.pw.perst1 = true → exec (.p1DlUp x w b) s = .next s)

/-- The way up: the boot ROM, unless PERST0_N keeps it in reset, reads VOUT_MODE of each regulator and starts the first bank that passes its
checks, from that of BOOT_BANK, and stays at Stage 0 where none does; stacks are brought up in order, Stage 1 follows, then lane
calibration, a trim and a clock step of each stack in order, 100 µs apart, and Stage 2; out of turn none of them does anything (R76, R77,
R425, R426, R492 to R494). -/
def Obligations.BringUpFollowsItsOrder : Prop :=
  ∀ s : State, s.running = true →
    let b := s.obj 0x2B08 1
    let s0 := ({ s with
      drawn := s.drawn + 1, cipher := { s.cipher with running := none },
      pw := { s.pw with
        bootReady := false, testmode := if s.pw.testKept then s.pw.testmode else Config.testPins s.drawn, testKept := false,
        voutMode := (List.range 8).foldl (fun m r => m.setNum r (Config.voutMode r s.drawn % 256)) s.pw.voutMode } } : State).pmbusReads [0x20]
    let s1 := (s0.noteBank b false).raiseSource 0
    let s2 := (s1.noteBank (1 - b) false).raiseSource 0
    let s3 := s2.noteBank 2 false
    (s.pw.mainUp = true → s.pw.bootReady = true → s.pw.held = false → exec .bootRomRun s = .next (
      match s0.checkImage (s0.bank b), s0.checkImage (s0.bank (1 - b)), s0.checkImage (s0.bank 2) with
      | some k, _, _ => (s0.noteBank b true).runBank b k
      | none, some k, _ => (s1.noteBank (1 - b) true).runBank (1 - b) k
      | none, none, some k => (s2.noteBank 2 true).runBank 2 k
      | none, none, none => { s3 with flt := { s3.flt with bootFault := true }, pw := { s3.pw with bootStuck := true } })) ∧
    (s.pw.bootReady = false ∨ s.pw.held = true → exec .bootRomRun s = .next s) ∧
    (∀ c, (s.pmbusReads [c]).out = s.out ++ (List.range 8).map fun r => .pmbus (0x40 + r) 0 c) ∧
    (∀ n k, let t := s.runBank n k
      t.cipher.running = some n ∧ t.pw.booted = true ∧ t.obj 0x2B08 2 = n ∧ t.flt.bootFault = false) ∧
    (∀ k, k < 8 → s.pw.stacksDone = k → s.pw.booted = true → s.recovery = false → s.level = 0 → s.pw.held = false → (s.stack k).lost = false →
      answers (.stackBringup k) s fun t => (t.stack k).up = true ∧ (t.stack k).clock = .mhz800 ∧ t.pw.stacksDone = k + 1 ∧
        (∀ j, j ≠ k → t.stack j = s.stack j) ∧ t.mem = s.mem) ∧
    (∀ k, k ≠ s.pw.stacksDone ∨ s.level ≠ 0 ∨ s.pw.held = true → exec (.stackBringup k) s = .next s) ∧
    (s.stage1Ready = true → exec .stage1Entry s = .next s.stage1) ∧ (s.stage1Ready = false → exec .stage1Entry s = .next s) ∧
    (let t := ((s.forceAll.setLevel 1).setObj 0x2B00 1 0 0)
     let u : State := { t with
       flt := { t.flt with inReset := false },
       ring := { t.ring with p0 := if (t.ring.p0.downSince.map t.p0Late).getD false then PcieLink.down else t.ring.p0 } }
     t.level = 1 ∧
     (s.recovery = true → s.obj 0x2001 2 ≠ 5 → s.stage1 = u.raiseDevice 0x0C 0 [1]) ∧
     (s.recovery = false → s.obj 0x2001 2 ≠ 5 → s.stage1 = (((u.clusterStarts.trainPort 0).installRoutes).trainDerone).raiseDevice 0x0C 0 [1])) ∧
    (s.level = 1 → s.recovery = false → exec .laneCalibration s = .next { s with pw := { s.pw with calibrated := true } }) ∧
    (s.level ≠ 1 → exec .laneCalibration s = .next s) ∧
    (∀ k, s.level = 1 → s.pw.calibrated = true → s.trimFailed = false → s.nextStack s.pw.trimsDone = some k → k < 8 →
      (∀ n, n < 64 → (s.bench (64 * k + n)).run ≠ .running) →
      (answers (.stackTrim k true) s fun t => (t.stack k).trimmed = true ∧ t.pw.trimsDone = k + 1 ∧ ∀ j, j ≠ k → t.stack j = s.stack j) ∧
      (s.line 8 = FaultLine.down → answers (.stackTrim k false) s fun t => (t.stack k).trimFailed = true ∧ (t.line 8).up = true)) ∧
    (∀ k p, s.nextStack s.pw.trimsDone ≠ some k → exec (.stackTrim k p) s = .next s) ∧
    (∀ k, s.level = 1 → s.allTrimmed = true → s.nextStack s.pw.stepsDone = some k → k < 8 →
      (s.pw.stepsDone = 0 ∨ s.pw.lastStepAt + 100000000 ≤ s.now) → (∀ n, n < 64 → (s.bench (64 * k + n)).run ≠ .running) →
      answers (.clockStep k) s fun t => (t.stack k).clock = .mhz1600 ∧ t.pw.stepsDone = k + 1 ∧ t.pw.lastStepAt = s.now) ∧
    (∀ k, s.pw.stepsDone ≠ 0 → s.now < s.pw.lastStepAt + 100000000 → exec (.clockStep k) s = .next s) ∧
    (s.stage2Ready = true → exec .stage2Entry s = .next s.stage2) ∧ (s.stage2Ready = false → exec .stage2Entry s = .next s)

/-- The governor reads READ_VOUT and READ_IOUT of each rail in order, and a rail that does not answer keeps its last good reading (the words'
formats are the model's, log 110): k_p rises by 64(P − L)/P rounded up, no higher than 63, while P exceeds L, and falls by 1 at 2 % below
it; a rail silent four times running raises it by 4. Each domain's k_t rises by 2 from its throttle level and falls by 1 three degrees
below it; a domain at its trip level stops the device (R497 to R499, R502, R503). ROOT: at its loss every byte of device memory is lost,
both PCIe links are down and nothing advances; at its return the clocks run again. A stack's interface that is lost asserts its condition
until it has retrained (R146, R472, R487). -/
def Obligations.ThrottlesRootAndStackInterfaces : Prop :=
  ((∀ (s : State) (r : List Nat), s.running = true → (0 < s.level → exec (.governorSample r) s = .next (s.governorSample r)) ∧
    (s.level = 0 → exec (.governorSample r) s = .next s)) ∧
  (∀ s : State, (s.pmbusReads [0x8B, 0x8C]).out =
    s.out ++ (List.range 8).flatMap fun r => [.pmbus (0x40 + r) 0 0x8B, .pmbus (0x40 + r) 0 0x8C]) ∧
  (∀ (s : State) (r v i : Nat), let t := s.takeRail r v i
    (v < 0x10000 → i < 0x10000 → s.pw.voutMode.num r / 32 = 0 → t.pw.railMisses.num r = 0 ∧
      t.pw.railMv.num r = State.linear v (s.pw.voutMode.num r % 32) % 2 ^ 32 ∧ t.pw.railMa.num r = State.ioutOf i ∧ t.mem = s.mem) ∧
    (0x10000 ≤ v ∨ 0x10000 ≤ i → t.pw.railMisses.num r = s.pw.railMisses.num r + 1 ∧ t.pw.railMv = s.pw.railMv ∧
      t.pw.railMa = s.pw.railMa ∧ t.mem = s.mem)) ∧
  (∀ kp p l : Nat, kp ≤ 63 →
    (1000 * l < p → State.nextKp kp p l false = min 63 (kp + ⌈(64 * ((p : ℚ) / 1000 - l)) / ((p : ℚ) / 1000)⌉₊)) ∧
    (p ≤ 1000 * (l - l / 50) → State.nextKp kp p l false = kp - 1) ∧
    (1000 * (l - l / 50) < p → p ≤ 1000 * l → State.nextKp kp p l false = kp) ∧
    State.nextKp kp p l true = min 63 (kp + 4)) ∧
  (∀ (kt d : Nat) (x : Int), (State.throttleAt d ≤ x → State.nextKt kt d x = min 63 (kt + 2)) ∧
    (x < State.throttleAt d - 3000 → State.nextKt kt d x = kt - 1) ∧
    (State.throttleAt d - 3000 ≤ x → x < State.throttleAt d → State.nextKt kt d x = kt)) ∧
  (∀ (s : State) (d : Nat) (ts : List Nat), s.running = true → ts.length = 9 → d < 9 → State.tripAt d ≤ signed 32 (nth 0 ts d) →
    answers (.thermalReading ts) s fun t => t.pw.tripped = true ∧ t.running = false ∧ t.out = s.out ∧ t.mem = s.mem) ∧
  (∀ (s : State) (ts : List Nat), s.running = true → (∀ d, d < 9 → signed 32 (nth 0 ts d) < 80000) → ts.length = 9 → s.pw.kt = [] →
    answers (.thermalReading ts) s fun t => t.pw.tripped = s.pw.tripped ∧ t.pw.kt = [] ∧ t.out = s.out)) ∧
  (∀ s : State,
    (s.pw.mainUp = true → s.pw.rootLocked = true → answers .rootLockLoss s fun t => t.pw.rootLocked = false ∧ t.running = false ∧
      t.mem.dev = s.mem.dev.lose ∧ t.ring.p0.up = false ∧ t.ring.p1.up = false ∧ t.out = s.out ∧ (∀ k, k < 33 → (t.sub k).link ≠ .up)) ∧
    (s.pw.rootLocked = false → exec .rootLockLoss s = .next s) ∧
    (s.pw.mainUp = true → s.pw.rootLocked = false → s.pw.tripped = false → s.pw.lostD = 0 → s.pw.lostE = 0 → s.pw.lostP1 = false →
      answers .rootLockRestore s fun t => t.pw.rootLocked = true ∧ t.running = true ∧ t.mem.dev = s.mem.dev) ∧
    (s.pw.rootLocked = true → exec .rootLockRestore s = .next s) ∧
    (∀ k, s.running = true → k < 8 → (s.stack k).lost = false → (s.stack k).up = true → s.mem.moves = [] → s.fab.contexts = [] → s.line (16 + k) = FaultLine.down →
      answers (.stackInterfaceLoss k) s fun t => (t.stack k).lost = true ∧ (t.line (16 + k)).up = true ∧ t.mem = s.mem) ∧
    (∀ k, (s.stack k).lost = true → exec (.stackInterfaceLoss k) s = .next s) ∧
    (∀ k, s.running = true → k < 8 → (s.stack k).lost = true → (s.stack k).up = true → answers (.stackInterfaceRetrained k) s fun t =>
      (t.stack k).lost = false ∧ (t.line (16 + k)).up = false ∧ t.mem = s.mem) ∧
    (∀ k, (s.stack k).lost = false → exec (.stackInterfaceRetrained k) s = .next s))

/-- The test access port: an instruction selects its register and shifts it out; IDCODE is 0x10480997; EXTEST, CLAMP and HIGHZ act as BYPASS
while PERST0_N is deasserted, and while it is asserted EXTEST and CLAMP drive the boundary cells and HIGHZ releases every output; a reset
of the port selects IDCODE (R521). -/
def Obligations.TestAccessPort : Prop :=
  ∀ s : State,
    (answers .tapReset s fun t => t.pw.tap = .idcode ∧ { t with pw := { t.pw with tap := s.pw.tap } } = s) ∧
    (s.pw.mainUp = true →
      (answers .idcode s fun t => t.pw.tap = .idcode ∧ t.out = s.out ++ [.tdo 32 0x10480997] ∧ t.mem = s.mem) ∧
      (answers .bypass s fun t => t.pw.tap = .bypass ∧ t.out = s.out ++ [.tdo 1 0] ∧ t.mem = s.mem) ∧
      (∀ n, answers (.samplePreload n) s fun t => t.pw.tap = .samplePreload ∧ t.pw.boundary = n % 2 ^ 17 ∧
        (∃ x, t.out = s.out ++ [.tdo 17 x] ∧ bit x 0 = !s.pw.perst0 ∧ bit x 1 = !s.pw.perst1)) ∧
      (∀ c i, (c, i) ∈ [(Instr.extest, TapInstr.extest), (.clamp, .clamp), (.highz, .highz)] →
        (answers c s fun t => t.pw.tap = i ∧ t.mem = s.mem) ∧
        (s.pw.perst0 = false → answers c s fun t => t.out = s.out ++ [.tdo 1 0] ∧ t.outputPins = t.ownPins) ∧
        (s.pw.perst0 = true → answers c s fun t => t.outputPins = (if i = .highz then List.replicate 6 none else t.boundaryPins)))) ∧
    (s.pw.mainUp = false → ∀ n, exec .extest s = .next s ∧ exec .idcode s = .next s ∧ exec (.samplePreload n) s = .next s ∧
      exec .clamp s = .next s ∧ exec .highz s = .next s ∧ exec .bypass s = .next s)

/-! Completion -/

/-- Each of these forms completes with its own effect under the conditions that the spec puts on it alone: the writes and reads of a register
page of an open function (R331, R333 to R335); the temperature readings, the governor's sample and what ROOT and the stacks' interfaces do
(R472, R487, R498, R501); bring-up in its order (R76, R77, R425, R492 to R494); the rails, the resets and the PCIe links (R328, R362, R479
to R483, R490, R491, R494, R515); the test access port (R521); the scorecard's commands (R469, R477, R478); the cluster's streams and the
time objects (R386, R401, R462, R489); drawers and their migration (R369 to R373, R377); Derone's links and routes (R168 to R170, R190 to
R193); hands (R210 to R236); frames and sub-ports (R308, R312, R315, R320); the storage service and raw queues (R389 to R399); requests in
both protocols, keys and sessions (R257, R412, R413, R427, R438, R442 to R451). -/
def Obligations.FormsCompleteWithTheirEffect : Prop :=
  (∀ (s : State) (f : Nat), s.running = true → s.pageOpen f = true →
    exec (.ringEnable f) s = .next (s.ringEnable f true) ∧ exec (.ringDisable f) s = .next (s.ringEnable f false) ∧
    exec (.ringStatusRead f) s = .next ((s.pageRead f 0x44 4).2.emit (.regRead f 0x44 (s.pageRead f 0x44 4).1)) ∧
    (∀ off n x, f ≠ 0 ∨ off ≠ 0x108 → exec (.registerWrite f off n x) s = .next (s.pageWrite f off n x)) ∧
    (∀ x n, n = 4 ∨ n = 8 → exec (.registerWrite 0 0x108 n x) s = .next (if s.pageOpen 0 then (s.pageWrite 0 0x108 n x).doorbell (x % 2 ^ 32) else s))) ∧
  (∀ s : State, s.running = true →
    (∀ ts, exec (.thermalReading ts) s = .next (s.thermalReading ts)) ∧
    (∀ rs, 0 < s.level → exec (.governorSample rs) s = .next (s.governorSample rs)) ∧
    (∀ k, k < 8 → (s.stack k).lost = false → (s.stack k).up = true → exec (.stackInterfaceLoss k) s =
      .next ((((s.mem.moves.foldl (fun t m => t.failMove k m) (s.setStack k { s.stack k with lost := true })).parityTransfers k)).setCondition (16 + k) true)) ∧
    (∀ k, k < 8 → (s.stack k).lost = true → (s.stack k).up = true → exec (.stackInterfaceRetrained k) s =
      .next ((s.setStack k { s.stack k with lost := false }).setCondition (16 + k) false)) ∧
    (s.pw.mainUp = true → s.pw.bootReady = true → s.pw.held = false → exec .bootRomRun s = .next s.bootRom) ∧
    (∀ k, k < 8 → s.pw.stacksDone = k → s.pw.booted = true → s.recovery = false → s.level = 0 → s.pw.held = false → (s.stack k).lost = false →
      exec (.stackBringup k) s = .next ((({ s with pw := { s.pw with stacksDone := k + 1 } } : State).setStack k
        { s.stack k with up := true, clock := .mhz800, cycleAt := s.now }).setCondition (16 + k) false)) ∧
    (s.stage1Ready = true → exec .stage1Entry s = .next s.stage1) ∧
    (s.level = 1 → s.recovery = false → exec .laneCalibration s = .next { s with pw := { s.pw with calibrated := true } }) ∧
    (∀ k b, s.level = 1 → s.pw.calibrated = true → s.trimFailed = false → s.nextStack s.pw.trimsDone = some k →
      exec (.stackTrim k b) s =
        .next ((if b then ({ s with pw := { s.pw with trimsDone := k + 1 } } : State).setStack k { s.stack k with trimmed := b, trimFailed := !b }
          else (({ s with pw := { s.pw with trimsDone := k + 1 } } : State).setStack k { s.stack k with trimmed := b, trimFailed := !b }).setCondition
            8 true).resumeStack k)) ∧
    (∀ k, s.level = 1 → s.allTrimmed = true → s.nextStack s.pw.stepsDone = some k →
      (s.pw.stepsDone = 0 ∨ s.pw.lastStepAt + 100000000 ≤ s.now) → exec (.clockStep k) s = .next
        ((({ s.settleStack k with pw := { (s.settleStack k).pw with stepsDone := k + 1, lastStepAt := s.now } } : State).setStack k
          { (s.settleStack k).stack k with clock := .mhz1600 }).resumeStack k)) ∧
    (s.stage2Ready = true → exec .stage2Entry s = .next s.stage2) ∧
    (∀ c u, s.flt.resetDue = some (c, u) → exec .fullReset s = .next (s.fullReset c)) ∧
    (s.ring.p0.up = true →
      exec .p0DlDown s = .next { s with ring := { s.ring with p0 := { s.ring.p0 with up := false, downSince := some s.now } } }) ∧
    (∀ x w b, s.ring.p0.up = false → s.pw.perst0 = false → s.pw.dAt ≠ none → s.pw.bootStuck = false → linkTrains x w = true →
      s.ring.p0.downSince = none → exec (.p0DlUp x w b) s = .next (s.p0Up x w b)) ∧
    (∀ u, s.ring.p0.downSince = some u → s.p0Late u = true → s.flt.inReset = false →
      exec .p0LinkLossTimeout s = .next (s.resetCause .p0LinkLoss)) ∧
    (s.ring.p1.up = true → exec .p1LinkDown s = .next s.p1Down) ∧
    (∀ x w b, s.pw.perst1 = false → 2 ≤ s.level → linkTrains x w = true → s.ring.p1.up = false → exec (.p1DlUp x w b) s = .next
      (({ (s.freeNat 1).2 with ring := { (s.freeNat 1).2.ring with
        p1BusMaster := (s.freeNat 1).1 == 1, p1 := ⟨true, true, none, x, w, b⟩ } } : State).portEvent 2 3 1 0)) ∧
    (∀ m, 0 < s.level → exec (.scorecardClear m) s = .next (s.scorecardClear m)) ∧
    (∀ k, k < 24 → s.collecting = true → (s.line k).hold = false → (s.line k).up = true → k ≠ 5 → k ≠ 6 →
      exec (.scorecardEvent k) s = .next (s.sampleLine k)) ∧
    (s.pw.testmode = true → 0 < s.level → exec .injectStop s = .next s.injectStop ∧
      exec .injectStart s = .next { s with flt := { s.flt with
        injection := some ⟨s.obj 0x7F00 1, s.obj 0x7F00 2, s.obj 0x7F00 3, s.tick + 1⟩ } }) ∧
    (∀ x, s.flt.injection = some x → s.collecting = true → x.next ≤ s.tick → exec .injectEvent s = .next (s.injectRise x)) ∧
    (∀ k, k < 8 → 0 < s.level → exec (.telemetryEnable k) s = .next ((s.putObj (State.streamObj k) 1 0 1).streamEnable k 1)) ∧
    (∀ k, k < 8 → exec (.telemetryRecord k) s = .next (s.streamTake k)) ∧ exec .clusterWatchdogExpiry s = .next s.clusterFails ∧
    (∀ v, 0 < s.level → s.timeServiceRuns = false → 0 ≤ (s.deviceTime : Int) + (s.pw.stepDue.getD 0 + signed 64 v) →
      exec (.timeStep v) s = .next { s with pw := { s.pw with stepDue := some (s.pw.stepDue.getD 0 + signed 64 v) } }) ∧
    exec .ppsOutPulse s = .next s.ppsOut ∧ exec .ppsInEdge s = .next s.ppsIn ∧
    (0 < s.level → ∀ d, 1 ≤ d → d ≤ 127 →
      (s.drawerState d = 0 → exec (.drawerStop d) s = .next (s.stopEffects d)) ∧
      (s.drawerState d = 2 → exec (.drawerStart d) s = .next (s.setObj 0x2300 1 d 0)) ∧
      (s.drawerState d = 1 → s.drawerQuiet d = true → exec (.drawerStoppedReached d) s = .next (s.setObj 0x2300 1 d 2)) ∧
      (∀ c k, (c, k) ∈ [(Instr.migSave d, 1), (.migRestore d, 2), (.migCopyOut d, 3), (.migCopyIn d, 4), (.migLogStart d, 5), (.migLogSwap d, 6),
        (.migLogStop d, 7)] → s.obj 0x23C0 2 d ≠ 1 → s.migAllowed d k = true →
        exec c s = .next (((s.setObj 0x23C0 2 d 1).setObj 0x23C0 1 d k).migRun d k)))) ∧
  (∀ s : State,
    (s.pw.mainUp = true → s.pw.rootLocked = true → exec .rootLockLoss s = .next s.rootLost) ∧
    (s.pw.mainUp = true → s.pw.rootLocked = false → s.pw.tripped = false → exec .rootLockRestore s = .next s.rootBack) ∧
    (s.pw.mainUp = false → exec .powerGood s = .next s.powerUp) ∧
    (s.pw.mainUp = true → exec .mainRailsDown s = .next { s.powerLost with pw := { s.powerLost.pw with woken := false } } ∧
      (∀ r, r < 7 →
        exec (.mainRailExcursion r) s = .next (({ s with pw := { s.pw with railsOut := maskOr s.pw.railsOut (2 ^ r) } } : State).judgeSupply s) ∧
        exec (.mainRailReturn r) s = .next (({ s with pw := { s.pw with railsOut := maskClear s.pw.railsOut (2 ^ r) } } : State).judgeSupply s)) ∧
      exec (.vddAuxExcursion false) s = .next (({ s with pw := { s.pw with auxOk := false } } : State).judgeSupply s) ∧
      exec (.vddAuxExcursion true) s = .next ((({ s with pw := { s.pw with auxOk := true } } : State).copyWake).judgeSupply s)) ∧
    (∀ f, exec (.wakeFrameReceive f) s = .next (s.wake f)) ∧ exec .perst0Assert s = .next s.perst0Down ∧ exec .perst0Deassert s = .next s.perst0Up ∧
    (s.running = true → s.ring.p1.up = true →
      exec .perst1Assert s = .next ({ s with pw := { s.pw with perst1 := true } } : State).p1Down) ∧
    exec .perst1Deassert s = .next { s with pw := { s.pw with perst1 := false } } ∧
    exec .tapReset s = .next { s with pw := { s.pw with tap := .idcode } } ∧
    (∀ c i, (c, i) ∈ [(Instr.extest, TapInstr.extest), (.idcode, .idcode), (.clamp, .clamp), (.highz, .highz), (.bypass, .bypass)] →
      exec c s = .next (s.tapTake i)) ∧
    (∀ n, s.pw.mainUp = true → exec (.samplePreload n) s = .next { s.tapTake .samplePreload with
      pw := { (s.tapTake .samplePreload).pw with boundary := n % 2 ^ 17 } })) ∧
  (∀ s : State, s.running = true →
    (∀ (t p l n : Nat) (b : Bool) (f : List Byte) (c : Instr) (u : State),
      (c, u) ∈ [(Instr.handData t, s.takeData t), (.handCredit t, s.takeCredit t), (.handAbort t, s.takeAbort t), (.handDone t, s.takeDone t),
        (.handFin t, s.takeFin t), (.frameReceive p l f b, s.frameReceive p l b f), (.frameTransmit p l, s.transmit p l),
        (.gateConfigApply p l, s.gateApply p), (.nvmeC2hData n f, s.c2hData n f), (.nvmeR2t n f, s.r2t n f),
        (.nvmeCapsuleResp n f, s.capsuleResp n f), (.rawTxDescriptor n, s.rawTake n),
        (.hrtRxSend, s.receiveRequest 1), (.hrtRxWrite, s.receiveRequest 2), (.hrtRxReadReq, s.receiveRequest 3), (.hrtRxAdd, s.receiveRequest 5),
        (.hrtRxCas, s.receiveRequest 6), (.hrtRxFlush, s.receiveRequest 8), (.hrtRxColl, s.receiveRequest 9),
        (.ledgerRead n f, s.jorolRow (fun t => t == 1 || !requestType t) n f), (.ledgerWrite n f, s.jorolRow (· == 2) n f),
        (.domainRead n f, s.jorolRow (· == 3) n f), (.domainBegin n f, s.jorolRow (· == 4) n f), (.domainSegment n f, s.jorolRow (· == 5) n f),
        (.domainEnd n f, s.jorolRow (· == 6) n f), (.domainAbort n f, s.jorolRow (· == 7) n f), (.heartbeat n f, s.jorolRow (· == 0x10) n f),
        (.subscribe n f, s.jorolRow (· == 0x11) n f), (.notifyAck n f, s.jorolRow (· == 0x13) n f), (.close n f, s.jorolRow (· == 0x22) n f),
        (.helloExpiry n, s.helloExpire n), (.sessionIdleExpiry n, s.idleExpire n), (.notifyResend n, s.notifyAgain n),
        (.domainTransferTimeout n, s.domainExpire n), (.watchdogExpiry, s.watchdogTick), (.flashWrite n b, s.flashWrite n b)] → exec c s = .next u) ∧
    (∀ n, s.rawServed n = true → exec (.rawRxFrame n) s = .next (s.rawDeliver n)) ∧
    (∀ p, s.obj (0x2808 + p) 2 = 2 → exec (.deroneLinkDown p) s = .next (s.deroneDown p)) ∧
    (∀ p m q, s.obj (0x2808 + p) 2 = 1 → s.obj (0x2808 + p) 1 ≠ 0 → m ≠ s.moduleId →
      let t := (s.setObj (0x2808 + p) 3 0 m).setObj (0x2808 + p) 4 0 q
      exec (.deroneTrainingDone p m q) s =
        .next (((t.setObj (0x2808 + p) 2 0 2).judgeDerone t).raiseDevice 2 (1 * 256 + p) [1, BitVec.ofNat 8 p, 0])) ∧
    (∀ p l, (s.sub (4 * p + l)).link = .up → exec (.subportDown p l) s = .next (s.subDown p l)) ∧
    (s.obj 0x2800 3 = 1 → s.deroneIdle s.handsOut = true → exec .routeDrained s = .next (s.setObj 0x2800 3 0 2)) ∧
    (0 < s.level →
      (∀ c k u, (c, k) ∈ [(Instr.routeDrain, 1), (.routeSwap, 2), (.routeResume, 3), (.routeAbort, 4)] → s.routeCommand k = some u →
        exec c s = .next u) ∧
      (∀ d b u, d < 128 → s.keyWrite d b = some u → exec (.keyWrite d b) s = .next u) ∧
      (∀ d k u, d < 128 → s.keyClear d k = some u → exec (.keyClear d k) s = .next u) ∧
      (∀ d b, d < 128 → b.length = 137 → exec (.kekLoad d b) s = .next (s.kekLoad d b)) ∧
      (∀ v u, s.svnCommit v = some u → exec (.svnCommit v) s = .next u) ∧ exec (.resetCommand 0) s = .next (s.resetCause .command) ∧
      (∀ bs, bs.length = 512 → exec (.benchOwnerWrite bs) s = .next (s.benchOwners bs)) ∧
      (∀ u, s.led.chunkRun = none → s.chunkGo = some u → exec .chunkGo s = .next u) ∧
      (∀ d u, s.recycle d = some u → exec (.recycle d) s = .next u) ∧
      (∀ p v, v ≤ 1 → exec (.deroneLinkEnableWrite p v) s = .next ((s.linkEnable p v).settleHands)) ∧
      (∀ p v, v ≤ 1 → p ≤ 8 → exec (.ethLinkEnableWrite p v) s = .next (s.ethEnable p v)) ∧
      (∀ p l u, s.configChange p = some u → exec (.configChange p l) s = .next u) ∧
      (∀ q u, s.rawEnable q = some u → exec (.rawQueueEnable q) s = .next u) ∧ (∀ q, exec (.rawQueueDisable q) s = .next (s.rawDisable q)) ∧
      (∀ c, s.connState c = 0 → 128 ≤ s.obj (State.connObj c) 1 → bit (s.obj 0x2C00 3) 2 = true →
        exec (.nvmeConnect c) s = .next (s.beginConn c)) ∧
      (∀ c, s.connState c ≠ 0 → exec (.nvmeDisconnect c) s = .next (s.leaveConn c 0 0 none))) ∧
    (∀ c, let o := State.connObj c
      let v := s.conn c
      (s.connState c = 1 → s.connServed c = true → (s.sub (4 * (s.obj o 4 / 16 % 8) + s.obj o 4 % 4)).link = .up →
        exec (.nvmeConnectDone c) s = .next (((s.setObj o 3 0 2).setConn c { v with since := s.now, keepAt := s.now }).setupConn c)) ∧
      (∀ b, s.connState c = 1 → exec (.nvmeConnectTimeout c b) s = .next (s.leaveConn c 3 (if b then 0x12 else 9) none)) ∧
      (s.connState c = 2 → exec (.nvmeConnectionLoss c) s = .next (s.leaveConn c 3 9 none)) ∧
      (∀ x ∈ s.clu.ios, ∀ m ∈ x.cmds, x.conn = c → s.connState c = 2 → m.sentAt + s.obj o 0x0D * 1000000000 ≤ s.now →
        exec (.nvmeIoTimeout c) s = .next (s.leaveConn c 3 9 none)) ∧
      (s.connState c = 3 → bit (s.obj 0x2C00 3) 2 = true → v.since + s.obj o 0x0E * 1000000000 ≤ s.now →
        exec (.nvmeReconnectDelay c) s = .next ((s.beginConn c).count 0x5700 7 1)) ∧
      (s.connState c = 2 → v.keepAt + 30000000000000 ≤ s.now →
        exec (.nvmeKeepAlive c) s = .next ((s.setConn c { v with keepAt := s.now, nextCid := (v.nextCid + 1) % 65536 }).emit
          (.nvme c (capsule (s.digests c) 0x18 v.nextCid 0 0 []))))))
end

