-- ==== Sys2Proof/Laws/Bits.lean ====
section
/-! SUPPORT. Laws/Bits.lean: lengths and round trips of byte strings, saturating and modular arithmetic, and the keys of ledger
objects. -/

namespace Sys2Proof.Machine

@[simp] theorem length_leBytes (n v : Nat) : (leBytes n v).length = n := by
  induction n generalizing v with
  | zero => rfl
  | succ n ih => simp [leBytes, ih]

@[simp] theorem length_beBytes (n v : Nat) : (beBytes n v).length = n := by simp [beBytes]

@[simp] theorem length_padTo (n : Nat) (bs : List Byte) : (padTo n bs).length = n := by
  simp only [padTo, List.length_append, List.length_take, List.length_replicate]
  omega

@[simp] theorem length_workRecord (st op tag : Nat) (res : List Byte) : (workRecord st op tag res).length = 32 := by
  simp [workRecord]

@[simp] theorem length_eventRecord (e : PendingEvent) : (State.eventRecord e).length = 32 := by simp [State.eventRecord]

/-- The bytes of a number spell it, modulo their range. -/
theorem ofLe_leBytes (n v : Nat) : ofLe (leBytes n v) = v % 256 ^ n := by
  induction n generalizing v with
  | zero => simp [leBytes, ofLe, Nat.mod_one]
  | succ n ih =>
    simp only [leBytes, ofLe, ih, BitVec.toNat_ofNat]
    rw [pow_succ' 256 n, Nat.mod_mul]

theorem ofBe_beBytes (n v : Nat) : ofBe (beBytes n v) = v % 256 ^ n := by simp [ofBe, beBytes, ofLe_leBytes]

theorem satAdd_le (w a b : Nat) : satAdd w a b ≤ 2 ^ w - 1 := Nat.min_le_right _ _

theorem satAdd_ge (w a b : Nat) (h : a < 2 ^ w) : a ≤ satAdd w a b := by
  unfold satAdd
  omega

theorem subMod_lt {m : Nat} (a b : Nat) (h : 0 < m) : subMod m a b < m := Nat.mod_lt _ h

theorem subMod_self {m : Nat} (a : Nat) (h : a < m) : subMod m a a = 0 := by
  unfold subMod
  rw [Nat.mod_eq_of_lt h, Nat.add_sub_cancel' (Nat.le_of_lt h), Nat.mod_self]

/-- The distance forward is undone by adding it. -/
theorem add_subMod {m : Nat} (a b : Nat) (ha : a < m) (hb : b < m) : (b + subMod m a b) % m = a := by
  unfold subMod
  rw [Nat.mod_eq_of_lt hb, Nat.add_mod_mod, show b + (a + (m - b)) = a + m by omega, Nat.add_mod_right, Nat.mod_eq_of_lt ha]

@[simp] theorem bnat_true : bnat true = 1 := rfl
@[simp] theorem bnat_false : bnat false = 0 := rfl

/-- A fold keeps what each of its steps keeps. -/
theorem foldl_keep {α β γ : Type} (p : α → γ) (g : α → β → α) (hg : ∀ u k, p (g u k) = p u) (l : List β) (t : α) :
    p (l.foldl g t) = p t := by
  induction l generalizing t with
  | nil => rfl
  | cons k l ih => exact (ih (g t k)).trans (hg t k)

/-- A property that every step keeps holds after a fold. -/
theorem foldl_inv {α β : Type} (P : α → Prop) (g : α → β → α) (hg : ∀ u k, P u → P (g u k)) (l : List β) (t : α) (h : P t) :
    P (l.foldl g t) := by
  induction l generalizing t with
  | nil => exact h
  | cons k l ih => exact ih (g t k) (hg t k h)

/-- Objects whose subindex and instance lie in their ranges have distinct keys. -/
theorem objKey_inj {i b n i' b' n' : Nat} (hb : b < 256) (hb' : b' < 256) (hn : n < 65536) (hn' : n' < 65536)
    (h : objKey i b n = objKey i' b' n') : i = i' ∧ b = b' ∧ n = n' := by
  unfold objKey at h
  omega

theorem objKey_ne {i b n i' b' n' : Nat} (hb : b < 256) (hb' : b' < 256) (hn : n < 65536) (hn' : n' < 65536)
    (h : i ≠ i' ∨ b ≠ b' ∨ n ≠ n') : objKey i b n ≠ objKey i' b' n' := fun e => by
  have := objKey_inj hb hb' hn hn' e
  omega

end Sys2Proof.Machine
end

