-- ==== Sys2Proof/Laws/Sparse.lean ====
section
/-! SUPPORT. Laws/Sparse.lean: the laws of sparse tables and byte memories: a read after a write of the same key gives the
value written, a write leaves every other key alone, and every operation keeps the canonical form. -/

namespace Sys2Proof.Machine

variable {α : Type} [DecidableEq α] {d : Nat → α}

theorem Sparse.wfFrom_mono {m : Sparse α} {a b : Nat} (h : Sparse.wfFrom d m b = true) (hab : a ≤ b) :
    Sparse.wfFrom d m a = true := by
  cases m with
  | nil => rfl
  | cons p r =>
    obtain ⟨j, v⟩ := p
    simp only [Sparse.wfFrom, Bool.and_eq_true, decide_eq_true_eq] at h ⊢
    exact ⟨⟨by omega, h.1.2⟩, h.2⟩

/-- A key below every listed key reads as the unlisted value. -/
theorem Sparse.get_of_lt {m : Sparse α} {lo k : Nat} (h : Sparse.wfFrom d m lo = true) (hk : k < lo) :
    Sparse.get d m k = d k := by
  induction m generalizing lo with
  | nil => rfl
  | cons p r ih =>
    obtain ⟨j, v⟩ := p
    simp only [Sparse.wfFrom, Bool.and_eq_true, decide_eq_true_eq] at h
    have : j ≠ k := by omega
    simp only [Sparse.get, this, if_false]
    exact ih h.2 (by omega)

theorem Sparse.get_ins_same (m : Sparse α) (k : Nat) (a : α) : Sparse.get d (Sparse.ins m k a) k = a := by
  induction m with
  | nil => simp [Sparse.ins, Sparse.get]
  | cons p r ih =>
    obtain ⟨j, v⟩ := p
    simp only [Sparse.ins]
    split
    · simp [Sparse.get]
    · split
      · simp [Sparse.get]
      · rename_i h1 h2; simp [Sparse.get, h1, ih]

theorem Sparse.get_ins_ne (m : Sparse α) {k x : Nat} (a : α) (h : k ≠ x) :
    Sparse.get d (Sparse.ins m k a) x = Sparse.get d m x := by
  induction m with
  | nil => simp [Sparse.ins, Sparse.get, h]
  | cons p r ih =>
    obtain ⟨j, v⟩ := p
    simp only [Sparse.ins]
    split
    · rename_i hj; subst hj; simp [Sparse.get, h]
    · split
      · simp [Sparse.get, h]
      · simp [Sparse.get, ih]

theorem Sparse.get_del_ne (m : Sparse α) {k x : Nat} (h : k ≠ x) :
    Sparse.get d (Sparse.del m k) x = Sparse.get d m x := by
  induction m with
  | nil => rfl
  | cons p r ih =>
    obtain ⟨j, v⟩ := p
    simp only [Sparse.del]
    split
    · rename_i hj; subst hj; simp [Sparse.get, h, ih]
    · simp [Sparse.get, ih]

theorem Sparse.get_del_same (m : Sparse α) (k : Nat) : Sparse.get d (Sparse.del m k) k = d k := by
  induction m with
  | nil => rfl
  | cons p r ih =>
    obtain ⟨j, v⟩ := p
    simp only [Sparse.del]
    split
    · exact ih
    · rename_i h1; simp only [Sparse.get, h1, if_false]; exact ih

/-- A read after a write to the same key gives the value written. -/
@[simp] theorem Sparse.get_set_same (m : Sparse α) (k : Nat) (a : α) :
    Sparse.get d (Sparse.set d m k a) k = a := by
  unfold Sparse.set
  split
  · rename_i e; rw [Sparse.get_del_same m k, e]
  · exact Sparse.get_ins_same m k a

/-- A write leaves every other key alone. -/
theorem Sparse.get_set_ne (m : Sparse α) {k x : Nat} (a : α) (h : k ≠ x) :
    Sparse.get d (Sparse.set d m k a) x = Sparse.get d m x := by
  unfold Sparse.set
  split
  · exact Sparse.get_del_ne m h
  · exact Sparse.get_ins_ne m a h

theorem Sparse.wfFrom_ins {m : Sparse α} {lo k : Nat} {a : α} (h : Sparse.wfFrom d m lo = true) (hk : lo ≤ k)
    (ha : a ≠ d k) : Sparse.wfFrom d (Sparse.ins m k a) lo = true := by
  induction m generalizing lo with
  | nil => simp [Sparse.ins, Sparse.wfFrom, hk, ha]
  | cons p r ih =>
    obtain ⟨j, v⟩ := p
    simp only [Sparse.wfFrom, Bool.and_eq_true, decide_eq_true_eq] at h
    simp only [Sparse.ins]
    split
    · rename_i hj; subst hj; simp [Sparse.wfFrom, hk, ha, h.2]
    · split
      · simp only [Sparse.wfFrom, Bool.and_eq_true, decide_eq_true_eq]
        exact ⟨⟨hk, ha⟩, ⟨by omega, h.1.2⟩, h.2⟩
      · simp only [Sparse.wfFrom, Bool.and_eq_true, decide_eq_true_eq]
        exact ⟨h.1, ih h.2 (by omega)⟩

theorem Sparse.wfFrom_del {m : Sparse α} {lo : Nat} (k : Nat) (h : Sparse.wfFrom d m lo = true) :
    Sparse.wfFrom d (Sparse.del m k) lo = true := by
  induction m generalizing lo with
  | nil => rfl
  | cons p r ih =>
    obtain ⟨j, v⟩ := p
    simp only [Sparse.wfFrom, Bool.and_eq_true, decide_eq_true_eq] at h
    simp only [Sparse.del]
    split
    · exact Sparse.wfFrom_mono (ih h.2) (by omega)
    · simp only [Sparse.wfFrom, Bool.and_eq_true, decide_eq_true_eq]
      exact ⟨h.1, ih h.2⟩

/-- Setting a value keeps the canonical form. -/
theorem Sparse.wf_set {m : Sparse α} (k : Nat) (a : α) (h : Sparse.wf d m = true) :
    Sparse.wf d (Sparse.set d m k a) = true := by
  unfold Sparse.set Sparse.wf at *
  split
  · exact Sparse.wfFrom_del k h
  · rename_i e; exact Sparse.wfFrom_ins h (Nat.zero_le k) e

theorem Sparse.wfFrom_filter {m : Sparse α} {lo : Nat} (p : Nat × α → Bool) (h : Sparse.wfFrom d m lo = true) :
    Sparse.wfFrom d (m.filter p) lo = true := by
  induction m generalizing lo with
  | nil => rfl
  | cons q r ih =>
    obtain ⟨j, v⟩ := q
    simp only [Sparse.wfFrom, Bool.and_eq_true, decide_eq_true_eq] at h
    simp only [List.filter_cons]
    split
    · simp only [Sparse.wfFrom, Bool.and_eq_true, decide_eq_true_eq]
      exact ⟨h.1, ih h.2⟩
    · exact Sparse.wfFrom_mono (ih h.2) (by omega)

/-- A byte memory: read after write to the same address. -/
@[simp] theorem Ram.read_write_same (r : Ram) (a : Nat) (v : Byte) : (r.write a v).read a = v :=
  Sparse.get_set_same r.cells a v

/-- A write leaves every other address alone. -/
theorem Ram.read_write_ne (r : Ram) {a x : Nat} (v : Byte) (h : a ≠ x) : (r.write a v).read x = r.read x :=
  Sparse.get_set_ne r.cells v h

/-- Every write keeps the canonical form. -/
theorem Ram.wf_write {r : Ram} (a : Nat) (v : Byte) (h : r.wf = true) : (r.write a v).wf = true :=
  Sparse.wf_set a v h

theorem Ram.wf_writeBytes {r : Ram} (a : Nat) (bs : List Byte) (h : r.wf = true) : (r.writeBytes a bs).wf = true := by
  induction bs generalizing r a with
  | nil => exact h
  | cons b bs ih => exact ih (a + 1) (Ram.wf_write a b h)

theorem Ram.wf_apply {r : Ram} (cs : List Host.Cell) (h : r.wf = true) : (r.apply cs).wf = true := by
  induction cs generalizing r with
  | nil => exact h
  | cons c cs ih => exact ih (Ram.wf_write c.1 c.2 h)

theorem Ram.wf_zeroFill {r : Ram} (a n : Nat) (h : r.wf = true) : (r.zeroFill a n).wf = true := by
  unfold Ram.zeroFill
  split
  · exact Sparse.wfFrom_filter _ h
  · exact Ram.wf_writeBytes a _ h

theorem Ram.wf_scramble {r : Ram} (a n k : Nat) (h : r.wf = true) : (r.scramble a n k).wf = true :=
  Ram.wf_writeBytes a _ h

theorem Ram.wf_lose (r : Ram) : r.lose.wf = true := rfl

theorem Ram.wf_empty : Ram.empty.wf = true := rfl

/-- A block write leaves every address outside the block alone. -/
theorem Ram.read_writeBytes_out (r : Ram) (a : Nat) (bs : List Byte) {x : Nat} (h : x < a ∨ a + bs.length ≤ x) :
    (r.writeBytes a bs).read x = r.read x := by
  induction bs generalizing r a with
  | nil => rfl
  | cons b bs ih =>
    simp only [List.length_cons] at h
    rw [Ram.writeBytes, ih (r.write a b) (a + 1) (by omega)]
    exact Ram.read_write_ne r b (by omega)

end Sys2Proof.Machine
end

