-- ==== Sys2Proof/Laws/Memory.lean ====
section
/-! SUPPORT. Laws/Memory.lean: block reads and writes of a byte memory. -/

namespace Sys2Proof.Machine

@[simp] theorem Ram.length_readBytes (r : Ram) (a n : Nat) : (r.readBytes a n).length = n := by
  induction n generalizing a with
  | zero => rfl
  | succ n ih => simp [Ram.readBytes, ih]

/-- Equal bytes make equal blocks. -/
theorem Ram.readBytes_congr {r q : Ram} {a n : Nat} (h : ∀ x, a ≤ x → x < a + n → r.read x = q.read x) :
    r.readBytes a n = q.readBytes a n := by
  induction n generalizing a with
  | zero => rfl
  | succ n ih =>
    simp only [Ram.readBytes]
    rw [h a (Nat.le_refl a) (by omega), ih fun x h1 h2 => h x (by omega) (by omega)]

/-- A block reads back as it was written. -/
@[simp] theorem Ram.readBytes_writeBytes (r : Ram) (a : Nat) (bs : List Byte) : (r.writeBytes a bs).readBytes a bs.length = bs := by
  induction bs generalizing r a with
  | nil => rfl
  | cons b bs ih =>
    simp only [Ram.writeBytes, List.length_cons, Ram.readBytes]
    rw [ih, Ram.read_writeBytes_out _ _ _ (by omega), Ram.read_write_same]

theorem Ram.readBytes_writeBytes_of_length (r : Ram) (a n : Nat) (bs : List Byte) (h : bs.length = n) :
    (r.writeBytes a bs).readBytes a n = bs := by
  subst h
  exact Ram.readBytes_writeBytes r a bs

/-- A block apart from another block keeps its bytes when the other is written. -/
theorem Ram.readBytes_writeBytes_out (r : Ram) (a b n : Nat) (bs : List Byte) (h : b + n ≤ a ∨ a + bs.length ≤ b) :
    (r.writeBytes a bs).readBytes b n = r.readBytes b n :=
  Ram.readBytes_congr fun _ h1 h2 => Ram.read_writeBytes_out r a bs (by omega)

@[simp] theorem Ram.losses_write (r : Ram) (a : Nat) (v : Byte) : (r.write a v).losses = r.losses := rfl

@[simp] theorem Ram.losses_writeBytes (r : Ram) (a : Nat) (bs : List Byte) : (r.writeBytes a bs).losses = r.losses := by
  induction bs generalizing r a with
  | nil => rfl
  | cons b bs ih => rw [Ram.writeBytes, ih, Ram.losses_write]

/-- Writing repairs parity, and marks none (R146). -/
theorem Ram.bad_writeBytes (r : Ram) (a : Nat) (bs : List Byte) :
    (r.writeBytes a bs).bad = r.bad.filter fun x => !(decide (a ≤ x) && decide (x < a + bs.length)) := by
  induction bs generalizing r a with
  | nil => simp only [Ram.writeBytes, List.length_nil]; rw [List.filter_eq_self.2]; intro x _; simp; omega
  | cons b bs ih =>
    rw [Ram.writeBytes, ih]
    simp only [Ram.write, List.filter_filter, List.length_cons]
    congr 1
    funext x
    rw [Bool.eq_iff_iff]
    simp
    omega

@[simp] theorem Ram.hasBad_nil (r : Ram) (a n : Nat) (h : r.bad = []) : r.hasBad a n = false := by simp [Ram.hasBad, h]

theorem Ram.hasBad_writeBytes_self (r : Ram) (a : Nat) (bs : List Byte) : (r.writeBytes a bs).hasBad a bs.length = false := by
  simp only [Ram.hasBad, Ram.bad_writeBytes, List.any_eq_false, List.mem_filter]
  intro x hx
  have := hx.2
  simp at this ⊢
  omega

@[simp] theorem Ram.le_writeBytes (r : Ram) (a n v : Nat) : (r.writeBytes a (leBytes n v)).le a n = v % 256 ^ n := by
  rw [Ram.le, Ram.readBytes_writeBytes_of_length r a n _ (length_leBytes n v), ofLe_leBytes]

theorem Sparse.get_filter {α : Type} (d : Nat → α) (m : Sparse α) (p : Nat → Bool) (k : Nat) (h : p k = true) :
    Sparse.get d (m.filter fun c => p c.1) k = Sparse.get d m k := by
  induction m with
  | nil => rfl
  | cons c m ih =>
    obtain ⟨j, v⟩ := c
    by_cases hj : j = k
    · subst hj; simp [h, Sparse.get]
    · by_cases hp : p j <;> simp [hp, Sparse.get, hj, ih]

theorem Sparse.get_filter_out {α : Type} (d : Nat → α) (m : Sparse α) (p : Nat → Bool) (k : Nat) (h : p k = false) :
    Sparse.get d (m.filter fun c => p c.1) k = d k := by
  induction m with
  | nil => rfl
  | cons c m ih =>
    obtain ⟨j, v⟩ := c
    by_cases hj : j = k
    · subst hj; simp [h, ih]
    · by_cases hp : p j <;> simp [hp, Sparse.get, hj, ih]

/-- Zero-filled bytes read 0. -/
theorem Ram.read_zeroFill_in (r : Ram) (a n : Nat) {x : Nat} (h1 : a ≤ x) (h2 : x < a + n) : (r.zeroFill a n).read x = 0 := by
  unfold Ram.zeroFill
  split
  · rename_i h
    simp only [Ram.read, Sparse.get_filter_out _ r.cells (fun k => !(decide (a ≤ k) && decide (k < a + n))) x (by simp; omega),
      Ram.unlisted, h, if_true]
  · have := Ram.readBytes_writeBytes r a (List.replicate n (0 : Byte))
    rw [List.length_replicate] at this
    clear * - this h1 h2
    obtain ⟨i, rfl⟩ : ∃ i, x = a + i := ⟨x - a, by omega⟩
    have hi : i < n := by omega
    clear h1 h2
    generalize r.writeBytes a (List.replicate n 0) = q at this
    induction n generalizing a i with
    | zero => omega
    | succ n ih =>
      simp only [Ram.readBytes, List.replicate_succ, List.cons.injEq] at this
      cases i with
      | zero => exact this.1
      | succ i => rw [show a + (i + 1) = a + 1 + i by omega]; exact ih (a + 1) i (by omega) this.2

/-- Bytes outside a zero-filled range are unchanged. -/
theorem Ram.read_zeroFill_out (r : Ram) (a n : Nat) {x : Nat} (h : x < a ∨ a + n ≤ x) : (r.zeroFill a n).read x = r.read x := by
  unfold Ram.zeroFill
  split
  · simp only [Ram.read]
    exact Sparse.get_filter _ r.cells (fun k => !(decide (a ≤ k) && decide (k < a + n))) x (by simp; omega)
  · exact Ram.read_writeBytes_out r a _ (by simpa using h)

end Sys2Proof.Machine
end

