-- ==== Sys2Proof/Laws/State.lean ====
section
/-! SUPPORT. Laws/State.lean: what each named update of the State leaves alone, one lemma for each field, and what is read
back after it. No later proof unfolds a record update. -/

namespace Sys2Proof.Machine

variable (s : State)

/-! setObj -/

@[simp] theorem State.setObj_pending (idx sub inst v : Nat) : (s.setObj idx sub inst v).pending = s.pending := rfl
@[simp] theorem State.setObj_now (idx sub inst v : Nat) : (s.setObj idx sub inst v).now = s.now := rfl
@[simp] theorem State.setObj_drawn (idx sub inst v : Nat) : (s.setObj idx sub inst v).drawn = s.drawn := rfl
@[simp] theorem State.setObj_mem (idx sub inst v : Nat) : (s.setObj idx sub inst v).mem = s.mem := rfl
@[simp] theorem State.setObj_cmp (idx sub inst v : Nat) : (s.setObj idx sub inst v).cmp = s.cmp := rfl
@[simp] theorem State.setObj_ring (idx sub inst v : Nat) : (s.setObj idx sub inst v).ring = s.ring := rfl
@[simp] theorem State.setObj_fab (idx sub inst v : Nat) : (s.setObj idx sub inst v).fab = s.fab := rfl
@[simp] theorem State.setObj_eth (idx sub inst v : Nat) : (s.setObj idx sub inst v).eth = s.eth := rfl
@[simp] theorem State.setObj_clu (idx sub inst v : Nat) : (s.setObj idx sub inst v).clu = s.clu := rfl
@[simp] theorem State.setObj_hrt (idx sub inst v : Nat) : (s.setObj idx sub inst v).hrt = s.hrt := rfl
@[simp] theorem State.setObj_hands (idx sub inst v : Nat) : (s.setObj idx sub inst v).hands = s.hands := rfl
@[simp] theorem State.setObj_cipher (idx sub inst v : Nat) : (s.setObj idx sub inst v).cipher = s.cipher := rfl
@[simp] theorem State.setObj_flt (idx sub inst v : Nat) : (s.setObj idx sub inst v).flt = s.flt := rfl
@[simp] theorem State.setObj_pw (idx sub inst v : Nat) : (s.setObj idx sub inst v).pw = s.pw := rfl
@[simp] theorem State.setObj_out (idx sub inst v : Nat) : (s.setObj idx sub inst v).out = s.out := rfl
@[simp] theorem State.setObj_led_blobs (idx sub inst v : Nat) : (s.setObj idx sub inst v).led.blobs = s.led.blobs := rfl
@[simp] theorem State.setObj_led_flashVals (idx sub inst v : Nat) : (s.setObj idx sub inst v).led.flashVals = s.led.flashVals := rfl
@[simp] theorem State.setObj_led_flashBlobs (idx sub inst v : Nat) : (s.setObj idx sub inst v).led.flashBlobs = s.led.flashBlobs := rfl
@[simp] theorem State.setObj_led_flashDue (idx sub inst v : Nat) : (s.setObj idx sub inst v).led.flashDue = s.led.flashDue := rfl
@[simp] theorem State.setObj_led_force (idx sub inst v : Nat) : (s.setObj idx sub inst v).led.force = s.led.force := rfl
@[simp] theorem State.setObj_led_ctrs (idx sub inst v : Nat) : (s.setObj idx sub inst v).led.ctrs = s.led.ctrs := rfl
@[simp] theorem State.setObj_led_rises (idx sub inst v : Nat) : (s.setObj idx sub inst v).led.rises = s.led.rises := rfl
@[simp] theorem State.setObj_led_riseAt (idx sub inst v : Nat) : (s.setObj idx sub inst v).led.riseAt = s.led.riseAt := rfl
@[simp] theorem State.setObj_led_secrets (idx sub inst v : Nat) : (s.setObj idx sub inst v).led.secrets = s.led.secrets := rfl
@[simp] theorem State.setObj_led_authFails (idx sub inst v : Nat) : (s.setObj idx sub inst v).led.authFails = s.led.authFails := rfl
@[simp] theorem State.setObj_led_helloBlocked (idx sub inst v : Nat) : (s.setObj idx sub inst v).led.helloBlocked = s.led.helloBlocked := rfl
@[simp] theorem State.setObj_led_sessions (idx sub inst v : Nat) : (s.setObj idx sub inst v).led.sessions = s.led.sessions := rfl
@[simp] theorem State.setObj_led_domains (idx sub inst v : Nat) : (s.setObj idx sub inst v).led.domains = s.led.domains := rfl
@[simp] theorem State.setObj_led_snapshots (idx sub inst v : Nat) : (s.setObj idx sub inst v).led.snapshots = s.led.snapshots := rfl
@[simp] theorem State.setObj_led_chunkRun (idx sub inst v : Nat) : (s.setObj idx sub inst v).led.chunkRun = s.led.chunkRun := rfl
@[simp] theorem State.setObj_led_mbBase (idx sub inst v : Nat) : (s.setObj idx sub inst v).led.mbBase = s.led.mbBase := rfl
@[simp] theorem State.setObj_led_mbDone (idx sub inst v : Nat) : (s.setObj idx sub inst v).led.mbDone = s.led.mbDone := rfl
@[simp] theorem State.setObj_led_mbIntEn (idx sub inst v : Nat) : (s.setObj idx sub inst v).led.mbIntEn = s.led.mbIntEn := rfl
@[simp] theorem State.setObj_led_mbBusy (idx sub inst v : Nat) : (s.setObj idx sub inst v).led.mbBusy = s.led.mbBusy := rfl
@[simp] theorem State.setObj_led_mbError (idx sub inst v : Nat) : (s.setObj idx sub inst v).led.mbError = s.led.mbError := rfl
@[simp] theorem State.setObj_led_watchdog (idx sub inst v : Nat) : (s.setObj idx sub inst v).led.watchdog = s.led.watchdog := rfl

/-! setBlob -/

@[simp] theorem State.setBlob_pending (idx sub inst : Nat) (v : List Byte) : (s.setBlob idx sub inst v).pending = s.pending := rfl
@[simp] theorem State.setBlob_now (idx sub inst : Nat) (v : List Byte) : (s.setBlob idx sub inst v).now = s.now := rfl
@[simp] theorem State.setBlob_drawn (idx sub inst : Nat) (v : List Byte) : (s.setBlob idx sub inst v).drawn = s.drawn := rfl
@[simp] theorem State.setBlob_mem (idx sub inst : Nat) (v : List Byte) : (s.setBlob idx sub inst v).mem = s.mem := rfl
@[simp] theorem State.setBlob_cmp (idx sub inst : Nat) (v : List Byte) : (s.setBlob idx sub inst v).cmp = s.cmp := rfl
@[simp] theorem State.setBlob_ring (idx sub inst : Nat) (v : List Byte) : (s.setBlob idx sub inst v).ring = s.ring := rfl
@[simp] theorem State.setBlob_fab (idx sub inst : Nat) (v : List Byte) : (s.setBlob idx sub inst v).fab = s.fab := rfl
@[simp] theorem State.setBlob_eth (idx sub inst : Nat) (v : List Byte) : (s.setBlob idx sub inst v).eth = s.eth := rfl
@[simp] theorem State.setBlob_clu (idx sub inst : Nat) (v : List Byte) : (s.setBlob idx sub inst v).clu = s.clu := rfl
@[simp] theorem State.setBlob_hrt (idx sub inst : Nat) (v : List Byte) : (s.setBlob idx sub inst v).hrt = s.hrt := rfl
@[simp] theorem State.setBlob_hands (idx sub inst : Nat) (v : List Byte) : (s.setBlob idx sub inst v).hands = s.hands := rfl
@[simp] theorem State.setBlob_cipher (idx sub inst : Nat) (v : List Byte) : (s.setBlob idx sub inst v).cipher = s.cipher := rfl
@[simp] theorem State.setBlob_flt (idx sub inst : Nat) (v : List Byte) : (s.setBlob idx sub inst v).flt = s.flt := rfl
@[simp] theorem State.setBlob_pw (idx sub inst : Nat) (v : List Byte) : (s.setBlob idx sub inst v).pw = s.pw := rfl
@[simp] theorem State.setBlob_out (idx sub inst : Nat) (v : List Byte) : (s.setBlob idx sub inst v).out = s.out := rfl
@[simp] theorem State.setBlob_led_vals (idx sub inst : Nat) (v : List Byte) : (s.setBlob idx sub inst v).led.vals = s.led.vals := rfl
@[simp] theorem State.setBlob_led_flashVals (idx sub inst : Nat) (v : List Byte) : (s.setBlob idx sub inst v).led.flashVals = s.led.flashVals := rfl
@[simp] theorem State.setBlob_led_flashBlobs (idx sub inst : Nat) (v : List Byte) : (s.setBlob idx sub inst v).led.flashBlobs = s.led.flashBlobs := rfl
@[simp] theorem State.setBlob_led_flashDue (idx sub inst : Nat) (v : List Byte) : (s.setBlob idx sub inst v).led.flashDue = s.led.flashDue := rfl
@[simp] theorem State.setBlob_led_force (idx sub inst : Nat) (v : List Byte) : (s.setBlob idx sub inst v).led.force = s.led.force := rfl
@[simp] theorem State.setBlob_led_ctrs (idx sub inst : Nat) (v : List Byte) : (s.setBlob idx sub inst v).led.ctrs = s.led.ctrs := rfl
@[simp] theorem State.setBlob_led_rises (idx sub inst : Nat) (v : List Byte) : (s.setBlob idx sub inst v).led.rises = s.led.rises := rfl
@[simp] theorem State.setBlob_led_riseAt (idx sub inst : Nat) (v : List Byte) : (s.setBlob idx sub inst v).led.riseAt = s.led.riseAt := rfl
@[simp] theorem State.setBlob_led_secrets (idx sub inst : Nat) (v : List Byte) : (s.setBlob idx sub inst v).led.secrets = s.led.secrets := rfl
@[simp] theorem State.setBlob_led_authFails (idx sub inst : Nat) (v : List Byte) : (s.setBlob idx sub inst v).led.authFails = s.led.authFails := rfl
@[simp] theorem State.setBlob_led_helloBlocked (idx sub inst : Nat) (v : List Byte) : (s.setBlob idx sub inst v).led.helloBlocked = s.led.helloBlocked := rfl
@[simp] theorem State.setBlob_led_sessions (idx sub inst : Nat) (v : List Byte) : (s.setBlob idx sub inst v).led.sessions = s.led.sessions := rfl
@[simp] theorem State.setBlob_led_domains (idx sub inst : Nat) (v : List Byte) : (s.setBlob idx sub inst v).led.domains = s.led.domains := rfl
@[simp] theorem State.setBlob_led_snapshots (idx sub inst : Nat) (v : List Byte) : (s.setBlob idx sub inst v).led.snapshots = s.led.snapshots := rfl
@[simp] theorem State.setBlob_led_chunkRun (idx sub inst : Nat) (v : List Byte) : (s.setBlob idx sub inst v).led.chunkRun = s.led.chunkRun := rfl
@[simp] theorem State.setBlob_led_mbBase (idx sub inst : Nat) (v : List Byte) : (s.setBlob idx sub inst v).led.mbBase = s.led.mbBase := rfl
@[simp] theorem State.setBlob_led_mbDone (idx sub inst : Nat) (v : List Byte) : (s.setBlob idx sub inst v).led.mbDone = s.led.mbDone := rfl
@[simp] theorem State.setBlob_led_mbIntEn (idx sub inst : Nat) (v : List Byte) : (s.setBlob idx sub inst v).led.mbIntEn = s.led.mbIntEn := rfl
@[simp] theorem State.setBlob_led_mbBusy (idx sub inst : Nat) (v : List Byte) : (s.setBlob idx sub inst v).led.mbBusy = s.led.mbBusy := rfl
@[simp] theorem State.setBlob_led_mbError (idx sub inst : Nat) (v : List Byte) : (s.setBlob idx sub inst v).led.mbError = s.led.mbError := rfl
@[simp] theorem State.setBlob_led_watchdog (idx sub inst : Nat) (v : List Byte) : (s.setBlob idx sub inst v).led.watchdog = s.led.watchdog := rfl

/-! setCtr -/

@[simp] theorem State.setCtr_pending (idx sub v : Nat) : (s.setCtr idx sub v).pending = s.pending := rfl
@[simp] theorem State.setCtr_now (idx sub v : Nat) : (s.setCtr idx sub v).now = s.now := rfl
@[simp] theorem State.setCtr_drawn (idx sub v : Nat) : (s.setCtr idx sub v).drawn = s.drawn := rfl
@[simp] theorem State.setCtr_mem (idx sub v : Nat) : (s.setCtr idx sub v).mem = s.mem := rfl
@[simp] theorem State.setCtr_cmp (idx sub v : Nat) : (s.setCtr idx sub v).cmp = s.cmp := rfl
@[simp] theorem State.setCtr_ring (idx sub v : Nat) : (s.setCtr idx sub v).ring = s.ring := rfl
@[simp] theorem State.setCtr_fab (idx sub v : Nat) : (s.setCtr idx sub v).fab = s.fab := rfl
@[simp] theorem State.setCtr_eth (idx sub v : Nat) : (s.setCtr idx sub v).eth = s.eth := rfl
@[simp] theorem State.setCtr_clu (idx sub v : Nat) : (s.setCtr idx sub v).clu = s.clu := rfl
@[simp] theorem State.setCtr_hrt (idx sub v : Nat) : (s.setCtr idx sub v).hrt = s.hrt := rfl
@[simp] theorem State.setCtr_hands (idx sub v : Nat) : (s.setCtr idx sub v).hands = s.hands := rfl
@[simp] theorem State.setCtr_cipher (idx sub v : Nat) : (s.setCtr idx sub v).cipher = s.cipher := rfl
@[simp] theorem State.setCtr_flt (idx sub v : Nat) : (s.setCtr idx sub v).flt = s.flt := rfl
@[simp] theorem State.setCtr_pw (idx sub v : Nat) : (s.setCtr idx sub v).pw = s.pw := rfl
@[simp] theorem State.setCtr_out (idx sub v : Nat) : (s.setCtr idx sub v).out = s.out := rfl
@[simp] theorem State.setCtr_led_vals (idx sub v : Nat) : (s.setCtr idx sub v).led.vals = s.led.vals := rfl
@[simp] theorem State.setCtr_led_blobs (idx sub v : Nat) : (s.setCtr idx sub v).led.blobs = s.led.blobs := rfl
@[simp] theorem State.setCtr_led_flashVals (idx sub v : Nat) : (s.setCtr idx sub v).led.flashVals = s.led.flashVals := rfl
@[simp] theorem State.setCtr_led_flashBlobs (idx sub v : Nat) : (s.setCtr idx sub v).led.flashBlobs = s.led.flashBlobs := rfl
@[simp] theorem State.setCtr_led_flashDue (idx sub v : Nat) : (s.setCtr idx sub v).led.flashDue = s.led.flashDue := rfl
@[simp] theorem State.setCtr_led_force (idx sub v : Nat) : (s.setCtr idx sub v).led.force = s.led.force := rfl
@[simp] theorem State.setCtr_led_rises (idx sub v : Nat) : (s.setCtr idx sub v).led.rises = s.led.rises := rfl
@[simp] theorem State.setCtr_led_riseAt (idx sub v : Nat) : (s.setCtr idx sub v).led.riseAt = s.led.riseAt := rfl
@[simp] theorem State.setCtr_led_secrets (idx sub v : Nat) : (s.setCtr idx sub v).led.secrets = s.led.secrets := rfl
@[simp] theorem State.setCtr_led_authFails (idx sub v : Nat) : (s.setCtr idx sub v).led.authFails = s.led.authFails := rfl
@[simp] theorem State.setCtr_led_helloBlocked (idx sub v : Nat) : (s.setCtr idx sub v).led.helloBlocked = s.led.helloBlocked := rfl
@[simp] theorem State.setCtr_led_sessions (idx sub v : Nat) : (s.setCtr idx sub v).led.sessions = s.led.sessions := rfl
@[simp] theorem State.setCtr_led_domains (idx sub v : Nat) : (s.setCtr idx sub v).led.domains = s.led.domains := rfl
@[simp] theorem State.setCtr_led_snapshots (idx sub v : Nat) : (s.setCtr idx sub v).led.snapshots = s.led.snapshots := rfl
@[simp] theorem State.setCtr_led_chunkRun (idx sub v : Nat) : (s.setCtr idx sub v).led.chunkRun = s.led.chunkRun := rfl
@[simp] theorem State.setCtr_led_mbBase (idx sub v : Nat) : (s.setCtr idx sub v).led.mbBase = s.led.mbBase := rfl
@[simp] theorem State.setCtr_led_mbDone (idx sub v : Nat) : (s.setCtr idx sub v).led.mbDone = s.led.mbDone := rfl
@[simp] theorem State.setCtr_led_mbIntEn (idx sub v : Nat) : (s.setCtr idx sub v).led.mbIntEn = s.led.mbIntEn := rfl
@[simp] theorem State.setCtr_led_mbBusy (idx sub v : Nat) : (s.setCtr idx sub v).led.mbBusy = s.led.mbBusy := rfl
@[simp] theorem State.setCtr_led_mbError (idx sub v : Nat) : (s.setCtr idx sub v).led.mbError = s.led.mbError := rfl
@[simp] theorem State.setCtr_led_watchdog (idx sub v : Nat) : (s.setCtr idx sub v).led.watchdog = s.led.watchdog := rfl

/-! setSession -/

@[simp] theorem State.setSession_pending (k : Nat) (v : Option Session) : (s.setSession k v).pending = s.pending := rfl
@[simp] theorem State.setSession_now (k : Nat) (v : Option Session) : (s.setSession k v).now = s.now := rfl
@[simp] theorem State.setSession_drawn (k : Nat) (v : Option Session) : (s.setSession k v).drawn = s.drawn := rfl
@[simp] theorem State.setSession_mem (k : Nat) (v : Option Session) : (s.setSession k v).mem = s.mem := rfl
@[simp] theorem State.setSession_cmp (k : Nat) (v : Option Session) : (s.setSession k v).cmp = s.cmp := rfl
@[simp] theorem State.setSession_ring (k : Nat) (v : Option Session) : (s.setSession k v).ring = s.ring := rfl
@[simp] theorem State.setSession_fab (k : Nat) (v : Option Session) : (s.setSession k v).fab = s.fab := rfl
@[simp] theorem State.setSession_eth (k : Nat) (v : Option Session) : (s.setSession k v).eth = s.eth := rfl
@[simp] theorem State.setSession_clu (k : Nat) (v : Option Session) : (s.setSession k v).clu = s.clu := rfl
@[simp] theorem State.setSession_hrt (k : Nat) (v : Option Session) : (s.setSession k v).hrt = s.hrt := rfl
@[simp] theorem State.setSession_hands (k : Nat) (v : Option Session) : (s.setSession k v).hands = s.hands := rfl
@[simp] theorem State.setSession_cipher (k : Nat) (v : Option Session) : (s.setSession k v).cipher = s.cipher := rfl
@[simp] theorem State.setSession_flt (k : Nat) (v : Option Session) : (s.setSession k v).flt = s.flt := rfl
@[simp] theorem State.setSession_pw (k : Nat) (v : Option Session) : (s.setSession k v).pw = s.pw := rfl
@[simp] theorem State.setSession_out (k : Nat) (v : Option Session) : (s.setSession k v).out = s.out := rfl
@[simp] theorem State.setSession_led_vals (k : Nat) (v : Option Session) : (s.setSession k v).led.vals = s.led.vals := rfl
@[simp] theorem State.setSession_led_blobs (k : Nat) (v : Option Session) : (s.setSession k v).led.blobs = s.led.blobs := rfl
@[simp] theorem State.setSession_led_flashVals (k : Nat) (v : Option Session) : (s.setSession k v).led.flashVals = s.led.flashVals := rfl
@[simp] theorem State.setSession_led_flashBlobs (k : Nat) (v : Option Session) : (s.setSession k v).led.flashBlobs = s.led.flashBlobs := rfl
@[simp] theorem State.setSession_led_flashDue (k : Nat) (v : Option Session) : (s.setSession k v).led.flashDue = s.led.flashDue := rfl
@[simp] theorem State.setSession_led_force (k : Nat) (v : Option Session) : (s.setSession k v).led.force = s.led.force := rfl
@[simp] theorem State.setSession_led_ctrs (k : Nat) (v : Option Session) : (s.setSession k v).led.ctrs = s.led.ctrs := rfl
@[simp] theorem State.setSession_led_rises (k : Nat) (v : Option Session) : (s.setSession k v).led.rises = s.led.rises := rfl
@[simp] theorem State.setSession_led_riseAt (k : Nat) (v : Option Session) : (s.setSession k v).led.riseAt = s.led.riseAt := rfl
@[simp] theorem State.setSession_led_secrets (k : Nat) (v : Option Session) : (s.setSession k v).led.secrets = s.led.secrets := rfl
@[simp] theorem State.setSession_led_authFails (k : Nat) (v : Option Session) : (s.setSession k v).led.authFails = s.led.authFails := rfl
@[simp] theorem State.setSession_led_helloBlocked (k : Nat) (v : Option Session) : (s.setSession k v).led.helloBlocked = s.led.helloBlocked := rfl
@[simp] theorem State.setSession_led_domains (k : Nat) (v : Option Session) : (s.setSession k v).led.domains = s.led.domains := rfl
@[simp] theorem State.setSession_led_snapshots (k : Nat) (v : Option Session) : (s.setSession k v).led.snapshots = s.led.snapshots := rfl
@[simp] theorem State.setSession_led_chunkRun (k : Nat) (v : Option Session) : (s.setSession k v).led.chunkRun = s.led.chunkRun := rfl
@[simp] theorem State.setSession_led_mbBase (k : Nat) (v : Option Session) : (s.setSession k v).led.mbBase = s.led.mbBase := rfl
@[simp] theorem State.setSession_led_mbDone (k : Nat) (v : Option Session) : (s.setSession k v).led.mbDone = s.led.mbDone := rfl
@[simp] theorem State.setSession_led_mbIntEn (k : Nat) (v : Option Session) : (s.setSession k v).led.mbIntEn = s.led.mbIntEn := rfl
@[simp] theorem State.setSession_led_mbBusy (k : Nat) (v : Option Session) : (s.setSession k v).led.mbBusy = s.led.mbBusy := rfl
@[simp] theorem State.setSession_led_mbError (k : Nat) (v : Option Session) : (s.setSession k v).led.mbError = s.led.mbError := rfl
@[simp] theorem State.setSession_led_watchdog (k : Nat) (v : Option Session) : (s.setSession k v).led.watchdog = s.led.watchdog := rfl

/-! setFn -/

@[simp] theorem State.setFn_pending (f : Nat) (v : Fn) : (s.setFn f v).pending = s.pending := rfl
@[simp] theorem State.setFn_now (f : Nat) (v : Fn) : (s.setFn f v).now = s.now := rfl
@[simp] theorem State.setFn_drawn (f : Nat) (v : Fn) : (s.setFn f v).drawn = s.drawn := rfl
@[simp] theorem State.setFn_mem (f : Nat) (v : Fn) : (s.setFn f v).mem = s.mem := rfl
@[simp] theorem State.setFn_cmp (f : Nat) (v : Fn) : (s.setFn f v).cmp = s.cmp := rfl
@[simp] theorem State.setFn_fab (f : Nat) (v : Fn) : (s.setFn f v).fab = s.fab := rfl
@[simp] theorem State.setFn_eth (f : Nat) (v : Fn) : (s.setFn f v).eth = s.eth := rfl
@[simp] theorem State.setFn_clu (f : Nat) (v : Fn) : (s.setFn f v).clu = s.clu := rfl
@[simp] theorem State.setFn_hrt (f : Nat) (v : Fn) : (s.setFn f v).hrt = s.hrt := rfl
@[simp] theorem State.setFn_hands (f : Nat) (v : Fn) : (s.setFn f v).hands = s.hands := rfl
@[simp] theorem State.setFn_led (f : Nat) (v : Fn) : (s.setFn f v).led = s.led := rfl
@[simp] theorem State.setFn_cipher (f : Nat) (v : Fn) : (s.setFn f v).cipher = s.cipher := rfl
@[simp] theorem State.setFn_flt (f : Nat) (v : Fn) : (s.setFn f v).flt = s.flt := rfl
@[simp] theorem State.setFn_pw (f : Nat) (v : Fn) : (s.setFn f v).pw = s.pw := rfl
@[simp] theorem State.setFn_out (f : Nat) (v : Fn) : (s.setFn f v).out = s.out := rfl
@[simp] theorem State.setFn_ring_pointer (f : Nat) (v : Fn) : (s.setFn f v).ring.pointer = s.ring.pointer := rfl
@[simp] theorem State.setFn_ring_p0 (f : Nat) (v : Fn) : (s.setFn f v).ring.p0 = s.ring.p0 := rfl
@[simp] theorem State.setFn_ring_p1 (f : Nat) (v : Fn) : (s.setFn f v).ring.p1 = s.ring.p1 := rfl
@[simp] theorem State.setFn_ring_p1BusMaster (f : Nat) (v : Fn) : (s.setFn f v).ring.p1BusMaster = s.ring.p1BusMaster := rfl
@[simp] theorem State.setFn_ring_vfEnable (f : Nat) (v : Fn) : (s.setFn f v).ring.vfEnable = s.ring.vfEnable := rfl
@[simp] theorem State.setFn_ring_numVfs (f : Nat) (v : Fn) : (s.setFn f v).ring.numVfs = s.ring.numVfs := rfl

/-! setBench -/

@[simp] theorem State.setBench_pending (b : Nat) (v : Bench) : (s.setBench b v).pending = s.pending := rfl
@[simp] theorem State.setBench_now (b : Nat) (v : Bench) : (s.setBench b v).now = s.now := rfl
@[simp] theorem State.setBench_drawn (b : Nat) (v : Bench) : (s.setBench b v).drawn = s.drawn := rfl
@[simp] theorem State.setBench_mem (b : Nat) (v : Bench) : (s.setBench b v).mem = s.mem := rfl
@[simp] theorem State.setBench_ring (b : Nat) (v : Bench) : (s.setBench b v).ring = s.ring := rfl
@[simp] theorem State.setBench_fab (b : Nat) (v : Bench) : (s.setBench b v).fab = s.fab := rfl
@[simp] theorem State.setBench_eth (b : Nat) (v : Bench) : (s.setBench b v).eth = s.eth := rfl
@[simp] theorem State.setBench_clu (b : Nat) (v : Bench) : (s.setBench b v).clu = s.clu := rfl
@[simp] theorem State.setBench_hrt (b : Nat) (v : Bench) : (s.setBench b v).hrt = s.hrt := rfl
@[simp] theorem State.setBench_hands (b : Nat) (v : Bench) : (s.setBench b v).hands = s.hands := rfl
@[simp] theorem State.setBench_led (b : Nat) (v : Bench) : (s.setBench b v).led = s.led := rfl
@[simp] theorem State.setBench_cipher (b : Nat) (v : Bench) : (s.setBench b v).cipher = s.cipher := rfl
@[simp] theorem State.setBench_flt (b : Nat) (v : Bench) : (s.setBench b v).flt = s.flt := rfl
@[simp] theorem State.setBench_pw (b : Nat) (v : Bench) : (s.setBench b v).pw = s.pw := rfl
@[simp] theorem State.setBench_out (b : Nat) (v : Bench) : (s.setBench b v).out = s.out := rfl
@[simp] theorem State.setBench_cmp_stk (b : Nat) (v : Bench) : (s.setBench b v).cmp.stk = s.cmp.stk := rfl
@[simp] theorem State.setBench_cmp_slots (b : Nat) (v : Bench) : (s.setBench b v).cmp.slots = s.cmp.slots := rfl
@[simp] theorem State.setBench_cmp_jobs (b : Nat) (v : Bench) : (s.setBench b v).cmp.jobs = s.cmp.jobs := rfl
@[simp] theorem State.setBench_cmp_checked (b : Nat) (v : Bench) : (s.setBench b v).cmp.checked = s.cmp.checked := rfl
@[simp] theorem State.setBench_cmp_ownerDue (b : Nat) (v : Bench) : (s.setBench b v).cmp.ownerDue = s.cmp.ownerDue := rfl
@[simp] theorem State.setBench_cmp_hubPegs (b : Nat) (v : Bench) : (s.setBench b v).cmp.hubPegs = s.cmp.hubPegs := rfl
@[simp] theorem State.setBench_cmp_placed (b : Nat) (v : Bench) : (s.setBench b v).cmp.placed = s.cmp.placed := rfl
@[simp] theorem State.setBench_cmp_hubAt (b : Nat) (v : Bench) : (s.setBench b v).cmp.hubAt = s.cmp.hubAt := rfl
@[simp] theorem State.setBench_cmp_waits (b : Nat) (v : Bench) : (s.setBench b v).cmp.waits = s.cmp.waits := rfl
@[simp] theorem State.setBench_cmp_views (b : Nat) (v : Bench) : (s.setBench b v).cmp.views = s.cmp.views := rfl

/-! setStack -/

@[simp] theorem State.setStack_pending (k : Nat) (v : Stack) : (s.setStack k v).pending = s.pending := rfl
@[simp] theorem State.setStack_now (k : Nat) (v : Stack) : (s.setStack k v).now = s.now := rfl
@[simp] theorem State.setStack_drawn (k : Nat) (v : Stack) : (s.setStack k v).drawn = s.drawn := rfl
@[simp] theorem State.setStack_mem (k : Nat) (v : Stack) : (s.setStack k v).mem = s.mem := rfl
@[simp] theorem State.setStack_ring (k : Nat) (v : Stack) : (s.setStack k v).ring = s.ring := rfl
@[simp] theorem State.setStack_fab (k : Nat) (v : Stack) : (s.setStack k v).fab = s.fab := rfl
@[simp] theorem State.setStack_eth (k : Nat) (v : Stack) : (s.setStack k v).eth = s.eth := rfl
@[simp] theorem State.setStack_clu (k : Nat) (v : Stack) : (s.setStack k v).clu = s.clu := rfl
@[simp] theorem State.setStack_hrt (k : Nat) (v : Stack) : (s.setStack k v).hrt = s.hrt := rfl
@[simp] theorem State.setStack_hands (k : Nat) (v : Stack) : (s.setStack k v).hands = s.hands := rfl
@[simp] theorem State.setStack_led (k : Nat) (v : Stack) : (s.setStack k v).led = s.led := rfl
@[simp] theorem State.setStack_cipher (k : Nat) (v : Stack) : (s.setStack k v).cipher = s.cipher := rfl
@[simp] theorem State.setStack_flt (k : Nat) (v : Stack) : (s.setStack k v).flt = s.flt := rfl
@[simp] theorem State.setStack_pw (k : Nat) (v : Stack) : (s.setStack k v).pw = s.pw := rfl
@[simp] theorem State.setStack_out (k : Nat) (v : Stack) : (s.setStack k v).out = s.out := rfl
@[simp] theorem State.setStack_cmp_benches (k : Nat) (v : Stack) : (s.setStack k v).cmp.benches = s.cmp.benches := rfl
@[simp] theorem State.setStack_cmp_slots (k : Nat) (v : Stack) : (s.setStack k v).cmp.slots = s.cmp.slots := rfl
@[simp] theorem State.setStack_cmp_jobs (k : Nat) (v : Stack) : (s.setStack k v).cmp.jobs = s.cmp.jobs := rfl
@[simp] theorem State.setStack_cmp_checked (k : Nat) (v : Stack) : (s.setStack k v).cmp.checked = s.cmp.checked := rfl
@[simp] theorem State.setStack_cmp_ownerDue (k : Nat) (v : Stack) : (s.setStack k v).cmp.ownerDue = s.cmp.ownerDue := rfl
@[simp] theorem State.setStack_cmp_hubPegs (k : Nat) (v : Stack) : (s.setStack k v).cmp.hubPegs = s.cmp.hubPegs := rfl
@[simp] theorem State.setStack_cmp_placed (k : Nat) (v : Stack) : (s.setStack k v).cmp.placed = s.cmp.placed := rfl
@[simp] theorem State.setStack_cmp_hubAt (k : Nat) (v : Stack) : (s.setStack k v).cmp.hubAt = s.cmp.hubAt := rfl
@[simp] theorem State.setStack_cmp_waits (k : Nat) (v : Stack) : (s.setStack k v).cmp.waits = s.cmp.waits := rfl
@[simp] theorem State.setStack_cmp_views (k : Nat) (v : Stack) : (s.setStack k v).cmp.views = s.cmp.views := rfl

/-! setSlot -/

@[simp] theorem State.setSlot_pending (f k : Nat) (v : Option Slot) : (s.setSlot f k v).pending = s.pending := rfl
@[simp] theorem State.setSlot_now (f k : Nat) (v : Option Slot) : (s.setSlot f k v).now = s.now := rfl
@[simp] theorem State.setSlot_drawn (f k : Nat) (v : Option Slot) : (s.setSlot f k v).drawn = s.drawn := rfl
@[simp] theorem State.setSlot_mem (f k : Nat) (v : Option Slot) : (s.setSlot f k v).mem = s.mem := rfl
@[simp] theorem State.setSlot_ring (f k : Nat) (v : Option Slot) : (s.setSlot f k v).ring = s.ring := rfl
@[simp] theorem State.setSlot_fab (f k : Nat) (v : Option Slot) : (s.setSlot f k v).fab = s.fab := rfl
@[simp] theorem State.setSlot_eth (f k : Nat) (v : Option Slot) : (s.setSlot f k v).eth = s.eth := rfl
@[simp] theorem State.setSlot_clu (f k : Nat) (v : Option Slot) : (s.setSlot f k v).clu = s.clu := rfl
@[simp] theorem State.setSlot_hrt (f k : Nat) (v : Option Slot) : (s.setSlot f k v).hrt = s.hrt := rfl
@[simp] theorem State.setSlot_hands (f k : Nat) (v : Option Slot) : (s.setSlot f k v).hands = s.hands := rfl
@[simp] theorem State.setSlot_led (f k : Nat) (v : Option Slot) : (s.setSlot f k v).led = s.led := rfl
@[simp] theorem State.setSlot_cipher (f k : Nat) (v : Option Slot) : (s.setSlot f k v).cipher = s.cipher := rfl
@[simp] theorem State.setSlot_flt (f k : Nat) (v : Option Slot) : (s.setSlot f k v).flt = s.flt := rfl
@[simp] theorem State.setSlot_pw (f k : Nat) (v : Option Slot) : (s.setSlot f k v).pw = s.pw := rfl
@[simp] theorem State.setSlot_out (f k : Nat) (v : Option Slot) : (s.setSlot f k v).out = s.out := rfl
@[simp] theorem State.setSlot_cmp_benches (f k : Nat) (v : Option Slot) : (s.setSlot f k v).cmp.benches = s.cmp.benches := rfl
@[simp] theorem State.setSlot_cmp_stk (f k : Nat) (v : Option Slot) : (s.setSlot f k v).cmp.stk = s.cmp.stk := rfl
@[simp] theorem State.setSlot_cmp_jobs (f k : Nat) (v : Option Slot) : (s.setSlot f k v).cmp.jobs = s.cmp.jobs := rfl
@[simp] theorem State.setSlot_cmp_checked (f k : Nat) (v : Option Slot) : (s.setSlot f k v).cmp.checked = s.cmp.checked := rfl
@[simp] theorem State.setSlot_cmp_ownerDue (f k : Nat) (v : Option Slot) : (s.setSlot f k v).cmp.ownerDue = s.cmp.ownerDue := rfl
@[simp] theorem State.setSlot_cmp_hubPegs (f k : Nat) (v : Option Slot) : (s.setSlot f k v).cmp.hubPegs = s.cmp.hubPegs := rfl
@[simp] theorem State.setSlot_cmp_placed (f k : Nat) (v : Option Slot) : (s.setSlot f k v).cmp.placed = s.cmp.placed := rfl
@[simp] theorem State.setSlot_cmp_hubAt (f k : Nat) (v : Option Slot) : (s.setSlot f k v).cmp.hubAt = s.cmp.hubAt := rfl
@[simp] theorem State.setSlot_cmp_waits (f k : Nat) (v : Option Slot) : (s.setSlot f k v).cmp.waits = s.cmp.waits := rfl
@[simp] theorem State.setSlot_cmp_views (f k : Nat) (v : Option Slot) : (s.setSlot f k v).cmp.views = s.cmp.views := rfl

/-! setJob -/

@[simp] theorem State.setJob_pending (d : Nat) (v : Option Job) : (s.setJob d v).pending = s.pending := rfl
@[simp] theorem State.setJob_now (d : Nat) (v : Option Job) : (s.setJob d v).now = s.now := rfl
@[simp] theorem State.setJob_drawn (d : Nat) (v : Option Job) : (s.setJob d v).drawn = s.drawn := rfl
@[simp] theorem State.setJob_mem (d : Nat) (v : Option Job) : (s.setJob d v).mem = s.mem := rfl
@[simp] theorem State.setJob_ring (d : Nat) (v : Option Job) : (s.setJob d v).ring = s.ring := rfl
@[simp] theorem State.setJob_fab (d : Nat) (v : Option Job) : (s.setJob d v).fab = s.fab := rfl
@[simp] theorem State.setJob_eth (d : Nat) (v : Option Job) : (s.setJob d v).eth = s.eth := rfl
@[simp] theorem State.setJob_clu (d : Nat) (v : Option Job) : (s.setJob d v).clu = s.clu := rfl
@[simp] theorem State.setJob_hrt (d : Nat) (v : Option Job) : (s.setJob d v).hrt = s.hrt := rfl
@[simp] theorem State.setJob_hands (d : Nat) (v : Option Job) : (s.setJob d v).hands = s.hands := rfl
@[simp] theorem State.setJob_led (d : Nat) (v : Option Job) : (s.setJob d v).led = s.led := rfl
@[simp] theorem State.setJob_cipher (d : Nat) (v : Option Job) : (s.setJob d v).cipher = s.cipher := rfl
@[simp] theorem State.setJob_flt (d : Nat) (v : Option Job) : (s.setJob d v).flt = s.flt := rfl
@[simp] theorem State.setJob_pw (d : Nat) (v : Option Job) : (s.setJob d v).pw = s.pw := rfl
@[simp] theorem State.setJob_out (d : Nat) (v : Option Job) : (s.setJob d v).out = s.out := rfl
@[simp] theorem State.setJob_cmp_benches (d : Nat) (v : Option Job) : (s.setJob d v).cmp.benches = s.cmp.benches := rfl
@[simp] theorem State.setJob_cmp_stk (d : Nat) (v : Option Job) : (s.setJob d v).cmp.stk = s.cmp.stk := rfl
@[simp] theorem State.setJob_cmp_slots (d : Nat) (v : Option Job) : (s.setJob d v).cmp.slots = s.cmp.slots := rfl
@[simp] theorem State.setJob_cmp_checked (d : Nat) (v : Option Job) : (s.setJob d v).cmp.checked = s.cmp.checked := rfl
@[simp] theorem State.setJob_cmp_ownerDue (d : Nat) (v : Option Job) : (s.setJob d v).cmp.ownerDue = s.cmp.ownerDue := rfl
@[simp] theorem State.setJob_cmp_hubPegs (d : Nat) (v : Option Job) : (s.setJob d v).cmp.hubPegs = s.cmp.hubPegs := rfl
@[simp] theorem State.setJob_cmp_placed (d : Nat) (v : Option Job) : (s.setJob d v).cmp.placed = s.cmp.placed := rfl
@[simp] theorem State.setJob_cmp_hubAt (d : Nat) (v : Option Job) : (s.setJob d v).cmp.hubAt = s.cmp.hubAt := rfl
@[simp] theorem State.setJob_cmp_waits (d : Nat) (v : Option Job) : (s.setJob d v).cmp.waits = s.cmp.waits := rfl
@[simp] theorem State.setJob_cmp_views (d : Nat) (v : Option Job) : (s.setJob d v).cmp.views = s.cmp.views := rfl

/-! setRegion -/

@[simp] theorem State.setRegion_pending (r : Nat) (v : Region) : (s.setRegion r v).pending = s.pending := rfl
@[simp] theorem State.setRegion_now (r : Nat) (v : Region) : (s.setRegion r v).now = s.now := rfl
@[simp] theorem State.setRegion_drawn (r : Nat) (v : Region) : (s.setRegion r v).drawn = s.drawn := rfl
@[simp] theorem State.setRegion_cmp (r : Nat) (v : Region) : (s.setRegion r v).cmp = s.cmp := rfl
@[simp] theorem State.setRegion_ring (r : Nat) (v : Region) : (s.setRegion r v).ring = s.ring := rfl
@[simp] theorem State.setRegion_fab (r : Nat) (v : Region) : (s.setRegion r v).fab = s.fab := rfl
@[simp] theorem State.setRegion_eth (r : Nat) (v : Region) : (s.setRegion r v).eth = s.eth := rfl
@[simp] theorem State.setRegion_clu (r : Nat) (v : Region) : (s.setRegion r v).clu = s.clu := rfl
@[simp] theorem State.setRegion_hrt (r : Nat) (v : Region) : (s.setRegion r v).hrt = s.hrt := rfl
@[simp] theorem State.setRegion_hands (r : Nat) (v : Region) : (s.setRegion r v).hands = s.hands := rfl
@[simp] theorem State.setRegion_led (r : Nat) (v : Region) : (s.setRegion r v).led = s.led := rfl
@[simp] theorem State.setRegion_cipher (r : Nat) (v : Region) : (s.setRegion r v).cipher = s.cipher := rfl
@[simp] theorem State.setRegion_flt (r : Nat) (v : Region) : (s.setRegion r v).flt = s.flt := rfl
@[simp] theorem State.setRegion_pw (r : Nat) (v : Region) : (s.setRegion r v).pw = s.pw := rfl
@[simp] theorem State.setRegion_out (r : Nat) (v : Region) : (s.setRegion r v).out = s.out := rfl
@[simp] theorem State.setRegion_mem_dev (r : Nat) (v : Region) : (s.setRegion r v).mem.dev = s.mem.dev := rfl
@[simp] theorem State.setRegion_mem_host (r : Nat) (v : Region) : (s.setRegion r v).mem.host = s.mem.host := rfl
@[simp] theorem State.setRegion_mem_peer (r : Nat) (v : Region) : (s.setRegion r v).mem.peer = s.mem.peer := rfl
@[simp] theorem State.setRegion_mem_owner (r : Nat) (v : Region) : (s.setRegion r v).mem.owner = s.mem.owner := rfl
@[simp] theorem State.setRegion_mem_windows (r : Nat) (v : Region) : (s.setRegion r v).mem.windows = s.mem.windows := rfl
@[simp] theorem State.setRegion_mem_leafCache (r : Nat) (v : Region) : (s.setRegion r v).mem.leafCache = s.mem.leafCache := rfl
@[simp] theorem State.setRegion_mem_walkCache (r : Nat) (v : Region) : (s.setRegion r v).mem.walkCache = s.mem.walkCache := rfl
@[simp] theorem State.setRegion_mem_moves (r : Nat) (v : Region) : (s.setRegion r v).mem.moves = s.mem.moves := rfl
@[simp] theorem State.setRegion_mem_stale (r : Nat) (v : Region) : (s.setRegion r v).mem.stale = s.mem.stale := rfl
@[simp] theorem State.setRegion_mem_known (r : Nat) (v : Region) : (s.setRegion r v).mem.known = s.mem.known := rfl
@[simp] theorem State.setRegion_mem_scrubPos (r : Nat) (v : Region) : (s.setRegion r v).mem.scrubPos = s.mem.scrubPos := rfl
@[simp] theorem State.setRegion_mem_draining (r : Nat) (v : Region) : (s.setRegion r v).mem.draining = s.mem.draining := rfl
@[simp] theorem State.setRegion_mem_p0Held (r : Nat) (v : Region) : (s.setRegion r v).mem.p0Held = s.mem.p0Held := rfl
@[simp] theorem State.setRegion_mem_dirty (r : Nat) (v : Region) : (s.setRegion r v).mem.dirty = s.mem.dirty := rfl

/-! setWindows -/

@[simp] theorem State.setWindows_pending (d : Nat) (v : List Window) : (s.setWindows d v).pending = s.pending := rfl
@[simp] theorem State.setWindows_now (d : Nat) (v : List Window) : (s.setWindows d v).now = s.now := rfl
@[simp] theorem State.setWindows_drawn (d : Nat) (v : List Window) : (s.setWindows d v).drawn = s.drawn := rfl
@[simp] theorem State.setWindows_cmp (d : Nat) (v : List Window) : (s.setWindows d v).cmp = s.cmp := rfl
@[simp] theorem State.setWindows_ring (d : Nat) (v : List Window) : (s.setWindows d v).ring = s.ring := rfl
@[simp] theorem State.setWindows_fab (d : Nat) (v : List Window) : (s.setWindows d v).fab = s.fab := rfl
@[simp] theorem State.setWindows_eth (d : Nat) (v : List Window) : (s.setWindows d v).eth = s.eth := rfl
@[simp] theorem State.setWindows_clu (d : Nat) (v : List Window) : (s.setWindows d v).clu = s.clu := rfl
@[simp] theorem State.setWindows_hrt (d : Nat) (v : List Window) : (s.setWindows d v).hrt = s.hrt := rfl
@[simp] theorem State.setWindows_hands (d : Nat) (v : List Window) : (s.setWindows d v).hands = s.hands := rfl
@[simp] theorem State.setWindows_led (d : Nat) (v : List Window) : (s.setWindows d v).led = s.led := rfl
@[simp] theorem State.setWindows_cipher (d : Nat) (v : List Window) : (s.setWindows d v).cipher = s.cipher := rfl
@[simp] theorem State.setWindows_flt (d : Nat) (v : List Window) : (s.setWindows d v).flt = s.flt := rfl
@[simp] theorem State.setWindows_pw (d : Nat) (v : List Window) : (s.setWindows d v).pw = s.pw := rfl
@[simp] theorem State.setWindows_out (d : Nat) (v : List Window) : (s.setWindows d v).out = s.out := rfl
@[simp] theorem State.setWindows_mem_dev (d : Nat) (v : List Window) : (s.setWindows d v).mem.dev = s.mem.dev := rfl
@[simp] theorem State.setWindows_mem_host (d : Nat) (v : List Window) : (s.setWindows d v).mem.host = s.mem.host := rfl
@[simp] theorem State.setWindows_mem_peer (d : Nat) (v : List Window) : (s.setWindows d v).mem.peer = s.mem.peer := rfl
@[simp] theorem State.setWindows_mem_owner (d : Nat) (v : List Window) : (s.setWindows d v).mem.owner = s.mem.owner := rfl
@[simp] theorem State.setWindows_mem_leafCache (d : Nat) (v : List Window) : (s.setWindows d v).mem.leafCache = s.mem.leafCache := rfl
@[simp] theorem State.setWindows_mem_walkCache (d : Nat) (v : List Window) : (s.setWindows d v).mem.walkCache = s.mem.walkCache := rfl
@[simp] theorem State.setWindows_mem_moves (d : Nat) (v : List Window) : (s.setWindows d v).mem.moves = s.mem.moves := rfl
@[simp] theorem State.setWindows_mem_stale (d : Nat) (v : List Window) : (s.setWindows d v).mem.stale = s.mem.stale := rfl
@[simp] theorem State.setWindows_mem_known (d : Nat) (v : List Window) : (s.setWindows d v).mem.known = s.mem.known := rfl
@[simp] theorem State.setWindows_mem_regions (d : Nat) (v : List Window) : (s.setWindows d v).mem.regions = s.mem.regions := rfl
@[simp] theorem State.setWindows_mem_scrubPos (d : Nat) (v : List Window) : (s.setWindows d v).mem.scrubPos = s.mem.scrubPos := rfl
@[simp] theorem State.setWindows_mem_draining (d : Nat) (v : List Window) : (s.setWindows d v).mem.draining = s.mem.draining := rfl
@[simp] theorem State.setWindows_mem_p0Held (d : Nat) (v : List Window) : (s.setWindows d v).mem.p0Held = s.mem.p0Held := rfl
@[simp] theorem State.setWindows_mem_dirty (d : Nat) (v : List Window) : (s.setWindows d v).mem.dirty = s.mem.dirty := rfl

/-! setDev -/

@[simp] theorem State.setDev_pending (r : Ram) : (s.setDev r).pending = s.pending := rfl
@[simp] theorem State.setDev_now (r : Ram) : (s.setDev r).now = s.now := rfl
@[simp] theorem State.setDev_drawn (r : Ram) : (s.setDev r).drawn = s.drawn := rfl
@[simp] theorem State.setDev_cmp (r : Ram) : (s.setDev r).cmp = s.cmp := rfl
@[simp] theorem State.setDev_ring (r : Ram) : (s.setDev r).ring = s.ring := rfl
@[simp] theorem State.setDev_fab (r : Ram) : (s.setDev r).fab = s.fab := rfl
@[simp] theorem State.setDev_eth (r : Ram) : (s.setDev r).eth = s.eth := rfl
@[simp] theorem State.setDev_clu (r : Ram) : (s.setDev r).clu = s.clu := rfl
@[simp] theorem State.setDev_hrt (r : Ram) : (s.setDev r).hrt = s.hrt := rfl
@[simp] theorem State.setDev_hands (r : Ram) : (s.setDev r).hands = s.hands := rfl
@[simp] theorem State.setDev_led (r : Ram) : (s.setDev r).led = s.led := rfl
@[simp] theorem State.setDev_cipher (r : Ram) : (s.setDev r).cipher = s.cipher := rfl
@[simp] theorem State.setDev_flt (r : Ram) : (s.setDev r).flt = s.flt := rfl
@[simp] theorem State.setDev_pw (r : Ram) : (s.setDev r).pw = s.pw := rfl
@[simp] theorem State.setDev_out (r : Ram) : (s.setDev r).out = s.out := rfl
@[simp] theorem State.setDev_mem_host (r : Ram) : (s.setDev r).mem.host = s.mem.host := rfl
@[simp] theorem State.setDev_mem_peer (r : Ram) : (s.setDev r).mem.peer = s.mem.peer := rfl
@[simp] theorem State.setDev_mem_owner (r : Ram) : (s.setDev r).mem.owner = s.mem.owner := rfl
@[simp] theorem State.setDev_mem_windows (r : Ram) : (s.setDev r).mem.windows = s.mem.windows := rfl
@[simp] theorem State.setDev_mem_leafCache (r : Ram) : (s.setDev r).mem.leafCache = s.mem.leafCache := rfl
@[simp] theorem State.setDev_mem_walkCache (r : Ram) : (s.setDev r).mem.walkCache = s.mem.walkCache := rfl
@[simp] theorem State.setDev_mem_moves (r : Ram) : (s.setDev r).mem.moves = s.mem.moves := rfl
@[simp] theorem State.setDev_mem_stale (r : Ram) : (s.setDev r).mem.stale = s.mem.stale := rfl
@[simp] theorem State.setDev_mem_known (r : Ram) : (s.setDev r).mem.known = s.mem.known := rfl
@[simp] theorem State.setDev_mem_regions (r : Ram) : (s.setDev r).mem.regions = s.mem.regions := rfl
@[simp] theorem State.setDev_mem_scrubPos (r : Ram) : (s.setDev r).mem.scrubPos = s.mem.scrubPos := rfl
@[simp] theorem State.setDev_mem_draining (r : Ram) : (s.setDev r).mem.draining = s.mem.draining := rfl
@[simp] theorem State.setDev_mem_p0Held (r : Ram) : (s.setDev r).mem.p0Held = s.mem.p0Held := rfl
@[simp] theorem State.setDev_mem_dirty (r : Ram) : (s.setDev r).mem.dirty = s.mem.dirty := rfl

/-! setHost -/

@[simp] theorem State.setHost_pending (r : Ram) : (s.setHost r).pending = s.pending := rfl
@[simp] theorem State.setHost_now (r : Ram) : (s.setHost r).now = s.now := rfl
@[simp] theorem State.setHost_drawn (r : Ram) : (s.setHost r).drawn = s.drawn := rfl
@[simp] theorem State.setHost_cmp (r : Ram) : (s.setHost r).cmp = s.cmp := rfl
@[simp] theorem State.setHost_ring (r : Ram) : (s.setHost r).ring = s.ring := rfl
@[simp] theorem State.setHost_fab (r : Ram) : (s.setHost r).fab = s.fab := rfl
@[simp] theorem State.setHost_eth (r : Ram) : (s.setHost r).eth = s.eth := rfl
@[simp] theorem State.setHost_clu (r : Ram) : (s.setHost r).clu = s.clu := rfl
@[simp] theorem State.setHost_hrt (r : Ram) : (s.setHost r).hrt = s.hrt := rfl
@[simp] theorem State.setHost_hands (r : Ram) : (s.setHost r).hands = s.hands := rfl
@[simp] theorem State.setHost_led (r : Ram) : (s.setHost r).led = s.led := rfl
@[simp] theorem State.setHost_cipher (r : Ram) : (s.setHost r).cipher = s.cipher := rfl
@[simp] theorem State.setHost_flt (r : Ram) : (s.setHost r).flt = s.flt := rfl
@[simp] theorem State.setHost_pw (r : Ram) : (s.setHost r).pw = s.pw := rfl
@[simp] theorem State.setHost_out (r : Ram) : (s.setHost r).out = s.out := rfl
@[simp] theorem State.setHost_mem_dev (r : Ram) : (s.setHost r).mem.dev = s.mem.dev := rfl
@[simp] theorem State.setHost_mem_peer (r : Ram) : (s.setHost r).mem.peer = s.mem.peer := rfl
@[simp] theorem State.setHost_mem_owner (r : Ram) : (s.setHost r).mem.owner = s.mem.owner := rfl
@[simp] theorem State.setHost_mem_windows (r : Ram) : (s.setHost r).mem.windows = s.mem.windows := rfl
@[simp] theorem State.setHost_mem_leafCache (r : Ram) : (s.setHost r).mem.leafCache = s.mem.leafCache := rfl
@[simp] theorem State.setHost_mem_walkCache (r : Ram) : (s.setHost r).mem.walkCache = s.mem.walkCache := rfl
@[simp] theorem State.setHost_mem_moves (r : Ram) : (s.setHost r).mem.moves = s.mem.moves := rfl
@[simp] theorem State.setHost_mem_stale (r : Ram) : (s.setHost r).mem.stale = s.mem.stale := rfl
@[simp] theorem State.setHost_mem_known (r : Ram) : (s.setHost r).mem.known = s.mem.known := rfl
@[simp] theorem State.setHost_mem_regions (r : Ram) : (s.setHost r).mem.regions = s.mem.regions := rfl
@[simp] theorem State.setHost_mem_scrubPos (r : Ram) : (s.setHost r).mem.scrubPos = s.mem.scrubPos := rfl
@[simp] theorem State.setHost_mem_draining (r : Ram) : (s.setHost r).mem.draining = s.mem.draining := rfl
@[simp] theorem State.setHost_mem_p0Held (r : Ram) : (s.setHost r).mem.p0Held = s.mem.p0Held := rfl
@[simp] theorem State.setHost_mem_dirty (r : Ram) : (s.setHost r).mem.dirty = s.mem.dirty := rfl

/-! setPeer -/

@[simp] theorem State.setPeer_pending (r : Ram) : (s.setPeer r).pending = s.pending := rfl
@[simp] theorem State.setPeer_now (r : Ram) : (s.setPeer r).now = s.now := rfl
@[simp] theorem State.setPeer_drawn (r : Ram) : (s.setPeer r).drawn = s.drawn := rfl
@[simp] theorem State.setPeer_cmp (r : Ram) : (s.setPeer r).cmp = s.cmp := rfl
@[simp] theorem State.setPeer_ring (r : Ram) : (s.setPeer r).ring = s.ring := rfl
@[simp] theorem State.setPeer_fab (r : Ram) : (s.setPeer r).fab = s.fab := rfl
@[simp] theorem State.setPeer_eth (r : Ram) : (s.setPeer r).eth = s.eth := rfl
@[simp] theorem State.setPeer_clu (r : Ram) : (s.setPeer r).clu = s.clu := rfl
@[simp] theorem State.setPeer_hrt (r : Ram) : (s.setPeer r).hrt = s.hrt := rfl
@[simp] theorem State.setPeer_hands (r : Ram) : (s.setPeer r).hands = s.hands := rfl
@[simp] theorem State.setPeer_led (r : Ram) : (s.setPeer r).led = s.led := rfl
@[simp] theorem State.setPeer_cipher (r : Ram) : (s.setPeer r).cipher = s.cipher := rfl
@[simp] theorem State.setPeer_flt (r : Ram) : (s.setPeer r).flt = s.flt := rfl
@[simp] theorem State.setPeer_pw (r : Ram) : (s.setPeer r).pw = s.pw := rfl
@[simp] theorem State.setPeer_out (r : Ram) : (s.setPeer r).out = s.out := rfl
@[simp] theorem State.setPeer_mem_dev (r : Ram) : (s.setPeer r).mem.dev = s.mem.dev := rfl
@[simp] theorem State.setPeer_mem_host (r : Ram) : (s.setPeer r).mem.host = s.mem.host := rfl
@[simp] theorem State.setPeer_mem_owner (r : Ram) : (s.setPeer r).mem.owner = s.mem.owner := rfl
@[simp] theorem State.setPeer_mem_windows (r : Ram) : (s.setPeer r).mem.windows = s.mem.windows := rfl
@[simp] theorem State.setPeer_mem_leafCache (r : Ram) : (s.setPeer r).mem.leafCache = s.mem.leafCache := rfl
@[simp] theorem State.setPeer_mem_walkCache (r : Ram) : (s.setPeer r).mem.walkCache = s.mem.walkCache := rfl
@[simp] theorem State.setPeer_mem_moves (r : Ram) : (s.setPeer r).mem.moves = s.mem.moves := rfl
@[simp] theorem State.setPeer_mem_stale (r : Ram) : (s.setPeer r).mem.stale = s.mem.stale := rfl
@[simp] theorem State.setPeer_mem_known (r : Ram) : (s.setPeer r).mem.known = s.mem.known := rfl
@[simp] theorem State.setPeer_mem_regions (r : Ram) : (s.setPeer r).mem.regions = s.mem.regions := rfl
@[simp] theorem State.setPeer_mem_scrubPos (r : Ram) : (s.setPeer r).mem.scrubPos = s.mem.scrubPos := rfl
@[simp] theorem State.setPeer_mem_draining (r : Ram) : (s.setPeer r).mem.draining = s.mem.draining := rfl
@[simp] theorem State.setPeer_mem_p0Held (r : Ram) : (s.setPeer r).mem.p0Held = s.mem.p0Held := rfl
@[simp] theorem State.setPeer_mem_dirty (r : Ram) : (s.setPeer r).mem.dirty = s.mem.dirty := rfl

/-! setLine -/

@[simp] theorem State.setLine_pending (src : Nat) (v : FaultLine) : (s.setLine src v).pending = s.pending := rfl
@[simp] theorem State.setLine_now (src : Nat) (v : FaultLine) : (s.setLine src v).now = s.now := rfl
@[simp] theorem State.setLine_drawn (src : Nat) (v : FaultLine) : (s.setLine src v).drawn = s.drawn := rfl
@[simp] theorem State.setLine_mem (src : Nat) (v : FaultLine) : (s.setLine src v).mem = s.mem := rfl
@[simp] theorem State.setLine_cmp (src : Nat) (v : FaultLine) : (s.setLine src v).cmp = s.cmp := rfl
@[simp] theorem State.setLine_ring (src : Nat) (v : FaultLine) : (s.setLine src v).ring = s.ring := rfl
@[simp] theorem State.setLine_fab (src : Nat) (v : FaultLine) : (s.setLine src v).fab = s.fab := rfl
@[simp] theorem State.setLine_eth (src : Nat) (v : FaultLine) : (s.setLine src v).eth = s.eth := rfl
@[simp] theorem State.setLine_clu (src : Nat) (v : FaultLine) : (s.setLine src v).clu = s.clu := rfl
@[simp] theorem State.setLine_hrt (src : Nat) (v : FaultLine) : (s.setLine src v).hrt = s.hrt := rfl
@[simp] theorem State.setLine_hands (src : Nat) (v : FaultLine) : (s.setLine src v).hands = s.hands := rfl
@[simp] theorem State.setLine_led (src : Nat) (v : FaultLine) : (s.setLine src v).led = s.led := rfl
@[simp] theorem State.setLine_cipher (src : Nat) (v : FaultLine) : (s.setLine src v).cipher = s.cipher := rfl
@[simp] theorem State.setLine_pw (src : Nat) (v : FaultLine) : (s.setLine src v).pw = s.pw := rfl
@[simp] theorem State.setLine_out (src : Nat) (v : FaultLine) : (s.setLine src v).out = s.out := rfl
@[simp] theorem State.setLine_flt_scorecard (src : Nat) (v : FaultLine) : (s.setLine src v).flt.scorecard = s.flt.scorecard := rfl
@[simp] theorem State.setLine_flt_severe (src : Nat) (v : FaultLine) : (s.setLine src v).flt.severe = s.flt.severe := rfl
@[simp] theorem State.setLine_flt_faulting (src : Nat) (v : FaultLine) : (s.setLine src v).flt.faulting = s.flt.faulting := rfl
@[simp] theorem State.setLine_flt_runStart (src : Nat) (v : FaultLine) : (s.setLine src v).flt.runStart = s.flt.runStart := rfl
@[simp] theorem State.setLine_flt_lastWindow (src : Nat) (v : FaultLine) : (s.setLine src v).flt.lastWindow = s.flt.lastWindow := rfl
@[simp] theorem State.setLine_flt_cleared (src : Nat) (v : FaultLine) : (s.setLine src v).flt.cleared = s.flt.cleared := rfl
@[simp] theorem State.setLine_flt_clearedSevere (src : Nat) (v : FaultLine) : (s.setLine src v).flt.clearedSevere = s.flt.clearedSevere := rfl
@[simp] theorem State.setLine_flt_clearedFaulting (src : Nat) (v : FaultLine) : (s.setLine src v).flt.clearedFaulting = s.flt.clearedFaulting := rfl
@[simp] theorem State.setLine_flt_bootFault (src : Nat) (v : FaultLine) : (s.setLine src v).flt.bootFault = s.flt.bootFault := rfl
@[simp] theorem State.setLine_flt_injection (src : Nat) (v : FaultLine) : (s.setLine src v).flt.injection = s.flt.injection := rfl
@[simp] theorem State.setLine_flt_resetDue (src : Nat) (v : FaultLine) : (s.setLine src v).flt.resetDue = s.flt.resetDue := rfl
@[simp] theorem State.setLine_flt_inReset (src : Nat) (v : FaultLine) : (s.setLine src v).flt.inReset = s.flt.inReset := rfl
@[simp] theorem State.setLine_flt_wakeAlert (src : Nat) (v : FaultLine) : (s.setLine src v).flt.wakeAlert = s.flt.wakeAlert := rfl

/-! emit -/

@[simp] theorem State.emit_pending (o : Output) : (s.emit o).pending = s.pending := rfl
@[simp] theorem State.emit_now (o : Output) : (s.emit o).now = s.now := rfl
@[simp] theorem State.emit_drawn (o : Output) : (s.emit o).drawn = s.drawn := rfl
@[simp] theorem State.emit_mem (o : Output) : (s.emit o).mem = s.mem := rfl
@[simp] theorem State.emit_cmp (o : Output) : (s.emit o).cmp = s.cmp := rfl
@[simp] theorem State.emit_ring (o : Output) : (s.emit o).ring = s.ring := rfl
@[simp] theorem State.emit_fab (o : Output) : (s.emit o).fab = s.fab := rfl
@[simp] theorem State.emit_eth (o : Output) : (s.emit o).eth = s.eth := rfl
@[simp] theorem State.emit_clu (o : Output) : (s.emit o).clu = s.clu := rfl
@[simp] theorem State.emit_hrt (o : Output) : (s.emit o).hrt = s.hrt := rfl
@[simp] theorem State.emit_hands (o : Output) : (s.emit o).hands = s.hands := rfl
@[simp] theorem State.emit_led (o : Output) : (s.emit o).led = s.led := rfl
@[simp] theorem State.emit_cipher (o : Output) : (s.emit o).cipher = s.cipher := rfl
@[simp] theorem State.emit_flt (o : Output) : (s.emit o).flt = s.flt := rfl
@[simp] theorem State.emit_pw (o : Output) : (s.emit o).pw = s.pw := rfl
@[simp] theorem State.emit_out (o : Output) : (s.emit o).out = s.out ++ [o] := rfl

/-! What is read back -/

@[simp] theorem State.obj_setObj (idx sub inst v : Nat) : (s.setObj idx sub inst v).obj idx sub inst = v :=
  Sparse.get_set_same _ _ _
theorem State.obj_setObj_ne (idx sub inst v : Nat) {i b n : Nat} (h : objKey idx sub inst ≠ objKey i b n) :
    (s.setObj idx sub inst v).obj i b n = s.obj i b n := Sparse.get_set_ne _ _ h
@[simp] theorem State.blob_setBlob (idx sub inst : Nat) (v : List Byte) : (s.setBlob idx sub inst v).blob idx sub inst = v :=
  Sparse.get_set_same _ _ _
theorem State.blob_setBlob_ne (idx sub inst : Nat) (v : List Byte) {i b n : Nat} (h : objKey idx sub inst ≠ objKey i b n) :
    (s.setBlob idx sub inst v).blob i b n = s.blob i b n := Sparse.get_set_ne _ _ h
@[simp] theorem State.ctr_setCtr (idx sub v : Nat) : (s.setCtr idx sub v).ctr idx sub = v := Sparse.get_set_same _ _ _
theorem State.ctr_setCtr_ne (idx sub v : Nat) {i b : Nat} (h : objKey idx sub 0 ≠ objKey i b 0) :
    (s.setCtr idx sub v).ctr i b = s.ctr i b := Sparse.get_set_ne _ _ h
@[simp] theorem State.session_setSession (k : Nat) (v : Option Session) : (s.setSession k v).session k = v :=
  Sparse.get_set_same _ _ _
theorem State.session_setSession_ne (k : Nat) (v : Option Session) {j : Nat} (h : k ≠ j) :
    (s.setSession k v).session j = s.session j := Sparse.get_set_ne _ _ h
@[simp] theorem State.fn_setFn (f : Nat) (v : Fn) : (s.setFn f v).fn f = v := Sparse.get_set_same _ _ _
theorem State.fn_setFn_ne (f : Nat) (v : Fn) {g : Nat} (h : f ≠ g) : (s.setFn f v).fn g = s.fn g := Sparse.get_set_ne _ _ h
@[simp] theorem State.bench_setBench (b : Nat) (v : Bench) : (s.setBench b v).bench b = v := Sparse.get_set_same _ _ _
theorem State.bench_setBench_ne (b : Nat) (v : Bench) {c : Nat} (h : b ≠ c) : (s.setBench b v).bench c = s.bench c :=
  Sparse.get_set_ne _ _ h
@[simp] theorem State.stack_setStack (k : Nat) (v : Stack) : (s.setStack k v).stack k = v := Sparse.get_set_same _ _ _
theorem State.stack_setStack_ne (k : Nat) (v : Stack) {j : Nat} (h : k ≠ j) : (s.setStack k v).stack j = s.stack j :=
  Sparse.get_set_ne _ _ h
@[simp] theorem State.slot_setSlot (f k : Nat) (v : Option Slot) : (s.setSlot f k v).slot f k = v := Sparse.get_set_same _ _ _
theorem State.slot_setSlot_ne (f k : Nat) (v : Option Slot) {g j : Nat} (h : 16 * f + k ≠ 16 * g + j) :
    (s.setSlot f k v).slot g j = s.slot g j := Sparse.get_set_ne _ _ h
@[simp] theorem State.job_setJob (d : Nat) (v : Option Job) : (s.setJob d v).job d = v := Sparse.get_set_same _ _ _
theorem State.job_setJob_ne (d : Nat) (v : Option Job) {e : Nat} (h : d ≠ e) : (s.setJob d v).job e = s.job e :=
  Sparse.get_set_ne _ _ h
@[simp] theorem State.region_setRegion (r : Nat) (v : Region) : (s.setRegion r v).region r = v := Sparse.get_set_same _ _ _
theorem State.region_setRegion_ne (r : Nat) (v : Region) {q : Nat} (h : r ≠ q) : (s.setRegion r v).region q = s.region q :=
  Sparse.get_set_ne _ _ h
@[simp] theorem State.windows_setWindows (d : Nat) (v : List Window) : (s.setWindows d v).windows d = v :=
  Sparse.get_set_same _ _ _
@[simp] theorem State.line_setLine (src : Nat) (v : FaultLine) : (s.setLine src v).line src = v := Sparse.get_set_same _ _ _
theorem State.line_setLine_ne (src : Nat) (v : FaultLine) {r : Nat} (h : src ≠ r) : (s.setLine src v).line r = s.line r :=
  Sparse.get_set_ne _ _ h
@[simp] theorem State.setDev_dev (r : Ram) : (s.setDev r).mem.dev = r := rfl
@[simp] theorem State.setHost_host (r : Ram) : (s.setHost r).mem.host = r := rfl
@[simp] theorem State.setPeer_peer (r : Ram) : (s.setPeer r).mem.peer = r := rfl

/-! A read through an update of something else -/

@[simp] theorem State.setObj_blob (idx sub inst v : Nat) (i b n : Nat) : (s.setObj idx sub inst v).blob i b n = s.blob i b n := rfl
@[simp] theorem State.setObj_ctr (idx sub inst v : Nat) (i b : Nat) : (s.setObj idx sub inst v).ctr i b = s.ctr i b := rfl
@[simp] theorem State.setObj_session (idx sub inst v : Nat) (j : Nat) : (s.setObj idx sub inst v).session j = s.session j := rfl
@[simp] theorem State.setObj_fn (idx sub inst v : Nat) (g : Nat) : (s.setObj idx sub inst v).fn g = s.fn g := rfl
@[simp] theorem State.setObj_bench (idx sub inst v : Nat) (c : Nat) : (s.setObj idx sub inst v).bench c = s.bench c := rfl
@[simp] theorem State.setObj_stack (idx sub inst v : Nat) (j : Nat) : (s.setObj idx sub inst v).stack j = s.stack j := rfl
@[simp] theorem State.setObj_slot (idx sub inst v : Nat) (g j : Nat) : (s.setObj idx sub inst v).slot g j = s.slot g j := rfl
@[simp] theorem State.setObj_job (idx sub inst v : Nat) (e : Nat) : (s.setObj idx sub inst v).job e = s.job e := rfl
@[simp] theorem State.setObj_region (idx sub inst v : Nat) (q : Nat) : (s.setObj idx sub inst v).region q = s.region q := rfl
@[simp] theorem State.setObj_windows (idx sub inst v : Nat) (e : Nat) : (s.setObj idx sub inst v).windows e = s.windows e := rfl
@[simp] theorem State.setObj_line (idx sub inst v : Nat) (q : Nat) : (s.setObj idx sub inst v).line q = s.line q := rfl

@[simp] theorem State.setBlob_obj (idx sub inst : Nat) (v : List Byte) (i b n : Nat) : (s.setBlob idx sub inst v).obj i b n = s.obj i b n := rfl
@[simp] theorem State.setBlob_ctr (idx sub inst : Nat) (v : List Byte) (i b : Nat) : (s.setBlob idx sub inst v).ctr i b = s.ctr i b := rfl
@[simp] theorem State.setBlob_session (idx sub inst : Nat) (v : List Byte) (j : Nat) : (s.setBlob idx sub inst v).session j = s.session j := rfl
@[simp] theorem State.setBlob_fn (idx sub inst : Nat) (v : List Byte) (g : Nat) : (s.setBlob idx sub inst v).fn g = s.fn g := rfl
@[simp] theorem State.setBlob_bench (idx sub inst : Nat) (v : List Byte) (c : Nat) : (s.setBlob idx sub inst v).bench c = s.bench c := rfl
@[simp] theorem State.setBlob_stack (idx sub inst : Nat) (v : List Byte) (j : Nat) : (s.setBlob idx sub inst v).stack j = s.stack j := rfl
@[simp] theorem State.setBlob_slot (idx sub inst : Nat) (v : List Byte) (g j : Nat) : (s.setBlob idx sub inst v).slot g j = s.slot g j := rfl
@[simp] theorem State.setBlob_job (idx sub inst : Nat) (v : List Byte) (e : Nat) : (s.setBlob idx sub inst v).job e = s.job e := rfl
@[simp] theorem State.setBlob_region (idx sub inst : Nat) (v : List Byte) (q : Nat) : (s.setBlob idx sub inst v).region q = s.region q := rfl
@[simp] theorem State.setBlob_windows (idx sub inst : Nat) (v : List Byte) (e : Nat) : (s.setBlob idx sub inst v).windows e = s.windows e := rfl
@[simp] theorem State.setBlob_line (idx sub inst : Nat) (v : List Byte) (q : Nat) : (s.setBlob idx sub inst v).line q = s.line q := rfl

@[simp] theorem State.setCtr_obj (idx sub v : Nat) (i b n : Nat) : (s.setCtr idx sub v).obj i b n = s.obj i b n := rfl
@[simp] theorem State.setCtr_blob (idx sub v : Nat) (i b n : Nat) : (s.setCtr idx sub v).blob i b n = s.blob i b n := rfl
@[simp] theorem State.setCtr_session (idx sub v : Nat) (j : Nat) : (s.setCtr idx sub v).session j = s.session j := rfl
@[simp] theorem State.setCtr_fn (idx sub v : Nat) (g : Nat) : (s.setCtr idx sub v).fn g = s.fn g := rfl
@[simp] theorem State.setCtr_bench (idx sub v : Nat) (c : Nat) : (s.setCtr idx sub v).bench c = s.bench c := rfl
@[simp] theorem State.setCtr_stack (idx sub v : Nat) (j : Nat) : (s.setCtr idx sub v).stack j = s.stack j := rfl
@[simp] theorem State.setCtr_slot (idx sub v : Nat) (g j : Nat) : (s.setCtr idx sub v).slot g j = s.slot g j := rfl
@[simp] theorem State.setCtr_job (idx sub v : Nat) (e : Nat) : (s.setCtr idx sub v).job e = s.job e := rfl
@[simp] theorem State.setCtr_region (idx sub v : Nat) (q : Nat) : (s.setCtr idx sub v).region q = s.region q := rfl
@[simp] theorem State.setCtr_windows (idx sub v : Nat) (e : Nat) : (s.setCtr idx sub v).windows e = s.windows e := rfl
@[simp] theorem State.setCtr_line (idx sub v : Nat) (q : Nat) : (s.setCtr idx sub v).line q = s.line q := rfl

@[simp] theorem State.setSession_obj (k : Nat) (v : Option Session) (i b n : Nat) : (s.setSession k v).obj i b n = s.obj i b n := rfl
@[simp] theorem State.setSession_blob (k : Nat) (v : Option Session) (i b n : Nat) : (s.setSession k v).blob i b n = s.blob i b n := rfl
@[simp] theorem State.setSession_ctr (k : Nat) (v : Option Session) (i b : Nat) : (s.setSession k v).ctr i b = s.ctr i b := rfl
@[simp] theorem State.setSession_fn (k : Nat) (v : Option Session) (g : Nat) : (s.setSession k v).fn g = s.fn g := rfl
@[simp] theorem State.setSession_bench (k : Nat) (v : Option Session) (c : Nat) : (s.setSession k v).bench c = s.bench c := rfl
@[simp] theorem State.setSession_stack (k : Nat) (v : Option Session) (j : Nat) : (s.setSession k v).stack j = s.stack j := rfl
@[simp] theorem State.setSession_slot (k : Nat) (v : Option Session) (g j : Nat) : (s.setSession k v).slot g j = s.slot g j := rfl
@[simp] theorem State.setSession_job (k : Nat) (v : Option Session) (e : Nat) : (s.setSession k v).job e = s.job e := rfl
@[simp] theorem State.setSession_region (k : Nat) (v : Option Session) (q : Nat) : (s.setSession k v).region q = s.region q := rfl
@[simp] theorem State.setSession_windows (k : Nat) (v : Option Session) (e : Nat) : (s.setSession k v).windows e = s.windows e := rfl
@[simp] theorem State.setSession_line (k : Nat) (v : Option Session) (q : Nat) : (s.setSession k v).line q = s.line q := rfl

@[simp] theorem State.setFn_obj (f : Nat) (v : Fn) (i b n : Nat) : (s.setFn f v).obj i b n = s.obj i b n := rfl
@[simp] theorem State.setFn_blob (f : Nat) (v : Fn) (i b n : Nat) : (s.setFn f v).blob i b n = s.blob i b n := rfl
@[simp] theorem State.setFn_ctr (f : Nat) (v : Fn) (i b : Nat) : (s.setFn f v).ctr i b = s.ctr i b := rfl
@[simp] theorem State.setFn_session (f : Nat) (v : Fn) (j : Nat) : (s.setFn f v).session j = s.session j := rfl
@[simp] theorem State.setFn_bench (f : Nat) (v : Fn) (c : Nat) : (s.setFn f v).bench c = s.bench c := rfl
@[simp] theorem State.setFn_stack (f : Nat) (v : Fn) (j : Nat) : (s.setFn f v).stack j = s.stack j := rfl
@[simp] theorem State.setFn_slot (f : Nat) (v : Fn) (g j : Nat) : (s.setFn f v).slot g j = s.slot g j := rfl
@[simp] theorem State.setFn_job (f : Nat) (v : Fn) (e : Nat) : (s.setFn f v).job e = s.job e := rfl
@[simp] theorem State.setFn_region (f : Nat) (v : Fn) (q : Nat) : (s.setFn f v).region q = s.region q := rfl
@[simp] theorem State.setFn_windows (f : Nat) (v : Fn) (e : Nat) : (s.setFn f v).windows e = s.windows e := rfl
@[simp] theorem State.setFn_line (f : Nat) (v : Fn) (q : Nat) : (s.setFn f v).line q = s.line q := rfl

@[simp] theorem State.setBench_obj (b : Nat) (v : Bench) (i b' n : Nat) : (s.setBench b v).obj i b' n = s.obj i b' n := rfl
@[simp] theorem State.setBench_blob (b : Nat) (v : Bench) (i b' n : Nat) : (s.setBench b v).blob i b' n = s.blob i b' n := rfl
@[simp] theorem State.setBench_ctr (b : Nat) (v : Bench) (i b' : Nat) : (s.setBench b v).ctr i b' = s.ctr i b' := rfl
@[simp] theorem State.setBench_session (b : Nat) (v : Bench) (j : Nat) : (s.setBench b v).session j = s.session j := rfl
@[simp] theorem State.setBench_fn (b : Nat) (v : Bench) (g : Nat) : (s.setBench b v).fn g = s.fn g := rfl
@[simp] theorem State.setBench_stack (b : Nat) (v : Bench) (j : Nat) : (s.setBench b v).stack j = s.stack j := rfl
@[simp] theorem State.setBench_slot (b : Nat) (v : Bench) (g j : Nat) : (s.setBench b v).slot g j = s.slot g j := rfl
@[simp] theorem State.setBench_job (b : Nat) (v : Bench) (e : Nat) : (s.setBench b v).job e = s.job e := rfl
@[simp] theorem State.setBench_region (b : Nat) (v : Bench) (q : Nat) : (s.setBench b v).region q = s.region q := rfl
@[simp] theorem State.setBench_windows (b : Nat) (v : Bench) (e : Nat) : (s.setBench b v).windows e = s.windows e := rfl
@[simp] theorem State.setBench_line (b : Nat) (v : Bench) (q : Nat) : (s.setBench b v).line q = s.line q := rfl

@[simp] theorem State.setStack_obj (k : Nat) (v : Stack) (i b n : Nat) : (s.setStack k v).obj i b n = s.obj i b n := rfl
@[simp] theorem State.setStack_blob (k : Nat) (v : Stack) (i b n : Nat) : (s.setStack k v).blob i b n = s.blob i b n := rfl
@[simp] theorem State.setStack_ctr (k : Nat) (v : Stack) (i b : Nat) : (s.setStack k v).ctr i b = s.ctr i b := rfl
@[simp] theorem State.setStack_session (k : Nat) (v : Stack) (j : Nat) : (s.setStack k v).session j = s.session j := rfl
@[simp] theorem State.setStack_fn (k : Nat) (v : Stack) (g : Nat) : (s.setStack k v).fn g = s.fn g := rfl
@[simp] theorem State.setStack_bench (k : Nat) (v : Stack) (c : Nat) : (s.setStack k v).bench c = s.bench c := rfl
@[simp] theorem State.setStack_slot (k : Nat) (v : Stack) (g j : Nat) : (s.setStack k v).slot g j = s.slot g j := rfl
@[simp] theorem State.setStack_job (k : Nat) (v : Stack) (e : Nat) : (s.setStack k v).job e = s.job e := rfl
@[simp] theorem State.setStack_region (k : Nat) (v : Stack) (q : Nat) : (s.setStack k v).region q = s.region q := rfl
@[simp] theorem State.setStack_windows (k : Nat) (v : Stack) (e : Nat) : (s.setStack k v).windows e = s.windows e := rfl
@[simp] theorem State.setStack_line (k : Nat) (v : Stack) (q : Nat) : (s.setStack k v).line q = s.line q := rfl

@[simp] theorem State.setSlot_obj (f k : Nat) (v : Option Slot) (i b n : Nat) : (s.setSlot f k v).obj i b n = s.obj i b n := rfl
@[simp] theorem State.setSlot_blob (f k : Nat) (v : Option Slot) (i b n : Nat) : (s.setSlot f k v).blob i b n = s.blob i b n := rfl
@[simp] theorem State.setSlot_ctr (f k : Nat) (v : Option Slot) (i b : Nat) : (s.setSlot f k v).ctr i b = s.ctr i b := rfl
@[simp] theorem State.setSlot_session (f k : Nat) (v : Option Slot) (j : Nat) : (s.setSlot f k v).session j = s.session j := rfl
@[simp] theorem State.setSlot_fn (f k : Nat) (v : Option Slot) (g : Nat) : (s.setSlot f k v).fn g = s.fn g := rfl
@[simp] theorem State.setSlot_bench (f k : Nat) (v : Option Slot) (c : Nat) : (s.setSlot f k v).bench c = s.bench c := rfl
@[simp] theorem State.setSlot_stack (f k : Nat) (v : Option Slot) (j : Nat) : (s.setSlot f k v).stack j = s.stack j := rfl
@[simp] theorem State.setSlot_job (f k : Nat) (v : Option Slot) (e : Nat) : (s.setSlot f k v).job e = s.job e := rfl
@[simp] theorem State.setSlot_region (f k : Nat) (v : Option Slot) (q : Nat) : (s.setSlot f k v).region q = s.region q := rfl
@[simp] theorem State.setSlot_windows (f k : Nat) (v : Option Slot) (e : Nat) : (s.setSlot f k v).windows e = s.windows e := rfl
@[simp] theorem State.setSlot_line (f k : Nat) (v : Option Slot) (q : Nat) : (s.setSlot f k v).line q = s.line q := rfl

@[simp] theorem State.setJob_obj (d : Nat) (v : Option Job) (i b n : Nat) : (s.setJob d v).obj i b n = s.obj i b n := rfl
@[simp] theorem State.setJob_blob (d : Nat) (v : Option Job) (i b n : Nat) : (s.setJob d v).blob i b n = s.blob i b n := rfl
@[simp] theorem State.setJob_ctr (d : Nat) (v : Option Job) (i b : Nat) : (s.setJob d v).ctr i b = s.ctr i b := rfl
@[simp] theorem State.setJob_session (d : Nat) (v : Option Job) (j : Nat) : (s.setJob d v).session j = s.session j := rfl
@[simp] theorem State.setJob_fn (d : Nat) (v : Option Job) (g : Nat) : (s.setJob d v).fn g = s.fn g := rfl
@[simp] theorem State.setJob_bench (d : Nat) (v : Option Job) (c : Nat) : (s.setJob d v).bench c = s.bench c := rfl
@[simp] theorem State.setJob_stack (d : Nat) (v : Option Job) (j : Nat) : (s.setJob d v).stack j = s.stack j := rfl
@[simp] theorem State.setJob_slot (d : Nat) (v : Option Job) (g j : Nat) : (s.setJob d v).slot g j = s.slot g j := rfl
@[simp] theorem State.setJob_region (d : Nat) (v : Option Job) (q : Nat) : (s.setJob d v).region q = s.region q := rfl
@[simp] theorem State.setJob_windows (d : Nat) (v : Option Job) (e : Nat) : (s.setJob d v).windows e = s.windows e := rfl
@[simp] theorem State.setJob_line (d : Nat) (v : Option Job) (q : Nat) : (s.setJob d v).line q = s.line q := rfl

@[simp] theorem State.setRegion_obj (r : Nat) (v : Region) (i b n : Nat) : (s.setRegion r v).obj i b n = s.obj i b n := rfl
@[simp] theorem State.setRegion_blob (r : Nat) (v : Region) (i b n : Nat) : (s.setRegion r v).blob i b n = s.blob i b n := rfl
@[simp] theorem State.setRegion_ctr (r : Nat) (v : Region) (i b : Nat) : (s.setRegion r v).ctr i b = s.ctr i b := rfl
@[simp] theorem State.setRegion_session (r : Nat) (v : Region) (j : Nat) : (s.setRegion r v).session j = s.session j := rfl
@[simp] theorem State.setRegion_fn (r : Nat) (v : Region) (g : Nat) : (s.setRegion r v).fn g = s.fn g := rfl
@[simp] theorem State.setRegion_bench (r : Nat) (v : Region) (c : Nat) : (s.setRegion r v).bench c = s.bench c := rfl
@[simp] theorem State.setRegion_stack (r : Nat) (v : Region) (j : Nat) : (s.setRegion r v).stack j = s.stack j := rfl
@[simp] theorem State.setRegion_slot (r : Nat) (v : Region) (g j : Nat) : (s.setRegion r v).slot g j = s.slot g j := rfl
@[simp] theorem State.setRegion_job (r : Nat) (v : Region) (e : Nat) : (s.setRegion r v).job e = s.job e := rfl
@[simp] theorem State.setRegion_windows (r : Nat) (v : Region) (e : Nat) : (s.setRegion r v).windows e = s.windows e := rfl
@[simp] theorem State.setRegion_line (r : Nat) (v : Region) (q : Nat) : (s.setRegion r v).line q = s.line q := rfl

@[simp] theorem State.setWindows_obj (d : Nat) (v : List Window) (i b n : Nat) : (s.setWindows d v).obj i b n = s.obj i b n := rfl
@[simp] theorem State.setWindows_blob (d : Nat) (v : List Window) (i b n : Nat) : (s.setWindows d v).blob i b n = s.blob i b n := rfl
@[simp] theorem State.setWindows_ctr (d : Nat) (v : List Window) (i b : Nat) : (s.setWindows d v).ctr i b = s.ctr i b := rfl
@[simp] theorem State.setWindows_session (d : Nat) (v : List Window) (j : Nat) : (s.setWindows d v).session j = s.session j := rfl
@[simp] theorem State.setWindows_fn (d : Nat) (v : List Window) (g : Nat) : (s.setWindows d v).fn g = s.fn g := rfl
@[simp] theorem State.setWindows_bench (d : Nat) (v : List Window) (c : Nat) : (s.setWindows d v).bench c = s.bench c := rfl
@[simp] theorem State.setWindows_stack (d : Nat) (v : List Window) (j : Nat) : (s.setWindows d v).stack j = s.stack j := rfl
@[simp] theorem State.setWindows_slot (d : Nat) (v : List Window) (g j : Nat) : (s.setWindows d v).slot g j = s.slot g j := rfl
@[simp] theorem State.setWindows_job (d : Nat) (v : List Window) (e : Nat) : (s.setWindows d v).job e = s.job e := rfl
@[simp] theorem State.setWindows_region (d : Nat) (v : List Window) (q : Nat) : (s.setWindows d v).region q = s.region q := rfl
@[simp] theorem State.setWindows_line (d : Nat) (v : List Window) (q : Nat) : (s.setWindows d v).line q = s.line q := rfl

@[simp] theorem State.setDev_obj (r : Ram) (i b n : Nat) : (s.setDev r).obj i b n = s.obj i b n := rfl
@[simp] theorem State.setDev_blob (r : Ram) (i b n : Nat) : (s.setDev r).blob i b n = s.blob i b n := rfl
@[simp] theorem State.setDev_ctr (r : Ram) (i b : Nat) : (s.setDev r).ctr i b = s.ctr i b := rfl
@[simp] theorem State.setDev_session (r : Ram) (j : Nat) : (s.setDev r).session j = s.session j := rfl
@[simp] theorem State.setDev_fn (r : Ram) (g : Nat) : (s.setDev r).fn g = s.fn g := rfl
@[simp] theorem State.setDev_bench (r : Ram) (c : Nat) : (s.setDev r).bench c = s.bench c := rfl
@[simp] theorem State.setDev_stack (r : Ram) (j : Nat) : (s.setDev r).stack j = s.stack j := rfl
@[simp] theorem State.setDev_slot (r : Ram) (g j : Nat) : (s.setDev r).slot g j = s.slot g j := rfl
@[simp] theorem State.setDev_job (r : Ram) (e : Nat) : (s.setDev r).job e = s.job e := rfl
@[simp] theorem State.setDev_region (r : Ram) (q : Nat) : (s.setDev r).region q = s.region q := rfl
@[simp] theorem State.setDev_windows (r : Ram) (e : Nat) : (s.setDev r).windows e = s.windows e := rfl
@[simp] theorem State.setDev_line (r : Ram) (q : Nat) : (s.setDev r).line q = s.line q := rfl

@[simp] theorem State.setHost_obj (r : Ram) (i b n : Nat) : (s.setHost r).obj i b n = s.obj i b n := rfl
@[simp] theorem State.setHost_blob (r : Ram) (i b n : Nat) : (s.setHost r).blob i b n = s.blob i b n := rfl
@[simp] theorem State.setHost_ctr (r : Ram) (i b : Nat) : (s.setHost r).ctr i b = s.ctr i b := rfl
@[simp] theorem State.setHost_session (r : Ram) (j : Nat) : (s.setHost r).session j = s.session j := rfl
@[simp] theorem State.setHost_fn (r : Ram) (g : Nat) : (s.setHost r).fn g = s.fn g := rfl
@[simp] theorem State.setHost_bench (r : Ram) (c : Nat) : (s.setHost r).bench c = s.bench c := rfl
@[simp] theorem State.setHost_stack (r : Ram) (j : Nat) : (s.setHost r).stack j = s.stack j := rfl
@[simp] theorem State.setHost_slot (r : Ram) (g j : Nat) : (s.setHost r).slot g j = s.slot g j := rfl
@[simp] theorem State.setHost_job (r : Ram) (e : Nat) : (s.setHost r).job e = s.job e := rfl
@[simp] theorem State.setHost_region (r : Ram) (q : Nat) : (s.setHost r).region q = s.region q := rfl
@[simp] theorem State.setHost_windows (r : Ram) (e : Nat) : (s.setHost r).windows e = s.windows e := rfl
@[simp] theorem State.setHost_line (r : Ram) (q : Nat) : (s.setHost r).line q = s.line q := rfl

@[simp] theorem State.setPeer_obj (r : Ram) (i b n : Nat) : (s.setPeer r).obj i b n = s.obj i b n := rfl
@[simp] theorem State.setPeer_blob (r : Ram) (i b n : Nat) : (s.setPeer r).blob i b n = s.blob i b n := rfl
@[simp] theorem State.setPeer_ctr (r : Ram) (i b : Nat) : (s.setPeer r).ctr i b = s.ctr i b := rfl
@[simp] theorem State.setPeer_session (r : Ram) (j : Nat) : (s.setPeer r).session j = s.session j := rfl
@[simp] theorem State.setPeer_fn (r : Ram) (g : Nat) : (s.setPeer r).fn g = s.fn g := rfl
@[simp] theorem State.setPeer_bench (r : Ram) (c : Nat) : (s.setPeer r).bench c = s.bench c := rfl
@[simp] theorem State.setPeer_stack (r : Ram) (j : Nat) : (s.setPeer r).stack j = s.stack j := rfl
@[simp] theorem State.setPeer_slot (r : Ram) (g j : Nat) : (s.setPeer r).slot g j = s.slot g j := rfl
@[simp] theorem State.setPeer_job (r : Ram) (e : Nat) : (s.setPeer r).job e = s.job e := rfl
@[simp] theorem State.setPeer_region (r : Ram) (q : Nat) : (s.setPeer r).region q = s.region q := rfl
@[simp] theorem State.setPeer_windows (r : Ram) (e : Nat) : (s.setPeer r).windows e = s.windows e := rfl
@[simp] theorem State.setPeer_line (r : Ram) (q : Nat) : (s.setPeer r).line q = s.line q := rfl

@[simp] theorem State.setLine_obj (src : Nat) (v : FaultLine) (i b n : Nat) : (s.setLine src v).obj i b n = s.obj i b n := rfl
@[simp] theorem State.setLine_blob (src : Nat) (v : FaultLine) (i b n : Nat) : (s.setLine src v).blob i b n = s.blob i b n := rfl
@[simp] theorem State.setLine_ctr (src : Nat) (v : FaultLine) (i b : Nat) : (s.setLine src v).ctr i b = s.ctr i b := rfl
@[simp] theorem State.setLine_session (src : Nat) (v : FaultLine) (j : Nat) : (s.setLine src v).session j = s.session j := rfl
@[simp] theorem State.setLine_fn (src : Nat) (v : FaultLine) (g : Nat) : (s.setLine src v).fn g = s.fn g := rfl
@[simp] theorem State.setLine_bench (src : Nat) (v : FaultLine) (c : Nat) : (s.setLine src v).bench c = s.bench c := rfl
@[simp] theorem State.setLine_stack (src : Nat) (v : FaultLine) (j : Nat) : (s.setLine src v).stack j = s.stack j := rfl
@[simp] theorem State.setLine_slot (src : Nat) (v : FaultLine) (g j : Nat) : (s.setLine src v).slot g j = s.slot g j := rfl
@[simp] theorem State.setLine_job (src : Nat) (v : FaultLine) (e : Nat) : (s.setLine src v).job e = s.job e := rfl
@[simp] theorem State.setLine_region (src : Nat) (v : FaultLine) (q : Nat) : (s.setLine src v).region q = s.region q := rfl
@[simp] theorem State.setLine_windows (src : Nat) (v : FaultLine) (e : Nat) : (s.setLine src v).windows e = s.windows e := rfl

@[simp] theorem State.emit_obj (o : Output) (i b n : Nat) : (s.emit o).obj i b n = s.obj i b n := rfl
@[simp] theorem State.emit_blob (o : Output) (i b n : Nat) : (s.emit o).blob i b n = s.blob i b n := rfl
@[simp] theorem State.emit_ctr (o : Output) (i b : Nat) : (s.emit o).ctr i b = s.ctr i b := rfl
@[simp] theorem State.emit_session (o : Output) (j : Nat) : (s.emit o).session j = s.session j := rfl
@[simp] theorem State.emit_fn (o : Output) (g : Nat) : (s.emit o).fn g = s.fn g := rfl
@[simp] theorem State.emit_bench (o : Output) (c : Nat) : (s.emit o).bench c = s.bench c := rfl
@[simp] theorem State.emit_stack (o : Output) (j : Nat) : (s.emit o).stack j = s.stack j := rfl
@[simp] theorem State.emit_slot (o : Output) (g j : Nat) : (s.emit o).slot g j = s.slot g j := rfl
@[simp] theorem State.emit_job (o : Output) (e : Nat) : (s.emit o).job e = s.job e := rfl
@[simp] theorem State.emit_region (o : Output) (q : Nat) : (s.emit o).region q = s.region q := rfl
@[simp] theorem State.emit_windows (o : Output) (e : Nat) : (s.emit o).windows e = s.windows e := rfl
@[simp] theorem State.emit_line (o : Output) (q : Nat) : (s.emit o).line q = s.line q := rfl

/-! running and level -/

@[simp] theorem State.setObj_running (idx sub inst v : Nat) : (s.setObj idx sub inst v).running = s.running := rfl
@[simp] theorem State.setBlob_running (idx sub inst : Nat) (v : List Byte) : (s.setBlob idx sub inst v).running = s.running := rfl
@[simp] theorem State.setBlob_level (idx sub inst : Nat) (v : List Byte) : (s.setBlob idx sub inst v).level = s.level := rfl
@[simp] theorem State.setCtr_running (idx sub v : Nat) : (s.setCtr idx sub v).running = s.running := rfl
@[simp] theorem State.setCtr_level (idx sub v : Nat) : (s.setCtr idx sub v).level = s.level := rfl
@[simp] theorem State.setSession_running (k : Nat) (v : Option Session) : (s.setSession k v).running = s.running := rfl
@[simp] theorem State.setSession_level (k : Nat) (v : Option Session) : (s.setSession k v).level = s.level := rfl
@[simp] theorem State.setFn_running (f : Nat) (v : Fn) : (s.setFn f v).running = s.running := rfl
@[simp] theorem State.setFn_level (f : Nat) (v : Fn) : (s.setFn f v).level = s.level := rfl
@[simp] theorem State.setBench_running (b : Nat) (v : Bench) : (s.setBench b v).running = s.running := rfl
@[simp] theorem State.setBench_level (b : Nat) (v : Bench) : (s.setBench b v).level = s.level := rfl
@[simp] theorem State.setStack_running (k : Nat) (v : Stack) : (s.setStack k v).running = s.running := rfl
@[simp] theorem State.setStack_level (k : Nat) (v : Stack) : (s.setStack k v).level = s.level := rfl
@[simp] theorem State.setSlot_running (f k : Nat) (v : Option Slot) : (s.setSlot f k v).running = s.running := rfl
@[simp] theorem State.setSlot_level (f k : Nat) (v : Option Slot) : (s.setSlot f k v).level = s.level := rfl
@[simp] theorem State.setJob_running (d : Nat) (v : Option Job) : (s.setJob d v).running = s.running := rfl
@[simp] theorem State.setJob_level (d : Nat) (v : Option Job) : (s.setJob d v).level = s.level := rfl
@[simp] theorem State.setRegion_running (r : Nat) (v : Region) : (s.setRegion r v).running = s.running := rfl
@[simp] theorem State.setRegion_level (r : Nat) (v : Region) : (s.setRegion r v).level = s.level := rfl
@[simp] theorem State.setWindows_running (d : Nat) (v : List Window) : (s.setWindows d v).running = s.running := rfl
@[simp] theorem State.setWindows_level (d : Nat) (v : List Window) : (s.setWindows d v).level = s.level := rfl
@[simp] theorem State.setDev_running (r : Ram) : (s.setDev r).running = s.running := rfl
@[simp] theorem State.setDev_level (r : Ram) : (s.setDev r).level = s.level := rfl
@[simp] theorem State.setHost_running (r : Ram) : (s.setHost r).running = s.running := rfl
@[simp] theorem State.setHost_level (r : Ram) : (s.setHost r).level = s.level := rfl
@[simp] theorem State.setPeer_running (r : Ram) : (s.setPeer r).running = s.running := rfl
@[simp] theorem State.setPeer_level (r : Ram) : (s.setPeer r).level = s.level := rfl
@[simp] theorem State.setLine_running (src : Nat) (v : FaultLine) : (s.setLine src v).running = s.running := rfl
@[simp] theorem State.setLine_level (src : Nat) (v : FaultLine) : (s.setLine src v).level = s.level := rfl
@[simp] theorem State.emit_running (o : Output) : (s.emit o).running = s.running := rfl
@[simp] theorem State.emit_level (o : Output) : (s.emit o).level = s.level := rfl

end Sys2Proof.Machine
end

