-- ==== Sys2Proof/Laws/Ops.lean ====
section
/-! SUPPORT. Laws/Ops.lean: what the shared operations leave alone. `besideRings` is a state without what the completion of an entry may
touch: the function pages, the bytes of the memories (a host log may lie in any of them), numbers of the ledger and its counters. An operation that keeps it keeps every
other field. -/

namespace Sys2Proof.Machine

/-- A state without its function pages, the bytes of its memories, ledger numbers and counters. -/
def State.besideRings (s : State) : State :=
  { s with ring := { s.ring with fns := [] }, mem := { s.mem with dev := Ram.empty, host := Ram.empty, peer := Ram.empty, p0Held := [] },
           led := { s.led with vals := [], ctrs := [] } }

section Fields
variable {s t : State} (h : t.besideRings = s.besideRings)
include h
theorem State.beside_pending : t.pending = s.pending := congrArg (·.pending) h
theorem State.beside_now : t.now = s.now := congrArg (·.now) h
theorem State.beside_drawn : t.drawn = s.drawn := congrArg (·.drawn) h
theorem State.beside_moves : t.mem.moves = s.mem.moves := congrArg (·.mem.moves) h
theorem State.beside_regions : t.mem.regions = s.mem.regions := congrArg (·.mem.regions) h
theorem State.beside_windows : t.mem.windows = s.mem.windows := congrArg (·.mem.windows) h
theorem State.beside_owner : t.mem.owner = s.mem.owner := congrArg (·.mem.owner) h
theorem State.beside_leafCache : t.mem.leafCache = s.mem.leafCache := congrArg (·.mem.leafCache) h
theorem State.beside_cmp : t.cmp = s.cmp := congrArg (·.cmp) h
theorem State.beside_p0 : t.ring.p0 = s.ring.p0 := congrArg (·.ring.p0) h
theorem State.beside_p1 : t.ring.p1 = s.ring.p1 := congrArg (·.ring.p1) h
theorem State.beside_pointer : t.ring.pointer = s.ring.pointer := congrArg (·.ring.pointer) h
theorem State.beside_fab : t.fab = s.fab := congrArg (·.fab) h
theorem State.beside_eth : t.eth = s.eth := congrArg (·.eth) h
theorem State.beside_clu : t.clu = s.clu := congrArg (·.clu) h
theorem State.beside_hrt : t.hrt = s.hrt := congrArg (·.hrt) h
theorem State.beside_hands : t.hands = s.hands := congrArg (·.hands) h
theorem State.beside_blobs : t.led.blobs = s.led.blobs := congrArg (·.led.blobs) h
theorem State.beside_sessions : t.led.sessions = s.led.sessions := congrArg (·.led.sessions) h
theorem State.beside_cipher : t.cipher = s.cipher := congrArg (·.cipher) h
theorem State.beside_flt : t.flt = s.flt := congrArg (·.flt) h
theorem State.beside_pw : t.pw = s.pw := congrArg (·.pw) h
theorem State.beside_out : t.out = s.out := congrArg (·.out) h
theorem State.beside_running : t.running = s.running := by rw [State.running, State.running, State.beside_pw h]
end Fields

/-- A state without Jorol's sessions and what has been sent. -/
def State.besideSessions (s : State) : State := { s with led := { s.led with sessions := [] }, out := [] }

theorem State.sessions_mem {s t : State} (h : t.besideSessions = s.besideSessions) : t.mem = s.mem := congrArg (·.mem) h
theorem State.sessions_ring {s t : State} (h : t.besideSessions = s.besideSessions) : t.ring = s.ring := congrArg (·.ring) h
theorem State.sessions_cmp {s t : State} (h : t.besideSessions = s.besideSessions) : t.cmp = s.cmp := congrArg (·.cmp) h
theorem State.sessions_now {s t : State} (h : t.besideSessions = s.besideSessions) : t.now = s.now := congrArg (·.now) h
theorem State.sessions_pending {s t : State} (h : t.besideSessions = s.besideSessions) : t.pending = s.pending := congrArg (·.pending) h
theorem State.sessions_vals {s t : State} (h : t.besideSessions = s.besideSessions) : t.led.vals = s.led.vals := congrArg (·.led.vals) h
theorem State.sessions_ctrs {s t : State} (h : t.besideSessions = s.besideSessions) : t.led.ctrs = s.led.ctrs := congrArg (·.led.ctrs) h
theorem State.sessions_flt {s t : State} (h : t.besideSessions = s.besideSessions) : t.flt = s.flt := congrArg (·.flt) h
theorem State.sessions_pw {s t : State} (h : t.besideSessions = s.besideSessions) : t.pw = s.pw := congrArg (·.pw) h

/-- The byte memories are canonical. -/
def State.memoriesWf (s : State) : Prop := s.mem.dev.wf = true ∧ s.mem.host.wf = true ∧ s.mem.peer.wf = true

namespace State

variable (s : State)

/-! Counters and objects -/

@[simp] theorem besideRings_setObj (i b n v : Nat) : (s.setObj i b n v).besideRings = s.besideRings := rfl
@[simp] theorem besideRings_setCtr (i b v : Nat) : (s.setCtr i b v).besideRings = s.besideRings := rfl
@[simp] theorem besideRings_setFn (f : Nat) (v : Fn) : (s.setFn f v).besideRings = s.besideRings := rfl
@[simp] theorem besideRings_setHost (r : Ram) : (s.setHost r).besideRings = s.besideRings := rfl
@[simp] theorem besideRings_setDev (r : Ram) : (s.setDev r).besideRings = s.besideRings := rfl
@[simp] theorem besideRings_setPeer (r : Ram) : (s.setPeer r).besideRings = s.besideRings := rfl

/-- Counting writes one counter. -/
theorem count_eq (i b n : Nat) : s.count i b n = if n = 0 then s else s.setCtr i b (satAdd 64 (s.ctr i b) n) := rfl

@[simp] theorem besideRings_count (i b n : Nat) : (s.count i b n).besideRings = s.besideRings := by
  rw [count_eq]; split <;> rfl

@[simp] theorem count_ring (i b n : Nat) : (s.count i b n).ring = s.ring := by rw [count_eq]; split <;> rfl
@[simp] theorem count_mem (i b n : Nat) : (s.count i b n).mem = s.mem := by rw [count_eq]; split <;> rfl
@[simp] theorem count_vals (i b n : Nat) : (s.count i b n).led.vals = s.led.vals := by rw [count_eq]; split <;> rfl
@[simp] theorem count_pending (i b n : Nat) : (s.count i b n).pending = s.pending := beside_pending (besideRings_count s i b n)
@[simp] theorem count_now (i b n : Nat) : (s.count i b n).now = s.now := beside_now (besideRings_count s i b n)
@[simp] theorem count_drawn (i b n : Nat) : (s.count i b n).drawn = s.drawn := beside_drawn (besideRings_count s i b n)
@[simp] theorem count_cmp (i b n : Nat) : (s.count i b n).cmp = s.cmp := beside_cmp (besideRings_count s i b n)
@[simp] theorem count_fab (i b n : Nat) : (s.count i b n).fab = s.fab := beside_fab (besideRings_count s i b n)
@[simp] theorem count_eth (i b n : Nat) : (s.count i b n).eth = s.eth := beside_eth (besideRings_count s i b n)
@[simp] theorem count_clu (i b n : Nat) : (s.count i b n).clu = s.clu := beside_clu (besideRings_count s i b n)
@[simp] theorem count_hrt (i b n : Nat) : (s.count i b n).hrt = s.hrt := beside_hrt (besideRings_count s i b n)
@[simp] theorem count_hands (i b n : Nat) : (s.count i b n).hands = s.hands := beside_hands (besideRings_count s i b n)
@[simp] theorem count_cipher (i b n : Nat) : (s.count i b n).cipher = s.cipher := beside_cipher (besideRings_count s i b n)
@[simp] theorem count_flt (i b n : Nat) : (s.count i b n).flt = s.flt := beside_flt (besideRings_count s i b n)
@[simp] theorem count_pw (i b n : Nat) : (s.count i b n).pw = s.pw := beside_pw (besideRings_count s i b n)
@[simp] theorem count_out (i b n : Nat) : (s.count i b n).out = s.out := beside_out (besideRings_count s i b n)
@[simp] theorem count_blobs (i b n : Nat) : (s.count i b n).led.blobs = s.led.blobs := beside_blobs (besideRings_count s i b n)
@[simp] theorem count_running (i b n : Nat) : (s.count i b n).running = s.running := beside_running (besideRings_count s i b n)
@[simp] theorem count_fn (i b n f : Nat) : (s.count i b n).fn f = s.fn f := congrArg (fun r : RingState => Sparse.get Fn.default r.fns f) (count_ring s i b n)
@[simp] theorem count_obj (i b n j k m : Nat) : (s.count i b n).obj j k m = s.obj j k m :=
  congrArg (fun v => Sparse.get objDefault v (objKey j k m)) (count_vals s i b n)

/-- The counter counted. -/
theorem ctr_count_self (i b n : Nat) (h : n ≠ 0) : (s.count i b n).ctr i b = satAdd 64 (s.ctr i b) n := by
  rw [count_eq, if_neg h, ctr_setCtr]

theorem ctr_count_ne (i b n : Nat) {j k : Nat} (h : objKey i b 0 ≠ objKey j k 0) : (s.count i b n).ctr j k = s.ctr j k := by
  rw [count_eq]; split
  · rfl
  · exact ctr_setCtr_ne s i b _ h

/-! Fault lines -/

/-- An error on an event source touches the source's line and its count of merges alone. -/
theorem raiseSource_frame (src : Nat) :
    { s.raiseSource src with flt := s.flt, led := { (s.raiseSource src).led with ctrs := s.led.ctrs } } = s := by
  by_cases h : 24 ≤ src
  · rw [raiseSource, if_pos h]
  · rw [raiseSource, if_neg h]; dsimp only
    cases hu : (s.line src).up
    · cases hh : (s.line src).hold
      · rfl
      · cases ha : (s.line src).again <;> rfl
    · cases (s.line src).sampled
      · rfl
      · cases s.responding src <;> rfl

/-- A free line rises. -/
theorem raiseSource_rises (src : Nat) (h : src < 24) (hu : (s.line src).up = false) (hh : (s.line src).hold = false) :
    s.raiseSource src = s.setLine src { s.line src with up := true } := by
  simp [raiseSource, Nat.not_le.2 h, hu, hh]

/-- A line that is up, and has not been sampled or still has its response before it, counts a merge. -/
theorem raiseSource_merges (src : Nat) (h : src < 24) (hu : (s.line src).up = true)
    (hr : (s.line src).sampled = false ∨ s.responding src = true) : s.raiseSource src = s.count (sourceIndex src) 6 1 := by
  rcases hr with hr | hr <;> simp [raiseSource, Nat.not_le.2 h, hu, hr]

/-- A condition's line touches nothing else. -/
theorem setCondition_frame (src : Nat) (b : Bool) : { s.setCondition src b with flt := s.flt } = s := by
  unfold setCondition; dsimp only
  cases b
  · cases (s.line src).pulse
    · cases (s.line src).up <;> rfl
    · rfl
  · cases (s.line src).up
    · cases (s.line src).hold <;> rfl
    · rfl

/-! Host memory and the host log -/

@[simp] theorem besideRings_logWrite (f a n : Nat) : (s.logWrite f a n).besideRings = s.besideRings := by
  unfold logWrite; dsimp only; split
  · rfl
  · refine foldl_keep besideRings _ (fun u k => ?_) _ s
    split
    · rfl
    · split <;> rfl

/-- With no host log the write is not logged. -/
theorem logWrite_off (f a n : Nat) (h : s.obj 0x23C0 9 f = 0) : s.logWrite f a n = s := by simp [logWrite, h]

@[simp] theorem besideRings_hostWrite (f a : Nat) (bs : List Byte) : (s.hostWrite f a bs).besideRings = s.besideRings := by
  unfold hostWrite
  split
  · rw [besideRings_logWrite]; rfl
  · rfl

/-- A host write with P0 up and no host log. -/
theorem hostWrite_up (f a : Nat) (bs : List Byte) (hu : s.ring.p0.up = true) (hl : s.obj 0x23C0 9 f = 0) :
    s.hostWrite f a bs = s.setHost (s.mem.host.writeBytes a bs) := by
  rw [hostWrite, if_pos hu]
  exact logWrite_off _ f a _ hl

/-- While P0 is down the write is held (R362). -/
theorem hostWrite_down (f a : Nat) (bs : List Byte) (hu : s.ring.p0.up = false) :
    s.hostWrite f a bs = { s with mem := { s.mem with p0Held := s.mem.p0Held ++ [⟨f, a, bs, none⟩] } } := by
  simp [hostWrite, hu]

theorem logWrite_fns (f a n : Nat) : (s.logWrite f a n).ring = s.ring := by
  unfold logWrite; dsimp only; split
  · rfl
  · refine foldl_keep State.ring _ (fun u k => ?_) _ s
    split
    · rfl
    · split <;> rfl

@[simp] theorem hostWrite_ring (f a : Nat) (bs : List Byte) : (s.hostWrite f a bs).ring = s.ring := by
  unfold hostWrite
  split
  · rw [logWrite_fns]; rfl
  · rfl

@[simp] theorem hostWrite_fn (f a g : Nat) (bs : List Byte) : (s.hostWrite f a bs).fn g = s.fn g :=
  congrArg (fun r : RingState => Sparse.get Fn.default r.fns g) (hostWrite_ring s f a bs)

theorem memoriesWf_logWrite (f a n : Nat) (h : s.memoriesWf) : (s.logWrite f a n).memoriesWf := by
  unfold logWrite; dsimp only; split
  · exact h
  · refine foldl_inv memoriesWf _ (fun u k hu => ?_) _ s h
    split
    · exact hu
    · split
      · exact hu
      · exact ⟨hu.1, Ram.wf_write _ _ hu.2.1, hu.2.2⟩
      · exact ⟨hu.1, hu.2.1, Ram.wf_write _ _ hu.2.2⟩
      · exact ⟨Ram.wf_write _ _ hu.1, hu.2⟩

theorem memoriesWf_hostWrite (f a : Nat) (bs : List Byte) (h : s.memoriesWf) : (s.hostWrite f a bs).memoriesWf := by
  unfold hostWrite
  split
  · exact memoriesWf_logWrite _ f a _ ⟨h.1, Ram.wf_writeBytes _ _ h.2.1, h.2.2⟩
  · exact h

/-! Records, staging and pauses -/

@[simp] theorem besideRings_writeRecord (f : Nat) (r : List Byte) : (s.writeRecord f r).besideRings = s.besideRings := by
  simp [writeRecord]

@[simp] theorem besideRings_placeRecord (f : Nat) (r : List Byte) : (s.placeRecord f r).besideRings = s.besideRings := by
  unfold placeRecord; dsimp only; split <;> simp

@[simp] theorem besideRings_pause (f : Nat) : (s.pause f).besideRings = s.besideRings := by
  unfold pause; dsimp only; split <;> rfl

@[simp] theorem besideRings_unpause (f : Nat) : (s.unpause f).besideRings = s.besideRings := by
  unfold unpause; dsimp only; repeat' split
  all_goals simp

@[simp] theorem besideRings_drainOne (f : Nat) : (s.drainOne f).besideRings = s.besideRings := by
  unfold drainOne; dsimp only; repeat' split
  all_goals simp

@[simp] theorem besideRings_drainN (f n : Nat) : (s.drainN f n).besideRings = s.besideRings := by
  induction n generalizing s with
  | zero => rfl
  | succ n ih => rw [drainN, ih, besideRings_drainOne]

@[simp] theorem besideRings_drain (f : Nat) : (s.drain f).besideRings = s.besideRings := by simp [drain]

@[simp] theorem besideRings_raiseFn (f c k : Nat) (r : List Byte) : (s.raiseFn f c k r).besideRings = s.besideRings := by
  unfold raiseFn; dsimp only; rw [besideRings_drain]; split <;> simp

@[simp] theorem besideRings_finishEntry (f : Nat) (e : Entry) (r : List Byte) (st : Nat) :
    (s.finishEntry f e r st).besideRings = s.besideRings := by
  unfold finishEntry; dsimp only; repeat' split
  all_goals simp

@[simp] theorem besideRings_settleN (f n : Nat) : (s.settleN f n).besideRings = s.besideRings := by
  induction n generalizing s with
  | zero => rfl
  | succ n ih =>
    rw [settleN]; split
    · rw [ih, besideRings_finishEntry]
    · rfl

@[simp] theorem besideRings_settle (f : Nat) : (s.settle f).besideRings = s.besideRings := by simp [settle]

@[simp] theorem besideRings_complete (f : Nat) (e : Entry) (st : Nat) (r : List Byte) :
    (s.complete f e st r).besideRings = s.besideRings := by simp [complete]

@[simp] theorem besideRings_completeIdx (f i st : Nat) (r : List Byte) : (s.completeIdx f i st r).besideRings = s.besideRings := by
  unfold completeIdx; split <;> simp

@[simp] theorem besideRings_setEntry (f : Nat) (e : Entry) : (s.setEntry f e).besideRings = s.besideRings := rfl
@[simp] theorem besideRings_busy (f : Nat) (e : Entry) : (s.busy f e).besideRings = s.besideRings := rfl

/-! Only the function's own page -/

theorem writeRecord_fn_ne (f : Nat) (r : List Byte) {g : Nat} (h : f ≠ g) : (s.writeRecord f r).fn g = s.fn g := by
  simp [writeRecord, fn_setFn_ne _ f _ h]

theorem placeRecord_fn_ne (f : Nat) (r : List Byte) {g : Nat} (h : f ≠ g) : (s.placeRecord f r).fn g = s.fn g := by
  unfold placeRecord; dsimp only; split <;> simp [writeRecord_fn_ne _ f _ h, fn_setFn_ne _ f _ h]

theorem pause_fn_ne (f : Nat) {g : Nat} (h : f ≠ g) : (s.pause f).fn g = s.fn g := by
  unfold pause; dsimp only; split <;> simp [fn_setFn_ne _ f _ h]

theorem unpause_fn_ne (f : Nat) {g : Nat} (h : f ≠ g) : (s.unpause f).fn g = s.fn g := by
  unfold unpause; dsimp only; repeat' split
  all_goals simp [fn_setFn_ne _ f _ h]

theorem drainOne_fn_ne (f : Nat) {g : Nat} (h : f ≠ g) : (s.drainOne f).fn g = s.fn g := by
  unfold drainOne; dsimp only; repeat' split
  all_goals simp [writeRecord_fn_ne _ f _ h, placeRecord_fn_ne _ f _ h, fn_setFn_ne _ f _ h]

theorem drainN_fn_ne (f n : Nat) {g : Nat} (h : f ≠ g) : (s.drainN f n).fn g = s.fn g := by
  induction n generalizing s with
  | zero => rfl
  | succ n ih => rw [drainN, ih, drainOne_fn_ne s f h]

theorem drain_fn_ne (f : Nat) {g : Nat} (h : f ≠ g) : (s.drain f).fn g = s.fn g := by
  unfold drain; dsimp only; rw [unpause_fn_ne _ f h, drainN_fn_ne _ f _ h]

theorem raiseFn_fn_ne (f c k : Nat) (r : List Byte) {g : Nat} (h : f ≠ g) : (s.raiseFn f c k r).fn g = s.fn g := by
  unfold raiseFn; dsimp only; rw [drain_fn_ne _ f h]; split <;> simp [fn_setFn_ne _ f _ h]

theorem finishEntry_fn_ne (f : Nat) (e : Entry) (r : List Byte) (st : Nat) {g : Nat} (h : f ≠ g) :
    (s.finishEntry f e r st).fn g = s.fn g := by
  unfold finishEntry; dsimp only; repeat' split
  all_goals simp [placeRecord_fn_ne _ f _ h, pause_fn_ne _ f h, fn_setFn_ne _ f _ h]

theorem settleN_fn_ne (f n : Nat) {g : Nat} (h : f ≠ g) : (s.settleN f n).fn g = s.fn g := by
  induction n generalizing s with
  | zero => rfl
  | succ n ih =>
    rw [settleN]; split
    · rw [ih, finishEntry_fn_ne _ f _ _ _ h]
    · rfl

theorem settle_fn_ne (f : Nat) {g : Nat} (h : f ≠ g) : (s.settle f).fn g = s.fn g := settleN_fn_ne s f _ h

theorem complete_fn_ne (f : Nat) (e : Entry) (st : Nat) (r : List Byte) {g : Nat} (h : f ≠ g) :
    (s.complete f e st r).fn g = s.fn g := by
  rw [complete, settle_fn_ne _ f h, finishEntry_fn_ne _ f _ _ _ h]

theorem completeIdx_fn_ne (f i st : Nat) (r : List Byte) {g : Nat} (h : f ≠ g) : (s.completeIdx f i st r).fn g = s.fn g := by
  unfold completeIdx; split
  · exact complete_fn_ne s f _ st r h
  · rfl

/-! Canonical memories -/

theorem memoriesWf_of_mem {s t : State} (h : s.memoriesWf) (e : t.mem = s.mem) : t.memoriesWf := by
  unfold memoriesWf; rw [e]; exact h

@[simp] theorem memoriesWf_setFn (f : Nat) (v : Fn) : (s.setFn f v).memoriesWf ↔ s.memoriesWf := Iff.rfl
@[simp] theorem memoriesWf_setObj (i b n v : Nat) : (s.setObj i b n v).memoriesWf ↔ s.memoriesWf := Iff.rfl
@[simp] theorem memoriesWf_emit (o : Output) : (s.emit o).memoriesWf ↔ s.memoriesWf := Iff.rfl
@[simp] theorem memoriesWf_count (i b n : Nat) : (s.count i b n).memoriesWf ↔ s.memoriesWf := by
  unfold memoriesWf; rw [count_mem]

theorem memoriesWf_writeRecord (f : Nat) (r : List Byte) (h : s.memoriesWf) : (s.writeRecord f r).memoriesWf := by
  unfold writeRecord; dsimp only
  rw [memoriesWf_count, memoriesWf_setFn]
  exact memoriesWf_hostWrite s f _ r h

theorem memoriesWf_placeRecord (f : Nat) (r : List Byte) (h : s.memoriesWf) : (s.placeRecord f r).memoriesWf := by
  unfold placeRecord; dsimp only; split
  · exact memoriesWf_writeRecord s f r h
  · rw [memoriesWf_count, memoriesWf_setFn]; exact h

theorem memoriesWf_pause (f : Nat) (h : s.memoriesWf) : (s.pause f).memoriesWf := by
  unfold pause; dsimp only; split
  · with_reducible exact h
  · rw [memoriesWf_setFn]; with_reducible exact h

theorem memoriesWf_unpause (f : Nat) (h : s.memoriesWf) : (s.unpause f).memoriesWf := by
  unfold unpause; dsimp only; repeat' split
  · rw [memoriesWf_count, memoriesWf_setFn]; with_reducible exact h
  all_goals with_reducible exact h

theorem memoriesWf_drainOne (f : Nat) (h : s.memoriesWf) : (s.drainOne f).memoriesWf := by
  unfold drainOne; dsimp only; repeat' split
  all_goals (first
    | with_reducible exact h
    | (with_reducible apply memoriesWf_writeRecord; rw [memoriesWf_setFn]; with_reducible exact h)
    | (rw [memoriesWf_count]; with_reducible apply memoriesWf_writeRecord; rw [memoriesWf_setFn]; with_reducible exact h)
    | (with_reducible apply memoriesWf_placeRecord; rw [memoriesWf_setFn]; with_reducible exact h))

theorem memoriesWf_drainN (f n : Nat) (h : s.memoriesWf) : (s.drainN f n).memoriesWf := by
  induction n generalizing s with
  | zero => exact h
  | succ n ih => exact ih _ (memoriesWf_drainOne s f h)

theorem memoriesWf_drain (f : Nat) (h : s.memoriesWf) : (s.drain f).memoriesWf := by
  unfold drain; dsimp only
  exact memoriesWf_unpause _ f (memoriesWf_drainN _ f _ h)

theorem memoriesWf_raiseFn (f c k : Nat) (r : List Byte) (h : s.memoriesWf) : (s.raiseFn f c k r).memoriesWf := by
  unfold raiseFn; dsimp only
  apply memoriesWf_drain
  split
  · rw [memoriesWf_count, memoriesWf_setFn]; with_reducible exact h
  · rw [memoriesWf_setFn]; with_reducible exact h

theorem memoriesWf_finishEntry (f : Nat) (e : Entry) (r : List Byte) (st : Nat) (h : s.memoriesWf) :
    (s.finishEntry f e r st).memoriesWf := by
  unfold finishEntry; dsimp only; repeat' split
  all_goals (first | with_reducible apply memoriesWf_placeRecord | with_reducible apply memoriesWf_pause)
  all_goals simpa using h

theorem memoriesWf_settleN (f n : Nat) (h : s.memoriesWf) : (s.settleN f n).memoriesWf := by
  induction n generalizing s with
  | zero => exact h
  | succ n ih =>
    rw [settleN]; split
    · exact ih _ (memoriesWf_finishEntry s f _ _ _ h)
    · exact h

theorem memoriesWf_settle (f : Nat) (h : s.memoriesWf) : (s.settle f).memoriesWf := by
  unfold settle; exact memoriesWf_settleN s f _ h

theorem memoriesWf_complete (f : Nat) (e : Entry) (st : Nat) (r : List Byte) (h : s.memoriesWf) : (s.complete f e st r).memoriesWf := by
  unfold complete; exact memoriesWf_settle _ f (memoriesWf_finishEntry s f e _ st h)

theorem memoriesWf_completeIdx (f i st : Nat) (r : List Byte) (h : s.memoriesWf) : (s.completeIdx f i st r).memoriesWf := by
  unfold completeIdx; split
  · exact memoriesWf_complete s f _ st r h
  · exact h

/-! Events for Jorol -/

/-- Telling a session changes the sessions and what has been sent. -/
@[simp] theorem besideSessions_notifySession (k : Nat) (ss : Session) (e : PendingEvent) :
    (s.notifySession k ss e).besideSessions = s.besideSessions := by
  unfold notifySession; dsimp only; split
  · rfl
  · split <;> rfl

/-- An event's share of Jorol changes the sessions and what has been sent. -/
@[simp] theorem besideSessions_raiseJorol (c k : Nat) (r : List Byte) : (s.raiseJorol c k r).besideSessions = s.besideSessions := by
  unfold raiseJorol
  refine foldl_keep besideSessions _ (fun u j => ?_) _ s
  split
  · split
    · exact besideSessions_notifySession u j _ _
    · rfl
  · rfl

@[simp] theorem raiseJorol_mem (c k : Nat) (r : List Byte) : (s.raiseJorol c k r).mem = s.mem := sessions_mem (besideSessions_raiseJorol s c k r)
@[simp] theorem raiseJorol_ring (c k : Nat) (r : List Byte) : (s.raiseJorol c k r).ring = s.ring := sessions_ring (besideSessions_raiseJorol s c k r)

theorem memoriesWf_raiseJorol (c k : Nat) (r : List Byte) (h : s.memoriesWf) : (s.raiseJorol c k r).memoriesWf :=
  memoriesWf_of_mem h (raiseJorol_mem s c k r)

theorem memoriesWf_raiseDevice (c k : Nat) (r : List Byte) (h : s.memoriesWf) : (s.raiseDevice c k r).memoriesWf := by
  unfold raiseDevice; exact memoriesWf_raiseFn _ 0 c k r (memoriesWf_raiseJorol s c k r h)

/-! Outcomes -/

/-- While ROOT runs, a command answers its effect. -/
@[simp] theorem live_running (t : State) (h : s.running = true) : s.live t = .next t := by simp [live, h]

/-- While it does not, nothing changes. -/
@[simp] theorem live_stopped (t : State) (h : s.running = false) : s.live t = .next s := by simp [live, h]

/-- A command that ROOT clocks always answers a next state. -/
theorem live_next (t : State) : ∃ u, s.live t = .next u := ⟨_, rfl⟩

theorem liveLedger_next (t : State) : ∃ u, s.liveLedger t = .next u := ⟨_, rfl⟩

theorem liveLedger_running (t : State) (h : s.running = true) (hl : 0 < s.level) : s.liveLedger t = .next t := by
  simp [liveLedger, live, h, hl]

/-- An entry that is ready and may start runs its operation. -/
theorem runEntry_ready {f i : Nat} {ops : List Nat} {k : Entry → State → State} {e : Entry} (he : s.findEntry f i = some e)
    (hs : e.stage = .ready) (ho : e.opcode ∈ ops) (hm : mayStart (s.fn f) e = true) (hn : s.earlyStatus f e = none) :
    s.runEntry f i ops k = k e s := by
  simp [runEntry, he, hs, ho, hm, hn]

/-- With no such entry the command finds nothing to do. -/
theorem runEntry_none {f i : Nat} {ops : List Nat} {k : Entry → State → State} (he : s.findEntry f i = none) :
    s.runEntry f i ops k = s := by
  simp [runEntry, he]

end State

end Sys2Proof.Machine
end

