-- ==== Sys2Proof/Laws/Parts.lean ====
section
/-! SUPPORT. Laws/Parts.lean: what the updates of a queue pair, a table, a sub-port, a connection, an NVME_IO, a raw queue, a key slot and
an output leave alone, and what is read back after them. -/

namespace Sys2Proof.Machine

variable (s : State)

/-! setQp -/

@[simp] theorem State.setQp_pending (n : Nat) (q : Qp) : (s.setQp n q).pending = s.pending := rfl
@[simp] theorem State.setQp_now (n : Nat) (q : Qp) : (s.setQp n q).now = s.now := rfl
@[simp] theorem State.setQp_drawn (n : Nat) (q : Qp) : (s.setQp n q).drawn = s.drawn := rfl
@[simp] theorem State.setQp_mem (n : Nat) (q : Qp) : (s.setQp n q).mem = s.mem := rfl
@[simp] theorem State.setQp_cmp (n : Nat) (q : Qp) : (s.setQp n q).cmp = s.cmp := rfl
@[simp] theorem State.setQp_ring (n : Nat) (q : Qp) : (s.setQp n q).ring = s.ring := rfl
@[simp] theorem State.setQp_fab (n : Nat) (q : Qp) : (s.setQp n q).fab = s.fab := rfl
@[simp] theorem State.setQp_eth (n : Nat) (q : Qp) : (s.setQp n q).eth = s.eth := rfl
@[simp] theorem State.setQp_clu (n : Nat) (q : Qp) : (s.setQp n q).clu = s.clu := rfl
@[simp] theorem State.setQp_hands (n : Nat) (q : Qp) : (s.setQp n q).hands = s.hands := rfl
@[simp] theorem State.setQp_led (n : Nat) (q : Qp) : (s.setQp n q).led = s.led := rfl
@[simp] theorem State.setQp_cipher (n : Nat) (q : Qp) : (s.setQp n q).cipher = s.cipher := rfl
@[simp] theorem State.setQp_flt (n : Nat) (q : Qp) : (s.setQp n q).flt = s.flt := rfl
@[simp] theorem State.setQp_pw (n : Nat) (q : Qp) : (s.setQp n q).pw = s.pw := rfl
@[simp] theorem State.setQp_out (n : Nat) (q : Qp) : (s.setQp n q).out = s.out := rfl
@[simp] theorem State.setQp_hrt_cached (n : Nat) (q : Qp) : (s.setQp n q).hrt.cached = s.hrt.cached := rfl
@[simp] theorem State.setQp_hrt_pointer (n : Nat) (q : Qp) : (s.setQp n q).hrt.pointer = s.hrt.pointer := rfl
@[simp] theorem State.setQp_fn (n : Nat) (q : Qp) (g : Nat) : (s.setQp n q).fn g = s.fn g := rfl
@[simp] theorem State.setQp_bench (n : Nat) (q : Qp) (b : Nat) : (s.setQp n q).bench b = s.bench b := rfl
@[simp] theorem State.setQp_stack (n : Nat) (q : Qp) (j : Nat) : (s.setQp n q).stack j = s.stack j := rfl
@[simp] theorem State.setQp_job (n : Nat) (q : Qp) (e : Nat) : (s.setQp n q).job e = s.job e := rfl
@[simp] theorem State.setQp_region (n : Nat) (q : Qp) (r : Nat) : (s.setQp n q).region r = s.region r := rfl
@[simp] theorem State.setQp_line (n : Nat) (q : Qp) (r : Nat) : (s.setQp n q).line r = s.line r := rfl
@[simp] theorem State.setQp_table (n : Nat) (q : Qp) (m : Nat) : (s.setQp n q).table m = s.table m := rfl
@[simp] theorem State.setQp_sub (n : Nat) (q : Qp) (m : Nat) : (s.setQp n q).sub m = s.sub m := rfl
@[simp] theorem State.setQp_conn (n : Nat) (q : Qp) (m : Nat) : (s.setQp n q).conn m = s.conn m := rfl
@[simp] theorem State.setQp_raw (n : Nat) (q : Qp) (m : Nat) : (s.setQp n q).raw m = s.raw m := rfl
@[simp] theorem State.setQp_outQueue (n : Nat) (q : Qp) (m : Nat) : (s.setQp n q).outQueue m = s.outQueue m := rfl
@[simp] theorem State.setQp_heldOff (n : Nat) (q : Qp) (m : Nat) : (s.setQp n q).heldOff m = s.heldOff m := rfl
@[simp] theorem State.setQp_keySlot (n : Nat) (q : Qp) (x y : Nat) : (s.setQp n q).keySlot x y = s.keySlot x y := rfl
@[simp] theorem State.setQp_obj (n : Nat) (q : Qp) (i j k' : Nat) : (s.setQp n q).obj i j k' = s.obj i j k' := rfl
@[simp] theorem State.setQp_ctr (n : Nat) (q : Qp) (i j : Nat) : (s.setQp n q).ctr i j = s.ctr i j := rfl
@[simp] theorem State.setQp_running (n : Nat) (q : Qp) : (s.setQp n q).running = s.running := rfl
@[simp] theorem State.setQp_level (n : Nat) (q : Qp) : (s.setQp n q).level = s.level := rfl

/-! setTable -/

@[simp] theorem State.setTable_pending (t : Nat) (c : Option Table) : (s.setTable t c).pending = s.pending := rfl
@[simp] theorem State.setTable_now (t : Nat) (c : Option Table) : (s.setTable t c).now = s.now := rfl
@[simp] theorem State.setTable_drawn (t : Nat) (c : Option Table) : (s.setTable t c).drawn = s.drawn := rfl
@[simp] theorem State.setTable_mem (t : Nat) (c : Option Table) : (s.setTable t c).mem = s.mem := rfl
@[simp] theorem State.setTable_cmp (t : Nat) (c : Option Table) : (s.setTable t c).cmp = s.cmp := rfl
@[simp] theorem State.setTable_ring (t : Nat) (c : Option Table) : (s.setTable t c).ring = s.ring := rfl
@[simp] theorem State.setTable_fab (t : Nat) (c : Option Table) : (s.setTable t c).fab = s.fab := rfl
@[simp] theorem State.setTable_eth (t : Nat) (c : Option Table) : (s.setTable t c).eth = s.eth := rfl
@[simp] theorem State.setTable_clu (t : Nat) (c : Option Table) : (s.setTable t c).clu = s.clu := rfl
@[simp] theorem State.setTable_hrt (t : Nat) (c : Option Table) : (s.setTable t c).hrt = s.hrt := rfl
@[simp] theorem State.setTable_led (t : Nat) (c : Option Table) : (s.setTable t c).led = s.led := rfl
@[simp] theorem State.setTable_cipher (t : Nat) (c : Option Table) : (s.setTable t c).cipher = s.cipher := rfl
@[simp] theorem State.setTable_flt (t : Nat) (c : Option Table) : (s.setTable t c).flt = s.flt := rfl
@[simp] theorem State.setTable_pw (t : Nat) (c : Option Table) : (s.setTable t c).pw = s.pw := rfl
@[simp] theorem State.setTable_out (t : Nat) (c : Option Table) : (s.setTable t c).out = s.out := rfl
@[simp] theorem State.setTable_fn (t : Nat) (c : Option Table) (g : Nat) : (s.setTable t c).fn g = s.fn g := rfl
@[simp] theorem State.setTable_bench (t : Nat) (c : Option Table) (b : Nat) : (s.setTable t c).bench b = s.bench b := rfl
@[simp] theorem State.setTable_stack (t : Nat) (c : Option Table) (j : Nat) : (s.setTable t c).stack j = s.stack j := rfl
@[simp] theorem State.setTable_job (t : Nat) (c : Option Table) (e : Nat) : (s.setTable t c).job e = s.job e := rfl
@[simp] theorem State.setTable_region (t : Nat) (c : Option Table) (r : Nat) : (s.setTable t c).region r = s.region r := rfl
@[simp] theorem State.setTable_line (t : Nat) (c : Option Table) (r : Nat) : (s.setTable t c).line r = s.line r := rfl
@[simp] theorem State.setTable_qp (t : Nat) (c : Option Table) (m : Nat) : (s.setTable t c).qp m = s.qp m := rfl
@[simp] theorem State.setTable_sub (t : Nat) (c : Option Table) (m : Nat) : (s.setTable t c).sub m = s.sub m := rfl
@[simp] theorem State.setTable_conn (t : Nat) (c : Option Table) (m : Nat) : (s.setTable t c).conn m = s.conn m := rfl
@[simp] theorem State.setTable_raw (t : Nat) (c : Option Table) (m : Nat) : (s.setTable t c).raw m = s.raw m := rfl
@[simp] theorem State.setTable_outQueue (t : Nat) (c : Option Table) (m : Nat) : (s.setTable t c).outQueue m = s.outQueue m := rfl
@[simp] theorem State.setTable_heldOff (t : Nat) (c : Option Table) (m : Nat) : (s.setTable t c).heldOff m = s.heldOff m := rfl
@[simp] theorem State.setTable_keySlot (t : Nat) (c : Option Table) (x y : Nat) : (s.setTable t c).keySlot x y = s.keySlot x y := rfl
@[simp] theorem State.setTable_obj (t : Nat) (c : Option Table) (i j k' : Nat) : (s.setTable t c).obj i j k' = s.obj i j k' := rfl
@[simp] theorem State.setTable_ctr (t : Nat) (c : Option Table) (i j : Nat) : (s.setTable t c).ctr i j = s.ctr i j := rfl
@[simp] theorem State.setTable_running (t : Nat) (c : Option Table) : (s.setTable t c).running = s.running := rfl
@[simp] theorem State.setTable_level (t : Nat) (c : Option Table) : (s.setTable t c).level = s.level := rfl

/-! setSub -/

@[simp] theorem State.setSub_pending (k : Nat) (v : SubPort) : (s.setSub k v).pending = s.pending := rfl
@[simp] theorem State.setSub_now (k : Nat) (v : SubPort) : (s.setSub k v).now = s.now := rfl
@[simp] theorem State.setSub_drawn (k : Nat) (v : SubPort) : (s.setSub k v).drawn = s.drawn := rfl
@[simp] theorem State.setSub_mem (k : Nat) (v : SubPort) : (s.setSub k v).mem = s.mem := rfl
@[simp] theorem State.setSub_cmp (k : Nat) (v : SubPort) : (s.setSub k v).cmp = s.cmp := rfl
@[simp] theorem State.setSub_ring (k : Nat) (v : SubPort) : (s.setSub k v).ring = s.ring := rfl
@[simp] theorem State.setSub_fab (k : Nat) (v : SubPort) : (s.setSub k v).fab = s.fab := rfl
@[simp] theorem State.setSub_clu (k : Nat) (v : SubPort) : (s.setSub k v).clu = s.clu := rfl
@[simp] theorem State.setSub_hrt (k : Nat) (v : SubPort) : (s.setSub k v).hrt = s.hrt := rfl
@[simp] theorem State.setSub_hands (k : Nat) (v : SubPort) : (s.setSub k v).hands = s.hands := rfl
@[simp] theorem State.setSub_led (k : Nat) (v : SubPort) : (s.setSub k v).led = s.led := rfl
@[simp] theorem State.setSub_cipher (k : Nat) (v : SubPort) : (s.setSub k v).cipher = s.cipher := rfl
@[simp] theorem State.setSub_flt (k : Nat) (v : SubPort) : (s.setSub k v).flt = s.flt := rfl
@[simp] theorem State.setSub_pw (k : Nat) (v : SubPort) : (s.setSub k v).pw = s.pw := rfl
@[simp] theorem State.setSub_out (k : Nat) (v : SubPort) : (s.setSub k v).out = s.out := rfl
@[simp] theorem State.setSub_eth_hrtIn (k : Nat) (v : SubPort) : (s.setSub k v).eth.hrtIn = s.eth.hrtIn := rfl
@[simp] theorem State.setSub_eth_gateOn (k : Nat) (v : SubPort) : (s.setSub k v).eth.gateOn = s.eth.gateOn := rfl
@[simp] theorem State.setSub_eth_draws (k : Nat) (v : SubPort) : (s.setSub k v).eth.draws = s.eth.draws := rfl
@[simp] theorem State.setSub_fn (k : Nat) (v : SubPort) (g : Nat) : (s.setSub k v).fn g = s.fn g := rfl
@[simp] theorem State.setSub_bench (k : Nat) (v : SubPort) (b : Nat) : (s.setSub k v).bench b = s.bench b := rfl
@[simp] theorem State.setSub_stack (k : Nat) (v : SubPort) (j : Nat) : (s.setSub k v).stack j = s.stack j := rfl
@[simp] theorem State.setSub_job (k : Nat) (v : SubPort) (e : Nat) : (s.setSub k v).job e = s.job e := rfl
@[simp] theorem State.setSub_region (k : Nat) (v : SubPort) (r : Nat) : (s.setSub k v).region r = s.region r := rfl
@[simp] theorem State.setSub_line (k : Nat) (v : SubPort) (r : Nat) : (s.setSub k v).line r = s.line r := rfl
@[simp] theorem State.setSub_qp (k : Nat) (v : SubPort) (m : Nat) : (s.setSub k v).qp m = s.qp m := rfl
@[simp] theorem State.setSub_table (k : Nat) (v : SubPort) (m : Nat) : (s.setSub k v).table m = s.table m := rfl
@[simp] theorem State.setSub_conn (k : Nat) (v : SubPort) (m : Nat) : (s.setSub k v).conn m = s.conn m := rfl
@[simp] theorem State.setSub_raw (k : Nat) (v : SubPort) (m : Nat) : (s.setSub k v).raw m = s.raw m := rfl
@[simp] theorem State.setSub_outQueue (k : Nat) (v : SubPort) (m : Nat) : (s.setSub k v).outQueue m = s.outQueue m := rfl
@[simp] theorem State.setSub_heldOff (k : Nat) (v : SubPort) (m : Nat) : (s.setSub k v).heldOff m = s.heldOff m := rfl
@[simp] theorem State.setSub_keySlot (k : Nat) (v : SubPort) (x y : Nat) : (s.setSub k v).keySlot x y = s.keySlot x y := rfl
@[simp] theorem State.setSub_obj (k : Nat) (v : SubPort) (i j k' : Nat) : (s.setSub k v).obj i j k' = s.obj i j k' := rfl
@[simp] theorem State.setSub_ctr (k : Nat) (v : SubPort) (i j : Nat) : (s.setSub k v).ctr i j = s.ctr i j := rfl
@[simp] theorem State.setSub_running (k : Nat) (v : SubPort) : (s.setSub k v).running = s.running := rfl
@[simp] theorem State.setSub_level (k : Nat) (v : SubPort) : (s.setSub k v).level = s.level := rfl

/-! setConn -/

@[simp] theorem State.setConn_pending (c : Nat) (v : NvmeConn) : (s.setConn c v).pending = s.pending := rfl
@[simp] theorem State.setConn_now (c : Nat) (v : NvmeConn) : (s.setConn c v).now = s.now := rfl
@[simp] theorem State.setConn_drawn (c : Nat) (v : NvmeConn) : (s.setConn c v).drawn = s.drawn := rfl
@[simp] theorem State.setConn_mem (c : Nat) (v : NvmeConn) : (s.setConn c v).mem = s.mem := rfl
@[simp] theorem State.setConn_cmp (c : Nat) (v : NvmeConn) : (s.setConn c v).cmp = s.cmp := rfl
@[simp] theorem State.setConn_ring (c : Nat) (v : NvmeConn) : (s.setConn c v).ring = s.ring := rfl
@[simp] theorem State.setConn_fab (c : Nat) (v : NvmeConn) : (s.setConn c v).fab = s.fab := rfl
@[simp] theorem State.setConn_eth (c : Nat) (v : NvmeConn) : (s.setConn c v).eth = s.eth := rfl
@[simp] theorem State.setConn_hrt (c : Nat) (v : NvmeConn) : (s.setConn c v).hrt = s.hrt := rfl
@[simp] theorem State.setConn_hands (c : Nat) (v : NvmeConn) : (s.setConn c v).hands = s.hands := rfl
@[simp] theorem State.setConn_led (c : Nat) (v : NvmeConn) : (s.setConn c v).led = s.led := rfl
@[simp] theorem State.setConn_cipher (c : Nat) (v : NvmeConn) : (s.setConn c v).cipher = s.cipher := rfl
@[simp] theorem State.setConn_flt (c : Nat) (v : NvmeConn) : (s.setConn c v).flt = s.flt := rfl
@[simp] theorem State.setConn_pw (c : Nat) (v : NvmeConn) : (s.setConn c v).pw = s.pw := rfl
@[simp] theorem State.setConn_out (c : Nat) (v : NvmeConn) : (s.setConn c v).out = s.out := rfl
@[simp] theorem State.setConn_clu_ios (c : Nat) (v : NvmeConn) : (s.setConn c v).clu.ios = s.clu.ios := rfl
@[simp] theorem State.setConn_clu_raws (c : Nat) (v : NvmeConn) : (s.setConn c v).clu.raws = s.clu.raws := rfl
@[simp] theorem State.setConn_clu_due (c : Nat) (v : NvmeConn) : (s.setConn c v).clu.due = s.clu.due := rfl
@[simp] theorem State.setConn_clu_neighbours (c : Nat) (v : NvmeConn) : (s.setConn c v).clu.neighbours = s.clu.neighbours := rfl
@[simp] theorem State.setConn_fn (c : Nat) (v : NvmeConn) (g : Nat) : (s.setConn c v).fn g = s.fn g := rfl
@[simp] theorem State.setConn_bench (c : Nat) (v : NvmeConn) (b : Nat) : (s.setConn c v).bench b = s.bench b := rfl
@[simp] theorem State.setConn_stack (c : Nat) (v : NvmeConn) (j : Nat) : (s.setConn c v).stack j = s.stack j := rfl
@[simp] theorem State.setConn_job (c : Nat) (v : NvmeConn) (e : Nat) : (s.setConn c v).job e = s.job e := rfl
@[simp] theorem State.setConn_region (c : Nat) (v : NvmeConn) (r : Nat) : (s.setConn c v).region r = s.region r := rfl
@[simp] theorem State.setConn_line (c : Nat) (v : NvmeConn) (r : Nat) : (s.setConn c v).line r = s.line r := rfl
@[simp] theorem State.setConn_qp (c : Nat) (v : NvmeConn) (m : Nat) : (s.setConn c v).qp m = s.qp m := rfl
@[simp] theorem State.setConn_table (c : Nat) (v : NvmeConn) (m : Nat) : (s.setConn c v).table m = s.table m := rfl
@[simp] theorem State.setConn_sub (c : Nat) (v : NvmeConn) (m : Nat) : (s.setConn c v).sub m = s.sub m := rfl
@[simp] theorem State.setConn_raw (c : Nat) (v : NvmeConn) (m : Nat) : (s.setConn c v).raw m = s.raw m := rfl
@[simp] theorem State.setConn_outQueue (c : Nat) (v : NvmeConn) (m : Nat) : (s.setConn c v).outQueue m = s.outQueue m := rfl
@[simp] theorem State.setConn_heldOff (c : Nat) (v : NvmeConn) (m : Nat) : (s.setConn c v).heldOff m = s.heldOff m := rfl
@[simp] theorem State.setConn_keySlot (c : Nat) (v : NvmeConn) (x y : Nat) : (s.setConn c v).keySlot x y = s.keySlot x y := rfl
@[simp] theorem State.setConn_obj (c : Nat) (v : NvmeConn) (i j k' : Nat) : (s.setConn c v).obj i j k' = s.obj i j k' := rfl
@[simp] theorem State.setConn_ctr (c : Nat) (v : NvmeConn) (i j : Nat) : (s.setConn c v).ctr i j = s.ctr i j := rfl
@[simp] theorem State.setConn_running (c : Nat) (v : NvmeConn) : (s.setConn c v).running = s.running := rfl
@[simp] theorem State.setConn_level (c : Nat) (v : NvmeConn) : (s.setConn c v).level = s.level := rfl

/-! setIo -/

@[simp] theorem State.setIo_pending (v : NvmeIo) : (s.setIo v).pending = s.pending := rfl
@[simp] theorem State.setIo_now (v : NvmeIo) : (s.setIo v).now = s.now := rfl
@[simp] theorem State.setIo_drawn (v : NvmeIo) : (s.setIo v).drawn = s.drawn := rfl
@[simp] theorem State.setIo_mem (v : NvmeIo) : (s.setIo v).mem = s.mem := rfl
@[simp] theorem State.setIo_cmp (v : NvmeIo) : (s.setIo v).cmp = s.cmp := rfl
@[simp] theorem State.setIo_ring (v : NvmeIo) : (s.setIo v).ring = s.ring := rfl
@[simp] theorem State.setIo_fab (v : NvmeIo) : (s.setIo v).fab = s.fab := rfl
@[simp] theorem State.setIo_eth (v : NvmeIo) : (s.setIo v).eth = s.eth := rfl
@[simp] theorem State.setIo_hrt (v : NvmeIo) : (s.setIo v).hrt = s.hrt := rfl
@[simp] theorem State.setIo_hands (v : NvmeIo) : (s.setIo v).hands = s.hands := rfl
@[simp] theorem State.setIo_led (v : NvmeIo) : (s.setIo v).led = s.led := rfl
@[simp] theorem State.setIo_cipher (v : NvmeIo) : (s.setIo v).cipher = s.cipher := rfl
@[simp] theorem State.setIo_flt (v : NvmeIo) : (s.setIo v).flt = s.flt := rfl
@[simp] theorem State.setIo_pw (v : NvmeIo) : (s.setIo v).pw = s.pw := rfl
@[simp] theorem State.setIo_out (v : NvmeIo) : (s.setIo v).out = s.out := rfl
@[simp] theorem State.setIo_clu_conns (v : NvmeIo) : (s.setIo v).clu.conns = s.clu.conns := rfl
@[simp] theorem State.setIo_clu_raws (v : NvmeIo) : (s.setIo v).clu.raws = s.clu.raws := rfl
@[simp] theorem State.setIo_clu_due (v : NvmeIo) : (s.setIo v).clu.due = s.clu.due := rfl
@[simp] theorem State.setIo_clu_neighbours (v : NvmeIo) : (s.setIo v).clu.neighbours = s.clu.neighbours := rfl
@[simp] theorem State.setIo_fn (v : NvmeIo) (g : Nat) : (s.setIo v).fn g = s.fn g := rfl
@[simp] theorem State.setIo_bench (v : NvmeIo) (b : Nat) : (s.setIo v).bench b = s.bench b := rfl
@[simp] theorem State.setIo_stack (v : NvmeIo) (j : Nat) : (s.setIo v).stack j = s.stack j := rfl
@[simp] theorem State.setIo_job (v : NvmeIo) (e : Nat) : (s.setIo v).job e = s.job e := rfl
@[simp] theorem State.setIo_region (v : NvmeIo) (r : Nat) : (s.setIo v).region r = s.region r := rfl
@[simp] theorem State.setIo_line (v : NvmeIo) (r : Nat) : (s.setIo v).line r = s.line r := rfl
@[simp] theorem State.setIo_qp (v : NvmeIo) (m : Nat) : (s.setIo v).qp m = s.qp m := rfl
@[simp] theorem State.setIo_table (v : NvmeIo) (m : Nat) : (s.setIo v).table m = s.table m := rfl
@[simp] theorem State.setIo_sub (v : NvmeIo) (m : Nat) : (s.setIo v).sub m = s.sub m := rfl
@[simp] theorem State.setIo_conn (v : NvmeIo) (m : Nat) : (s.setIo v).conn m = s.conn m := rfl
@[simp] theorem State.setIo_raw (v : NvmeIo) (m : Nat) : (s.setIo v).raw m = s.raw m := rfl
@[simp] theorem State.setIo_outQueue (v : NvmeIo) (m : Nat) : (s.setIo v).outQueue m = s.outQueue m := rfl
@[simp] theorem State.setIo_heldOff (v : NvmeIo) (m : Nat) : (s.setIo v).heldOff m = s.heldOff m := rfl
@[simp] theorem State.setIo_keySlot (v : NvmeIo) (x y : Nat) : (s.setIo v).keySlot x y = s.keySlot x y := rfl
@[simp] theorem State.setIo_obj (v : NvmeIo) (i j k' : Nat) : (s.setIo v).obj i j k' = s.obj i j k' := rfl
@[simp] theorem State.setIo_ctr (v : NvmeIo) (i j : Nat) : (s.setIo v).ctr i j = s.ctr i j := rfl
@[simp] theorem State.setIo_running (v : NvmeIo) : (s.setIo v).running = s.running := rfl
@[simp] theorem State.setIo_level (v : NvmeIo) : (s.setIo v).level = s.level := rfl

/-! setRaw -/

@[simp] theorem State.setRaw_pending (q : Nat) (v : Option RawQueue) : (s.setRaw q v).pending = s.pending := rfl
@[simp] theorem State.setRaw_now (q : Nat) (v : Option RawQueue) : (s.setRaw q v).now = s.now := rfl
@[simp] theorem State.setRaw_drawn (q : Nat) (v : Option RawQueue) : (s.setRaw q v).drawn = s.drawn := rfl
@[simp] theorem State.setRaw_mem (q : Nat) (v : Option RawQueue) : (s.setRaw q v).mem = s.mem := rfl
@[simp] theorem State.setRaw_cmp (q : Nat) (v : Option RawQueue) : (s.setRaw q v).cmp = s.cmp := rfl
@[simp] theorem State.setRaw_ring (q : Nat) (v : Option RawQueue) : (s.setRaw q v).ring = s.ring := rfl
@[simp] theorem State.setRaw_fab (q : Nat) (v : Option RawQueue) : (s.setRaw q v).fab = s.fab := rfl
@[simp] theorem State.setRaw_eth (q : Nat) (v : Option RawQueue) : (s.setRaw q v).eth = s.eth := rfl
@[simp] theorem State.setRaw_hrt (q : Nat) (v : Option RawQueue) : (s.setRaw q v).hrt = s.hrt := rfl
@[simp] theorem State.setRaw_hands (q : Nat) (v : Option RawQueue) : (s.setRaw q v).hands = s.hands := rfl
@[simp] theorem State.setRaw_led (q : Nat) (v : Option RawQueue) : (s.setRaw q v).led = s.led := rfl
@[simp] theorem State.setRaw_cipher (q : Nat) (v : Option RawQueue) : (s.setRaw q v).cipher = s.cipher := rfl
@[simp] theorem State.setRaw_flt (q : Nat) (v : Option RawQueue) : (s.setRaw q v).flt = s.flt := rfl
@[simp] theorem State.setRaw_pw (q : Nat) (v : Option RawQueue) : (s.setRaw q v).pw = s.pw := rfl
@[simp] theorem State.setRaw_out (q : Nat) (v : Option RawQueue) : (s.setRaw q v).out = s.out := rfl
@[simp] theorem State.setRaw_clu_ios (q : Nat) (v : Option RawQueue) : (s.setRaw q v).clu.ios = s.clu.ios := rfl
@[simp] theorem State.setRaw_clu_conns (q : Nat) (v : Option RawQueue) : (s.setRaw q v).clu.conns = s.clu.conns := rfl
@[simp] theorem State.setRaw_clu_due (q : Nat) (v : Option RawQueue) : (s.setRaw q v).clu.due = s.clu.due := rfl
@[simp] theorem State.setRaw_clu_neighbours (q : Nat) (v : Option RawQueue) : (s.setRaw q v).clu.neighbours = s.clu.neighbours := rfl
@[simp] theorem State.setRaw_fn (q : Nat) (v : Option RawQueue) (g : Nat) : (s.setRaw q v).fn g = s.fn g := rfl
@[simp] theorem State.setRaw_bench (q : Nat) (v : Option RawQueue) (b : Nat) : (s.setRaw q v).bench b = s.bench b := rfl
@[simp] theorem State.setRaw_stack (q : Nat) (v : Option RawQueue) (j : Nat) : (s.setRaw q v).stack j = s.stack j := rfl
@[simp] theorem State.setRaw_job (q : Nat) (v : Option RawQueue) (e : Nat) : (s.setRaw q v).job e = s.job e := rfl
@[simp] theorem State.setRaw_region (q : Nat) (v : Option RawQueue) (r : Nat) : (s.setRaw q v).region r = s.region r := rfl
@[simp] theorem State.setRaw_line (q : Nat) (v : Option RawQueue) (r : Nat) : (s.setRaw q v).line r = s.line r := rfl
@[simp] theorem State.setRaw_qp (q : Nat) (v : Option RawQueue) (m : Nat) : (s.setRaw q v).qp m = s.qp m := rfl
@[simp] theorem State.setRaw_table (q : Nat) (v : Option RawQueue) (m : Nat) : (s.setRaw q v).table m = s.table m := rfl
@[simp] theorem State.setRaw_sub (q : Nat) (v : Option RawQueue) (m : Nat) : (s.setRaw q v).sub m = s.sub m := rfl
@[simp] theorem State.setRaw_conn (q : Nat) (v : Option RawQueue) (m : Nat) : (s.setRaw q v).conn m = s.conn m := rfl
@[simp] theorem State.setRaw_outQueue (q : Nat) (v : Option RawQueue) (m : Nat) : (s.setRaw q v).outQueue m = s.outQueue m := rfl
@[simp] theorem State.setRaw_heldOff (q : Nat) (v : Option RawQueue) (m : Nat) : (s.setRaw q v).heldOff m = s.heldOff m := rfl
@[simp] theorem State.setRaw_keySlot (q : Nat) (v : Option RawQueue) (x y : Nat) : (s.setRaw q v).keySlot x y = s.keySlot x y := rfl
@[simp] theorem State.setRaw_obj (q : Nat) (v : Option RawQueue) (i j k' : Nat) : (s.setRaw q v).obj i j k' = s.obj i j k' := rfl
@[simp] theorem State.setRaw_ctr (q : Nat) (v : Option RawQueue) (i j : Nat) : (s.setRaw q v).ctr i j = s.ctr i j := rfl
@[simp] theorem State.setRaw_running (q : Nat) (v : Option RawQueue) : (s.setRaw q v).running = s.running := rfl
@[simp] theorem State.setRaw_level (q : Nat) (v : Option RawQueue) : (s.setRaw q v).level = s.level := rfl

/-! setKeySlot -/

@[simp] theorem State.setKeySlot_pending (d k : Nat) (v : KeySlot) : (s.setKeySlot d k v).pending = s.pending := rfl
@[simp] theorem State.setKeySlot_now (d k : Nat) (v : KeySlot) : (s.setKeySlot d k v).now = s.now := rfl
@[simp] theorem State.setKeySlot_drawn (d k : Nat) (v : KeySlot) : (s.setKeySlot d k v).drawn = s.drawn := rfl
@[simp] theorem State.setKeySlot_mem (d k : Nat) (v : KeySlot) : (s.setKeySlot d k v).mem = s.mem := rfl
@[simp] theorem State.setKeySlot_cmp (d k : Nat) (v : KeySlot) : (s.setKeySlot d k v).cmp = s.cmp := rfl
@[simp] theorem State.setKeySlot_ring (d k : Nat) (v : KeySlot) : (s.setKeySlot d k v).ring = s.ring := rfl
@[simp] theorem State.setKeySlot_fab (d k : Nat) (v : KeySlot) : (s.setKeySlot d k v).fab = s.fab := rfl
@[simp] theorem State.setKeySlot_eth (d k : Nat) (v : KeySlot) : (s.setKeySlot d k v).eth = s.eth := rfl
@[simp] theorem State.setKeySlot_clu (d k : Nat) (v : KeySlot) : (s.setKeySlot d k v).clu = s.clu := rfl
@[simp] theorem State.setKeySlot_hrt (d k : Nat) (v : KeySlot) : (s.setKeySlot d k v).hrt = s.hrt := rfl
@[simp] theorem State.setKeySlot_hands (d k : Nat) (v : KeySlot) : (s.setKeySlot d k v).hands = s.hands := rfl
@[simp] theorem State.setKeySlot_led (d k : Nat) (v : KeySlot) : (s.setKeySlot d k v).led = s.led := rfl
@[simp] theorem State.setKeySlot_flt (d k : Nat) (v : KeySlot) : (s.setKeySlot d k v).flt = s.flt := rfl
@[simp] theorem State.setKeySlot_pw (d k : Nat) (v : KeySlot) : (s.setKeySlot d k v).pw = s.pw := rfl
@[simp] theorem State.setKeySlot_out (d k : Nat) (v : KeySlot) : (s.setKeySlot d k v).out = s.out := rfl
@[simp] theorem State.setKeySlot_cipher_keks (d k : Nat) (v : KeySlot) : (s.setKeySlot d k v).cipher.keks = s.cipher.keks := rfl
@[simp] theorem State.setKeySlot_cipher_cache (d k : Nat) (v : KeySlot) : (s.setKeySlot d k v).cipher.cache = s.cipher.cache := rfl
@[simp] theorem State.setKeySlot_cipher_exchange (d k : Nat) (v : KeySlot) : (s.setKeySlot d k v).cipher.exchange = s.cipher.exchange := rfl
@[simp] theorem State.setKeySlot_cipher_banks (d k : Nat) (v : KeySlot) : (s.setKeySlot d k v).cipher.banks = s.cipher.banks := rfl
@[simp] theorem State.setKeySlot_cipher_bankOk (d k : Nat) (v : KeySlot) : (s.setKeySlot d k v).cipher.bankOk = s.cipher.bankOk := rfl
@[simp] theorem State.setKeySlot_cipher_fusedSvn (d k : Nat) (v : KeySlot) : (s.setKeySlot d k v).cipher.fusedSvn = s.cipher.fusedSvn := rfl
@[simp] theorem State.setKeySlot_cipher_revoked (d k : Nat) (v : KeySlot) : (s.setKeySlot d k v).cipher.revoked = s.cipher.revoked := rfl
@[simp] theorem State.setKeySlot_cipher_running (d k : Nat) (v : KeySlot) : (s.setKeySlot d k v).cipher.running = s.cipher.running := rfl
@[simp] theorem State.setKeySlot_cipher_measured (d k : Nat) (v : KeySlot) : (s.setKeySlot d k v).cipher.measured = s.cipher.measured := rfl
@[simp] theorem State.setKeySlot_cipher_rootKey (d k : Nat) (v : KeySlot) : (s.setKeySlot d k v).cipher.rootKey = s.cipher.rootKey := rfl
@[simp] theorem State.setKeySlot_fn (d k : Nat) (v : KeySlot) (g : Nat) : (s.setKeySlot d k v).fn g = s.fn g := rfl
@[simp] theorem State.setKeySlot_bench (d k : Nat) (v : KeySlot) (b : Nat) : (s.setKeySlot d k v).bench b = s.bench b := rfl
@[simp] theorem State.setKeySlot_stack (d k : Nat) (v : KeySlot) (j : Nat) : (s.setKeySlot d k v).stack j = s.stack j := rfl
@[simp] theorem State.setKeySlot_job (d k : Nat) (v : KeySlot) (e : Nat) : (s.setKeySlot d k v).job e = s.job e := rfl
@[simp] theorem State.setKeySlot_region (d k : Nat) (v : KeySlot) (r : Nat) : (s.setKeySlot d k v).region r = s.region r := rfl
@[simp] theorem State.setKeySlot_line (d k : Nat) (v : KeySlot) (r : Nat) : (s.setKeySlot d k v).line r = s.line r := rfl
@[simp] theorem State.setKeySlot_qp (d k : Nat) (v : KeySlot) (m : Nat) : (s.setKeySlot d k v).qp m = s.qp m := rfl
@[simp] theorem State.setKeySlot_table (d k : Nat) (v : KeySlot) (m : Nat) : (s.setKeySlot d k v).table m = s.table m := rfl
@[simp] theorem State.setKeySlot_sub (d k : Nat) (v : KeySlot) (m : Nat) : (s.setKeySlot d k v).sub m = s.sub m := rfl
@[simp] theorem State.setKeySlot_conn (d k : Nat) (v : KeySlot) (m : Nat) : (s.setKeySlot d k v).conn m = s.conn m := rfl
@[simp] theorem State.setKeySlot_raw (d k : Nat) (v : KeySlot) (m : Nat) : (s.setKeySlot d k v).raw m = s.raw m := rfl
@[simp] theorem State.setKeySlot_outQueue (d k : Nat) (v : KeySlot) (m : Nat) : (s.setKeySlot d k v).outQueue m = s.outQueue m := rfl
@[simp] theorem State.setKeySlot_heldOff (d k : Nat) (v : KeySlot) (m : Nat) : (s.setKeySlot d k v).heldOff m = s.heldOff m := rfl
@[simp] theorem State.setKeySlot_obj (d k : Nat) (v : KeySlot) (i j k' : Nat) : (s.setKeySlot d k v).obj i j k' = s.obj i j k' := rfl
@[simp] theorem State.setKeySlot_ctr (d k : Nat) (v : KeySlot) (i j : Nat) : (s.setKeySlot d k v).ctr i j = s.ctr i j := rfl
@[simp] theorem State.setKeySlot_running (d k : Nat) (v : KeySlot) : (s.setKeySlot d k v).running = s.running := rfl
@[simp] theorem State.setKeySlot_level (d k : Nat) (v : KeySlot) : (s.setKeySlot d k v).level = s.level := rfl

/-! setOutQueue -/

@[simp] theorem State.setOutQueue_pending (k : Nat) (q : List Queued) : (s.setOutQueue k q).pending = s.pending := rfl
@[simp] theorem State.setOutQueue_now (k : Nat) (q : List Queued) : (s.setOutQueue k q).now = s.now := rfl
@[simp] theorem State.setOutQueue_drawn (k : Nat) (q : List Queued) : (s.setOutQueue k q).drawn = s.drawn := rfl
@[simp] theorem State.setOutQueue_mem (k : Nat) (q : List Queued) : (s.setOutQueue k q).mem = s.mem := rfl
@[simp] theorem State.setOutQueue_cmp (k : Nat) (q : List Queued) : (s.setOutQueue k q).cmp = s.cmp := rfl
@[simp] theorem State.setOutQueue_ring (k : Nat) (q : List Queued) : (s.setOutQueue k q).ring = s.ring := rfl
@[simp] theorem State.setOutQueue_eth (k : Nat) (q : List Queued) : (s.setOutQueue k q).eth = s.eth := rfl
@[simp] theorem State.setOutQueue_clu (k : Nat) (q : List Queued) : (s.setOutQueue k q).clu = s.clu := rfl
@[simp] theorem State.setOutQueue_hrt (k : Nat) (q : List Queued) : (s.setOutQueue k q).hrt = s.hrt := rfl
@[simp] theorem State.setOutQueue_hands (k : Nat) (q : List Queued) : (s.setOutQueue k q).hands = s.hands := rfl
@[simp] theorem State.setOutQueue_led (k : Nat) (q : List Queued) : (s.setOutQueue k q).led = s.led := rfl
@[simp] theorem State.setOutQueue_cipher (k : Nat) (q : List Queued) : (s.setOutQueue k q).cipher = s.cipher := rfl
@[simp] theorem State.setOutQueue_flt (k : Nat) (q : List Queued) : (s.setOutQueue k q).flt = s.flt := rfl
@[simp] theorem State.setOutQueue_pw (k : Nat) (q : List Queued) : (s.setOutQueue k q).pw = s.pw := rfl
@[simp] theorem State.setOutQueue_out (k : Nat) (q : List Queued) : (s.setOutQueue k q).out = s.out := rfl
@[simp] theorem State.setOutQueue_fab_active (k : Nat) (q : List Queued) : (s.setOutQueue k q).fab.active = s.fab.active := rfl
@[simp] theorem State.setOutQueue_fab_nextId (k : Nat) (q : List Queued) : (s.setOutQueue k q).fab.nextId = s.fab.nextId := rfl
@[simp] theorem State.setOutQueue_fab_xfers (k : Nat) (q : List Queued) : (s.setOutQueue k q).fab.xfers = s.fab.xfers := rfl
@[simp] theorem State.setOutQueue_fab_waiting (k : Nat) (q : List Queued) : (s.setOutQueue k q).fab.waiting = s.fab.waiting := rfl
@[simp] theorem State.setOutQueue_fab_held (k : Nat) (q : List Queued) : (s.setOutQueue k q).fab.held = s.fab.held := rfl
@[simp] theorem State.setOutQueue_fab_nextHeld (k : Nat) (q : List Queued) : (s.setOutQueue k q).fab.nextHeld = s.fab.nextHeld := rfl
@[simp] theorem State.setOutQueue_fab_contexts (k : Nat) (q : List Queued) : (s.setOutQueue k q).fab.contexts = s.fab.contexts := rfl
@[simp] theorem State.setOutQueue_fab_off (k : Nat) (q : List Queued) : (s.setOutQueue k q).fab.off = s.fab.off := rfl
@[simp] theorem State.setOutQueue_fab_pointer (k : Nat) (q : List Queued) : (s.setOutQueue k q).fab.pointer = s.fab.pointer := rfl
@[simp] theorem State.setOutQueue_fab_busy (k : Nat) (q : List Queued) : (s.setOutQueue k q).fab.busy = s.fab.busy := rfl
@[simp] theorem State.setOutQueue_fab_half (k : Nat) (q : List Queued) : (s.setOutQueue k q).fab.half = s.fab.half := rfl
@[simp] theorem State.setOutQueue_fab_rxHalf (k : Nat) (q : List Queued) : (s.setOutQueue k q).fab.rxHalf = s.fab.rxHalf := rfl
@[simp] theorem State.setOutQueue_fab_inOff (k : Nat) (q : List Queued) : (s.setOutQueue k q).fab.inOff = s.fab.inOff := rfl
@[simp] theorem State.setOutQueue_fab_badWords (k : Nat) (q : List Queued) : (s.setOutQueue k q).fab.badWords = s.fab.badWords := rfl
@[simp] theorem State.setOutQueue_fab_copies (k : Nat) (q : List Queued) : (s.setOutQueue k q).fab.copies = s.fab.copies := rfl
@[simp] theorem State.setOutQueue_fab_orderings (k : Nat) (q : List Queued) : (s.setOutQueue k q).fab.orderings = s.fab.orderings := rfl
@[simp] theorem State.setOutQueue_fab_nextOrdering (k : Nat) (q : List Queued) : (s.setOutQueue k q).fab.nextOrdering = s.fab.nextOrdering := rfl
@[simp] theorem State.setOutQueue_fab_degraded (k : Nat) (q : List Queued) : (s.setOutQueue k q).fab.degraded = s.fab.degraded := rfl
@[simp] theorem State.setOutQueue_fn (k : Nat) (q : List Queued) (g : Nat) : (s.setOutQueue k q).fn g = s.fn g := rfl
@[simp] theorem State.setOutQueue_bench (k : Nat) (q : List Queued) (b : Nat) : (s.setOutQueue k q).bench b = s.bench b := rfl
@[simp] theorem State.setOutQueue_stack (k : Nat) (q : List Queued) (j : Nat) : (s.setOutQueue k q).stack j = s.stack j := rfl
@[simp] theorem State.setOutQueue_job (k : Nat) (q : List Queued) (e : Nat) : (s.setOutQueue k q).job e = s.job e := rfl
@[simp] theorem State.setOutQueue_region (k : Nat) (q : List Queued) (r : Nat) : (s.setOutQueue k q).region r = s.region r := rfl
@[simp] theorem State.setOutQueue_line (k : Nat) (q : List Queued) (r : Nat) : (s.setOutQueue k q).line r = s.line r := rfl
@[simp] theorem State.setOutQueue_qp (k : Nat) (q : List Queued) (m : Nat) : (s.setOutQueue k q).qp m = s.qp m := rfl
@[simp] theorem State.setOutQueue_table (k : Nat) (q : List Queued) (m : Nat) : (s.setOutQueue k q).table m = s.table m := rfl
@[simp] theorem State.setOutQueue_sub (k : Nat) (q : List Queued) (m : Nat) : (s.setOutQueue k q).sub m = s.sub m := rfl
@[simp] theorem State.setOutQueue_conn (k : Nat) (q : List Queued) (m : Nat) : (s.setOutQueue k q).conn m = s.conn m := rfl
@[simp] theorem State.setOutQueue_raw (k : Nat) (q : List Queued) (m : Nat) : (s.setOutQueue k q).raw m = s.raw m := rfl
@[simp] theorem State.setOutQueue_heldOff (k : Nat) (q : List Queued) (m : Nat) : (s.setOutQueue k q).heldOff m = s.heldOff m := rfl
@[simp] theorem State.setOutQueue_keySlot (k : Nat) (q : List Queued) (x y : Nat) : (s.setOutQueue k q).keySlot x y = s.keySlot x y := rfl
@[simp] theorem State.setOutQueue_obj (k : Nat) (q : List Queued) (i j k' : Nat) : (s.setOutQueue k q).obj i j k' = s.obj i j k' := rfl
@[simp] theorem State.setOutQueue_ctr (k : Nat) (q : List Queued) (i j : Nat) : (s.setOutQueue k q).ctr i j = s.ctr i j := rfl
@[simp] theorem State.setOutQueue_running (k : Nat) (q : List Queued) : (s.setOutQueue k q).running = s.running := rfl
@[simp] theorem State.setOutQueue_level (k : Nat) (q : List Queued) : (s.setOutQueue k q).level = s.level := rfl

/-! setOff -/

@[simp] theorem State.setOff_pending (k : Nat) (v : Option Nat) : (s.setOff k v).pending = s.pending := rfl
@[simp] theorem State.setOff_now (k : Nat) (v : Option Nat) : (s.setOff k v).now = s.now := rfl
@[simp] theorem State.setOff_drawn (k : Nat) (v : Option Nat) : (s.setOff k v).drawn = s.drawn := rfl
@[simp] theorem State.setOff_mem (k : Nat) (v : Option Nat) : (s.setOff k v).mem = s.mem := rfl
@[simp] theorem State.setOff_cmp (k : Nat) (v : Option Nat) : (s.setOff k v).cmp = s.cmp := rfl
@[simp] theorem State.setOff_ring (k : Nat) (v : Option Nat) : (s.setOff k v).ring = s.ring := rfl
@[simp] theorem State.setOff_eth (k : Nat) (v : Option Nat) : (s.setOff k v).eth = s.eth := rfl
@[simp] theorem State.setOff_clu (k : Nat) (v : Option Nat) : (s.setOff k v).clu = s.clu := rfl
@[simp] theorem State.setOff_hrt (k : Nat) (v : Option Nat) : (s.setOff k v).hrt = s.hrt := rfl
@[simp] theorem State.setOff_hands (k : Nat) (v : Option Nat) : (s.setOff k v).hands = s.hands := rfl
@[simp] theorem State.setOff_led (k : Nat) (v : Option Nat) : (s.setOff k v).led = s.led := rfl
@[simp] theorem State.setOff_cipher (k : Nat) (v : Option Nat) : (s.setOff k v).cipher = s.cipher := rfl
@[simp] theorem State.setOff_flt (k : Nat) (v : Option Nat) : (s.setOff k v).flt = s.flt := rfl
@[simp] theorem State.setOff_pw (k : Nat) (v : Option Nat) : (s.setOff k v).pw = s.pw := rfl
@[simp] theorem State.setOff_out (k : Nat) (v : Option Nat) : (s.setOff k v).out = s.out := rfl
@[simp] theorem State.setOff_fab_active (k : Nat) (v : Option Nat) : (s.setOff k v).fab.active = s.fab.active := rfl
@[simp] theorem State.setOff_fab_nextId (k : Nat) (v : Option Nat) : (s.setOff k v).fab.nextId = s.fab.nextId := rfl
@[simp] theorem State.setOff_fab_xfers (k : Nat) (v : Option Nat) : (s.setOff k v).fab.xfers = s.fab.xfers := rfl
@[simp] theorem State.setOff_fab_waiting (k : Nat) (v : Option Nat) : (s.setOff k v).fab.waiting = s.fab.waiting := rfl
@[simp] theorem State.setOff_fab_held (k : Nat) (v : Option Nat) : (s.setOff k v).fab.held = s.fab.held := rfl
@[simp] theorem State.setOff_fab_nextHeld (k : Nat) (v : Option Nat) : (s.setOff k v).fab.nextHeld = s.fab.nextHeld := rfl
@[simp] theorem State.setOff_fab_contexts (k : Nat) (v : Option Nat) : (s.setOff k v).fab.contexts = s.fab.contexts := rfl
@[simp] theorem State.setOff_fab_outq (k : Nat) (v : Option Nat) : (s.setOff k v).fab.outq = s.fab.outq := rfl
@[simp] theorem State.setOff_fab_pointer (k : Nat) (v : Option Nat) : (s.setOff k v).fab.pointer = s.fab.pointer := rfl
@[simp] theorem State.setOff_fab_busy (k : Nat) (v : Option Nat) : (s.setOff k v).fab.busy = s.fab.busy := rfl
@[simp] theorem State.setOff_fab_half (k : Nat) (v : Option Nat) : (s.setOff k v).fab.half = s.fab.half := rfl
@[simp] theorem State.setOff_fab_rxHalf (k : Nat) (v : Option Nat) : (s.setOff k v).fab.rxHalf = s.fab.rxHalf := rfl
@[simp] theorem State.setOff_fab_inOff (k : Nat) (v : Option Nat) : (s.setOff k v).fab.inOff = s.fab.inOff := rfl
@[simp] theorem State.setOff_fab_badWords (k : Nat) (v : Option Nat) : (s.setOff k v).fab.badWords = s.fab.badWords := rfl
@[simp] theorem State.setOff_fab_copies (k : Nat) (v : Option Nat) : (s.setOff k v).fab.copies = s.fab.copies := rfl
@[simp] theorem State.setOff_fab_orderings (k : Nat) (v : Option Nat) : (s.setOff k v).fab.orderings = s.fab.orderings := rfl
@[simp] theorem State.setOff_fab_nextOrdering (k : Nat) (v : Option Nat) : (s.setOff k v).fab.nextOrdering = s.fab.nextOrdering := rfl
@[simp] theorem State.setOff_fab_degraded (k : Nat) (v : Option Nat) : (s.setOff k v).fab.degraded = s.fab.degraded := rfl
@[simp] theorem State.setOff_fn (k : Nat) (v : Option Nat) (g : Nat) : (s.setOff k v).fn g = s.fn g := rfl
@[simp] theorem State.setOff_bench (k : Nat) (v : Option Nat) (b : Nat) : (s.setOff k v).bench b = s.bench b := rfl
@[simp] theorem State.setOff_stack (k : Nat) (v : Option Nat) (j : Nat) : (s.setOff k v).stack j = s.stack j := rfl
@[simp] theorem State.setOff_job (k : Nat) (v : Option Nat) (e : Nat) : (s.setOff k v).job e = s.job e := rfl
@[simp] theorem State.setOff_region (k : Nat) (v : Option Nat) (r : Nat) : (s.setOff k v).region r = s.region r := rfl
@[simp] theorem State.setOff_line (k : Nat) (v : Option Nat) (r : Nat) : (s.setOff k v).line r = s.line r := rfl
@[simp] theorem State.setOff_qp (k : Nat) (v : Option Nat) (m : Nat) : (s.setOff k v).qp m = s.qp m := rfl
@[simp] theorem State.setOff_table (k : Nat) (v : Option Nat) (m : Nat) : (s.setOff k v).table m = s.table m := rfl
@[simp] theorem State.setOff_sub (k : Nat) (v : Option Nat) (m : Nat) : (s.setOff k v).sub m = s.sub m := rfl
@[simp] theorem State.setOff_conn (k : Nat) (v : Option Nat) (m : Nat) : (s.setOff k v).conn m = s.conn m := rfl
@[simp] theorem State.setOff_raw (k : Nat) (v : Option Nat) (m : Nat) : (s.setOff k v).raw m = s.raw m := rfl
@[simp] theorem State.setOff_outQueue (k : Nat) (v : Option Nat) (m : Nat) : (s.setOff k v).outQueue m = s.outQueue m := rfl
@[simp] theorem State.setOff_keySlot (k : Nat) (v : Option Nat) (x y : Nat) : (s.setOff k v).keySlot x y = s.keySlot x y := rfl
@[simp] theorem State.setOff_obj (k : Nat) (v : Option Nat) (i j k' : Nat) : (s.setOff k v).obj i j k' = s.obj i j k' := rfl
@[simp] theorem State.setOff_ctr (k : Nat) (v : Option Nat) (i j : Nat) : (s.setOff k v).ctr i j = s.ctr i j := rfl
@[simp] theorem State.setOff_running (k : Nat) (v : Option Nat) : (s.setOff k v).running = s.running := rfl
@[simp] theorem State.setOff_level (k : Nat) (v : Option Nat) : (s.setOff k v).level = s.level := rfl

/-! What is read back -/

@[simp] theorem State.qp_setQp (n : Nat) (q : Qp) : (s.setQp n q).qp n = q := Sparse.get_set_same _ _ _
theorem State.qp_setQp_ne (n : Nat) (q : Qp) {m : Nat} (h : n ≠ m) : (s.setQp n q).qp m = s.qp m := Sparse.get_set_ne _ _ h
@[simp] theorem State.table_setTable (t : Nat) (c : Option Table) : (s.setTable t c).table t = c := Sparse.get_set_same _ _ _
theorem State.table_setTable_ne (t : Nat) (c : Option Table) {m : Nat} (h : t ≠ m) : (s.setTable t c).table m = s.table m :=
  Sparse.get_set_ne _ _ h
@[simp] theorem State.sub_setSub (k : Nat) (v : SubPort) : (s.setSub k v).sub k = v := Sparse.get_set_same _ _ _
theorem State.sub_setSub_ne (k : Nat) (v : SubPort) {m : Nat} (h : k ≠ m) : (s.setSub k v).sub m = s.sub m := Sparse.get_set_ne _ _ h
@[simp] theorem State.conn_setConn (c : Nat) (v : NvmeConn) : (s.setConn c v).conn c = v := Sparse.get_set_same _ _ _
theorem State.conn_setConn_ne (c : Nat) (v : NvmeConn) {m : Nat} (h : c ≠ m) : (s.setConn c v).conn m = s.conn m :=
  Sparse.get_set_ne _ _ h
@[simp] theorem State.raw_setRaw (q : Nat) (v : Option RawQueue) : (s.setRaw q v).raw q = v := Sparse.get_set_same _ _ _
theorem State.raw_setRaw_ne (q : Nat) (v : Option RawQueue) {m : Nat} (h : q ≠ m) : (s.setRaw q v).raw m = s.raw m :=
  Sparse.get_set_ne _ _ h
@[simp] theorem State.keySlot_setKeySlot (d k : Nat) (v : KeySlot) : (s.setKeySlot d k v).keySlot d k = v := Sparse.get_set_same _ _ _
theorem State.keySlot_setKeySlot_ne (d k : Nat) (v : KeySlot) {x y : Nat} (h : 4096 * d + k ≠ 4096 * x + y) :
    (s.setKeySlot d k v).keySlot x y = s.keySlot x y := Sparse.get_set_ne _ _ h
@[simp] theorem State.outQueue_setOutQueue (k : Nat) (q : List Queued) : (s.setOutQueue k q).outQueue k = q :=
  Sparse.get_set_same _ _ _
theorem State.outQueue_setOutQueue_ne (k : Nat) (q : List Queued) {m : Nat} (h : k ≠ m) :
    (s.setOutQueue k q).outQueue m = s.outQueue m := Sparse.get_set_ne _ _ h
@[simp] theorem State.heldOff_setOff (k : Nat) (v : Option Nat) : (s.setOff k v).heldOff k = v := Sparse.get_set_same _ _ _
theorem State.heldOff_setOff_ne (k : Nat) (v : Option Nat) {m : Nat} (h : k ≠ m) : (s.setOff k v).heldOff m = s.heldOff m :=
  Sparse.get_set_ne _ _ h

/-! The memories stay canonical -/

@[simp] theorem State.memoriesWf_setQp (n : Nat) (q : Qp) : (s.setQp n q).memoriesWf ↔ s.memoriesWf := Iff.rfl
@[simp] theorem State.memoriesWf_setTable (t : Nat) (c : Option Table) : (s.setTable t c).memoriesWf ↔ s.memoriesWf := Iff.rfl
@[simp] theorem State.memoriesWf_setSub (k : Nat) (v : SubPort) : (s.setSub k v).memoriesWf ↔ s.memoriesWf := Iff.rfl
@[simp] theorem State.memoriesWf_setConn (c : Nat) (v : NvmeConn) : (s.setConn c v).memoriesWf ↔ s.memoriesWf := Iff.rfl
@[simp] theorem State.memoriesWf_setIo (v : NvmeIo) : (s.setIo v).memoriesWf ↔ s.memoriesWf := Iff.rfl
@[simp] theorem State.memoriesWf_setRaw (q : Nat) (v : Option RawQueue) : (s.setRaw q v).memoriesWf ↔ s.memoriesWf := Iff.rfl
@[simp] theorem State.memoriesWf_setKeySlot (d k : Nat) (v : KeySlot) : (s.setKeySlot d k v).memoriesWf ↔ s.memoriesWf := Iff.rfl
@[simp] theorem State.memoriesWf_setOutQueue (k : Nat) (q : List Queued) : (s.setOutQueue k q).memoriesWf ↔ s.memoriesWf := Iff.rfl
@[simp] theorem State.memoriesWf_setOff (k : Nat) (v : Option Nat) : (s.setOff k v).memoriesWf ↔ s.memoriesWf := Iff.rfl

end Sys2Proof.Machine
end

