-- ==== Sys2Proof/WellFormed.lean ====
section
/-! DEFINITION. WellFormed.lean: the operand ranges of each command: functions 0–127, benches 0–511, stacks 0–7, ports,
lanes, virtual channels, tables, queue pairs, connections, queues, streams, rails and session slots, as the manual numbers them. -/

namespace Sys2Proof

/-- The operands of a command lie in the ranges the manual gives the things they name. -/
def Instr.wellFormed (i : Instr) : Bool :=
  match i with
  | .nop fid idx => decide (fid < 128) && decide (idx < 4294967296)
  | .fence fid idx => decide (fid < 128) && decide (idx < 4294967296)
  | .copy fid idx => decide (fid < 128) && decide (idx < 4294967296)
  | .hrtSend fid idx => decide (fid < 128) && decide (idx < 4294967296)
  | .hrtWrite fid idx => decide (fid < 128) && decide (idx < 4294967296)
  | .hrtRead fid idx => decide (fid < 128) && decide (idx < 4294967296)
  | .hrtAdd fid idx => decide (fid < 128) && decide (idx < 4294967296)
  | .hrtCas fid idx => decide (fid < 128) && decide (idx < 4294967296)
  | .hrtFlush fid idx => decide (fid < 128) && decide (idx < 4294967296)
  | .qpModify fid idx => decide (fid < 128) && decide (idx < 4294967296)
  | .resume fid idx => decide (fid < 128) && decide (idx < 4294967296)
  | .regRegion fid idx => decide (fid < 128) && decide (idx < 4294967296)
  | .deregRegion fid idx => decide (fid < 128) && decide (idx < 4294967296)
  | .prefetch fid idx => decide (fid < 128) && decide (idx < 4294967296)
  | .advisePrewalk fid idx => decide (fid < 128) && decide (idx < 4294967296)
  | .advisePin fid idx => decide (fid < 128) && decide (idx < 4294967296)
  | .adviseUnpin fid idx => decide (fid < 128) && decide (idx < 4294967296)
  | .adviseHold fid idx => decide (fid < 128) && decide (idx < 4294967296)
  | .adviseRelease fid idx => decide (fid < 128) && decide (idx < 4294967296)
  | .adviseEvict fid idx => decide (fid < 128) && decide (idx < 4294967296)
  | .invalidate fid idx => decide (fid < 128) && decide (idx < 4294967296)
  | .loadJob fid idx => decide (fid < 128) && decide (idx < 4294967296)
  | .runJob fid idx => decide (fid < 128) && decide (idx < 4294967296)
  | .jobDispatch fid idx => decide (fid < 128) && decide (idx < 4294967296)
  | .jobComplete drawer => decide (drawer < 128)
  | .jobDeadlineExpiry drawer => decide (drawer < 128)
  | .tableDeal fid idx => decide (fid < 128) && decide (idx < 4294967296)
  | .tableRedeal fid idx => decide (fid < 128) && decide (idx < 4294967296)
  | .tableClear fid idx => decide (fid < 128) && decide (idx < 4294967296)
  | .handStart fid idx => decide (fid < 128) && decide (idx < 4294967296)
  | .handQueuedStart fid idx => decide (fid < 128) && decide (idx < 4294967296)
  | .pegSetWrite fid idx => decide (fid < 128) && decide (idx < 4294967296)
  | .pegSetAdd fid idx => decide (fid < 128) && decide (idx < 4294967296)
  | .pegSetWait fid idx => decide (fid < 128) && decide (idx < 4294967296)
  | .pegSetBind fid idx => decide (fid < 128) && decide (idx < 4294967296)
  | .pegSetUnbind fid idx => decide (fid < 128) && decide (idx < 4294967296)
  | .nvmeRead fid idx => decide (fid < 128) && decide (idx < 4294967296)
  | .nvmeWrite fid idx => decide (fid < 128) && decide (idx < 4294967296)
  | .nvmeFlush fid idx => decide (fid < 128) && decide (idx < 4294967296)
  | .entryFetch fid => decide (fid < 128)
  | .speculativeFetch fid idx => decide (fid < 128) && decide (idx < 4294967296)
  | .wrProdWrite fid _ _ _ => decide (fid < 128)
  | .crConsWrite fid _ => decide (fid < 128)
  | .crArmWrite fid _ => decide (fid < 128)
  | .ringEnable fid => decide (fid < 128)
  | .ringDisable fid => decide (fid < 128)
  | .ringStatusRead fid => decide (fid < 128)
  | .registerWrite fid _ _ _ => decide (fid < 128)
  | .crMirrorWrite fid => decide (fid < 128)
  | .msixMessage fid => decide (fid < 128)
  | .completionBackpressure fid => decide (fid < 128)
  | .mbDoorbellWrite _ _ => true
  | .mbStatusRead => true
  | .flr fid => decide (fid < 128)
  | .flrWedgeTimeout fid => decide (fid < 128)
  | .benchNop bench => decide (bench < 512)
  | .benchEnd bench => decide (bench < 512)
  | .benchLoop bench => decide (bench < 512)
  | .benchBranch bench => decide (bench < 512)
  | .pegAdd bench => decide (bench < 512)
  | .pegWait bench => decide (bench < 512)
  | .pegSignal bench => decide (bench < 512)
  | .matvec bench => decide (bench < 512)
  | .attend bench => decide (bench < 512)
  | .gather bench => decide (bench < 512)
  | .norm bench => decide (bench < 512)
  | .act bench => decide (bench < 512)
  | .quant bench => decide (bench < 512)
  | .dequant bench => decide (bench < 512)
  | .topk bench => decide (bench < 512)
  | .sample bench => decide (bench < 512)
  | .reduce bench => decide (bench < 512)
  | .move bench => decide (bench < 512)
  | .send bench => decide (bench < 512)
  | .benchParityError bench => decide (bench < 512)
  | .spinTimeout bench => decide (bench < 512)
  | .wakeGrant stack => decide (stack < 8)
  | .benchWake bench => decide (bench < 512)
  | .refresh bench bank => decide (bench < 512) && decide (bank < 12)
  | .scrubAccess _ => true
  | .thermalReading _ => true
  | .governorSample _ => true
  | .stackBringup stack => decide (stack < 8)
  | .stackTrim stack _ => decide (stack < 8)
  | .clockStep stack => decide (stack < 8)
  | .stage1Entry => true
  | .stage2Entry => true
  | .laneCalibration => true
  | .powerGood => true
  | .bootRomRun => true
  | .mainRailsDown => true
  | .mainRailExcursion rail => decide (rail < 7)
  | .vddAuxExcursion _ => true
  | .wakeFrameReceive _ => true
  | .perst0Assert => true
  | .perst0Deassert => true
  | .perst1Assert => true
  | .perst1Deassert => true
  | .fullReset => true
  | .p0DlDown => true
  | .p0DlUp _ _ _ => true
  | .p0LinkLossTimeout => true
  | .p1LinkDown => true
  | .rootLockLoss => true
  | .rootLockRestore => true
  | .orderingReadComplete _ _ => true
  | .deroneTrainingDone port _ _ => decide (port < 8)
  | .deroneLinkDown port => decide (port < 8)
  | .deroneDegraded port => decide (port < 8)
  | .deroneFlowControl port vc _ => decide (port < 8) && decide (vc < 2)
  | .deroneForward port _ => decide (port < 8)
  | .deroneRxWrite port _ => decide (port < 8)
  | .deroneRxReadReq port _ => decide (port < 8)
  | .deroneRxReadResp port _ => decide (port < 8)
  | .deroneRxAck port _ => decide (port < 8)
  | .deroneRxNak port _ => decide (port < 8)
  | .deroneStallDiscard port vc => decide (port < 8) && decide (vc < 2)
  | .deroneAckTimeout _ => true
  | .deroneBusyResend _ => true
  | .dovetailIssue _ => true
  | .deroneTransferStart => true
  | .routeDrain => true
  | .routeDrained => true
  | .routeSwap => true
  | .routeResume => true
  | .routeAbort => true
  | .deroneLinkEnableWrite port _ => decide (port < 8)
  | .handData table => decide (table < 64)
  | .handCredit table => decide (table < 64)
  | .handAbort table => decide (table < 64)
  | .handDone table => decide (table < 64)
  | .handFin table => decide (table < 64)
  | .handPartDone table => decide (table < 64)
  | .handLeaderDeadline table => decide (table < 64)
  | .handRootDeadline table => decide (table < 64)
  | .handMemberDeadline table => decide (table < 64)
  | .hrtPacketTransmit qp => decide (qp < 65536)
  | .hrtRxSend => true
  | .hrtRxWrite => true
  | .hrtRxReadReq => true
  | .hrtRxAdd => true
  | .hrtRxCas => true
  | .hrtRxFlush => true
  | .hrtRxColl => true
  | .hrtRxReadResp => true
  | .hrtRxAtomicResp => true
  | .hrtRxAck => true
  | .hrtRxAckStale => true
  | .hrtRxNakPage => true
  | .hrtRxFatalNak => true
  | .heldRequestExecute qp => decide (qp < 65536)
  | .flushConditionMet qp => decide (qp < 65536)
  | .ackDelayExpiry qp => decide (qp < 65536)
  | .retransmitTimeout qp => decide (qp < 65536)
  | .pageWaitEnd qp => decide (qp < 65536)
  | .pageWaitTimeout qp => decide (qp < 65536)
  | .climbTimer qp => decide (qp < 65536)
  | .contextFetch qp => decide (qp < 65536)
  | .frameReceive port lane _ _ => decide (port < 9) && decide (lane < 4)
  | .pfcReceive port lane _ => decide (port < 8) && decide (lane < 4)
  | .pfcPauseExpiry port lane cls => decide (port < 8) && decide (lane < 4) && decide (cls < 8)
  | .pfcRepeat port lane cls => decide (port < 8) && decide (lane < 4) && decide (cls < 8)
  | .frameTransmit port lane => decide (port < 9) && decide (lane < 4)
  | .subportUp port lane => decide (port < 9) && decide (lane < 4)
  | .subportDown port lane => decide (port < 9) && decide (lane < 4)
  | .subportDegraded port lane => decide (port < 9) && decide (lane < 4)
  | .ethLinkEnableWrite port _ => decide (port < 9)
  | .gateEntryChange port lane => decide (port < 8) && decide (lane < 4)
  | .configChange port lane => decide (port < 8) && decide (lane < 4)
  | .gateConfigApply port lane => decide (port < 8) && decide (lane < 4)
  | .nvmeConnect conn => decide (conn < 64)
  | .nvmeDisconnect conn => decide (conn < 64)
  | .nvmeConnectDone conn => decide (conn < 64)
  | .nvmeConnectTimeout conn _ => decide (conn < 64)
  | .nvmeConnectionLoss conn => decide (conn < 64)
  | .nvmeIoTimeout conn => decide (conn < 64)
  | .nvmeReconnectDelay conn => decide (conn < 64)
  | .nvmeKeepAlive conn => decide (conn < 64)
  | .nvmeC2hData conn _ => decide (conn < 64)
  | .nvmeR2t conn _ => decide (conn < 64)
  | .nvmeCapsuleResp conn _ => decide (conn < 64)
  | .rawQueueEnable queue => decide (queue < 32)
  | .rawQueueDisable queue => decide (queue < 32)
  | .rawTxDescriptor queue => decide (queue < 32)
  | .rawRxFrame queue => decide (queue < 32)
  | .telemetryEnable stream => decide (stream < 8)
  | .telemetryRecord stream => decide (stream < 8)
  | .clusterWatchdogExpiry => true
  | .timeStep _ => true
  | .ppsOutPulse => true
  | .ppsInEdge => true
  | .kekLoad drawer _ => decide (drawer < 128)
  | .keyWrite drawer _ => decide (drawer < 128)
  | .keyClear drawer _ => decide (drawer < 128)
  | .svnCommit _ => true
  | .ledgerRead session _ => decide (session < 17)
  | .ledgerWrite session _ => decide (session < 17)
  | .domainRead session _ => decide (session < 17)
  | .domainBegin session _ => decide (session < 17)
  | .domainSegment session _ => decide (session < 17)
  | .domainEnd session _ => decide (session < 17)
  | .domainAbort session _ => decide (session < 17)
  | .domainTransferTimeout session => decide (session < 17)
  | .hello _ => true
  | .auth _ => true
  | .close session _ => decide (session < 17)
  | .helloExpiry session => decide (session < 17)
  | .sessionIdleExpiry session => decide (session < 17)
  | .heartbeat session _ => decide (session < 17)
  | .subscribe session _ => decide (session < 17)
  | .notifyAck session _ => decide (session < 17)
  | .notifyResend session => decide (session < 17)
  | .watchdogExpiry => true
  | .resetCommand session => decide (session < 17)
  | .scorecardClear _ => true
  | .scorecardEvent source => decide (source < 64)
  | .injectStart => true
  | .injectStop => true
  | .injectEvent => true
  | .drawerStop drawer => decide (drawer < 128)
  | .drawerStoppedReached drawer => decide (drawer < 128)
  | .drawerStart drawer => decide (drawer < 128)
  | .recycle drawer => decide (drawer < 128)
  | .chunkGo => true
  | .benchOwnerWrite _ => true
  | .hubPegBlockWrite block _ => decide (block < 64)
  | .migSave drawer => decide (drawer < 128)
  | .migRestore drawer => decide (drawer < 128)
  | .migCopyOut drawer => decide (drawer < 128)
  | .migCopyIn drawer => decide (drawer < 128)
  | .migLogStart drawer => decide (drawer < 128)
  | .migLogSwap drawer => decide (drawer < 128)
  | .migLogStop drawer => decide (drawer < 128)
  | .secretLoad credential _ => decide (credential < 32)
  | .tapReset => true
  | .extest => true
  | .idcode => true
  | .samplePreload _ => true
  | .clamp => true
  | .highz => true
  | .bypass => true
  | .p1DlUp _ _ _ => true
  | .stackInterfaceLoss stack => decide (stack < 8)
  | .stackInterfaceRetrained stack => decide (stack < 8)
  | .mainRailReturn rail => decide (rail < 7)
  | .completionTimeout fid idx => decide (fid < 129) && decide (idx < 4294967296)
  | .atomicopCompletion qp _ _ => decide (qp < 65536)
  | .flashWrite _ _ => true
  | .vfEnable numVfs => decide (numVfs < 128)
  | .pcieTlpError port => decide (port < 2)

end Sys2Proof
end

