-- ==== Sys2Proof/Tests/Slice0.lean ====
section
/-! SUPPORT. Tests/Slice0.lean: ill-formed commands refused by WellFormed, and for each clause of the statements a small state and operands
that meet its hypotheses, with what the command answers there. -/

namespace Sys2Proof.Tests

open Sys2Proof Sys2Proof.Machine Sys2Proof.Claims

set_option Elab.async false

/-! Ill-formed commands, one for each check -/

theorem test_function_number : (Instr.nop 127 0).wellFormed = true ∧ (Instr.nop 128 0).wellFormed = false := by decide
theorem test_ring_index : (Instr.copy 0 4294967295).wellFormed = true ∧ (Instr.copy 0 4294967296).wellFormed = false := by decide
theorem test_drawer_number : (Instr.jobComplete 127).wellFormed = true ∧ (Instr.jobComplete 128).wellFormed = false := by decide
theorem test_bench_number : (Instr.benchNop 511).wellFormed = true ∧ (Instr.benchNop 512).wellFormed = false := by decide
theorem test_bank_number : (Instr.refresh 0 11).wellFormed = true ∧ (Instr.refresh 0 12).wellFormed = false := by decide
theorem test_stack_number : (Instr.wakeGrant 7).wellFormed = true ∧ (Instr.wakeGrant 8).wellFormed = false := by decide
theorem test_rail_number : (Instr.mainRailReturn 6).wellFormed = true ∧ (Instr.mainRailReturn 7).wellFormed = false := by decide
theorem test_derone_port : (Instr.deroneLinkDown 7).wellFormed = true ∧ (Instr.deroneLinkDown 8).wellFormed = false := by decide
theorem test_virtual_channel :
    (Instr.deroneStallDiscard 0 1).wellFormed = true ∧ (Instr.deroneStallDiscard 0 2).wellFormed = false := by decide
theorem test_table_number : (Instr.handData 63).wellFormed = true ∧ (Instr.handData 64).wellFormed = false := by decide
theorem test_queue_pair : (Instr.contextFetch 65535).wellFormed = true ∧ (Instr.contextFetch 65536).wellFormed = false := by decide
theorem test_ethernet_port : (Instr.subportUp 8 0).wellFormed = true ∧ (Instr.subportUp 9 0).wellFormed = false := by decide
theorem test_lane : (Instr.subportUp 0 3).wellFormed = true ∧ (Instr.subportUp 0 4).wellFormed = false := by decide
theorem test_traffic_class : (Instr.pfcRepeat 7 3 7).wellFormed = true ∧ (Instr.pfcRepeat 7 3 8).wellFormed = false := by decide
theorem test_data_port : (Instr.pfcReceive 7 3 []).wellFormed = true ∧ (Instr.pfcReceive 8 0 []).wellFormed = false := by decide
theorem test_storage_connection : (Instr.nvmeConnect 63).wellFormed = true ∧ (Instr.nvmeConnect 64).wellFormed = false := by decide
theorem test_raw_queue : (Instr.rawQueueEnable 31).wellFormed = true ∧ (Instr.rawQueueEnable 32).wellFormed = false := by decide
theorem test_stream : (Instr.telemetryEnable 7).wellFormed = true ∧ (Instr.telemetryEnable 8).wellFormed = false := by decide
theorem test_source : (Instr.scorecardEvent 63).wellFormed = true ∧ (Instr.scorecardEvent 64).wellFormed = false := by decide
theorem test_peg_block : (Instr.hubPegBlockWrite 63 0).wellFormed = true ∧ (Instr.hubPegBlockWrite 64 0).wellFormed = false := by decide
theorem test_credential : (Instr.secretLoad 31 []).wellFormed = true ∧ (Instr.secretLoad 32 []).wellFormed = false := by decide
theorem test_pcie_port : (Instr.pcieTlpError 1).wellFormed = true ∧ (Instr.pcieTlpError 2).wellFormed = false := by decide

theorem test_session_slot : (Instr.helloExpiry 16).wellFormed = true ∧ (Instr.helloExpiry 17).wellFormed = false := by decide
theorem test_virtual_functions : (Instr.vfEnable 127).wellFormed = true ∧ (Instr.vfEnable 128).wellFormed = false := by decide

/-! Small states -/

/-- The outcome is a next state with a property that can be computed. -/
def nextIs (o : Host.Outcome State Fault Refusal) (p : State → Bool) : Bool := match o with
  | .next t => p t
  | _ => false

/-- The outcome is this next state. -/
def gives (o : Host.Outcome State Fault Refusal) (t : State) : Bool := nextIs o fun u => decide (u = t)

/-- ROOT runs, P0 is up, and the device is at a service level. -/
def up (level : Nat := 2) : State :=
  ({ State.reset with
    now := 5000000000,
    pw := { PowerState.reset with mainUp := true, rootLocked := true, perst0 := false, perst1 := false, booted := true },
    ring := { RingState.reset with p0 := ⟨true, true, none, 4, 8, false⟩ } }).setObj 0x2000 1 0 level

/-- Function 0's page, enabled, with rings of 64 slots. -/
def page : Fn := { Fn.reset 16 with wrBase := 0x10000, wrLog := 6, crBase := 0x20000, crLog := 6, enable := true }

/-- Bytes with little-endian fields at offsets: offset, size, value. -/
def spell (n : Nat) (fs : List (Nat × Nat × Nat)) : List Byte :=
  fs.foldl (fun bs f => overlay bs f.1 (leBytes f.2.1 f.2.2)) (List.replicate n 0)

/-- An entry in flight at an index: its opcode and operand fields. -/
def entry (i op : Nat) (fs : List (Nat × Nat × Nat) := []) : Entry :=
  ⟨i, spell 64 ((0, 1, op) :: (0x3C, 4, i) :: fs), .ready, 0, 0, 0, false, [], []⟩

/-- A state in which function 0 has these entries in flight. -/
def flight (es : List Entry) (s : State := up) : State :=
  s.setFn 0 { page with wrProd := es.length, wrCons := es.length, entries := es }

/-- The CRC of a list, with its value known at each byte. -/
def crcRun (p : Nat) : List Byte → Nat → Nat
  | [], c => c
  | b :: bs, 0 => crcRun p bs (crcByte p 0 b)
  | b :: bs, c + 1 => crcRun p bs (crcByte p (c + 1) b)

theorem crcRun_eq (p : Nat) (bs : List Byte) (c : Nat) : crcRun p bs c = bs.foldl (crcByte p) c := by
  induction bs generalizing c with
  | nil => cases c <;> rfl
  | cons b bs ih => cases c <;> simp [crcRun, ih]

theorem crc_of_run (p : Nat) (bs : List Byte) (v : Nat) (h : bs.foldl (crcByte p) 0xFFFFFFFF = v) : crc32With p bs = v ^^^ 0xFFFFFFFF := by
  unfold crc32With; rw [h]

/-- The bytes that are not zero, by address. -/
def cellsAt (a : Nat) (bs : List Byte) : List Host.Cell := bs.zipIdx.filterMap fun (b, i) => if b = 0 then none else some (a + i, b)

/-! The machine as a whole -/

theorem test_step_front : (({ up with pending := [.nop 0 0, .bypass] } : State).pending = .nop 0 0 :: [.bypass]) ∧
    gives (step { up with pending := [.nop 0 0, .bypass] }) { up with pending := [.bypass] } = true := by decide +kernel
theorem test_idle_ticks : up.running = true ∧ up.pending = [] ∧ up.led.chunkRun = none ∧ (∀ f, (up.fn f).flrAt = none) ∧
    nextIs (step up) (fun t => t.now == up.now + 10000 && t.deviceTime == up.deviceTime + 10) = true :=
  ⟨by decide +kernel, by decide +kernel, by decide +kernel, fun f => by by_cases h : f = 0 <;> simp [up, State.fn, State.setObj, State.reset, RingState.reset, Sparse.get, Fn.default, Fn.reset], by decide +kernel⟩
theorem test_idle_stopped : State.reset.running = false ∧ gives (step State.reset) State.reset = true ∧
    gives (exec (.nop 0 0) State.reset) State.reset = true := by decide +kernel
theorem test_reset_canonical : canonical State.reset := by unfold canonical; decide +kernel
theorem test_counter_saturates : (up.setCtr 0x5600 1 (2 ^ 64 - 1)).ctr 0x5600 1 < 2 ^ 64 ∧
    ((up.setCtr 0x5600 1 (2 ^ 64 - 1)).count 0x5600 1 1).ctr 0x5600 1 = 2 ^ 64 - 1 ∧ (up.count 0x5600 1 3).ctr 0x5600 1 = 3 := by decide +kernel

/-! PCIe functions and the work rings -/

theorem test_nop_ready : ready (flight [entry 0 0x00]) 0 0 (entry 0 0x00) 0x00 := by unfold ready; decide +kernel
theorem test_nop : nextIs (exec (.nop 0 0) (flight [entry 0 0x00])) (fun t => decide ((t.fn 0).crProd = 1 ∧ (t.fn 0).entries = [] ∧
    t.mem.host.readBytes 0x20000 4 = [1, 0, 0, 0])) = true := by decide +kernel
theorem test_fence_ready : ready (flight [entry 0 0x01]) 0 0 (entry 0 0x01) 0x01 := by unfold ready; decide +kernel
theorem test_fence_waits : State.mayStart ({ page with entries := [entry 0 0, entry 1 1] }) (entry 1 1) = false ∧
    gives (exec (.fence 0 1) (flight [entry 0 0, entry 1 1])) (flight [entry 0 0, entry 1 1]) = true := by decide +kernel
theorem test_complete_alone : let s := flight [entry 0 0x00]
    (s.fn 0).entries = [entry 0 0x00] ∧ (s.fn 0).staged = [] ∧ (s.fn 0).room = true ∧ s.ring.p0.up = true ∧ s.obj 0x23C0 9 0 = 0 ∧
    ((s.complete 0 (entry 0 0x00) 0x12 [7]).mem.host.readBytes 0x20000 32 = workRecord 0x12 0 0 [7]) := by decide +kernel
theorem test_fence_blocks : State.mayStart { page with entries := [entry 0 1, entry 1 0] } (entry 0 1) = true ∧
    State.mayStart { page with entries := [entry 0 0, entry 1 2] } (entry 1 2) = true ∧
    entry 0 0 ∈ State.earlier { page with entries := [entry 0 0, entry 1 2] } (entry 1 2) := by decide +kernel
/-- A page with a record in staging and room on its ring, whose last slot comes next. -/
def staged : State := up.setFn 0 { page with staged := [workRecord 0 0 5 []], crProd := 63, crCons := 1 }
theorem test_drain_one : (staged.fn 0).staged = [workRecord 0 0 5 []] ∧ (staged.fn 0).room = true ∧ staged.ring.p0.up = true ∧
    staged.obj 0x23C0 9 0 = 0 ∧ (staged.drainOne 0).mem.host.readBytes (0x20000 + 32 * 63) 32 = workRecord 0 0 5 [] ∧
    ((staged.drainOne 0).fn 0).crProd = 64 := by decide +kernel
/-- Function 0's page alone. -/
def paged (v : Fn := page) : State := up.setFn 0 v
theorem test_wr_prod : paged.running = true ∧ paged.pageOpen 0 = true ∧
    nextIs (exec (.wrProdWrite 0 64 [(0x10000, 5)] []) paged) (fun t => (t.fn 0).wrProd == 64 && !(t.fn 0).prodError && t.mem.host.read 0x10000 == 5) = true := by
  decide +kernel
theorem test_wr_prod_past_full : gives (exec (.wrProdWrite 0 65 [] []) paged) (paged { page with prodError := true }) = true := by decide +kernel
theorem test_cr_cons : let s := paged { page with crProd := 3 }
    s.pageOpen 0 = true ∧ (s.fn 0).enable = true ∧ subMod (2 ^ 32) 3 (s.fn 0).crCons ≤ subMod (2 ^ 32) (s.fn 0).crProd (s.fn 0).crCons ∧
    gives (exec (.crConsWrite 0 3) s) (paged { page with crProd := 3, crCons := 3 }) = true := by decide +kernel
theorem test_cr_cons_past : let s := paged { page with crProd := 3 }
    subMod (2 ^ 32) (s.fn 0).crProd (s.fn 0).crCons < subMod (2 ^ 32) 4 (s.fn 0).crCons ∧
    gives (exec (.crConsWrite 0 4) s) (paged { page with crProd := 3, consError := true }) = true := by decide +kernel
theorem test_cr_arm : gives (exec (.crArmWrite 0 9) paged) (paged { page with armed := some 9 }) = true ∧
    gives (exec (.crArmWrite 0 9) (paged { page with enable := false })) (paged { page with enable := false, consError := true }) = true := by
  decide +kernel
/-- A page with sizes and not enabled. -/
def sized : Fn := { page with enable := false, crLog := 16 }
theorem test_ring_enable : (paged sized).pageOpen 0 = true ∧ (6 ≤ sized.wrLog ∧ sized.wrLog ≤ 16 ∧ 6 ≤ sized.crLog ∧ sized.crLog ≤ 16) ∧
    gives (exec (.ringEnable 0) (paged sized)) (paged { sized with enable := true }) = true := by decide +kernel
theorem test_ring_enable_refused : let v := { sized with wrLog := 5 }
    ¬ (6 ≤ v.wrLog) ∧ gives (exec (.ringEnable 0) (paged v)) (paged { v with ctrlError := true }) = true ∧
    gives (exec (.ringEnable 0) paged) paged = true ∧ gives (exec (.ringDisable 0) (paged sized)) (paged sized) = true := by decide +kernel
theorem test_ring_disable : page.entries = [] ∧ page.staged = [] ∧ page.wrProd = page.wrCons ∧
    gives (exec (.ringDisable 0) paged) (paged { page with enable := false }) = true ∧
    gives (exec (.ringDisable 0) (paged { page with wrProd := 1 })) (paged { page with wrProd := 1, ctrlError := true }) = true := by decide +kernel
theorem test_ring_status : nextIs (exec (.ringStatusRead 0) (paged { page with consError := true, pausedSince := some 1 }))
      (fun t => decide (t.out = [.regRead 0 0x44 0x12]) && !(t.fn 0).consError && (t.fn 0).pausedSince == some 1) = true ∧
    nextIs (exec (.ringStatusRead 0) (paged { page with consError := true, wedged := true })) (fun t => decide (t.out = [.regRead 0 0x44 0])) = true := by
  decide +kernel
theorem test_register_write : gives (exec (.registerWrite 0 0x20 4 7) paged) (paged { page with ctrlError := true }) = true ∧
    gives (exec (.registerWrite 0 0 8 0x123456789) (paged sized)) (paged { sized with wrBase := 0x123456000 }) = true ∧
    gives (exec (.registerWrite 0 0x18 8 0x123456789) (paged sized)) (paged { sized with crBase := 0x123456000 }) = true := by decide +kernel
theorem test_register_sizes : gives (exec (.registerWrite 0 8 4 16) (paged sized)) (paged { sized with wrLog := 16 }) = true ∧
    gives (exec (.registerWrite 0 0x20 4 6) (paged sized)) (paged { sized with crLog := 6 }) = true ∧
    gives (exec (.registerWrite 0 8 2 6) (paged sized)) (paged sized) = true ∧ gives (exec (.registerWrite 0 6 4 6) (paged sized)) (paged sized) = true ∧
    gives (exec (.registerWrite 0 4 8 6) (paged sized)) (paged sized) = true := by decide +kernel
theorem test_mirror : let v := { page with mirror := 0x30001, mirrorDue := some 0, crProd := 0x1234 }
    bit v.mirror 0 = true ∧ nextIs (exec (.crMirrorWrite 0) (paged v)) (fun t => t.mem.host.le 0x30000 4 == 0x1234 && (t.fn 0).mirrorDue == none) = true := by
  decide +kernel
theorem test_msix : let v := { page with armed := some 1, intCtrl := 1, crProd := 2, msix := [(0, 0xFEE00003), (8, 0x41)] }
    bit v.intCtrl 0 = true ∧ v.vectors ≠ 0 ∧ v.crProd ≠ 1 ∧ v.mirrorDue = none ∧ v.lastMessage = none ∧ v.msix.num 12 % 2 = 0 ∧
    nextIs (exec (.msixMessage 0) (paged v)) (fun t => decide (t.out = [.msix 0 0 0xFEE00000 0x41]) && (t.fn 0).armed == none) = true := by decide +kernel
theorem test_msix_holdoff : let v := { page with armed := some 1, intCtrl := 0x10001, crProd := 2, lastMessage := some 4999000001 }
    (paged v).now < 4999000001 + bits v.intCtrl 25 16 * 1000000 ∧ gives (exec (.msixMessage 0) (paged v)) (paged v) = true := by decide +kernel
theorem test_backpressure : let v := { page with pausedSince := some 4000000000, crProd := 64, staged := List.replicate 64 [] }
    (4000000000 + 1000000000 ≤ (paged v).now) ∧ v.pauseRaised = false ∧
    nextIs (exec (.completionBackpressure 0) (paged v)) (fun t => (t.fn 0).backpressure && (t.fn 0).pauseRaised) = true ∧
    gives (exec (.completionBackpressure 0) (paged { v with pauseRaised := true })) (paged { v with pauseRaised := true }) = true := by decide +kernel
/-- Function 0 has one entry to fetch, at the last slot of its ring. -/
def fetching : State := paged { page with wrProd := 64, wrCons := 63 }
theorem test_fetch : fetching.nextServed = some 0 ∧ (fetching.fn 0).copies = [] ∧ fetching.ring.p0.up = true ∧
    fetching.mem.host.hasBad (0x10000 + 64 * 63) 64 = false ∧
    nextIs (exec (.entryFetch 0) (fetching.setHost (fetching.mem.host.writeBytes (0x10000 + 64 * 63) (entry 63 0x00).raw)))
      (fun t => (t.fn 0).wrCons == 64 && decide ((t.fn 0).entries = [entry 63 0x00]) && t.ring.pointer == 1) = true := by decide +kernel
theorem test_fetch_poisoned : let s := fetching.setHost (fetching.mem.host.spoil (0x10000 + 64 * 63 + 63))
    s.nextServed = some 0 ∧ s.mem.host.hasBad (0x10000 + 64 * 63) 64 = true ∧
    nextIs (exec (.entryFetch 0) s) (fun t => (t.line 7).up && t.mem.host.readBytes 0x20000 2 == [1, 0x0B]) = true := by decide +kernel
theorem test_speculative : let s := (paged { page with lap := 64 }).setObj 0x2403 2 0 1
    s.maySpeculate 0 7 = true ∧ s.maySpeculate 0 8 = false ∧ s.mem.host.hasBad (0x10000 + 64 * 7) 64 = false ∧
    nextIs (exec (.speculativeFetch 0 7) s) (fun t => decide ((t.fn 0).copies.map (·.1) = [7])) = true ∧
    gives (exec (.speculativeFetch 0 8) s) s = true := by decide +kernel
theorem test_vf_enable : up.ring.vfEnable = false ∧ nextIs (exec (.vfEnable 127) up) (fun t => t.ring.numVfs == 127 && (t.fn 127).vectors == 15) = true := by
  decide +kernel
theorem test_tlp_error : (up.line 12).up = false ∧ (up.line 12).hold = false ∧
    nextIs (exec (.pcieTlpError 1) up) (fun t => (t.line 12).up) = true ∧
    gives (exec (.pcieTlpError 0) (up.raiseSource 12)) ((up.raiseSource 12).count 0x224C 6 1) = true := by decide +kernel
theorem test_flr : let s := paged { page with entries := [entry 0 0x00] }
    (s.fn 0).wedged = false ∧ nextIs (exec (.flr 0) (s.count 0x5600 4 2)) (fun t => decide (t.fn 0 = Fn.reset 16) && t.ctr 0x5600 4 == 0) = true ∧
    gives (exec (.flr 0) (paged { page with wedged := true })) (paged { page with wedged := true }) = true := by decide +kernel
theorem test_flr_wedges : let v := { Fn.reset 16 with flrAt := some 5000000000 }
    let s := { paged v with now := 105000000000 }
    (5000000000 + 100000000000 ≤ s.now) ∧ (s.line 14).up = false ∧ (s.line 14).hold = false ∧
    nextIs (exec (.flrWedgeTimeout 0) s) (fun t => decide (t.fn 0 = { v with wedged := true }) && (t.line 14).up) = true := by decide +kernel
theorem test_ordering_read : let r : OrderingRead := ⟨3, 0, 0x1000, 0, .pegAdd 0 0⟩
    let s := { flight [entry 0 0x40 [(8, 1, 1)]] with fab := { FabricState.reset with orderings := [r] } }
    s.fab.orderings.find? (·.id == 3) = some r ∧ gives (exec (.orderingReadComplete 3 true) s) (s.orderingDone r true) = true := by decide +kernel
theorem test_fetch_timeout : fetching.wantsFetch 0 = true ∧
    gives (exec (.completionTimeout 0 63) fetching) (fetching.failedFetch 0) = true := by decide +kernel
theorem test_entry_timeout : let e := entry 0 0x31 [(8, 1, 3)]
    let s := flight [e]
    s.fab.orderings = [] ∧ s.wantsFetch 0 = false ∧
    gives (exec (.completionTimeout 0 0) s) ((s.raiseSource 7).complete 0 e 0x0B e.plainResult) = true := by decide +kernel
theorem test_entry_timeout_ready : ready (flight [entry 0 0x31 [(8, 1, 3)]]) 0 0 (entry 0 0x31 [(8, 1, 3)]) 0x31 := by unfold ready; decide +kernel

/-! Device memory, regions, windows and page moves -/

/-- A host region of drawer 0 with every right, of 1 MiB at a bus address. -/
def hostRegion (base : Nat) (owner : Nat := 0) : Region := ⟨true, owner, 5, .bus, 0, base, 0x100000, 31⟩
/-- Regions 0 and 1 of drawer 0 lie in host memory. -/
def regions (s : State) : State := (s.setRegion 0 (hostRegion 0x100000)).setRegion 1 (hostRegion 0x300000)
def regEntry : Entry := entry 0 0x20 [(0x0C, 1, 0), (0x0E, 1, 31), (0x10, 8, 0x1000), (0x18, 8, 0x2000)]
theorem test_reg_region_ready : ready (flight [regEntry]) 0 0 regEntry 0x20 := by unfold ready; decide +kernel
theorem test_reg_region : (flight [regEntry]).freeRegion = some 0 ∧ (flight [regEntry]).regionCount 0 < (flight [regEntry]).obj 0x2300 6 0 ∧
    nextIs (exec (.regRegion 0 0) (flight [regEntry])) (fun t => decide (t.region 0 = ⟨true, 0, 0, .bus, 0, 0x1000, 0x2000, 31⟩) &&
      t.mem.host.readBytes 0x20008 8 == [0, 0, 0, 0, 0, 0, 0, 0]) = true := by decide +kernel
theorem test_reg_region_quota : let s := (flight [regEntry] (regions up)).setObj 0x2300 6 0 2
    s.obj 0x2300 6 0 ≤ s.regionCount 0 ∧ gives (exec (.regRegion 0 0) s) (s.complete 0 regEntry 0x12 []) = true := by decide +kernel
def deregEntry (r : Nat) : Entry := entry 0 0x21 [(8, 4, r)]
theorem test_dereg_ready : ready (flight [deregEntry 1]) 0 0 (deregEntry 1) 0x21 ∧ ready (flight [deregEntry 262144]) 0 0 (deregEntry 262144) 0x21 := by
  unfold ready; decide +kernel
theorem test_dereg : let s := flight [deregEntry 1] (regions up)
    (s.region 1).valid = true ∧ (s.region 1).owner = 0 ∧ s.regionFlights 1 = [] ∧
    nextIs (exec (.deregRegion 0 0) s) (fun t => decide (t.region 1 = { Region.none with generation := 6 } ∧ t.region 0 = s.region 0)) = true := by
  decide +kernel
theorem test_dereg_dva : let s := flight [deregEntry 2] (up.setRegion 2 ⟨true, 0, 255, .dva, 0, 0, 0x10000, 31⟩)
    s.regionFlights 2 = [] ∧ nextIs (exec (.deregRegion 0 0) s) (fun t => (t.region 2).generation == 0 && !(t.region 2).valid) = true := by
  decide +kernel
theorem test_dereg_refused : let s := flight [deregEntry 262144] (regions up)
    gives (exec (.deregRegion 0 0) s) (s.complete 0 (deregEntry 262144) 0x12 (leBytes 4 262144)) = true := by decide +kernel
/-- Drawer 0's tables are valid, chunk 0 is its own, and the leaf of DVA 0x10000 is cached. -/
def mapped (s : State := up) : State :=
  let t := s.setObj 0x2320 1 0 1
  { t with mem := { t.mem with owner := [(0, 128)], leafCache := [⟨0, 0x10000, 0x10000, State.granuleLeaf 0x30000 true, false, []⟩] } }
def advice (kind base len : Nat) (x : List (Nat × Nat × Nat) := []) : Entry :=
  entry 0 0x29 ([(8, 1, kind), (0x10, 8, base), (0x18, 8, len)] ++ x)
theorem test_advise_ready : advising (flight [advice 0 0x10000 1]) 0 0 (advice 0 0x10000 1) 0 ∧
    advising (flight [advice 5 0x10000 0x10000]) 0 0 (advice 5 0x10000 0x10000) 5 := by unfold advising ready; decide +kernel
theorem test_prewalk : ((flight [advice 0 0x1FFFF 1] mapped).walkPages 0 1 0x10000).1 = none ∧
    gives (exec (.advisePrewalk 0 0) (flight [advice 0 0x1FFFF 1] mapped))
      (((flight [advice 0 0x1FFFF 1] mapped).walkPages 0 1 0x10000).2.complete 0 (advice 0 0x1FFFF 1) 0 []) = true := by decide +kernel
theorem test_prewalk_fails : let s := flight [advice 0 0x10000 1]
    (s.walkPages 0 1 0x10000).1 = some .notPresent ∧ gives (exec (.advisePrewalk 0 0) s) (s.complete 0 (advice 0 0x10000 1) 6 []) = true := by
  decide +kernel
theorem test_pin : nextIs (exec (.advisePin 0 0) (flight [advice 1 0x10000 1] mapped)) (fun t => t.mem.leafCache.all (·.pinned)) = true ∧
    nextIs (exec (.adviseUnpin 0 0) ((flight [advice 2 0x10000 1] mapped).setPins 0 0 0x20000 true)) (fun t => t.mem.leafCache.all (!·.pinned)) = true := by
  decide +kernel
theorem test_pin_limit : let c := fun k => CachedLeaf.mk 0 (0x10000 * (k + 1)) 0x10000 (State.granuleLeaf 0x30000 true) true []
    let s0 := flight [advice 1 0x10000 1] mapped
    let s := { s0 with mem := { s0.mem with leafCache := (List.range 1025).map c } }
    1024 < (((s.walkPages 0 1 0x10000).2.setPins 0 0x10000 0x10000 true).mem.leafCache.filter (·.drawer == 0)).length := by decide +kernel
def holdEntry : Entry := advice 3 0x10000 0x10000 [(9, 1, 1)]
theorem test_hold : let s := flight [holdEntry] mapped
    (s.windows 0).length < 64 ∧ (s.granules 0 1 0x10000 []).1 = (none, [State.granuleLeaf 0x30000 true]) ∧
    nextIs (exec (.adviseHold 0 0) s) (fun t => decide (t.windows 0 = [⟨0x10000, 0x10000, 0, true, [State.granuleLeaf 0x30000 true]⟩])) = true := by
  decide +kernel
theorem test_hold_ready : advising (flight [holdEntry] mapped) 0 0 holdEntry 3 := by unfold advising ready; decide +kernel
/-- Drawer 0 holds the window at 0x10000. -/
def windowed (s : State := up) : State := (mapped s).setWindows 0 [⟨0x10000, 0x10000, 0, true, [State.granuleLeaf 0x30000 true]⟩]
theorem test_hold_overlap : let s := flight [advice 3 0 0x20000] windowed
    (s.windows 0).any (fun w => overlaps w.base w.length 0 0x20000) = true ∧
    gives (exec (.adviseHold 0 0) s) (s.complete 0 (advice 3 0 0x20000) 0x12 []) = true := by decide +kernel
theorem test_hold_host_leaf : let s0 := mapped.setRegion 0 (hostRegion 0x100000)
    let s := flight [holdEntry] { s0 with mem := { s0.mem with leafCache := [⟨0, 0x10000, 0x10000, 0xF, false, []⟩] } }
    (s.granules 0 1 0x10000 []).1 = (none, [0xF]) ∧ pteHost 0xF = true ∧ nextIs (exec (.adviseHold 0 0) s) (fun t => t.mem.host.read 0x20001 == 6) = true := by
  decide +kernel
theorem test_release : let s := flight [advice 4 0x10000 0] windowed
    (s.windows 0).any (·.base == 0x10000) = true ∧ s.windowHeld 0 0x10000 = false ∧
    nextIs (exec (.adviseRelease 0 0) s) (fun t => decide (t.windows 0 = [])) = true ∧
    gives (exec (.adviseRelease 0 0) (flight [advice 4 0x10000 0])) ((flight [advice 4 0x10000 0]).complete 0 (advice 4 0x10000 0) 0x12 []) = true := by
  decide +kernel
/-- A page of 16 bytes is being moved for drawer 0. -/
def moving (s : State) (e : Entry) (m : PageMove) : State :=
  let t := flight [e] s
  { t with mem := { t.mem with moves := [m] } }
def pageMove (evict : Bool) (size : Nat := 16) : PageMove := ⟨0, 0x10000 + (0x10000 - size), size, State.granuleLeaf 0x30000 true, 0, 0x100008,
  [.dev 0x30000 size], true, evict, 1, 0x40000, if evict then .bus 0 0x340000 size else .dev 0x40000 size, 0, []⟩
def moveEntry (evict : Bool) (step : Nat) : Entry :=
  { (if evict then advice 5 0x10000 0x10000 [(0x20, 8, 0x40000), (0x28, 4, 1)]
     else entry 0 0x28 [(0x10, 8, 0x10000), (0x18, 8, 0x10000), (0x20, 8, 0x40000)]) with step := step }
theorem test_move_ready : ready (flight [moveEntry false 65520]) 0 0 (moveEntry false 65520) 0x28 := by unfold ready; decide +kernel
theorem test_evict_ready : advising (flight [moveEntry true 65520]) 0 0 (moveEntry true 65520) 5 := by unfold advising ready; decide +kernel
theorem test_prefetch_last_page : let s0 := regions (mapped up)
    let s := moving (s0.setHost (s0.mem.host.writeBytes 0x100008 (leBytes 8 (State.granuleLeaf 0x30000 true)))) (moveEntry false 65520) (pageMove false)
    (s.finishMove (pageMove false)).map (·.2) = some 0 ∧
    nextIs (exec (.prefetch 0 0) s) (fun t => t.mem.moves == [] && t.mem.host.readBytes 0x20000 3 == [1, 0, 0x28]) = true := by decide +kernel
theorem test_evict_next_page : let s0 := regions (mapped up)
    let m : PageMove := { pageMove true with base := 0x10000 }
    let s := moving (s0.setHost (s0.mem.host.writeBytes 0x100008 (leBytes 8 (State.granuleLeaf 0x30000 true)))) (moveEntry true 0) m
    (s.finishMove m).map (·.2) = some 0 ∧ nextIs (exec (.adviseEvict 0 0) s) (fun t => (t.fn 0).entries.map (·.step) == [16]) = true := by decide +kernel
theorem test_evict_fails : let s := moving (mapped up) (moveEntry true 65520) (pageMove true)
    (s.finishMove (pageMove true)).map (·.2) = some 0x12 ∧
    nextIs (exec (.adviseEvict 0 0) s) (fun t => t.mem.host.readBytes 0x20000 2 == [1, 0x12] && t.mem.host.le 0x20010 8 == 0x1FFF0) = true := by decide +kernel
theorem test_invalidate : let e := entry 0 0x2A [(8, 1, 1)]
    let s := flight [e] mapped
    s.rangeFlights 0 0 (2 ^ 48) = [] ∧ nextIs (exec (.invalidate 0 0) s) (fun t => t.mem.leafCache == [] && t.ctr 0x5308 4 == 1) = true := by
  decide +kernel
theorem test_invalidate_waits : let e := entry 0 0x2A [(0x10, 8, 0x10000), (0x18, 8, 0x10000)]
    let s := { flight [e] mapped with fab := { FabricState.reset with copies := [⟨0, 9, [], none, 1, 0, [.dev 0x30000 4], false⟩] } }
    s.rangeFlights 0 0x10000 0x10000 = [.dev 0x30000 4] ∧ (s.dropCached 0 0x10000 0x10000).watched [.dev 0x30000 4] = true ∧
    nextIs (exec (.invalidate 0 0) s) (fun t => (t.fn 0).entries.map (fun x => (x.step, x.watch)) == [(1, [.dev 0x30000 4])]) = true ∧
    nextIs (exec (.invalidate 0 0) (flight [{ e with step := 1, watch := [.dev 0x30000 4] }] mapped)) (fun t => (t.fn 0).entries == [] && t.ctr 0x5308 4 == 1) = true := by
  decide +kernel
/-- A COPY of 4 bytes from region 0 to region 1. -/
def copyEntry : Entry := entry 0 0x02 [(0x08, 8, 0xFFFFC), (0x10, 4, 2 * 2 ^ 30), (0x14, 8, 0), (0x1C, 4, 2 * 2 ^ 30 + 1), (0x20, 8, 4)]
theorem test_copy_ready : ready (flight [copyEntry]) 0 0 copyEntry 0x02 := by unfold ready; decide +kernel
theorem test_copy : let s := (flight [copyEntry] (regions up)).setHost ((Ram.empty).writeBytes 0x1FFFFC [1, 2, 3, 4])
    copyEntry.buf 8 = some (.region 0 0xFFFFC) ∧ copyEntry.buf 0x14 = some (.region 1 0) ∧
    s.resolveBuf 0 (.region 0 0xFFFFC) 4 false true = (.ok [.bus 0 0x1FFFFC 4], s) ∧
    s.resolveBuf 0 (.region 1 0) 4 true true = (.ok [.bus 0 0x300000 4], s) ∧ copyEntry.sig = false ∧
    s.piecesReady [.bus 0 0x1FFFFC 4, .bus 0 0x300000 4] = true ∧ State.piecesMeet [.bus 0 0x1FFFFC 4] [.bus 0 0x300000 4] = false ∧
    s.readPieces [.bus 0 0x1FFFFC 4] = (some [1, 2, 3, 4], s) ∧
    nextIs (exec (.copy 0 0) s) (fun t => t.mem.host.readBytes 0x300000 4 == [1, 2, 3, 4] && (t.fn 0).crProd == 1) = true := by decide +kernel
theorem test_scrub : let s0 := up.setStack 7 { Stack.reset with up := true }
    let s := { s0 with mem := { s0.mem with scrubPos := 6144 * 2 ^ 20 - 2 } }
    s.mem.scrubPos + 1 < 6144 * 2 ^ 20 ∧ stackOf (State.scrubOffset s.mem.scrubPos) = 7 ∧
    nextIs (exec (.scrubAccess true) s) (fun t => t.mem.scrubPos == 6144 * 2 ^ 20 - 1 && t.ctr 0x5307 1 == 1) = true := by decide +kernel
theorem test_scrub_bad : let s := (up.setStack 0 { Stack.reset with up := true }).setDev (Ram.empty.spoil 63)
    s.mem.dev.hasBad (State.scrubOffset 0) 64 = true ∧
    nextIs (exec (.scrubAccess false) s) (fun t => (t.line 7).up && t.ctr 0x5300 3 == 1 && t.obj 0x2A08 3 == t.moduleId * 2 ^ 44) = true := by decide +kernel
theorem test_dereg_waits : let r : OrderingRead := ⟨3, 0, 0x300000, 0, .pegAdd 0 0⟩
    let s0 := flight [deregEntry 1] (regions up)
    let s := { s0 with fab := { s0.fab with orderings := [r] } }
    let e := { deregEntry 1 with step := 1, watch := [.bus 0 0x300000 4] }
    s.regionFlights 1 = [.bus 0 0x300000 4] ∧ (s.invalidateRegion 1).watched [.bus 0 0x300000 4] = true ∧
    gives (exec (.deregRegion 0 0) s) ((s.invalidateRegion 1).setEntry 0 e) = true ∧
    gives (exec (.deregRegion 0 0) (flight [e] (regions up))) ((flight [e] (regions up)).complete 0 e 0 [1, 0, 0, 0]) = true := by decide +kernel
/-- The page at 0x10000 is being moved. -/
def held (e : Entry) (s : State := mapped) : State := moving s e { pageMove false 65536 with entry := 9 }
theorem test_advise_moving : ([advice 0 0x10000 1, advice 1 0x10000 1].all fun e =>
      let s := held e
      let w := s.walkPages 0 1 0x10000
      w.1 == some .moving && gives (exec (if e.u8 8 = 0 then .advisePrewalk 0 0 else .advisePin 0 0) s) (s.moveWait 0 e w.2)) = true ∧
    Tr.moving.ringStatus = none := by decide +kernel
theorem test_hold_refused : let leaf := fun a l => CachedLeaf.mk 0 a 0x10000 l false []
    let with_ (s : State) (ls : List CachedLeaf) (ws : List Window) : State := { s with mem := { s.mem with leafCache := ls, windows := [(0, ws)] } }
    let e2 := advice 3 0x10000 0x20000 [(9, 1, 1)]
    let s1 := with_ (flight [holdEntry] mapped) [leaf 0x10000 (State.granuleLeaf 0x30000 false)] []
    let s2 := with_ (flight [e2] { mapped with mem := { mapped.mem with owner := [(0, 128), (24576, 128)] } }) [leaf 0x10000 (State.granuleLeaf 0x30000 true), leaf 0x20000 (State.granuleLeaf (2 ^ 36) true)] []
    let s3 := with_ (flight [holdEntry] mapped) [leaf 0x10000 (State.granuleLeaf 0x30000 true)] [⟨0x100000, 1048576 * 65536, 0, true, []⟩]
    let s4 := with_ (flight [holdEntry] mapped) [] (List.replicate 64 ⟨0x100000, 65536, 0, true, []⟩)
    nextIs (exec (.adviseHold 0 0) s1) (fun t => t.mem.host.read 0x20001 == 2) = true ∧ s2.mem.leafCache.any (fun c => stackOf (dpaOffset (pteDpa c.leaf)) != 0) = true ∧
    nextIs (exec (.adviseHold 0 0) s2) (fun t => t.mem.host.read 0x20001 == 0x12) = true ∧ s3.mapEntries 0 = 1048576 ∧
    nextIs (exec (.adviseHold 0 0) s3) (fun t => t.mem.host.read 0x20001 == 0x12) = true ∧ (s4.windows 0).length = 64 ∧
    nextIs (exec (.adviseHold 0 0) s4) (fun t => t.mem.host.read 0x20001 == 0x12) = true ∧
    nextIs (exec (.adviseHold 0 0) (flight [holdEntry])) (fun t => t.mem.host.read 0x20001 == 6) = true := by decide +kernel
/-- The tables of drawer 0 lie in region 0: the leaf of 0x10000 is w, and the page is owned. -/
def walked (e : Entry) (w : Nat := State.granuleLeaf 0x30000 true) : State :=
  let t := flight [e] (regions mapped)
  let u := t.setHost (t.mem.host.writeBytes 0x100008 (leBytes 8 w))
  { u with mem := { u.mem with walkCache := [⟨0, 3, 0, 1, []⟩, ⟨0, 2, 0, 1, []⟩, ⟨0, 1, 0, 1, []⟩] } }
theorem test_move_starts : let s := walked (moveEntry false 0)
    let m : PageMove := ⟨0, 0x10000, 0x10000, State.granuleLeaf 0x30000 true, 0, 0x100008, [.dev 0x30000 0x10000], true, false, 0, 0x40000, .dev 0x40000 0x10000, 0, []⟩
    let far := entry 0 0x28 [(0x10, 8, 0x10000), (0x18, 8, 0x10000), (0x20, 8, 2 ^ 40)]
    let fit := s.moveFits 0 0x10000 0x10000 0x40000 2 0
    let s1 := (fit.2.walkLeaf 0 0x10000).2
    (s.walk 0 0x10000).1 = .hit ⟨m.leaf, 0, 0, 0x100008, [0, 0, 0, 0]⟩ ∧ fit.1 = some true ∧ s1.chunksOwned 0 0x30000 0x10000 = true ∧
    (s1.throughLeaf 0 0x10000 0x10000 0x10000 m.leaf false false) = .device 0x30000 ∧ s1.mem.moves = [] ∧ s1.touching 0 0x10000 0x10000 = [] ∧
    s1.handHolds 0 [s1.leafPiece m.leaf 0x10000] = false ∧
    gives (exec (.prefetch 0 0) s) { s1 with mem := { s1.mem with moves := [m] } } = true ∧
    nextIs (exec (.prefetch 0 0) (walked (moveEntry false 0) (State.movedLeaf m))) (fun t => t.mem.moves.isEmpty && t.mem.host.read 0x20001 == 0) = true ∧
    nextIs (exec (.prefetch 0 0) (walked far)) (fun t => t.mem.host.read 0x20001 == 0x0E && t.mem.moves.isEmpty) = true ∧
    nextIs (exec (.prefetch 0 0) (walked (moveEntry false 0) 0)) (fun t => t.mem.host.read 0x20001 == 6 && t.mem.host.le 0x20010 8 == 0x10000) = true := by
  decide +kernel
theorem test_move_waits : let s := { moving (mapped up) (moveEntry false 0) (pageMove false) with ring := { (flight [moveEntry false 0]).ring with p0 := PcieLink.down } }
    s.finishMove (pageMove false) = none ∧ gives (exec (.prefetch 0 0) s) s = true := by decide +kernel
/-- A COPY between DVAs: source, destination, length. -/
def copyDva (a b n : Nat) : Entry := entry 0 0x02 [(0x08, 8, a), (0x10, 4, 2 ^ 30), (0x14, 8, b), (0x1C, 4, 2 ^ 30), (0x20, 8, n)]
theorem test_copy_fails : let s := flight [copyDva 0x20000 0x10000 4] mapped
    let u := flight [copyDva 0x10000 0x20000 4] mapped
    let o := flight [copyDva 0x10000 0x10002 4] mapped
    (copyDva 0x20000 0x10000 4).buf 8 = some (.dva 0x20000) ∧
    nextIs (exec (.copy 0 0) s) (fun t => t.mem.host.read 0x20001 == 2) = true ∧ nextIs (exec (.copy 0 0) u) (fun t => t.mem.host.read 0x20001 == 2) = true ∧
    (o.resolveBuf 0 (.dva 0x10002) 4 true true).1 = .ok [.dev 0x30002 4] ∧ State.piecesMeet [.dev 0x30000 4] [.dev 0x30002 4] = true ∧
    nextIs (exec (.copy 0 0) o) (fun t => t.mem.host.readBytes 0x20000 2 == [1, 0]) = true ∧
    nextIs (exec (.copy 0 0) ((flight [copyDva 0x10000 0x10008 4] mapped).setDev (Ram.empty.spoil 0x30000)))
      (fun t => t.mem.host.read 0x20001 == 0x0B && (t.line 7).up) = true := by decide +kernel
/-- A COPY with a signal to a hub peg that the drawer does not own. -/
theorem test_copy_signal_refused : let e := entry 0 0x02 [(1, 1, 1), (2, 2, 9), (0x08, 8, 0x10000), (0x10, 4, 2 ^ 30), (0x14, 8, 0x10008), (0x1C, 4, 2 ^ 30), (0x20, 8, 4)]
    let s := flight [e] mapped
    e.sig = true ∧ s.ownsPeg 0 e.sigPeg = false ∧ nextIs (exec (.copy 0 0) s) (fun t => (t.fn 0).crProd == 1 && t.mem.host.read 0x20001 == 0x12) = true := by decide +kernel
theorem test_scrub_passed : let s := up.setDev (Ram.empty.spoil 63)
    (s.stack 0).up = false ∧ nextIs (exec (.scrubAccess false) s) (fun t => t.mem.scrubPos == 1 && !(t.line 7).up) = true := by decide +kernel

/-! Pegs -/

theorem test_peg_met : pegMet 5 5 = true ∧ pegMet (2 ^ 31 + 4) 5 = true ∧ pegMet (2 ^ 31 + 5) 5 = false ∧ pegMet 4 5 = false := by decide +kernel
/-- Drawer 0 owns the last peg block; its peg 4095 holds 2^32 − 1. -/
def pegged (s : State := up) : State :=
  let t := s.setObj 0x2340 64 0 128
  { t with cmp := { t.cmp with hubPegs := [(4095, 2 ^ 32 - 1)] } }
def pegEntry (kind v : Nat) (h : Nat := 4095) (x : List (Nat × Nat × Nat) := []) : Entry :=
  entry 0 0x40 ([(8, 1, kind), (0x0A, 2, h), (0x0C, 4, v)] ++ x)
theorem test_peg_ready : ready (flight [pegEntry 0 7]) 0 0 (pegEntry 0 7) 0x40 := by unfold ready; decide +kernel
theorem test_peg_write : (pegged.ownsPeg 0 4095) = true ∧
    nextIs (exec (.pegSetWrite 0 0) (flight [pegEntry 0 7] pegged)) (fun t => t.hubPeg 4095 == 7 && t.mem.host.le 0x2000C 4 == 7) = true := by
  decide +kernel
theorem test_peg_add : let s := flight [pegEntry 1 2] pegged
    s.earlierHas 0 (pegEntry 1 2) Entry.places = false ∧ (s.fn 0).lastBus = [] ∧
    nextIs (exec (.pegSetAdd 0 0) s) (fun t => t.hubPeg 4095 == 1 && t.mem.host.le 0x2000C 4 == 1) = true := by decide +kernel
theorem test_peg_wait : let s := flight [pegEntry 2 (2 ^ 32 - 1)] pegged
    pegMet (s.hubPeg 4095) (2 ^ 32 - 1) = true ∧ nextIs (exec (.pegSetWait 0 0) s) (fun t => t.mem.host.le 0x2000C 4 == 2 ^ 32 - 1) = true := by
  decide +kernel
theorem test_peg_wait_unmet : let s := flight [pegEntry 2 0] pegged
    pegMet (s.hubPeg 4095) 0 = false ∧ (s.cmp.waits.filter (·.fid == 0)).length < 64 ∧
    nextIs (exec (.pegSetWait 0 0) s) (fun t => decide (t.cmp.waits = [⟨0, 0, 4095, 0⟩])) = true := by decide +kernel
theorem test_peg_not_owned : let s := flight [pegEntry 0 7 0]
    s.ownsPeg 0 0 = false ∧ gives (exec (.pegSetWrite 0 0) s) (s.complete 0 (pegEntry 0 7 0) 0x12 [0, 0]) = true := by decide +kernel
def image1 : Image := ⟨1, 0, 0, 0, [0], 0, 8, 65536, 77, 5, [], [], [], 0⟩
def bindEntry (kind h : Nat) : Entry := pegEntry kind 0 h [(0x10, 1, 15), (0x11, 1, 47), (0x12, 2, 0)]
theorem test_bind_ready : ready (flight [bindEntry 3 4095]) 0 0 (bindEntry 3 4095) 0x40 ∧ ready (flight [bindEntry 4 0]) 0 0 (bindEntry 4 0) 0x40 := by
  unfold ready; decide +kernel
theorem test_bind : let s := (flight [bindEntry 3 4095] pegged).setSlot 0 15 (some ⟨image1, 0, []⟩)
    s.slotQuiet 0 (bindEntry 3 4095) 15 = true ∧ s.viewExists 0 (bindEntry 3 4095) = true ∧
    nextIs (exec (.pegSetBind 0 0) s) (fun t => decide (t.cmp.views = [⟨0, 15, 0, 47, 4095⟩])) = true := by decide +kernel
theorem test_unbind : let s0 := (flight [bindEntry 4 0] pegged).setSlot 0 15 (some ⟨image1, 0, []⟩)
    let s := { s0 with cmp := { s0.cmp with views := [⟨0, 15, 0, 47, 4095⟩] } }
    s.viewExists 0 (bindEntry 4 0) = true ∧ nextIs (exec (.pegSetUnbind 0 0) s) (fun t => t.cmp.views == []) = true := by decide +kernel
theorem test_peg_block_owner : let s := { pegged with cmp := { pegged.cmp with waits := [⟨0, 0, 4095, 0⟩], views := [⟨0, 0, 0, 40, 4032⟩] } }
    0 < s.level ∧ s.obj 0x2340 64 = 128 ∧ (s.setObj 0x2300 1 0 2).drawerState 0 = 2 ∧ gives (exec (.hubPegBlockWrite 63 127) s) s = true ∧
    nextIs (exec (.hubPegBlockWrite 63 255) (s.setObj 0x2300 1 0 2)) (fun t => t.obj 0x2340 64 == 255 && t.hubPeg 4095 == 0 && t.cmp.waits == [] &&
      t.cmp.views == []) = true := by decide +kernel

/-! Jobs -/

/-- An image of one bench on stack 0 whose stream is END, of 449 bytes. -/
def imageHead : List Byte := leBytes 32 0x8000000010000000000000000000100000000000001C1010000014A424B51 ++ leBytes 32 0x5000000000000004D00000000000100000000000400000100 ++ List.replicate 188 0
def imageBody : List Byte := leBytes 32 0x1000000000000001800000000000000001 ++
  leBytes 32 0x40000000000000000000000000000001800000000000000003 ++
  leBytes 32 0x1800000000000000004 ++
  leBytes 32 0x100000000000001C00000000000000007 ++
  leBytes 16 0x1000000000000000000000000000000 ++ List.replicate 49 0
def imageBytes : List Byte := imageHead ++ (leBytes 4 3222042270 ++ imageBody)
def loadEntry (slot len : Nat) : Entry := entry 0 0x30 [(8, 1, slot), (0x0C, 8, 0), (0x14, 4, 2 * 2 ^ 30), (0x18, 8, len), (0x20, 8, 0x10000)]
theorem test_load_ready : ready (flight [loadEntry 15 449]) 0 0 (loadEntry 15 449) 0x30 := by unfold ready; decide +kernel
/-- The image lies in region 0, and drawer 0 holds the window of its load area and bench 0. -/
def loading (e : Entry) (bs : List Byte) : State :=
  let t := flight [e] ((regions windowed).setBlob 0x2302 1 0 [128])
  t.setHost (t.mem.host.writeBytes 0x100000 bs)
theorem image_split : overlay imageBytes 0xFC [0, 0, 0, 0] = imageHead ++ ([0, 0, 0, 0] ++ imageBody) := by decide +kernel
theorem image_head : imageHead.foldl (crcByte 0x82F63B78) 0xFFFFFFFF = 906909840 := (crcRun_eq _ _ _).symm.trans (by decide +kernel)
theorem image_body : ([0, 0, 0, 0] ++ imageBody).foldl (crcByte 0x82F63B78) 906909840 = 1072925025 := (crcRun_eq _ _ _).symm.trans (by decide +kernel)
theorem image_crc : leAt imageBytes 0xFC 4 = 3222042270 := by decide +kernel
theorem image_xor : 1072925025 ^^^ 0xFFFFFFFF = 3222042270 := by decide +kernel
theorem image_fold : (imageHead ++ ([0, 0, 0, 0] ++ imageBody)).foldl (crcByte 0x82F63B78) 0xFFFFFFFF = 1072925025 := by
  rw [List.foldl_append, image_head, image_body]
theorem image_sum : crc32With 0x82F63B78 (imageHead ++ ([0, 0, 0, 0] ++ imageBody)) = 1072925025 ^^^ 0xFFFFFFFF := crc_of_run _ _ _ image_fold
theorem image_crc_value : crc32c (imageHead ++ ([0, 0, 0, 0] ++ imageBody)) = 3222042270 := image_sum.trans image_xor
theorem test_image_crc : imageCrcOk imageBytes = true := by
  unfold imageCrcOk
  rw [image_split, image_crc_value, image_crc]
  exact beq_self_eq_true _
theorem image_ok_of (bs : List Byte) (len base : Nat) (ms : List Nat) (h1 : headerOk bs len = true) (h2 : imageCrcOk bs = true)
    (h3 : sectionsOk bs (Image.parse bs) = true) (h4 : rangesOk bs (Image.parse bs) = true) (h5 : descsOf bs (Image.parse bs) = [])
    (h6 : (streamsOf bs (Image.parse bs)).all (fun s => streamOk (Image.parse bs) [] s.2) = true)
    (h7 : (streamsOf bs (Image.parse bs)).foldl (fun p s => p ||| pairingsOf [] s.2) 0 = (Image.parse bs).pairings)
    (h8 : dovetailOk bs (Image.parse bs) [] (streamsOf bs (Image.parse bs)) = true) (h9 : relocsOf bs (Image.parse bs) = []) :
    imageOk bs len base ms = true := by
  simp only [imageOk, h1, h2, h3, h4, h5, h6, h7, h8, h9, List.zipIdx_nil, List.all_nil, beq_self_eq_true, Bool.and_self]
theorem test_image_ok : imageOk imageBytes 449 0x10000 [0] = true :=
  image_ok_of _ _ _ _ (by decide +kernel) test_image_crc (by decide +kernel) (by decide +kernel) (by decide +kernel) (by decide +kernel)
    (by decide +kernel) (by decide +kernel) (by decide +kernel)
theorem test_image_refused : imageOk (overlay imageBytes 0x40 [1]) 449 0x10000 [0] = false := by decide +kernel
theorem test_load : let e := loadEntry 15 449
    let s := loading e []
    s.earlierHas 0 e (fun x => x.opcode == 0x31 && x.u8 8 == e.u8 8) = false ∧ 256 ≤ e.u64 0x18 ∧ e.buf 0x0C = some (.region 0 0) ∧
    (s.setSlot 0 15 none).resolveBuf 0 (.region 0 0) 449 false false = (.ok [.bus 0 0x100000 449], s) ∧ s.piecesReady [.bus 0 0x100000 449] = true ∧
    s.membersOf 0 = [0] ∧ s.enoughBenches 0 (Image.parse imageBytes) = true ∧
    s.coveredBy 0 0x10000 65536 (fun _ => true) = true ∧ s.loadHeld (Image.parse imageBytes) = false ∧
    s.sectionBad 0 0x10000 (Image.parse imageBytes) = none := by decide +kernel
theorem image_read (s : State) (bs : List Byte) (h : s.mem.stale = []) :
    (s.setHost (s.mem.host.writeBytes 0x100000 bs)).readPieces [.bus 0 0x100000 bs.length] =
      (some bs, s.setHost (s.mem.host.writeBytes 0x100000 bs)) := by
  simp [State.readPieces, State.pieceBad, State.busOk, State.busRam, State.setHost, State.pieceStale, h, Ram.hasBad_writeBytes_self]
theorem test_load_refused : nextIs (exec (.loadJob 0 0) (loading (loadEntry 0 255) imageBytes)) (fun t => t.mem.host.readBytes 0x20000 2 == [1, 0x0E]) = true ∧
    nextIs (exec (.loadJob 0 0) (loading (loadEntry 0 449) (overlay imageBytes 0x40 [1]))) (fun t => t.mem.host.readBytes 0x20000 2 == [1, 0x0E]) = true ∧
    ((loading (loadEntry 0 449) imageBytes).setBlob 0x2302 1 0 []).enoughBenches 0 (Image.parse imageBytes) = false := by decide +kernel
def runEntry1 : Entry := entry 0 0x31 [(8, 1, 15), (0x20, 8, 0x10000)]
theorem test_run_ready : ready (flight [runEntry1]) 0 0 runEntry1 0x31 := by unfold ready; decide +kernel
theorem test_run_empty : let s := flight [runEntry1]
    s.slot 0 15 = none ∧ gives (exec (.runJob 0 0) s) (s.complete 0 runEntry1 0x0C runEntry1.plainResult) = true := by decide +kernel
/-- Slot 15 holds an image of one bench. -/
def slotted : State := (loading runEntry1 []).setSlot 0 15 (some ⟨image1, 0x10000, []⟩)
theorem test_run : let k : Slot := ⟨image1, 0x10000, []⟩
    let args := List.replicate 8 (0 : Byte)
    let rs := State.residencyRanges k 0x10000 args
    slotted.obj 0x2800 3 = 0 ∧ slotted.runChecks 0 k = true ∧ slotted.coveredBy 0 0x10000 (State.argSize image1) (fun _ => true) = true ∧
    slotted.windowRange 0 0x10000 (State.argSize image1) = some [.dev 0x30000 8] ∧ slotted.stackHeld [.dev 0x30000 8] = false ∧
    slotted.windowRead 0 0x10000 (State.argSize image1) [.dev 0x30000 8] = (some args, slotted) ∧
    rs.all (fun r => slotted.coveredBy 0 r.1 r.2.1 fun w => r.2.2.1 != 1 || w.writable) = true ∧
    rs.all (fun r => r.2.2.2 == 8 || slotted.coveredBy 0 r.1 r.2.1 fun w => w.stack == r.2.2.2) = true ∧ State.argWord args 0 = 0 ∧
    nextIs (exec (.runJob 0 0) slotted) (fun t => t.cmp.checked.map (·.args) == [args]) = true := by decide +kernel
/-- A job of drawer 0 on bench 0. -/
def job1 : Job := ⟨0, 0, 15, image1, 0x10000, 0x10000, List.replicate 8 0, [0], 0, 5000000000, [], 0, [], none, false, [], [], []⟩
theorem test_dispatch : let j := { job1 with map := [] }
    let s := { slotted with cmp := { slotted.cmp with checked := [j] } }
    s.cmp.checked.find? (fun x => x.fid == 0) = some j ∧ s.job 0 = none ∧ s.enoughBenches 0 image1 = true := by decide +kernel
theorem test_job_complete : let s := (slotted.setJob 0 (some job1)).setBench 0 { Bench.reset with job := some 0, ended := true }
    job1.work = [] ∧ job1.failure = none ∧ s.allEnded job1 = true ∧
    nextIs (exec (.jobComplete 0) s) (fun t => t.job 0 == none && (t.bench 0).job == none && t.mem.host.readBytes 0x20000 2 == [1, 0]) = true := by
  decide +kernel
theorem test_job_deadline : let s := (slotted.setJob 0 (some job1)).setBench 0 { Bench.reset with job := some 0, pc := 3 }
    job1.deadline ≤ s.now ∧ findPos (fun b => !(s.bench b).ended) job1.map = some 0 ∧
    nextIs (exec (.jobDeadlineExpiry 0) s) (fun t => (t.job 0).map (·.failure) == some (some (0x0C, 0, 3))) = true ∧
    gives (exec (.jobDeadlineExpiry 0) (s.setJob 0 (some { job1 with deadline := 5000000001 }))) (s.setJob 0 (some { job1 with deadline := 5000000001 })) = true := by
  decide +kernel
theorem test_peg_add_waits : let copy := copyEntry
    let e := { pegEntry 1 2 with idx := 1 }
    let s := flight [copy, e] pegged
    s.earlierHas 0 e Entry.places = true ∧ gives (exec (.pegSetAdd 0 1) s) s = true := by decide +kernel
theorem test_peg_add_ordered : let s := (flight [pegEntry 1 2] pegged).setFn 0 { (flight [pegEntry 1 2] pegged).fn 0 with lastBus := [⟨2 ^ 32 - 1, 0, 0x2004⟩] }
    let u := s.setFn 0 { s.fn 0 with lastBus := [⟨2 ^ 32 - 1, 1, 0x2004⟩] }
    s.busOk 0 = true ∧ u.busOk 1 = false ∧ nextIs (exec (.pegSetAdd 0 0) s) (fun t => t.fab.orderings.map (fun r => (r.port, r.addr)) == [(0, 0x2000)] && t.hubPeg 4095 == 2 ^ 32 - 1) = true ∧
    gives (exec (.pegSetAdd 0 0) u) ((u.raiseSource 7).complete 0 (pegEntry 1 2) 0x0B (leBytes 2 4095)) = true := by decide +kernel
theorem test_peg_wait_limit : let s := flight [pegEntry 2 0] { pegged with cmp := { pegged.cmp with waits := List.replicate 64 ⟨0, 9, 4095, 1⟩ } }
    pegMet (s.hubPeg 4095) 0 = false ∧ (s.cmp.waits.filter (·.fid == 0)).length = 64 ∧
    gives (exec (.pegSetWait 0 0) s) (s.complete 0 (pegEntry 2 0) 0x12 (leBytes 2 4095)) = true := by decide +kernel
theorem test_bind_refused : let s := flight [bindEntry 3 0] pegged
    let u := flight [bindEntry 4 0] pegged
    let b := (flight [bindEntry 3 4095] pegged).setJob 0 (some ⟨0, 7, 15, image1, 0x10000, 0x10000, [], [0], 0, 0, [], 0, [], none, false, [], [], []⟩)
    s.slotQuiet 0 (bindEntry 3 0) 15 = true ∧ gives (exec (.pegSetBind 0 0) s) (s.complete 0 (bindEntry 3 0) 0x12 [0, 0]) = true ∧
    gives (exec (.pegSetUnbind 0 0) u) (u.complete 0 (bindEntry 4 0) 0x12 [0, 0]) = true ∧
    b.slotQuiet 0 (bindEntry 3 4095) 15 = false ∧ gives (exec (.pegSetBind 0 0) b) b = true := by decide +kernel
theorem test_load_fails : let s := flight [loadEntry 15 449] up
    let u := (loading (loadEntry 15 449) []).setHost (Ram.empty.spoil 0x100000)
    nextIs (exec (.loadJob 0 0) s) (fun t => t.mem.host.readBytes 0x20000 2 == [1, 2]) = true ∧
    nextIs (exec (.loadJob 0 0) u) (fun t => t.mem.host.readBytes 0x20000 2 == [1, 0x0B] && t.slot 0 15 == none) = true := by decide +kernel
theorem test_run_refused : let e := { runEntry1 with stopped := true }
    let k : Slot := ⟨image1, 0x10000, []⟩
    let s := (flight [e] windowed).setSlot 0 15 (some k)
    let w := (flight [runEntry1] ((mapped).setBlob 0x2302 1 0 [128])).setSlot 0 15 (some k)
    gives (exec (.runJob 0 0) s) (s.complete 0 e 0x11 e.plainResult) = true ∧
    (slotted.setBlob 0x2302 1 0 []).runChecks 0 k = false ∧
    nextIs (exec (.runJob 0 0) (slotted.setBlob 0x2302 1 0 [])) (fun t => t.mem.host.readBytes 0x20000 2 == [1, 0x0C]) = true ∧
    w.runChecks 0 k = true ∧ w.coveredBy 0 0x10000 65536 (fun _ => true) = false ∧ gives (exec (.runJob 0 0) w) (w.complete 0 runEntry1 6 runEntry1.plainResult) = true := by decide +kernel
theorem test_dispatch_conditions : let j := { job1 with map := [] }
    let s := { slotted with cmp := { slotted.cmp with checked := [j] } }
    j.entry = 0 ∧ s.slot 0 15 = some ⟨image1, 0x10000, []⟩ ∧ s.runChecks 0 ⟨image1, 0x10000, []⟩ = true ∧
    s.windowRange 0 0x10000 (State.argSize image1) = some [.dev 0x30000 8] ∧ s.stackHeld [.dev 0x30000 8] = false ∧
    (s.windowRead 0 0x10000 (State.argSize image1) [.dev 0x30000 8]).1 = some (List.replicate 8 0) := by decide +kernel
theorem test_job_ends : let j := { job1 with failure := some (0x0C, 0, 3) }
    let w : JobWork := ⟨1, 0, 4⟩
    let s := (slotted.setJob 0 (some j)).setBench 0 { Bench.reset with job := some 0 }
    let u := (slotted.setJob 0 (some job1)).setBench 0 { Bench.reset with job := some 0 }
    let v := (slotted.setJob 0 (some { job1 with work := [w] })).setBench 0 { Bench.reset with job := some 0, ended := true }
    nextIs (exec (.jobComplete 0) s) (fun t => t.job 0 == none && t.mem.host.readBytes 0x20000 2 == [1, 0x0C]) = true ∧
    u.allEnded job1 = false ∧ gives (exec (.jobComplete 0) u) u = true ∧ gives (exec (.jobComplete 0) v) v = true ∧
    nextIs (exec (.jobDeadlineExpiry 0) v) (fun t => (t.job 0).map (·.failure) == some (some (0x0C, w.logical, w.instr))) = true := by decide +kernel

/-! Number formats -/

theorem test_block_scale : scaleExp 0 = some (-127) ∧ scaleExp 0xFE = some 127 ∧ scaleExp 0xFF = none ∧ Fmt.mxint4.blocked = true ∧
    Fmt.mxint4.value 7 0xFE = .fin false 7 125 ∧ Fmt.mxint4.value 7 0xFF = .nan := by decide +kernel
/-- The midpoint below the least odd mantissa goes down, and the one above it up: ties go to even. -/
theorem test_round_ties : toF32 (.fin false (2 ^ 24 + 1) 0) = toF32 (.fin false (2 ^ 24) 0) ∧
    toF32 (.fin false (2 ^ 24 + 3) 0) = toF32 (.fin false (2 ^ 24 + 4) 0) ∧ toF32 (.fin true 1 (-150)) = 0x80000000 ∧
    toF32 (.fin false (2 ^ 25 - 1) 103) = 0x7F800000 := by decide +kernel
theorem test_convert_int : (Fmt.int8.convert (.fin false 5 (-1))).code = 2 ∧ (Fmt.int8.convert (.fin true 7 (-1))).code = 0xFC ∧
    (Fmt.int4.convert (.fin false 8 0)).code = 7 ∧ (Fmt.u32.convert (.inf true)).code = 0 ∧ (Fmt.int32.convert .nan).code = 0 := by decide +kernel

/-! Benches -/

/-- A tensor descriptor: format, location, layout, dimensions, base and the strides that follow from them. -/
def tensor (fmt loc layout : Nat) (dims : List Nat) (base : Nat) (row : Nat := 0) : List Byte :=
  leBytes 8 base ++ leBytes 8 0 ++ (dims ++ List.replicate (4 - dims.length) 1).flatMap (leBytes 4) ++ leBytes 6 row ++ leBytes 6 0 ++ leBytes 6 0 ++
    leBytes 6 0 ++ leBytes 4 0x3F800000 ++ leBytes 4 (fmt + layout * 2 ^ 5 + loc * 2 ^ 8 + (dims.length - 1) * 2 ^ 10)
/-- A bench instruction. -/
def instr (op mode d a b c param imm : Nat) : Nat :=
  op * 2 ^ 120 + mode * 2 ^ 112 + d * 2 ^ 96 + a * 2 ^ 80 + b * 2 ^ 64 + c * 2 ^ 48 + param / 16 * 2 ^ 34 + imm
def none16 : Nat := 0xFFFF
/-- An image of two benches on stack 0 with one instruction each and n descriptors. -/
def image2 (n : Nat) : Image :=
  ⟨1, 0, 0, 0, [0, 0], 0, 8, 65536, 77, 5, [⟨1, 0, 0, 16, 0⟩, ⟨1, 1, 0, 16, 64⟩, ⟨3, 0, 0, 64 * n, 128⟩], [⟨0x12000, 0x6000, 0, 0, 0⟩], [], n⟩
def job2 (n : Nat) : Job := ⟨0, 0, 15, image2 n, 0x10000, 0x18000, List.replicate 8 0, [0, 1], 0, 9000000000, [], 0, [], none, false, [], [⟨0x12000, 0x6000, 0, 0, 0⟩], []⟩
/-- Bench 0 runs an instruction of drawer 0's job with these descriptors; its store holds bytes from offset 0, and its declared range other bytes. -/
def benching (w : Nat) (ds : List (List Byte)) (store : List Byte := []) (s : State := up) (far : List Byte := []) : State :=
  let t := ((flight [entry 0 0x31] (windowed s)).setBlob 0x2302 1 0 [128, 128]).setJob 0 (some (job2 ds.length))
  let u := (t.setStack 0 { Stack.reset with clock := .mhz800, up := true }).setDev
    ⟨cellsAt 0x30000 (leBytes 16 w) ++ cellsAt 0x30080 ds.flatten ++ cellsAt 0x32000 far, [], 0⟩
  (u.setBench 0 { Bench.reset with run := .running, job := some 0, store := ⟨cellsAt 0 store, [], 0⟩ }).setBench 1
    { Bench.reset with run := .running, job := some 0, logical := 1 }
/-- The hypothesis that bench 0 issues the instruction. -/
def issued (w : Nat) (ds : List (List Byte)) (code : Nat) (store : List Byte := []) : Bool :=
  let s := benching w ds store
  s.running && decide (s.mayIssue 0 = some (0, job2 ds.length)) && decide ((s.fetchInstr 0 0 (job2 ds.length)).1.map ofLe = some w) &&
  BenchInstr.op w == code
theorem test_bench_nop : issued 0 [] 0 = true ∧ nextIs (exec (.benchNop 0) (benching 0 [])) (fun t => (t.bench 0).pc == 1) = true := by decide +kernel
def endInstr : Nat := 2 ^ 120
theorem test_bench_end : issued endInstr [] 1 = true ∧
    nextIs (exec (.benchEnd 0) (benching endInstr [])) (fun t => (t.bench 0).ended && (t.bench 0).run == .parked) = true ∧
    gives (exec (.benchNop 0) (benching endInstr [])) (benching endInstr []) = true := by decide +kernel
def loopInstr (n : Nat) : Nat := 2 * 2 ^ 120 + 9 * 2 ^ 64 + n
theorem test_loop : issued (loopInstr 3) [] 2 = true ∧
    nextIs (exec (.benchLoop 0) (benching (loopInstr 3) [])) (fun t => decide ((t.bench 0).loops = [⟨0, 9, 0, 3⟩]) && (t.bench 0).pc == 1) = true ∧
    nextIs (exec (.benchLoop 0) (benching (loopInstr 0) [])) (fun t => decide ((t.bench 0).loops = []) && (t.bench 0).pc == 10) = true := by decide +kernel
theorem test_loop_end : advanceFrom 9 [⟨0, 9, 1, 3⟩] = (1, [⟨0, 9, 2, 3⟩]) ∧ advanceFrom 9 [⟨0, 9, 2, 3⟩] = (10, []) := by decide +kernel
/-- BRANCH on bench peg 3 against an immediate. -/
def branchInstr (cond v : Nat) : Nat := 3 * 2 ^ 120 + cond * 2 ^ 112 + 0x43 * 2 ^ 104 + 7 * 2 ^ 64 + v
theorem test_branch : issued (branchInstr 1 0) [] 3 = true ∧ State.branchTaken 1 0 0 = true ∧ State.branchTaken 3 0 0 = false ∧
    nextIs (exec (.benchBranch 0) (benching (branchInstr 1 0) [])) (fun t => (t.bench 0).pc == 7) = true ∧
    nextIs (exec (.benchBranch 0) (benching (branchInstr 3 0) [])) (fun t => (t.bench 0).pc == 1) = true := by decide +kernel
def pegInstr (op mode tgt p v : Nat) : Nat := op * 2 ^ 120 + mode * 2 ^ 112 + tgt * 2 ^ 100 + p * 2 ^ 90 + v
theorem test_bench_peg_add : issued (pegInstr 8 0 0 47 9) [] 8 = true ∧
    nextIs (exec (.pegAdd 0) (benching (pegInstr 8 0 0 47 9) [])) (fun t => (t.bench 0).pegs.num 47 == 9 && (t.bench 0).pc == 1) = true := by decide +kernel
theorem test_bench_peg_wait : issued (pegInstr 9 0 0 47 0) [] 9 = true ∧
    nextIs (exec (.pegWait 0) (benching (pegInstr 9 0 0 47 0) [])) (fun t => (t.bench 0).pc == 1) = true ∧
    nextIs (exec (.pegWait 0) (benching (pegInstr 9 0 0 47 1) [])) (fun t => (t.bench 0).run == .spin && (t.bench 0).awaits == some (47, 1) && (t.bench 0).pc == 0) = true := by
  decide +kernel
theorem test_bench_peg_signal : issued (pegInstr 0x0A 1 1 2 5) [] 0x0A = true ∧
    nextIs (exec (.pegSignal 0) (benching (pegInstr 0x0A 1 1 2 5) [])) (fun t => (t.bench 1).pegs.num 2 == 5) = true ∧
    nextIs (exec (.pegSignal 0) (benching (pegInstr 0x0A 2 4095 0 5) [] [] pegged)) (fun t => t.hubPeg 4095 == 4) = true ∧
    nextIs (exec (.pegSignal 0) (benching (pegInstr 0x0A 2 4031 0 5) [])) (fun t => (t.job 0).bind (·.failure) == some (0x0C, 0, 0)) = true := by decide +kernel
/-- The kernel's operands are formed and meet its table, they may be read and written, and its result is computed. -/
def kernelOn (s : State) (w n : Nat) (ok : Operands → Bool) (reads : Ops4 → State → List (View × List (Nat × Nat))) (writes : Ops4 → List (Option View))
    (run : Ops4 → State → Option KernelOut) (params : List (Nat × Nat) := []) : Bool :=
  let t := fetched s 0 0 (job2 n)
  match t.operands 0 0 (job2 n) w with
    | .ok o => ok o.descs && (reads o t).all (fun r => t.spansOk 0 0 (job2 n) r.1 r.2 false) &&
      (State.whole (writes o)).all (fun r => t.spansOk 0 0 (job2 n) r.1 r.2 true) && params.all (fun p => storeOk p.1 p.2 false) &&
      !(State.whole (writes o)).any (fun r => t.spansHeld 0 0 r.1 r.2) && decide (t.readsBad 0 0 (reads o t) params = none) && (run o t).isSome
    | _ => false
def kernel (w : Nat) (ds : List (List Byte)) (store : List Byte) (code : Nat) (ok : Operands → Bool) (reads writes : Ops4 → List (Option View))
    (run : Ops4 → State → Option KernelOut) (params : List (Nat × Nat) := []) : Bool :=
  issued w ds code store && kernelOn (benching w ds store) w ds.length ok (fun o _ => State.whole (reads o)) writes run params
def f32s (xs : List Nat) : List Byte := xs.flatMap (leBytes 4)
/-- The FP32 words at offset 0x100 of bench 0's store. -/
def result (t : State) (n : Nat) : List Nat := (List.range n).map fun i => (t.bench 0).store.le (0x100 + 4 * i) 4
def matrix21 (fmt base : Nat) : List Byte := tensor fmt 1 0 [2, 1] base 8
def normInstr : Nat := instr 0x13 0 2 0 1 none16 0 0
def normDescs : List (List Byte) := [matrix21 0 0, tensor 0 1 0 [2] 8, matrix21 0 0x100]
theorem test_norm : kernel normInstr normDescs (f32s [0x40400000, 0x40800000, 0x3F800000, 0x3F800000]) 0x13 (normOk normInstr) (fun o => [o.a, o.b, o.c])
    (fun o => [o.d]) (fun o s => norm o normInstr (s.rdOf 0 0 o.a) (s.rdOf 0 0 o.b) (s.rdOf 0 0 o.c)) = true := by decide +kernel
theorem test_norm_refused : let w := instr 0x13 2 2 0 1 none16 0 0
    issued w normDescs 0x13 = true ∧ nextIs (exec (.norm 0) (benching w normDescs)) (fun t => (t.job 0).bind (·.failure) == some (0x0C, 0, 0)) = true := by
  decide +kernel
def actInstr : Nat := instr 0x14 7 1 0 none16 none16 0 0
theorem test_act : let ds := [matrix21 0 0, matrix21 0 0x100]
    kernel actInstr ds (f32s [0xBF800000, 0x40000000]) 0x14 (actOk actInstr) (fun o => [o.a, o.b, o.c]) (fun o => [o.d])
      (fun o s => act o actInstr (s.rdOf 0 0 o.a) (s.rdOf 0 0 o.b)) = true ∧
    nextIs (exec (.act 0) (benching actInstr ds (f32s [0xBF800000, 0x40000000]))) (fun t => result t 2 == [0, 0x40000000] && (t.bench 0).pc == 1) = true := by
  decide +kernel
theorem test_act_refused : let w := instr 0x14 8 1 0 none16 none16 0 0
    let ds := [matrix21 0 0, matrix21 0 0x100]
    issued w ds 0x14 = true ∧ nextIs (exec (.act 0) (benching w ds)) (fun t => (t.job 0).bind (·.failure) == some (0x0C, 0, 0)) = true := by decide +kernel
def quantInstr : Nat := instr 0x15 0 1 0 none16 none16 0 0
theorem test_quant : let ds := [matrix21 0 0, matrix21 5 0x100]
    kernel quantInstr ds (f32s [0xC3800000, 0x40200000]) 0x15 (fun o => quantOk quantInstr o false) (fun o => [o.a, o.b, o.c]) (fun o => [o.d])
      (fun o s => quant o (s.rdOf 0 0 o.a)) = true ∧
    nextIs (exec (.quant 0) (benching quantInstr ds (f32s [0xC3800000, 0x40200000]))) (fun t => (t.bench 0).store.le 0x100 2 == 0x0280 && t.ctr 0x5400 0x0F == 1) = true := by
  decide +kernel
theorem test_quant_refused : let ds := [matrix21 1 0, matrix21 5 0x100]
    issued quantInstr ds 0x15 = true ∧ nextIs (exec (.quant 0) (benching quantInstr ds)) (fun t => (t.job 0).bind (·.failure) == some (0x0C, 0, 0)) = true := by
  decide +kernel
def dequantInstr : Nat := instr 0x16 0 1 0 none16 none16 0 0
theorem test_dequant : let ds := [matrix21 1 0, matrix21 0 0x100]
    kernel dequantInstr ds (leBytes 4 0xC0003F80) 0x16 (fun o => quantOk dequantInstr o true) (fun o => [o.a, o.b, o.c]) (fun o => [o.d])
      (fun o s => dequant o (s.rdOf 0 0 o.a)) = true ∧
    nextIs (exec (.dequant 0) (benching dequantInstr ds (leBytes 4 0xC0003F80))) (fun t => result t 2 == [0x3F800000, 0xC0000000]) = true := by decide +kernel
theorem test_dequant_refused : let ds := [matrix21 0 0, matrix21 0 0x100]
    issued dequantInstr ds 0x16 = true ∧ nextIs (exec (.dequant 0) (benching dequantInstr ds)) (fun t => (t.job 0).bind (·.failure) == some (0x0C, 0, 0)) = true := by
  decide +kernel
def topkInstr : Nat := instr 0x17 0 1 0 none16 2 0 1
def topkDescs : List (List Byte) := [matrix21 0 0, tensor 0 1 0 [1, 1] 0x100 4, tensor 15 1 0 [1, 1] 0x104 4]
theorem test_topk : kernel topkInstr topkDescs (f32s [0x3F800000, 0x40000000]) 0x17 (topkOk topkInstr) (fun o => [o.a]) (fun o => [o.d, o.c])
      (fun o s => topk o topkInstr (s.rdOf 0 0 o.a)) = true ∧
    nextIs (exec (.topk 0) (benching topkInstr topkDescs (f32s [0x3F800000, 0x40000000]))) (fun t => result t 2 == [0x40000000, 1]) = true := by decide +kernel
theorem test_topk_refused : let w := instr 0x17 0 1 0 none16 2 0 3
    issued w topkDescs 0x17 = true ∧ nextIs (exec (.topk 0) (benching w topkDescs)) (fun t => (t.job 0).bind (·.failure) == some (0x0C, 0, 0)) = true := by
  decide +kernel
def reduceInstr : Nat := instr 0x19 0 1 0 none16 none16 0 2
def reduceDescs : List (List Byte) := [tensor 0 1 0 [2, 2] 0 8, tensor 0 1 0 [2] 0x100]
theorem test_reduce : bit (BenchInstr.mode reduceInstr) 2 = false ∧
    kernel reduceInstr reduceDescs (f32s [0x3F800000, 0x40000000, 0x40400000, 0x40800000]) 0x19 (reduceOk reduceInstr) (fun o => [o.a]) (fun o => [o.d])
      (fun o s => reduce o reduceInstr none (s.rdOf 0 0 o.a)) = true ∧
    nextIs (exec (.reduce 0) (benching reduceInstr reduceDescs (f32s [0x3F800000, 0x40000000, 0x40400000, 0x40800000])))
      (fun t => result t 2 == [0x40800000, 0x40C00000]) = true := by decide +kernel
theorem test_reduce_refused : let w := instr 0x19 3 1 0 none16 none16 0 2
    issued w reduceDescs 0x19 = true ∧ nextIs (exec (.reduce 0) (benching w reduceDescs)) (fun t => (t.job 0).bind (·.failure) == some (0x0C, 0, 0)) = true := by
  decide +kernel
def matvecInstr : Nat := instr 0x10 0 2 0 1 none16 0 0
/-- A TILE_MAJOR BF16 matrix of one tile, an activation row and a result. -/
def matvecDescs : List (List Byte) := [tensor 1 1 1 [96, 3] 0x1000, tensor 1 1 0 [96, 1] 0x2000 192, tensor 0 1 0 [3, 1] 0x100 12]
theorem test_matvec : kernel matvecInstr matvecDescs [] 0x10 (matvecOk matvecInstr) (fun o => [o.a, o.b, o.c]) (fun o => [o.d])
    (fun o s => matvec o matvecInstr (s.rdOf 0 0 o.a) (s.rdOf 0 0 o.b) (s.rdOf 0 0 o.c)) = true := by decide +kernel
def gatherInstr (mode : Nat) : Nat := instr 0x12 mode 2 0 1 none16 0 0
def gatherDescs : List (List Byte) := [tensor 0 0 0 [2, 2] 0x12000 8, tensor 16 1 0 [1] 0x10, tensor 0 1 0 [2, 1] 0x100 8]
theorem test_gather : let ds := gatherDescs
    kernel (gatherInstr 0) ds (f32s [0, 0, 0, 0, 1]) 0x12 (gatherOk (gatherInstr 0)) (fun o => [o.a, o.b]) (fun o => [o.d])
      (fun o s => gather o false (s.rdOf 0 0 o.a) (s.rdOf 0 0 o.b)) = true ∧
    nextIs (exec (.gather 0) (benching (gatherInstr 0) ds (f32s [0, 0, 0, 0, 1]) up (f32s [1, 2, 3, 4]))) (fun t => result t 2 == [3, 4]) = true ∧
    nextIs (exec (.gather 0) (benching (gatherInstr 1) ds (f32s [0, 0, 0, 0, 2]) up (f32s [1, 2, 3, 4]))) (fun t => result t 2 == [0, 0] && (t.bench 0).pc == 1) = true := by
  decide +kernel
def attendInstr : Nat := instr 0x11 0 3 0 1 2 0x40 0
/-- Queries, a pool of one page of 96 tokens, its page list, and the result. -/
def attendDescs : List (List Byte) :=
  [tensor 3 1 0 [64, 1] 0x1000 64, tensor 3 0 2 [64, 96, 1] 0x12000, tensor 16 1 0 [1] 0x20, tensor 0 1 0 [64, 1] 0x100 256]
/-- ATTEND's parameters: scale 1, one head of 64, one token, no window. -/
def attendParam : List Byte := List.replicate 64 0 ++ leBytes 4 0x3F800000 ++ leBytes 2 1 ++ leBytes 2 64 ++ leBytes 4 1 ++ leBytes 4 0
theorem test_attend : let s := benching attendInstr attendDescs attendParam
    issued attendInstr attendDescs 0x11 attendParam = true ∧
    kernelOn s attendInstr 4 (attendOk attendInstr)
      (fun o t => match o with
        | ⟨_, some a, some b, some c⟩ => [(a, a.spans), (c, [(c.base, 4)]), (b, [(b.base + unpack (t.rdOf 0 0 o.c) c.base .u32 0 * b.d.pageBytes, valScales b.d)])]
        | _ => []) (fun o => [o.d])
      (fun o t => attend o (ofF32 0x3F800000) 1 0 (t.rdOf 0 0 o.a) (t.rdOf 0 0 o.b) (t.rdOf 0 0 o.c) (t.drawn + 1)) [(0x40, 16)] = true ∧
    (match (fetched s 0 0 (job2 4)).operands 0 0 (job2 4) attendInstr with
      | .ok ⟨_, some a, some b, some c⟩ => b.base % 256 == 0 && b.d.dim 2 == 1 && a.d.dim 0 == 64 && a.d.dim 1 == 1 && c.d.dim 0 == 1 && b.d.dim 1 == 96 && !b.d.fmt.blocked &&
        unpack ((fetched s 0 0 (job2 4)).rdOf 0 0 (some c)) c.base .u32 0 == 0
      | _ => false) = true ∧ storeOk (BenchInstr.param attendInstr) 16 false = true ∧ (ofF32 (leAt (s.paramAt 0 attendInstr 16) 0 4)).isFinite = true ∧
    leAt (s.paramAt 0 attendInstr 16) 4 2 = 1 ∧ leAt (s.paramAt 0 attendInstr 16) 6 2 = 64 := by decide +kernel
def sampleInstr : Nat := instr 0x18 3 2 0 1 none16 0x40 0
/-- Two logits, one generator state, and the token. -/
def sampleDescs : List (List Byte) := [matrix21 0 0, tensor 16 1 0 [4, 1] 0x10 16, tensor 15 1 0 [1] 0x100]
def sampleStore : List Byte := f32s [0x3F800000, 0x40000000] ++ List.replicate 8 0 ++ f32s [5, 6, 0xFFFFFFFF, 7] ++ List.replicate 32 0 ++
  f32s [0x3F800000, 0x3F800000, 0, 0]
theorem test_sample : let it := ofF32 0x3F800000
    kernel sampleInstr sampleDescs sampleStore 0x18 (sampleOk sampleInstr) (fun o => [o.a, o.b, o.c]) (fun o => [o.d, o.b])
      (fun o s => sample o sampleInstr ⟨it, it, 0, true⟩ (s.rdOf 0 0 o.a) (s.rdOf 0 0 o.b) (s.rdOf 0 0 o.c)) = true ∧
    (it.isFinite && !it.isNeg && !it.isZero) = true ∧ fgt it Fp.one = false ∧ toF32 it = 0x3F800000 ∧
    nextIs (exec (.sample 0) (benching sampleInstr sampleDescs sampleStore)) (fun t => result t 1 == [1] && (t.bench 0).store.le 0x10 16 == 5 + 6 * 2 ^ 32 + 8 * 2 ^ 96) = true := by
  decide +kernel

/-! MOVE and SEND -/

/-- MOVE of two words, with a signal kind, a target and a peg. -/
def moveInstr (sig target p : Nat) : Nat := instr 0x1A 0 1 0 none16 none16 0 (sig * 2 ^ 30 + target * 2 ^ 18 + p * 2 ^ 12)
def moveDescs : List (List Byte) := [matrix21 0 0, matrix21 0 0x100]
def moveKernel (w : Nat) : Bool :=
  kernel w moveDescs (f32s [7, 8]) 0x1A (moveOk ⟨2, 8, 0, [], [], 0⟩ w) (fun o => [o.a]) (fun o => [o.d]) (fun _ _ => some { writes := [], nans := 0, sats := 0 })
theorem test_move : moveKernel (moveInstr 0 0 0) = true ∧
    nextIs (exec (.move 0) (benching (moveInstr 0 0 0) moveDescs (f32s [7, 8]))) (fun t => result t 2 == [7, 8] && (t.bench 0).pc == 1) = true := by decide +kernel
theorem test_move_signals : moveKernel (moveInstr 1 1 47) = true ∧ moveKernel (moveInstr 2 4095 0) = true ∧
    nextIs (exec (.move 0) (benching (moveInstr 1 1 47) moveDescs (f32s [7, 8]))) (fun t => (t.bench 1).pegs.num 47 == 1) = true ∧
    nextIs (exec (.move 0) (benching (moveInstr 2 4095 0) moveDescs (f32s [7, 8]) pegged)) (fun t => t.hubPeg 4095 == 0) = true := by decide +kernel
theorem test_move_refused : issued (moveInstr 1 1 48) moveDescs 0x1A = true ∧
    nextIs (exec (.move 0) (benching (moveInstr 1 1 48) moveDescs)) (fun t => (t.job 0).bind (·.failure) == some (0x0C, 0, 0)) = true := by decide +kernel
/-- A MOVE to another module, whose destination a range of kind 2 declares. -/
def farImage : Image := { image2 2 with ranges := [⟨3 * 2 ^ 44, 0x1000, 2, 0xFF, 0⟩] }
def farState : State :=
  (benching (moveInstr 0 0 0) [matrix21 0 0, tensor 0 2 0 [2, 1] (3 * 2 ^ 44) 8] (f32s [7, 8])).setJob 0 (some { job2 2 with image := farImage, ranges := farImage.ranges })
theorem test_move_far : let j := { job2 2 with image := farImage, ranges := farImage.ranges }
    (match farState.operands 0 0 j (moveInstr 0 0 0) with
      | .ok ⟨some d, some a, none, none⟩ => d.d.loc == 2 && farState.spansOk 0 0 j d d.moveSpans true && farState.spansOk 0 0 j a a.moveSpans false
      | _ => false) = true ∧
    nextIs (exec (.move 0) farState) (fun t => (t.job 0).bind (·.failure) == some (9, 0, 0) && (t.bench 0).pc == 1 && t.ctr 0x5288 2 == 1) = true := by decide +kernel
def sendInstr : Nat := instr 0x1B 0 none16 0 none16 none16 0x40 0
def sendStore : List Byte := f32s [7, 8] ++ List.replicate 56 0 ++ [3, 0, 0, 0, 1, 0, 0, 0] ++ List.replicate 8 0 ++ leBytes 8 0x10 ++ leBytes 8 0
theorem test_send : kernel sendInstr [matrix21 0 0] sendStore 0x1B (sendOk sendInstr) (fun o => [o.a]) (fun _ => []) (fun _ _ => some { writes := [], nans := 0, sats := 0 }) [(0x40, 32)] = true ∧
    (SendParam.parse ((benching sendInstr [matrix21 0 0] sendStore).paramAt 0 sendInstr 32)).ok = true ∧
    nextIs (exec (.send 0) (benching sendInstr [matrix21 0 0] sendStore (regions up))) (fun t => t.mem.host.readBytes 0x300010 8 == f32s [7, 8] && (t.bench 0).pc == 1) = true ∧
    nextIs (exec (.send 0) (benching sendInstr [matrix21 0 0] (f32s [7, 8]))) (fun t => (t.job 0).bind (·.failure) == some (0x0C, 0, 0)) = true := by decide +kernel

/-! Waits, wakes and refresh -/

theorem test_bench_parity : ((benching 0 []).bench 0).job = some 0 ∧
    nextIs (exec (.benchParityError 0) (benching 0 [])) (fun t => (t.job 0).bind (·.failure) == some (0x0B, 0, 0) && t.ctr 0x5400 0x10 == 1 && (t.line 7).up) = true := by
  decide +kernel
/-- Stack 0 has run for so many sixty-fourths of a cycle. -/
def ran (n : Nat) : State := (benching 0 []).setStack 0 { Stack.reset with clock := .mhz800, up := true, run64 := n, cycleAt := 5000000000 }
def spinning (since : Nat) : State := (ran 10000).setBench 0 { Bench.reset with run := .spin, spinSince := since, awaits := some (3, 1), job := some 0 }
theorem test_spin_timeout : 5904 + 64 * 64 ≤ (spinning 5904).run64 0 ∧
    nextIs (exec (.spinTimeout 0) (spinning 5904)) (fun t => (t.bench 0).run == .gated) = true ∧
    gives (exec (.spinTimeout 0) (spinning 5905)) (spinning 5905) = true := by decide +kernel
theorem test_wake_grant : let s := (benching 0 []).setStack 0 { Stack.reset with clock := .mhz800, run64 := 9, cycleAt := 5000000000, wakes := [(63, 7)], grants := List.replicate 7 5000000000 }
    ((s.stack 0).grants.filter fun g => s.now < g + 256250).length < 8 ∧
    nextIs (exec (.wakeGrant 0) s) (fun t => (t.bench 63).granted == some 9 && decide ((t.stack 0).wakes = [])) = true ∧
    gives (exec (.wakeGrant 0) { s with now := 5000000001, cmp := { s.cmp with stk := [(0, { s.stack 0 with grants := List.replicate 8 5000000000 })] } })
      { s with now := 5000000001, cmp := { s.cmp with stk := [(0, { s.stack 0 with grants := List.replicate 8 5000000000 })] } } = true := by decide +kernel
/-- A combining step asked before the bench and is granted first. -/
theorem test_wake_help : let s := (benching 0 []).setStack 0 { Stack.reset with clock := .mhz800, wakes := [(63, 7)], helps := [(5, 6)] }
    State.nextGrant (s.stack 0) = some (5, 6, true) ∧
    nextIs (exec (.wakeGrant 0) s) (fun t => (t.stack 0).helped == [5] && (t.stack 0).helps == [] && (t.bench 63).granted == none) = true ∧
    gives (exec (.wakeGrant 0) (s.setStack 0 { s.stack 0 with clock := .stopped })) (s.setStack 0 { s.stack 0 with clock := .stopped }) = true := by decide +kernel
def woken (g : Nat) (awaits : Option (Nat × Nat)) : State :=
  (ran 10000).setBench 0 { Bench.reset with run := (if awaits.isSome then .gated else .parked), granted := some g, awaits := awaits, job := some 0, wakeAsked := true }
theorem test_bench_wake : 8976 + 16 * 64 ≤ (woken 8976 none).run64 0 ∧
    nextIs (exec (.benchWake 0) (woken 8976 none)) (fun t => (t.bench 0).run == .running && (t.bench 0).granted == none) = true ∧
    gives (exec (.benchWake 0) (woken 8977 none)) (woken 8977 none) = true ∧ pegMet ((woken 8976 (some (3, 0))).pegValue 0 3) 0 = true ∧
    nextIs (exec (.benchWake 0) (woken 8976 (some (3, 0)))) (fun t => (t.bench 0).run == .running && (t.bench 0).pc == 1) = true := by decide +kernel
theorem test_refresh : let s := (benching 0 []).setStack 0 { Stack.reset with clock := .mhz800, up := true, hot := true, turn := [(63, 11)] }
    s.refreshDue 63 11 = true ∧ s.refreshDue 63 10 = false ∧ gives (exec (.refresh 63 10) s) s = true ∧ (s.stack 0).refreshed.num (63 * 12 + 11) = 0 ∧
    nextIs (exec (.refresh 63 11) s) (fun t => (t.stack 0).refreshed.num 767 == s.now + 1 && (t.stack 0).bankHot.num 767 == 1) = true := by decide +kernel
theorem test_passes : let s := benching matvecInstr matvecDescs []
    (match (fetched s 0 0 (job2 3)).operands 0 0 (job2 3) matvecInstr with
      | .ok ⟨_, some a, some b, none⟩ => passCount a b == 1
      | _ => false) = true := by decide +kernel
def gainInstr : Nat := instr 0x19 4 1 0 none16 none16 0x40 2
theorem test_reduce_apply : let st := f32s [0x3F800000, 0x40000000, 0x40400000, 0x40800000] ++ List.replicate 48 0 ++ f32s [0x40000000, 0x3F800000]
    bit (BenchInstr.mode gainInstr) 2 = true ∧
    kernel gainInstr reduceDescs st 0x19 (reduceOk gainInstr) (fun o => [o.a]) (fun o => [o.d])
      (fun o s => reduce o gainInstr (some (ofF32 0x40000000)) (s.rdOf 0 0 o.a)) [(0x40, 8)] = true ∧
    nextIs (exec (.reduce 0) (benching gainInstr reduceDescs st)) (fun t => result t 2 == [0x41000000, 0x41400000]) = true := by decide +kernel
theorem test_kernel_faults :
    nextIs (exec (.gather 0) (benching (gatherInstr 0) gatherDescs (f32s [0, 0, 0, 0, 2]))) (fun t => (t.job 0).bind (·.failure) == some (0x0C, 0, 0)) = true ∧
    nextIs (exec (.attend 0) (benching attendInstr attendDescs (attendParam.set 0x20 1))) (fun t => (t.job 0).bind (·.failure) == some (0x0C, 0, 0)) = true ∧
    nextIs (exec (.sample 0) (benching sampleInstr sampleDescs (sampleStore.set 0x4C 1))) (fun t => (t.job 0).bind (·.failure) == some (0x0C, 0, 0)) = true := by decide +kernel
/-- Bad parity in the first word that a MOVE or a SEND reads. -/
def badStore (w : Nat) (ds : List (List Byte)) (store : List Byte) : State :=
  let s := benching w ds store
  s.setBench 0 { s.bench 0 with store := (s.bench 0).store.spoil 0 }
theorem test_move_parity : nextIs (exec (.move 0) (badStore (moveInstr 0 0 0) moveDescs (f32s [7, 8]))) (fun t => (t.job 0).bind (·.failure) == some (0x0B, 0, 0)) = true ∧
    nextIs (exec (.send 0) (badStore sendInstr [matrix21 0 0] sendStore)) (fun t => (t.job 0).bind (·.failure) == some (0x0B, 0, 0)) = true := by decide +kernel
theorem test_move_held : let far := tensor 0 0 0 [2, 1] 0x20000 8
    let s0 := benching (moveInstr 0 0 0) [matrix21 0 0, far] (f32s [7, 8])
    let s1 := s0.setWindows 0 (s0.windows 0 ++ [⟨0x20000, 0x10000, 1, true, [State.granuleLeaf (2 ^ 36) true]⟩])
    let s := { s1 with mem := { s1.mem with owner := [(0, 128), (24576, 128)] } }.setStack 1 { Stack.reset with lost := true }
    let u := s.setJob 0 (some { job2 2 with ranges := [⟨0x20000, 0x1000, 1, 1, 0⟩] })
    u.stackHeld [.dev (2 ^ 36) 8] = true ∧ gives (exec (.move 0) u) u = true ∧
    nextIs (exec (.move 0) (u.setStack 1 Stack.reset)) (fun t => t.mem.dev.le (2 ^ 36) 8 == 7 + 8 * 2 ^ 32) = true := by decide +kernel
theorem test_peg_signal_waits : let w := pegInstr 0x0A 1 1 2 5
    let s := benching w []
    let op : CopyOp := ⟨128, 1, [⟨0, ⟨128, 1⟩, false, 0, 0, 8, 0, 0x40000, 4, [1, 2, 3, 4], [], none, 0, 0, false, none, 0⟩], none, 0, 0, [], false⟩
    let j := { job2 0 with work := [⟨0, 0, 1⟩] }
    let u := { (s.setJob 0 (some j)) with fab := { s.fab with held := [⟨3, 9000000000, op⟩] } }
    u.movesHere 0 0 j = true ∧ gives (exec (.pegSignal 0) u) u = true := by decide +kernel
theorem test_loop_forms : let w := loopInstr 0 + 2 ^ 112 + 2 ^ 32
    let args := List.replicate 8 (0 : Byte) ++ [3, 0, 0, 0, 0, 0, 0, 0]
    let s := (benching w []).setJob 0 (some { job2 0 with args := args })
    BenchInstr.mode w = 1 ∧ bits w 36 32 = 1 ∧ s.windowBad 0 8 8 = false ∧ nextIs (exec (.benchLoop 0) s) (fun t => (t.bench 0).loops == [⟨0, 9, 0, 3⟩]) = true ∧
    State.branchTo { Bench.reset with loops := [⟨0, 9, 0, 3⟩] } 10 = { Bench.reset with pc := 10, loops := [] } ∧
    State.branchTo { Bench.reset with loops := [⟨0, 9, 0, 3⟩] } 4 = { Bench.reset with pc := 4, loops := [⟨0, 9, 0, 3⟩] } := by decide +kernel
theorem test_wake_unmet : pegMet ((woken 8976 (some (3, 1))).pegValue 0 3) 1 = false ∧
    nextIs (exec (.benchWake 0) (woken 8976 (some (3, 1)))) (fun t => (t.bench 0).run == .spin && (t.bench 0).spinSince == 10000) = true := by decide +kernel

/-! Derone -/

/-- Sets numeric objects: index, subindex, value. -/
def withObjs (s : State) (os : List (Nat × Nat × Nat)) : State := os.foldl (fun t o => t.setObj o.1 o.2.1 0 o.2.2) s
/-- D port 7 in a link state, enabled. -/
def port7 (st : Nat) : State := withObjs up [(0x280F, 1, 1), (0x280F, 2, st), (0x280F, 3, 9)]
theorem test_derone_training : (port7 1).obj 0x280F 2 = 1 ∧ (port7 1).obj 0x280F 1 ≠ 0 ∧ 9 ≠ up.moduleId ∧
    nextIs (exec (.deroneTrainingDone 7 9 3) (port7 1)) (fun t => t.obj 0x280F 2 == 2 && t.obj 0x280F 3 == 9 && t.obj 0x280F 4 == 3) = true ∧
    nextIs (exec (.deroneTrainingDone 7 0 3) (port7 1)) (fun t => t.obj 0x280F 2 == 4) = true ∧
    gives (exec (.deroneTrainingDone 7 9 3) (port7 0)) (port7 0) = true := by decide +kernel
theorem test_derone_down : nextIs (exec (.deroneLinkDown 7) (port7 2)) (fun t => t.obj 0x280F 2 == 3 && (t.line 9).up && t.ctr 0x5287 0x0B == 1) = true ∧
    gives (exec (.deroneLinkDown 7) (port7 1)) (port7 1) = true := by decide +kernel
theorem test_derone_degraded : (port7 2).fab.degraded.num 7 ≠ (port7 2).now / 1000000000000 + 1 ∧
    nextIs (exec (.deroneDegraded 7) (port7 2)) (fun t => t.fab.degraded.num 7 == 1 && gives (exec (.deroneDegraded 7) t) t) = true := by decide +kernel
theorem test_derone_enable : 0 < (port7 2).level ∧ nextIs (exec (.deroneLinkEnableWrite 7 0) (port7 2)) (fun t => t.obj 0x280F 2 == 0 && t.obj 0x280F 1 == 0) = true ∧
    nextIs (exec (.deroneLinkEnableWrite 7 1) (withObjs (port7 0) [(0x280F, 1, 0)])) (fun t => t.obj 0x280F 2 == 1) = true ∧
    gives (exec (.deroneLinkEnableWrite 7 2) (port7 2)) (port7 2) = true := by decide +kernel
/-- A route state. -/
def routed (st : Nat) : State := withObjs up [(0x2800, 3, st)]
theorem test_route_drain : gives (exec .routeDrain (routed 0)) (routed 1) = true ∧ gives (exec .routeDrain (routed 3)) (routed 3) = true ∧
    (routed 1).deroneIdle (routed 1).handsOut = true ∧ gives (exec .routeDrained (routed 1)) (routed 2) = true := by decide +kernel
theorem test_route_abort : gives (exec .routeAbort (routed 1)) (routed 0) = true ∧ gives (exec .routeAbort (routed 2)) (routed 0) = true ∧
    gives (exec .routeResume (routed 3)) (routed 0) = true ∧ gives (exec .routeResume (routed 2)) (routed 2) = true := by decide +kernel
/-- A staged table that leads every other module to port 0, and its epoch. -/
def stagedRoutes (epoch : Nat) : State := ((routed 2).setBlob 0x2801 2 0 (8 :: List.replicate 255 0)).setObj 0x2801 3 0 epoch
theorem test_route_swap : (stagedRoutes 1).stagedOk = true ∧ (stagedRoutes 256).stagedOk = false ∧
    nextIs (exec .routeSwap (stagedRoutes 1)) (fun t => t.obj 0x2800 3 == 3 && t.obj 0x2800 2 == 1 && t.routeEntry 5 == 0 && t.routeEntry 0 == 8) = true ∧
    gives (exec .routeSwap (stagedRoutes 256)) (stagedRoutes 256) = true := by decide +kernel
/-- Packet of a kind from module 9, to be altered. -/
def packet (kind : Nat) : Packet :=
  { kind := kind, vc := (if kind = 0 ∨ kind = 2 then 0 else 1), first := true, last := true, sig := false, dst := 0, src := 9, drawer := 0, epoch := 0,
    len := (if kind = 0 ∨ kind = 2 then 4 else 0), hops := 0, id := 5, index := 0, addr := (if kind ≤ 1 then 0x30000 else 0),
    info := (if kind = 1 ∨ kind = 4 then 4 else 0), payload := (if kind = 0 ∨ kind = 2 then [1, 2, 3, 4] else []) }
theorem test_packet_parse : (List.range 5).all (fun k => Packet.parse (packet k).bytes == some (packet k)) = true := by decide +kernel
/-- Port 7 is UP, the table leads module 9 through it, and accept window 63 admits module 9 to drawer 0's chunk 0. -/
def fabric : State :=
  let t := withObjs (mapped (port7 2)) [(0x285F, 1, 1), (0x285F, 2, 0), (0x285F, 3, 9), (0x285F, 5, 0xFF), (0x285F, 6, 0x30000), (0x285F, 7, 4), (0x285F, 8, 3)]
  { t with fab := { t.fab with active := 8 :: List.replicate 8 0xFF ++ [7] } }
theorem test_rx_write : fabric.portUp 7 = true ∧ fabric.arrival 9 0 0x30000 4 true = some 0 ∧ fabric.landingOf 0 0x30000 = false ∧
    (packet 0).payload ≠ [] ∧ fabric.stackHeld [.dev 0x30000 4] = false ∧
    nextIs (exec (.deroneRxWrite 7 (packet 0).bytes) fabric) (fun t => t.mem.dev.readBytes 0x30000 4 == [1, 2, 3, 4] && t.mem.dev.read 0x30004 == 0 &&
      t.out.length == 1) = true := by decide +kernel
theorem test_rx_write_refused : fabric.arrival 9 0 0x30001 4 true = none ∧
    nextIs (exec (.deroneRxWrite 7 { packet 0 with addr := 0x30001 }.bytes) fabric) (fun t => t.mem == fabric.mem && t.ctr 0x5288 8 == 1 && t.ctr 0x5288 5 == 1) = true := by
  decide +kernel
theorem test_rx_read_req : fabric.arrival 9 0 0x30000 4 false = some 0 ∧
    nextIs (exec (.deroneRxReadReq 7 (packet 1).bytes) fabric) (fun t => t.out.length == 1 && t.ctr 0x5287 3 == 1) = true := by decide +kernel
/-- A transfer to module 9 that is outstanding. -/
def xfer5 (read : Bool) : Xfer := ⟨5, ⟨0, 0⟩, read, 0, 9, 8, 0, 9 * 2 ^ 44, 4, [1, 2, 3, 4], [.dev 0x30000 4], none, 1000000000, 4000000000, false, none, 0⟩
def waiting (x : Xfer) : State := { fabric with fab := { fabric.fab with xfers := [x] } }
theorem test_rx_read_resp : (waiting (xfer5 true)).findXfer 5 = some (xfer5 true) ∧ (waiting (xfer5 true)).stackHeld [.dev 0x30000 4] = false ∧
    nextIs (exec (.deroneRxReadResp 7 (packet 2).bytes) (waiting (xfer5 true))) (fun t => t.mem.dev.readBytes 0x30000 4 == [1, 2, 3, 4] && t.fab.xfers.isEmpty) = true := by
  decide +kernel
theorem test_rx_ack_nak : nextIs (exec (.deroneRxAck 7 (packet 3).bytes) (waiting (xfer5 false))) (fun t => t.fab.xfers.isEmpty) = true ∧
    nextIs (exec (.deroneRxNak 7 (packet 4).bytes) (waiting (xfer5 false))) (fun t => t.fab.xfers.isEmpty && t.ctr 0x5288 6 == 1) = true := by decide +kernel
theorem test_forward : fabric.routeEntry 9 = 7 ∧ fabric.portUp 7 = true ∧ fabric.routeEntry 3 = 0xFF ∧
    nextIs (exec (.deroneForward 7 { packet 0 with dst := 9, hops := 14 }.bytes) fabric) (fun t => decide (t.out = [.derone 7 0 { packet 0 with dst := 9, hops := 15 }.bytes])) = true ∧
    nextIs (exec (.deroneForward 7 { packet 0 with dst := 9, hops := 15 }.bytes) fabric) (fun t => t.ctr 0x5287 0x0E == 1 && t.ctr 0x5288 5 == 1) = true ∧
    nextIs (exec (.deroneForward 7 { packet 0 with dst := 3 }.bytes) fabric) (fun t => t.ctr 0x5288 5 == 1) = true := by decide +kernel
theorem test_flow_control : fabric.heldOff 15 = none ∧ fabric.outQueue 15 = [] ∧ fabric.hands.tables = [] ∧ fabric.fab.xfers = [] ∧ fabric.ctr 0x5287 6 < 2 ^ 64 ∧
    nextIs (exec (.deroneFlowControl 7 1 true) fabric) (fun t => t.heldOff 15 == some fabric.now &&
      nextIs (exec (.deroneFlowControl 7 1 false) { t with now := t.now + 2500 }) (fun u => u.heldOff 15 == none && u.ctr 0x5287 6 == 2)) = true ∧
    gives (exec (.deroneFlowControl 7 1 false) fabric) fabric = true := by decide +kernel
theorem test_put_packet : (fabric.putPacket 7 0 8 [1]).out = [.derone 7 0 [1]] ∧ ((fabric.setOff 14 (some 0)).putPacket 7 0 8 [1]).outQueue 14 = [⟨[1], 5000000000, 8⟩] := by decide +kernel
/-- A packet has waited for the stall time at port 7. -/
def stalled : State := { (withObjs fabric [(0x2800, 5, 100)]).setOutQueue 14 [⟨(packet 0).bytes, 5000000000, 8⟩] with now := 5100000000 }
theorem test_stall : 5000000000 + stalled.obj 0x2800 5 * 1000000 ≤ stalled.now ∧
    nextIs (exec (.deroneStallDiscard 7 0) stalled) (fun t => decide (t.outQueue 14 = []) && t.ctr 0x5287 8 == 1 && (t.line 10).up) = true ∧
    gives (exec (.deroneStallDiscard 7 0) { stalled with now := 5099999999 }) { stalled with now := 5099999999 } = true := by decide +kernel
theorem test_ack_timeout : let s := withObjs (waiting (xfer5 false)) [(0x2800, 6, 1000)]
    (4000000000 + s.obj 0x2800 6 * 1000000 ≤ s.now) ∧ s.packetsWait 5 = false ∧ nextIs (exec (.deroneAckTimeout 5) s) (fun t => t.fab.xfers.isEmpty && t.ctr 0x5288 4 == 1) = true ∧
    gives (exec (.deroneAckTimeout 5) { s with now := 4999999999 }) { s with now := 4999999999 } = true := by decide +kernel
theorem test_busy_resend : let s := waiting { xfer5 false with busyAt := some 4998000000 }
    (4998000000 + 2000000 ≤ s.now) ∧ s.xferPort { xfer5 false with busyAt := some 4998000000 } = 7 ∧ nextIs (exec (.deroneBusyResend 5) s) (fun t => t.fab.xfers.map (·.resent) == [true] && t.out.length == 1) = true ∧
    nextIs (exec (.deroneBusyResend 5) (s.setObj 0x280F 2 0 3)) (fun t => t.fab.xfers.isEmpty) = true := by decide +kernel
theorem test_dovetail : let op : CopyOp := ⟨128, 0, [{ xfer5 false with port := 7 }], none, 0, 0, [], false⟩
    let s := { fabric with fab := { fabric.fab with held := [⟨3, 5000000000, op⟩] } }
    s.fab.held.find? (·.id == 3) = some ⟨3, 5000000000, op⟩ ∧ nextIs (exec (.dovetailIssue 3) s) (fun t => t.fab.held.isEmpty && t.fab.xfers.length == 1) = true ∧
    gives (exec (.dovetailIssue 3) { s with now := 4999999999 }) { s with now := 4999999999 } = true := by decide +kernel
theorem test_transfer_start : let s := { fabric with fab := { fabric.fab with waiting := [xfer5 false] } }
    s.fab.xfers.length < 4096 ∧ ((({ s with fab := { s.fab with waiting := [] } } : State)).launch (xfer5 false)).2 = none ∧
    nextIs (exec .deroneTransferStart s) (fun t => t.fab.waiting.isEmpty && t.fab.xfers.length == 1) = true := by decide +kernel
theorem test_rx_stale : let p := { packet 0 with epoch := 1 }
    Packet.parse p.bytes = some p ∧ p.epoch ≠ fabric.epoch8 ∧
    nextIs (exec (.deroneRxWrite 7 p.bytes) fabric) (fun t => t.mem == fabric.mem && t.ctr 0x5287 0x0D == 1 && t.out.length == 1) = true := by decide +kernel
theorem test_rx_header : let bs : List Byte := (packet 3).bytes.set 31 0
    32 ≤ bs.length ∧ Packet.header bs = none ∧
    ([Instr.deroneRxWrite 7 bs, .deroneRxReadReq 7 bs, .deroneRxReadResp 7 bs, .deroneRxAck 7 bs, .deroneRxNak 7 bs].all fun c =>
      nextIs (exec c fabric) fun t => t.ctr 0x5287 0x0C == 1 && t.out.isEmpty) = true := by decide +kernel
theorem test_rx_waits : let s := fabric.setStack 0 { Stack.reset with lost := true }
    let u := (waiting (xfer5 true)).setStack 0 { Stack.reset with lost := true }
    gives (exec (.deroneRxWrite 7 (packet 0).bytes) s) s = true ∧ gives (exec (.deroneRxReadReq 7 (packet 1).bytes) s) s = true ∧
    gives (exec (.deroneRxReadResp 7 (packet 2).bytes) u) u = true := by decide +kernel
theorem test_transfer_limits : let s := { fabric with fab := { fabric.fab with waiting := [xfer5 false] } }
    let d := s.setObj 0x280F 2 0 3
    ((({ d with fab := { d.fab with waiting := [] } } : State)).launch (xfer5 false)).2.isSome = true ∧
    nextIs (exec .deroneTransferStart d) (fun t => t.fab.waiting.isEmpty && t.fab.xfers.isEmpty) = true ∧
    ({ s with fab := { s.fab with xfers := List.replicate 4096 (xfer5 false) } } : State).fab.xfers.length = 4096 := by decide +kernel

/-! Tables and hands -/

/-- A deal of two members in one group, this module at rank 0 and module 9 at rank 1. -/
def dealBytes (key : Nat) (depth : Nat := 2) : List Byte :=
  spell 96 [(0, 4, key), (4, 2, 2), (8, 2, 1), (0x0A, 1, 15), (0x0C, 1, depth), (0x10, 4, 1000), (72, 8, 0x10000), (80, 1, 9), (88, 8, 0x10000)]
def deal1 (key : Nat := 7) (rank : Nat := 0) : Deal := ⟨key, 2, rank, 1, 15, 0, 2, 1000, [⟨0, 0, none, 0x10000⟩, ⟨9, 0, none, 0x10000⟩]⟩
def dealEntry (op t : Nat) : Entry := entry 0 op ((8, 1, t) :: if op = 0x3A then [] else [(0x0C, 8, 0), (0x14, 4, 2 * 2 ^ 30)])
/-- Drawer 0 may deal tables 62 and 63, and its region 0 starts with a deal block. -/
def dealing (es : List Entry) (bs : List Byte) (cells : Nat := 10000) : State :=
  let t := flight es (withObjs (regions fabric) [(0x2300, 7, 62), (0x2300, 8, 2), (0x2300, 3, cells)])
  t.setHost ⟨cellsAt 0x100000 bs, [], 0⟩
theorem test_deal_ready : ready (dealing [dealEntry 0x38 63] []) 0 0 (dealEntry 0x38 63) 0x38 ∧ ready (dealing [dealEntry 0x39 63] []) 0 0 (dealEntry 0x39 63) 0x39 ∧
    ready (dealing [dealEntry 0x3A 63] []) 0 0 (dealEntry 0x3A 63) 0x3A := by unfold ready; decide +kernel
theorem test_deal : let s := dealing [dealEntry 0x38 63] (dealBytes 7)
    s.tableTurn 0 (dealEntry 0x38 63) = true ∧ (dealEntry 0x38 63).buf 0x0C = some (.region 0 0) ∧ s.readDeal 0 (.region 0 0) = (some (.inr deal1), s) ∧
    deal1.cells = 256 ∧ gives (exec (.tableDeal 0 0) s) ((s.dealt 63 0 256 deal1).complete 0 (dealEntry 0x38 63) 0 [63]) = true := by decide +kernel
theorem test_deal_refused : let s := dealing [dealEntry 0x38 63] (dealBytes 7) 511
    let w := dealing [dealEntry 0x38 61] (dealBytes 7)
    s.obj 0x2300 3 0 < s.cellsHeld 0 + deal1.cells + 256 ∧ gives (exec (.tableDeal 0 0) s) (s.complete 0 (dealEntry 0x38 63) 0x12 [63]) = true ∧
    gives (exec (.tableDeal 0 0) w) (w.complete 0 (dealEntry 0x38 61) 0x12 [61]) = true := by decide +kernel
/-- Table 63 is dealt with a key. -/
def dealtState (es : List Entry) (bs : List Byte) : State := (dealing es bs).dealt 63 0 256 (deal1 6)
theorem test_redeal : let s := dealtState [dealEntry 0x39 63] (dealBytes 7)
    s.handsBefore 0 (dealEntry 0x39 63) = false ∧ s.readDeal 0 (.region 0 0) = (some (.inr deal1), s) ∧ s.dealtTwice 63 0 deal1 = false ∧
    gives (exec (.tableRedeal 0 0) s) ((s.dealt 63 0 256 deal1).complete 0 (dealEntry 0x39 63) 0 [63]) = true := by decide +kernel
theorem test_clear : let s := dealtState [dealEntry 0x3A 63] []
    nextIs (exec (.tableClear 0 0) s) (fun t => decide (t.table 63 = none) && (t.fn 0).crProd == 1) = true ∧
    gives (exec (.tableClear 0 0) (s.setTable 63 ((s.table 63).map fun c => { c with fid := 1 })))
      ((s.setTable 63 ((s.table 63).map fun c => { c with fid := 1 })).complete 0 (dealEntry 0x3A 63) 0x12 [63]) = true := by decide +kernel
/-- HAND_START of an ALL_REDUCE of one FP32 element, DIRECT, from region 0 to region 1. -/
def handEntry (i : Nat := 0) : Entry :=
  entry i 0x3B [(8, 1, 63), (9, 1, 1), (0x0C, 1, 1), (0x18, 8, 1), (0x20, 8, 0x100), (0x28, 4, 2 * 2 ^ 30), (0x2C, 8, 0), (0x34, 4, 2 * 2 ^ 30 + 1)]
theorem test_hand_ready : ready (dealtState [handEntry] []) 0 0 handEntry 0x3B := by unfold ready; decide +kernel
theorem test_hand_none : let s := dealing [handEntry] []
    s.table 63 = none ∧ gives (exec (.handStart 0 0) s) (s.complete 0 handEntry 0x12 (State.handResult 63 0 0xFFFF)) = true := by decide +kernel
theorem test_hand_start : let s := dealtState [handEntry] []
    handEarly (deal1 6) handEntry = 0 ∧ s.handsAccepted 0 = 0 ∧ s.obj 0x2800 3 = 0 ∧
    nextIs (exec (.handStart 0 0) s) (fun t => decide (some t = (s.table 63).map fun c => s.beginHand 63 c handEntry) &&
      t.ctr 0x523F 1 == 1 && t.fab.xfers.length == 1) = true := by decide +kernel
def hand1 (status : Nat := 0) : Hand :=
  ⟨0, 1, 1, 0, 0, 1, 0, 1, 77, [], [], 4998000000, status, 0xFFFF, [], true, [], [], [], 1, false, false, false, []⟩
def handTable (h : Hand) (box : List HandPkt) (rank : Nat := 0) : Table := ⟨0, deal1 7 rank, 256, 0, 2, some h, [], box, [], 0, 0xFFFF⟩
/-- A hand runs on table 63. -/
def handing (h : Hand) (box : List HandPkt := []) (rank : Nat := 0) : State := (dealing [handEntry] []).setTable 63 (some (handTable h box rank))
theorem test_hand_joins_queue : let s := dealing [handEntry, handEntry 1] []
    let u := s.setTable 63 (some (handTable hand1 []))
    ready u 0 1 (handEntry 1) 0x3B → gives (exec (.handStart 0 1) ((dealing [{ handEntry with stage := .busy }, handEntry 1] []).setTable 63 (some (handTable hand1 []))))
      ((((dealing [{ handEntry with stage := .busy }, handEntry 1] []).setTable 63 (some { handTable hand1 [] with queue := [1] })).busy 0 (handEntry 1))) = true := by
  intro s u _; decide +kernel
theorem test_queued_start : let s := (dealing [{ handEntry with stage := .busy }] []).setTable 63 (some { handTable hand1 [] with running := none, queue := [0] })
    nextIs (exec (.handQueuedStart 0 0) s) (fun t => decide (some t = (s.table 63).map fun c => s.beginHand 63 c { handEntry with stage := .busy }) &&
      (t.table 63).map (·.queue) == some []) = true ∧ gives (exec (.handQueuedStart 0 0) (handing hand1)) (handing hand1) = true := by decide +kernel
def handPacket (kind : Nat) (x : HandPkt → HandPkt := id) : HandPkt := x ⟨7, 1, 77, kind, 0, 1, 0, 0xFFFF, 0, 0, if kind = 1 then [1, 2, 3, 4] else []⟩
theorem test_hand_packet_found : ([1, 2, 3, 4, 5].all fun k => findPos (fun q : HandPkt => q.seq == 1 && q.kind == k) [handPacket 9, handPacket k] == some 1) = true := by
  decide +kernel
theorem test_hand_data : let s := handing hand1 [handPacket 1]
    let u := s.setTable 63 (some (handTable hand1 []))
    State.wholeData (handTable hand1 []) hand1 (handPacket 1) = true ∧
    gives (exec (.handData 63) s) ((((u.setHand 63 { hand1 with staged := [handPacket 1] }).releaseStaged 63).pump 63).settleHands) = true := by decide +kernel
theorem test_hand_mismatch : let p := handPacket 1 fun p => { p with sig := 78, src := 2 }
    let u := (handing hand1).setTable 63 (some (handTable hand1 []))
    gives (exec (.handData 63) (handing hand1 [p])) (((u.count 0x523F 6 1).failHand 63 8 0).settleHands) = true := by decide +kernel
theorem test_hand_credit : let h := { hand1 with spent := [(1, 5)] }
    nextIs (exec (.handCredit 63) (handing h [handPacket 2 fun p => { p with step := 3 }]))
      (fun t => decide (((t.table 63).bind (·.running)).map (fun h => h.spent.num 1) = some 2)) = true := by decide +kernel
theorem test_hand_abort : let h := { hand1 with relayed := true }
    let p := handPacket 3 fun p => { p with status := 9, failed := 1 }
    nextIs (exec (.handAbort 63) (handing h [p])) (fun t => decide (((t.table 63).bind (·.running)).map (fun h => (h.status, h.failed)) = some (9, 1))) = true ∧
    gives (exec (.handAbort 63) (handing { hand1 with doneSent := true } [p])) (handing { hand1 with doneSent := true }).settleHands = true := by decide +kernel
theorem test_hand_done : let h := { hand1 with reports := [(0, 0, 0xFFFF)] }
    (deal1.rank = deal1.leader deal1.mine) ∧ nextIs (exec (.handDone 63) (handing h [handPacket 4])) (fun t => decide (((t.table 63).map fun c => (c.running, c.lastStatus)) = some (none, 0)) &&
      t.ctr 0x523F 2 == 1 && (t.fn 0).crProd == 1) = true := by decide +kernel
theorem test_hand_fin : nextIs (exec (.handFin 63) (handing hand1 [handPacket 5 fun p => { p with status := 0x0A, failed := 1 }] 1))
      (fun t => decide (((t.table 63).map fun c => (c.running, c.lastStatus, c.lastFailed)) = some (none, 0x0A, 1)) && t.ctr 0x523F 3 == 1) = true := by decide +kernel
theorem test_hand_limits : let s (us : Nat) := { handing hand1 with now := 4998000000 + us }
    (4998000000 + 1000 * 1000000 * 8 / 4 = 6998000000) ∧
    nextIs (exec (.handRootDeadline 63) (s 1500000000)) (fun t => decide (((t.table 63).map fun c => (c.running, c.lastStatus, c.lastFailed)) = some (none, 0x0A, 0))) = true ∧
    gives (exec (.handRootDeadline 63) (s 1499999999)) (s 1499999999) = true ∧
    nextIs (exec (.handMemberDeadline 63) (s 2000000000)) (fun t => decide (((t.table 63).map fun c => (c.running, c.lastStatus)) = some (none, 0x0A))) = true ∧
    nextIs (exec (.handMemberDeadline 63) { handing (hand1 8) with now := 6998000000 }) (fun t => decide (((t.table 63).map fun c => c.lastStatus) = some 8)) = true ∧
    gives (exec (.handMemberDeadline 63) (s 1999999999)) (s 1999999999) = true := by decide +kernel
theorem test_leader_limit : let s := (dealing [handEntry] []).setTable 63 (some { handTable hand1 [] with deal := { deal1 7 1 with groups := 2, members := [⟨0, 0, none, 0⟩, ⟨9, 1, none, 0⟩] } })
    nextIs (exec (.handLeaderDeadline 63) { s with now := 5998000000 }) (fun t => decide (((t.table 63).bind (·.running)).map (·.groupSent) = some true)) = true ∧
    gives (exec (.handLeaderDeadline 63) { s with now := 5997999999 }) { s with now := 5997999999 } = true := by decide +kernel
theorem test_hand_part_done : let s := handing { hand1 with outstanding := 0 } [] 1
    ((s.settleHands).pump 63).table 63 = some (handTable { hand1 with outstanding := 0 } [] 1) ∧
    nextIs (exec (.handPartDone 63) s) (fun t => decide (((t.table 63).bind (·.running)).map (·.doneSent) = some true)) = true := by decide +kernel
theorem test_reports : combineReports [(3, 0, 0xFFFF), (2, 9, 5), (4, 8, 0xFFFF), (1, 8, 6)] [] [1] = (8, 4) ∧
    combineReports [(3, 0, 0xFFFF), (2, 9, 5)] [] [2] = (9, 5) ∧ combineReports [(3, 0, 0xFFFF), (2, 9, 5)] [1] [] = (9, 1) ∧
    combineReports [(3, 0, 0xFFFF), (2, 0x0B, 0xFFFF)] [] [] = (0x0A, 2) ∧ combineReports [(3, 0, 0xFFFF), (2, 0x0A, 1)] [] [] = (0x0A, 1) ∧
    combineReports [(3, 0, 0xFFFF)] [4] [] = (0x0A, 4) ∧ combineReports [(3, 0, 0xFFFF)] [] [] = (0, 0xFFFF) := by decide
theorem test_ring_chunks : (List.range 3).map (ringChunk 3 7) = [(0, 3), (3, 5), (5, 7)] ∧ (0 : Nat) < 3 := by decide
theorem test_deal_malformed : let s := dealing [dealEntry 0x38 63] []
    let u := dealtState [dealEntry 0x39 63] (dealBytes 6)
    let r := (dealing [dealEntry 0x39 63] (dealBytes 6))
    s.readDeal 0 (.region 0 0) = (some (.inl 0x0E), s) ∧ gives (exec (.tableDeal 0 0) s) (s.complete 0 (dealEntry 0x38 63) 0x0E [63]) = true ∧
    gives (exec (.tableRedeal 0 0) u) (u.complete 0 (dealEntry 0x39 63) 0x12 [63]) = true ∧ r.table 63 = none ∧
    gives (exec (.tableRedeal 0 0) r) (r.complete 0 (dealEntry 0x39 63) 0x12 [63]) = true := by decide +kernel
theorem test_deal_waits : let s := dealing [dealEntry 0x38 63] (dealBytes 7)
    let d := { s with ring := { s.ring with p0 := PcieLink.down } }
    d.readDeal 0 (.region 0 0) = (none, d) ∧ gives (exec (.tableDeal 0 0) d) d = true := by decide +kernel
theorem test_hand_waits : let s := (dealtState [handEntry] []).setObj 0x2800 3 0 1
    (s.table 63).any (fun c => s.offModule c.deal) = true ∧ gives (exec (.handStart 0 0) s) s = true := by decide +kernel
/-- A HAND_START by an algorithm that the deal does not permit. -/
def wrongHand : Entry := entry 0 0x3B [(8, 1, 63), (9, 1, 1), (0x0C, 1, 4), (0x18, 8, 1), (0x20, 8, 0x100), (0x28, 4, 2 * 2 ^ 30), (0x2C, 8, 0), (0x34, 4, 2 * 2 ^ 30 + 1)]
theorem test_hand_early : let s := dealtState [wrongHand] []
    let u := s.setTable 63 ((s.table 63).map fun c => { c with deal := { c.deal with algorithms := 1 } })
    (u.fn 0).entries.all (fun e => (u.table 63).any fun c => handEarly c.deal e != 0) = true ∧
    nextIs (exec (.handStart 0 0) u) (fun t => ((t.table 63).bind (·.running)).any (fun h => h.status != 0 && h.seq == 1) && t.ctr 0x523F 1 == 1) = true := by decide +kernel
theorem test_hand_data_refused : let p := handPacket 1 fun p => { p with sig := 78 }
    let u := (handing hand1).setTable 63 (some (handTable hand1 []))
    gives (exec (.handData 63) (handing hand1 [p]))
      ((((u.count 0x523F 6 1).sendHand 63 (handTable hand1 []) (State.handPkt (handTable hand1 []) hand1 1 2 0 0xFFFF 1 0 [])).failHand 63 8 0).settleHands) = true := by decide +kernel
theorem test_hand_done_elsewhere : let u := (handing hand1 [] 1).setTable 63 (some (handTable hand1 [] 1))
    gives (exec (.handDone 63) (handing hand1 [handPacket 4] 1)) u.settleHands = true ∧
    gives (exec (.handDone 63) (handing { hand1 with reports := [(1, 0, 0xFFFF)] } [handPacket 4]))
      ((handing hand1).setTable 63 (some (handTable { hand1 with reports := [(1, 0, 0xFFFF)] } []))).settleHands = true := by decide +kernel

/-! Harjan Reliable Transport -/

/-- The form of packet that a row takes. -/
def formOf (c : Instr) (p : HrtPkt) : Bool := match c with
  | .hrtRxSend => p.op == 1
  | .hrtRxWrite => p.op == 2
  | .hrtRxReadReq => p.op == 3
  | .hrtRxReadResp => p.op == 4
  | .hrtRxAdd => p.op == 5
  | .hrtRxCas => p.op == 6
  | .hrtRxAtomicResp => p.op == 7
  | .hrtRxFlush => p.op == 8
  | .hrtRxColl => p.op == 9
  | .hrtRxAck => State.isAck (· == 0) p
  | .hrtRxAckStale => State.isAck (· == 1) p
  | .hrtRxNakPage => State.isAck (· == 0x10) p
  | .hrtRxFatalNak => State.isAck (fun k => decide (0x20 ≤ k)) p
  | _ => false
/-- The packet that a row takes, its place, its QP and the state at step 7 of R257, where it arrives there. -/
def arriving (ops : HrtPkt → Bool) (s : State) : Option (Nat × HrtIn × Qp × State) :=
  match s.hrtNext ops with
  | [] => none
  | (i, x) :: _ => match (((s.popHrt i).touchQp x.pkt.destQpn).passSix x).1 with
    | some q => if s.running = true ∧ x.pkt.destQpn < 65536 ∧ x.pkt.destQpn < s.qpsAvailable ∧ s.cachedQp x.pkt.destQpn = true
      then some (i, x, q, arrived s i x) else none
    | none => none
theorem arriving_meets (ops : HrtPkt → Bool) (s t : State) (i : Nat) (x : HrtIn) (q : Qp) (h : arriving ops s = some (i, x, q, t)) :
    arrivesAt s ops i x q ∧ t = arrived s i x := by
  unfold arriving at h
  split at h
  · cases h
  · split at h
    · split at h
      · obtain ⟨h1, h2, h3, h4⟩ := ‹_ ∧ _ ∧ _ ∧ _›
        cases h
        exact ⟨⟨h1, ⟨[], _, ‹_›, by simp⟩, h2, h3, h4, ‹_›⟩, rfl⟩
      · cases h
    · cases h
def ipA : List Byte := Sys2Proof.Machine.mapped [10, 0, 0, 1]
def ipB : List Byte := Sys2Proof.Machine.mapped [10, 0, 0, 2]
/-- QP 3 of function 0 in RTS, to QP 7 at the other address. -/
def qp3 : Qp := { Qp.reset 3 0 0 with
  state := .rts, owner := some 0, timeout := 64,
  attr := { QpAttr.default 3 with given := 0x22F, destQpn := 7, srcIp := ipA, dstIp := ipB, dstMac := [2, 0, 0, 0, 0, 2], port := 0 } }
/-- QP 3 is cached in this state. -/
def withQ (q : Qp) (s : State := regions up) : State := { s with hrt := { s.hrt with qps := [(3, q)], cached := [3] } }
/-- A packet to QP 3 from its peer, as it waits in the HRT queue. -/
def hrtFrame (op psn n : Nat) (ackReq : Bool) (rest : List Byte) (v : Nat := 0) : RxFrame :=
  let pkt := withIcrc (hrtBase op true true ackReq false false false n 0 (3 + v) (up.obj 0x2001 3 % 256) psn 0 7 ++ rest)
  ⟨0, 0, 0, 1, 0, 0, false, frameOf [2, 0, 0, 0, 0, 1] [2, 0, 0, 0, 0, 2] [] 0x0800 (ipBytesOf false ipB ipA 0 0 (udpBytes false ipB ipA 0xC000 4791 pkt))⟩
def rx (q : Qp) (f : RxFrame) : State := let s := withQ q (flight [] (regions up)); { s with eth := { s.eth with hrtIn := [f] } }
/-- What a command answers on an arriving packet, beside a state computed from the one at step 7. -/
def arrivesTo (c : Instr) (s : State) (k : HrtIn → State → State) (p : State → Bool) : Bool :=
  match arriving (formOf c) s with
  | some (_, x, q, t) => (x.pkt.op != 4 && x.pkt.op != 7 && x.pkt.op < 16 || State.openReply q x.pkt) && gives (exec c s) (k x t).settleHands && p (k x t)
  | none => false
def hrtEntry (op : Nat) (x : List (Nat × Nat × Nat)) (q : Nat := 3) : Entry := entry 0 op ((8, 4, q) :: x)
def localBuf0 : List (Nat × Nat × Nat) := [(0x0C, 8, 0), (0x14, 4, 2 * 2 ^ 30)]
def hrtEntries : List (Instr × Entry) :=
  [(.hrtSend 0 0, hrtEntry 0x10 ((0x18, 8, 4) :: localBuf0)), (.hrtWrite 0 0, hrtEntry 0x11 ((0x18, 8, 4) :: (0x20, 4, 5) :: localBuf0)),
   (.hrtRead 0 0, hrtEntry 0x12 ((0x18, 8, 4) :: (0x20, 4, 5) :: localBuf0)), (.hrtAdd 0 0, hrtEntry 0x13 ((0x18, 8, 9) :: (0x20, 4, 5) :: localBuf0)),
   (.hrtCas 0 0, hrtEntry 0x14 ((0x18, 8, 9) :: (0x20, 4, 5) :: (0x30, 8, 1) :: localBuf0)), (.hrtFlush 0 0, hrtEntry 0x15 [(0x18, 8, 4), (0x20, 4, 5)])]
theorem test_hrt_ready : ∀ p ∈ hrtEntries, ready (flight [p.2]) 0 0 p.2 p.2.opcode := by unfold ready; decide +kernel
theorem test_hrt_entries : (hrtEntries.all fun p =>
    let s := withQ qp3 (flight [p.2] (regions up))
    let t := s.touchQp 3
    t.firstOfQp 0 p.2 && State.allSent qp3 && match t.entryReq 0 p.2 qp3 with
    | .inl r => r.op == State.hrtOp p.2.opcode && gives (exec p.1 s) ((t.busy 0 p.2).setQp 3 { qp3 with reqs := [r] })
    | .inr _ => false) = true := by decide +kernel
theorem test_hrt_entries_refused : (hrtEntries.all fun p =>
    let s := withQ { qp3 with owner := some 1 } (flight [p.2] (regions up))
    let w := withQ { qp3 with state := .error } (flight [p.2] (regions up))
    gives (exec p.1 s) ((s.touchQp 3).complete 0 p.2 0x12 [3, 0, 0, 0]) && gives (exec p.1 w) ((w.touchQp 3).complete 0 p.2 0x0D [3, 0, 0, 0])) = true := by
  decide +kernel
theorem test_secure_read : let q := { qp3 with attr := { qp3.attr with sa := 1 } }
    let e := hrtEntry 0x12 ((0x18, 8, 4) :: (0x20, 4, 5) :: localBuf0)
    (regions up).localBuf 0 (.region 0 0) 4 true = .inr ([.bus 0 0x100000 4], .none) ∧ (regions up).entryReq 0 e q = .inr 0x12 := by decide +kernel
/-- An attribute block is not read when no field is named. -/
def modEntry (target mask : Nat) : Entry := hrtEntry 0x18 ((0x0C, 1, target) :: (0x10, 4, mask) :: if mask = 0 then [] else [(0x1C, 4, 2 * 2 ^ 30)])
theorem test_modify_ready : ready (flight [modEntry 4 262144]) 0 0 (modEntry 4 262144) 0x18 ∧ ready (flight [modEntry 4 262143]) 0 0 (modEntry 4 262143) 0x18 ∧
    ready (flight [modEntry 4 0]) 0 0 (modEntry 4 0) 0x18 := by unfold ready; decide +kernel
theorem test_modify_refused : let s (q : Qp) (m : Nat) := withQ q (flight [modEntry 4 m] (regions up))
    gives (exec (.qpModify 0 0) (s qp3 262144)) ((((s qp3 262144).touchQp 3).modifyEnds 0 (modEntry 4 262144) 0x0E).settleHands) = true ∧
    gives (exec (.qpModify 0 0) (s { qp3 with owner := some 1 } 262143))
      ((((s { qp3 with owner := some 1 } 262143).touchQp 3).modifyEnds 0 (modEntry 4 262143) 0x12).settleHands) = true := by decide +kernel
theorem test_modify_to_error : let s := withQ qp3 (flight [modEntry 4 0] (regions up))
    nextIs (exec (.qpModify 0 0) s) (fun t => decide ((t.qp 3).state = .error ∧ (t.qp 3).owner = some 0) && t.mem.host.readBytes 0x20008 6 == [3, 0, 0, 0, 4, 0]) = true := by
  decide +kernel
theorem test_modify_moves : let s := (regions up).setBlob 0x2502 1 0 (ipA ++ [0, 1])
    let s := s.setObj 0x2500 6 0 9216
    let a := { qp3.attr with given := 0x32F, sqPsn := 5, rqPsn := 9, recvLoc := 0 }
    s.rtrOk 0 a = true ∧ (s.qpMove 0 3 { qp3 with state := .init } a 2).2 = 0 ∧ ((s.qpMove 0 3 { qp3 with state := .init } a 2).1.qp 3).ePsn = 9 ∧
    ((s.qpMove 0 3 { qp3 with state := .rtr } a 3).1.qp 3).next = 5 ∧ ((s.qpMove 0 3 (Qp.reset 3 7 0) a 1).1.qp 3).incarnation = 7 ∧
    (((withQ qp3).qpToReset 3).qp 3).incarnation = 1 := by decide +kernel
def resumeEntry : Entry := hrtEntry 0x19 []
theorem test_resume_ready : ready (flight [resumeEntry]) 0 0 resumeEntry 0x19 := by unfold ready; decide +kernel
theorem test_resume : let stalled := { qp3 with stall := some ⟨0x10000, false, 0, 1000⟩ }
    let s (q : Qp) := withQ q (flight [resumeEntry] mapped)
    ((s stalled).touchQp 3).translate 0 0x10000 false false = (.device 0x30000, (((s stalled).touchQp 3).translate 0 0x10000 false false).2) ∧
    nextIs (exec (.resume 0 0) (s stalled)) (fun t => (t.qp 3).stall.isNone && (t.fn 0).crProd == 1) = true ∧
    gives (exec (.resume 0 0) (s qp3)) (((s qp3).touchQp 3).complete 0 resumeEntry 0 [3, 0, 0, 0]) = true ∧
    gives (exec (.resume 0 0) (s { qp3 with owner := none })) (((s { qp3 with owner := none }).touchQp 3).complete 0 resumeEntry 0x12 [3, 0, 0, 0]) = true := by
  decide +kernel
theorem test_resume_again : let s := withQ { qp3 with stall := some ⟨0x10000, false, 0, 1000⟩ } (flight [resumeEntry])
    ((s.touchQp 3).translate 0 0x10000 false false).1 = .notPresent ∧
    nextIs (exec (.resume 0 0) s) (fun t => (t.qp 3).stall.isSome && t.ctr 0x5101 9 == 1) = true := by decide +kernel
def mxOf (n : Nat) : List Byte := hrtMx 0 n 0 0 0
def rxWriteFrame (psn : Nat := 0) : RxFrame := hrtFrame 2 psn 4 true (mxOf 4 ++ hrtRx 5 0 0 ++ [1, 2, 3, 4])
theorem test_rx_write_hrt : arrivesTo .hrtRxWrite (rx qp3 (rxWriteFrame)) (fun x t => (t.request x 3).getD t)
    (fun t => t.mem.host.readBytes 0x100000 4 == [1, 2, 3, 4] && (t.qp 3).ePsn == 1 && (t.qp 3).replies.length == 1) = true ∧
    gives (exec .hrtRxSend (rx qp3 (rxWriteFrame))) (rx qp3 (rxWriteFrame)) = true := by decide +kernel
theorem test_rx_send_hrt : let q := { qp3 with recvLimit := 16, attr := { qp3.attr with recvLoc := 1, recvBase := 0x200 } }
    arrivesTo .hrtRxSend (rx q (hrtFrame 1 0 4 true (mxOf 4 ++ [1, 2, 3, 4]))) (fun x t => (t.request x 3).getD t)
      (fun t => t.mem.host.readBytes 0x100200 4 == [1, 2, 3, 4] && (t.fn 0).crProd == 1) = true := by decide +kernel
theorem test_rx_ordered : arrivesTo .hrtRxReadReq (rx qp3 (hrtFrame 3 0 0 true (hrtRx 5 0 (2 ^ 30 * 2 + 4)))) (fun x t => (t.request x 3).getD t)
      (fun t => (t.qp 3).replies.length == 2) = true ∧
    arrivesTo .hrtRxFlush (rx qp3 (hrtFrame 8 0 0 true (hrtRx 5 0 4))) (fun x t => (t.request x 3).getD t) (fun t => (t.qp 3).busy.isSome) = true := by decide +kernel
theorem test_rx_atomics : let ax := hrtRx 5 0 8 ++ beBytes 8 9 ++ beBytes 8 0
    arrivesTo .hrtRxAdd (rx qp3 (hrtFrame 5 0 0 true ax)) (fun x t => (t.request x 3).getD t) (fun t => (t.qp 3).busy.isSome && t.out.length == 1) = true ∧
    arrivesTo .hrtRxCas (rx qp3 (hrtFrame 6 0 0 true ax)) (fun x t => (t.request x 3).getD t) (fun t => (t.qp 3).busy.isSome && t.out.length == 1) = true := by decide +kernel
theorem test_rx_coll : arrivesTo .hrtRxColl (rx qp3 (hrtFrame 9 0 32 true (List.replicate 32 0))) (fun x t => (t.request x 3).getD t)
    (fun t => (t.qp 3).ePsn == 1 && t.ctr 0x5240 1 == 1) = true := by decide +kernel
theorem test_rx_no_qp : nextIs (exec .hrtRxWrite (rx qp3 (hrtFrame 2 0 0 true (mxOf 0 ++ hrtRx 5 0 0) 65536)))
    (fun t => t.ctr 0x5100 0x0D == 1 && t.eth.hrtIn.isEmpty) = true := by decide +kernel
/-- The classes of the window: a WRITE at PSNs ahead, past, behind and taken. -/
theorem test_window : let at_ (q : Qp) (psn : Nat) (p : State → Bool) := arrivesTo .hrtRxWrite (rx q (rxWriteFrame psn)) (fun x t => (t.request x 3).getD t) p
    at_ qp3 255 (fun t => bit (t.qp 3).arrived 255 && (t.qp 3).ePsn == 0) = true ∧ at_ qp3 256 (fun t => t.ctr 0x5100 8 == 1) = true ∧
    at_ qp3 (2 ^ 24 - 1) (fun t => t.ctr 0x5100 6 == 1 && t.mem.host.read 0x100000 == 0) = true ∧
    at_ { qp3 with arrived := 16 } 4 (fun t => t.ctr 0x5100 6 == 1 && (t.qp 3).replies.length == 1) = true := by decide +kernel
theorem test_key_checks : let s := regions up
    let p (op key roff : Nat) := { HrtPkt.read (hrtBase op true true true false false false 0 0 3 0 0 0 7) 0 with key := key, roff := roff }
    s.keyCheck 0 (p 2 5 0xFFFFC) 4 = none ∧ s.keyCheck 0 (p 2 5 0xFFFFD) 4 = some 0x20 ∧ s.keyCheck 0 (p 2 4 0) 4 = some 0x20 ∧
    s.keyCheck 1 (p 2 5 0) 4 = some 0x20 ∧ s.keyCheck 0 (p 5 5 4) 8 = some 0x21 ∧ s.keyCheck 0 (p 5 5 8) 8 = none := by decide +kernel
/-- Region 2 of drawer 0 is the DVA range of chunk 0, which starts with 7. -/
def atomicState : State :=
  let s := ((withQ qp3 (mapped)).setRegion 2 ⟨true, 0, 5, .dva, 0, 0x10000, 0x10000, 31⟩).setStack 0 { Stack.reset with up := true }
  s.setDev ⟨cellsAt 0x30000 (leBytes 8 7), [], 0⟩
theorem test_atomic_execute : let p (op : Nat) := { HrtPkt.read (hrtBase op true true true false false false 0 0 3 0 0 0 7) 0 with
      op := op, key := 517, operand := 2 ^ 64 - 1, compare := 7 }
    let s := atomicState
    let s1 := (s.keyPieces (p 5) 8 true).2.1
    let s0 := s1.forgetKey 3 (p 5) [.dev 0x30000 8]
    s.keyPieces (p 5) 8 true = ([.dev 0x30000 8], s1, none) ∧ s0.stackHeld [.dev 0x30000 8] = false ∧
    s0.pieceBad (.dev 0x30000 8) = false ∧ s0.pieceStale (.dev 0x30000 8) = false ∧
    (s.execAtomic 3 0 (p 5)).map (fun t => t.mem.dev.le 0x30000 8) = some 6 ∧
    (s.execAtomic 3 0 (p 6)).map (fun t => t.mem.dev.le 0x30000 8) = some (2 ^ 64 - 1) := by decide +kernel
def ackOf (syn psn nak after : Nat) : List Byte := beBytes 4 (syn * 2 ^ 24 + psn) ++ beBytes 4 16 ++ beBytes 4 nak ++ beBytes 4 after ++ List.replicate 32 0
/-- QP 3 has sent one WRITE of PSN 0. -/
def sentQ : Qp := { qp3 with una := 0, next := 1, timerAt := some 1, retries := 3, reqs := [{ State.plainReq (.hand 63 0) 2 4 4096 with sent := 1 }] }
def rxAck (syn psn nak after : Nat) : State := rx sentQ (hrtFrame 0x10 0 0 false (ackOf syn psn nak after))
theorem test_rx_ack_hrt : arrivesTo .hrtRxAck (rxAck 0 0 0 0) (fun x t => ((t.takeLimit 3 x.pkt).takeAck 3 x.pkt).settleQp 3)
    (fun t => (t.qp 3).una == 1 && (t.qp 3).retries == 0 && (t.qp 3).reqs.isEmpty && (t.qp 3).timerAt.isNone) = true := by decide +kernel
theorem test_rx_ack_stale : arrivesTo .hrtRxAckStale (rxAck 1 0 0 0) (fun _ t => t.qpErrorAll 3 4) (fun t => decide ((t.qp 3).state = .error)) = true := by
  decide +kernel
theorem test_rx_nak_page : arrivesTo .hrtRxNakPage (rxAck 0x10 (2 ^ 24 - 1) 0 50) (fun x t => t.takeNakPage 3 x.pkt)
    (fun t => decide ((t.qp 3).waitUntil = some (up.now + 50000000))) = true := by decide +kernel
theorem test_rx_fatal_nak : arrivesTo .hrtRxFatalNak (rxAck 0x20 (2 ^ 24 - 1) 0 0) (fun x t => t.takeFatal 3 x.pkt)
    (fun t => decide ((t.qp 3).state = .error)) = true := by decide +kernel
/-- QP 3 awaits the response of a READ, or of an ADD, of four and of eight bytes. -/
def askedQ (op n : Nat) : Qp := { qp3 with next := 1, reqs := [{ State.plainReq (.hand 63 0) op n 4096 with sent := 1, pieces := [.bus 0 0x100000 n] }] }
theorem test_rx_responses : arrivesTo .hrtRxReadResp (rx (askedQ 3 4) (hrtFrame 4 0 4 false (mxOf 4 ++ [1, 2, 3, 4]))) (fun x t => t.placeRead 3 x.pkt)
      (fun t => t.mem.host.readBytes 0x100000 4 == [1, 2, 3, 4] && (t.qp 3).una == 1 && (t.qp 3).reqs.isEmpty) = true ∧
    arrivesTo .hrtRxAtomicResp (rx (askedQ 5 8) (hrtFrame 7 0 0 false (beBytes 8 258))) (fun x t => t.placeAtomic 3 x.pkt)
      (fun t => t.mem.host.readBytes 0x100000 8 == [2, 1, 0, 0, 0, 0, 0, 0] && (t.qp 3).una == 1) = true ∧
    ((rx (askedQ 3 4) (rxWriteFrame)).replyHeld 3 = false) := by decide +kernel
/-- QP 3 has something to send, and E0.0 is UP. -/
def toSend (q : Qp) : State := ((withQ q).setObj 0x2500 6 0 9216).setSub 0 { SubPort.reset with link := .up }
theorem test_transmit : let q := { qp3 with reqs := [{ State.plainReq (.hand 63 0) 9 0 1024 with given := List.replicate 32 0 }] }
    let s := toSend q
    ((s.touchQp 3).offerOf q = some (4, 0, 0, 0)) ∧ (s.touchQp 3).pipelineTurn 3 (4, 0, 0, 0) = true ∧ (s.touchQp 3).synthSpent q = false ∧
    nextIs (exec (.hrtPacketTransmit 3) s) (fun t => ((t.sub 0).queue 0 3).length == 1 && (t.qp 3).next == 1 && (t.qp 3).timerAt == some (s.now + 64000000) &&
      t.hrt.pointer.num (3 * 8 + 4) == 4) = true := by decide +kernel
theorem test_transmit_ack : nextIs (exec (.hrtPacketTransmit 3) (toSend { qp3 with replies := [.ack (ackOf 0 0 0 0)] }))
    (fun t => ((t.sub 0).queue 0 3).length == 1 && (t.qp 3).replies.isEmpty && t.ctr 0x5100 0x0F == 1) = true := by decide +kernel
theorem test_transmit_spent : let q := { qp3 with attr := { qp3.attr with sa := 1 }, replies := [.ack (ackOf 0 0 0 0)] }
    let s := (toSend q).setObj 0x2B40 5 0 (2 ^ 32)
    (s.touchQp 3).synthSpent q = true ∧ nextIs (exec (.hrtPacketTransmit 3) s) (fun t => decide ((t.qp 3).state = .error)) = true := by decide +kernel
theorem test_context_fetch : let s := { toSend qp3 with hrt := { (toSend qp3).hrt with cached := [4] } }
    gives (exec (.hrtPacketTransmit 3) s) s = true ∧ nextIs (exec (.contextFetch 3) s) (fun t => t.hrt.cached == [3, 4] && t.ctr 0x5100 0x13 == 1) = true ∧
    gives (exec (.contextFetch 3) (withQ qp3)) (withQ qp3) = true := by decide +kernel
theorem test_retransmit_timeout : nextIs (exec (.retransmitTimeout 3) (withQ sentQ))
    (fun t => decide ((t.qp 3).rtx = [0] ∧ (t.qp 3).retries = 4 ∧ (t.qp 3).timeout = 128 ∧ (t.qp 3).rung = 8 ∧
      (t.qp 3).timerAt = some (up.now + 128000000)) && t.ctr 0x5100 4 == 1) = true ∧ (3 : Nat) ≠ sentQ.attr.retryLimit := by decide +kernel
theorem test_last_retry : nextIs (exec (.retransmitTimeout 3) (withQ { sentQ with retries := 7 })) (fun t => decide ((t.qp 3).state = .error) && t.ctr 0x5100 5 == 1) = true := by
  decide +kernel
theorem test_ack_delay : let s (t : Nat) := withQ { qp3 with ackAt := some t }
    nextIs (exec (.ackDelayExpiry 3) (s 5000000000)) (fun t => (t.qp 3).replies.length == 1 && (t.qp 3).ackAt.isNone) = true ∧
    gives (exec (.ackDelayExpiry 3) (s 5000000001)) (s 5000000001) = true := by decide +kernel
theorem test_page_wait_end : nextIs (exec (.pageWaitEnd 3) (withQ { sentQ with waitUntil := some 5000000000 })) (fun t => decide ((t.qp 3).rtx = [0] ∧ (t.qp 3).waitUntil = none)) = true := by
  decide +kernel
theorem test_page_wait_timeout : let s (q : Qp) := withQ { q with stall := some ⟨0x10000, false, 4000000000, 1⟩ }
    let waiting := { qp3 with reqs := [State.plainReq (.hand 63 0) 2 4 4096] }
    State.nextReq (s waiting |>.qp 3) = some (0, State.plainReq (.hand 63 0) 2 4 4096) ∧ State.nextReq qp3 = none ∧
    nextIs (exec (.pageWaitTimeout 3) (s waiting)) (fun t => decide ((t.qp 3).state = .error) && t.ctr 0x5101 0x0A == 1) = true ∧
    nextIs (exec (.pageWaitTimeout 3) (s qp3)) (fun t => decide ((t.qp 3).state = .error)) = true ∧
    gives (exec (.pageWaitTimeout 3) { s qp3 with now := 4999999999 }) { s qp3 with now := 4999999999 } = true := by decide +kernel
theorem test_climb : let s (c r : Nat) := withQ { qp3 with climbAt := some 5000000000, clean := c, rung := r }
    ((s 5 9).obj 0x2702 1 = 1) ∧ nextIs (exec (.climbTimer 3) (s 5 9)) (fun t => (t.qp 3).rung == 8 && (t.qp 3).climbAt == some 5030000000) = true ∧
    nextIs (exec (.climbTimer 3) (s 6 2)) (fun t => (t.qp 3).rung == 0 && (t.qp 3).climbAt.isNone) = true := by decide +kernel
def heldPkt (op : Nat) : HrtPkt := { HrtPkt.read (hrtBase op true true true false false false 0 0 3 0 0 0 7) 0 with op := op, key := 5, len := 4 }
theorem test_held : nextIs (exec (.heldRequestExecute 3) (withQ { qp3 with held := [heldPkt 8] })) (fun t => decide ((t.qp 3).busy = some (.flush (heldPkt 8)) ∧ (t.qp 3).held = [])) = true := by
  decide +kernel
theorem test_flush_met : let s (n : List Nat) := withQ { qp3 with busy := some (.flush (heldPkt 8)), flushReads := n }
    nextIs (exec (.flushConditionMet 3) (s [])) (fun t => (t.qp 3).ePsn == 1 && t.ctr 0x5101 5 == 1) = true ∧ gives (exec (.flushConditionMet 3) (s [7])) (s [7]) = true := by
  decide +kernel
theorem test_atomicop : let s := withQ { qp3 with busy := some (.atomic (heldPkt 5) 0 0x100000) }
    nextIs (exec (.atomicopCompletion 3 true 9) s) (fun t => (t.qp 3).ePsn == 1 && (t.qp 3).atomics == [(0, 9)]) = true ∧
    nextIs (exec (.atomicopCompletion 3 false 0) s) (fun t => decide ((t.qp 3).fatal = some (0x21, 0))) = true ∧
    nextIs (exec (.atomicopCompletion 3 false 1) s) (fun t => decide ((t.qp 3).fatal = some (0x23, 0))) = true := by decide +kernel
theorem test_hrt_uncached : let drop (s : State) : State := { s with hrt := { s.hrt with cached := [] } }
    let s := drop (withQ qp3 (flight [resumeEntry] mapped))
    let u := drop (rx qp3 rxWriteFrame)
    s.cachedQp 3 = false ∧ gives (exec (.resume 0 0) s) s = true ∧ gives (exec .hrtRxWrite u) u = true := by
  decide +kernel
theorem test_modify_block : let e := hrtEntry 0x18 [(0x0C, 1, 3), (0x10, 4, 256), (0x14, 8, 0), (0x1C, 4, 2 * 2 ^ 30)]
    let s := withQ { qp3 with state := .rtr } (flight [e] (regions up))
    256 &&& settable .rtr 3 = 256 ∧ e.buf 0x14 = some (.region 0 0) ∧ (s.touchQp 3).resolveBuf 0 (.region 0 0) 128 false false = (.ok [.bus 0 0x100000 128], s.touchQp 3) ∧
    attrOk (List.replicate 128 0) 256 true = true ∧ attrOk ((List.replicate 128 0).set 0x7F 1) 256 true = false ∧
    nextIs (exec (.qpModify 0 0) s) (fun t => decide ((t.qp 3).state = .rts) && t.mem.host.readBytes 0x20000 2 == [1, 0]) = true := by decide +kernel
theorem test_secure_read_request : let s := withQ { qp3 with attr := { qp3.attr with sa := 1 } }
    let p : HrtPkt := { HrtPkt.read (hrtBase 3 true true true false false false 0 0 3 0 0 0 7) 0 with op := 3 }
    (s.qp 3).attr.sa ≠ 0 ∧ p.op = 3 := by decide +kernel
theorem test_write_checks : let p : HrtPkt := { HrtPkt.read (hrtBase 2 true true true false false false 4 0 3 0 0 0 7) 0 with op := 2, key := 5, payload := [1, 2, 3, 4] }
    let s := withQ qp3
    s.keyCheck 0 p 4 = none ∧ s.pegRefused 0 p = false ∧ s.keyPieces p 4 true = ([.bus 0 0x100000 4], (s.keyPieces p 4 true).2.1, none) ∧
    (s.keyPieces p 4 true).2.1.stackHeld [.bus 0 0x100000 4] = false ∧ s.unplaceable [.bus 1 0 4] = true := by decide +kernel
theorem test_ack_to : let q := { sentQ with waitUntil := some 5 }
    (sentQ.una < 1) ∧ ((withQ sentQ).ackTo 3 1 |>.qp 3).retries = 0 ∧ (((withQ q).ackTo 3 1).qp 3).timerAt = q.timerAt ∧ (withQ sentQ).ackTo 3 0 = withQ sentQ := by
  decide +kernel

/-! Ethernet -/

/-- A sub-port of data port 7, lane 0, with PFC on for class 7. -/
def eth (v : SubPort := { SubPort.reset with link := .up }) : State :=
  let s := (withObjs up [(0x2500 + 112, 1, 1), (0x2501 + 112, 6, 128)]).setSub 28 v
  { s with led := { s.led with blobs := [(objKey 0x2570 5 0, [2, 0, 0, 0, 0, 7])] } }
/-- A frame of 64 bytes, whole. -/
def frame64 (etype : Nat := 0x1234) (body : List Byte := [1]) : List Byte := withFcs (frameOf [2, 0, 0, 0, 0, 9] [2, 0, 0, 0, 0, 2] [] etype body)
theorem test_frame_whole : fcsOk (frame64) = true ∧ (frame64).length = 64 ∧ 64 ≤ eth.maxFrame 7 ∧ (eth.linkOf 7 (frame64)).etype = 0x1234 := by decide +kernel
theorem test_frame_received : let s1 := (eth.count 0x5007 1 1).count 0x5007 2 64
    s1.police 7 0 (eth.classOf 7 (frame64)) 64 = some s1 ∧ s1.cellsHeldBy 7 + ceilDiv 64 256 ≤ eth.obj 0x2570 8 ∧
    gives (exec (.frameReceive 7 0 (frame64) false) eth) (s1.steer 7 0 0 0 (frame64)) = true ∧
    gives (exec (.frameReceive 7 0 (frame64) false) (eth { SubPort.reset with link := .training })) (eth { SubPort.reset with link := .training }) = true := by decide +kernel
theorem test_frame_policed : let s := withObjs eth [(0x2573, 0x11, 1), (0x2573, 0x19, 63)]
    let s1 := (s.count 0x5007 1 1).count 0x5007 2 64
    s1.police 7 0 (s.classOf 7 (frame64)) 64 = none ∧ gives (exec (.frameReceive 7 0 (frame64) false) s) (s1.count 0x5007 0x0B 1) = true := by decide +kernel
theorem test_frame_no_room : let s := withObjs eth [(0x2570, 8, 0)]
    let s1 := (s.count 0x5007 1 1).count 0x5007 2 64
    s1.obj 0x2570 8 < s1.cellsHeldBy 7 + ceilDiv 64 256 ∧ gives (exec (.frameReceive 7 0 (frame64) false) s) (s1.count 0x5007 0x0A 1) = true := by decide +kernel
/-- PFC pauses class 7 for a time in quanta. -/
def pfcBytes (q : Nat) (dst : List Byte := [1, 0x80, 0xC2, 0, 0, 1]) : List Byte :=
  withFcs (frameOf dst [2, 0, 0, 0, 0, 2] [] 0x8808 (beBytes 2 0x0101 ++ beBytes 2 128 ++ List.replicate 14 0 ++ beBytes 2 q))
theorem test_pfc : fcsOk (pfcBytes 1) = true ∧
    nextIs (exec (.pfcReceive 7 0 (pfcBytes 1)) eth) (fun t => (t.sub 28).paused.num 7 == up.now + eth.bitTime 7 512 && t.ctr 0x5007 0x0E == 1) = true ∧
    nextIs (exec (.pfcReceive 7 0 (pfcBytes 0)) (eth { SubPort.reset with link := .up, paused := [(7, 9)] })) (fun t => (t.sub 28).paused.num 7 == 0) = true ∧
    eth.foreignDst 7 0 (eth.linkOf 7 (pfcBytes 1 [2, 0, 0, 0, 0, 9])) = true ∧ gives (exec (.pfcReceive 7 0 (frame64)) eth) eth = true := by decide +kernel
theorem test_pause_expiry : let s (t : Nat) := eth { SubPort.reset with link := .up, paused := [(7, t)] }
    gives (exec (.pfcPauseExpiry 7 0 7) (s 5000000000)) eth = true ∧ gives (exec (.pfcPauseExpiry 7 0 7) (s 5000000001)) (s 5000000001) = true := by decide +kernel
theorem test_pfc_repeat : let s := { eth { SubPort.reset with link := .up, off := 128, xoffAt := [(7, 0)] } with now := eth.bitTime 7 (512 * 32768) }
    nextIs (exec (.pfcRepeat 7 0 7) s) (fun t => (t.sub 28).pfcDue.length == 1 && (t.sub 28).xoffAt.num 7 == s.now) = true ∧
    gives (exec (.pfcRepeat 7 0 6) s) s = true := by decide +kernel
def tx1 : TxFrame := ⟨frameOf [2, 0, 0, 0, 0, 9] [2, 0, 0, 0, 0, 2] [] 0x1234 [1], .hrt, false, false, 0⟩
def sending : SubPort := { SubPort.reset with link := .up, queues := [(16, [tx1]), (112, [tx1])] }
theorem test_transmit_class : (eth sending).txHead sending 7 = some (0, tx1) ∧ (eth sending).txHead sending 6 = none ∧
    bit ((eth sending).openGates 7) 7 = true ∧ (eth sending).shaperRate 7 7 = 0 ∧ (eth sending).fitsGate 7 7 64 = none ∧
    gives (exec (.frameTransmit 7 0) (eth sending)) ((eth sending).startFrame 7 0 7 0 tx1) = true ∧
    ((eth sending).startFrame 7 0 7 0 tx1).out = [.frame 7 0 (withFcs tx1.bytes)] ∧ (((eth sending).startFrame 7 0 7 0 tx1).sub 28).queue 7 0 = [] := by decide +kernel
theorem test_transmit_paused : let v := { sending with paused := [(7, 5000000001)] }
    gives (exec (.frameTransmit 7 0) (eth v)) ((eth v).startFrame 7 0 1 0 tx1) = true ∧
    gives (exec (.frameTransmit 7 0) (eth { sending with busyUntil := 5000000001 })) (eth { sending with busyUntil := 5000000001 }) = true := by decide +kernel
theorem test_transmit_pfc : let v := { sending with pfcDue := [[1], [2]] }
    nextIs (exec (.frameTransmit 7 0) (eth v)) (fun t => decide (t.out = [.frame 7 0 (withFcs [1])] ∧ (t.sub 28).pfcDue = [[2]] ∧ (t.sub 28).queues = v.queues)) = true := by
  decide +kernel
theorem test_subport_up : let s := eth { SubPort.reset with link := .training }
    s.subportRuns 7 0 = true ∧ bit (s.obj 0x2C00 3) 0 = false ∧
    gives (exec (.subportUp 7 0) s) ((((s.setSub 28 { SubPort.reset with link := .up, busyUntil := s.now }).subEvent 2 7 0).pfcTick 7)) = true ∧
    gives (exec (.subportUp 7 0) eth) eth = true ∧
    nextIs (exec (.subportUp 8 0) (up.setSub 32 { SubPort.reset with link := .training })) (fun t => decide ((t.sub 32).link = .up)) = true := by decide +kernel
theorem test_subport_down : nextIs (exec (.subportDown 7 0) (eth sending)) (fun t => decide ((t.sub 28).link = .training ∧ (t.sub 28).queues = []) &&
      t.ctr 0x5007 0x13 == 1 && t.ctr 0x5007 0x0F == 2 && (t.line 11).up) = true ∧
    gives (exec (.subportDown 7 0) (eth { SubPort.reset with link := .down })) (eth { SubPort.reset with link := .down }) = true := by decide +kernel
theorem test_subport_degraded : nextIs (exec (.subportDegraded 7 0) eth) (fun t => (t.sub 28).degraded == 1 && gives (exec (.subportDegraded 7 0) t) t) = true ∧
    eth.now / 1000000000000 + 1 = 1 := by decide +kernel
theorem test_eth_enable : nextIs (exec (.ethLinkEnableWrite 7 0) eth) (fun t => decide ((t.sub 28).link = .disabled) && t.obj 0x2570 1 == 0) = true ∧
    nextIs (exec (.ethLinkEnableWrite 8 1) up) (fun t => decide ((t.sub 32).link = .training)) = true ∧ gives (exec (.ethLinkEnableWrite 7 2) eth) eth = true := by decide +kernel
/-- A gate list of two entries of 10 and 30 ticks, administrative and operating. -/
def gateBytes : List Byte := [1, 0, 0, 0] ++ leBytes 4 10 ++ [254, 0, 0, 0] ++ leBytes 4 30
def gated (base : Nat) : State := (withObjs eth [(0x2617, 1, 1), (0x2617, 2, base), (0x2617, 3, 40), (0x2617, 4, 2)]).setBlob 0x2617 5 0 gateBytes
theorem test_config_change : (gated 1000).gateOk 7 = true ∧ (gated 1001).gateOk 7 = false ∧ 0 < (gated 1000).obj 0x2617 3 ∧
    nextIs (exec (.configChange 7 0) (gated 1000)) (fun t => t.obj 0x2617 7 == 1 && t.obj 0x2617 8 == 1000 + ceilDiv (t.deviceTime + 999000) 400 * 400) = true ∧
    nextIs (exec (.configChange 7 0) (gated 9000000000)) (fun t => t.obj 0x2617 8 == 9000000000) = true ∧
    gives (exec (.configChange 7 0) (gated 1001)) (gated 1001) = true := by decide +kernel
theorem test_gate_apply : let s := withObjs (gated 1000) [(0x2617, 7, 1), (0x2617, 8, 0)]
    s.obj 0x2617 8 ≤ s.deviceTime ∧ nextIs (exec (.gateConfigApply 7 0) s) (fun t => t.obj 0x2617 7 == 0 && t.obj 0x2617 0x0A == 40 && t.eth.gateOn.num 7 == 1 &&
      t.blob 0x2617 0x0C == gateBytes) = true ∧ gives (exec (.gateConfigApply 7 0) (gated 1000)) (gated 1000) = true := by decide +kernel
theorem test_gate_entry : let s0 := (withObjs (gated 0) [(0x2617, 9, 0), (0x2617, 0x0A, 40), (0x2617, 0x0B, 2)]).setBlob 0x2617 0x0C 0 gateBytes
    let s := { s0 with eth := { s0.eth with gateOn := [(7, 1)] } }
    nextIs (exec (.gateEntryChange 7 0) s) (fun t => (t.sub 28).gates == s.openGates 7 && (s.openGates 7 == 1 || s.openGates 7 == 254)) = true ∧
    gives (exec (.gateEntryChange 7 0) eth) eth = true := by decide +kernel
theorem test_drop_long : let s := withObjs (eth sending) [(0x2570, 6, 63)]
    (tx1.bytes.length = 15) ∧ s.maxFrame 7 = 63 ∧ ((s.dropLong 7 0).sub 28).queue 7 0 = [] ∧ (eth sending).dropLong 7 0 = eth sending := by decide +kernel
/-- The gate of class 7 closes one tick from now, and a frame does not end before it. -/
theorem test_gate_holds : let s0 := (withObjs (eth sending) [(0x2617, 9, 0), (0x2617, 0x0A, 40), (0x2617, 0x0B, 2)]).setBlob 0x2617 0x0C 0 ([128, 0, 0, 0] ++ leBytes 4 1 ++ [0, 0, 0, 0] ++ leBytes 4 39)
    let s := { s0 with eth := { s0.eth with gateOn := [(7, 1)] }, pw := { s0.pw with time := 10 * 2 ^ 32 - 1 } }
    bit (s.openGates 7) 7 = true ∧ (s.fitsGate 7 7 64).isSome = true ∧
    nextIs (exec (.frameTransmit 7 0) s) (fun t => t.ctr 0x5007 0x10 == 1 && t.out.isEmpty && nextIs (exec (.frameTransmit 7 0) t) fun u => u.ctr 0x5007 0x10 == 1) = true := by decide +kernel

/-! Infrastructure cluster -/

/-- Raw queue 31 of drawer 0 on E7.0 with rings of one descriptor and one slot in region 0 and pegs 4092 to 4095; all services run. -/
def rawSettings (on : Nat) : State :=
  withObjs (pegged (regions eth)) [(0x2C2F, 1, on), (0x2C2F, 2, 128), (0x2C2F, 3, 0x70), (0x2C2F, 5, 0), (0x2C2F, 6, 0), (0x2C2F, 7, 64), (0x2C2F, 8, 0), (0x2C2F, 9, 64),
    (0x2C2F, 10, 4092), (0x2C00, 3, 31), (0x2C00, 1, 1)]
def rawOn (r : RawQueue := ⟨0, 0, [], [], [], 0, false⟩) (pegs : List (Nat × Nat) := [(4092, 1), (4095, 1)]) (mem : List Host.Cell := []) : State :=
  let s := (rawSettings 1).setRaw 31 (some r)
  ({ s with cmp := { s.cmp with hubPegs := pegs } }).setHost ⟨mem, [], 0⟩
theorem test_raw_enable : (rawSettings 0).rawMayEnable 31 = true ∧ (withObjs (rawSettings 0) [(0x2C2F, 2, 129)]).rawMayEnable 31 = false ∧
    nextIs (exec (.rawQueueEnable 31) (rawSettings 0)) (fun t => decide (t.raw 31 = some ⟨0, 0, [], [], [], 0, false⟩) && t.obj 0x2C2F 1 == 1 && t.hubPeg 4095 == 0) = true ∧
    nextIs (exec (.rawQueueDisable 31) (rawOn)) (fun t => decide (t.raw 31 = none) && t.obj 0x2C2F 1 == 0) = true := by decide +kernel
/-- A descriptor of a frame of 14 bytes at offset 256. -/
def rawDesc (flags i : Nat) : List Host.Cell :=
  cellsAt 0x100000 (spell 32 [(0, 8, 256), (8, 2, 14), (0x0A, 1, flags), (0x18, 4, 99), (0x1C, 4, i)]) ++
  cellsAt 0x100100 (([2, 0, 0, 0, 0, 9] ++ (rawSettings 1).portMac 7 0 ++ [0x12, 0x34]))
theorem test_raw_tx : let s := rawOn ⟨0, 0, [], [], [], 0, false⟩ [(4092, 1)] (rawDesc 0 0)
    s.rawServed 31 = true ∧ s.rawPosted 31 0 = 1 ∧ s.rawRange 31 0 32 false = (.ok [.bus 0 0x100000 32], s) ∧
    nextIs (exec (.rawTxDescriptor 31) s) (fun t => ((t.sub 28).queue 0 8).length == 1 && decide (t.raw 31 = some ⟨1, 0, [(0, 99)], [], [], 0, false⟩)) = true := by decide +kernel
theorem test_raw_tx_bad : let s := rawOn ⟨0, 0, [], [], [], 0, false⟩ [(4092, 1)] (rawDesc 8 0)
    s.rawBad 31 0 (((s.readPieces [.bus 0 0x100000 32]).1).getD []) = true ∧
    nextIs (exec (.rawTxDescriptor 31) s) (fun t => t.mem.host.read 0x100020 == 0x0E && t.mem.host.le 0x100030 4 == 99 && t.ctr 0x5700 8 == 0) = true ∧
    gives (exec (.rawTxDescriptor 31) (rawOn ⟨1, 0, [], [], [], 0, false⟩ [(4092, 1)])) (rawOn ⟨1, 0, [], [], [], 0, false⟩ [(4092, 1)]) = true := by decide +kernel
def rawFrame (n : Nat) : RxFrame := ⟨7, 0, 3, 1, 0, 258, false, List.replicate n 5⟩
theorem test_raw_rx : nextIs (exec (.rawRxFrame 31) (rawOn ⟨0, 0, [], [rawFrame 64], [], 0, false⟩ [])) (fun t => t.mem.host.readBytes 0x100060 64 == List.replicate 64 5 &&
      t.mem.host.readBytes 0x100040 10 == [0, 3, 64, 0, 0, 0, 0, 0, 2, 1] && decide (t.raw 31 = some ⟨0, 1, [], [], [], 0, false⟩) && t.ctr 0x5700 9 == 1) = true ∧
    nextIs (exec (.rawRxFrame 31) (rawOn ⟨0, 0, [], [rawFrame 65], [], 0, false⟩)) (fun t => t.ctr 0x5700 0x0A == 1 && t.mem.host.read 0x100060 == 0) = true ∧    nextIs (exec (.rawRxFrame 31) (rawOn ⟨0, 1, [], [rawFrame 64], [], 0, false⟩ [])) (fun t => t.ctr 0x5700 0x0A == 1 && t.mem.host.read 0x100060 == 0) = true := by decide +kernel
/-- Storage connection 63 of drawer 0 over E7.0 in a state, with an entry that has one command of one block of 512 bytes out. -/
def io63 (op : Nat) : NvmeIo :=
  { fid := 0, idx := 0, conn := 63, op := op, fua := false, nsid := 1, slba := 7, block := 512, blocks := 1, issued := 1, commands := 1, xts := false, key := [],
    keyBad := false, pieces := [.bus 0 0x100000 512], mixed := [], windows := [], cmds := [⟨0, 7, 1, 0, 0, [], 4000000000⟩], status := 0, nvmeStatus := 0, failLba := 0 }
def nvme (st : Nat) (ios : List NvmeIo := []) (e : Entry := entry 0 0x48) (digests : Nat := 0) : State :=
  let s := withObjs (flight [e] (pegged (regions eth))) [(0x2C7F, 1, 128), (0x2C7F, 3, st), (0x2C7F, 4, 0x70), (0x2C7F, 0x0B, digests), (0x2C7F, 0x0C, 32), (0x2C7F, 0x0D, 1),
    (0x2C7F, 0x0E, 1), (0x2C00, 3, 31), (0x2C00, 1, 1)]
  { s with clu := { s.clu with ios := ios, conns := [(63, ⟨4000000000, 0, 1, [(1, 512)], 3, 0⟩)] } }
def nvmeEntry (op : Nat) : Entry := entry 0 0x48 ([(8, 2, 63), (0x0A, 1, op), (0x0C, 4, 1), (0x10, 8, 7)] ++ if op = 0 then [] else [(0x1C, 8, 0), (0x24, 4, 2 * 2 ^ 30)])
theorem test_nvme_ready : ∀ op ∈ [0, 1, 2], ready (nvme 2 [] (nvmeEntry op)) 0 0 (nvmeEntry op) 0x48 := by unfold ready; decide +kernel
theorem test_nvme_hypotheses : ([0, 1, 2].all fun op => let s := nvme 2 [] (nvmeEntry op)
    s.obj (State.connObj 63) 1 == 128 && !(nvmeEntry op).sig && s.connState 63 == 2 && s.connServed 63 && (s.conn 63).spaces.any (·.1 == 1) &&
    ((nvmeEntry op).buf 0x1C).isSome) = true := by decide +kernel
theorem test_nvme_refused : ([(0, Instr.nvmeFlush 0 0), (1, .nvmeWrite 0 0), (2, .nvmeRead 0 0)].all fun x =>
    let s := nvme 3 [] (nvmeEntry x.1)
    let w := withObjs (nvme 2 [] (nvmeEntry x.1)) [(0x2C7F, 1, 129)]
    gives (exec x.2 s) (s.complete 0 (nvmeEntry x.1) 9 [63, 0]) && gives (exec x.2 w) (w.complete 0 (nvmeEntry x.1) 0x12 [63, 0])) = true := by decide +kernel
theorem test_nvme_connect : nextIs (exec (.nvmeConnect 63) (nvme 0)) (fun t => t.connState 63 == 1 && (t.conn 63).session == 2 && (t.conn 63).nextCid == 0) = true ∧
    gives (exec (.nvmeConnect 63) (nvme 2)) (nvme 2) = true ∧ nextIs (exec (.nvmeDisconnect 63) (nvme 2)) (fun t => t.connState 63 == 0) = true ∧
    gives (exec (.nvmeDisconnect 63) (nvme 0)) (nvme 0) = true := by decide +kernel
theorem test_nvme_connect_done : nextIs (exec (.nvmeConnectDone 63) (nvme 1)) (fun t => t.connState 63 == 2 && (t.conn 63).keepAt == 5000000000) = true ∧
    gives (exec (.nvmeConnectDone 63) (nvme 3)) (nvme 3) = true ∧
    nextIs (exec (.nvmeConnectTimeout 63 true) (nvme 1)) (fun t => t.connState 63 == 3 && t.obj 0x2C7F 0x0F == 0x12) = true := by decide +kernel
theorem test_nvme_loss : let busy := entry 0 0x48 |> fun e => { e with stage := .busy }
    nextIs (exec (.nvmeConnectionLoss 63) (nvme 2 [io63 1] busy)) (fun t => t.connState 63 == 3 && t.clu.ios.isEmpty && (t.fn 0).crProd == 1 && t.obj 0x2C7F 0x0F == 9) = true ∧
    nextIs (exec (.nvmeIoTimeout 63) (nvme 2 [io63 1] busy)) (fun t => t.connState 63 == 3) = true ∧ (4000000000 + 1 * 1000000000 ≤ up.now) ∧
    gives (exec (.nvmeIoTimeout 63) (nvme 2)) (nvme 2) = true := by decide +kernel
theorem test_nvme_reconnect : nextIs (exec (.nvmeReconnectDelay 63) (nvme 3)) (fun t => t.connState 63 == 1 && t.ctr 0x5700 7 == 1) = true ∧
    gives (exec (.nvmeReconnectDelay 63) { nvme 3 with now := 4999999999 }) { nvme 3 with now := 4999999999 } = true := by decide +kernel
theorem test_nvme_keep_alive : nextIs (exec (.nvmeKeepAlive 63) { nvme 2 with now := 30000000000000 }) (fun t => t.out.length == 1 && (t.conn 63).nextCid == 4) = true ∧
    gives (exec (.nvmeKeepAlive 63) { nvme 2 with now := 29999999999999 }) { nvme 2 with now := 29999999999999 } = true := by decide +kernel
/-- PDUs for command 0: C2HData of four bytes at offset 8, R2T for four bytes there, and a completion with a status. -/
def c2h (d : Nat := 0) : List Byte := nvmePdu d 7 0 ([0, 0, 0, 0] ++ leBytes 4 8 ++ leBytes 4 4 ++ [0, 0, 0, 0]) [1, 2, 3, 4]
def r2tPdu : List Byte := nvmePdu 0 9 0 ([0, 0, 5, 0] ++ leBytes 4 8 ++ leBytes 4 4 ++ [0, 0, 0, 0]) []
def resp (st : Nat) (d : Nat := 0) : List Byte := nvmePdu d 5 0 (List.replicate 12 0 ++ [0, 0] ++ leBytes 2 (2 * st)) []
def out63 (op : Nat) (d : Nat := 0) : State := nvme 2 [io63 op] { entry 0 0x48 with stage := .busy } d
theorem test_nvme_c2h : (out63 2).findCmd 63 (leAt (c2h) 8 2) = some (io63 2, ⟨0, 7, 1, 0, 0, [], 4000000000⟩) ∧ digestOf 0 (c2h) = .good ∧
    nextIs (exec (.nvmeC2hData 63 (c2h)) (out63 2)) (fun t => t.mem.host.readBytes 0x100008 4 == [1, 2, 3, 4] && t.ctr 0x5700 2 == 4) = true ∧
    gives (exec (.nvmeC2hData 63 (c2h)) (nvme 2)) (nvme 2) = true := by decide +kernel
/-- PDUs whose last byte, that of a digest, is wrong. -/
def spoiltData : List Byte := (c2h 3).dropLast ++ [0]
def spoiltHead : List Byte := (resp 0 1).dropLast ++ [0]
theorem test_nvme_bad_data : digestOf 3 spoiltData = .badData ∧
    nextIs (exec (.nvmeC2hData 63 spoiltData) (out63 2 3)) (fun t => t.connState 63 == 3 && t.ctr 0x5700 5 == 1 && (t.fn 0).crProd == 1 && t.obj 0x2C7F 0x0F == 0x0B) = true := by decide +kernel
theorem test_nvme_bad_header : digestOf 1 spoiltHead = .badHeader ∧
    nextIs (exec (.nvmeCapsuleResp 63 spoiltHead) (out63 2 1)) (fun t => t.connState 63 == 3 && t.ctr 0x5700 4 == 1) = true := by decide +kernel
theorem test_nvme_r2t : let s := (out63 1).setHost ⟨cellsAt 0x100008 [1, 2, 3, 4], [], 0⟩
    s.piecesReady (State.subPieces [.bus 0 0x100000 512] 8 4) = true ∧
    nextIs (exec (.nvmeR2t 63 r2tPdu) s) (fun t => decide (t.out = [.nvme 63 (nvmePdu 0 6 4 ([0, 0, 5, 0] ++ leBytes 4 8 ++ leBytes 4 4 ++ [0, 0, 0, 0]) [1, 2, 3, 4])]) &&
      t.ctr 0x5700 3 == 4) = true ∧ gives (exec (.nvmeR2t 63 r2tPdu) (nvme 2)) (nvme 2) = true := by decide +kernel
theorem test_nvme_completion : nextIs (exec (.nvmeCapsuleResp 63 (resp 0)) (out63 1)) (fun t => t.clu.ios.isEmpty && (t.fn 0).crProd == 1 && (t.mem.host.read 0x20001).toNat == 0) = true ∧
    nextIs (exec (.nvmeCapsuleResp 63 (resp 0x281)) (out63 1)) (fun t => t.clu.ios.isEmpty && t.ctr 0x5700 6 == 1 && (t.mem.host.read 0x20001).toNat == 4) = true := by decide +kernel
theorem test_nvme_limit : let x := { io63 1 with cmds := List.replicate 8 ⟨0, 7, 1, 0, 0, [], 0⟩ }
    (nvme 2 [x]).findIo 0 0 = some x ∧ 8 ≤ x.cmds.length ∧ (nvme 2 [x]).pumpIo 0 0 8 = nvme 2 [x] := by decide +kernel
/-- Stream 7 has a period of 1 ms to a collector over M0. -/
def stream (due : Nat) : State :=
  let s := withObjs up [(0x2C87, 1, 1), (0x2C87, 2, 1), (0x2C00, 3, 31), (0x2C00, 1, 1)]
  { s with clu := { s.clu with due := if due = 0 then [] else [(7, due)] } }
theorem test_telemetry_stream : (stream 5000000001).telemetryRuns = true ∧ (stream 5000000001).obj 0x2C87 3 = 0 ∧
    nextIs (exec (.telemetryRecord 7) (stream 5000000001)) (fun t => t.clu.due.num 7 == 6000000001 && t.obj 0x2C87 11 == 1 && t.ctr 0x5700 12 == 1) = true ∧
    gives (exec (.telemetryRecord 7) (stream 5000000002)) (stream 5000000002) = true ∧ gives (exec (.telemetryRecord 7) (stream 0)) (stream 0) = true ∧
    nextIs (exec (.telemetryEnable 7) (stream 0)) (fun t => t.clu.due.num 7 == 6000000001 && t.obj 0x2C87 1 == 1) = true := by decide +kernel
theorem test_cluster_watchdog : nextIs (exec .clusterWatchdogExpiry (stream 5000000001)) (fun t => t.obj 0x2C00 1 == 2 && t.obj 0x2C00 3 == 0 && (t.line 13).up) = true ∧
    (stream 5000000001).line 13 = FaultLine.down ∧
    gives (exec .clusterWatchdogExpiry (withObjs up [(0x2C00, 1, 2)])) (withObjs up [(0x2C00, 1, 2)]) = true := by decide +kernel
theorem test_time_step : up.timeServiceRuns = false ∧ nextIs (exec (.timeStep 5) up) (fun t => t.pw.stepDue == some 5) = true ∧
    (let s := { up with pw := { up.pw with time := 2 ^ 32 } }
     0 ≤ (s.deviceTime : Int) + (s.pw.stepDue.getD 0 + signed 64 (2 ^ 64 - 1)) ∧ nextIs (exec (.timeStep (2 ^ 64 - 1)) s) (fun t => t.pw.stepDue == some (-1)) = true) ∧
    (let s := withObjs up [(0x2C00, 3, 31), (0x2C00, 1, 1), (0x2C01, 1, 1)]
     s.timeServiceRuns = true ∧ gives (exec (.timeStep 5) s) s = true) := by decide +kernel
theorem test_pps : let due := { up with pw := { up.pw with ppsDue := true } }
    nextIs (exec .ppsOutPulse due) (fun t => t.ppsOutHigh && t.pw.ppsOutUntil == some 15000000000) = true ∧ gives (exec .ppsOutPulse up) up = true ∧
    (let s := withObjs up [(0x2600, 5, 1)]
     s.pw.ppsInAt = none ∧ nextIs (exec .ppsInEdge s) (fun t => t.obj 0x2600 6 == s.deviceTime - 20 &&
       gives (exec .ppsInEdge { t with now := 104999999999 }) { t with now := 104999999999 }) = true) := by decide +kernel
/-- A raw queue that waits: it goes on, and takes and delivers nothing; one that closes or has nothing out is disabled as it stands. -/
theorem test_raw_waits : let s := rawOn { txNext := 0, rxNext := 0, offered := [], inbox := [rawFrame 64], held := [], flush := 0, closing := true } [(4092, 1)]
    ((s.raw 31).map (·.waits)) = some true ∧ s.rawServed 31 = true ∧ gives (exec (.rawTxDescriptor 31) s) (s.rawGoOn 31) = true ∧
    gives (exec (.rawRxFrame 31) s) (s.rawGoOn 31) = true ∧ gives (exec (.rawQueueDisable 31) s) s = true := by decide +kernel
theorem test_raw_disable : let s := rawOn ⟨0, 0, [], [], [], 0, false⟩ []
    s.rawPosted 31 0 = 0 ∧ nextIs (exec (.rawQueueDisable 31) s) (fun t => decide (t.raw 31 = none) && t.obj 0x2C2F 1 == 0) = true ∧
    (rawSettings 1).raw 31 = none ∧ gives (exec (.rawQueueDisable 31) (rawSettings 1)) ((rawSettings 1).setObj 0x2C2F 1 0 0) = true := by decide +kernel
/-- A completion without an error of an entry whose key failed to unwrap. -/
theorem test_nvme_bad_key : let s := nvme 2 [{ io63 0 with keyBad := true }] { entry 0 0x48 with stage := .busy }
    leAt (resp 0) 0x16 2 / 2 % 2048 = 0 ∧
    nextIs (exec (.nvmeCapsuleResp 63 (resp 0)) s) (fun t => t.clu.ios.isEmpty && (t.fn 0).crProd == 1 && (t.mem.host.read 0x20001).toNat == 0x0F) = true := by
  decide +kernel

/-! Keys, the ledger and Jorol -/

/-- Drawer 127 has a KEK and one key slot. -/
def keyed : State := (up.setObj 0x2B01 2 127 1).setObj 0x2300 9 127 1
def keyBlob (slot type n : Nat) : List Byte := spell 92 [(0, 2, slot), (4, 1, type), (5, 1, n), (12, 8, 77), (20, 8, 99)]
theorem test_key_write : State.keyBlobOk (keyBlob 0 3 72) = true ∧ State.keyBlobOk (keyBlob 0 3 40) = false ∧ keyed.slotBound 127 0 = false ∧
    nextIs (exec (.keyWrite 127 (keyBlob 0 3 72)) keyed) (fun t => (t.keySlot 127 0).state == 1 && (t.keySlot 127 0).type == 3 &&
      (t.keySlot 127 0).wrapped.length == 72 && decide (t.keySlot 126 4095 = KeySlot.empty) &&
      gives (exec (.keyClear 127 0) t) keyed) = true ∧
    gives (exec (.keyWrite 127 (keyBlob 0 3 40)) keyed) keyed = true ∧ gives (exec (.keyWrite 127 (keyBlob 0 3 72)) up) up = true := by decide +kernel
theorem test_key_bound : let s := (keyed.setObj 0x2B7F 3 127 2).setObj 0x2B7F 2 127 0
    s.slotBound 127 0 = true ∧ gives (exec (.keyClear 127 0) s) s = true ∧ gives (exec (.keyWrite 127 (keyBlob 0 3 72)) s) s = true := by decide +kernel
theorem test_kek_bad : let b := List.replicate 137 (0 : Byte)
    b.length = 137 ∧ P384.decode (b.take 97) = none ∧
    nextIs (exec (.kekLoad 127 b) (keyed.setKeySlot 127 4095 ⟨1, [], 1, []⟩)) (fun t => t.obj 0x2B01 2 127 == 2 && t.ctr 0x5800 5 == 0 &&
      decide (t.keySlot 127 4095 = KeySlot.empty)) = true := by decide +kernel
theorem test_kek_point : let b := P384.encode P384.g ++ List.replicate 40 (0 : Byte)
    b.length = 137 ∧ P384.decode (b.take 97) = some P384.g := by decide +kernel
theorem test_svn_commit : let s := up.setObj 0x2B08 6 0 64
    nextIs (exec (.svnCommit 64) s) (fun t => t.cipher.fusedSvn == 64 && t.obj 0x2B08 8 == 2) = true ∧ gives (exec (.svnCommit 65) s) s = true ∧
    gives (exec (.svnCommit 0) s) s = true := by decide +kernel
/-- A request of a type with a payload, its header naming SESSION 500. -/
def msg (type seq : Nat) (payload : List Byte := []) (index sub : Nat) (session : Nat := 500) : Msg :=
  ⟨1, type, 0, 0, session, seq, index, sub, 0, 0, payload.length, 0, payload, []⟩
/-- A session on slot 16 of credential 1, an Owner, which has taken request 4. -/
def session1 (key : Option (List Byte)) : Session :=
  ⟨500, 1, List.replicate 16 1, List.replicate 16 2, key, 4000000000, 4000000000, 4, [7, 7], 0, 0, [], []⟩
def jorol (ss : Session) : State := { (withObjs up [(0x2D11, 1, 1), (0x2D00, 2, 1)]).setSession 16 (some ss) with now := 1005000000000 }
def keyOne : List Byte := List.replicate 32 1
def tagged (m : Msg) : List Byte := m.encode true ++ hmac256 keyOne (m.encode true)
theorem test_secret_load : let b := List.replicate 32 (5 : Byte) ++ List.replicate 8 0
    b.length = 40 ∧ b.drop 32 = List.replicate 8 0 ∧
    nextIs (exec (.secretLoad 1 b) (jorol (session1 (some keyOne)))) (fun t => (t.session 16).isNone && decide (Sparse.get (fun _ => none) t.led.secrets 1 = some (b.take 32))) = true ∧
    gives (exec (.secretLoad 31 (List.replicate 40 1)) up) up = true := by decide +kernel
/-- The rows of Jorol's requests, by TYPE. -/
def rows (n : Nat) (b : List Byte) : List (Nat × Instr) :=
  [(1, .ledgerRead n b), (2, .ledgerWrite n b), (3, .domainRead n b), (4, .domainBegin n b), (5, .domainSegment n b), (6, .domainEnd n b),
   (7, .domainAbort n b), (0x10, .heartbeat n b), (0x11, .subscribe n b), (0x13, .notifyAck n b), (0x22, .close n b)]
theorem test_rows_in_mailbox : ([1, 2, 3, 4, 5, 6, 7, 0x10, 0x11, 0x13, 0x22].all fun ty =>
    let m := msg ty 5 [] 0x2000 1 0
    let b := m.encode false
    let s := { up with led := { up.led with mbBase := 0x40000 } }
    (Msg.parse false b).isSome && (rows 0 b).all fun r =>
      if r.1 = ty then gives (exec r.2 s) (s.mailboxRun 5 b) && nextIs (exec r.2 s) (fun t => t.led.mbDone == 5) else gives (exec r.2 s) s) = true := by decide +kernel
theorem test_request_tag : let m := msg 1 5 [] 0x2000 1
    let s := jorol (session1 (some keyOne))
    let b := m.encode true ++ List.replicate 32 0
    (Msg.parse true b).map (s.checkTag 16) = some none ∧ gives (exec (.ledgerRead 16 b) s) (s.count 0x5900 2 1) = true := by decide +kernel
/-- A READ of SERVICE_LEVEL, sealed: numbered 5 it is answered, 4 is answered from the copy, 3 is dropped. -/
theorem test_request_sequence : let s := jorol (session1 (some keyOne))
    nextIs (exec (.ledgerRead 16 (tagged (msg 1 5 [] 0x2000 1))) s) (fun t => decide (t.out = [.jorol (tagged { msg 1 5 [2] 0x2000 1 with flags := 1 })]) &&
      (t.session 16).map (·.lastSeq) == some 5) = true ∧
    nextIs (exec (.ledgerRead 16 (tagged (msg 1 4 [] 0x2000 1))) s) (fun t => decide (t.out = [.jorol [7, 7]])) = true ∧
    gives (exec (.ledgerRead 16 (tagged (msg 1 3 [] 0x2000 1))) s) (s.count 0x5900 4 1) = true := by decide +kernel
theorem test_request_close : nextIs (exec (.close 16 (tagged (msg 0x22 5 [] 0 0))) (jorol (session1 (some keyOne)))) (fun t => (t.session 16).isNone && t.out.length == 1) = true ∧
    nextIs (exec (.notifyAck 16 (tagged (msg 0x13 0 [] 0 0))) (jorol (session1 (some keyOne)))) (fun t => t.out.length == 1 && (t.session 16).map (·.lastSeq) == some 4) = true := by
  decide +kernel
theorem test_handle : let bad := { msg 1 5 [] 0x2000 1 with version := 2 }
    bad.wellMade = false ∧ (up.handle .owner 0 1024 bad).1.status = Answer.malformed.code ∧
    (msg 2 5 [] 0x2000 1).wellMade = true ∧ (msg 2 5 [] 0x2000 1).early = false ∧ ((up 0).handle .owner 0 1024 (msg 2 5 [] 0x2000 1)).1.status = Answer.busy.code := by decide +kernel
theorem test_serve_read : up.checkRead .owner 0x2000 1 0 0 false = .ok ∧ (up.serve .owner 0 1024 (msg 1 5 [] 0x2000 1)).2.2.1 = [2] ∧
    (up.serve .owner 0 1024 (msg 1 5 [0] 0x2000 1)).1 = .length ∧ up.checkRead .owner 0x2000 99 0 0 false = .noObject := by decide +kernel
theorem test_write_all : (up.recordNow 0x2702).isSome = true ∧ (up.writeAll .owner 0x2702 0 0 [(1, [0])]).1 = .ok ∧ ((up.writeAll .owner 0x2702 0 0 [(1, [0])]).2).obj 0x2702 1 = 0 ∧
    up.writeAll .owner 0x2702 0 0 [(1, [0]), (2, [0, 0])] = (.length, up) ∧ up.writeAll .owner 0x2702 0 0 [(99, [0])] = (.noObject, up) := by decide +kernel
/-- FW_IMAGE in segments on the mailbox. -/
theorem test_domain_transfer : let key := objKey 0x2B08 3 0
    let w (bs : List Byte) := { up with led := { up.led with domains := [⟨key, 0, 2, bs, 0⟩] } }
    up.checkDomain .owner 0x2B08 3 0 = .ok ∧ State.domainLengths 0x2B08 3 = some (1, 67108864) ∧ (up.domainBegin .owner 0 0x2B08 3 0 1).1 = .ok ∧
    (up.domainBegin .owner 0 0x2B08 3 0 67108864).1 = .ok ∧ (w []).openWrite 0 key = some ⟨key, 0, 2, [], 0⟩ ∧
    ((w []).domainSegment .owner 0 0x2B08 3 0 0 1024 (List.replicate 1397 1)).1 = .length ∧ ((w []).domainSegment .owner 0 0x2B08 3 0 0 1024 [1, 2]).1 = .ok ∧ ((w []).domainSegment .owner 0 0x2B08 3 0 1 1024 [1]) = (.segment, up) ∧
    ((w [1]).domainEnd .owner 0 0x2B08 3 0).1 = .segment ∧ ((w [1, 2]).domainEnd .owner 0 0x2B08 3 0).1 = .ok ∧
    (w []).domainAbort .owner 0 0x2B08 3 0 = (.ok, up) := by decide +kernel
theorem test_heartbeat : let s := withObjs up [(0x2D01, 2, 1000)]
    s.led.watchdog = .disarmed ∧ (s.heartbeatWrite 9).led.watchdog = .armed 1005000000000 ∧ (s.heartbeatWrite 9).obj 0x2D01 1 = 9 := by decide +kernel
def helloMsg : Msg := { msg 0x20 1 ([1, 0, 0, 0] ++ List.replicate 16 9) 0 0 0 with version := 1 }
theorem test_hello : Msg.parse true (helloMsg.encode true) = some helloMsg ∧ helloMsg.wellMade = true ∧ slice helloMsg.payload 1 3 = [0, 0, 0] ∧
    (List.range 16).find? (fun k => (up.session (k + 1)).isNone) = some 0 ∧ (nth 0 helloMsg.payload 0).toNat = 1 ∧
    (let s := { up with led := { up.led with helloBlocked := [(1, 5000000001)] } }
     gives (exec (.hello (helloMsg.encode true)) s) s = true) := by decide +kernel
/-- A half-open session, its secret, and what it must prove. -/
def halfOpen (fails : Nat := 0) : State :=
  let s := jorol { session1 none with openedAt := 1004999999999 }
  { s with led := { s.led with secrets := [(1, some keyOne)], authFails := if fails = 0 then [] else [(1, fails)] } }
theorem test_auth : let proof := hmac256 keyOne (State.proofData 0x31 { session1 none with openedAt := 1004999999999 })
    let m := msg 0x21 1 proof 0 0
    Msg.parse true (m.encode true) = some m ∧ halfOpen.slotOf 500 = some 16 ∧
    nextIs (exec (.auth (m.encode true)) halfOpen) (fun t => ((t.session 16).bind (·.key)).isSome && t.out.length == 1) = true := by decide +kernel
theorem test_auth_fails : let m := msg 0x21 1 (List.replicate 32 0) 0 0
    nextIs (exec (.auth (m.encode true)) (halfOpen 7)) (fun t => t.led.helloBlocked.num 1 == 2005000000000 && t.ctr 0x5900 3 == 1) = true ∧
    nextIs (exec (.auth (m.encode true)) halfOpen) (fun t => t.led.authFails.num 1 == 1) = true := by decide +kernel
theorem test_hello_expiry : let s (t : Nat) := jorol { session1 none with openedAt := t }
    nextIs (exec (.helloExpiry 16) (s 5000000000)) (fun t => (t.session 16).isNone) = true ∧
    gives (exec (.helloExpiry 16) (jorol (session1 (some keyOne)))) (jorol (session1 (some keyOne))) = true := by decide +kernel
theorem test_session_idle : let s (t : Nat) := { jorol { session1 (some keyOne) with lastUse := t } with led :=
      { (jorol { session1 (some keyOne) with lastUse := t }).led with domains := [⟨0, 16, 4, [], 0⟩, ⟨1, 0, 4, [], 0⟩] } }
    nextIs (exec (.sessionIdleExpiry 16) (s 5000000000)) (fun t => (t.session 16).isNone && t.led.domains.length == 1) = true ∧
    gives (exec (.sessionIdleExpiry 16) (s 5000000001)) (s 5000000001) = true := by decide +kernel
theorem test_notify_resend : nextIs (exec (.notifyResend 16) (jorol { session1 (some keyOne) with unacked := [⟨1, 1, 0, [], 995000000000⟩] }))
    (fun t => t.out.length == 1 && t.ctr 0x5900 5 == 1 && ((t.session 16).map fun x => x.unacked.map (·.sentAt)) == some [1005000000000]) = true := by decide +kernel
theorem test_domain_timeout : let s := { up with now := 60000000000000, led := { up.led with domains := [⟨0, 16, 4, [], 0⟩, ⟨1, 16, 4, [], 1⟩, ⟨2, 0, 4, [], 0⟩] } }
    nextIs (exec (.domainTransferTimeout 16) s) (fun t => t.led.domains.map (·.key) == [1, 2]) = true := by decide +kernel
theorem test_watchdog : let s (t : Nat) := { withObjs up [(0x2D01, 3, 2)] with led := { (withObjs up [(0x2D01, 3, 2)]).led with watchdog := .armed t } }
    nextIs (exec .watchdogExpiry (s 5000000000)) (fun t => decide (t.led.watchdog = .expired ∧ t.flt.resetDue = some (.watchdog, 5000000000)) && (t.line 15).up && t.ctr 0x5900 6 == 1) = true ∧
    gives (exec .watchdogExpiry (s 5000000001)) (s 5000000001) = true := by decide +kernel
theorem test_mailbox : let s := { up with led := { up.led with mbBase := 0x40000 } }
    let m := msg 1 9 [] 0x2000 1 0
    up.pageOpen 0 = true ∧ gives (exec (.mbDoorbellWrite 9 []) up) { up with led := { up.led with mbError := true } } = true ∧
    Msg.parse false (m.encode false) = some m ∧
    nextIs (.next (s.mailboxRun 9 (m.encode false))) (fun t => t.led.mbDone == 9 && t.mem.host.readBytes 0x40800 4 == [1, 1, 1, 0] && t.mem.host.read 0x40818 == 2) = true := by
  decide +kernel
theorem test_mailbox_poisoned : let s := { up with led := { up.led with mbBase := 0x40000 }, mem := { up.mem with host := ⟨[], [0x40000], 0⟩ } }
    s.pageOpen 0 = true ∧ s.mem.host.hasBad 0x40000 0x800 = true ∧
    gives (exec (.mbDoorbellWrite 9 []) s) (({ s with led := { s.led with mbError := true } }).raiseSource 7) = true := by decide +kernel
theorem test_mb_status : let s := { up with led := { up.led with mbError := true } }
    gives (exec .mbStatusRead s) { up with out := [.regRead 0 0x114 1] } = true := by decide +kernel
theorem test_reset_command : nextIs (exec (.resetCommand 0) up) (fun t => decide (t.flt.resetDue = some (.command, 5000000000))) = true ∧
    up.flt.inReset = false ∧ up.flt.resetDue = none ∧ gives (exec (.resetCommand 16) up) up = true := by decide +kernel
theorem test_flash_write : let k := objKey 0x2702 1 0
    let s := { withObjs up [(0x2702, 1, 0)] with led := { (withObjs up [(0x2702, 1, 0)]).led with flashDue := [k] } }
    nextIs (exec (.flashWrite k true) s) (fun t => t.led.flashVals == [(k, 0)] && t.led.flashDue.isEmpty) = true ∧
    nextIs (exec (.flashWrite k false) s) (fun t => (t.line 4).up && t.led.flashVals.isEmpty) = true ∧ gives (exec (.flashWrite k true) up) up = true := by decide +kernel

/-! Faults, drawers and migration -/

/-- A line that has risen. -/
def risen : FaultLine := ⟨true, false, false, false, false, 0⟩
theorem test_scorecard_event : let s := up.setLine 23 risen
    let t := up.setLine 4 risen
    up.running = true ∧ up.collecting = true ∧ gives (exec (.scorecardEvent 23) s) ((s.setLine 23 { risen with sampled := true }).scoreEvent 23) = true ∧
    gives (exec (.scorecardEvent 4) t) ((t.setLine 4 risen.fallen).scoreEvent 4) = true ∧ gives (exec (.scorecardEvent 0) up) up = true ∧
    gives (exec (.scorecardEvent 5) up) (((up.setLine 5 risen).setLine 5 risen.fallen).scoreEvent 5) = true ∧ up.line 5 = FaultLine.down := by decide +kernel
/-- Source 12 has counted events in its window; its THRESHOLD is 4. -/
def counted (n : Nat) : State := up.setCtr 0x224C 4 n
theorem test_event_counts : (counted 2).windowOf 12 = 0 ∧ (let s := counted 2
     s.obj 0x224C 1 = 4 ∧ (s.scoreEvent 12).ctr 0x224C 4 = 3 ∧ (s.scoreEvent 12).ctr 0x224C 5 = 1 ∧ bit (s.scoreEvent 12).flt.scorecard 12 = true ∧
     (s.scoreEvent 12).flt.severe = 0 ∧ ((s.scoreEvent 12).scoreEvent 12).flt.severe = 2 ^ 12 ∧ ((s.scoreEvent 12).scoreEvent 12).flt.faulting = 0 ∧
     (((s.scoreEvent 12).scoreEvent 12).scoreEvent 12).ctr 0x224C 4 = 5) ∧
    ({ counted 2 with flt := { up.flt with lastWindow := [(12, 1)] } }.scoreEvent 12).ctr 0x224C 4 = 1 := by decide +kernel
theorem test_event_actions : let s (a : Nat) := up.setObj 0x2240 3 0 a
    (s 0).obj 0x2240 1 = 1 ∧ ((s 0).scoreEvent 0).flt.severe = 1 ∧ ((s 0).scoreEvent 0).flt.faulting = 0 ∧ decide (((s 0).scoreEvent 0).out = up.out) = true ∧
    ((s 2).scoreEvent 0).flt.severe = 1 ∧ ((s 2).scoreEvent 0).flt.faulting = 1 ∧ ((s 3).scoreEvent 0).flt.faulting = 1 ∧
    ((s 3).scoreEvent 0).flt.resetDue = some (.scorecard, 5000000000) ∧ (s 2).obj 0x2240 3 = 2 := by decide +kernel
theorem test_scorecard_clear : let s := { counted 2 with flt := { up.flt with scorecard := 2 ^ 12 + 2, severe := 2 ^ 12, faulting := 2 ^ 12 } }
    nextIs (exec (.scorecardClear (2 ^ 12 + 1)) s) (fun t => t.flt.scorecard == 2 && t.flt.severe == 0 && t.flt.faulting == 0 && t.ctr 0x224C 4 == 0 && decide (t.out = s.out)) = true := by
  decide +kernel
/-- Factory test mode, with an injection set up or under way. -/
def testing (x : Option Injection) : State :=
  let s := withObjs up [(0x7F00, 1, 23), (0x7F00, 2, 2), (0x7F00, 3, 7)]
  { s with pw := { s.pw with testmode := true }, flt := { s.flt with injection := x } }
theorem test_injection : gives (exec .injectStart (testing none)) (testing (some ⟨23, 2, 7, 500001⟩)) = true ∧ gives (exec .injectStart up) up = true ∧
    gives (exec .injectStop up) up = true ∧ gives (exec .injectStop (testing (some ⟨23, 2, 7, 500001⟩))) (testing none) = true := by decide +kernel
theorem test_inject_event : let s := testing (some ⟨23, 2, 7, 500000⟩)
    let u := ((testing (some ⟨23, 1, 7, 500007⟩)).setLine 23 risen.fallen).scoreEvent 23
    s.line 23 = FaultLine.down ∧ gives (exec .injectEvent s) { u with pw := { u.pw with testKept := true } } = true ∧
    gives (exec .injectEvent (testing (some ⟨23, 2, 7, 500001⟩))) (testing (some ⟨23, 2, 7, 500001⟩)) = true := by decide +kernel

/-- Drawer 127 in a state. -/
def drawer127 (st : Nat) : State := up.setObj 0x2300 1 127 st
theorem test_drawer_start : (drawer127 2).drawerState 127 = 2 ∧ (drawer127 0).drawerState 126 = 0 ∧
    nextIs (exec (.drawerStart 127) (drawer127 2)) (fun t => t.drawerState 127 == 0 && decide (t.hrt = up.hrt)) = true ∧
    gives (exec (.drawerStart 127) (drawer127 1)) (drawer127 1) = true ∧ gives (exec (.drawerStart 0) (up.setObj 0x2300 1 0 2)) (up.setObj 0x2300 1 0 2) = true := by decide +kernel
theorem test_drawer_stop : gives (exec (.drawerStop 127) (drawer127 0)) ((drawer127 0).stopEffects 127) = true ∧ gives (exec (.drawerStop 127) (drawer127 1)) (drawer127 1) = true ∧
    gives (exec (.drawerStop 0) up) up = true ∧ (drawer127 1).drawerQuiet 127 = true ∧
    nextIs (exec (.drawerStoppedReached 127) (drawer127 1)) (fun t => t.drawerState 127 == 2) = true ∧
    (let s := (drawer127 1).setFn 127 { page with entries := [entry 0 2] }
     s.drawerQuiet 127 = false ∧ gives (exec (.drawerStoppedReached 127) s) s = true) := by decide +kernel
theorem test_recycle : (up.fn 127).wedged = false ∧ gives (exec (.recycle 0) up) up = true ∧
    gives (exec (.recycle 127) (up.setFn 127 { page with wedged := true })) (up.setFn 127 { page with wedged := true }) = true := by decide +kernel
/-- CHUNK_FIRST, stack 7's last chunk, to drawer 127, with an owner now. -/
def chunked (own : Nat) (count : Nat := 1) : State :=
  let s := withObjs up [(0x2301, 1, 196575), (0x2301, 2, count), (0x2301, 3, 255)]
  { s with mem := { s.mem with owner := s.mem.owner.setNum 196575 own } }
theorem test_chunk : reservedChunk 196575 = false ∧ (chunked 0).migrating 127 = false ∧
    nextIs (exec .chunkGo (chunked 0)) (fun t => t.mem.owner.num 196575 == 255 && t.obj 0x2301 5 == 2 && t.obj 0x2301 6 == 1) = true ∧
    nextIs (exec .chunkGo (chunked 129)) (fun t => t.obj 0x2301 5 == 3 && t.obj 0x2301 7 == 2 && decide (t.mem = (chunked 129).mem)) = true ∧
    gives (exec .chunkGo (chunked 0 34)) (chunked 0 34) = true ∧ gives (exec .chunkGo ((chunked 0).setObj 0x2301 5 0 1)) ((chunked 0).setObj 0x2301 5 0 1) = true := by decide +kernel
theorem test_bench_owners : gives (exec (.benchOwnerWrite []) up) up = true ∧ decide (up.benchByte 511 0 = up) = true ∧
    (List.replicate 512 (255 : Byte)).length = 512 := by decide +kernel
theorem test_bench_byte : let s := up.setBench 511 { up.bench 511 with job := some 5 }
    s.cmp.ownerDue.find? (·.1 == 511) = none ∧ (s.bench 511).job = some 5 ∧ s.benchOwner 511 ≠ 255 ∧ (s.benchByte 511 255).cmp.ownerDue = [(511, 255)] ∧
    decide ((s.benchByte 511 255).cmp.benches = s.cmp.benches) = true ∧ decide (up.benchByte 511 255 = up.giveBench 511 255) = true := by decide +kernel

/-- The migration command of a number. -/
def migOf (d k : Nat) : Instr :=
  if k = 1 then .migSave d else if k = 2 then .migRestore d else if k = 3 then .migCopyOut d else if k = 4 then .migCopyIn d
  else if k = 5 then .migLogStart d else if k = 6 then .migLogSwap d else .migLogStop d
/-- Drawer 127 with a state, a log and a blob. -/
def migrant (st log : Nat) (blob : List Byte := []) : State := ((((drawer127 st).setObj 0x23C0 9 127 log).setBlob 0x23C0 0x0B 127 blob).setBlob 0x23C0 0x0D 127 blob)
theorem test_migration_refused : ([1, 2, 3, 4, 5, 6, 7].all fun k =>
    let s := if k = 5 then migrant 0 1 else migrant 0 0
    gives (exec (migOf 0 k) up) up && !s.migAllowed 127 k &&
    nextIs (exec (migOf 127 k) s) (fun t => t.obj 0x23C0 2 127 == 3 && t.obj 0x23C0 3 127 == 0x12)) = true := by decide +kernel
theorem test_migration_log : (migrant 0 0).migAllowed 127 5 = true ∧ (migrant 0 1).migAllowed 127 6 = true ∧ (migrant 0 1).migAllowed 127 7 = true ∧
    nextIs (exec (.migLogStart 127) (migrant 0 0)) (fun t => t.obj 0x23C0 9 127 == 1 && t.obj 0x23C0 2 127 == 2) = true ∧
    nextIs (exec (.migLogSwap 127) (migrant 0 1)) (fun t => t.obj 0x23C0 9 127 == 2) = true ∧
    nextIs (exec (.migLogStop 127) (migrant 0 2)) (fun t => t.obj 0x23C0 9 127 == 0) = true := by decide +kernel
/-- What SAVE leaves of drawer 127. -/
def saved : List Byte := (((migrant 2 0).setObj 0x23C0 2 127 1).setObj 0x23C0 1 127 1).migBlob 127
theorem test_migration_save : (migrant 2 0).migAllowed 127 1 = true ∧ State.blobOk saved = true ∧ saved.length = 80 ∧
    nextIs (exec (.migSave 127) (migrant 2 0)) (fun t => t.blob 0x23C0 0x0B 127 == saved && t.obj 0x23C0 2 127 == 2 && decide (t.mem = up.mem)) = true := by decide +kernel
theorem test_migration_restore : let s := migrant 2 0 saved
    let t := (s.setObj 0x23C0 2 127 1).setObj 0x23C0 1 127 2
    s.migAllowed 127 2 = true ∧ t.restoreOk 127 saved = true ∧ (State.blobQps saved).isEmpty = true ∧ State.blobOk [0] = false ∧
    gives (exec (.migRestore 127) s) ((t.restore 127 saved).migEnd 127 0) = true ∧
    nextIs (exec (.migRestore 127) (migrant 2 0 [0])) (fun u => u.obj 0x23C0 2 127 == 3 && u.obj 0x23C0 3 127 == 0x0E) = true := by decide +kernel
/-- Drawer 127 is stopped, and STAGING names region 262143 of drawer 0, which lies behind P0. -/
def stagedBus (len : Nat) : State :=
  let s := (migrant 2 0).setObj 0x23C0 4 127 (262143 * 2 ^ 40)
  s.setRegion 262143 ⟨true, 0, 0, .bus, 0, 0x1000000, len, 31⟩
theorem test_migration_copy : let s := ((stagedBus 4096).setObj 0x23C0 2 127 1).setObj 0x23C0 1 127 3
    (stagedBus 4096).migAllowed 127 3 = true ∧ (stagedBus 4096).migAllowed 127 4 = true ∧ gives (exec (.migCopyOut 127) (stagedBus 4096)) (s.copyRun 127 true) = true ∧
    gives (exec (.migCopyIn 127) (stagedBus 4096)) ((s.setObj 0x23C0 1 127 4).copyRun 127 false) = true := by decide +kernel
theorem test_copy_run : let s := stagedBus 4096
    let t := { stagedBus 4096 with mem := { (stagedBus 4096).mem with owner := [(0, 255)] } }
    s.imageChunks 127 = [] ∧ (s.resolveRegion 0 262143 0 0 true false).1 = .ok [] ∧ decide (s.copyRun 127 true = (s.setObj 0x23C0 0x0C 127 0).migEnd 127 0) = true ∧
    t.imageChunks 127 = [0] ∧ (t.resolveRegion 0 262143 0 2097156 true false).1 = .fail 1 := by decide +kernel

/-! Resets, bring-up, power and pins -/

theorem test_power_good : State.reset.pw.mainUp = false ∧ gives (exec .powerGood up) up = true ∧
    gives (exec .mainRailsDown State.reset) State.reset = true ∧ nextIs (exec .mainRailsDown up) (fun t => !t.pw.mainUp && !t.pw.rootLocked && t.mem.dev.losses == 1) = true ∧
    gives (exec (.mainRailExcursion 6) State.reset) State.reset = true ∧ gives (exec (.mainRailReturn 6) State.reset) State.reset = true ∧
    gives (exec (.vddAuxExcursion false) State.reset) State.reset = true := by decide +kernel
theorem test_rails : up.line 2 = FaultLine.down ∧ nextIs (exec (.mainRailExcursion 6) up) (fun t => t.pw.railsOut == 64 && (t.line 2).up &&
      nextIs (exec (.mainRailReturn 6) t) fun u => u.pw.railsOut == 0 && !(u.line 2).up) = true ∧
    nextIs (exec (.vddAuxExcursion false) up) (fun t => !t.pw.auxOk && (t.line 2).up && nextIs (exec (.vddAuxExcursion true) t) fun u => u.pw.auxOk && !(u.line 2).up) = true := by
  decide +kernel
/-- Standby, with pattern 7 enabled: byte 0 is 0xAB. -/
def asleep : State :=
  { State.reset with pw := { PowerState.reset with wakeEnable := 128, wakePatterns := List.replicate 7 [] ++ [spell 144 [(0, 1, 1), (16, 1, 0xAB)]] } }
def wakeFrame : List Byte := let f := spell 60 [(0, 1, 0xAB)]; f ++ leBytes 4 (crc32 f)
theorem test_wake : wakeFrame.length = 64 ∧ fcsOk wakeFrame = true ∧ asleep.wakeReason wakeFrame = 8 ∧
    nextIs (exec (.wakeFrameReceive wakeFrame) asleep) (fun t => t.obj 0x2581 0x0A == 8 && t.pw.woken && t.alertPin && gives (exec (.wakeFrameReceive wakeFrame) t) t) = true ∧
    gives (exec (.wakeFrameReceive wakeFrame) up) up = true := by decide +kernel
theorem test_reset_pins : nextIs (exec .perst0Assert up) (fun t => t.pw.perst0 && decide (t.flt.resetDue = some (.perst0, 5000000000) ∧ t.ring.p0 = PcieLink.down) &&
      gives (exec .perst0Deassert { t with flt := { t.flt with resetDue := none } }) { up with ring := { up.ring with p0 := PcieLink.down }, pw := { up.pw with dAt := some 5000000000 } }) = true ∧
    up.ring.p1.up = false ∧ nextIs (exec .perst1Assert up) (fun t => t.pw.perst1 && !t.ring.p1BusMaster && decide (t.flt = up.flt)) = true ∧
    gives (exec .perst1Deassert { up with pw := { up.pw with perst1 := true } }) up = true := by decide +kernel
theorem test_reset_due : let s := { up with flt := { up.flt with resetDue := some (.watchdog, 7) } }
    s.running = true ∧ s.flt.resetDue = some (.watchdog, 7) ∧ gives (exec .fullReset up) up = true := by decide +kernel
/-- The reset itself, up to the exchange key that it draws. -/
theorem test_discard : let s := ({ up with flt := { up.flt with scorecard := 5 } } : State)
    (s.discardAll false).nextEpoch.obj 0x2001 3 = s.obj 0x2001 3 + 1 ∧ (s.discardAll false).flt.scorecard = 5 ∧ (s.discardAll false).flt.resetDue = none ∧
    (s.discardAll false).ring.p0.up = true ∧ (s.discardAll true).ring.p0.up = false := by decide +kernel

/-- P0 with its link in a state, after D. -/
def linked (p : PcieLink) (held : List HeldWrite := []) : State :=
  { up with ring := { up.ring with p0 := p }, pw := { up.pw with dAt := some 0 }, mem := { up.mem with p0Held := held } }
theorem test_p0_down : gives (exec .p0DlDown up) { up with ring := { up.ring with p0 := { up.ring.p0 with up := false, downSince := some 5000000000 } } } = true ∧
    gives (exec .p0DlDown (linked PcieLink.down)) (linked PcieLink.down) = true ∧ gives (exec (.p0DlUp 6 8 true) up) up = true := by decide +kernel
theorem test_p0_up : (linked PcieLink.down).pw.bootStuck = false ∧ linkTrains 6 8 = true ∧ gives (exec (.p0DlUp 6 8 true) (linked PcieLink.down)) (linked ⟨true, true, none, 6, 8, true⟩) = true ∧
    gives (exec (.p0DlUp 6 8 true) (linked ⟨false, true, some 4000000000, 0, 0, false⟩)) (linked ⟨true, true, none, 6, 8, true⟩) = true ∧
    nextIs (exec (.p0DlUp 6 8 true) (linked ⟨false, true, some 3999999999, 0, 0, false⟩)) (fun t => decide (t.flt.resetDue = some (.p0LinkLoss, 5000000000))) = true ∧
    nextIs (exec (.p0DlUp 6 8 true) (linked PcieLink.down [⟨127, 0x5000, [7], none⟩])) (fun t => t.mem.host.read 0x5000 == 7 && t.mem.p0Held.isEmpty) = true := by decide +kernel
theorem test_p0_loss : nextIs (exec .p0LinkLossTimeout (linked ⟨false, true, some 4000000000, 0, 0, false⟩)) (fun t => decide (t.flt.resetDue = some (.p0LinkLoss, 5000000000))) = true ∧
    gives (exec .p0LinkLossTimeout (linked ⟨false, true, some 4000000001, 0, 0, false⟩)) (linked ⟨false, true, some 4000000001, 0, 0, false⟩) = true := by decide +kernel
theorem test_p0_loss_in_reset : let s := { linked ⟨false, true, some 4000000000, 0, 0, false⟩ with flt := { up.flt with inReset := true } }
    s.p0Late 4000000000 = true ∧ nextIs (exec .p0LinkLossTimeout s) (fun t => t.flt.resetDue.isNone) = true ∧ (linkTrains 6 16 && linkTrains 1 4 && !linkTrains 7 8 && !linkTrains 0 4) = true := by decide +kernel
theorem test_p1 : gives (exec .p1LinkDown up) up = true ∧ 2 ≤ up.level ∧ gives (exec (.p1DlUp 5 4 false) (up 1)) (up 1) = true ∧
    nextIs (exec (.p1DlUp 5 4 false) up) (fun t => t.ring.p1.up && nextIs (exec .p1LinkDown t) fun u => !u.ring.p1.up && !u.ring.p1BusMaster && (u.line 12).up) = true := by
  decide +kernel

/-- Level 0 or 1, its stacks up, with PowerState altered. -/
def rising (level : Nat) (f : PowerState → PowerState) (st : Stack := { (up.stack 0) with up := true }) : State :=
  let s := { up level with pw := f { (up level).pw with dAt := some 0 } }
  (List.range 8).foldl (fun t k => t.setStack k st) s
theorem test_boot : let s := { up 0 with pw := { (up 0).pw with bootReady := true } }
    s.running = true ∧ s.pw.mainUp = true ∧ s.pw.bootReady = true ∧ s.pw.held = false ∧ gives (exec .bootRomRun up) up = true := by decide +kernel
theorem test_stack_bringup : let s := { up 0 with pw := { (up 0).pw with stacksDone := 7 } }
    s.recovery = false ∧ s.pw.held = false ∧ (s.stack 7).lost = false ∧ nextIs (exec (.stackBringup 7) s) (fun t => (t.stack 7).up && t.pw.stacksDone == 8 && decide ((t.stack 7).clock = .mhz800)) = true ∧
    gives (exec (.stackBringup 6) s) s = true ∧ gives (exec (.stackBringup 0) up) up = true := by decide +kernel
theorem test_stage1 : let s := { up 0 with pw := { (up 0).pw with stacksDone := 8, dAt := some 0 } }
    s.stage1Ready = true ∧ s.recovery = false ∧ s.obj 0x2001 2 ≠ 5 ∧ gives (exec .stage1Entry s) s.stage1 = true ∧ s.stage1.level = 1 ∧ s.stage1.obj 0x2C00 3 = 0x1F ∧
    up.stage1Ready = false ∧ gives (exec .stage1Entry up) up = true := by decide +kernel
theorem test_stage1_recovery : let s := { up 0 with cipher := { (up 0).cipher with running := some 2 } }
    s.recovery = true ∧ s.obj 0x2001 2 ≠ 5 ∧ s.stage1.level = 1 ∧ s.stage1.obj 0x2C00 3 = 0 := by decide +kernel
theorem test_calibration : gives (exec .laneCalibration (up 1)) { up 1 with pw := { (up 1).pw with calibrated := true } } = true ∧ (up 1).recovery = false ∧
    gives (exec .laneCalibration up) up = true := by decide +kernel
theorem test_trim : let s := rising 1 fun p => { p with calibrated := true, trimsDone := 7 }
    s.running = true ∧ s.trimFailed = false ∧ s.nextStack 7 = some 7 ∧ (List.range 64).all (fun n => (s.bench (448 + n)).run != .running) = true ∧ s.line 8 = FaultLine.down ∧
    nextIs (exec (.stackTrim 7 true) s) (fun t => (t.stack 7).trimmed && t.pw.trimsDone == 8) = true ∧
    nextIs (exec (.stackTrim 7 false) s) (fun t => (t.stack 7).trimFailed && (t.line 8).up) = true ∧ gives (exec (.stackTrim 6 true) s) s = true := by decide +kernel
theorem test_clock_step : let s (at_ : Nat) := rising 1 (fun p => { p with calibrated := true, trimsDone := 8, stepsDone := 7, lastStepAt := at_ }) { (up.stack 0) with up := true, trimmed := true }
    (s 0).allTrimmed = true ∧ (s 0).nextStack 7 = some 7 ∧ nextIs (exec (.clockStep 7) (s 4900000000)) (fun t => decide ((t.stack 7).clock = .mhz1600) && t.pw.stepsDone == 8 && t.pw.lastStepAt == 5000000000) = true ∧
    gives (exec (.clockStep 7) (s 4900000001)) (s 4900000001) = true := by decide +kernel
theorem test_stage2 : let s := rising 1 (fun p => { p with calibrated := true, trimsDone := 8, stepsDone := 8 }) { (up.stack 0) with up := true, trimmed := true }
    s.stage2Ready = true ∧ gives (exec .stage2Entry s) s.stage2 = true ∧ s.stage2.level = 2 ∧ up.stage2Ready = false ∧ gives (exec .stage2Entry up) up = true := by decide +kernel

theorem test_next_kp : State.nextKp 0 2000000 1000 false = 32 ∧ State.nextKp 40 2000001 1000 false = 63 ∧ State.nextKp 5 980000 1000 false = 4 ∧
    State.nextKp 5 980001 1000 false = 5 ∧ State.nextKp 5 1000000 1000 false = 5 ∧ State.nextKp 5 1000001 1000 false = 6 ∧ State.nextKp 60 0 0 true = 63 := by decide
theorem test_next_kt : State.nextKt 62 0 100000 = 63 ∧ State.nextKt 5 8 90000 = 7 ∧ State.nextKt 5 8 86999 = 4 ∧ State.nextKt 5 8 87000 = 5 ∧ State.nextKt 5 0 99999 = 5 := by decide
theorem test_governor : let s := { up with led := { up.led with vals := up.led.vals ++ [(objKey 0x2101 1 0, 100)] } }
    let r := (List.range 16).map fun i => if i % 2 = 0 then 1 else 25
    s.pw.voutMode.num 7 / 32 = 0 ∧ (s.takeRail 7 1 25).pw.railMa.num 7 = 25000 ∧ (s.takeRail 7 0x10000 25).pw.railMisses.num 7 = 1 ∧
    (s.governorSample r).pw.kp = 32 ∧ (s.governorSample r).ctr 0x5A00 3 = 200 ∧ gives (exec (.governorSample r) (up 0)) (up 0) = true := by
  decide +kernel
theorem test_thermal : let ts (t : Nat) := List.replicate 8 50000 ++ [t]
    State.tripAt 8 ≤ signed 32 (nth 0 (ts 105000) 8) ∧ nextIs (exec (.thermalReading (ts 105000)) up) (fun t => t.pw.tripped && !t.running && decide (t.out = up.out)) = true ∧
    up.pw.kt = [] ∧ (∀ d, d < 9 → signed 32 (nth 0 (ts 79999) d) < 80000) ∧
    nextIs (exec (.thermalReading (ts 79999)) up) (fun t => !t.pw.tripped && t.pw.kt.isEmpty && decide (t.out = up.out)) = true := by decide +kernel
theorem test_root : nextIs (exec .rootLockLoss up) (fun t => !t.running && t.mem.dev.losses == 1 && !t.ring.p0.up && gives (exec .rootLockLoss t) t &&
      t.pw.lostD == 0 && t.pw.lostE == 0 && !t.pw.lostP1 && nextIs (exec .rootLockRestore t) fun u => u.running && u.mem.dev.losses == 1) = true ∧
    gives (exec .rootLockRestore up) up = true := by decide +kernel
theorem test_interface : let s := rising 2 id
    s.mem.moves = [] ∧ s.fab.contexts = [] ∧ s.line 23 = FaultLine.down ∧ nextIs (exec (.stackInterfaceLoss 7) s) (fun t => (t.stack 7).lost && (t.line 23).up && gives (exec (.stackInterfaceLoss 7) t) t &&
      nextIs (exec (.stackInterfaceRetrained 7) t) fun u => !(u.stack 7).lost && !(u.line 23).up) = true ∧ gives (exec (.stackInterfaceRetrained 7) s) s = true := by decide +kernel
/-- PERST0_N asserted, and boundary cells that drive FAULT_N high. -/
def pinned : State := { up with pw := { up.pw with perst0 := true, boundary := 96 } }
theorem test_tap : gives (exec .tapReset { up with pw := { up.pw with tap := .highz } }) up = true ∧
    nextIs (exec .idcode up) (fun t => decide (t.out = [.tdo 32 0x10480997])) = true ∧ nextIs (exec .bypass up) (fun t => decide (t.out = [.tdo 1 0] ∧ t.pw.tap = .bypass)) = true ∧
    nextIs (exec .extest up) (fun t => decide (t.out = [.tdo 1 0] ∧ t.pw.tap = .extest)) = true ∧ nextIs (exec .clamp pinned) (fun t => t.outputPins == [some true, none, none, none, none, none]) = true ∧
    nextIs (exec .highz pinned) (fun t => t.outputPins == List.replicate 6 none) = true ∧ nextIs (exec .highz up) (fun t => t.outputPins == t.ownPins) = true := by decide +kernel
theorem test_tap_standby : State.reset.pw.mainUp = false ∧ gives (exec .extest State.reset) State.reset = true ∧ gives (exec (.samplePreload 131071) State.reset) State.reset = true ∧
    gives (exec .highz State.reset) State.reset = true := by decide +kernel

/-! Completion: states that meet the conditions of each form -/

theorem test_completes_page : up.running = true ∧ up.pageOpen 0 = true ∧ 0 < up.level ∧ up.collecting = true ∧ up.pw.mainUp = true ∧ up.pw.rootLocked = true ∧
    up.ring.p0.up = true ∧ nextIs (exec (.ringStatusRead 0) up) (fun t => t.out.length == 1) = true := by decide +kernel
theorem test_completes_ledger : (keyed.keyWrite 127 (keyBlob 0 3 72)).isSome = true ∧ ((up.setObj 0x2B08 6 0 64).svnCommit 64).isSome = true ∧
    ((gated 1000).configChange 7).isSome = true ∧ ((routed 0).routeCommand 1).isSome = true ∧ (chunked 0).led.chunkRun = none ∧ (chunked 0).chunkGo.isSome = true ∧
    ((drawer127 2).recycle 127).isSome = true ∧ ((rawSettings 0).rawEnable 31).isSome = true := by decide +kernel

end Sys2Proof.Tests
end

section
/-! Counters (R12): what a count makes of its counter, and that it touches nothing else. -/

namespace Sys2Proof.Machine.State

variable (s : State)

/-- Counting nothing leaves a counter of its type as it is, so one equation gives the counter after any count. -/
theorem ctr_count (i b n : Nat) (h : s.ctr i b < 2 ^ 64) : (s.count i b n).ctr i b = min (s.ctr i b + n) (2 ^ 64 - 1) := by
  by_cases hn : n = 0
  · subst hn
    rw [count_eq, if_pos rfl]
    omega
  · rw [ctr_count_self s i b n hn]
    rfl

/-- Nothing but the counters differs after a count. -/
theorem count_frame (i b n : Nat) : { s.count i b n with led := { (s.count i b n).led with ctrs := s.led.ctrs } } = s := by
  rw [count_eq]
  split <;> rfl

end Sys2Proof.Machine.State

open Sys2Proof Sys2Proof.Machine Sys2Proof.Claims

/-- Settles O6: a count is a saturating addition on one key of the table of counters. -/
theorem countersSaturate : Obligations.CountersSaturate := by
  unfold Obligations.CountersSaturate
  intro s i b n h
  exact ⟨s.ctr_count i b n h, fun j k hne => s.ctr_count_ne i b n hne.symm, s.count_frame i b n⟩

end

section
/-! Storage connections (R389 to R394): what set-up and its end leave alone, what each row of a connection answers, and what a PDU of a
READY connection does. -/

namespace Sys2Proof.Machine

theorem slice_zero (bs : List Byte) (n : Nat) : slice bs 0 n = bs.take n := rfl

namespace State

variable (s : State)

/-! What the service's operations leave alone. `besideFrames` is a state without what the offer of a frame to a sub-port may touch. -/

/-- A state without its sub-ports' queues and its counters. -/
def besideFrames (s : State) : State := { s with eth := EthState.reset, led := { s.led with ctrs := [] } }

section Fields
variable {s t : State} (h : t.besideFrames = s.besideFrames)
include h
theorem frames_mem : t.mem = s.mem := congrArg (·.mem) h
theorem frames_clu : t.clu = s.clu := congrArg (·.clu) h
theorem frames_out : t.out = s.out := congrArg (·.out) h
theorem frames_vals : t.led.vals = s.led.vals := congrArg (·.led.vals) h
theorem frames_obj (i b n : Nat) : t.obj i b n = s.obj i b n := congrArg (fun v => Sparse.get objDefault v (objKey i b n)) (frames_vals h)
theorem frames_conn (c : Nat) : t.conn c = s.conn c := congrArg (fun k : ClusterState => Sparse.get (fun _ => NvmeConn.reset) k.conns c) (frames_clu h)
theorem besideFrames_emit_congr (o : Output) : (t.emit o).besideFrames = (s.emit o).besideFrames :=
  congrArg (fun u : State => u.emit o) h
end Fields

@[simp] theorem besideFrames_setSub (k : Nat) (v : SubPort) : (s.setSub k v).besideFrames = s.besideFrames := rfl

@[simp] theorem besideFrames_count (i b n : Nat) : (s.count i b n).besideFrames = s.besideFrames := by
  rw [count_eq]; split <;> rfl

@[simp] theorem besideFrames_offerFrame (port lane tc requester : Nat) (f : TxFrame) :
    (s.offerFrame port lane tc requester f).besideFrames = s.besideFrames := by
  unfold offerFrame; dsimp only; split
  · exact besideFrames_count s _ _ _
  · exact besideFrames_setSub s _ _

@[simp] theorem besideFrames_offerOwn (port lane : Nat) (f : List Byte) : (s.offerOwn port lane f).besideFrames = s.besideFrames :=
  besideFrames_offerFrame s port lane _ 8 _

@[simp] theorem besideFrames_solicit (port lane : Nat) (ip : List Byte) : (s.solicit port lane ip).besideFrames = s.besideFrames := by
  unfold solicit; dsimp only; split
  · rfl
  · split <;> simp

@[simp] theorem besideFrames_resolveHop (c : Nat) : (s.resolveHop c).besideFrames = s.besideFrames := by
  simp only [resolveHop, apply_ite besideFrames, besideFrames_solicit, ite_self]

/-! The connection and its objects. A proof below that reads one back rewrites it update by update: to check such a read by
definition, the kernel would evaluate the keys of the sparse tables. -/

@[simp] theorem conn_emit (o : Output) (c : Nat) : (s.emit o).conn c = s.conn c := rfl

/-- The subindices of one connection are objects of their own. -/
theorem obj_setObj_sub {i b b' v : Nat} (hb : b < 256) (hb' : b' < 256) (h : b ≠ b') : (s.setObj i b 0 v).obj i b' = s.obj i b' :=
  obj_setObj_ne s i b 0 v (objKey_ne hb hb' (by decide) (by decide) (.inr (.inl h)))

@[simp] theorem connState_setObj (c v : Nat) : (s.setObj (connObj c) 3 0 v).connState c = v := obj_setObj s _ 3 0 v
@[simp] theorem connState_setObj_reason (c v : Nat) : (s.setObj (connObj c) 0x0F 0 v).connState c = s.connState c :=
  obj_setObj_sub s (by decide) (by decide) (by decide)
@[simp] theorem connState_setConn (c k : Nat) (v : NvmeConn) : (s.setConn c v).connState k = s.connState k := rfl
@[simp] theorem digests_setConn (c k : Nat) (v : NvmeConn) : (s.setConn c v).digests k = s.digests k := rfl
@[simp] theorem digests_setObj (c v : Nat) : (s.setObj (connObj c) 3 0 v).digests c = s.digests c :=
  obj_setObj_sub s (by decide) (by decide) (by decide)

/-! Set-up and its end (R389, R391) -/

/-- A connection whose set-up begins: CONNECTING, in a session of its own (R391). -/
def connecting (s : State) (c : Nat) : State :=
  (s.setObj (connObj c) 3 0 1).setConn c
    { s.conn c with since := s.now, session := (s.conn c).session + 1, spaces := [], nextCid := 0,
                    tcpPort := 49152 + Config.tcpPort c ((s.conn c).session + 1) % 16384 }

@[simp] theorem connecting_mem (c : Nat) : (s.connecting c).mem = s.mem := by
  rw [connecting, setConn_mem, setObj_mem]
@[simp] theorem connecting_out (c : Nat) : (s.connecting c).out = s.out := by
  rw [connecting, setConn_out, setObj_out]
@[simp] theorem connState_connecting (c : Nat) : (s.connecting c).connState c = 1 := by
  rw [connecting, connState_setConn, connState_setObj]
@[simp] theorem digests_connecting (c : Nat) : (s.connecting c).digests c = s.digests c := by
  rw [connecting, digests_setConn, digests_setObj]

/-- Set-up begins: the next hop is asked for where the service runs, and ICReq goes out. -/
theorem beginConn_eq (c : Nat) : s.beginConn c =
    (if (s.connecting c).connServed c then (s.connecting c).resolveHop c else s.connecting c).emit
      (.nvme c (icReq ((s.connecting c).digests c))) := rfl

/-- But for the frame that may ask for the next hop, the beginning of set-up does nothing else. -/
theorem besideFrames_beginConn (c : Nat) :
    (s.beginConn c).besideFrames = ((s.connecting c).emit (.nvme c (icReq (s.digests c)))).besideFrames := by
  rw [beginConn_eq, digests_connecting]
  refine besideFrames_emit_congr ?_ _
  split <;> simp

/-- The set-up PDUs after the first, in order (R389, log 75). -/
def setupPdus (s : State) (c : Nat) : List Output :=
  [connectCapsule (s.digests c) 0 32 (s.blob (connObj c) 9) (s.blob (connObj c) 0x0A), capsule (s.digests c) 0x06 1 0 4096 [1],
    capsule (s.digests c) 0x09 2 0 0 [7, 0, 0, 0, 0, 0, 0, 0], icReq (s.digests c),
    connectCapsule (s.digests c) 1 (s.obj (connObj c) 0x0C) (s.blob (connObj c) 9) (s.blob (connObj c) 0x0A)].map (Output.nvme c)

/-- Set-up sends them, and does nothing else. -/
theorem setupConn_eq (c : Nat) : s.setupConn c = { s with out := s.out ++ s.setupPdus c } := by
  simp [setupConn, setupPdus, emit]

@[simp] theorem setupConn_out (c : Nat) : (s.setupConn c).out = s.out ++ s.setupPdus c := by rw [setupConn_eq]
@[simp] theorem setupConn_mem (c : Nat) : (s.setupConn c).mem = s.mem := by rw [setupConn_eq]
@[simp] theorem connState_setupConn (c k : Nat) : (s.setupConn c).connState k = s.connState k := by rw [setupConn_eq]; rfl
@[simp] theorem conn_setupConn (c k : Nat) : (s.setupConn c).conn k = s.conn k := by rw [setupConn_eq]; rfl

/-- They do not speak of the connection's state. -/
@[simp] theorem setupPdus_setObj_state (c v : Nat) : (s.setObj (connObj c) 3 0 v).setupPdus c = s.setupPdus c := by
  rw [setupPdus, digests_setObj, obj_setObj_sub s (by decide) (by decide) (by decide)]
  rfl

@[simp] theorem setupPdus_setConn (c : Nat) (v : NvmeConn) : (s.setConn c v).setupPdus c = s.setupPdus c := rfl

/-- Leaving for DOWN with no entry on the connection sets its state, its reason and the time, and ends nothing. -/
theorem leaveConn_down_unused (c e : Nat) (bad : Option (Nat × Nat × Nat)) (h : ∀ x ∈ s.clu.ios, x.conn ≠ c) :
    s.leaveConn c 3 e bad =
      ((s.setObj (connObj c) 3 0 3).setConn c { s.conn c with since := s.now, spaces := [] }).setObj (connObj c) 0x0F 0 e := by
  have hnone : s.clu.ios.filter (·.conn == c) = [] := List.filter_eq_nil_iff.2 fun x hx => by simpa using h x hx
  rw [leaveConn, hnone, if_pos rfl, List.foldl_nil]

theorem leaveConn_down_reads (c e : Nat) (bad : Option (Nat × Nat × Nat)) (h : ∀ x ∈ s.clu.ios, x.conn ≠ c) :
    (s.leaveConn c 3 e bad).connState c = 3 ∧ (s.leaveConn c 3 e bad).obj (connObj c) 0x0F = e ∧
      (s.leaveConn c 3 e bad).clu.ios = s.clu.ios := by
  rw [leaveConn_down_unused s c e bad h]
  refine ⟨?_, ?_, ?_⟩
  · rw [connState_setObj_reason, connState_setConn, connState_setObj]
  · rw [obj_setObj]
  · rw [setObj_clu, setConn_clu_ios, setObj_clu]

@[simp] theorem connState_beginConn (c : Nat) : (s.beginConn c).connState c = 1 := by
  rw [connState, frames_obj (besideFrames_beginConn s c), emit_obj]
  exact connState_connecting s c

@[simp] theorem conn_beginConn (c : Nat) : (s.beginConn c).conn c = (s.connecting c).conn c := by
  rw [frames_conn (besideFrames_beginConn s c), conn_emit]

@[simp] theorem beginConn_mem (c : Nat) : (s.beginConn c).mem = s.mem := by
  rw [frames_mem (besideFrames_beginConn s c), emit_mem, connecting_mem]

@[simp] theorem beginConn_out (c : Nat) : (s.beginConn c).out = s.out ++ [.nvme c (icReq (s.digests c))] := by
  rw [frames_out (besideFrames_beginConn s c), emit_out, connecting_out]

/-! The rows of a connection (R389, R391) -/

theorem live_self : s.live s = .next s := by simp [live]

theorem liveLedger_self : s.liveLedger s = .next s := by simp [liveLedger, live]

/-- A command whose guard holds has its effect while ROOT runs. -/
theorem live_guarded {P : Prop} [Decidable P] (t : State) (hrun : s.running = true) (h : P) : s.live (if P then t else s) = .next t := by
  rw [if_pos h, live_running s t hrun]

/-- A command whose guard fails changes nothing. -/
theorem live_unguarded {P : Prop} [Decidable P] (t : State) (h : ¬ P) : s.live (if P then t else s) = .next s := by
  rw [if_neg h, live_self]

theorem exec_nvmeConnect (c : Nat) : exec (.nvmeConnect c) s = execNvmeConnect c s := rfl
theorem exec_nvmeDisconnect (c : Nat) : exec (.nvmeDisconnect c) s = execNvmeDisconnect c s := rfl
theorem exec_nvmeConnectDone (c : Nat) : exec (.nvmeConnectDone c) s = execNvmeConnectDone c s := rfl
theorem exec_nvmeConnectTimeout (c : Nat) (refused : Bool) : exec (.nvmeConnectTimeout c refused) s = execNvmeConnectTimeout c refused s := rfl
theorem exec_nvmeConnectionLoss (c : Nat) : exec (.nvmeConnectionLoss c) s = execNvmeConnectionLoss c s := rfl
theorem exec_nvmeIoTimeout (c : Nat) : exec (.nvmeIoTimeout c) s = execNvmeIoTimeout c s := rfl
theorem exec_nvmeReconnectDelay (c : Nat) : exec (.nvmeReconnectDelay c) s = execNvmeReconnectDelay c s := rfl
theorem exec_nvmeKeepAlive (c : Nat) : exec (.nvmeKeepAlive c) s = execNvmeKeepAlive c s := rfl
theorem exec_nvmeC2hData (c : Nat) (p : List Byte) : exec (.nvmeC2hData c p) s = execNvmeC2hData c p s := rfl
theorem exec_nvmeR2t (c : Nat) (p : List Byte) : exec (.nvmeR2t c p) s = execNvmeR2t c p s := rfl
theorem exec_nvmeCapsuleResp (c : Nat) (p : List Byte) : exec (.nvmeCapsuleResp c p) s = execNvmeCapsuleResp c p s := rfl

section Rows
variable {s} {c : Nat}

theorem connect_idle (hst : s.connState c = 0) (hport : 128 ≤ s.obj (connObj c) 1) (hsvc : bit (s.obj 0x2C00 3) 2 = true) :
    s.connect c = some (s.beginConn c) := if_pos ⟨hst, hport, hsvc⟩

theorem connect_rejected (hst : s.connState c ≠ 0) : s.connect c = none := if_neg fun h => hst h.1

theorem exec_nvmeConnect_idle (hrun : s.running = true) (hl : 0 < s.level) (hst : s.connState c = 0) (hport : 128 ≤ s.obj (connObj c) 1)
    (hsvc : bit (s.obj 0x2C00 3) 2 = true) : exec (.nvmeConnect c) s = .next (s.beginConn c) := by
  rw [exec_nvmeConnect, execNvmeConnect, connect_idle hst hport hsvc, liveLedger_running s _ hrun hl, Option.getD_some]

theorem exec_nvmeConnect_rejected (hst : s.connState c ≠ 0) : exec (.nvmeConnect c) s = .next s := by
  rw [exec_nvmeConnect, execNvmeConnect, connect_rejected hst, Option.getD_none, liveLedger_self]

theorem exec_nvmeDisconnect_open (hrun : s.running = true) (hl : 0 < s.level) (hst : s.connState c ≠ 0) :
    exec (.nvmeDisconnect c) s = .next (s.leaveConn c 0 0 none) := by
  rw [exec_nvmeDisconnect, execNvmeDisconnect, disconnect, if_neg hst, liveLedger_running s _ hrun hl]

theorem exec_nvmeDisconnect_idle (hst : s.connState c = 0) : exec (.nvmeDisconnect c) s = .next s := by
  rw [exec_nvmeDisconnect, execNvmeDisconnect, disconnect, if_pos hst, liveLedger_self]

theorem exec_nvmeConnectDone_connecting (hrun : s.running = true) (hst : s.connState c = 1) (hsvc : s.connServed c = true)
    (hup : (s.sub (4 * (s.obj (connObj c) 4 / 16 % 8) + s.obj (connObj c) 4 % 4)).link = .up) : exec (.nvmeConnectDone c) s =
      .next (((s.setObj (connObj c) 3 0 2).setConn c { s.conn c with since := s.now, keepAt := s.now }).setupConn c) :=
  (exec_nvmeConnectDone s c).trans (live_guarded s _ hrun ⟨hst, hsvc, hup⟩)

theorem exec_nvmeConnectDone_other (hst : s.connState c ≠ 1) : exec (.nvmeConnectDone c) s = .next s :=
  (exec_nvmeConnectDone s c).trans (live_unguarded s _ fun h => hst h.1)

theorem exec_nvmeConnectTimeout_connecting (hrun : s.running = true) (refused : Bool) (hst : s.connState c = 1) :
    exec (.nvmeConnectTimeout c refused) s = .next (s.leaveConn c 3 (if refused then 0x12 else 9) none) :=
  (exec_nvmeConnectTimeout s c refused).trans (live_guarded s _ hrun hst)

theorem exec_nvmeConnectionLoss_ready (hrun : s.running = true) (hst : s.connState c = 2) :
    exec (.nvmeConnectionLoss c) s = .next (s.leaveConn c 3 9 none) :=
  (exec_nvmeConnectionLoss s c).trans (live_guarded s _ hrun hst)

theorem exec_nvmeConnectionLoss_other (hst : s.connState c ≠ 2) : exec (.nvmeConnectionLoss c) s = .next s :=
  (exec_nvmeConnectionLoss s c).trans (live_unguarded s _ hst)

theorem exec_nvmeIoTimeout_late (hrun : s.running = true) {x : NvmeIo} {m : NvmeCmd} (hx : x ∈ s.clu.ios) (hm : m ∈ x.cmds) (hc : x.conn = c)
    (hst : s.connState c = 2) (hlate : m.sentAt + s.obj (connObj c) 0x0D * 1000000000 ≤ s.now) :
    exec (.nvmeIoTimeout c) s = .next (s.leaveConn c 3 9 none) := by
  refine (exec_nvmeIoTimeout s c).trans (live_guarded s _ hrun ⟨hst, List.any_eq_true.2 ⟨x, hx, ?_⟩⟩)
  rw [Bool.and_eq_true, beq_iff_eq, List.any_eq_true]
  exact ⟨hc, m, hm, decide_eq_true hlate⟩

theorem exec_nvmeIoTimeout_none (hios : s.clu.ios = []) : exec (.nvmeIoTimeout c) s = .next s :=
  (exec_nvmeIoTimeout s c).trans (live_unguarded s _ fun h => by simp [hios] at h)

theorem exec_nvmeReconnectDelay_due (hrun : s.running = true) (hst : s.connState c = 3) (hsvc : bit (s.obj 0x2C00 3) 2 = true)
    (hdue : (s.conn c).since + s.obj (connObj c) 0x0E * 1000000000 ≤ s.now) :
    exec (.nvmeReconnectDelay c) s = .next ((s.beginConn c).count 0x5700 7 1) :=
  (exec_nvmeReconnectDelay s c).trans (live_guarded s _ hrun ⟨hst, hsvc, hdue⟩)

theorem exec_nvmeReconnectDelay_early (h : s.now < (s.conn c).since + s.obj (connObj c) 0x0E * 1000000000) :
    exec (.nvmeReconnectDelay c) s = .next s :=
  (exec_nvmeReconnectDelay s c).trans (live_unguarded s _ fun hdue => Nat.not_le.2 h hdue.2.2)

theorem exec_nvmeKeepAlive_due (hrun : s.running = true) (hst : s.connState c = 2) (hdue : (s.conn c).keepAt + 30000000000000 ≤ s.now) :
    exec (.nvmeKeepAlive c) s =
      .next ((s.setConn c { s.conn c with keepAt := s.now, nextCid := ((s.conn c).nextCid + 1) % 65536 }).emit
        (.nvme c (capsule (s.digests c) 0x18 (s.conn c).nextCid 0 0 []))) :=
  (exec_nvmeKeepAlive s c).trans (live_guarded s _ hrun ⟨hst, hdue⟩)

theorem exec_nvmeKeepAlive_early (h : s.now < (s.conn c).keepAt + 30000000000000) : exec (.nvmeKeepAlive c) s = .next s :=
  (exec_nvmeKeepAlive s c).trans (live_unguarded s _ fun hdue => Nat.not_le.2 h hdue.2)

theorem exec_nvmeC2hData_running (hrun : s.running = true) (p : List Byte) : exec (.nvmeC2hData c p) s = .next (s.c2hData c p) :=
  (exec_nvmeC2hData s c p).trans (live_running s _ hrun)

theorem exec_nvmeR2t_running (hrun : s.running = true) (p : List Byte) : exec (.nvmeR2t c p) s = .next (s.r2t c p) :=
  (exec_nvmeR2t s c p).trans (live_running s _ hrun)

theorem exec_nvmeCapsuleResp_running (hrun : s.running = true) (p : List Byte) : exec (.nvmeCapsuleResp c p) s = .next (s.capsuleResp c p) :=
  (exec_nvmeCapsuleResp s c p).trans (live_running s _ hrun)

end Rows

/-! What a row answers -/

section Answers
open Sys2Proof.Claims
variable {s} {c : Nat}

/-- CONNECT in IDLE: the connection is CONNECTING in a new session, and ICReq is the last that was sent. -/
theorem nvmeConnect_answers (hrun : s.running = true) (hl : 0 < s.level) (hst : s.connState c = 0)
    (hport : 128 ≤ s.obj (connObj c) 1) (hsvc : bit (s.obj 0x2C00 3) 2 = true) : answers (.nvmeConnect c) s fun t =>
      t.connState c = 1 ∧ (t.conn c).since = s.now ∧ (t.conn c).session = (s.conn c).session + 1 ∧ (t.conn c).nextCid = 0 ∧
      t.mem = s.mem ∧ ∃ before, t.out = before ++ [.nvme c (icReq (s.digests c))] :=
  ⟨s.beginConn c, exec_nvmeConnect_idle hrun hl hst hport hsvc, by simp [connecting]⟩

/-- Set-up ends: the connection is READY, and the set-up PDUs after the first have been sent. -/
theorem nvmeConnectDone_answers (hrun : s.running = true) (hst : s.connState c = 1) (hsvc : s.connServed c = true)
    (hup : (s.sub (4 * (s.obj (connObj c) 4 / 16 % 8) + s.obj (connObj c) 4 % 4)).link = .up) :
    answers (.nvmeConnectDone c) s fun t => t.connState c = 2 ∧ (t.conn c).keepAt = s.now ∧ t.mem = s.mem ∧
      t.out = s.out ++ s.setupPdus c := by
  refine ⟨_, exec_nvmeConnectDone_connecting hrun hst hsvc hup, ?_, ?_, ?_, ?_⟩
  · rw [connState_setupConn, connState_setConn, connState_setObj]
  · rw [conn_setupConn, conn_setConn]
  · rw [setupConn_mem, setConn_mem, setObj_mem]
  · rw [setupConn_out, setConn_out, setObj_out, setupPdus_setConn, setupPdus_setObj_state]

/-- Keep Alive falls due: its capsule has been sent, and its 30 s begin again. -/
theorem nvmeKeepAlive_answers (hrun : s.running = true) (hst : s.connState c = 2)
    (hdue : (s.conn c).keepAt + 30000000000000 ≤ s.now) : answers (.nvmeKeepAlive c) s fun t =>
      t.out = s.out ++ [.nvme c (capsule (s.digests c) 0x18 (s.conn c).nextCid 0 0 [])] ∧ (t.conn c).keepAt = s.now :=
  ⟨_, exec_nvmeKeepAlive_due hrun hst hdue, by simp⟩

end Answers

/-! PDUs of a READY connection (R391, R394) -/

variable {c type cidAt : Nat} {p : List Byte} {k : NvmeIo → NvmeCmd → State → State} {i : NvmeIo} {m : NvmeCmd}

section Ready
variable (hready : s.connState c = 2) (htype : beAt p 0 1 = type)
include hready htype

/-- The PDU's type and the digests hold: its handler runs on the command it names. -/
theorem withPdu_good (hcmd : s.findCmd c (leAt p cidAt 2) = some (i, m)) (hd : digestOf (s.digests c) p = .good) :
    s.withPdu c type cidAt p k = k i m s := by
  simp [withPdu, hready, htype, hcmd, hd]

/-- A failed header digest is answered with H2CTermReq, counted, and takes the connection DOWN. -/
theorem withPdu_badHeader (hcmd : s.findCmd c (leAt p cidAt 2) = some (i, m)) (hd : digestOf (s.digests c) p = .badHeader) :
    s.withPdu c type cidAt p k =
      ((s.emit (.nvme c (termReq p))).count 0x5700 4 1).leaveConn c 3 0x0B (some (i.fid, i.idx, m.slba)) := by
  simp [withPdu, hready, htype, hcmd, hd]

/-- A failed data digest is counted, and takes the connection DOWN. -/
theorem withPdu_badData (hcmd : s.findCmd c (leAt p cidAt 2) = some (i, m)) (hd : digestOf (s.digests c) p = .badData) :
    s.withPdu c type cidAt p k = (s.count 0x5700 5 1).leaveConn c 3 0x0B (some (i.fid, i.idx, m.slba)) := by
  simp [withPdu, hready, htype, hcmd, hd]

end Ready

/-- A PDU of good digests that names no command in flight changes nothing. -/
theorem withPdu_unnamed (hcmd : s.findCmd c (leAt p cidAt 2) = none) (hd : digestOf (s.digests c) p = .good) :
    s.withPdu c type cidAt p k = s := by
  unfold withPdu
  split
  · rfl
  · simp [hcmd, hd]

section Good
variable (hready : s.connState c = 2) (hd : digestOf (s.digests c) p = .good)
include hready hd

/-- C2HData without XTS is placed at the buffer's offset. -/
theorem c2hData_places (ht : beAt p 0 1 = 7) (hcmd : s.findCmd c (leAt p 8 2) = some (i, m)) (hread : i.op = 2)
    (hfits : leAt p 0x0C 4 + (pduData (s.digests c) p).length ≤ m.blocks * i.block) (hxts : i.xts = false)
    (hheld : s.stackHeld i.pieces = false) :
    s.c2hData c p = (s.setIo (NvmeIo.setCmd i { m with got := max m.got (leAt p 0x0C 4 + (pduData (s.digests c) p).length) })).placeNvme i
      (m.off + leAt p 0x0C 4) m.slba (pduData (s.digests c) p) := by
  rw [c2hData, withPdu_good s hready ht hcmd hd]
  simp [hread, hxts, hheld, Nat.not_lt.2 hfits]

/-- An R2T without XTS is answered with the buffer's bytes, and they are counted. -/
theorem r2t_answers (ht : beAt p 0 1 = 9) (hcmd : s.findCmd c (leAt p 8 2) = some (i, m)) (hwrite : i.op = 1)
    (hfits : leAt p 0x0C 4 + leAt p 0x10 4 ≤ m.blocks * i.block) (hkey : i.keyBad = false) (hxts : i.xts = false)
    {bs : List Byte} {t : State} (hpieces : s.piecesReady (subPieces i.pieces (m.off + leAt p 0x0C 4) (leAt p 0x10 4)) = true)
    (hbytes : s.readPieces (subPieces i.pieces (m.off + leAt p 0x0C 4) (leAt p 0x10 4)) = (some bs, t)) :
    s.r2t c p = (t.emit (.nvme c (nvmePdu (t.digests c) 0x06 4
      (leBytes 2 m.cid ++ slice p 0x0A 2 ++ leBytes 4 (leAt p 0x0C 4) ++ leBytes 4 (leAt p 0x10 4) ++ [0, 0, 0, 0])
      (bs.take (leAt p 0x10 4))))).count 0x5700 3 (leAt p 0x10 4) := by
  rw [r2t, withPdu_good s hready ht hcmd hd]
  simp [hwrite, hkey, hxts, hpieces, hbytes, Nat.not_lt.2 hfits, slice_zero]

section Completion
variable (ht : beAt p 0 1 = 5) (hcmd : s.findCmd c (leAt p 0x14 2) = some (i, m))
include ht hcmd

/-- A completion without an error takes the command off its entry. -/
theorem capsuleResp_ok (hkey : i.keyBad = false) (hst : leAt p 0x16 2 / 2 % 2048 = 0) :
    s.capsuleResp c p = ((s.setIo { i with cmds := i.cmds.filter (·.cid != m.cid) }).finishIo
      { i with cmds := i.cmds.filter (·.cid != m.cid) }).pumpConn c := by
  rw [capsuleResp, withPdu_good s hready ht hcmd hd]
  simp [hst, hkey]

/-- A completion with an error is counted, and the entry keeps its first failure. -/
theorem capsuleResp_failed (hst : leAt p 0x16 2 / 2 % 2048 ≠ 0) :
    let i2 := { i with cmds := i.cmds.filter (·.cid != m.cid), status := if i.status = 0 then 4 else i.status,
                       nvmeStatus := if i.nvmeStatus = 0 then leAt p 0x16 2 / 2 % 2048 else i.nvmeStatus,
                       failLba := if i.status = 0 then m.slba else i.failLba }
    s.capsuleResp c p = (((s.count 0x5700 6 1).setIo i2).finishIo i2).pumpConn c := by
  rw [capsuleResp, withPdu_good s hready ht hcmd hd]
  by_cases h0 : i.status = 0 <;> simp [hst, NvmeIo.fails, h0]

/-- A completion without an error of an entry whose key failed to unwrap fails it with CIPHER_AUTH_FAIL. -/
theorem capsuleResp_badKey (hkey : i.keyBad = true) (hst : leAt p 0x16 2 / 2 % 2048 = 0) :
    let i1 := NvmeIo.fails { i with cmds := i.cmds.filter (·.cid != m.cid) } 0x0F m.slba
    s.capsuleResp c p = ((s.setIo i1).finishIo i1).pumpConn c := by
  rw [capsuleResp, withPdu_good s hready ht hcmd hd]
  simp [hst, hkey]

end Completion
end Good

end State
end Sys2Proof.Machine

open Sys2Proof Sys2Proof.Machine Sys2Proof.Claims

/-- Settles O45: each row of a connection acts in the one state that it names and in no other, and a PDU's handler runs once its type,
its digests and the command it names have been judged. -/
theorem storageConnectionsAndPdus : Obligations.StorageConnectionsAndPdus := by
  unfold Obligations.StorageConnectionsAndPdus
  refine ⟨fun s c hrun => ?_, fun s c p i m hrun hready => ?_⟩
  · exact ⟨State.nvmeConnect_answers hrun, State.exec_nvmeConnect_rejected, State.exec_nvmeDisconnect_open hrun,
      State.exec_nvmeDisconnect_idle, State.nvmeConnectDone_answers hrun, State.exec_nvmeConnectDone_other,
      State.exec_nvmeConnectTimeout_connecting hrun, State.exec_nvmeConnectionLoss_ready hrun, State.exec_nvmeConnectionLoss_other,
      fun x hx m hm => State.exec_nvmeIoTimeout_late hrun hx hm, State.exec_nvmeIoTimeout_none,
      State.exec_nvmeReconnectDelay_due hrun, State.exec_nvmeReconnectDelay_early, State.nvmeKeepAlive_answers hrun,
      State.exec_nvmeKeepAlive_early, fun hios e => s.leaveConn_down_reads c e none hios⟩
  · rw [State.exec_nvmeC2hData_running hrun, State.exec_nvmeR2t_running hrun, State.exec_nvmeCapsuleResp_running hrun]
    refine ⟨fun ht hcmd hd => ?_, fun ht hcmd hd => ?_, fun hd => ⟨fun ht hcmd hread hfits hxts hheld => ?_,
      fun ht hcmd hwrite hfits hkey hxts bs t hpieces hbytes => ?_, fun ht hcmd hkey => ⟨fun hst => ?_, fun hst => ?_⟩,
      fun ht hcmd hkey hst => ?_, fun hcmd => ⟨?_, ?_⟩⟩⟩
    · exact congrArg _ (s.withPdu_badData hready ht hcmd hd)
    · exact congrArg _ (s.withPdu_badHeader hready ht hcmd hd)
    · exact congrArg _ (s.c2hData_places hready hd ht hcmd hread hfits hxts hheld)
    · exact congrArg _ (s.r2t_answers hready hd ht hcmd hwrite hfits hkey hxts hpieces hbytes)
    · exact congrArg _ (s.capsuleResp_ok hready hd ht hcmd hkey hst)
    · exact congrArg _ (s.capsuleResp_failed hready hd ht hcmd hst)
    · exact congrArg _ (s.capsuleResp_badKey hready hd ht hcmd hkey hst)
    · exact congrArg _ (s.withPdu_unnamed hcmd hd)
    · exact congrArg _ (s.withPdu_unnamed hcmd hd)

end

section
/-! The PCIe links (R19, R362, R481 to R483, R494): when the rows of P0 and P1 act, and what each then does. -/

namespace Sys2Proof.Machine.State

variable {s : State}

/-- The first cause of a full reset is noted with its time (R480). -/
theorem resetCause_first (c : ResetCause) (hreset : s.flt.inReset = false) (hdue : s.flt.resetDue = none) :
    s.resetCause c = { s with flt := { s.flt with resetDue := some (c, s.now) } } := by
  simp [resetCause, hreset, hdue]

/-! P0 goes down -/

theorem exec_p0DlDown_up (hrun : s.running = true) (hup : s.ring.p0.up = true) :
    exec .p0DlDown s = .next { s with ring := { s.ring with p0 := { s.ring.p0 with up := false, downSince := some s.now } } } :=
  live_guarded s _ hrun hup

theorem exec_p0DlDown_down (hup : s.ring.p0.up = false) : exec .p0DlDown s = .next s :=
  live_unguarded s _ (Bool.eq_false_iff.1 hup)

/-! P0 comes up -/

/-- P0 was lost more than 1 ms ago: its return finds the cause of R19. -/
def p0Overdue (s : State) : Bool :=
  s.ring.p0.wasUp && (s.ring.p0.downSince.map fun t => decide (t + 1000000000 < s.now)).getD false

theorem p0Overdue_eq_true {u : Nat} (hwas : s.ring.p0.wasUp = true) (hsince : s.ring.p0.downSince = some u)
    (hlate : u + 1000000000 < s.now) : s.p0Overdue = true := by
  rw [p0Overdue, hwas, hsince, Option.map_some, decide_eq_true hlate]
  rfl

/-- A link that has not been in use since the last reset, or whose loss was not noted, returns in time. -/
theorem p0Overdue_eq_false_of_unused (h : s.ring.p0.wasUp = false ∨ s.ring.p0.downSince = none) : s.p0Overdue = false := by
  rcases h with hwas | hsince
  · simp [p0Overdue, hwas]
  · simp [p0Overdue, hsince]

theorem p0Overdue_eq_false_of_soon {u : Nat} (hsince : s.ring.p0.downSince = some u) (hsoon : s.now ≤ u + 1000000000) :
    s.p0Overdue = false := by
  rw [p0Overdue, hsince, Option.map_some, decide_eq_false (Nat.not_lt.2 hsoon)]
  exact Bool.and_false _

/-- With nothing held, P0's return sets its link alone. -/
theorem p0Up_of_nothing_held (x w : Nat) (b : Bool) (hheld : s.mem.p0Held = []) :
    s.p0Up x w b = { s with ring := { s.ring with p0 := ⟨true, true, none, x, w, b⟩ } } := by
  rw [p0Up, hheld, List.foldl_nil, ← hheld]

/-- The one held write goes on to host memory, and nothing stays held (R362). -/
theorem p0Up_of_one_held (x w : Nat) (b : Bool) {h : HeldWrite} (hheld : s.mem.p0Held = [h]) (hvec : h.vector = none)
    (hlog : s.obj 0x23C0 9 h.fid = 0) :
    s.p0Up x w b =
      ({ s with ring := { s.ring with p0 := ⟨true, true, none, x, w, b⟩ }, mem := { s.mem with p0Held := [] } } : State).setHost
        (s.mem.host.writeBytes h.addr h.bytes) := by
  rw [p0Up, hheld, List.foldl_cons, List.foldl_nil, hvec]
  exact hostWrite_up _ h.fid h.addr h.bytes rfl hlog

/-- Out of turn P0 does not train (R426, R492). -/
theorem exec_p0DlUp_kept (x w : Nat) (b : Bool)
    (h : s.ring.p0.up = true ∨ s.pw.perst0 = true ∨ s.pw.dAt = none ∨ s.pw.bootStuck = true) : exec (.p0DlUp x w b) s = .next s := by
  have hkept : s.ring.p0.up ∨ s.pw.perst0 ∨ s.pw.dAt.isNone ∨ s.pw.bootStuck ∨ !linkTrains x w := by
    rcases h with h | h | h | h <;> simp [h]
  exact (congrArg s.live (if_pos hkept)).trans (live_self s)

section Training
variable {x w : Nat} {b : Bool} (hrun : s.running = true) (hup : s.ring.p0.up = false) (hperst : s.pw.perst0 = false)
  (hd : s.pw.dAt ≠ none) (hboot : s.pw.bootStuck = false) (htrains : linkTrains x w = true)
include hrun hup hperst hd hboot htrains

/-- P0 trains from D on; a return that is overdue finds the cause of a full reset (R19, R483, R492). -/
theorem exec_p0DlUp_trains : exec (.p0DlUp x w b) s =
    .next (if s.p0Overdue then (s.p0Up x w b).resetCause .p0LinkLoss else s.p0Up x w b) := by
  have hfree : ¬ (s.ring.p0.up ∨ s.pw.perst0 ∨ s.pw.dAt.isNone ∨ s.pw.bootStuck ∨ !linkTrains x w) := by
    simp [hup, hperst, hd, hboot, htrains]
  exact (congrArg s.live (if_neg hfree)).trans (live_running s _ hrun)

theorem exec_p0DlUp_in_time (htime : s.p0Overdue = false) : exec (.p0DlUp x w b) s = .next (s.p0Up x w b) := by
  rw [exec_p0DlUp_trains hrun hup hperst hd hboot htrains, htime]
  rfl

theorem exec_p0DlUp_overdue (hlate : s.p0Overdue = true) :
    exec (.p0DlUp x w b) s = .next ((s.p0Up x w b).resetCause .p0LinkLoss) := by
  rw [exec_p0DlUp_trains hrun hup hperst hd hboot htrains, if_pos hlate]

theorem exec_p0DlUp_nothing_held (hheld : s.mem.p0Held = []) (htime : s.p0Overdue = false) :
    exec (.p0DlUp x w b) s = .next { s with ring := { s.ring with p0 := ⟨true, true, none, x, w, b⟩ } } := by
  rw [exec_p0DlUp_in_time hrun hup hperst hd hboot htrains htime, p0Up_of_nothing_held x w b hheld]

end Training

/-! P0 stays down (R19, R482) -/

theorem p0Late_eq_true {u : Nat} (hup : s.ring.p0.up = false) (hwas : s.ring.p0.wasUp = true) (hlate : u + 1000000000 ≤ s.now) :
    s.p0Late u = true := by
  rw [p0Late, hup, hwas, decide_eq_true hlate]
  rfl

theorem p0Late_eq_false_of_early {u : Nat} (hearly : s.now < u + 1000000000) : s.p0Late u = false := by
  rw [p0Late, decide_eq_false (Nat.not_le.2 hearly)]
  exact Bool.and_false _

/-- The timer of a loss that was noted: before its end it does nothing, during a reset the loss merges, and else it is a cause. -/
theorem exec_p0LinkLossTimeout_of_downSince {u : Nat} (hsince : s.ring.p0.downSince = some u) : exec .p0LinkLossTimeout s =
    s.live (if !s.p0Late u then s
      else if s.flt.inReset then { s with ring := { s.ring with p0 := PcieLink.down } } else s.resetCause .p0LinkLoss) := by
  change execP0LinkLossTimeout s = _
  rw [execP0LinkLossTimeout, hsince]

theorem exec_p0LinkLossTimeout_early {u : Nat} (hsince : s.ring.p0.downSince = some u) (hearly : s.now < u + 1000000000) :
    exec .p0LinkLossTimeout s = .next s := by
  rw [exec_p0LinkLossTimeout_of_downSince hsince, p0Late_eq_false_of_early hearly]
  exact live_self s

theorem exec_p0LinkLossTimeout_in_reset {u : Nat} (hrun : s.running = true) (hsince : s.ring.p0.downSince = some u)
    (hlate : s.p0Late u = true) (hreset : s.flt.inReset = true) :
    exec .p0LinkLossTimeout s = .next { s with ring := { s.ring with p0 := PcieLink.down } } := by
  rw [exec_p0LinkLossTimeout_of_downSince hsince, hlate, hreset]
  exact live_running s _ hrun

theorem exec_p0LinkLossTimeout_late {u : Nat} (hrun : s.running = true) (hsince : s.ring.p0.downSince = some u)
    (hlate : s.p0Late u = true) (hreset : s.flt.inReset = false) : exec .p0LinkLossTimeout s = .next (s.resetCause .p0LinkLoss) := by
  rw [exec_p0LinkLossTimeout_of_downSince hsince, hlate, hreset]
  exact live_running s _ hrun

/-! P1 (R362, R494) -/

theorem exec_p1LinkDown_up (hrun : s.running = true) (hup : s.ring.p1.up = true) : exec .p1LinkDown s = .next s.p1Down :=
  live_guarded s _ hrun hup

theorem exec_p1LinkDown_down (hup : s.ring.p1.up = false) : exec .p1LinkDown s = .next s :=
  live_unguarded s _ (Bool.eq_false_iff.1 hup)

/-- P1 does not train below Stage 2, or while PERST1_N is asserted. -/
theorem exec_p1DlUp_kept (x w : Nat) (b : Bool) (h : s.level < 2 ∨ s.pw.perst1 = true) : exec (.p1DlUp x w b) s = .next s := by
  have hkept : s.pw.perst1 ∨ s.level < 2 ∨ !linkTrains x w := h.elim (fun hl => .inr (.inl hl)) .inl
  exact (congrArg s.live (if_pos hkept)).trans (live_self s)

/-- The peer function's Bus Master Enable becomes a free value (log 60). -/
def drawBusMaster (s : State) : State :=
  { (s.freeNat 1).2 with ring := { (s.freeNat 1).2.ring with p1BusMaster := (s.freeNat 1).1 == 1 } }

section TrainingP1
variable {x w : Nat} {b : Bool} (hrun : s.running = true) (hperst : s.pw.perst1 = false) (hl : 2 ≤ s.level)
  (htrains : linkTrains x w = true)
include hrun hperst hl htrains

/-- P1 trains from Stage 2, and a repeat with P1 up draws Bus Master Enable anew. -/
theorem exec_p1DlUp_trains : exec (.p1DlUp x w b) s = .next (
    if s.ring.p1.up then s.drawBusMaster
    else ({ s.drawBusMaster with ring := { s.drawBusMaster.ring with p1 := ⟨true, true, none, x, w, b⟩ } }).portEvent 2 3 1 0) := by
  have hfree : ¬ (s.pw.perst1 ∨ s.level < 2 ∨ !linkTrains x w) := by
    simp [hperst, Nat.not_lt.2 hl, htrains]
  exact (congrArg s.live (if_neg hfree)).trans (live_running s _ hrun)

theorem exec_p1DlUp_down (hup : s.ring.p1.up = false) : exec (.p1DlUp x w b) s = .next
    (({ s.drawBusMaster with ring := { s.drawBusMaster.ring with p1 := ⟨true, true, none, x, w, b⟩ } }).portEvent 2 3 1 0) := by
  rw [exec_p1DlUp_trains hrun hperst hl htrains, if_neg (Bool.eq_false_iff.1 hup)]

theorem exec_p1DlUp_up (hup : s.ring.p1.up = true) : exec (.p1DlUp x w b) s = .next s.drawBusMaster := by
  rw [exec_p1DlUp_trains hrun hperst hl htrains, if_pos hup]

end TrainingP1

/-! What a row answers -/

section Answers
open Sys2Proof.Claims

/-- P0 goes down: its link keeps what it was and notes when (R362). -/
theorem p0DlDown_answers (hrun : s.running = true) (hup : s.ring.p0.up = true) : answers .p0DlDown s fun t =>
    t.ring.p0 = { s.ring.p0 with up := false, downSince := some s.now } ∧ t.mem = s.mem ∧ t.out = s.out :=
  ⟨_, exec_p0DlDown_up hrun hup, rfl, rfl, rfl⟩

/-- 1 ms without P0 is a cause of a full reset (R19). -/
theorem p0LinkLossTimeout_answers {u : Nat} (hrun : s.running = true) (hsince : s.ring.p0.downSince = some u)
    (hlate : s.p0Late u = true) (hreset : s.flt.inReset = false) (hdue : s.flt.resetDue = none) :
    answers .p0LinkLossTimeout s fun t => t.flt.resetDue = some (.p0LinkLoss, s.now) :=
  ⟨_, exec_p0LinkLossTimeout_late hrun hsince hlate hreset, by rw [resetCause_first _ hreset hdue]⟩

variable {x w : Nat} {b : Bool} (hrun : s.running = true) (hup : s.ring.p0.up = false) (hperst : s.pw.perst0 = false)
  (hd : s.pw.dAt ≠ none) (hboot : s.pw.bootStuck = false) (htrains : linkTrains x w = true)
include hrun hup hperst hd hboot htrains

/-- A return in time, with nothing held: the link is up, and neither faults nor memory change. -/
theorem p0DlUp_in_time_answers (hheld : s.mem.p0Held = []) (htime : s.p0Overdue = false) : answers (.p0DlUp x w b) s fun t =>
    t.ring.p0 = ⟨true, true, none, x, w, b⟩ ∧ t.flt = s.flt ∧ t.mem = s.mem :=
  ⟨_, exec_p0DlUp_nothing_held hrun hup hperst hd hboot htrains hheld htime, rfl, rfl, rfl⟩

/-- A later return finds that cause. -/
theorem p0DlUp_overdue_answers (hheld : s.mem.p0Held = []) (hlate : s.p0Overdue = true) (hreset : s.flt.inReset = false)
    (hdue : s.flt.resetDue = none) : answers (.p0DlUp x w b) s fun t => t.flt.resetDue = some (.p0LinkLoss, s.now) := by
  refine ⟨_, exec_p0DlUp_overdue hrun hup hperst hd hboot htrains hlate, ?_⟩
  rw [p0Up_of_nothing_held x w b hheld, resetCause_first]
  · exact hreset
  · exact hdue

/-- A return lets the held write go on. -/
theorem p0DlUp_one_held_answers {h : HeldWrite} (hheld : s.mem.p0Held = [h]) (hvec : h.vector = none)
    (hlog : s.obj 0x23C0 9 h.fid = 0) (htime : s.p0Overdue = false) : answers (.p0DlUp x w b) s fun t =>
      t.mem.host = s.mem.host.writeBytes h.addr h.bytes ∧ t.mem.p0Held = [] := by
  refine ⟨_, exec_p0DlUp_in_time hrun hup hperst hd hboot htrains htime, ?_⟩
  rw [p0Up_of_one_held x w b hheld hvec hlog]
  exact ⟨rfl, rfl⟩

end Answers
end Sys2Proof.Machine.State

open Sys2Proof Sys2Proof.Machine Sys2Proof.Claims

/-- Settles O56: each row of P0 and P1 acts under one guard; P0's return is told apart by whether 1 ms had passed, and the timer of its
loss by that and by whether a reset is under way. -/
theorem pcieLinksGoDownAndUp : Obligations.PcieLinksGoDownAndUp := by
  unfold Obligations.PcieLinksGoDownAndUp
  intro s hrun p
  refine ⟨State.p0DlDown_answers hrun, State.exec_p0DlDown_down, fun x w b hup hperst hd hboot htrains hheld => ⟨?_, ?_, ?_⟩,
    State.exec_p0DlUp_kept, fun x w b h hup hperst hd hboot htrains hheld hvec hsince hlog => ?_, ?_, ?_,
    fun u => State.exec_p0LinkLossTimeout_early, State.exec_p1LinkDown_up hrun, State.exec_p1LinkDown_down,
    fun x w b hperst hl htrains => ⟨State.exec_p1DlUp_down hrun hperst hl htrains, State.exec_p1DlUp_up hrun hperst hl htrains⟩,
    State.exec_p1DlUp_kept⟩
  · intro hunused
    exact State.p0DlUp_in_time_answers hrun hup hperst hd hboot htrains hheld (State.p0Overdue_eq_false_of_unused hunused)
  · intro u hsince hsoon
    obtain ⟨t, hexec, hlink, hflt, -⟩ :=
      State.p0DlUp_in_time_answers hrun hup hperst hd hboot htrains hheld (State.p0Overdue_eq_false_of_soon hsince hsoon)
    exact ⟨t, hexec, hlink, hflt⟩
  · intro u hsince hwas hlate hreset hdue
    exact State.p0DlUp_overdue_answers hrun hup hperst hd hboot htrains hheld (State.p0Overdue_eq_true hwas hsince hlate) hreset hdue
  · exact State.p0DlUp_one_held_answers hrun hup hperst hd hboot htrains hheld hvec hlog
      (State.p0Overdue_eq_false_of_unused (.inr hsince))
  · intro u hup hwas hsince hlate hreset hdue
    exact State.p0LinkLossTimeout_answers hrun hsince (State.p0Late_eq_true hup hwas hlate) hreset hdue
  · intro u hup hwas hsince hlate hreset
    exact State.exec_p0LinkLossTimeout_in_reset hrun hsince (State.p0Late_eq_true hup hwas hlate) hreset

end

section
/-! Number formats (R31, R42, R50): what the E8M0 codes scale by, the rounding to an integer that R42 and R50 share, and the grid of data
that the codes of an encoding denote. -/

namespace Sys2Proof.Machine

/-! Block scales (R31) -/

theorem scaleExp_of_le {c : Nat} (hc : c ≤ 0xFE) : scaleExp c = some ((c : Int) - 127) := by
  rw [scaleExp, Nat.mod_eq_of_lt (show c < 256 by omega), if_neg (show c ≠ 255 by omega)]

theorem scaleExp_nan : scaleExp 0xFF = none := rfl

theorem Fmt.value_of_scaleExp {f : Fmt} {c : Nat} {k : Int} (code : Nat) (hf : f.blocked = true) (hc : scaleExp c = some k) :
    f.value code c = (f.elem code).scale k := by
  rw [Fmt.value, if_pos hf, hc]

theorem Fmt.value_of_scaleExp_none {f : Fmt} {c : Nat} (code : Nat) (hf : f.blocked = true) (hc : scaleExp c = none) :
    f.value code c = .nan := by
  rw [Fmt.value, if_pos hf, hc]

/-! Rounding to an integer -/

/-- m × 2^d rounded to an integer, to nearest with ties to even: the rounding that `roundInt` and `roundCode` share. -/
def nearestEven (m : Nat) (d : Int) : Nat :=
  if 0 ≤ d then m * 2 ^ d.toNat
  else
    let k := (-d).toNat
    if 2 ^ (k - 1) < m % 2 ^ k ∨ (m % 2 ^ k = 2 ^ (k - 1) ∧ m / 2 ^ k % 2 = 1) then m / 2 ^ k + 1 else m / 2 ^ k

theorem nearestEven_of_nonneg (m j : Nat) : nearestEven m j = m * 2 ^ j := if_pos (Int.natCast_nonneg j)

theorem nearestEven_of_neg (m j : Nat) : nearestEven m (-(j + 1 : Nat)) =
    if 2 ^ j < m % 2 ^ (j + 1) ∨ (m % 2 ^ (j + 1) = 2 ^ j ∧ m / 2 ^ (j + 1) % 2 = 1) then m / 2 ^ (j + 1) + 1 else m / 2 ^ (j + 1) := by
  rw [nearestEven, if_neg (by omega), neg_neg, Int.toNat_natCast]
  rfl

/-- Half a unit from m × 2^−(j+1) is 2^j when everything is scaled to integers. -/
theorem nearestEven_scaled_dist (m j : Nat) :
    |2 * nearestEven m (-(j + 1 : Nat)) * (2 : Int) ^ j - m| < 2 ^ j ∨
    (|2 * nearestEven m (-(j + 1 : Nat)) * (2 : Int) ^ j - m| = 2 ^ j ∧ nearestEven m (-(j + 1 : Nat)) % 2 = 0) := by
  have hlt : m % 2 ^ (j + 1) < 2 ^ (j + 1) := Nat.mod_lt _ (by positivity)
  have hm : 2 ^ (j + 1) * (m / 2 ^ (j + 1)) + m % 2 ^ (j + 1) = m := Nat.div_add_mod m _
  have hcast : (2 : Int) ^ j = (2 ^ j : Nat) := by norm_cast
  rw [nearestEven_of_neg, hcast]
  simp only [abs_lt, abs_eq (Int.natCast_nonneg (2 ^ j))]
  rw [pow_succ] at *
  generalize m % (2 ^ j * 2) = r at *
  generalize m / (2 ^ j * 2) = t at *
  generalize 2 ^ j = h at *
  have hm' : (m : Int) = 2 * (t * h) + r := by rw [← hm]; push_cast; ring
  split
  · have hup : 2 * ((t + 1 : Nat) : Int) * h - m = 2 * h - r := by rw [hm']; push_cast; ring
    rw [hup]
    omega
  · have hdown : 2 * (t : Int) * h - m = -r := by rw [hm']; ring
    rw [hdown]
    omega

/-- The rounding lies within 1/2, and a tie went to the even integer. -/
theorem nearestEven_spec (m : Nat) (d : Int) :
    |(nearestEven m d : ℚ) - m * 2 ^ d| < 1 / 2 ∨ (|(nearestEven m d : ℚ) - m * 2 ^ d| = 1 / 2 ∧ nearestEven m d % 2 = 0) := by
  obtain ⟨j, rfl⟩ | ⟨j, rfl⟩ : (∃ j : Nat, d = j) ∨ ∃ j : Nat, d = -(j + 1 : Nat) := by
    rcases le_or_gt 0 d with hd | hd
    · exact .inl ⟨d.toNat, by omega⟩
    · exact .inr ⟨(-d).toNat - 1, by omega⟩
  · left
    rw [nearestEven_of_nonneg]
    simp
  · have hpos : (0 : ℚ) < 2 ^ j := by positivity
    have hdist : |(nearestEven m (-(j + 1 : Nat)) : ℚ) - m * 2 ^ (-(j + 1 : Nat) : Int)| =
        ((|2 * nearestEven m (-(j + 1 : Nat)) * (2 : Int) ^ j - m| : Int) : ℚ) / (2 * 2 ^ j) := by
      rw [eq_div_iff (by positivity), zpow_neg, zpow_natCast, ← abs_of_pos (show (0 : ℚ) < 2 * 2 ^ j by positivity), ← abs_mul]
      push_cast
      congr 1
      field_simp
      ring
    rw [hdist, div_lt_iff₀ (by positivity), div_eq_iff (by positivity), show (1 : ℚ) / 2 * (2 * 2 ^ j) = 2 ^ j by ring]
    exact_mod_cast nearestEven_scaled_dist m j

theorem nearestEven_dist_le_half (m : Nat) (d : Int) : |(nearestEven m d : ℚ) - m * 2 ^ d| ≤ 1 / 2 :=
  (nearestEven_spec m d).elim le_of_lt fun h => h.1.le

theorem nearestEven_even_of_tie {m : Nat} {d : Int} (h : |(nearestEven m d : ℚ) - m * 2 ^ d| = 1 / 2) : nearestEven m d % 2 = 0 :=
  (nearestEven_spec m d).elim (fun hlt => absurd h hlt.ne) And.right

/-- No integer is nearer: another one is at least 1 from the rounding, so at least 1/2 from the exact value. -/
theorem nearestEven_dist_le (m : Nat) (d z : Int) : |(nearestEven m d : ℚ) - m * 2 ^ d| ≤ |(z : ℚ) - m * 2 ^ d| := by
  by_cases hz : z = nearestEven m d
  · rw [hz, Int.cast_natCast]
  · have hhalf := nearestEven_dist_le_half m d
    have hone : (1 : ℚ) ≤ |(z : ℚ) - nearestEven m d| := by exact_mod_cast Int.one_le_abs (sub_ne_zero.2 hz)
    have htri := abs_sub_le (z : ℚ) (m * 2 ^ d) (nearestEven m d)
    rw [abs_sub_comm ((m : ℚ) * 2 ^ d)] at htri
    linarith

/-- A bound that is an integer is kept by the rounding. -/
theorem nearestEven_le {m b : Nat} {d : Int} (h : (m : ℚ) * 2 ^ d ≤ b) : nearestEven m d ≤ b := by
  have hb := nearestEven_dist_le m d b
  rw [Int.cast_natCast, abs_of_nonneg (sub_nonneg.2 h)] at hb
  have hhigh := (le_abs_self _).trans hb
  exact_mod_cast (by linarith : (nearestEven m d : ℚ) ≤ b)

theorem le_nearestEven {m b : Nat} {d : Int} (h : (b : ℚ) ≤ m * 2 ^ d) : b ≤ nearestEven m d := by
  have hb := nearestEven_dist_le m d b
  rw [Int.cast_natCast, abs_of_nonpos (sub_nonpos.2 h), neg_sub] at hb
  have hlow := (neg_le_abs _).trans hb
  exact_mod_cast (by linarith : (b : ℚ) ≤ nearestEven m d)

/-! Conversion to an integer format (R50) -/

theorem roundInt_fin (n : Bool) (m : Nat) (e : Int) :
    roundInt (.fin n m e) = if n then -(nearestEven m e : Int) else nearestEven m e := rfl

theorem roundInt_dist (n : Bool) (m : Nat) (e : Int) :
    |(roundInt (.fin n m e) : ℚ) - Claims.value n m e| = |(nearestEven m e : ℚ) - m * 2 ^ e| := by
  rw [roundInt_fin, Claims.value]
  cases n
  · simp
  · simp only [if_true, Int.cast_neg, Int.cast_natCast]
    rw [← abs_neg]
    congr 1
    ring

theorem roundInt_even_of_tie {n : Bool} {m : Nat} {e : Int} (h : |(roundInt (.fin n m e) : ℚ) - Claims.value n m e| = 1 / 2) :
    roundInt (.fin n m e) % 2 = 0 := by
  have heven := nearestEven_even_of_tie (roundInt_dist n m e ▸ h)
  rw [roundInt_fin]
  split <;> omega

/-- The formats without a fraction that R50 converts to. -/
def Fmt.isPlainInt (f : Fmt) : Prop := f = .int4 ∨ f = .int8 ∨ f = .int32 ∨ f = .u32

/-- The ends of an integer format's range (R33). -/
def Fmt.least (f : Fmt) : Int := if f = .u32 then 0 else -(2 ^ (f.width - 1) : Nat)
def Fmt.greatest (f : Fmt) : Int := if f = .u32 then 2 ^ 32 - 1 else (2 ^ (f.width - 1) : Nat) - 1

section PlainInt
variable {f : Fmt} (hf : f.isPlainInt)
include hf

theorem Fmt.convert_fin (n : Bool) (m : Nat) (e : Int) :
    (f.convert (.fin n m e)).code = wrapInt f.width (max f.least (min f.greatest (roundInt (.fin n m e)))) := by
  obtain rfl | rfl | rfl | rfl := hf <;> rfl

theorem Fmt.convert_inf (n : Bool) : (f.convert (.inf n)).code = wrapInt f.width (if n then f.least else f.greatest) := by
  obtain rfl | rfl | rfl | rfl := hf <;> rfl

theorem Fmt.convert_nan : (f.convert .nan).code = 0 := by
  obtain rfl | rfl | rfl | rfl := hf <;> rfl

end PlainInt

/-! What the codes of an encoding denote (R34) -/

theorem value_false (m : Nat) (e : Int) : Claims.value false m e = m * 2 ^ e := by simp [Claims.value]

theorem value_zero (n : Bool) (e : Int) : Claims.value n 0 e = 0 := by simp [Claims.value]

/-- Only whether two signs differ counts for the distance of two data. -/
theorem abs_value_sub_value (n k : Bool) (m p : Nat) (e g : Int) :
    |Claims.value k p g - Claims.value n m e| = |Claims.value (k != n) p g - Claims.value false m e| := by
  cases n
  · simp
  · rw [← abs_neg]
    cases k <;> simp [Claims.value] <;> ring_nf

namespace FpFormat
variable (f : FpFormat)

/-- The code of a sign with a magnitude's code. -/
def signedCode (n : Bool) (c : Nat) : Nat := (if n then f.signBit else 0) + c

theorem bit_signedCode {n : Bool} {c : Nat} (hc : c < f.signBit) : bit (f.signedCode n c) (f.ebits + f.mbits) = n := by
  change ((f.signedCode n c / f.signBit) % 2 == 1) = n
  cases n
  · simp [signedCode, Nat.div_eq_of_lt hc]
  · simp [signedCode, Nat.add_div_left _ (Nat.zero_lt_of_lt hc), Nat.div_eq_of_lt hc]

theorem signedCode_mod {n : Bool} {c : Nat} (hc : c < f.signBit) : f.signedCode n c % f.signBit = c := by
  cases n <;> simp [signedCode, Nat.mod_eq_of_lt hc]

variable {f}

/-- A code up to the largest finite one denotes a subnormal or a normal value. -/
theorem decode_signedCode (hf : f.maxCode < f.signBit) (n : Bool) {c : Nat} (hc : c ≤ f.maxCode) : f.decode (f.signedCode n c) =
    if c / 2 ^ f.mbits = 0 then .fin n (c % 2 ^ f.mbits) f.qmin
    else .fin n (c % 2 ^ f.mbits + 2 ^ f.mbits) (f.qmin + (c / 2 ^ f.mbits - 1 : Nat)) := by
  rw [decode, f.bit_signedCode (hc.trans_lt hf), f.signedCode_mod (hc.trans_lt hf)]
  exact if_pos hc

theorem decode_subnormal (hf : f.maxCode < f.signBit) (n : Bool) {r : Nat} (hr : r < 2 ^ f.mbits) (hc : r ≤ f.maxCode) :
    f.decode (f.signedCode n r) = .fin n r f.qmin := by
  rw [decode_signedCode hf n hc, if_pos (Nat.div_eq_of_lt hr), Nat.mod_eq_of_lt hr]

theorem decode_normal (hf : f.maxCode < f.signBit) (n : Bool) {k r : Nat} (hr : r < 2 ^ f.mbits)
    (hc : (k + 1) * 2 ^ f.mbits + r ≤ f.maxCode) :
    f.decode (f.signedCode n ((k + 1) * 2 ^ f.mbits + r)) = .fin n (2 ^ f.mbits + r) (f.qmin + k) := by
  have hdiv : ((k + 1) * 2 ^ f.mbits + r) / 2 ^ f.mbits = k + 1 := by
    rw [Nat.mul_comm, Nat.mul_add_div (by positivity), Nat.div_eq_of_lt hr, Nat.add_zero]
  have hmod : ((k + 1) * 2 ^ f.mbits + r) % 2 ^ f.mbits = r := by
    rw [Nat.mul_comm, Nat.mul_add_mod, Nat.mod_eq_of_lt hr]
  rw [decode_signedCode hf n hc, hdiv, hmod, if_neg k.succ_ne_zero, Nat.add_sub_cancel, Nat.add_comm r]

/-- The code that `roundCode` builds from t units of 2^(qmin + k) denotes them, also where t has reached the next binade. -/
theorem decode_grid (hf : f.maxCode < f.signBit) (n : Bool) {k t : Nat} (hlow : k = 0 ∨ 2 ^ f.mbits ≤ t) (hhigh : t ≤ 2 ^ (f.mbits + 1))
    (hc : k * 2 ^ f.mbits + t ≤ f.maxCode) :
    ∃ m e, f.decode (f.signedCode n (k * 2 ^ f.mbits + t)) = .fin n m e ∧ Claims.value n m e = Claims.value n t (f.qmin + k) := by
  rw [pow_succ] at hhigh
  rcases lt_or_ge t (2 ^ f.mbits) with hsub | hnorm
  · obtain rfl : k = 0 := hlow.resolve_right (Nat.not_le.2 hsub)
    rw [Nat.zero_mul, Nat.zero_add] at hc ⊢
    exact ⟨t, f.qmin, decode_subnormal hf n hsub hc, by simp⟩
  · obtain ⟨r, rfl⟩ := Nat.exists_eq_add_of_le hnorm
    rw [show k * 2 ^ f.mbits + (2 ^ f.mbits + r) = (k + 1) * 2 ^ f.mbits + r by ring] at hc ⊢
    rcases Nat.lt_or_eq_of_le (show r ≤ 2 ^ f.mbits by omega) with hr | hr
    · exact ⟨_, _, decode_normal hf n hr hc, rfl⟩
    · rw [show (k + 1) * 2 ^ f.mbits + r = (k + 1 + 1) * 2 ^ f.mbits + 0 by rw [hr]; ring] at hc ⊢
      refine ⟨_, _, decode_normal hf n (by positivity) hc, ?_⟩
      simp only [Claims.value, hr, Nat.cast_add, Nat.cast_pow, Nat.cast_one, Nat.cast_ofNat, Nat.cast_zero, ← add_assoc,
        zpow_add_one₀ (two_ne_zero' ℚ)]
      ring

/-- Every finite datum of an encoding has at most mbits + 1 bits, at or above the least quantum. -/
theorem bounds_of_decode_fin {c m : Nat} {n : Bool} {e : Int} (h : f.decode c = .fin n m e) : m < 2 ^ (f.mbits + 1) ∧ f.qmin ≤ e := by
  have hfr : c % f.signBit % 2 ^ f.mbits < 2 ^ f.mbits := Nat.mod_lt _ (by positivity)
  rw [pow_succ]
  simp only [decode] at h
  split at h
  · split at h
    all_goals
      simp only [Fp.fin.injEq] at h
      obtain ⟨-, rfl, rfl⟩ := h
      omega
  · split at h <;> cases h

/-! Rounding to the grid of an encoding (R42, R49) -/

variable (f)

/-- The exponent of the grid's step at m × 2^e: mbits below its leading bit, but never below the least quantum. -/
def quantum (m : Nat) (e : Int) : Int := max ((m.log2 : Int) + e - f.mbits) f.qmin

/-- The rounded magnitude, in steps of the grid. -/
def steps (m : Nat) (e : Int) : Nat := nearestEven m (e - f.quantum m e)

theorem qmin_le_quantum (m : Nat) (e : Int) : f.qmin ≤ f.quantum m e := le_max_right _ _

theorem roundCode_exact (m : Nat) (e : Int) :
    roundCode f.mbits f.qmin m e false = (f.quantum m e - f.qmin).toNat * 2 ^ f.mbits + f.steps m e := by
  rw [roundCode, steps, nearestEven, ← quantum, neg_sub]
  simp only [sub_nonneg, Bool.false_eq_true, false_or]

theorem encode_of_le (ov : Overflow) (n : Bool) {m c : Nat} (e : Int)
    (hcode : (if m = 0 then 0 else roundCode f.mbits f.qmin m e false) = c) (hc : c ≤ f.maxCode) :
    f.encode ov (.fin n m e) = f.signedCode n c := by
  subst hcode
  exact if_pos hc

theorem encode_fin (ov : Overflow) (n : Bool) {m : Nat} (hm : m ≠ 0) (e : Int)
    (hc : (f.quantum m e - f.qmin).toNat * 2 ^ f.mbits + f.steps m e ≤ f.maxCode) :
    f.encode ov (.fin n m e) = f.signedCode n ((f.quantum m e - f.qmin).toNat * 2 ^ f.mbits + f.steps m e) := by
  exact f.encode_of_le ov n e (by rw [if_neg hm, roundCode_exact]) hc

theorem encode_zero (ov : Overflow) (n : Bool) (e : Int) : f.encode ov (.fin n 0 e) = f.signedCode n 0 :=
  f.encode_of_le ov n e (if_pos rfl) (Nat.zero_le _)

variable {m : Nat} (e : Int)

theorem lt_two_zpow_quantum : (m : ℚ) * 2 ^ e < 2 ^ (f.quantum m e + (f.mbits + 1 : Nat)) := by
  have hlog : (m : ℚ) < 2 ^ (m.log2 + 1 : Nat) := by exact_mod_cast Nat.lt_log2_self
  calc (m : ℚ) * 2 ^ e < 2 ^ (m.log2 + 1 : Nat) * 2 ^ e := mul_lt_mul_of_pos_right hlog (by positivity)
    _ = 2 ^ ((m.log2 + 1 : Nat) + e) := by rw [zpow_add₀ two_ne_zero, zpow_natCast]
    _ ≤ 2 ^ (f.quantum m e + (f.mbits + 1 : Nat)) := zpow_le_zpow_right₀ one_le_two (by rw [quantum]; omega)

theorem two_zpow_quantum_le (hm : m ≠ 0) (hq : f.qmin < f.quantum m e) : (2 : ℚ) ^ (f.quantum m e + f.mbits) ≤ m * 2 ^ e := by
  have hlog : (2 : ℚ) ^ m.log2 ≤ m := by exact_mod_cast Nat.log2_self_le hm
  calc (2 : ℚ) ^ (f.quantum m e + f.mbits) = 2 ^ ((m.log2 : Int) + e) := by rw [quantum] at hq ⊢; congr 1; omega
    _ = 2 ^ m.log2 * 2 ^ e := by rw [zpow_add₀ two_ne_zero, zpow_natCast]
    _ ≤ m * 2 ^ e := mul_le_mul_of_nonneg_right hlog (by positivity)

/-- A bound on a magnitude, counted in steps of the grid. -/
theorem steps_le {b : Nat} (h : (m : ℚ) * 2 ^ e ≤ b * 2 ^ f.quantum m e) : f.steps m e ≤ b := by
  apply nearestEven_le
  rwa [zpow_sub₀ two_ne_zero, ← mul_div_assoc, div_le_iff₀ (by positivity)]

theorem steps_le_binade : f.steps m e ≤ 2 ^ (f.mbits + 1) := by
  apply f.steps_le
  have h := (f.lt_two_zpow_quantum (m := m) e).le
  rwa [add_comm, zpow_add₀ two_ne_zero, zpow_natCast, ← Nat.cast_two, ← Nat.cast_pow] at h

theorem binade_le_steps (hm : m ≠ 0) (hq : f.qmin < f.quantum m e) : 2 ^ f.mbits ≤ f.steps m e := by
  apply le_nearestEven
  have h := f.two_zpow_quantum_le e hm hq
  rw [zpow_add₀ two_ne_zero, zpow_natCast] at h
  rw [zpow_sub₀ two_ne_zero, ← mul_div_assoc, le_div_iff₀ (by positivity), mul_comm]
  exact_mod_cast h

/-- A datum of the encoding is a whole number of steps, or lies below m × 2^e with a whole number of steps between them. -/
theorem whole_steps_or_below (hm : m ≠ 0) (k : Bool) {p : Nat} {g : Int} (hp : p < 2 ^ (f.mbits + 1)) (hg : f.qmin ≤ g) :
    (∃ z : Int, Claims.value k p g = z * 2 ^ f.quantum m e) ∨
    (Claims.value k p g ≤ (2 ^ f.mbits : Nat) * 2 ^ f.quantum m e ∧ ((2 ^ f.mbits : Nat) : ℚ) * 2 ^ f.quantum m e ≤ m * 2 ^ e) := by
  rcases le_or_gt (f.quantum m e) g with hge | hlt
  · left
    obtain ⟨j, rfl⟩ := Int.le.dest hge
    refine ⟨(if k then -1 else 1) * p * 2 ^ j, ?_⟩
    rw [Claims.value, zpow_add₀ two_ne_zero, zpow_natCast]
    push_cast
    ring
  · right
    have hbelow : (p : ℚ) * 2 ^ g ≤ 2 ^ f.mbits * 2 ^ f.quantum m e := by
      have hp' : (p : ℚ) ≤ 2 ^ f.mbits * 2 := by exact_mod_cast (pow_succ 2 f.mbits ▸ hp).le
      calc (p : ℚ) * 2 ^ g ≤ 2 ^ f.mbits * 2 * 2 ^ g := mul_le_mul_of_nonneg_right hp' (by positivity)
        _ = 2 ^ f.mbits * 2 ^ (g + 1) := by rw [zpow_add_one₀ two_ne_zero]; ring
        _ ≤ 2 ^ f.mbits * 2 ^ f.quantum m e :=
          mul_le_mul_of_nonneg_left (zpow_le_zpow_right₀ one_le_two hlt) (by positivity)
    have hle := f.two_zpow_quantum_le e hm (hg.trans_lt hlt)
    rw [add_comm, zpow_add₀ two_ne_zero, zpow_natCast] at hle
    push_cast
    refine ⟨le_trans ?_ hbelow, hle⟩
    rw [Claims.value, mul_assoc]
    exact mul_le_of_le_one_left (by positivity) (by split <;> norm_num)

theorem dist_whole_steps (z : Int) :
    |(z : ℚ) * 2 ^ f.quantum m e - m * 2 ^ e| = |(z : ℚ) - m * 2 ^ (e - f.quantum m e)| * 2 ^ f.quantum m e := by
  have hexact : (m : ℚ) * 2 ^ e = m * 2 ^ (e - f.quantum m e) * 2 ^ f.quantum m e := by
    rw [mul_assoc, ← zpow_add₀ two_ne_zero, sub_add_cancel]
  rw [hexact, ← sub_mul, abs_mul, abs_of_pos (show (0 : ℚ) < 2 ^ f.quantum m e by positivity)]

theorem steps_dist_le_whole_steps (z : Int) :
    |(f.steps m e : ℚ) * 2 ^ f.quantum m e - m * 2 ^ e| ≤ |(z : ℚ) * 2 ^ f.quantum m e - m * 2 ^ e| := by
  rw [f.dist_whole_steps e z, ← Int.cast_natCast, f.dist_whole_steps e (f.steps m e)]
  exact mul_le_mul_of_nonneg_right (nearestEven_dist_le m _ z) (by positivity)

/-- No datum of the encoding is nearer to ± m × 2^e than its steps are. -/
theorem steps_dist_le (hm : m ≠ 0) (n k : Bool) {p : Nat} {g : Int} (hp : p < 2 ^ (f.mbits + 1)) (hg : f.qmin ≤ g) :
    |Claims.value n (f.steps m e) (f.quantum m e) - Claims.value n m e| ≤ |Claims.value k p g - Claims.value n m e| := by
  rw [abs_value_sub_value n n, abs_value_sub_value n k, bne_self_eq_false, value_false, value_false]
  obtain ⟨z, hz⟩ | ⟨hbelow, hle⟩ := f.whole_steps_or_below e hm (k != n) hp hg
  · rw [hz]
    exact f.steps_dist_le_whole_steps e z
  · refine (f.steps_dist_le_whole_steps e (2 ^ f.mbits : Nat)).trans ?_
    rw [Int.cast_natCast, abs_of_nonpos (sub_nonpos.2 hle), abs_of_nonpos (sub_nonpos.2 (hbelow.trans hle))]
    linarith

/-- A value whose code stays in the encoding rounds to the nearest datum of the encoding. -/
theorem decode_encode_nearest (hf : f.maxCode < f.signBit) (ov : Overflow) (n : Bool)
    (hc : m ≠ 0 → (f.quantum m e - f.qmin).toNat * 2 ^ f.mbits + f.steps m e ≤ f.maxCode) :
    ∃ n1 m1 e1, f.decode (f.encode ov (.fin n m e)) = .fin n1 m1 e1 ∧
      ∀ (c : Nat) n2 m2 e2, f.decode c = .fin n2 m2 e2 →
        |Claims.value n1 m1 e1 - Claims.value n m e| ≤ |Claims.value n2 m2 e2 - Claims.value n m e| := by
  by_cases hm : m = 0
  · subst hm
    rw [f.encode_zero]
    refine ⟨n, 0, f.qmin, decode_subnormal hf n (by positivity) (Nat.zero_le _), fun c n2 m2 e2 _ => ?_⟩
    simp only [value_zero, sub_self, abs_zero, abs_nonneg]
  · have hq := f.qmin_le_quantum m e
    have hlow : (f.quantum m e - f.qmin).toNat = 0 ∨ 2 ^ f.mbits ≤ f.steps m e := by
      rcases hq.eq_or_lt with heq | hlt
      · exact .inl (by omega)
      · exact .inr (f.binade_le_steps e hm hlt)
    obtain ⟨m1, e1, hdecode, hvalue⟩ := decode_grid hf n hlow (f.steps_le_binade e) (hc hm)
    rw [Int.toNat_of_nonneg (sub_nonneg.2 hq), add_sub_cancel] at hvalue
    refine ⟨n, m1, e1, by rw [f.encode_fin ov n hm e (hc hm), hdecode], fun c n2 m2 e2 hdatum => ?_⟩
    obtain ⟨hbits, hleast⟩ := bounds_of_decode_fin hdatum
    rw [hvalue]
    exact f.steps_dist_le e hm n n2 hbits hleast

end FpFormat

/-! FP32 below its overflow threshold, halfway from its largest datum to 2^128 -/

section Fp32
variable {m : Nat} {e : Int} (h : (m : ℚ) * 2 ^ e < (2 ^ 25 - 1) * 2 ^ 103)
include h

theorem fp32_quantum_le (hm : m ≠ 0) : fp32.quantum m e ≤ 104 := by
  by_contra! hq
  have hle := fp32.two_zpow_quantum_le e hm (lt_trans (by decide) hq)
  have hpow : (2 : ℚ) ^ (128 : Int) ≤ 2 ^ (fp32.quantum m e + fp32.mbits) :=
    zpow_le_zpow_right₀ one_le_two (show (128 : Int) ≤ fp32.quantum m e + (23 : Nat) by omega)
  have hcontra := (hpow.trans hle).trans_lt h
  norm_num at hcontra

/-- In the highest binade the threshold lies half a step below 2^24 steps. -/
theorem fp32_steps_lt (hq : fp32.quantum m e = 104) : fp32.steps m e < 2 ^ 24 := by
  have hhalf := (abs_le.1 (nearestEven_dist_le_half m (e - fp32.quantum m e))).2
  have hexact : (m : ℚ) * 2 ^ (e - fp32.quantum m e) < 2 ^ 24 - 1 / 2 := by
    rw [hq, zpow_sub₀ two_ne_zero, ← mul_div_assoc, div_lt_iff₀ (by positivity)]
    exact h.trans_eq (by norm_num)
  rw [← FpFormat.steps] at hhalf
  exact_mod_cast (by linarith : (fp32.steps m e : ℚ) < 2 ^ 24)

theorem fp32_code_le_maxCode (hm : m ≠ 0) :
    (fp32.quantum m e - fp32.qmin).toNat * 2 ^ fp32.mbits + fp32.steps m e ≤ fp32.maxCode := by
  have hq := fp32_quantum_le h hm
  have hbinade : fp32.steps m e ≤ 2 ^ 24 := fp32.steps_le_binade e
  have htop := fp32_steps_lt h
  change (fp32.quantum m e - -149).toNat * 2 ^ 23 + fp32.steps m e ≤ 0x7F7FFFFF
  omega

end Fp32
end Sys2Proof.Machine

open Sys2Proof Sys2Proof.Machine Sys2Proof.Claims

/-- Settles O20: the value of a blocked element is decided by the exponent of its block's scale code, which 0xFF alone lacks. -/
theorem blockScaleIsE8M0 : Obligations.BlockScaleIsE8M0 := by
  unfold Obligations.BlockScaleIsE8M0
  exact ⟨fun c hc => scaleExp_of_le hc, fun f code c hf hc => Fmt.value_of_scaleExp code hf (scaleExp_of_le hc),
    fun f code hf => Fmt.value_of_scaleExp_none code hf scaleExp_nan⟩

/-- Settles O21: the code of a rounding counts steps of the grid at its datum, and every datum of FP32 is a whole number of such steps or
lies beyond one; an integer format rounds by the same steps of 1. -/
theorem conversionsRoundToNearest : Obligations.ConversionsRoundToNearest := by
  unfold Obligations.ConversionsRoundToNearest
  refine ⟨fun n m e h => fp32.decode_encode_nearest e (by decide) .toInf n (fp32_code_le_maxCode h), fun f hf => ⟨fun n m e => ?_, ?_⟩⟩
  · exact ⟨roundInt (.fin n m e), Fmt.convert_fin hf n m e, (roundInt_dist n m e).trans_le (nearestEven_dist_le_half m e),
      roundInt_even_of_tie⟩
  · exact ⟨Fmt.convert_inf hf false, Fmt.convert_inf hf true, Fmt.convert_nan hf⟩

end

section
/-! The instruction that a bench issues (R65, R94, R100): its command runs the instruction's effect on the state after the fetch, and a
kernel instruction's with the operands that its descriptors name. -/

namespace Sys2Proof.Machine.State
open Sys2Proof.Claims

variable {s : State} {b d : Nat} {j : Job} {w code : Nat} {o : Ops4}

/-- The effect runs on the state after the fetch. -/
theorem runInstr_issues (h : issues s b d j w code) (k : Nat → Job → Nat → State → State) :
    s.runInstr b code k = k d j w (fetched s b d j) := by
  obtain ⟨-, hissue, hfetch, hop⟩ := h
  obtain ⟨bs, hbytes, hword⟩ := Option.map_eq_some_iff.1 hfetch
  have hpair : s.fetchInstr b d j = (some bs, fetched s b d j) := Prod.ext hbytes rfl
  rw [runInstr, hissue]
  simp only [hpair, hword, hop, if_true]

/-- Operands that can be formed are those that the kernel works on. -/
theorem runKernelInstr_issues (h : issues s b d j w code) (ho : (fetched s b d j).operands b d j w = .ok o)
    (k : Nat → Job → Nat → Ops4 → State → State) : s.runKernelInstr b code k = k d j w o (fetched s b d j) := by
  rw [runKernelInstr, runInstr_issues h]
  simp only [ho]

/-- What the command of a kernel instruction answers. -/
theorem live_kernel (h : issues s b d j w code) (ho : (fetched s b d j).operands b d j w = .ok o)
    (k : Nat → Job → Nat → Ops4 → State → State) : s.live (s.runKernelInstr b code k) = .next (k d j w o (fetched s b d j)) := by
  rw [runKernelInstr_issues h ho, live_running s _ h.1]

end Sys2Proof.Machine.State
end

section
/-! The kernels (R62, R79, R100 to R110): with operands that meet its table a kernel has a result, and where they lie as they may the whole of
it is written. -/

namespace Sys2Proof.Machine

open BenchInstr

/-! Operands that meet a kernel's table have a result -/

section Results
variable {w : Nat} {rdA rdB rdC : Nat → Byte}

theorem norm_some : ∀ {o : Ops4}, normOk w o.descs = true → ∃ out, norm o w rdA rdB rdC = some out
  | ⟨some _, some _, some _, _⟩, _ => ⟨_, rfl⟩
  | ⟨_, none, _, _⟩, h => (Bool.false_ne_true h).elim
  | ⟨_, some _, none, _⟩, h => (Bool.false_ne_true h).elim
  | ⟨none, some _, some _, _⟩, h => (Bool.false_ne_true h).elim

theorem act_some : ∀ {o : Ops4}, actOk w o.descs = true → ∃ out, act o w rdA rdB = some out
  | ⟨some _, some _, _, _⟩, _ => ⟨_, rfl⟩
  | ⟨_, none, _, _⟩, h => (Bool.false_ne_true h).elim
  | ⟨none, some _, _, _⟩, h => (Bool.false_ne_true h).elim

theorem quant_some {up : Bool} : ∀ {o : Ops4}, quantOk w o.descs up = true → ∃ out, quant o rdA = some out
  | ⟨some d, some a, _, _⟩, _ => by
    by_cases hblocked : d.d.fmt.blocked = true
    · exact ⟨_, if_pos hblocked⟩
    · exact ⟨_, if_neg hblocked⟩
  | ⟨_, none, _, _⟩, h => (Bool.false_ne_true h).elim
  | ⟨none, some _, _, _⟩, h => (Bool.false_ne_true h).elim

theorem dequant_some {up : Bool} : ∀ {o : Ops4}, quantOk w o.descs up = true → ∃ out, dequant o rdA = some out
  | ⟨some _, some _, _, _⟩, _ => ⟨_, rfl⟩
  | ⟨_, none, _, _⟩, h => (Bool.false_ne_true h).elim
  | ⟨none, some _, _, _⟩, h => (Bool.false_ne_true h).elim

theorem topk_some : ∀ {o : Ops4}, topkOk w o.descs = true → ∃ out, topk o w rdA = some out
  | ⟨some _, some _, _, some _⟩, _ => ⟨_, rfl⟩
  | ⟨_, none, _, _⟩, h => (Bool.false_ne_true h).elim
  | ⟨_, some _, _, none⟩, h => (Bool.false_ne_true h).elim
  | ⟨none, some _, _, some _⟩, h => (Bool.false_ne_true h).elim

theorem sample_some (p : SampleParams) : ∀ {o : Ops4}, sampleOk w o.descs = true → ∃ out, sample o w p rdA rdB rdC = some out
  | ⟨some _, some _, some _, _⟩, _ => ⟨_, rfl⟩
  | ⟨_, none, _, _⟩, h => (Bool.false_ne_true h).elim
  | ⟨_, some _, none, _⟩, h => (Bool.false_ne_true h).elim
  | ⟨none, some _, some _, _⟩, h => (Bool.false_ne_true h).elim

/-- REDUCE has at least two parts to reduce (R110). -/
theorem two_le_imm_of_reduceOk {o : Operands} (h : reduceOk w o = true) : 2 ≤ imm w := by
  unfold reduceOk at h
  split at h
  · simp only [Bool.and_eq_true, decide_eq_true_eq] at h
    exact h.1.1.2
  · exact (Bool.false_ne_true h).elim

theorem reduce_some (g : Option Fp) : ∀ {o : Ops4}, reduceOk w o.descs = true → ∃ out, reduce o w g rdA = some out
  | ⟨some d, some a, _, _⟩, h => by
    obtain ⟨n, hn⟩ := Nat.exists_eq_add_of_le' (two_le_imm_of_reduceOk h)
    simp only [reduce, hn, rows]
    exact ⟨_, rfl⟩
  | ⟨_, none, _, _⟩, h => (Bool.false_ne_true h).elim
  | ⟨none, some _, _, _⟩, h => (Bool.false_ne_true h).elim

theorem matvec_some {a v : View} : ∀ {o : Ops4}, matvecOk w o.descs = true → o.a = some a → o.b = some v →
    ∃ out, matvec o w rdA rdB rdC = some out ∧ ∀ x, (out.leaves x).latch0 = (latchTiles x a v rdA).latch0 ∧
      (out.leaves x).latch1 = (latchTiles x a v rdA).latch1 ∧ (out.leaves x).nextLatch = (latchTiles x a v rdA).nextLatch
  | ⟨some _, _, _, _⟩, _, rfl, rfl => ⟨_, rfl, fun _ => ⟨rfl, rfl, rfl⟩⟩
  | ⟨none, _, _, _⟩, h, rfl, rfl => (Bool.false_ne_true h).elim

theorem attend_some {a pool c : View} (scale : Fp) (tokens window free : Nat) : ∀ {o : Ops4}, attendOk w o.descs = true →
    o.a = some a → o.b = some pool → o.c = some c → ∃ out, attend o scale tokens window rdA rdB rdC free = some out
  | ⟨some _, _, _, _⟩, _, rfl, rfl, rfl => by
    by_cases hempty : tokens = 0 ∨ tokens ≤ if window = 0 then 0 else tokens - window
    · exact ⟨_, if_pos hempty⟩
    · exact ⟨_, if_neg hempty⟩
  | ⟨none, _, _, _⟩, h, rfl, rfl, rfl => (Bool.false_ne_true h).elim

theorem attendOk_dest : ∀ {o : Ops4}, attendOk w o.descs = true → ∃ d, o.d = some d
  | ⟨some d, _, _, _⟩, _ => ⟨d, rfl⟩
  | ⟨none, some _, some _, some _⟩, h => (Bool.false_ne_true h).elim
  | ⟨none, none, _, _⟩, h => (Bool.false_ne_true h).elim
  | ⟨none, some _, none, _⟩, h => (Bool.false_ne_true h).elim
  | ⟨none, some _, some _, none⟩, h => (Bool.false_ne_true h).elim

/-- An index of GATHER that lies in the table of n rows (R104). -/
def inTable (n : Nat) (i : Int) : Bool := 0 ≤ i && i < (n : Int)

/-- The indices that GATHER reads (R104). -/
def gatherIndices (c : View) (rdB : Nat → Byte) : List Int := (c.elems rdB).map fun e => indexOf c.d.fmt e.1

theorem any_outside_eq (n : Nat) (idx : List Int) : (idx.any fun i => i < 0 || (n : Int) ≤ i) = !idx.all (inTable n) := by
  rw [List.not_all_eq_any_not]
  refine congrArg idx.any (funext fun i => ?_)
  simp only [inTable, Bool.not_and, ← decide_not, not_le, not_lt]

section Gather
variable {a c : View} {zero : Bool}

theorem gather_some : ∀ {o : Ops4}, gatherOk w o.descs = true → o.a = some a → o.b = some c →
    (zero = true ∨ (gatherIndices c rdB).all (inTable (a.d.dim 1)) = true) → ∃ out, gather o zero rdA rdB = some out
  | ⟨some _, _, _, _⟩, _, rfl, rfl, hin => by
    have hfree : ¬ ((gatherIndices c rdB).any (fun i => i < 0 || ((a.d.dim 1 : Nat) : Int) ≤ i) && !zero) = true := by
      rw [any_outside_eq]
      rcases hin with hzero | hall
      · simp [hzero]
      · simp [hall]
    exact ⟨_, if_neg hfree⟩
  | ⟨none, _, _, _⟩, h, rfl, rfl, _ => (Bool.false_ne_true h).elim

theorem gather_none : ∀ {o : Ops4}, gatherOk w o.descs = true → o.a = some a → o.b = some c → zero = false →
    (gatherIndices c rdB).all (inTable (a.d.dim 1)) = false → gather o zero rdA rdB = none
  | ⟨some _, _, _, _⟩, _, rfl, rfl, hzero, hout => by
    have hbad : ((gatherIndices c rdB).any (fun i => i < 0 || ((a.d.dim 1 : Nat) : Int) ≤ i) && !zero) = true := by
      rw [any_outside_eq, hzero, hout]
      rfl
    exact if_pos hbad
  | ⟨none, _, _, _⟩, h, rfl, rfl, _, _ => (Bool.false_ne_true h).elim

end Gather
end Results

/-! Running a kernel -/

namespace State
open Sys2Proof.Claims

variable {t : State} {b d : Nat} {j : Job} {reads writes : List (View × List (Nat × Nat))} {params : List (Nat × Nat)}

/-- A kernel that may run answers what its work gives: the whole result, or a JOB_FAULT. -/
theorem runKernel_runnable (h : runnable t b d j reads writes params) (k : State → Option KernelOut) :
    t.runKernel b d j reads writes params k = ((k t).map (written t b d reads)).getD (t.benchFault b 0x0C) := by
  obtain ⟨hreads, hwrites, hparams, hheld, hmoves, hbad⟩ := h
  rw [runKernel, hreads, hwrites, hparams, if_neg (by simp), if_neg (by simp [hheld, hmoves]), hbad]
  cases k t <;> rfl

theorem runKernel_some (h : runnable t b d j reads writes params) {k : State → Option KernelOut} {out : KernelOut} (hk : k t = some out) :
    t.runKernel b d j reads writes params k = written t b d reads out := by
  rw [runKernel_runnable h, hk, Option.map_some, Option.getD_some]

theorem runKernel_none (h : runnable t b d j reads writes params) {k : State → Option KernelOut} (hk : k t = none) :
    t.runKernel b d j reads writes params k = t.benchFault b 0x0C := by
  rw [runKernel_runnable h, hk, Option.map_none, Option.getD_none]

/-- A kernel that runs when its operands meet its table: it writes its result, or is a JOB_FAULT. -/
theorem kernel_writes_or_faults {c : Instr} {s : State} {ok : Bool} {k : State → Option KernelOut}
    (hexec : exec c s = .next (if ok then t.runKernel b d j reads writes params k else t.benchFault b 0x0C))
    (hsome : ok = true → ∃ out, k t = some out) :
    (ok = true → runnable t b d j reads writes params → ∃ out, k t = some out ∧ exec c s = .next (written t b d reads out)) ∧
    (ok = false → exec c s = .next (t.benchFault b 0x0C)) := by
  refine ⟨fun hok hrun => ?_, fun hok => ?_⟩
  · obtain ⟨out, hk⟩ := hsome hok
    exact ⟨out, hk, by rw [hexec, if_pos hok, runKernel_some hrun hk]⟩
  · rw [hexec, hok]
    rfl

end State

/-! What each kernel's command does with its operands -/

namespace State
open Sys2Proof.Claims

variable {s : State} {b d : Nat} {j : Job} {w : Nat} {o : Ops4}

section Whole
variable (ho : (fetched s b d j).operands b d j w = .ok o)
include ho

theorem exec_norm_issued (h : issues s b d j w 0x13) : exec (.norm b) s = .next (if normOk w o.descs then
    (fetched s b d j).runKernel b d j (whole [o.a, o.b, o.c]) (whole [o.d]) []
      fun u => norm o w (u.rdOf b d o.a) (u.rdOf b d o.b) (u.rdOf b d o.c)
    else (fetched s b d j).benchFault b 0x0C) := live_kernel h ho _

theorem exec_act_issued (h : issues s b d j w 0x14) : exec (.act b) s = .next (if actOk w o.descs then
    (fetched s b d j).runKernel b d j (whole [o.a, o.b, o.c]) (whole [o.d]) [] fun u => act o w (u.rdOf b d o.a) (u.rdOf b d o.b)
    else (fetched s b d j).benchFault b 0x0C) := live_kernel h ho _

theorem exec_quant_issued (h : issues s b d j w 0x15) : exec (.quant b) s = .next (if quantOk w o.descs false then
    (fetched s b d j).runKernel b d j (whole [o.a, o.b, o.c]) (whole [o.d]) [] fun u => quant o (u.rdOf b d o.a)
    else (fetched s b d j).benchFault b 0x0C) := live_kernel h ho _

theorem exec_dequant_issued (h : issues s b d j w 0x16) : exec (.dequant b) s = .next (if quantOk w o.descs true then
    (fetched s b d j).runKernel b d j (whole [o.a, o.b, o.c]) (whole [o.d]) [] fun u => dequant o (u.rdOf b d o.a)
    else (fetched s b d j).benchFault b 0x0C) := live_kernel h ho _

theorem exec_topk_issued (h : issues s b d j w 0x17) : exec (.topk b) s = .next (if topkOk w o.descs then
    (fetched s b d j).runKernel b d j (whole [o.a]) (whole [o.d, o.c]) [] fun u => topk o w (u.rdOf b d o.a)
    else (fetched s b d j).benchFault b 0x0C) := live_kernel h ho _

/-- The factor that APPLY_G gives REDUCE, of its parameter block (R110). -/
def reduceFactor (t : State) (b w : Nat) : Option Fp :=
  if bit (mode w) 2 then some (fmul (ofF32 (leAt (t.paramAt b w 8) 0 4)) (ofF32 (leAt (t.paramAt b w 8) 4 4))) else none

theorem exec_reduce_issued (h : issues s b d j w 0x19) : exec (.reduce b) s = .next (if reduceOk w o.descs then
    (fetched s b d j).runKernel b d j (whole [o.a]) (whole [o.d]) (if bit (mode w) 2 then [(param w, 8)] else [])
      fun u => reduce o w (u.reduceFactor b w) (u.rdOf b d o.a)
    else (fetched s b d j).benchFault b 0x0C) := by
  refine (live_kernel h ho _).trans (congrArg _ ?_)
  cases reduceOk w o.descs <;> rfl

end Whole

/-! MATVEC -/

section Matvec
variable (ho : (fetched s b d j).operands b d j w = .ok o) (h : issues s b d j w 0x10)
include ho h

theorem exec_matvec_refused (hok : matvecOk w o.descs = false) : exec (.matvec b) s = .next ((fetched s b d j).benchFault b 0x0C) := by
  refine (live_kernel h ho _).trans (congrArg _ ?_)
  rw [hok]
  rfl

/-- Each pass reads the weights again (R63). -/
theorem exec_matvec_issued {a v : View} (hok : matvecOk w o.descs = true) (ha : o.a = some a) (hb : o.b = some v) :
    exec (.matvec b) s = .next ((fetched s b d j).runKernel b d j (whole (List.replicate (passCount a v) o.a ++ [o.b, o.c])) (whole [o.d]) []
      fun u => matvec o w (u.rdOf b d o.a) (u.rdOf b d o.b) (u.rdOf b d o.c)) := by
  refine (live_kernel h ho _).trans (congrArg _ ?_)
  simp only [hok, ha, hb, if_true]

theorem matvec_writes {a v : View} (hok : matvecOk w o.descs = true) (ha : o.a = some a) (hb : o.b = some v)
    (hrun : runnable (fetched s b d j) b d j (whole (List.replicate (passCount a v) o.a ++ [o.b, o.c])) (whole [o.d]) []) :
    let rd := fun x => (fetched s b d j).rdOf b d x
    ∃ out, matvec o w (rd o.a) (rd o.b) (rd o.c) = some out ∧
      exec (.matvec b) s = .next (written (fetched s b d j) b d (whole (List.replicate (passCount a v) o.a ++ [o.b, o.c])) out) ∧
      ∀ x, (out.leaves x).latch0 = (latchTiles x a v (rd o.a)).latch0 ∧ (out.leaves x).latch1 = (latchTiles x a v (rd o.a)).latch1 ∧
        (out.leaves x).nextLatch = (latchTiles x a v (rd o.a)).nextLatch := by
  intro rd
  obtain ⟨out, hout, hlatches⟩ := matvec_some (rdA := rd o.a) (rdB := rd o.b) (rdC := rd o.c) hok ha hb
  exact ⟨out, hout, by rw [exec_matvec_issued ho h hok ha hb, runKernel_some hrun hout], hlatches⟩

end Matvec

/-! GATHER -/

/-- The bytes of the table's rows that the indices name: each row, and its scales (R104). -/
def gatherSpans (a : View) (idx : List Int) : List (Nat × Nat) :=
  (idx.filter (inTable (a.d.dim 1))).flatMap fun i =>
    ((nth (0, 0, 0) a.runs i.toNat).1, a.d.rowBytes (nth (0, 0, 0) a.runs i.toNat).2.1) ::
      (if a.d.fmt.blocked then [(a.sbase + (nth (0, 0, 0) a.runs i.toNat).2.2, a.d.dim 0 / 32)] else [])

/-- An operand that is among those that meet no earlier MOVE meets none. -/
theorem movesOnto_of_mem {t : State} {vs : List (View × List (Nat × Nat))} {x : View × List (Nat × Nat)}
    (h : t.movesOnto b d j vs = false) (hx : x ∈ vs) : t.movesOnto b d j [x] = false := by
  rw [movesOnto, List.any_eq_false] at h
  rw [movesOnto, List.any_cons, Bool.eq_false_iff.2 (h x hx), List.any_nil, Bool.or_false]

section Gather
variable (ho : (fetched s b d j).operands b d j w = .ok o) (h : issues s b d j w 0x12)
include ho h

theorem exec_gather_refused (hok : gatherOk w o.descs = false) : exec (.gather b) s = .next ((fetched s b d j).benchFault b 0x0C) := by
  refine (live_kernel h ho _).trans (congrArg _ ?_)
  dsimp only
  split
  · exact if_pos (by rw [hok]; rfl)
  · rfl

variable {a c : View} (hok : gatherOk w o.descs = true) (ha : o.a = some a) (hc : o.b = some c)
  (hread : (fetched s b d j).spansOk b d j c c.spans false = true)
include hok ha hc hread

/-- The rows that the indices name are read (R104). -/
theorem exec_gather_issued (hmoves : (fetched s b d j).movesOnto b d j [(c, c.spans)] = false) :
    exec (.gather b) s = .next ((fetched s b d j).runKernel b d j
      [(c, c.spans), (a, gatherSpans a (gatherIndices c ((fetched s b d j).rdOf b d o.b)))] (whole [o.d]) []
      fun u => gather o (bit (mode w) 0) (u.rdOf b d o.a) (u.rdOf b d o.b)) := by
  refine (live_kernel h ho _).trans (congrArg _ ?_)
  simp only [ha, hc]
  rw [if_neg (by simp [hok, hread]), if_neg (by simp [hmoves])]
  rfl

/-- With OOB_ZERO, or every index in the table, the result is written; an index outside it is otherwise a JOB_FAULT (R104). -/
theorem gather_writes_or_faults :
    let t := fetched s b d j
    let idx := gatherIndices c (t.rdOf b d o.b)
    let reads := [(c, c.spans), (a, gatherSpans a idx)]
    runnable t b d j reads (whole [o.d]) [] →
    (bit (mode w) 0 = true ∨ idx.all (inTable (a.d.dim 1)) = true → ∃ out,
      gather o (bit (mode w) 0) (t.rdOf b d o.a) (t.rdOf b d o.b) = some out ∧ exec (.gather b) s = .next (written t b d reads out)) ∧
    (bit (mode w) 0 = false → idx.all (inTable (a.d.dim 1)) = false → exec (.gather b) s = .next (t.benchFault b 0x0C)) := by
  intro t idx reads hrun
  obtain ⟨-, -, -, -, hmoves, -⟩ := id hrun
  rw [exec_gather_issued ho h hok ha hc hread (movesOnto_of_mem hmoves (by simp [reads]))]
  refine ⟨fun hin => ?_, fun hzero hout => ?_⟩
  · obtain ⟨out, hout⟩ := gather_some (rdA := t.rdOf b d o.a) hok ha hc hin
    exact ⟨out, hout, congrArg _ (runKernel_some hrun hout)⟩
  · exact congrArg _ (runKernel_none hrun (gather_none hok ha hc hzero hout))

end Gather

/-! ATTEND -/

/-- The first token of ATTEND's window (R102). -/
@[reducible] def attendFirst (tokens window : Nat) : Nat := if window = 0 then 0 else tokens - window

/-- The places in the page list of the pages that its tokens use (R145). -/
@[reducible] def attendUsed (tokens window tpp : Nat) : List Nat :=
  if tokens = 0 ∨ tokens ≤ attendFirst tokens window then []
  else (List.range ((tokens - 1) / tpp - attendFirst tokens window / tpp + 1)).map (attendFirst tokens window / tpp + ·)

/-- The bytes of those entries of the list (R145). -/
@[reducible] def attendList (base tokens window tpp : Nat) : List (Nat × Nat) :=
  if (attendUsed tokens window tpp).isEmpty then []
  else [(base + 4 * (attendFirst tokens window / tpp), 4 * (attendUsed tokens window tpp).length)]

/-- The page that an entry of the list names (R102). -/
def attendEntry (base : Nat) (rdC : Nat → Byte) (i : Nat) : Nat := unpack rdC base .u32 i

/-- The bytes of the pages that the entries name, without their pads (R144, R145). -/
def attendPages (pool : View) (base : Nat) (rdC : Nat → Byte) (used : List Nat) : List (Nat × Nat) :=
  used.map fun i => (pool.base + attendEntry base rdC i * pool.d.pageBytes,
    valScales pool.d + (if pool.d.fmt.blocked then pool.d.dim 1 * pool.d.dim 0 / 32 else 0))

/-- A page that is used lies outside the pool, or outside the ranges that the job declares (R102). -/
def attendOutside (j : Job) (pool : View) (base : Nat) (rdC : Nat → Byte) (used : List Nat) : Bool :=
  (used.any fun i => pool.d.dim 2 ≤ attendEntry base rdC i) ||
    !((attendPages pool base rdC used).all fun x => covered (declared j (· ≤ 1)) x.1 x.2)

/-- The parameters of ATTEND, in its block (R102). -/
def attendScale (t : State) (b w : Nat) : Fp := ofF32 (leAt (t.paramAt b w 16) 0 4)
def attendTokens (t : State) (b w : Nat) : Nat := leAt (t.paramAt b w 16) 8 4
def attendWindow (t : State) (b w : Nat) : Nat := leAt (t.paramAt b w 16) 12 4

/-- The list's entries that the instruction reads. -/
@[reducible] def attendListOf (t : State) (b w : Nat) (pool c : View) : List (Nat × Nat) :=
  attendList c.base (t.attendTokens b w) (t.attendWindow b w) (pool.d.dim 1)

/-- The places of those entries. -/
@[reducible] def attendUsedOf (t : State) (b w : Nat) (pool : View) : List Nat := attendUsed (t.attendTokens b w) (t.attendWindow b w) (pool.d.dim 1)

/-- What ATTEND reads (R145). -/
def attendReads (t : State) (b d w : Nat) (o : Ops4) (a pool c : View) : List (View × List (Nat × Nat)) :=
  [(a, a.spans), (c, t.attendListOf b w pool c), (pool, attendPages pool c.base (t.rdOf b d o.c) (t.attendUsedOf b w pool))]

/-- A check of ATTEND on its parameters or its operands fails (R100, R102). -/
def attendWrong (t : State) (b d : Nat) (j : Job) (w : Nat) (o : Ops4) (a pool c : View) : Bool :=
  !(t.attendScale b w).isFinite || leAt (t.paramAt b w 16) 4 2 != a.d.dim 1 || leAt (t.paramAt b w 16) 6 2 != a.d.dim 0 ||
    a.d.dim 0 % 32 != 0 || decide (c.d.dim 0 < ceilDiv (t.attendTokens b w) (pool.d.dim 1)) || pool.base % 256 != 0 ||
    !t.spansOk b d j c (t.attendListOf b w pool c) false || !t.spansOk b d j a a.spans false ||
    !((o.d.map fun v => t.spansOk b d j v v.spans true).getD false)

/-- The pages that it uses. -/
def attendPagesOut (t : State) (b d : Nat) (j : Job) (w : Nat) (o : Ops4) (pool c : View) : Bool :=
  attendOutside j pool c.base (t.rdOf b d o.c) (t.attendUsedOf b w pool)

/-- ATTEND's result in a state, with the parameters of its block. -/
def attendWork (t : State) (b d w : Nat) (o : Ops4) (u : State) : Option KernelOut :=
  attend o (t.attendScale b w) (t.attendTokens b w) (t.attendWindow b w) (u.rdOf b d o.a) (u.rdOf b d o.b) (u.rdOf b d o.c) (u.drawn + 1)

section Attend
variable (ho : (fetched s b d j).operands b d j w = .ok o) (h : issues s b d j w 0x11)
include ho h

theorem exec_attend_refused (hok : attendOk w o.descs = false) : exec (.attend b) s = .next ((fetched s b d j).benchFault b 0x0C) := by
  refine (live_kernel h ho _).trans (congrArg _ ?_)
  dsimp only
  split
  · exact if_pos (by rw [hok]; rfl)
  · rfl

variable {a pool c : View} (ha : o.a = some a) (hb : o.b = some pool) (hc : o.c = some c)
  (hok : attendOk w o.descs = true) (hplaced : storeOk (param w) 16 false = true)
  (hgood : ((fetched s b d j).bench b).store.hasBad (param w) 16 = false)
  (hmoves : (fetched s b d j).movesOnto b d j [(c, (fetched s b d j).attendListOf b w pool c)] = false)
  (hparity : (fetched s b d j).spansBad b d c ((fetched s b d j).attendListOf b w pool c) = none)
include ha hb hc hok hplaced hgood hmoves hparity

/-- Past its parameters and its page list, ATTEND's operands and then its pages are judged (R100, R102). -/
theorem exec_attend_listed : exec (.attend b) s = .next (
    if (fetched s b d j).attendWrong b d j w o a pool c then (fetched s b d j).benchFault b 0x0C
    else if (fetched s b d j).attendPagesOut b d j w o pool c then (fetched s b d j).benchFault b 0x0C
    else (fetched s b d j).runKernel b d j ((fetched s b d j).attendReads b d w o a pool c) (whole [o.d]) [(param w, 16)] 
      ((fetched s b d j).attendWork b d w o)) := by
  obtain ⟨od, oa, ob, oc⟩ := o
  obtain rfl : oa = some a := ha
  obtain rfl : ob = some pool := hb
  obtain rfl : oc = some c := hc
  refine (live_kernel h ho _).trans (congrArg _ ((if_neg ?_).trans ((if_neg ?_).trans (ite_congr rfl (fun _ => rfl) fun _ =>
    (if_neg (Bool.eq_false_iff.1 hmoves)).trans ?_))))
  · simp [hok, hplaced]
  · simp [hgood]
  · split
    · next q hbad => exact absurd (hbad.symm.trans hparity) (Option.some_ne_none q)
    · rfl

theorem exec_attend_page_outside (hout : (fetched s b d j).attendPagesOut b d j w o pool c = true) :
    exec (.attend b) s = .next ((fetched s b d j).benchFault b 0x0C) := by
  rw [exec_attend_listed ho h ha hb hc hok hplaced hgood hmoves hparity, hout]
  exact congrArg _ (ite_self _)

theorem attend_writes
    (hfinite : ((fetched s b d j).attendScale b w).isFinite = true) (hheads : leAt ((fetched s b d j).paramAt b w 16) 4 2 = a.d.dim 1)
    (hwidth : leAt ((fetched s b d j).paramAt b w 16) 6 2 = a.d.dim 0) (hblocks : a.d.dim 0 % 32 = 0)
    (hlisted : ceilDiv ((fetched s b d j).attendTokens b w) (pool.d.dim 1) ≤ c.d.dim 0) (haligned : pool.base % 256 = 0)
    (hread : (fetched s b d j).spansOk b d j c ((fetched s b d j).attendListOf b w pool c) false = true)
    (hin : (fetched s b d j).attendPagesOut b d j w o pool c = false)
    (hrun : runnable (fetched s b d j) b d j ((fetched s b d j).attendReads b d w o a pool c) (whole [o.d]) [(param w, 16)]) :
    ∃ out, (fetched s b d j).attendWork b d w o (fetched s b d j) = some out ∧
      exec (.attend b) s = .next (written (fetched s b d j) b d ((fetched s b d j).attendReads b d w o a pool c) out) := by
  obtain ⟨out, hout⟩ : ∃ out, (fetched s b d j).attendWork b d w o (fetched s b d j) = some out := attend_some _ _ _ _ hok ha hb hc
  obtain ⟨hreads, hwrites, -⟩ := id hrun
  have hright : (fetched s b d j).attendWrong b d j w o a pool c = false := by
    obtain ⟨dv, hd⟩ := attendOk_dest hok
    have hreadA : (fetched s b d j).spansOk b d j a a.spans false = true := List.all_eq_true.1 hreads (a, a.spans) (List.mem_cons_self ..)
    have hwriteD : (fetched s b d j).spansOk b d j dv dv.spans true = true := List.all_eq_true.1 hwrites (dv, dv.spans) (by simp [whole, hd])
    simp [attendWrong, hfinite, hheads, hwidth, hblocks, hlisted, haligned, hread, hreadA, hd, hwriteD]
  refine ⟨out, hout, ?_⟩
  rw [exec_attend_listed ho h ha hb hc hok hplaced hgood hmoves hparity, hright, hin, if_neg Bool.false_ne_true,
    if_neg Bool.false_ne_true, runKernel_some hrun hout]

end Attend

/-! SAMPLE -/

/-- The parameters of SAMPLE, in its block (R109). -/
def sampleParams (t : State) (b w : Nat) : SampleParams :=
  ⟨ofF32 (leAt (t.paramAt b w 16) 0 4), ofF32 (leAt (t.paramAt b w 16) 4 4), leAt (t.paramAt b w 16) 8 4, bit (mode w) 1⟩

/-- A parameter of SAMPLE lies outside its range (R109). -/
def sampleWrong (t : State) (b w : Nat) : Bool :=
  let p := t.paramAt b w 16
  let it := ofF32 (leAt p 0 4)
  let tp := ofF32 (leAt p 4 4)
  let tk := leAt p 8 4
  (!bit (mode w) 1 && !(it.isFinite && !it.isNeg && !it.isZero)) || !(tp.isFinite && !tp.isNeg && !tp.isZero) || fgt tp Fp.one ||
    decide (1024 < tk) || (tk == 0 && toF32 tp != 0x3F800000) || leAt p 12 4 != 0

/-- Every parameter of SAMPLE lies in its range (R109). -/
def sampleRight (t : State) (b w : Nat) : Bool :=
  let p := t.paramAt b w 16
  let it := ofF32 (leAt p 0 4)
  let tp := ofF32 (leAt p 4 4)
  let tk := leAt p 8 4
  (bit (mode w) 1 || (it.isFinite && !it.isNeg && !it.isZero)) && (tp.isFinite && !tp.isNeg && !tp.isZero) && !fgt tp Fp.one &&
    decide (tk ≤ 1024) && (tk != 0 || toF32 tp == 0x3F800000) && leAt p 12 4 == 0

theorem sampleWrong_eq (t : State) (b w : Nat) : t.sampleWrong b w = !t.sampleRight b w := by
  have hrange : ∀ k : Nat, decide (1024 < k) = !decide (k ≤ 1024) := fun k => by simp only [← decide_not, not_le]
  simp only [sampleWrong, sampleRight, hrange, bne, Bool.not_and, Bool.not_or, Bool.not_not]

section Sample
variable (ho : (fetched s b d j).operands b d j w = .ok o) (h : issues s b d j w 0x18)
include ho h

theorem exec_sample_refused (hok : sampleOk w o.descs = false) : exec (.sample b) s = .next ((fetched s b d j).benchFault b 0x0C) :=
  (live_kernel h ho _).trans (congrArg _ (if_pos (by rw [hok]; rfl)))

variable (hok : sampleOk w o.descs = true) (hplaced : storeOk (param w) 16 false = true)
  (hgood : ((fetched s b d j).bench b).store.hasBad (param w) 16 = false)
include hok hplaced hgood

theorem exec_sample_issued : exec (.sample b) s = .next (
    if (fetched s b d j).sampleWrong b w then (fetched s b d j).benchFault b 0x0C
    else (fetched s b d j).runKernel b d j (whole [o.a, o.b, o.c]) (whole (if bit (mode w) 0 then [o.d, o.b] else [o.d])) [(param w, 16)] fun u =>
      sample o w ((fetched s b d j).sampleParams b w) (u.rdOf b d o.a) (u.rdOf b d o.b) (u.rdOf b d o.c)) := by
  refine (live_kernel h ho _).trans (congrArg _ ((if_neg ?_).trans ((if_neg ?_).trans rfl)))
  · simp [hok, hplaced]
  · simp [hgood]

/-- With its parameters in range SAMPLE writes its tokens, and is otherwise a JOB_FAULT (R109). -/
theorem sample_writes_or_faults :
    let t := fetched s b d j
    (t.sampleWrong b w = false → runnable t b d j (whole [o.a, o.b, o.c]) (whole (if bit (mode w) 0 then [o.d, o.b] else [o.d])) [(param w, 16)] →
      ∃ out, sample o w (t.sampleParams b w) (t.rdOf b d o.a) (t.rdOf b d o.b) (t.rdOf b d o.c) = some out ∧
        exec (.sample b) s = .next (written t b d (whole [o.a, o.b, o.c]) out)) ∧
    (t.sampleWrong b w = true → exec (.sample b) s = .next (t.benchFault b 0x0C)) := by
  intro t
  rw [exec_sample_issued ho h hok hplaced hgood]
  refine ⟨fun hright hrun => ?_, fun hwrong => congrArg _ (if_pos hwrong)⟩
  obtain ⟨out, hout⟩ := sample_some (rdA := t.rdOf b d o.a) (rdB := t.rdOf b d o.b) (rdC := t.rdOf b d o.c) (t.sampleParams b w) hok
  exact ⟨out, hout, congrArg _ ((if_neg (Bool.eq_false_iff.1 hright)).trans (runKernel_some hrun hout))⟩

end Sample

end State
end Sys2Proof.Machine

open Sys2Proof Sys2Proof.Machine Sys2Proof.Claims

/-- Settles O23: operands that meet a kernel's table have a result, and a kernel that may run writes it whole; ATTEND, GATHER and SAMPLE
judge first what their lists, indices and parameters name. -/
theorem kernelsWriteTheirResults : Obligations.KernelsWriteTheirResults := by
  unfold Obligations.KernelsWriteTheirResults
  refine ⟨?_, ?_⟩
  · intro s b d j w o t rd abc one dd fault ho
    refine ⟨fun h => ?_, fun h => ?_, fun h => ?_, fun h => ?_, fun h => ?_, fun h => ?_⟩
    · exact State.kernel_writes_or_faults (State.exec_norm_issued ho h) norm_some
    · exact State.kernel_writes_or_faults (State.exec_act_issued ho h) act_some
    · exact State.kernel_writes_or_faults (State.exec_quant_issued ho h) quant_some
    · exact State.kernel_writes_or_faults (State.exec_dequant_issued ho h) dequant_some
    · exact State.kernel_writes_or_faults (State.exec_topk_issued ho h) topk_some
    · exact State.kernel_writes_or_faults (State.exec_reduce_issued ho h) (reduce_some _)
  · intro s b d j w o t rd dd p fault ho
    refine ⟨fun h => ⟨State.exec_matvec_refused ho h, fun a v => ?_⟩, fun h => ⟨State.exec_gather_refused ho h, ?_⟩,
      fun h => ⟨State.exec_attend_refused ho h, ?_⟩, fun h => ⟨State.exec_sample_refused ho h, ?_⟩⟩
    · exact fun hok ha hb => State.matvec_writes ho h hok ha hb
    · exact fun a c hok ha hc hread => State.gather_writes_or_faults ho h hok ha hc hread
    · intro a pool c hok ha hb hc hplaced hgood tokens window lo tpp used list entry size pages reads hmoves hfinite hheads hwidth hblocks
        hlisted haligned hread hparity
      refine ⟨fun hout => ?_, fun hinside hcovered => ?_⟩
      · exact State.exec_attend_page_outside ho h ha hb hc hok hplaced hgood hmoves hparity
          (by rwa [State.attendPagesOut, State.attendOutside, Bool.or_eq_true, Bool.not_eq_true'])
      · exact State.attend_writes ho h ha hb hc hok hplaced hgood hmoves hparity hfinite hheads hwidth hblocks hlisted haligned hread
          (by rw [State.attendPagesOut, State.attendOutside, Bool.or_eq_false_iff, Bool.not_eq_false']; exact ⟨hinside, hcovered⟩)
    · intro hok hplaced hgood greedy it tp tk reads right
      obtain ⟨hwrites, hfaults⟩ := State.sample_writes_or_faults ho h hok hplaced hgood
      rw [State.sampleWrong_eq] at hwrites hfaults
      exact ⟨fun hwrong => hfaults (congrArg not hwrong), fun hright => hwrites (congrArg not hright)⟩

end

section
/-! MOVE and SEND (R55, R78, R111, R112, R154, R156, R160, R472): what each command does once its operands are formed, in the order of its
checks. -/

namespace Sys2Proof.Machine.State
open Sys2Proof.Claims BenchInstr

variable {s t : State} {b d : Nat} {j : Job} {w : Nat} {o : Ops4} (ht : fetched s b d j = t) (ho : t.operands b d j w = .ok o)

/-! MOVE -/

/-- MOVE's signal: its kind, and its target (R111). -/
def moveSig (w : Nat) : Nat := bits (imm w) 31 30
def moveTarget (w : Nat) : Nat := bits (imm w) 29 18

/-- MOVE's operands and its signal pass their checks (R111, R160). -/
def moveGood (t : State) (b d : Nat) (j : Job) (w : Nat) (o : Ops4) (a dv : View) : Bool :=
  moveOk ⟨j.image.benches.length, j.image.commonSize, j.image.sliceSize, [], [], 0⟩ w o.descs && t.spansOk b d j a a.moveSpans false &&
    t.spansOk b d j dv dv.moveSpans true && (a.d.layout != 2 || (a.base % 256 == 0 && dv.base % 256 == 0)) &&
    (dv.d.loc == 2 || moveSig w != 2 || t.ownsPeg d (moveTarget w))

/-- MOVE waits: for a stack of its destination, or for an earlier MOVE (R111, R154, R472). -/
def moveHeld (t : State) (b d : Nat) (j : Job) (w : Nat) (a dv : View) : Bool :=
  (dv.d.loc != 2 && (t.spansHeld b d dv dv.moveSpans || (moveSig w != 0 && t.movesHere b d j))) ||
    t.movesOnto b d j [(a, a.moveSpans), (dv, dv.moveSpans)]

/-- The first parity error in what MOVE reads or writes through (R78, R146). -/
def moveBad (t : State) (b d : Nat) (a dv : View) : Option (Option Piece) :=
  (t.spansBad b d a a.moveSpans).or (t.mapsBad d dv dv.moveSpans)

/-- A MOVE within this module: its bytes in place, and the bench at its next instruction (R111). -/
def movedHere (t : State) (b d : Nat) (o : Ops4) (a dv : View) : State :=
  ((t.countMove b d a dv).wr b d dv.d.loc (moveBytes a dv (t.rdOf b d o.a))).step1 b

/-- Its signal, behind its bytes (R156). -/
def signalled (u : State) (j : Job) (w : Nat) : State :=
  if moveSig w = 1 then (match j.map[moveTarget w]? with
    | some c => u.addBenchPeg c (bits (imm w) 17 12) 1
    | none => u)
  else if moveSig w = 2 then u.addHubPeg (moveTarget w) 1
  else u

section Signalled
variable (u : State)

theorem signalled_none (h : moveSig w = 0) : signalled u j w = u := by simp [signalled, h]

theorem signalled_bench {c : Nat} (h : moveSig w = 1) (hc : j.map[moveTarget w]? = some c) :
    signalled u j w = u.addBenchPeg c (bits (imm w) 17 12) 1 := by simp [signalled, h, hc]

theorem signalled_hub (h : moveSig w = 2) : signalled u j w = u.addHubPeg (moveTarget w) 1 := by simp [signalled, h]

end Signalled

/-- What a MOVE that may run does: within this module or to another (R111). -/
def moveEffect (t : State) (b d : Nat) (j : Job) (w : Nat) (o : Ops4) (a dv : View) : State :=
  if dv.d.loc = 2 then (t.countMove b d a dv).moveRemote b d j (cutRuns (joinRuns (moveBytes a dv (t.rdOf b d o.a))))
    (if moveSig w = 2 then some (moveTarget w) else none)
  else signalled (t.movedHere b d o a dv) j w

section Move
variable (h : issues s b d j w 0x1A) {a dv : View} (ha : o.a = some a) (hd : o.d = some dv)
include ht ho h ha hd

/-- MOVE in the order of its checks. -/
theorem exec_move_issued : exec (.move b) s = .next (
    if !t.moveGood b d j w o a dv then t.benchFault b 0x0C
    else if t.moveHeld b d j w a dv then s
    else (t.moveBad b d a dv).elim (t.moveEffect b d j w o a dv) fun q => t.benchParity b q) := by
  subst ht
  obtain ⟨od, oa, ob, oc⟩ := o
  obtain rfl : oa = some a := ha
  obtain rfl : od = some dv := hd
  refine (live_kernel h ho _).trans (congrArg _ (ite_congr (congrArg (· = true) ?_) (fun _ => rfl) fun _ => ?_))
  · simp only [moveGood, moveSig, moveTarget, bne, Bool.not_and, Bool.not_or, Bool.not_not]
  · rw [moveHeld, moveBad]
    by_cases hplace : dv.d.loc ≠ 2 ∧ ((fetched s b d j).spansHeld b d dv dv.moveSpans = true ∨
        (moveSig w ≠ 0 ∧ (fetched s b d j).movesHere b d j = true))
    · refine (if_pos hplace).trans (if_pos ?_).symm
      simp [hplace]
    · have hfree : (dv.d.loc != 2 && ((fetched s b d j).spansHeld b d dv dv.moveSpans ||
          (moveSig w != 0 && (fetched s b d j).movesHere b d j))) = false := by
        simpa using hplace
      rw [hfree, Bool.false_or]
      refine (if_neg hplace).trans (ite_congr rfl (fun _ => rfl) fun _ => ?_)
      cases ((fetched s b d j).spansBad b d a a.moveSpans).or ((fetched s b d j).mapsBad d dv dv.moveSpans) <;> rfl

theorem exec_move_faults (hgood : t.moveGood b d j w o a dv = false) : exec (.move b) s = .next (t.benchFault b 0x0C) := by
  rw [exec_move_issued ht ho h ha hd, hgood]
  rfl

variable (hgood : t.moveGood b d j w o a dv = true)
include hgood

theorem exec_move_waits (hheld : t.moveHeld b d j w a dv = true) : exec (.move b) s = .next s := by
  rw [exec_move_issued ht ho h ha hd, hgood, hheld]
  rfl

theorem exec_move_parity {q : Option Piece} (hheld : t.moveHeld b d j w a dv = false) (hbad : t.moveBad b d a dv = some q) :
    exec (.move b) s = .next (t.benchParity b q) := by
  rw [exec_move_issued ht ho h ha hd, hgood, hheld, hbad]
  rfl

theorem exec_move_runs (hheld : t.moveHeld b d j w a dv = false) (hbad : t.moveBad b d a dv = none) :
    exec (.move b) s = .next (t.moveEffect b d j w o a dv) := by
  rw [exec_move_issued ht ho h ha hd, hgood, hheld, hbad]
  rfl

end Move

/-! SEND -/

/-- SEND's operand, and the place of its block, pass their checks (R112). -/
def sendGood (t : State) (b d : Nat) (j : Job) (w : Nat) (o : Ops4) (a : View) : Bool :=
  sendOk w o.descs && storeOk (param w) 32 false && t.spansOk b d j a a.sendSpans false

/-- What its block holds. -/
def sendParam (t : State) (b w : Nat) : SendParam := SendParam.parse (t.paramAt b w 32)

/-- What its block holds, and the hub peg that it names, pass theirs (R112, R160). -/
def sendRight (t : State) (b d w : Nat) : Bool :=
  (t.sendParam b w).ok && ((t.sendParam b w).kind != 3 || !bit (t.sendParam b w).flags 1 || t.ownsPeg d (t.sendParam b w).peg)

/-- The bytes that it sends, as they lie in memory (log 37). -/
def sentBytes (t : State) (b d : Nat) (o : Ops4) (a : View) : List Byte :=
  a.sendSpans.flatMap fun x => (List.range x.2).map fun k => t.rdOf b d o.a (x.1 + k)

/-- What a SEND that may run does: into the region or the queue pair that it names (R112). -/
def sendEffect (t : State) (b d : Nat) (j : Job) (w : Nat) (o : Ops4) (a : View) : State :=
  if (t.sendParam b w).kind = 3 then t.sendToRegion b d j (t.sendParam b w) (t.sentBytes b d o a) (t.bankBytes b d a a.sendSpans)
  else t.sendOnQp b d j (t.sendParam b w) (t.sentBytes b d o a) (t.bankBytes b d a a.sendSpans)

section Send
variable (h : issues s b d j w 0x1B) {a : View} (ha : o.a = some a)
include ht ho h ha

/-- SEND in the order of its checks. -/
theorem exec_send_issued : exec (.send b) s = .next (
    if !t.sendGood b d j w o a then t.benchFault b 0x0C
    else if (t.bench b).store.hasBad (param w) 32 then t.benchParity b
    else if !t.sendRight b d w then t.benchFault b 0x0C
    else if t.movesOnto b d j [(a, a.sendSpans)] then s
    else (t.spansBad b d a a.sendSpans).elim (t.sendEffect b d j w o a) fun q => t.benchParity b q) := by
  subst ht
  obtain ⟨od, oa, ob, oc⟩ := o
  obtain rfl : oa = some a := ha
  refine (live_kernel h ho _).trans (congrArg _ (ite_congr (congrArg (· = true) ?_) (fun _ => rfl) fun _ => ite_congr rfl (fun _ => rfl)
    fun _ => ite_congr (congrArg (· = true) ?_) (fun _ => rfl) fun _ => ite_congr rfl (fun _ => rfl) fun _ => ?_))
  · simp only [sendGood, Bool.not_and]
  · simp only [sendRight, sendParam, bne, Bool.not_and, Bool.not_or, Bool.not_not]
  · cases (fetched s b d j).spansBad b d a a.sendSpans <;> rfl

theorem exec_send_faults (hgood : t.sendGood b d j w o a = false) : exec (.send b) s = .next (t.benchFault b 0x0C) := by
  rw [exec_send_issued ht ho h ha, hgood]
  rfl

variable (hgood : t.sendGood b d j w o a = true)
include hgood

theorem exec_send_block_parity (hblock : (t.bench b).store.hasBad (param w) 32 = true) : exec (.send b) s = .next (t.benchParity b) := by
  rw [exec_send_issued ht ho h ha, hgood, hblock]
  rfl

variable (hblock : (t.bench b).store.hasBad (param w) 32 = false)
include hblock

theorem exec_send_block_faults (hright : t.sendRight b d w = false) : exec (.send b) s = .next (t.benchFault b 0x0C) := by
  rw [exec_send_issued ht ho h ha, hgood, hblock, hright]
  rfl

variable (hright : t.sendRight b d w = true)
include hright

theorem exec_send_waits (hheld : t.movesOnto b d j [(a, a.sendSpans)] = true) : exec (.send b) s = .next s := by
  rw [exec_send_issued ht ho h ha, hgood, hblock, hright, hheld]
  rfl

variable (hheld : t.movesOnto b d j [(a, a.sendSpans)] = false)
include hheld

theorem exec_send_parity {q : Option Piece} (hbad : t.spansBad b d a a.sendSpans = some q) :
    exec (.send b) s = .next (t.benchParity b q) := by
  rw [exec_send_issued ht ho h ha, hgood, hblock, hright, hheld, hbad]
  rfl

theorem exec_send_runs (hbad : t.spansBad b d a a.sendSpans = none) : exec (.send b) s = .next (t.sendEffect b d j w o a) := by
  rw [exec_send_issued ht ho h ha, hgood, hblock, hright, hheld, hbad]
  rfl

end Send
end Sys2Proof.Machine.State

open Sys2Proof Sys2Proof.Machine Sys2Proof.Claims

/-- Settles O24: each command is a chain of checks that ends in one effect; a MOVE's effect is told apart by where its destination lies and
by the kind of its signal. -/
theorem moveAndSend : Obligations.MoveAndSend := by
  unfold Obligations.MoveAndSend
  refine ⟨?_, ?_⟩
  · intro s b d j w o a dv h t ho ha hd info sg target bytes t1 u good held bad
    refine ⟨State.exec_move_faults rfl ho h ha hd, State.exec_move_waits rfl ho h ha hd,
      fun q hgood hheld hbad => State.exec_move_parity rfl ho h ha hd hgood hheld hbad, fun hgood hheld hbad => ?_⟩
    rw [State.exec_move_runs rfl ho h ha hd hgood hheld hbad]
    refine ⟨fun hremote => congrArg _ (if_pos hremote), fun hhere => ?_⟩
    rw [State.moveEffect, if_neg hhere]
    refine ⟨fun hsig => ?_, fun hsig => ?_, fun c hsig hc => ?_⟩
    · exact congrArg _ (State.signalled_none _ hsig)
    · exact congrArg _ (State.signalled_hub _ hsig)
    · exact congrArg _ (State.signalled_bench _ hsig hc)
  · intro s b d j w o a h t ho ha p sent read good block right held
    exact ⟨State.exec_send_faults rfl ho h ha, State.exec_send_block_parity rfl ho h ha, State.exec_send_block_faults rfl ho h ha,
      fun hgood hblock hright => ⟨State.exec_send_waits rfl ho h ha hgood hblock hright,
        fun q hheld hbad => State.exec_send_parity rfl ho h ha hgood hblock hright hheld hbad,
        State.exec_send_runs rfl ho h ha hgood hblock hright⟩⟩

end

section
/-! The waits, wakes and refreshes of benches (R58, R72 to R74, R78, R162): the states that a bench enters, the governor's grants, and the
rotation of refreshes. -/

namespace Sys2Proof.Machine.State
open Sys2Proof.Claims

section Laws
variable (s : State)

@[simp] theorem count_bench (i k n b : Nat) : (s.count i k n).bench b = s.bench b :=
  congrArg (fun c : ComputeState => Sparse.get (fun _ => Bench.reset) c.benches b) (count_cmp s i k n)

@[simp] theorem count_stack (i k n j : Nat) : (s.count i k n).stack j = s.stack j :=
  congrArg (fun c : ComputeState => Sparse.get (fun _ => Stack.reset) c.stk j) (count_cmp s i k n)

/-! Entering a state of R72 -/

/-- The stay in the state that is left, counted (R79). -/
def countStay (s : State) (b : Nat) : State := [1, 4, 5, 6, 7].foldl (fun t sub => t.count (0x5400 + b) sub (s.stay b sub)) s

theorem enter_eq (b : Nat) (r : RunState) : s.enter b r = (s.countStay b).setBench b
    { s.bench b with run := r, since := s.now, sinceRun := s.run64 (b / 64), sinceSkip := s.skip64 (b / 64) } := rfl

@[simp] theorem countStay_cmp (b : Nat) : (s.countStay b).cmp = s.cmp := foldl_keep State.cmp _ (fun u _ => count_cmp u _ _ _) _ s

@[simp] theorem countStay_bench (b c : Nat) : (s.countStay b).bench c = s.bench c :=
  congrArg (fun x : ComputeState => Sparse.get (fun _ => Bench.reset) x.benches c) (countStay_cmp s b)

@[simp] theorem enter_bench_self (b : Nat) (r : RunState) : (s.enter b r).bench b =
    { s.bench b with run := r, since := s.now, sinceRun := s.run64 (b / 64), sinceSkip := s.skip64 (b / 64) } := by
  rw [enter_eq, bench_setBench]

theorem enter_bench_ne {b c : Nat} (r : RunState) (h : b ≠ c) : (s.enter b r).bench c = s.bench c := by
  rw [enter_eq, bench_setBench_ne _ _ _ h, countStay_bench]

/-! Numbers of a table -/

@[simp] theorem num_setNum (m : Sparse Nat) (k v : Nat) : (m.setNum k v).num k = v := Sparse.get_set_same m k v

end Laws

/-! Parity and SPIN (R74, R78, R162) -/

variable {s : State} (hrun : s.running = true)

section Bench
variable {b : Nat}

theorem exec_spinTimeout_early (h : s.run64 (b / 64) < (s.bench b).spinSince + 64 * 64) : exec (.spinTimeout b) s = .next s :=
  live_unguarded s _ fun hdue => Nat.not_le.2 h hdue.2

theorem exec_benchWake_early {g : Nat} (hg : (s.bench b).granted = some g) (h : s.run64 (b / 64) < g + 16 * 64) :
    exec (.benchWake b) s = .next s := by
  refine (congrArg s.live ?_).trans (live_self s)
  simp only [hg, if_pos h]

include hrun

/-- A parity error fails the job of the bench, is counted, and raises STACK_DATA (R78). -/
theorem exec_benchParityError_of_job {d : Nat} (hjob : (s.bench b).job = some d) : exec (.benchParityError b) s =
    .next (((s.failJob d 0x0B (s.bench b).logical (s.bench b).pc).count (0x5400 + b) 0x10 1).raiseSource 7) := by
  refine (live_running s _ hrun).trans (congrArg _ ?_)
  simp only [hjob, benchParity]

theorem exec_spinTimeout_due (hspin : (s.bench b).run = .spin) (hdue : (s.bench b).spinSince + 64 * 64 ≤ s.run64 (b / 64)) :
    exec (.spinTimeout b) s = .next (s.enter b .gated) := live_guarded s _ hrun ⟨hspin, hdue⟩

theorem spinTimeout_answers (hspin : (s.bench b).run = .spin) (hdue : (s.bench b).spinSince + 64 * 64 ≤ s.run64 (b / 64)) :
    answers (.spinTimeout b) s fun t => (t.bench b).run = .gated ∧ (t.bench b).since = s.now ∧ (t.bench b).awaits = (s.bench b).awaits ∧
      ∀ c, c ≠ b → t.bench c = s.bench c :=
  ⟨_, exec_spinTimeout_due hrun hspin hdue, by simp, by simp, by simp, fun _ hc => enter_bench_ne s _ hc.symm⟩

/-! The bench's wake (R72, R162) -/

/-- The bench with its grant answered. -/
def answered (s : State) (b : Nat) : State := s.setBench b { s.bench b with granted := none, wakeAsked := false }

/-- What 16 cycles after its grant bring: with no wait the bench runs its job, and a wait is evaluated again (R72, R162). -/
def wakeEffect (s : State) (b : Nat) : State :=
  match (s.bench b).awaits with
  | some (p, th) =>
    if (s.bench b).run ≠ .gated then s.answered b
    else if pegMet (s.pegValue b p) th then (((s.answered b).observePeg b p).step1 b).enter b .running
    else ((s.answered b).setBench b { (s.answered b).bench b with spinSince := s.run64 (b / 64) }).enter b .spin
  | none => if (s.bench b).job.isSome ∧ !(s.bench b).ended then (s.answered b).enter b .running else s.answered b

section Wake
variable {g : Nat} (hg : (s.bench b).granted = some g) (hdue : g + 16 * 64 ≤ s.run64 (b / 64))
include hg hdue

theorem exec_benchWake_due : exec (.benchWake b) s = .next (s.wakeEffect b) := by
  refine (live_running s _ hrun).trans (congrArg _ ?_)
  split
  · next g' hg' =>
    obtain rfl : g' = g := Option.some.inj (hg'.symm.trans hg)
    exact if_neg (Nat.not_lt.2 hdue)
  · next hnone => exact absurd (hg.symm.trans hnone) (Option.some_ne_none g)

theorem benchWake_runs (hfree : (s.bench b).awaits = none) (hjob : (s.bench b).job.isSome = true) (hended : (s.bench b).ended = false) :
    answers (.benchWake b) s fun t => (t.bench b).run = .running ∧ (t.bench b).granted = none ∧ (t.bench b).pc = (s.bench b).pc := by
  refine ⟨_, exec_benchWake_due hrun hg hdue, ?_⟩
  dsimp only
  rw [wakeEffect, hfree]
  dsimp only
  rw [if_pos ⟨hjob, by rw [hended]; rfl⟩, enter_bench_self, answered, bench_setBench]
  exact ⟨rfl, rfl, rfl⟩

variable {p v : Nat} (hwait : (s.bench b).awaits = some (p, v)) (hgated : (s.bench b).run = .gated)
include hwait hgated

/-- A wait that is met passes. -/
theorem benchWake_passes (hmet : pegMet (s.pegValue b p) v = true) : answers (.benchWake b) s fun t =>
    (t.bench b).run = .running ∧ (t.bench b).awaits = none ∧ (t.bench b).pc = (s.bench b).advance.pc := by
  refine ⟨_, exec_benchWake_due hrun hg hdue, ?_⟩
  dsimp only
  rw [wakeEffect, hwait]
  dsimp only
  rw [if_neg (not_not.2 hgated), if_pos hmet, enter_bench_self, step1, bench_setBench, observePeg,
    bench_setBench, answered, bench_setBench]
  exact ⟨rfl, rfl, rfl⟩

/-- One that is not met spins again. -/
theorem benchWake_spins (hmet : pegMet (s.pegValue b p) v = false) : answers (.benchWake b) s fun t =>
    (t.bench b).run = .spin ∧ (t.bench b).awaits = (s.bench b).awaits ∧ (t.bench b).spinSince = s.run64 (b / 64) := by
  refine ⟨_, exec_benchWake_due hrun hg hdue, ?_⟩
  dsimp only
  rw [wakeEffect, hwait]
  dsimp only
  rw [if_neg (not_not.2 hgated), if_neg (Bool.eq_false_iff.1 hmet), enter_bench_self, bench_setBench,
    answered, bench_setBench]
  exact ⟨rfl, hwait, rfl⟩

end Wake
end Bench

/-! The governor's grants (R73) -/

theorem nextGrant_le {k : Stack} {n u c t : Nat} {r : List (Nat × Nat)} {h : Bool} (hnext : nextGrant k = some (n, u, h)) :
    (k.wakes = (c, t) :: r → u ≤ t) ∧ (k.helps = (c, t) :: r → u ≤ t) := by
  unfold nextGrant at hnext
  split at hnext
  · next b v ws c' v' hs hwakes hhelps =>
    rw [hwakes, hhelps]
    split at hnext
    · next hfirst =>
      cases hnext
      exact ⟨by rintro ⟨⟩; omega, by rintro ⟨⟩; omega⟩
    · next hfirst =>
      cases hnext
      exact ⟨by rintro ⟨⟩; omega, by rintro ⟨⟩; omega⟩
  · next hwakes hhelps =>
    cases hnext
    rw [hwakes, hhelps]
    exact ⟨by rintro ⟨⟩; exact le_rfl, by rintro ⟨⟩⟩
  · next hwakes hhelps =>
    cases hnext
    rw [hwakes, hhelps]
    exact ⟨by rintro ⟨⟩, by rintro ⟨⟩; exact le_rfl⟩
  · cases hnext

section Grant
variable {k n u : Nat}

/-- The grants of the last 256.25 ns. -/
def recentGrants (s : State) (k : Nat) : List Nat := (s.stack k).grants.filter fun g => s.now < g + 256250

/-- The stack has a clock, and fewer than 8 grants in 256.25 ns (R73). -/
def mayGrant (s : State) (k : Nat) : Prop := (s.stack k).clock ≠ .stopped ∧ (s.recentGrants k).length < 8

/-- A grant that is given is counted for its bench, with the time that it waited (R79). -/
def countGrant (s : State) (n ns : Nat) : State := (s.count (0x5400 + n) 9 1).count (0x5400 + n) 8 ns

@[simp] theorem countGrant_cmp (n ns : Nat) : (s.countGrant n ns).cmp = s.cmp := by rw [countGrant, count_cmp, count_cmp]
@[simp] theorem countGrant_mem (n ns : Nat) : (s.countGrant n ns).mem = s.mem := by rw [countGrant, count_mem, count_mem]
@[simp] theorem countGrant_bench (n ns b : Nat) : (s.countGrant n ns).bench b = s.bench b := by rw [countGrant, count_bench, count_bench]
@[simp] theorem countGrant_stack (n ns j : Nat) : (s.countGrant n ns).stack j = s.stack j := by rw [countGrant, count_stack, count_stack]

theorem exec_wakeGrant_kept (h : ¬ s.mayGrant k) : exec (.wakeGrant k) s = .next s := by
  have hkept : s.grantWake k = s := by
    unfold grantWake
    dsimp only
    split
    · exact if_pos (by simpa [mayGrant, recentGrants, or_iff_not_imp_left] using h)
    · rfl
  exact (congrArg s.live hkept).trans (live_self s)

/-- The first request of the stack's benches, granted. -/
def wakeGranted (s : State) (k n : Nat) : State :=
  let t := s.setStack k { s.stack k with wakes := (s.stack k).wakes.tail, grants := s.recentGrants k ++ [s.now] }
  t.setBench (64 * k + n) { t.bench (64 * k + n) with granted := some (s.run64 k) }

/-- The first request of the stack's combining steps, granted. -/
def helpGranted (s : State) (k n : Nat) : State :=
  s.setStack k { s.stack k with
    helps := (s.stack k).helps.tail, helped := (s.stack k).helped ++ [n], grants := s.recentGrants k ++ [s.now] }

theorem grantWake_eq {h : Bool} (hfree : s.mayGrant k) (hnext : nextGrant (s.stack k) = some (n, u, h)) : s.grantWake k =
    (if h then s.helpGranted k n else s.wakeGranted k n).countGrant (64 * k + n) ((s.now - u) / 1000) := by
  unfold grantWake
  simp only [hnext]
  exact if_neg fun hno => hno.elim hfree.1 (Nat.not_le.2 hfree.2)

include hrun
variable (hfree : s.mayGrant k)
include hfree

theorem exec_wakeGrant_bench (hnext : nextGrant (s.stack k) = some (n, u, false)) :
    exec (.wakeGrant k) s = .next ((s.wakeGranted k n).countGrant (64 * k + n) ((s.now - u) / 1000)) :=
  (live_running s _ hrun).trans (congrArg _ (grantWake_eq hfree hnext))

theorem exec_wakeGrant_help (hnext : nextGrant (s.stack k) = some (n, u, true)) :
    exec (.wakeGrant k) s = .next ((s.helpGranted k n).countGrant (64 * k + n) ((s.now - u) / 1000)) :=
  (live_running s _ hrun).trans (congrArg _ (grantWake_eq hfree hnext))

theorem wakeGrant_answers_bench (hnext : nextGrant (s.stack k) = some (n, u, false)) : answers (.wakeGrant k) s fun t =>
    (t.bench (64 * k + n)).granted = some (s.run64 k) ∧ (t.stack k).wakes = (s.stack k).wakes.tail ∧
      (t.stack k).helps = (s.stack k).helps ∧ t.mem = s.mem :=
  ⟨_, exec_wakeGrant_bench hrun hfree hnext, by simp [wakeGranted], by simp [wakeGranted], by simp [wakeGranted], by simp [wakeGranted]⟩

theorem wakeGrant_answers_help (hnext : nextGrant (s.stack k) = some (n, u, true)) : answers (.wakeGrant k) s fun t =>
    (t.stack k).helped = (s.stack k).helped ++ [n] ∧ (t.stack k).helps = (s.stack k).helps.tail ∧ t.mem = s.mem ∧
      ∀ c, t.bench c = s.bench c :=
  ⟨_, exec_wakeGrant_help hrun hfree hnext, by simp [helpGranted], by simp [helpGranted], by simp [helpGranted], by simp [helpGranted]⟩

end Grant

/-! Refresh (R58) -/

section Refresh
variable {b bank : Nat}

theorem exec_refresh_early (h : s.refreshDue b bank = false) : exec (.refresh b bank) s = .next s :=
  live_unguarded s _ (Bool.eq_false_iff.1 h)

include hrun in
/-- A bank whose turn has come takes its slot and the interval of the stack's last reading, and the next bank's turn follows. -/
theorem refresh_answers_due (h : s.refreshDue b bank = true) : answers (.refresh b bank) s fun t =>
    (t.stack (b / 64)).refreshed.num (b % 64 * 12 + bank) = s.refreshSlot b bank ∧
    (t.stack (b / 64)).turnAt.num (b % 64) = s.refreshSlot b bank ∧
    (t.stack (b / 64)).bankHot.num (b % 64 * 12 + bank) = bnat (s.stack (b / 64)).hot ∧
    (t.stack (b / 64)).turn.num (b % 64) = (bank + 1) % 12 ∧ t.mem = s.mem ∧ ∀ c, t.bench c = s.bench c :=
  ⟨_, live_guarded s _ hrun h, by simp, by simp, by simp, by simp, by simp, by simp⟩

end Refresh
end Sys2Proof.Machine.State

open Sys2Proof Sys2Proof.Machine Sys2Proof.Claims

/-- Settles O25: each tick of a bench and of its stack's governor, by the state that it finds. -/
theorem benchWaitsWakesAndRefresh : Obligations.BenchWaitsWakesAndRefresh := by
  unfold Obligations.BenchWaitsWakesAndRefresh
  intro s b hrun
  refine ⟨fun d hjob => State.exec_benchParityError_of_job hrun hjob, State.spinTimeout_answers hrun,
    fun _ hearly => State.exec_spinTimeout_early hearly, fun k n u => ⟨fun c t r h hnext => State.nextGrant_le hnext,
      fun hnext hfree => State.wakeGrant_answers_bench hrun hfree hnext, fun hnext hfree => State.wakeGrant_answers_help hrun hfree hnext,
      State.exec_wakeGrant_kept⟩,
    fun g hg hdue => ⟨State.benchWake_runs hrun hg hdue, fun p v hwait hgated =>
      ⟨State.benchWake_passes hrun hg hdue hwait hgated, State.benchWake_spins hrun hg hdue hwait hgated⟩⟩,
    fun g hg hearly => State.exec_benchWake_early hg hearly,
    fun bank => ⟨State.refresh_answers_due hrun, State.exec_refresh_early⟩⟩
end

section
/-! Bring-up (R76, R77, R425, R426, R491 to R494): the boot ROM's order of banks, the stacks' turns, and the entries to Stages 1 and 2. -/

namespace Sys2Proof.Machine.State
open Sys2Proof.Claims

/-- A fold whose steps each leave the state alone leaves it alone. -/
theorem foldl_self {α β : Type} (g : α → β → α) (t : α) : ∀ l : List β, (∀ x ∈ l, g t x = t) → l.foldl g t = t
  | [], _ => rfl
  | x :: l, h => by
    rw [List.foldl_cons, h x List.mem_cons_self]
    exact foldl_self g t l fun y hy => h y (List.mem_cons_of_mem x hy)

section Laws
variable (s : State)

@[simp] theorem raiseSource_cipher (k : Nat) : (s.raiseSource k).cipher = s.cipher := (congrArg State.cipher (raiseSource_frame s k) :)

@[simp] theorem setCondition_cmp (k : Nat) (h : Bool) : (s.setCondition k h).cmp = s.cmp := (congrArg State.cmp (setCondition_frame s k h) :)
@[simp] theorem setCondition_pw (k : Nat) (h : Bool) : (s.setCondition k h).pw = s.pw := (congrArg State.pw (setCondition_frame s k h) :)
@[simp] theorem setCondition_mem (k : Nat) (h : Bool) : (s.setCondition k h).mem = s.mem := (congrArg State.mem (setCondition_frame s k h) :)

@[simp] theorem setCondition_stack (k : Nat) (h : Bool) (j : Nat) : (s.setCondition k h).stack j = s.stack j :=
  congrArg (fun c : ComputeState => Sparse.get (fun _ => Stack.reset) c.stk j) (setCondition_cmp s k h)

/-- A condition raises a line that is down (R470). -/
theorem setCondition_rises {k : Nat} (h : s.line k = FaultLine.down) : ((s.setCondition k true).line k).up = true := by
  simp [setCondition, h, FaultLine.down]

@[simp] theorem setLevel_level (l : Nat) : (s.setLevel l).level = l :=
  (obj_setObj_sub _ (by decide) (by decide) (by decide)).trans (obj_setObj s 0x2000 1 0 l)

/-! The boot ROM (R425, R426) -/

theorem pmbusReads_eq (c : Nat) :
    s.pmbusReads [c] = { s with out := s.out ++ (List.range 8).map fun r => .pmbus (0x40 + r) 0 c } := by
  simp [pmbusReads, emit, List.range_succ]

theorem pmbusReads_out (c : Nat) : (s.pmbusReads [c]).out = s.out ++ (List.range 8).map fun r => .pmbus (0x40 + r) 0 c :=
  congrArg State.out (pmbusReads_eq s c)

theorem checkImage_cipher {t u : State} (h : t.cipher = u.cipher) (img : List Byte) : t.checkImage img = u.checkImage img := by
  unfold checkImage
  rw [h]

theorem checkImage_raiseSource (k : Nat) (img : List Byte) : (s.raiseSource k).checkImage img = s.checkImage img :=
  checkImage_cipher (raiseSource_cipher s k) img

theorem bank_raiseSource (k b : Nat) : (s.raiseSource k).bank b = s.bank b :=
  congrArg (fun c : CipherState => Sparse.get Config.factoryImage c.banks b) (raiseSource_cipher s k)

/-- A bank that fails its checks, with the fallback counted under source 0. -/
def fallback (s : State) (b : Nat) : State := (s.noteBank b false).raiseSource 0

theorem checkImage_fallback (b n : Nat) : (s.fallback b).checkImage ((s.fallback b).bank n) = s.checkImage (s.bank n) :=
  (congrArg _ (bank_raiseSource (s.noteBank b false) 0 n)).trans (checkImage_raiseSource (s.noteBank b false) 0 _)

/-- No bank passes its checks: the device stays at Stage 0. -/
def bootStays (s : State) : State := { s with flt := { s.flt with bootFault := true }, pw := { s.pw with bootStuck := true } }

theorem bootFrom_passes {b k : Nat} {r : List Nat} (h : s.checkImage (s.bank b) = some k) :
    s.bootFrom (b :: r) = (s.noteBank b true).runBank b k := by rw [bootFrom, h]

theorem bootFrom_falls {b c : Nat} {r : List Nat} (h : s.checkImage (s.bank b) = none) :
    s.bootFrom (b :: c :: r) = (s.fallback b).bootFrom (c :: r) := by rw [bootFrom, h, if_neg (List.cons_ne_nil c r), fallback]

theorem bootFrom_last {b : Nat} (h : s.checkImage (s.bank b) = none) : s.bootFrom [b] = (s.noteBank b false).bootStays := by
  rw [bootFrom, h, if_pos rfl, bootFrom, bootStays]

/-- The boot ROM's three tries, each judged by the images that it found. -/
theorem bootFrom_three (a b c : Nat) : s.bootFrom [a, b, c] =
    match s.checkImage (s.bank a), s.checkImage (s.bank b), s.checkImage (s.bank c) with
    | some k, _, _ => (s.noteBank a true).runBank a k
    | none, some k, _ => ((s.fallback a).noteBank b true).runBank b k
    | none, none, some k => (((s.fallback a).fallback b).noteBank c true).runBank c k
    | none, none, none => (((s.fallback a).fallback b).noteBank c false).bootStays := by
  have hb := checkImage_fallback s a b
  have hc : ((s.fallback a).fallback b).checkImage (((s.fallback a).fallback b).bank c) = s.checkImage (s.bank c) :=
    (checkImage_fallback _ b c).trans (checkImage_fallback s a c)
  cases h1 : s.checkImage (s.bank a) with
  | some k => exact bootFrom_passes s h1
  | none =>
    rw [bootFrom_falls s h1]
    cases h2 : s.checkImage (s.bank b) with
    | some k => exact bootFrom_passes _ (hb.trans h2)
    | none =>
      rw [bootFrom_falls _ (hb.trans h2)]
      cases h3 : s.checkImage (s.bank c) with
      | some k => exact bootFrom_passes _ (hc.trans h3)
      | none => exact bootFrom_last _ (hc.trans h3)

/-- The state in which the boot ROM judges the images: the mode pins sampled, and VOUT_MODE of each regulator read. -/
def bootSampled (s : State) : State :=
  ({ s with
    drawn := s.drawn + 1, cipher := { s.cipher with running := none },
    pw := { s.pw with
      bootReady := false, testmode := if s.pw.testKept then s.pw.testmode else Config.testPins s.drawn, testKept := false,
      voutMode := (List.range 8).foldl (fun m r => m.setNum r (Config.voutMode r s.drawn % 256)) s.pw.voutMode } } : State).pmbusReads [0x20]

theorem bootSampled_obj (i b n : Nat) : s.bootSampled.obj i b n = s.obj i b n := by
  rw [bootSampled, pmbusReads_eq]
  rfl

theorem bootSampled_boot : s.bootSampled.boot = s.bootSampled.bootFrom [s.obj 0x2B08 1, 1 - s.obj 0x2B08 1, 2] := by
  rw [boot, bootSampled_obj]

/-- The bank that starts is the one that BOOT_BANK reports, and the device has booted. -/
theorem runBank_obj (n k : Nat) : (s.runBank n k).obj 0x2B08 2 = n := by
  have hver (u : State) (l : List Nat) (hl : ∀ c ∈ l, c < 4) (v : Nat → Nat) :
      (l.foldl (fun st c => st.setObj 0x1001 (c + 2) 0 (v c)) u).obj 0x2B08 2 = u.obj 0x2B08 2 := by
    induction l generalizing u with
    | nil => rfl
    | cons c l ih =>
      have hc := hl c List.mem_cons_self
      rw [List.foldl_cons, ih _ fun x hx => hl x (List.mem_cons_of_mem c hx)]
      exact obj_setObj_ne _ _ _ _ _ (objKey_ne (by omega) (by decide) (by decide) (by decide) (.inl (by decide)))
  have hkey : objKey 0x2C00 2 0 ≠ objKey 0x2B08 2 0 := objKey_ne (by decide) (by decide) (by decide) (by decide) (.inl (by decide))
  show (State.setObj (State.setBlob _ _ _ _ _) 0x2C00 2 0 _).obj 0x2B08 2 = n
  rw [obj_setObj_ne _ _ _ _ _ hkey, setBlob_obj, hver _ _ fun c hc => List.mem_range.1 hc,
    obj_setObj_sub _ (by decide) (by decide) (by decide), obj_setObj]

/-! Stage 1 (R492) -/

/-- Stage 1 is entered, and its objects are in force. -/
def atStage1 (s : State) : State := ((s.forceAll.setLevel 1).setObj 0x2B00 1 0 0)

theorem atStage1_level : s.atStage1.level = 1 :=
  (obj_setObj_ne _ _ _ _ _ (objKey_ne (by decide) (by decide) (by decide) (by decide) (.inl (by decide)))).trans
    (setLevel_level s.forceAll 1)

/-- The reset is over, and a loss of P0 whose time has run out has merged into it (R482). -/
def resetOver (s : State) : State :=
  { s with
    flt := { s.flt with inReset := false },
    ring := { s.ring with p0 := if (s.ring.p0.downSince.map s.p0Late).getD false then PcieLink.down else s.ring.p0 } }

theorem resetOver_recovery : s.atStage1.resetOver.recovery = s.recovery := by
  unfold recovery
  rfl

theorem stage1_eq : s.stage1 =
    let t := (if s.atStage1.resetOver.recovery then s.atStage1.resetOver
      else (s.atStage1.resetOver.clusterStarts.trainPort 0).installRoutes.trainDerone).raiseDevice 0x0C 0 [1]
    if s.obj 0x2001 2 = 5 then t.raiseJorol 0x0E 0 (leBytes 4 (s.obj 0x2001 3 % 2 ^ 32)) else t := rfl

theorem stage1_of_quiet (h : s.obj 0x2001 2 ≠ 5) : s.stage1 = (if s.recovery then s.atStage1.resetOver
    else (s.atStage1.resetOver.clusterStarts.trainPort 0).installRoutes.trainDerone).raiseDevice 0x0C 0 [1] := by
  rw [stage1_eq, resetOver_recovery]
  exact if_neg h

end Laws

variable {s : State} (hrun : s.running = true)

/-! Stage 0 -/

theorem exec_bootRomRun_kept (h : s.pw.bootReady = false ∨ s.pw.held = true) : exec .bootRomRun s = .next s := by
  have hkept : s.bootRom = s := if_pos (h.elim (fun h => .inr (.inl (by rw [h]; rfl))) fun h => .inr (.inr h))
  exact (congrArg s.live hkept).trans (live_self s)

theorem exec_stackBringup_kept {k : Nat} (h : k ≠ s.pw.stacksDone ∨ s.level ≠ 0 ∨ s.pw.held = true) : exec (.stackBringup k) s = .next s := by
  have hkept : s.bringUp k = s := if_pos (by tauto)
  exact (congrArg s.live hkept).trans (live_self s)

theorem exec_laneCalibration_kept (h : s.level ≠ 1) : exec .laneCalibration s = .next s :=
  live_unguarded s _ fun hp => h hp.1

theorem exec_stackTrim_kept {k : Nat} {p : Bool} (h : s.nextStack s.pw.trimsDone ≠ some k) : exec (.stackTrim k p) s = .next s := by
  have hkept : s.trim k p = s := if_pos (.inr (.inr (.inr h)))
  exact (congrArg s.live hkept).trans (live_self s)

theorem exec_clockStep_early {k : Nat} (hsteps : s.pw.stepsDone ≠ 0) (h : s.now < s.pw.lastStepAt + 100000000) :
    exec (.clockStep k) s = .next s := by
  have hkept : s.clockStep k = s := if_pos (.inr (.inr (.inr ⟨hsteps, h⟩)))
  exact (congrArg s.live hkept).trans (live_self s)

theorem exec_stage1Entry_kept (h : s.stage1Ready = false) : exec .stage1Entry s = .next s :=
  live_unguarded s _ (Bool.eq_false_iff.1 h)

theorem exec_stage2Entry_kept (h : s.stage2Ready = false) : exec .stage2Entry s = .next s :=
  live_unguarded s _ (Bool.eq_false_iff.1 h)

/-- Every bench of the stack is at rest. -/
def stackRests (s : State) (k : Nat) : Prop := ∀ n, n < 64 → (s.bench (64 * k + n)).run ≠ .running

theorem resumeStack_rests {k : Nat} (h : s.stackRests k) : s.resumeStack k = s :=
  foldl_self _ s _ fun n hn => if_neg (h n (List.mem_range.1 hn))

theorem stackRests_of_benches {t : State} {k : Nat} (h : t.cmp.benches = s.cmp.benches) (hrests : s.stackRests k) : t.stackRests k :=
  fun n hn => by simpa only [stackRests, bench, h] using hrests n hn

/-- Settling a stack's cycles leaves the benches' states alone. -/
theorem settleStack_benches (s : State) (k : Nat) : (s.settleStack k).cmp.benches = s.cmp.benches := by
  unfold settleStack
  split <;> rfl

include hrun

theorem exec_bootRomRun (hup : s.pw.mainUp = true) (hready : s.pw.bootReady = true) (hheld : s.pw.held = false) :
    exec .bootRomRun s = .next (s.bootSampled.bootFrom [s.obj 0x2B08 1, 1 - s.obj 0x2B08 1, 2]) := by
  have hboot : s.bootRom = s.bootSampled.boot := if_neg (by simp [hup, hready, hheld])
  exact (live_running s _ hrun).trans (congrArg _ (hboot.trans (bootSampled_boot s)))

theorem exec_stackBringup {k : Nat} (hk : k < 8) (hturn : s.pw.stacksDone = k) (hbooted : s.pw.booted = true) (hrec : s.recovery = false)
    (hlevel : s.level = 0) (hheld : s.pw.held = false) (hlost : (s.stack k).lost = false) : exec (.stackBringup k) s =
    .next ((({ s with pw := { s.pw with stacksDone := k + 1 } }).setStack k
      { s.stack k with up := true, clock := .mhz800, cycleAt := s.now }).setCondition (16 + k) false) := by
  have hup : s.bringUp k = _ := if_neg (by simp [hk, hturn, hbooted, hrec, hlevel, hheld])
  exact (live_running s _ hrun).trans (congrArg _ (hup.trans (if_neg (by simp [hlost]))))

theorem exec_stage1Entry (h : s.stage1Ready = true) : exec .stage1Entry s = .next s.stage1 := live_guarded s _ hrun h

theorem exec_stage2Entry (h : s.stage2Ready = true) : exec .stage2Entry s = .next s.stage2 := live_guarded s _ hrun h

theorem exec_laneCalibration (hlevel : s.level = 1) (hrec : s.recovery = false) :
    exec .laneCalibration s = .next { s with pw := { s.pw with calibrated := true } } :=
  live_guarded s _ hrun ⟨hlevel, by rw [hrec]; rfl⟩

section Steps
variable {k : Nat} (hlevel : s.level = 1)

/-- The stack's trim, passed or failed. -/
def trimmedStack (s : State) (k : Nat) (passed : Bool) : State :=
  ({ s with pw := { s.pw with trimsDone := k + 1 } } : State).setStack k { s.stack k with trimmed := passed, trimFailed := !passed }

/-- The stack's clock step. -/
def steppedStack (s : State) (k : Nat) : State :=
  ({ s.settleStack k with pw := { (s.settleStack k).pw with stepsDone := k + 1, lastStepAt := s.now } } : State).setStack k
    { (s.settleStack k).stack k with clock := .mhz1600 }

include hlevel

theorem exec_stackTrim (passed : Bool) (hcal : s.pw.calibrated = true) (hfail : s.trimFailed = false)
    (hturn : s.nextStack s.pw.trimsDone = some k) : exec (.stackTrim k passed) s =
    .next ((if passed then s.trimmedStack k passed else (s.trimmedStack k passed).setCondition 8 true).resumeStack k) := by
  have htrim : s.trim k passed =
      (if passed then s.trimmedStack k passed else (s.trimmedStack k passed).setCondition 8 true).resumeStack k :=
    if_neg (by simp [hlevel, hcal, hfail, hturn])
  exact (live_running s _ hrun).trans (congrArg _ htrim)

theorem exec_stackTrim_rests (passed : Bool) (hcal : s.pw.calibrated = true) (hfail : s.trimFailed = false)
    (hturn : s.nextStack s.pw.trimsDone = some k) (hrests : s.stackRests k) : exec (.stackTrim k passed) s =
    .next (if passed then s.trimmedStack k passed else (s.trimmedStack k passed).setCondition 8 true) := by
  refine (exec_stackTrim hrun hlevel passed hcal hfail hturn).trans (congrArg _ (resumeStack_rests (stackRests_of_benches ?_ hrests)))
  cases passed with
  | true => rfl
  | false => exact (congrArg ComputeState.benches (setCondition_cmp (s.trimmedStack k false) 8 true) :)

section Step
variable (htrimmed : s.allTrimmed = true) (hturn : s.nextStack s.pw.stepsDone = some k)
  (hdue : s.pw.stepsDone = 0 ∨ s.pw.lastStepAt + 100000000 ≤ s.now)
include htrimmed hturn hdue

theorem exec_clockStep : exec (.clockStep k) s = .next ((s.steppedStack k).resumeStack k) := by
  have hnotEarly : ¬ (s.pw.stepsDone ≠ 0 ∧ s.now < s.pw.lastStepAt + 100000000) := by omega
  have hstep : s.clockStep k = (s.steppedStack k).resumeStack k := if_neg (by simp [hlevel, htrimmed, hturn, hnotEarly])
  exact (live_running s _ hrun).trans (congrArg _ hstep)

theorem exec_clockStep_rests (hrests : s.stackRests k) : exec (.clockStep k) s = .next (s.steppedStack k) :=
  (exec_clockStep hrun hlevel htrimmed hturn hdue).trans
    (congrArg _ (resumeStack_rests (stackRests_of_benches (settleStack_benches s k) hrests)))

end Step
end Steps

section Effects
variable {k : Nat}

theorem stackBringup_answers (hk : k < 8) (hturn : s.pw.stacksDone = k) (hbooted : s.pw.booted = true) (hrec : s.recovery = false)
    (hlevel : s.level = 0) (hheld : s.pw.held = false) (hlost : (s.stack k).lost = false) : answers (.stackBringup k) s fun t =>
    (t.stack k).up = true ∧ (t.stack k).clock = .mhz800 ∧ t.pw.stacksDone = k + 1 ∧ (∀ j, j ≠ k → t.stack j = s.stack j) ∧
      t.mem = s.mem :=
  ⟨_, exec_stackBringup hrun hk hturn hbooted hrec hlevel hheld hlost, by simp, by simp, by simp, fun j hj =>
    (setCondition_stack _ _ _ j).trans (stack_setStack_ne _ _ _ hj.symm), by simp⟩

variable (hlevel : s.level = 1)
include hlevel

section Trim
variable (hcal : s.pw.calibrated = true) (hfail : s.trimFailed = false) (hturn : s.nextStack s.pw.trimsDone = some k)
  (hrests : s.stackRests k)
include hcal hfail hturn hrests

theorem stackTrim_answers_passed : answers (.stackTrim k true) s fun t =>
    (t.stack k).trimmed = true ∧ t.pw.trimsDone = k + 1 ∧ ∀ j, j ≠ k → t.stack j = s.stack j :=
  ⟨_, exec_stackTrim_rests hrun hlevel true hcal hfail hturn hrests, by simp [trimmedStack], rfl, fun _ hj => stack_setStack_ne _ _ _ hj.symm⟩

/-- A trim that fails stops the way up, with its condition raised (R77). -/
theorem stackTrim_answers_failed (hline : s.line 8 = FaultLine.down) : answers (.stackTrim k false) s fun t =>
    (t.stack k).trimFailed = true ∧ (t.line 8).up = true :=
  ⟨_, exec_stackTrim_rests hrun hlevel false hcal hfail hturn hrests, by simp [trimmedStack],
    setCondition_rises (s.trimmedStack k false) hline⟩

end Trim

theorem clockStep_answers (htrimmed : s.allTrimmed = true) (hturn : s.nextStack s.pw.stepsDone = some k)
    (hdue : s.pw.stepsDone = 0 ∨ s.pw.lastStepAt + 100000000 ≤ s.now) (hrests : s.stackRests k) : answers (.clockStep k) s fun t =>
    (t.stack k).clock = .mhz1600 ∧ t.pw.stepsDone = k + 1 ∧ t.pw.lastStepAt = s.now :=
  ⟨_, exec_clockStep_rests hrun hlevel htrimmed hturn hdue hrests, by simp [steppedStack], rfl, rfl⟩

end Effects
end Sys2Proof.Machine.State

open Sys2Proof Sys2Proof.Machine Sys2Proof.Claims

/-- Settles O57: each step of bring-up in its turn and out of it; the boot ROM's tries are judged by the images that it found, because no
note of a check and no fault line changes an image. -/
theorem bringUpFollowsItsOrder : Obligations.BringUpFollowsItsOrder := by
  unfold Obligations.BringUpFollowsItsOrder
  intro s hrun b s0 s1 s2 s3
  refine ⟨fun hup hready hheld => (State.exec_bootRomRun hrun hup hready hheld).trans (congrArg _ (State.bootFrom_three _ _ _ _)),
    State.exec_bootRomRun_kept, s.pmbusReads_out, fun n k => ⟨rfl, rfl, s.runBank_obj n k, rfl⟩,
    fun k hk hturn hbooted hrec hlevel hheld hlost => State.stackBringup_answers hrun hk hturn hbooted hrec hlevel hheld hlost,
    fun k => State.exec_stackBringup_kept, State.exec_stage1Entry hrun, State.exec_stage1Entry_kept,
    ⟨s.atStage1_level, fun hrec hquiet => (s.stage1_of_quiet hquiet).trans (by rw [if_pos hrec]; rfl),
      fun hrec hquiet => (s.stage1_of_quiet hquiet).trans (by rw [if_neg (Bool.eq_false_iff.1 hrec)]; rfl)⟩,
    State.exec_laneCalibration hrun, State.exec_laneCalibration_kept,
    fun k hlevel hcal hfail hturn _ hrests => ⟨State.stackTrim_answers_passed hrun hlevel hcal hfail hturn hrests,
      State.stackTrim_answers_failed hrun hlevel hcal hfail hturn hrests⟩,
    fun k p => State.exec_stackTrim_kept,
    fun k hlevel htrimmed hturn _ hdue hrests => State.clockStep_answers hrun hlevel htrimmed hturn hdue hrests,
    fun k => State.exec_clockStep_early, State.exec_stage2Entry hrun, State.exec_stage2Entry_kept⟩
end

section
/-! Completion: each form's own effect under the conditions that the spec puts on it. A row is its function of the state while ROOT runs, and
a ledger row that function from Stage 1 on. -/

namespace Sys2Proof.Machine.State
open Sys2Proof.Claims

variable {s : State}

/-- A list of rows of which each is one function of its entry. -/
theorem exec_of_mem {α : Type} {l : List (Instr × α)} {g : α → Host.Outcome State Fault Refusal}
    (hl : l.map (fun x => exec x.1 s) = l.map fun x => g x.2) {c : Instr} {a : α} (h : (c, a) ∈ l) : exec c s = g a :=
  List.map_inj_left.1 hl _ h

/-- A command outside ROOT's domain whose guard holds has its effect. -/
theorem next_guarded {P : Prop} [Decidable P] {u : State} (t : State) (h : P) :
    (.next (if P then t else u) : Host.Outcome State Fault Refusal) = .next t := by rw [if_pos h]

theorem next_unless {P : Prop} [Decidable P] {u : State} (t : State) (h : ¬ P) :
    (.next (if P then u else t) : Host.Outcome State Fault Refusal) = .next t := by rw [if_neg h]

/-! Rails, pins and the test access port (R328, R479, R480, R490, R505, R521) -/

theorem exec_rootLockLoss (hup : s.pw.mainUp = true) (hlocked : s.pw.rootLocked = true) : exec .rootLockLoss s = .next s.rootLost :=
  next_guarded _ ⟨hup, hlocked⟩

theorem exec_rootLockRestore (hup : s.pw.mainUp = true) (hlocked : s.pw.rootLocked = false) (htrip : s.pw.tripped = false) :
    exec .rootLockRestore s = .next s.rootBack := next_guarded _ ⟨hup, by rw [hlocked]; rfl, by rw [htrip]; rfl⟩

theorem exec_powerGood (hdown : s.pw.mainUp = false) : exec .powerGood s = .next s.powerUp := next_unless _ (Bool.eq_false_iff.1 hdown)

theorem exec_perst1Assert (hrun : s.running = true) (hup : s.ring.p1.up = true) :
    exec .perst1Assert s = .next ({ s with pw := { s.pw with perst1 := true } } : State).p1Down := next_guarded _ ⟨hrun, hup⟩

section Rails
variable (hup : s.pw.mainUp = true)
include hup

theorem exec_mainRailsDown : exec .mainRailsDown s = .next { s.powerLost with pw := { s.powerLost.pw with woken := false } } :=
  next_guarded _ hup

theorem exec_mainRailExcursion {r : Nat} (hr : r < 7) : exec (.mainRailExcursion r) s =
    .next (({ s with pw := { s.pw with railsOut := maskOr s.pw.railsOut (2 ^ r) } } : State).judgeSupply s) :=
  next_guarded _ ⟨hup, hr⟩

theorem exec_mainRailReturn {r : Nat} (hr : r < 7) : exec (.mainRailReturn r) s =
    .next (({ s with pw := { s.pw with railsOut := maskClear s.pw.railsOut (2 ^ r) } } : State).judgeSupply s) :=
  next_guarded _ ⟨hup, hr⟩

theorem exec_vddAuxExcursion (inRange : Bool) : exec (.vddAuxExcursion inRange) s =
    let t : State := { s with pw := { s.pw with auxOk := inRange } }
    .next ((if inRange then t.copyWake else t).judgeSupply s) :=
  next_unless _ (by rw [hup]; decide)

theorem exec_samplePreload (n : Nat) : exec (.samplePreload n) s = .next { s.tapTake .samplePreload with
    pw := { (s.tapTake .samplePreload).pw with boundary := n % 2 ^ 17 } } := next_guarded _ hup

end Rails

/-! Rows of a running device -/

section Running
variable (hrun : s.running = true)

/-- A ledger row that is accepted has its effect. -/
theorem liveLedger_some {o : Option State} {u : State} (hrun : s.running = true) (hl : 0 < s.level) (h : o = some u) :
    s.liveLedger (o.getD s) = .next u := by
  rw [h]
  exact liveLedger_running s u hrun hl

theorem liveLedger_guarded {P : Prop} [Decidable P] (t : State) (hrun : s.running = true) (hl : 0 < s.level) (h : P) :
    s.liveLedger (if P then t else s) = .next t := by
  rw [if_pos h]
  exact liveLedger_running s t hrun hl

theorem liveLedger_unless {P : Prop} [Decidable P] (t : State) (hrun : s.running = true) (hl : 0 < s.level) (h : ¬ P) :
    s.liveLedger (if P then s else t) = .next t := by
  rw [if_neg h]
  exact liveLedger_running s t hrun hl

/-- A row whose obstacle is absent has its effect while ROOT runs. -/
theorem live_unless {P : Prop} [Decidable P] (t : State) (hrun : s.running = true) (h : ¬ P) : s.live (if P then s else t) = .next t := by
  rw [if_neg h]
  exact live_running s t hrun

include hrun

/-! Register pages (R331, R333 to R335) -/

section Page
variable {f : Nat} (hopen : s.pageOpen f = true)
include hopen

theorem exec_ringStatusRead :
    exec (.ringStatusRead f) s = .next ((s.pageRead f 0x44 4).2.emit (.regRead f 0x44 (s.pageRead f 0x44 4).1)) :=
  live_guarded s _ hrun (.inl hopen)

theorem exec_registerWrite (off n x : Nat) : exec (.registerWrite f off n x) s = .next (
    if f = 0 ∧ off = 0x108 ∧ (n = 4 ∨ n = 8) then (s.pageWrite f off n x).doorbell (x % 2 ^ 32) else s.pageWrite f off n x) :=
  live_unless _ hrun (by rw [hopen]; decide)

theorem exec_registerWrite_elsewhere {off : Nat} (n x : Nat) (h : f ≠ 0 ∨ off ≠ 0x108) :
    exec (.registerWrite f off n x) s = .next (s.pageWrite f off n x) := by
  rw [exec_registerWrite hrun hopen]
  exact congrArg _ (if_neg (by tauto))

end Page

/-- A write of MB_DOORBELL, whole, rings it if PF0's page is open. -/
theorem exec_registerWrite_doorbell {n : Nat} (x : Nat) (hn : n = 4 ∨ n = 8) : exec (.registerWrite 0 0x108 n x) s =
    .next (if s.pageOpen 0 then (s.pageWrite 0 0x108 n x).doorbell (x % 2 ^ 32) else s) := by
  cases hopen : s.pageOpen 0 with
  | true =>
    rw [exec_registerWrite hrun hopen]
    exact congrArg _ (if_pos ⟨rfl, rfl, hn⟩)
  | false => exact (congrArg s.live (if_pos (by rw [hopen]; rfl))).trans (live_self s)

/-! Stack interfaces (R472) -/

section Interface
variable {k : Nat} (hk : k < 8) (hup : (s.stack k).up = true)
include hk hup

theorem exec_stackInterfaceLoss (hlost : (s.stack k).lost = false) : exec (.stackInterfaceLoss k) s =
    .next (((s.mem.moves.foldl (fun t m => t.failMove k m) (s.setStack k { s.stack k with lost := true })).parityTransfers k).setCondition
      (16 + k) true) := by
  have hheld : ¬ (8 ≤ k ∨ (s.stack k).lost) := by simp [hlost, hk]
  exact (live_unless _ hrun hheld).trans (congrArg _ (if_pos hup))

theorem exec_stackInterfaceRetrained (hlost : (s.stack k).lost = true) : exec (.stackInterfaceRetrained k) s =
    .next ((s.setStack k { s.stack k with lost := false }).setCondition (16 + k) false) :=
  live_unless _ hrun (by simp [hlost, hup, hk])

end Interface

/-! Resets, the scorecard and what is injected (R469, R477 to R482) -/

theorem exec_fullReset {c : ResetCause} {u : Nat} (hdue : s.flt.resetDue = some (c, u)) : exec .fullReset s = .next (s.fullReset c) := by
  refine (live_running s _ hrun).trans (congrArg _ ?_)
  rw [hdue]

/-- A line that is up and not held is sampled (R469). -/
theorem exec_scorecardEvent {k : Nat} (hk : k < 24) (hcollect : s.collecting = true) (hhold : (s.line k).hold = false)
    (hup : (s.line k).up = true) (h5 : k ≠ 5) (h6 : k ≠ 6) : exec (.scorecardEvent k) s = .next (s.sampleLine k) := by
  have hraised : (if k = 5 ∨ k = 6 then s.raiseSource k else if k = 2 ∧ !(s.line 2).up then s.pulseLine 2 else s) = s := by
    rw [if_neg (by simp [h5, h6]), if_neg]
    rintro ⟨rfl, hdown⟩
    rw [hup] at hdown
    exact absurd hdown (by decide)
  refine (live_running s _ hrun).trans (congrArg _ ?_)
  rw [hraised, if_pos ⟨hk, hcollect⟩, if_neg (Bool.eq_false_iff.1 hhold)]

theorem exec_injectEvent {x : Injection} (hx : s.flt.injection = some x) (hcollect : s.collecting = true) (hdue : x.next ≤ s.tick) :
    exec .injectEvent s = .next (s.injectRise x) := by
  refine (live_running s _ hrun).trans (congrArg _ ?_)
  rw [hx]
  exact if_pos ⟨hcollect, hdue⟩

/-! Derone and sub-ports (R168, R190, R308) -/

theorem exec_deroneLinkDown {p : Nat} (hup : s.obj (0x2808 + p) 2 = 2) : exec (.deroneLinkDown p) s = .next (s.deroneDown p) :=
  live_unless _ hrun (not_not.2 hup)

theorem exec_deroneTrainingDone {p m q : Nat} (htrain : s.obj (0x2808 + p) 2 = 1) (henabled : s.obj (0x2808 + p) 1 ≠ 0)
    (hother : m ≠ s.moduleId) :
    let t := (s.setObj (0x2808 + p) 3 0 m).setObj (0x2808 + p) 4 0 q
    exec (.deroneTrainingDone p m q) s =
      .next (((t.setObj (0x2808 + p) 2 0 2).judgeDerone t).raiseDevice 2 (1 * 256 + p) [1, BitVec.ofNat 8 p, 0]) :=
  (live_unless _ hrun (not_or.2 ⟨not_not.2 htrain, henabled⟩)).trans (congrArg _ (if_neg hother))

theorem exec_subportDown {p l : Nat} (hup : (s.sub (4 * p + l)).link = .up) : exec (.subportDown p l) s = .next (s.subDown p l) :=
  live_unless _ hrun (not_not.2 hup)

/-! Ledger writes (R445, R448) -/

section Ledger
variable (hl : 0 < s.level)
include hl

/-- An injection can be started in test mode (R478). -/
theorem exec_injectStart (htest : s.pw.testmode = true) : exec .injectStart s = .next { s with flt := { s.flt with
    injection := some ⟨s.obj 0x7F00 1, s.obj 0x7F00 2, s.obj 0x7F00 3, s.tick + 1⟩ } } :=
  liveLedger_some hrun hl (if_neg (by rw [htest]; decide))

theorem exec_timeStep {v : Nat} (hservice : s.timeServiceRuns = false)
    (hpos : 0 ≤ (s.deviceTime : Int) + (s.pw.stepDue.getD 0 + signed 64 v)) : exec (.timeStep v) s =
    .next { s with pw := { s.pw with stepDue := some (s.pw.stepDue.getD 0 + signed 64 v) } } :=
  liveLedger_some hrun hl (if_neg (not_or.2 ⟨Bool.eq_false_iff.1 hservice, Int.not_lt.2 hpos⟩))

/-- RESET_COMMAND through the mailbox is the Owner's (R457). -/
theorem exec_resetCommand_mailbox : exec (.resetCommand 0) s = .next (s.resetCause .command) :=
  live_guarded s _ hrun ⟨hl, .inl rfl⟩

theorem exec_chunkGo {u : State} (hidle : s.led.chunkRun = none) (hgo : s.chunkGo = some u) : exec .chunkGo s = .next u := by
  refine (liveLedger_running s _ hrun hl).trans (congrArg _ ?_)
  rw [hidle, hgo]
  rfl

theorem exec_keyWrite {d : Nat} {b : List Byte} {u : State} (hd : d < 128) (hgo : s.keyWrite d b = some u) :
    exec (.keyWrite d b) s = .next u :=
  (liveLedger_guarded _ hrun hl hd).trans (by rw [hgo]; rfl)

theorem exec_keyClear {d k : Nat} {u : State} (hd : d < 128) (hgo : s.keyClear d k = some u) : exec (.keyClear d k) s = .next u :=
  (liveLedger_guarded _ hrun hl hd).trans (by rw [hgo]; rfl)

section Drawer
variable {d : Nat} (hd : 1 ≤ d) (hd' : d ≤ 127)
include hd hd'

theorem exec_drawerStop (hst : s.drawerState d = 0) : exec (.drawerStop d) s = .next (s.stopEffects d) :=
  liveLedger_some hrun hl (if_neg (by omega))

theorem exec_drawerStart (hst : s.drawerState d = 2) : exec (.drawerStart d) s = .next (s.setObj 0x2300 1 d 0) :=
  liveLedger_some hrun hl (if_neg (by omega))

omit hrun hl in
/-- A migration command that is allowed begins, BUSY while it runs. -/
theorem migCommand_starts {k : Nat} (hk : 1 ≤ k) (hk' : k ≤ 7) (hidle : s.obj 0x23C0 2 d ≠ 1) (hallowed : s.migAllowed d k = true) :
    s.migCommand d k = ((s.setObj 0x23C0 2 d 1).setObj 0x23C0 1 d k).migRun d k := by
  rw [migCommand, if_neg hidle, migWrite, if_neg (by omega), if_neg (by rw [hallowed]; decide), Option.getD_some]

end Drawer
end Ledger
end Running
end Sys2Proof.Machine.State

open Sys2Proof Sys2Proof.Machine Sys2Proof.Claims

/-- Settles O60: a row at a time, each from its function of the state; a list of rows that answer alike is judged at once. -/
theorem formsCompleteWithTheirEffect : Obligations.FormsCompleteWithTheirEffect := by
  unfold Obligations.FormsCompleteWithTheirEffect
  refine ⟨fun s f hrun hopen => ?pages, fun s hrun => ?device, fun s => ?pins, fun s hrun => ?rows⟩
  case pages =>
    exact ⟨State.live_guarded s _ hrun hopen, State.live_guarded s _ hrun hopen, State.exec_ringStatusRead hrun hopen,
      fun off n x => State.exec_registerWrite_elsewhere hrun hopen n x, fun x n => State.exec_registerWrite_doorbell hrun x⟩
  case device =>
    refine ⟨fun ts => State.live_running s _ hrun, fun rs hl => State.live_guarded s _ hrun hl,
      fun k hk hlost hup => State.exec_stackInterfaceLoss hrun hk hup hlost,
      fun k hk hlost hup => State.exec_stackInterfaceRetrained hrun hk hup hlost, fun _ _ _ => State.live_running s _ hrun,
      fun k hk hturn hbooted hrec hlevel hheld hlost => State.exec_stackBringup hrun hk hturn hbooted hrec hlevel hheld hlost,
      State.exec_stage1Entry hrun, State.exec_laneCalibration hrun,
      fun k passed hlevel hcal hfail hturn => State.exec_stackTrim hrun hlevel passed hcal hfail hturn,
      fun k hlevel htrimmed hturn hdue => State.exec_clockStep hrun hlevel htrimmed hturn hdue,
      State.exec_stage2Entry hrun, fun c u => State.exec_fullReset hrun, State.exec_p0DlDown_up hrun,
      fun x w b hup hperst hd hboot htrains hsince =>
        State.exec_p0DlUp_in_time hrun hup hperst hd hboot htrains (State.p0Overdue_eq_false_of_unused (.inr hsince)),
      fun u hsince hlate hreset => State.exec_p0LinkLossTimeout_late hrun hsince hlate hreset, State.exec_p1LinkDown_up hrun,
      fun x w b hperst hl htrains hup => State.exec_p1DlUp_down hrun hperst hl htrains hup,
      fun m hl => State.liveLedger_running s _ hrun hl,
      fun k hk hcollect hhold hup h5 h6 => State.exec_scorecardEvent hrun hk hcollect hhold hup h5 h6,
      fun htest hl => ⟨State.liveLedger_guarded _ hrun hl htest, State.exec_injectStart hrun hl htest⟩,
      fun x hx hcollect hdue => State.exec_injectEvent hrun hx hcollect hdue,
      fun k hk hl => State.live_guarded s _ hrun ⟨hk, hl⟩, fun k hk => State.live_guarded s _ hrun hk, State.live_running s _ hrun,
      fun v hl hservice hpos => State.exec_timeStep hrun hl hservice hpos, State.live_running s _ hrun, State.live_running s _ hrun,
      fun hl d hd hd' => ⟨State.exec_drawerStop hrun hl hd hd', State.exec_drawerStart hrun hl hd hd',
        fun hst hquiet => State.live_guarded s _ hrun ⟨hst, hquiet⟩, fun c k hrow hidle hallowed => ?_⟩⟩
    have hk : k ∈ List.range' 1 7 := List.mem_map_of_mem (f := Prod.snd) hrow
    obtain ⟨hk1, hk7⟩ := List.mem_range'_1.1 hk
    rw [State.exec_of_mem (g := fun k => s.liveLedger (s.migCommand d k)) rfl hrow, State.liveLedger_running s _ hrun hl,
      State.migCommand_starts hd hd' hk1 (by omega) hidle hallowed]
  case pins =>
    exact ⟨State.exec_rootLockLoss, State.exec_rootLockRestore, State.exec_powerGood,
      fun hup => ⟨State.exec_mainRailsDown hup, fun r hr => ⟨State.exec_mainRailExcursion hup hr, State.exec_mainRailReturn hup hr⟩,
        State.exec_vddAuxExcursion hup false, State.exec_vddAuxExcursion hup true⟩,
      fun f => rfl, rfl, rfl, State.exec_perst1Assert, rfl, rfl,
      fun c i hrow => State.exec_of_mem (g := fun i => .next (s.tapTake i)) rfl hrow, fun n hup => State.exec_samplePreload hup n⟩
  case rows =>
    refine ⟨fun t p l n b f c u hrow => (State.exec_of_mem (g := s.live) rfl hrow).trans (State.live_running s u hrun),
      fun n hserved => State.live_guarded s _ hrun hserved, fun p => State.exec_deroneLinkDown hrun,
      fun p m q htrain henabled hother => State.exec_deroneTrainingDone hrun htrain henabled hother,
      fun p l => State.exec_subportDown hrun, fun hdrain hidle => State.live_guarded s _ hrun ⟨hdrain, hidle⟩, fun hl => ?_, fun c => ?_⟩
    · exact ⟨fun c k u hrow hgo => (State.exec_of_mem (g := fun k => s.liveLedger ((s.routeCommand k).getD s)) rfl hrow).trans
          (State.liveLedger_some hrun hl hgo),
        fun d b u => State.exec_keyWrite hrun hl,
        fun d k u => State.exec_keyClear hrun hl,
        fun d b hd hb => State.liveLedger_guarded _ hrun hl ⟨hd, hb⟩, fun v u => State.liveLedger_some hrun hl,
        State.exec_resetCommand_mailbox hrun hl, fun bs hbs => State.liveLedger_guarded _ hrun hl hbs,
        fun u => State.exec_chunkGo hrun hl, fun d u => State.liveLedger_some hrun hl,
        fun p v hv => State.liveLedger_unless _ hrun hl (Nat.not_lt.2 hv),
        fun p v hv hp => State.liveLedger_unless _ hrun hl (by omega), fun p l u => State.liveLedger_some hrun hl,
        fun q u => State.liveLedger_some hrun hl, fun q => State.liveLedger_running s _ hrun hl,
        fun c hst hport hsvc => State.exec_nvmeConnect_idle hrun hl hst hport hsvc, fun c => State.exec_nvmeDisconnect_open hrun hl⟩
    · exact ⟨State.exec_nvmeConnectDone_connecting hrun, State.exec_nvmeConnectTimeout_connecting hrun,
        State.exec_nvmeConnectionLoss_ready hrun,
        fun x hx m hm hc hst hlate => State.exec_nvmeIoTimeout_late hrun hx hm hc hst hlate,
        State.exec_nvmeReconnectDelay_due hrun, State.exec_nvmeKeepAlive_due hrun⟩
end

section
/-! The control and peg instructions of a bench (R94, R96 to R99, R113, R154, R161, R162): what each command does with the instruction that its
bench issues, in the order of its checks. -/

namespace Sys2Proof.Machine.State
open Sys2Proof.Claims

variable {s : State} {b d : Nat} {j : Job} {w code : Nat}

/-- What the command of an instruction answers. -/
theorem live_instr (h : issues s b d j w code) (k : Nat → Job → Nat → State → State) :
    s.live (s.runInstr b code k) = .next (k d j w (fetched s b d j)) := by
  rw [runInstr_issues h, live_running s _ h.1]

/-- A command of another opcode does not run the instruction (R94). -/
theorem live_other_instr {op : Nat} (h : issues s b d j w code) (hne : code ≠ op) (k : Nat → Job → Nat → State → State) :
    s.live (s.runInstr b op k) = .next s := by
  obtain ⟨-, hissue, hfetch, rfl⟩ := h
  obtain ⟨bs, hbytes, rfl⟩ := Option.map_eq_some_iff.1 hfetch
  have hpair : s.fetchInstr b d j = (some bs, fetched s b d j) := Prod.ext hbytes rfl
  have hkept : s.runInstr b op k = s := by
    rw [runInstr, hissue]
    simp only [hpair]
    exact if_neg hne
  rw [hkept, live_self]

/-! NOP and END (R98) -/

theorem exec_benchNop_issued (h : issues s b d j w 0x00) : exec (.benchNop b) s = .next ((fetched s b d j).step1 b) := live_instr h _

theorem exec_benchNop_other (h : issues s b d j w code) (hne : code ≠ 0x00) : exec (.benchNop b) s = .next s := live_other_instr h hne _

/-- The bench's part of the job is ended, and the bench parked. -/
def ended (t : State) (b : Nat) : State := (t.setBench b { t.bench b with ended := true }).park b

theorem exec_benchEnd_issued (h : issues s b d j w 0x01) : exec (.benchEnd b) s = .next ((fetched s b d j).ended b) := live_instr h _

/-- A parked bench keeps its part of the job, and none of its requests and open bodies. -/
theorem park_bench_self (t : State) (b : Nat) : (t.park b).bench b =
    { (t.enter b .parked).bench b with awaits := none, wakeAsked := false, granted := none, loops := [] } := by
  simp [park]

theorem ended_bench (t : State) (b : Nat) :
    ((t.ended b).bench b).run = .parked ∧ ((t.ended b).bench b).ended = true ∧ ((t.ended b).bench b).loops = [] := by
  rw [ended, park_bench_self, enter_bench_self, bench_setBench]
  exact ⟨rfl, rfl, rfl⟩

/-! LOOP and BRANCH (R96, R97) -/

/-- LOOP's iteration count: the word of its immediate, or the argument that it names (R96). -/
def loopCount (j : Job) (w : Nat) : Nat :=
  if BenchInstr.mode w = 1 then argWord j.args (bits w 36 32) % 2 ^ 32 else BenchInstr.imm w

theorem exec_benchLoop_issued (h : issues s b d j w 0x02)
    (hread : BenchInstr.mode w = 1 → (fetched s b d j).windowBad b (8 * bits w 36 32) 8 = false) : exec (.benchLoop b) s =
    let t := fetched s b d j
    let v := t.bench b
    let r := advanceFrom (BenchInstr.target w) v.loops
    .next (if loopCount j w = 0 then t.setBench b { v with pc := r.1, loops := r.2 }
      else t.setBench b { v with pc := v.pc + 1, loops := ⟨v.pc, BenchInstr.target w, 0, loopCount j w⟩ :: v.loops }) := by
  refine (live_instr h _).trans (congrArg _ (if_neg ?_))
  rintro ⟨hmode, hbad⟩
  rw [hread hmode] at hbad
  exact Bool.false_ne_true hbad

/-- A BRANCH that reads a peg observes it (R155). -/
def branchObserved (t : State) (b w : Nat) : State :=
  if 0x40 ≤ BenchInstr.src w ∧ BenchInstr.src w ≤ 0x6F then t.observePeg b (BenchInstr.src w - 0x40) else t

theorem exec_benchBranch_issued (h : issues s b d j w 0x03)
    (hread : (fetched s b d j).windowBad b (branchBytes (BenchInstr.src w)).1 (branchBytes (BenchInstr.src w)).2 = false) :
    exec (.benchBranch b) s =
    let u := (fetched s b d j).branchObserved b w
    .next (if branchTaken (BenchInstr.mode w) (u.branchSource b j (BenchInstr.src w)) (BenchInstr.imm w) then
        u.setBench b (branchTo (u.bench b) (BenchInstr.target w))
      else u.step1 b) :=
  (live_instr h _).trans (congrArg _ (if_neg (Bool.eq_false_iff.1 hread)))

section Frames
variable {v : Bench} {f : LoopFrame} {fs : List LoopFrame} {k : Nat}

theorem branchTo_outside (h : v.loops = []) : branchTo v k = { v with pc := k } := by
  simp only [branchTo, h]

theorem branchTo_within (h : v.loops = f :: fs) (hk : k ≠ f.last + 1) : branchTo v k = { v with pc := k } := by
  simp only [branchTo, h, if_neg hk]

/-- A target behind the innermost body leaves it, and goes on as the body's end does. -/
theorem branchTo_leaves (h : v.loops = f :: fs) (hk : k = f.last + 1) :
    branchTo v k = { v with pc := (advanceFrom f.last fs).1, loops := (advanceFrom f.last fs).2 } := by
  simp only [branchTo, h, if_pos hk]

theorem advanceFrom_repeats {start pc n : Nat} (h : k + 1 < n) :
    advanceFrom pc (⟨start, pc, k, n⟩ :: fs) = (start + 1, ⟨start, pc, k + 1, n⟩ :: fs) := by
  rw [advanceFrom, if_pos rfl, if_pos h]

theorem advanceFrom_leaves (start pc n : Nat) : advanceFrom pc (⟨start, pc, n, n + 1⟩ :: fs) = advanceFrom pc fs := by
  rw [advanceFrom, if_pos rfl, if_neg (Nat.lt_irrefl _)]

theorem advanceFrom_within {pc : Nat} (h : f.last ≠ pc) : advanceFrom pc (f :: fs) = (pc + 1, f :: fs) := by
  rw [advanceFrom, if_neg h]

end Frames

/-! The peg instructions (R99, R113, R154, R161, R162) -/

section PegAdd
variable (h : issues s b d j w 0x08)
include h

theorem exec_pegAdd_issued : exec (.pegAdd b) s =
    let t := fetched s b d j
    .next (if (t.viewOf b (BenchInstr.peg w)).isSome ∧ t.movesHere b d j = true then s
      else (t.step1 b).addBenchPeg b (BenchInstr.peg w) (BenchInstr.imm w)) := live_instr h _

theorem exec_pegAdd_adds (hfree : (fetched s b d j).viewOf b (BenchInstr.peg w) = none ∨ (fetched s b d j).movesHere b d j = false) :
    exec (.pegAdd b) s = .next (((fetched s b d j).step1 b).addBenchPeg b (BenchInstr.peg w) (BenchInstr.imm w)) := by
  refine (exec_pegAdd_issued h).trans (congrArg _ (if_neg ?_))
  rintro ⟨hview, hmoves⟩
  rcases hfree with hnone | hstill
  · exact Option.isSome_iff_ne_none.1 hview hnone
  · exact Bool.eq_false_iff.1 hstill hmoves

theorem exec_pegAdd_waits (hview : ((fetched s b d j).viewOf b (BenchInstr.peg w)).isSome = true)
    (hmoves : (fetched s b d j).movesHere b d j = true) : exec (.pegAdd b) s = .next s :=
  (exec_pegAdd_issued h).trans (congrArg _ (if_pos ⟨hview, hmoves⟩))

end PegAdd

section PegWait
variable (h : issues s b d j w 0x09)
include h

/-- A bench that awaits a peg spins (R162). -/
theorem exec_pegWait_issued : exec (.pegWait b) s =
    let t := fetched s b d j
    .next (if pegMet (t.pegValue b (BenchInstr.peg w)) (BenchInstr.imm w) then (t.observePeg b (BenchInstr.peg w)).step1 b
      else (t.setBench b { t.bench b with awaits := some (BenchInstr.peg w, BenchInstr.imm w), spinSince := t.run64 (b / 64) }).enter b .spin) :=
  live_instr h _

theorem exec_pegWait_passes (hmet : pegMet ((fetched s b d j).pegValue b (BenchInstr.peg w)) (BenchInstr.imm w) = true) :
    exec (.pegWait b) s = .next (((fetched s b d j).observePeg b (BenchInstr.peg w)).step1 b) :=
  (exec_pegWait_issued h).trans (congrArg _ (if_pos hmet))

theorem pegWait_spins (hmet : pegMet ((fetched s b d j).pegValue b (BenchInstr.peg w)) (BenchInstr.imm w) = false) :
    answers (.pegWait b) s fun u => (u.bench b).run = .spin ∧ (u.bench b).awaits = some (BenchInstr.peg w, BenchInstr.imm w) ∧
      (u.bench b).spinSince = (fetched s b d j).run64 (b / 64) ∧ (u.bench b).pc = ((fetched s b d j).bench b).pc ∧
      ∀ c, c ≠ b → u.bench c = (fetched s b d j).bench c := by
  refine ⟨_, (exec_pegWait_issued h).trans (congrArg _ (if_neg (Bool.eq_false_iff.1 hmet))), ?_, ?_, ?_, ?_, fun c hc => ?_⟩
  · rw [enter_bench_self]
  · rw [enter_bench_self, bench_setBench]
  · rw [enter_bench_self, bench_setBench]
  · rw [enter_bench_self, bench_setBench]
  · rw [enter_bench_ne _ _ hc.symm, bench_setBench_ne _ _ _ hc.symm]

end PegWait

section PegSignal
variable (h : issues s b d j w 0x0A)
include h

theorem exec_pegSignal_waits (hmoves : (fetched s b d j).movesHere b d j = true) : exec (.pegSignal b) s = .next s :=
  (live_instr h _).trans (congrArg _ (if_pos hmoves))

variable (hstill : (fetched s b d j).movesHere b d j = false)
include hstill

section ToBench
variable (hmode : BenchInstr.mode w = 1)
include hmode

theorem exec_pegSignal_bench {c : Nat} (hc : j.map[BenchInstr.pegTarget w]? = some c) :
    exec (.pegSignal b) s = .next (((fetched s b d j).step1 b).addBenchPeg c (BenchInstr.peg w) (BenchInstr.imm w)) := by
  refine (live_instr h _).trans (congrArg _ ((if_neg (Bool.eq_false_iff.1 hstill)).trans ((if_pos hmode).trans ?_)))
  rw [hc]

theorem exec_pegSignal_noBench (hc : j.map[BenchInstr.pegTarget w]? = none) :
    exec (.pegSignal b) s = .next ((fetched s b d j).benchFault b 0x0C) := by
  refine (live_instr h _).trans (congrArg _ ((if_neg (Bool.eq_false_iff.1 hstill)).trans ((if_pos hmode).trans ?_)))
  rw [hc]

end ToBench

variable (hmode : BenchInstr.mode w ≠ 1)
include hmode

theorem exec_pegSignal_hub (howns : (fetched s b d j).ownsPeg d (BenchInstr.pegTarget w) = true) :
    exec (.pegSignal b) s = .next (((fetched s b d j).step1 b).addHubPeg (BenchInstr.pegTarget w) (BenchInstr.imm w)) :=
  (live_instr h _).trans (congrArg _ ((if_neg (Bool.eq_false_iff.1 hstill)).trans ((if_neg hmode).trans (if_pos howns))))

theorem exec_pegSignal_foreign (howns : (fetched s b d j).ownsPeg d (BenchInstr.pegTarget w) = false) :
    exec (.pegSignal b) s = .next ((fetched s b d j).benchFault b 0x0C) :=
  (live_instr h _).trans (congrArg _ ((if_neg (Bool.eq_false_iff.1 hstill)).trans ((if_neg hmode).trans
    (if_neg (Bool.eq_false_iff.1 howns)))))

end PegSignal
end Sys2Proof.Machine.State

open Sys2Proof Sys2Proof.Machine Sys2Proof.Claims

/-- Settles O22: each command runs the instruction that its bench issues; LOOP and BRANCH are told apart by their count and their condition,
the peg instructions by the moves that they wait for and by their target. -/
theorem benchControlInstructions : Obligations.BenchControlInstructions := by
  unfold Obligations.BenchControlInstructions
  refine ⟨fun s b d j w => ?nopEnd, ⟨fun s b d j w h => ?loop, fun s b d j w h => ?branch, fun v k => ?target, fun pc k n start fs => ?again,
    fun pc n start fs => ?done, fun pc last k n start fs => ?within⟩, fun s b d j w => ?pegs⟩
  case nopEnd =>
    exact ⟨State.exec_benchNop_issued, State.exec_benchEnd_issued, fun code => State.exec_benchNop_other, State.ended_bench _ b⟩
  case loop =>
    intro t v n r hread
    rw [State.exec_benchLoop_issued h hread]
    exact ⟨fun hn => congrArg _ (if_neg hn), fun hn => congrArg _ (if_pos hn)⟩
  case branch =>
    intro c t u taken hread
    rw [State.exec_benchBranch_issued h hread]
    exact ⟨fun hn => congrArg _ (if_neg (Bool.eq_false_iff.1 hn)), fun hn => congrArg _ (if_pos hn)⟩
  case target => exact ⟨State.branchTo_outside, fun f fs h => ⟨State.branchTo_within h, State.branchTo_leaves h⟩⟩
  case again => exact State.advanceFrom_repeats
  case done => exact State.advanceFrom_leaves start pc n
  case within => exact State.advanceFrom_within (f := ⟨start, last, k, n⟩)
  case pegs =>
    exact ⟨State.exec_pegAdd_adds, State.exec_pegAdd_waits, State.exec_pegWait_passes, State.pegWait_spins, State.exec_pegSignal_waits,
      fun h hstill => ⟨fun hmode c => State.exec_pegSignal_bench h hstill hmode, State.exec_pegSignal_noBench h hstill,
        State.exec_pegSignal_hub h hstill, State.exec_pegSignal_foreign h hstill⟩⟩
end

section
/-! Job images and jobs (R93, R114 to R119): what LOAD_JOB and RUN_JOB answer in the order of their checks, what a dispatch reads and gives, and
how a job ends. -/

namespace Sys2Proof.Machine.State
open Sys2Proof.Claims

variable {s : State} {f i : Nat} {e : Entry}

/-- An entry that may begin has its operation's effect (R339). -/
theorem live_ready {op : Nat} (h : ready s f i e op) (k : Entry → State → State) : s.live (s.runEntry f i [op] k) = .next (k e s) := by
  obtain ⟨hrun, hfind, hstage, hop, hstart, hearly⟩ := h
  rw [runEntry_ready s hfind hstage (List.mem_singleton.2 hop) hstart hearly, live_running s _ hrun]

/-! LOAD_JOB (R114) -/

/-- A LOAD_JOB that ends with a status other than OK (R353). -/
def loadFails (t : State) (f : Nat) (e : Entry) (st : Nat) : State := t.complete f e st [BitVec.ofNat 8 (e.u8 8)]

/-- A placed section that does not lie in windows of its own stack (R83). -/
def sectionsAstray (t : State) (f base : Nat) (m : Image) : Bool :=
  m.sections.any fun x => placedType x.kind && !t.coveredBy f (base + x.place) x.size fun w => w.stack == sectionStack m x

/-- The ranks that an image's SPLIT_DPA relocations name, with their module IDs at load (R86; R115, step 4). -/
def splitRanks (bs : List Byte) (members : List Nat) : List Nat :=
  (((relocsOf bs (Image.parse bs)).filter (·.kind == 2)).map fun r =>
    bits r.addend 51 44 * 256 + nth 0 members (bits r.addend 51 44)).dedup

/-- Step 6 of R114: the image is relocated and its sections placed. -/
def placeImage (t : State) (f : Nat) (e : Entry) (bs : List Byte) : State :=
  let members := t.membersOf f
  let m := Image.parse bs
  let base := e.u64 0x20
  if !relocatedOk bs base members then (t.scrambleSections f base m).loadFails f e 0x0E
  else match t.sectionBad f base m, t.placeSections f base (relocate bs m base members (relocsOf bs m)) m with
    | some p, _ => ((t.parityMet p).scrambleSections f base m).loadFails f e 0x0B
    | none, none => (t.scrambleSections f base m).loadFails f e 0x02
    | none, some u => (u.setSlot f (e.u8 8) (some ⟨m, base, splitRanks bs members⟩)).complete f e 0 (loadResult (e.u8 8) m.buildId)

theorem placeImage_placed {t u : State} {bs : List Byte} (hreloc : relocatedOk bs (e.u64 0x20) (t.membersOf f) = true)
    (hgood : t.sectionBad f (e.u64 0x20) (Image.parse bs) = none)
    (hplace : t.placeSections f (e.u64 0x20) (relocate bs (Image.parse bs) (e.u64 0x20) (t.membersOf f) (relocsOf bs (Image.parse bs)))
      (Image.parse bs) = some u) :
    t.placeImage f e bs = (u.setSlot f (e.u8 8) (some ⟨Image.parse bs, e.u64 0x20, splitRanks bs (t.membersOf f)⟩)).complete f e 0
      (loadResult (e.u8 8) (Image.parse bs).buildId) := by
  rw [placeImage, hreloc, hgood, hplace]
  rfl

section Load
variable (h : ready s f i e 0x30) (hfree : s.earlierHas f e (fun x => x.opcode == 0x31 && x.u8 8 == e.u8 8) = false)
  {b : BufRef} (hb : e.buf 0x0C = some b) {t u : State} {ps : List Piece}
include h hfree hb

theorem exec_loadJob_unresolved {st : Nat} (hres : (s.setSlot f (e.u8 8) none).resolveBuf f b (e.u64 0x18) false false = (.fail st, t)) :
    exec (.loadJob f i) s = .next (t.loadFails f e st) := by
  refine (live_ready h _).trans (congrArg _ ?_)
  simp only [runLoad, hfree, hb, hres]
  rfl

variable (hres : (s.setSlot f (e.u8 8) none).resolveBuf f b (e.u64 0x18) false false = (.ok ps, t)) (hready : t.piecesReady ps = true)
include hres hready

theorem exec_loadJob_unread (hread : t.readPieces ps = (none, u)) : exec (.loadJob f i) s = .next (u.loadFails f e 0x0B) := by
  refine (live_ready h _).trans (congrArg _ ?_)
  simp only [runLoad, hfree, hb, hres, hready, hread]
  rfl

variable {bs : List Byte} (hread : t.readPieces ps = (some bs, u))
include hread

/-- The image that has been read, in the order of its checks. -/
theorem exec_loadJob_judged : exec (.loadJob f i) s = .next (
    if !imageOk bs (e.u64 0x18) (e.u64 0x20) (u.membersOf f) then u.loadFails f e 0x0E
    else if !u.enoughBenches f (Image.parse bs) then u.loadFails f e 0x0C
    else if !u.coveredBy f (e.u64 0x20) (Image.parse bs).loadSize (fun _ => true) then u.loadFails f e 0x06
    else if u.sectionsAstray f (e.u64 0x20) (Image.parse bs) then u.loadFails f e 0x0C
    else if u.loadHeld (Image.parse bs) then s.setSlot f (e.u8 8) none
    else u.placeImage f e bs) := by
  refine (live_ready h _).trans (congrArg _ ?_)
  simp only [runLoad, hfree, hb, hres, hready, hread]
  rfl

theorem exec_loadJob_badEntry (hok : imageOk bs (e.u64 0x18) (e.u64 0x20) (u.membersOf f) = false) :
    exec (.loadJob f i) s = .next (u.loadFails f e 0x0E) := by
  rw [exec_loadJob_judged h hfree hb hres hready hread, hok]
  rfl

variable (hok : imageOk bs (e.u64 0x18) (e.u64 0x20) (u.membersOf f) = true)
include hok

theorem exec_loadJob_fewBenches (hfew : u.enoughBenches f (Image.parse bs) = false) :
    exec (.loadJob f i) s = .next (u.loadFails f e 0x0C) := by
  rw [exec_loadJob_judged h hfree hb hres hready hread, hok, hfew]
  rfl

variable (hmany : u.enoughBenches f (Image.parse bs) = true)
include hmany

theorem exec_loadJob_notResident (hout : u.coveredBy f (e.u64 0x20) (Image.parse bs).loadSize (fun _ => true) = false) :
    exec (.loadJob f i) s = .next (u.loadFails f e 0x06) := by
  rw [exec_loadJob_judged h hfree hb hres hready hread, hok, hmany, hout]
  rfl

variable (hin : u.coveredBy f (e.u64 0x20) (Image.parse bs).loadSize (fun _ => true) = true)
include hin

theorem exec_loadJob_astray (hastray : u.sectionsAstray f (e.u64 0x20) (Image.parse bs) = true) :
    exec (.loadJob f i) s = .next (u.loadFails f e 0x0C) := by
  rw [exec_loadJob_judged h hfree hb hres hready hread, hok, hmany, hin, hastray]
  rfl

theorem exec_loadJob_places (hright : u.sectionsAstray f (e.u64 0x20) (Image.parse bs) = false)
    (hheld : u.loadHeld (Image.parse bs) = false) : exec (.loadJob f i) s = .next (u.placeImage f e bs) := by
  rw [exec_loadJob_judged h hfree hb hres hready hread, hok, hmany, hin, hright, hheld]
  rfl

end Load

/-! RUN_JOB (R115) -/

/-- The job that waits for its dispatch once its checks have passed (R115, R116). -/
def checkedJob (t : State) (f : Nat) (e : Entry) (k : Slot) (args : List Byte) : Job :=
  { fid := f, entry := e.idx, slot := e.u8 8, image := k.image, loadBase := k.loadBase, argBase := e.u64 0x20, args := args
    map := [], dispatchedAt := 0, deadline := 0, work := [], nextWork := 0, ordinals := [], failure := none, stopping := false
    windows := ((residencyRanges k (e.u64 0x20) args).flatMap fun r => t.touching f r.1 r.2.1).dedup
    ranges := k.image.ranges.map fun r => { r with base := rangeBase args r }, wrote := [] }

/-- The job joins those that wait for dispatch, and its entry is under way. -/
def queueJob (t : State) (f : Nat) (e : Entry) (j : Job) : State :=
  ({ t with cmp := { t.cmp with checked := t.cmp.checked ++ [j] } }).busy f e

theorem queueJob_checked (t : State) (j : Job) : (t.queueJob f e j).cmp.checked = t.cmp.checked ++ [j] := rfl

/-- RUN_JOB whose load area and argument block lie in windows held: the residency check of the argument block as it reads (R115, steps 7 to
9). -/
def runMapped (s : State) (f : Nat) (e : Entry) (k : Slot) : State :=
  let fail := fun (t : State) st => t.complete f e st e.plainResult
  match s.windowRange f (e.u64 0x20) (argSize k.image) with
  | none => fail s 0x06
  | some ps =>
    if s.stackHeld ps then s
    else match s.windowRead f (e.u64 0x20) (argSize k.image) ps with
    | (none, t) => fail t 0x0B
    | (some args, t) =>
      let rs := residencyRanges k (e.u64 0x20) args
      if s.movesMeet f rs then s
      else if !rs.all (fun r => t.coveredBy f r.1 r.2.1 fun w => r.2.2.1 != 1 || w.writable) then fail t 0x06
      else if !rs.all (fun r => r.2.2.2 == 8 || t.coveredBy f r.1 r.2.1 fun w => w.stack == r.2.2.2) then fail t 0x0C
      else if argWord args 0 ≠ 0 then fail t 0x0C
      else t.queueJob f e (t.checkedJob f e k args)

theorem runMapped_queues {k : Slot} {ps : List Piece} {args : List Byte} {t : State}
    (hpieces : s.windowRange f (e.u64 0x20) (argSize k.image) = some ps) (hheld : s.stackHeld ps = false)
    (hread : s.windowRead f (e.u64 0x20) (argSize k.image) ps = (some args, t))
    (hstill : s.movesMeet f (residencyRanges k (e.u64 0x20) args) = false)
    (hwritable : (residencyRanges k (e.u64 0x20) args).all (fun r => t.coveredBy f r.1 r.2.1 fun w => r.2.2.1 != 1 || w.writable) = true)
    (hstack : (residencyRanges k (e.u64 0x20) args).all
      (fun r => r.2.2.2 == 8 || t.coveredBy f r.1 r.2.1 fun w => w.stack == r.2.2.2) = true)
    (hzero : argWord args 0 = 0) : s.runMapped f e k = t.queueJob f e (t.checkedJob f e k args) := by
  simp only [runMapped, hpieces, hheld, hread, hstill, hwritable, hstack, hzero]
  rfl

section Run
variable (h : ready s f i e 0x31) (hfree : s.earlierHas f e (fun x => x.opcode == 0x30 && x.u8 8 == e.u8 8) = false)
include h hfree

theorem exec_runJob_noSlot (hslot : s.slot f (e.u8 8) = none) : exec (.runJob f i) s = .next (s.complete f e 0x0C e.plainResult) := by
  refine (live_ready h _).trans (congrArg _ ?_)
  simp only [runRun, hfree, hslot]
  rfl

variable {k : Slot} (hslot : s.slot f (e.u8 8) = some k)
include hslot

theorem exec_runJob_stopped (hstop : e.stopped = true) : exec (.runJob f i) s = .next (s.complete f e 0x11 e.plainResult) := by
  refine (live_ready h _).trans (congrArg _ ?_)
  simp only [runRun, hfree, hslot, hstop]
  rfl

variable (hgo : e.stopped = false) (hroute : 1 < k.image.moduleCount → s.obj 0x2800 3 = 0)
include hgo hroute

/-- A job whose route is at rest, in the order of its checks. -/
theorem exec_runJob_routed : exec (.runJob f i) s = .next (
    if !s.runChecks f k then s.complete f e 0x0C e.plainResult
    else if !s.coveredBy f k.loadBase k.image.loadSize (fun _ => true) ∨ !s.coveredBy f (e.u64 0x20) (argSize k.image) (fun _ => true) then
      s.complete f e 0x06 e.plainResult
    else s.runMapped f e k) := by
  have hrest : ¬ (1 < k.image.moduleCount ∧ s.obj 0x2800 3 ≠ 0) := fun hbusy => hbusy.2 (hroute hbusy.1)
  refine (live_ready h _).trans (congrArg _ ?_)
  simp only [runRun, hfree, hslot, hgo, if_neg hrest]
  rfl

theorem exec_runJob_unchecked (hbad : s.runChecks f k = false) :
    exec (.runJob f i) s = .next (s.complete f e 0x0C e.plainResult) := by
  rw [exec_runJob_routed h hfree hslot hgo hroute, hbad]
  rfl

variable (hok : s.runChecks f k = true)
include hok

theorem exec_runJob_unmapped (hout : s.coveredBy f k.loadBase k.image.loadSize (fun _ => true) = false ∨
      s.coveredBy f (e.u64 0x20) (argSize k.image) (fun _ => true) = false) :
    exec (.runJob f i) s = .next (s.complete f e 0x06 e.plainResult) := by
  rw [exec_runJob_routed h hfree hslot hgo hroute, hok]
  exact congrArg _ (if_pos (hout.imp (by rw [·]; rfl) (by rw [·]; rfl)))

theorem exec_runJob_mapped (hload : s.coveredBy f k.loadBase k.image.loadSize (fun _ => true) = true)
    (hargs : s.coveredBy f (e.u64 0x20) (argSize k.image) (fun _ => true) = true) : exec (.runJob f i) s = .next (s.runMapped f e k) := by
  rw [exec_runJob_routed h hfree hslot hgo hroute, hok, hload, hargs]
  rfl

end Run

/-! Dispatch (R84, R93, R116): the argument block is read as it stands once the job has left the queue, and no read of memory asks the queue. -/

theorem windowPieces_cmp (c : ComputeState) (n dva len : Nat) :
    ({ s with cmp := c } : State).windowPieces f n dva len = s.windowPieces f n dva len := by
  induction n generalizing dva len with
  | zero => rfl
  | succ n ih =>
    simp only [windowPieces, ih]
    rfl

theorem windowRange_cmp (c : ComputeState) (dva len : Nat) :
    ({ s with cmp := c } : State).windowRange f dva len = s.windowRange f dva len := windowPieces_cmp c _ dva len

/-- The bytes of a piece as they lie in memory. -/
def pieceBytes (s : State) : Piece → List Byte
  | .dev off n => s.mem.dev.readBytes off n
  | .bus port a n => (s.busRam port).readBytes a n
  | .remote _ n => List.replicate n 0

/-- What is read of a piece: free bytes while its own are undefined (R135). -/
def pieceRead (s : State) (p : Piece) : List Byte × State := if s.pieceStale p then s.freeBytes p.len else (s.pieceBytes p, s)

theorem readPieces_cons (p : Piece) (ps : List Piece) : s.readPieces (p :: ps) =
    if s.pieceBad p then (none, s.parityMet p)
    else (((s.pieceRead p).2.readPieces ps).1.map ((s.pieceRead p).1 ++ ·), ((s.pieceRead p).2.readPieces ps).2) := by
  rw [readPieces.eq_def]
  refine ite_congr rfl (fun _ => rfl) fun _ => ?_
  have hbytes : (s.pieceRead p).1 = if s.pieceStale p then (s.freeBytes p.len).1 else s.pieceBytes p := apply_ite Prod.fst ..
  have hstate : (s.pieceRead p).2 = if s.pieceStale p then (s.freeBytes p.len).2 else s := apply_ite Prod.snd ..
  rw [hbytes, hstate]
  dsimp only
  split
  · next r t hread =>
    rw [hread]
    rfl
  · next t hread =>
    rw [hread]
    rfl

/-- A piece is read whatever the benches do, and its read only draws. -/
theorem pieceRead_cmp (c : ComputeState) (p : Piece) : ∃ n, (s.pieceRead p).2 = { s with drawn := n } ∧
    ({ s with cmp := c } : State).pieceRead p = ((s.pieceRead p).1, { s with cmp := c, drawn := n }) := by
  cases hstale : s.pieceStale p with
  | true =>
    have hsame : ({ s with cmp := c } : State).pieceStale p = true := hstale
    exact ⟨s.drawn + p.len, by rw [pieceRead, if_pos hstale]; rfl, by rw [pieceRead, pieceRead, if_pos hstale, if_pos hsame]; rfl⟩
  | false =>
    have hsame : ¬ ({ s with cmp := c } : State).pieceStale p = true := Bool.eq_false_iff.1 hstale
    have hfresh := Bool.eq_false_iff.1 hstale
    exact ⟨s.drawn, by rw [pieceRead, if_neg hfresh], by rw [pieceRead, pieceRead, if_neg hfresh, if_neg hsame]; rfl⟩

/-- What can be read of a list of pieces is read whatever the benches do, and only draws. -/
theorem readPieces_cmp (c : ComputeState) {ps : List Piece} {bs : List Byte} (hread : (s.readPieces ps).1 = some bs) :
    ∃ n, ({ s with cmp := c } : State).readPieces ps = (some bs, { s with cmp := c, drawn := n }) := by
  induction ps generalizing s bs with
  | nil =>
    obtain rfl : [] = bs := Option.some.inj hread
    exact ⟨s.drawn, rfl⟩
  | cons p ps ih =>
    rw [readPieces_cons] at hread
    by_cases hbad : s.pieceBad p = true
    · rw [if_pos hbad] at hread
      exact absurd hread (Option.some_ne_none _).symm
    · rw [if_neg hbad] at hread
      obtain ⟨r, hr, rfl⟩ := Option.map_eq_some_iff.1 hread
      obtain ⟨m, hdrawn, hpiece⟩ := pieceRead_cmp c p (s := s)
      obtain ⟨n, hrest⟩ := ih hr
      rw [hdrawn] at hrest
      refine ⟨n, ?_⟩
      rw [readPieces_cons, if_neg (show ¬ ({ s with cmp := c } : State).pieceBad p = true from hbad), hpiece]
      dsimp only
      rw [hrest]
      rfl

theorem windowRead_cmp (c : ComputeState) {dva len : Nat} {ps : List Piece} {bs : List Byte}
    (hread : (s.windowRead f dva len ps).1 = some bs) :
    ∃ n, ({ s with cmp := c } : State).windowRead f dva len ps = (some bs, { s with cmp := c, drawn := n }) := by
  by_cases hbad : s.mapBad f dva len = true
  · rw [windowRead, if_pos hbad] at hread
    exact absurd hread (Option.some_ne_none _).symm
  · rw [windowRead, if_neg hbad] at hread
    obtain ⟨n, hn⟩ := readPieces_cmp c hread
    exact ⟨n, (if_neg (show ¬ ({ s with cmp := c } : State).mapBad f dva len = true from hbad)).trans hn⟩

/-- The jobs that run, and those that wait for their dispatch (R116). -/
def queues (t : State) : Sparse (Option Job) × List Job := (t.cmp.jobs, t.cmp.checked)

/-- A request for a wake concerns the bench and its stack. -/
theorem askWake_queues (t : State) (b : Nat) : (t.askWake b).queues = t.queues := by
  unfold askWake
  dsimp only
  split <;> rfl

/-- A bench is given its part of a job, and no job changes. -/
theorem dispatchBench_queues (t : State) (d : Nat) (j : Job) (l b : Nat) : (t.dispatchBench d j l b).queues = t.queues :=
  askWake_queues _ b

/-- The job as it runs: its argument block, the drawer's benches in order, and its deadline, 10 s where the image names none (R84, R119). -/
def dispatched (s : State) (f : Nat) (j : Job) (args : List Byte) : Job :=
  { j with
    args := args, map := s.mapBenches f j.image, dispatchedAt := s.now
    deadline := s.now + (if j.image.deadline = 0 then 10000000 else j.image.deadline) * 1000000 }

/-- A bench and its logical number, given their part of the job. -/
def givePart (f : Nat) (j : Job) (t : State) (x : Nat × Nat) : State := t.dispatchBench f j x.2 x.1

/-- The job is given to its benches. -/
def giveJob (t : State) (f : Nat) (j : Job) : State := j.map.zipIdx.foldl (givePart f j) (t.setJob f (some j))

theorem givePart_queues (j : Job) (t : State) (x : Nat × Nat) : (givePart f j t x).queues = t.queues := dispatchBench_queues t f j x.2 x.1

theorem giveJob_queues (t : State) (j : Job) : (t.giveJob f j).queues = (t.setJob f (some j)).queues :=
  foldl_keep queues (givePart f j) (givePart_queues j) j.map.zipIdx (t.setJob f (some j))

theorem giveJob_job (t : State) (j : Job) : (t.giveJob f j).job f = some j :=
  (congrArg (fun q : Sparse (Option Job) × List Job => Sparse.get (fun _ => none) q.1 f) (giveJob_queues t j)).trans
    (job_setJob t f (some j))

theorem giveJob_checked (t : State) (j : Job) : (t.giveJob f j).cmp.checked = t.cmp.checked := congrArg Prod.snd (giveJob_queues t j)

section Dispatch
variable {j : Job} {ps : List Piece} {args : List Byte} (hrun : s.running = true)
  (hnext : s.cmp.checked.find? (fun x => x.fid == f) = some j) (hentry : j.entry = i) (hidle : s.job f = none)
  (hmany : s.enoughBenches f j.image = true) (hpieces : s.windowRange f j.argBase (argSize j.image) = some ps)
  (hheld : s.stackHeld ps = false) (hread : (s.windowRead f j.argBase (argSize j.image) ps).1 = some args)
include hrun hnext hentry hidle hmany hpieces hheld hread

theorem exec_jobDispatch_gives : ∃ n, exec (.jobDispatch f i) s =
    .next (({ s with cmp := { s.cmp with checked := s.cmp.checked.erase j }, drawn := n } : State).giveJob f (s.dispatched f j args)) := by
  obtain ⟨n, hn⟩ := windowRead_cmp { s.cmp with checked := s.cmp.checked.erase j } hread
  refine ⟨n, (live_running s _ hrun).trans (congrArg _ ?_)⟩
  have hfree : ¬ (j.entry ≠ i ∨ (s.job f).isSome = true) := by simp [hentry, hidle]
  have hmany' : ({ s with cmp := { s.cmp with checked := s.cmp.checked.erase j } } : State).enoughBenches f j.image = true := hmany
  have hheld' : ({ s with cmp := { s.cmp with checked := s.cmp.checked.erase j } } : State).stackHeld ps = false := hheld
  simp only [hnext, if_neg hfree, hmany', windowRange_cmp, hpieces, hheld', hn]
  rfl

/-- The oldest job that waits is dispatched. -/
theorem jobDispatch_answers : answers (.jobDispatch f i) s fun t =>
    t.job f = some (s.dispatched f j args) ∧ t.cmp.checked = s.cmp.checked.erase j := by
  obtain ⟨n, hexec⟩ := exec_jobDispatch_gives hrun hnext hentry hidle hmany hpieces hheld hread
  exact ⟨_, hexec, giveJob_job _ _, giveJob_checked _ _⟩

end Dispatch

/-! How a job ends (R118, R119) -/

theorem findPos_of_none {α : Type} {p : α → Bool} {l : List α} (h : ∀ a ∈ l, p a = false) : findPos p l = none := by
  induction l with
  | nil => rfl
  | cons a l ih =>
    rw [findPos, h a List.mem_cons_self, ih fun c hc => h c (List.mem_cons_of_mem a hc)]
    rfl

section Ends
variable {d : Nat} {j : Job} (hrun : s.running = true) (hjob : s.job d = some j)

/-- The job leaves its benches, and its RUN_JOB completes. -/
def endJob (t : State) (d : Nat) (j : Job) (st : Nat) : State := (t.clearJob d j).completeIdx j.fid j.entry st (jobResult j)

include hjob in
theorem exec_jobComplete_unfinished (hopen : j.work ≠ [] ∨ (j.failure = none ∧ s.allEnded j = false)) :
    exec (.jobComplete d) s = .next s := by
  have hkept : j.work ≠ [] ∨ (j.failure.isNone = true ∧ (!s.allEnded j) = true) :=
    hopen.imp_right (And.imp (by rw [·]; rfl) (by rw [·]; rfl))
  refine (congrArg s.live ?_).trans (live_self s)
  simp only [hjob]
  exact if_pos hkept

include hrun hjob

theorem exec_jobComplete_ended (hwork : j.work = []) (hgood : j.failure = none) (hended : s.allEnded j = true) :
    exec (.jobComplete d) s = .next (s.endJob d j 0) := by
  refine (live_running s _ hrun).trans (congrArg _ ?_)
  simp only [hjob, hwork, hgood, hended]
  rfl

/-- A failed job leaves the ranges that it wrote undefined. -/
theorem exec_jobComplete_failed {st l k : Nat} (hwork : j.work = []) (hfail : j.failure = some (st, l, k)) (hst : st ≠ 0) :
    exec (.jobComplete d) s = .next ((s.scrambleWrites d j).endJob d j st) := by
  refine (live_running s _ hrun).trans (congrArg _ ?_)
  simp only [hjob, hwork, hfail, if_neg hst]
  rfl

omit hrun in
theorem exec_jobDeadlineExpiry_early (hearly : s.now < j.deadline) : exec (.jobDeadlineExpiry d) s = .next s := by
  refine (congrArg s.live ?_).trans (live_self s)
  simp only [hjob]
  exact if_pos (.inl hearly)

variable (hdue : j.deadline ≤ s.now) (hgood : j.failure = none)
include hdue hgood

/-- At its deadline a job fails at its first bench that has not ended. -/
theorem exec_jobDeadlineExpiry_bench {l : Nat} (hl : findPos (fun b => !(s.bench b).ended) j.map = some l) :
    exec (.jobDeadlineExpiry d) s = .next (s.failJob d 0x0C l (s.bench (nth 0 j.map l)).pc) := by
  have hlate : ¬ (s.now < j.deadline ∨ j.failure.isSome = true) := by simp [hgood, hdue]
  refine (live_running s _ hrun).trans (congrArg _ ?_)
  simp only [hjob, if_neg hlate, hl]

/-- Once its benches have ended, it fails at the first transfer that is still outstanding. -/
theorem exec_jobDeadlineExpiry_work {w : JobWork} {ws : List JobWork} (hended : s.allEnded j = true) (hwork : j.work = w :: ws) :
    exec (.jobDeadlineExpiry d) s = .next (s.failJob d 0x0C w.logical w.instr) := by
  have hlate : ¬ (s.now < j.deadline ∨ j.failure.isSome = true) := by simp [hgood, hdue]
  have hnone : findPos (fun b => !(s.bench b).ended) j.map = none :=
    findPos_of_none fun b hb => congrArg not (List.all_eq_true.1 hended b hb)
  refine (live_running s _ hrun).trans (congrArg _ ?_)
  simp only [hjob, if_neg hlate, hnone, hwork]

end Ends
end Sys2Proof.Machine.State

open Sys2Proof Sys2Proof.Machine Sys2Proof.Claims

/-- Settles O19: LOAD_JOB and RUN_JOB are chains of checks; a dispatch reads the argument block with the job out of the queue, which no read of
memory asks; a job's end and its deadline are told apart by its work, its failure and its benches. -/
theorem jobsAreLoadedAndRun : Obligations.JobsAreLoadedAndRun := by
  unfold Obligations.JobsAreLoadedAndRun
  refine ⟨fun s f i e b h hfree hb => ?load, fun s f i e h hfree => ?run, fun s f i j ps hrun hnext hentry hidle hmany hpieces hheld args => ?dispatch,
    fun s d j hrun hjob => ?ends⟩
  case load =>
    intro k base s0 r1 s1 res
    refine ⟨fun st hst => State.exec_loadJob_unresolved h hfree hb (Prod.ext hst rfl), fun ps hps hready => ?_⟩
    have hres : s0.resolveBuf f b (e.u64 0x18) false false = (.ok ps, s1) := Prod.ext hps rfl
    refine ⟨fun hnone => State.exec_loadJob_unread h hfree hb hres hready (Prod.ext hnone rfl), fun bs hbs => ?_⟩
    have hread : s1.readPieces ps = (some bs, (s1.readPieces ps).2) := Prod.ext hbs rfl
    refine ⟨State.exec_loadJob_badEntry h hfree hb hres hready hread, fun hok =>
      ⟨State.exec_loadJob_fewBenches h hfree hb hres hready hread hok, fun hmany =>
        ⟨State.exec_loadJob_notResident h hfree hb hres hready hread hok hmany,
          State.exec_loadJob_astray h hfree hb hres hready hread hok hmany, fun hin hright hheld hreloc hgood s3 hplace =>
            ⟨State.splitRanks bs ((s1.readPieces ps).2.membersOf f), ?_⟩⟩⟩⟩
    rw [State.exec_loadJob_places h hfree hb hres hready hread hok hmany hin hright hheld, State.placeImage_placed hreloc hgood hplace]
    rfl
  case run =>
    refine ⟨State.exec_runJob_noSlot h hfree, fun k hslot => State.exec_runJob_stopped h hfree hslot, fun k hslot hgo hroute => ?_⟩
    refine ⟨State.exec_runJob_unchecked h hfree hslot hgo hroute, State.exec_runJob_unmapped h hfree hslot hgo hroute,
      fun ps hok hload hargs hpieces hheld args hread hstill hwritable hstack hzero => ?_⟩
    have hpair := Prod.ext (y := (some args, (s.windowRead f (e.u64 0x20) (State.argSize k.image) ps).2)) hread rfl
    refine ⟨_, (State.exec_runJob_mapped h hfree hslot hgo hroute hok hload hargs).trans
      (congrArg _ (State.runMapped_queues hpieces hheld hpair hstill hwritable hstack hzero)), _, State.queueJob_checked _ _, rfl, rfl, rfl, rfl, rfl⟩
  case dispatch => exact State.jobDispatch_answers hrun hnext hentry hidle hmany hpieces hheld
  case ends =>
    exact ⟨State.exec_jobComplete_ended hrun hjob, fun st l k => State.exec_jobComplete_failed hrun hjob, State.exec_jobComplete_unfinished hjob,
      fun l hdue hgood => State.exec_jobDeadlineExpiry_bench hrun hjob hdue hgood,
      fun w ws hdue hgood => State.exec_jobDeadlineExpiry_work hrun hjob hdue hgood, State.exec_jobDeadlineExpiry_early hjob⟩
end

section
/-! ADVISE and residency windows (R137 to R140, R143): how an entry ends that translates a range, what PIN marks, and the chain of checks of
HOLD. -/

namespace Sys2Proof.Machine.State
open Sys2Proof.Claims

variable {s : State} {f i : Nat} {e : Entry}

/-- An ADVISE entry of a command's kind has its operation's effect (R143, R339). -/
theorem live_advising {kind : Nat} (h : advising s f i e kind) (k : Entry → State → State) :
    s.live (advise f i kind k s) = .next (k e s) :=
  (live_ready h.1 _).trans (congrArg _ (if_pos h.2))

/-- How an entry ends whose range has been translated: as `done` says where every page was found, with the status of the page that was not,
or by waiting for a page that is being moved (R133, R143). -/
def rangeEnds (s : State) (f : Nat) (e : Entry) (o : Option Tr) (t done : State) : State :=
  match o with
  | none => done
  | some o => match o.ringStatus with
    | some st => t.complete f e st []
    | none => s.moveWait f e t

section Range
variable {o : Option Tr} {t done : State}

theorem rangeEnds_found (h : o = none) : s.rangeEnds f e o t done = done := by rw [h]; rfl

theorem rangeEnds_fails {x : Tr} {st : Nat} (h : o = some x) (hst : x.ringStatus = some st) :
    s.rangeEnds f e o t done = t.complete f e st [] := by
  simp only [rangeEnds, h, hst]

theorem rangeEnds_waits {x : Tr} (h : o = some x) (hst : x.ringStatus = none) : s.rangeEnds f e o t done = s.moveWait f e t := by
  simp only [rangeEnds, h, hst]

end Range

/-! The page forms -/

/-- The first byte of the first page that an entry's range touches (R143). -/
def pageBase (e : Entry) : Nat := e.u64 0x10 / 65536 * 65536

/-- The pages that an entry's range touches (R143). -/
def pagesOf (e : Entry) : Nat := pageCount (e.u64 0x10) (e.u64 0x18)

theorem exec_advisePrewalk (h : advising s f i e 0) : exec (.advisePrewalk f i) s =
    .next (s.rangeEnds f e (s.walkPages f (pagesOf e) (pageBase e)).1 (s.walkPages f (pagesOf e) (pageBase e)).2
      ((s.walkPages f (pagesOf e) (pageBase e)).2.complete f e 0 [])) := by
  refine (live_advising h _).trans (congrArg _ ?_)
  unfold pagesOf pageBase
  dsimp only
  rcases s.walkPages f (pageCount (e.u64 0x10) (e.u64 0x18)) (e.u64 0x10 / 65536 * 65536) with ⟨_ | o, t⟩ <;> rfl

/-- What a PIN comes to in a state in which every page of its range has been found (R143). -/
def pinEnds (t : State) (f : Nat) (e : Entry) : State :=
  let pins := (t.setPins f (pageBase e) (pagesOf e * 65536) true).mem.leafCache.filter (·.pinned)
  if 16384 < pins.length ∨ 1024 < (pins.filter (·.drawer == f)).length then t.complete f e 0x12 []
  else (t.setPins f (pageBase e) (pagesOf e * 65536) true).complete f e 0 []

theorem exec_advisePin (h : advising s f i e 1) : exec (.advisePin f i) s =
    .next (s.rangeEnds f e (s.walkPages f (pagesOf e) (pageBase e)).1 (s.walkPages f (pagesOf e) (pageBase e)).2
      ((s.walkPages f (pagesOf e) (pageBase e)).2.pinEnds f e)) := by
  refine (live_advising h _).trans (congrArg _ ?_)
  unfold pagesOf pageBase
  dsimp only
  rcases s.walkPages f (pageCount (e.u64 0x10) (e.u64 0x18)) (e.u64 0x10 / 65536 * 65536) with ⟨_ | o, t⟩ <;> rfl

theorem exec_adviseUnpin (h : advising s f i e 2) : exec (.adviseUnpin f i) s =
    .next ((s.setPins f (pageBase e) (pagesOf e * 65536) false).complete f e 0 []) := live_advising h _

/-- The leaves of a range carry the mark that was last set on it (R143). -/
theorem setPins_pinned {d base len : Nat} {p : Bool} {c : CachedLeaf} (hc : c ∈ (s.setPins d base len p).mem.leafCache) (hd : c.drawer = d)
    (hmeet : overlaps c.base c.size base len = true) : c.pinned = p := by
  obtain ⟨c₀, -, rfl⟩ := List.mem_map.1 hc
  by_cases hin : (c₀.drawer == d && overlaps c₀.base c₀.size base len) = true
  · simp [hin]
  · simp only [if_neg hin] at hd hmeet
    simp [hd, hmeet] at hin

/-! Windows -/

/-- What a HOLD comes to in a state in which every granule of its range has been found with its leaf (R137). -/
def holdEnds (t : State) (f : Nat) (e : Entry) (leaves : List Nat) : State :=
  let k := stackOf (dpaOffset (pteDpa (nth 0 leaves 0)))
  if leaves.any pteHost then t.complete f e 0x06 []
  else if leaves.any (fun l => stackOf (dpaOffset (pteDpa l)) != k) then t.complete f e 0x12 []
  else if e.u8 9 = 1 ∧ leaves.any (fun l => !pteW l) then t.complete f e 0x02 []
  else if 1048576 < t.mapEntries k + e.u64 0x18 / 65536 then t.complete f e 0x12 []
  else (t.addWindow f ⟨e.u64 0x10, e.u64 0x18, k, e.u8 9 == 1, leaves⟩).complete f e 0 []

/-- The granules of a HOLD's range with their leaves (R137). -/
def heldGranules (s : State) (f : Nat) (e : Entry) : (Option Tr × List Nat) × State := s.granules f (e.u64 0x18 / 65536) (e.u64 0x10) []

section Hold
variable (h : advising s f i e 3)
include h

theorem exec_adviseHold_refused
    (hno : 64 ≤ (s.windows f).length ∨ (s.windows f).any (fun w => overlaps w.base w.length (e.u64 0x10) (e.u64 0x18)) = true) :
    exec (.adviseHold f i) s = .next (s.complete f e 0x12 []) :=
  (live_advising h _).trans (congrArg _ (if_pos hno))

theorem exec_adviseHold (hfew : (s.windows f).length < 64)
    (hapart : (s.windows f).any (fun w => overlaps w.base w.length (e.u64 0x10) (e.u64 0x18)) = false) : exec (.adviseHold f i) s =
      .next (s.rangeEnds f e (s.heldGranules f e).1.1 (s.heldGranules f e).2 ((s.heldGranules f e).2.holdEnds f e (s.heldGranules f e).1.2)) := by
  refine (live_advising h _).trans (congrArg _ ((if_neg ?_).trans ?_))
  · exact not_or.2 ⟨Nat.not_le.2 hfew, Bool.eq_false_iff.1 hapart⟩
  · unfold heldGranules
    rcases s.granules f (e.u64 0x18 / 65536) (e.u64 0x10) [] with ⟨⟨_ | o, leaves⟩, t⟩ <;> rfl

end Hold

section HoldEnds
variable {t : State} {leaves : List Nat}

theorem holdEnds_host (hhost : leaves.any pteHost = true) : t.holdEnds f e leaves = t.complete f e 0x06 [] := if_pos hhost

variable (hdev : leaves.any pteHost = false)
include hdev

theorem holdEnds_stacks
    (hstack : leaves.any (fun l => stackOf (dpaOffset (pteDpa l)) != stackOf (dpaOffset (pteDpa (nth 0 leaves 0)))) = true) :
    t.holdEnds f e leaves = t.complete f e 0x12 [] := by
  simp only [holdEnds, hdev, hstack, if_pos, Bool.false_eq_true, if_false]

variable (hone : leaves.any (fun l => stackOf (dpaOffset (pteDpa l)) != stackOf (dpaOffset (pteDpa (nth 0 leaves 0)))) = false)
include hone

theorem holdEnds_readOnly (hw : e.u8 9 = 1) (hro : leaves.any (fun l => !pteW l) = true) :
    t.holdEnds f e leaves = t.complete f e 0x02 [] := by
  simp only [holdEnds, hdev, hone, hw, hro, Bool.false_eq_true, if_false, and_self, if_true]

variable (hw : e.u8 9 = 1 → leaves.any (fun l => !pteW l) = false)
include hw

theorem holdEnds_writable : t.holdEnds f e leaves =
    if 1048576 < t.mapEntries (stackOf (dpaOffset (pteDpa (nth 0 leaves 0)))) + e.u64 0x18 / 65536 then t.complete f e 0x12 []
    else (t.addWindow f ⟨e.u64 0x10, e.u64 0x18, stackOf (dpaOffset (pteDpa (nth 0 leaves 0))), e.u8 9 == 1, leaves⟩).complete f e 0 [] := by
  have hnot : ¬ (e.u8 9 = 1 ∧ leaves.any (fun l => !pteW l) = true) := fun ⟨h1, h2⟩ => by rw [hw h1] at h2; exact Bool.false_ne_true h2
  simp only [holdEnds, hdev, hone, if_neg hnot, Bool.false_eq_true, if_false]

end HoldEnds

@[simp] theorem addWindow_windows (d : Nat) (w : Window) : (s.addWindow d w).windows d = s.windows d ++ [w] := by
  unfold addWindow
  cases s.mem.dev.bad.isEmpty <;> exact Sparse.get_set_same _ _ _

section Release
variable (h : advising s f i e 4)
include h

theorem exec_adviseRelease : exec (.adviseRelease f i) s = .next (if !(s.windows f).any (·.base == e.u64 0x10) then s.complete f e 0x12 []
    else if s.windowHeld f (e.u64 0x10) then s else (s.releaseWindow f (e.u64 0x10)).complete f e 0 []) := live_advising h _

end Release

/-- No window that is left after a release begins at its base (R140). -/
theorem base_ne_of_mem_releaseWindow {d base : Nat} {w : Window} (hw : w ∈ (s.releaseWindow d base).windows d) : w.base ≠ base := by
  unfold releaseWindow at hw
  rcases hfind : (s.windows d).find? (·.base == base) with _ | v <;> rw [hfind] at hw
  · simpa using List.find?_eq_none.1 hfind w hw
  · have hleft : w ∈ (s.windows d).filter (·.base != base) := by
      simpa [dropCached, windows, setWindows] using hw
    simpa using (List.mem_filter.1 hleft).2

end Sys2Proof.Machine.State

open Sys2Proof Sys2Proof.Machine Sys2Proof.Claims

/-- Settles O14: the page forms and HOLD end as their range's translation says, and only a range that was found goes on to the limits of PIN
or the checks of HOLD. -/
theorem adviseAndWindows : Obligations.AdviseAndWindows := by
  unfold Obligations.AdviseAndWindows
  refine ⟨fun s f i e => ⟨fun h => ?prewalk, fun h => ?pin, State.exec_adviseUnpin, fun p c hc hd => State.setPins_pinned hc hd⟩,
    fun s f i e => ⟨State.exec_adviseHold_refused, fun h hfew hapart => ?hold, fun w => State.addWindow_windows f w,
      fun h hnone => ?unheld, fun h hany hfree => ?release, fun h hany hused => ?used, fun w => State.base_ne_of_mem_releaseWindow⟩⟩
  case prewalk =>
    rw [State.exec_advisePrewalk h]
    exact ⟨fun hw => congrArg _ (State.rangeEnds_found hw), fun o st hw hst => congrArg _ (State.rangeEnds_fails hw hst),
      fun o hw hst => congrArg _ (State.rangeEnds_waits hw hst)⟩
  case pin =>
    rw [State.exec_advisePin h]
    refine ⟨fun hw hall hown => congrArg _ ((State.rangeEnds_found hw).trans (if_neg ?_)),
      fun hw hpast => congrArg _ ((State.rangeEnds_found hw).trans (if_pos hpast)),
      fun o st hw hst => congrArg _ (State.rangeEnds_fails hw hst), fun o hw hst => congrArg _ (State.rangeEnds_waits hw hst)⟩
    exact not_or.2 ⟨Nat.not_lt.2 hall, Nat.not_lt.2 hown⟩
  case hold =>
    rw [State.exec_adviseHold h hfew hapart]
    refine ⟨fun o st ho hst => congrArg _ (State.rangeEnds_fails ho hst),
      fun ho hhost => congrArg _ ((State.rangeEnds_found ho).trans (State.holdEnds_host hhost)),
      fun ho hdev hstack => congrArg _ ((State.rangeEnds_found ho).trans (State.holdEnds_stacks hdev hstack)), fun ho hdev hone =>
        ⟨fun hw hro => congrArg _ ((State.rangeEnds_found ho).trans (State.holdEnds_readOnly hdev hone hw hro)), fun hw hfull => ?_,
          fun hw hfits => ?_⟩⟩
    · exact congrArg _ ((State.rangeEnds_found ho).trans ((State.holdEnds_writable hdev hone hw).trans (if_pos hfull)))
    · exact congrArg _ ((State.rangeEnds_found ho).trans ((State.holdEnds_writable hdev hone hw).trans (if_neg (Nat.not_lt.2 hfits))))
  case unheld => rw [State.exec_adviseRelease h, hnone]; rfl
  case release => rw [State.exec_adviseRelease h, hany, hfree]; rfl
  case used => rw [State.exec_adviseRelease h, hany, hused]; rfl
end

section
/-! Page moves and INVALIDATE (R134, R138, R141, R142): what a move's command comes to with its page in progress, and what it comes to at the
next page. -/

namespace Sys2Proof.Machine.State
open Sys2Proof.Claims

variable {s t u : State} {f i : Nat} {e : Entry} {evict : Bool}

/-- The command that moves the pages of an entry. -/
def moveCommand (evict : Bool) (f i : Nat) : Instr := if evict then Instr.adviseEvict f i else Instr.prefetch f i

/-- PREFETCH and EVICT take the same step (R141). -/
theorem exec_moveCommand (h : if evict then advising s f i e 5 else ready s f i e 0x28) :
    exec (moveCommand evict f i) s = .next (s.stepMove f e evict) := by
  cases evict
  · exact live_ready h _
  · exact (live_ready h.1 _).trans (congrArg _ (if_pos h.2))

/-- The RESULT of a move without a failing page (R353). -/
theorem moveResult_zero : moveResult 0 = List.replicate 16 0 := by decide

/-! The page in progress -/

section Progress
variable {m : PageMove}

theorem finishMove_of_movePiece_none (h : s.movePiece m = none) : ∃ t, s.finishMove m = some (t, 0x02) := by
  simp only [finishMove, h, Option.some.injEq, Prod.mk.injEq, and_true, exists_eq']

/-- A move whose pieces can be reached, with nothing in flight or held on its page, ends its page (R141, step 4). -/
theorem finishMove_ends {dst : Piece} (hdst : s.movePiece m = some dst) (hready : s.piecesReady (m.src ++ [dst]) = true)
    (hp0 : m.port = 0 → s.ring.p0.up = true) (hflight : s.inFlight m.src = false) (hheld : s.breaksHeld m = false) :
    ∃ t st, s.finishMove m = some (t, st) := by
  have hgo : ¬ ((!s.piecesReady (m.src ++ [dst])) = true ∨ (m.port = 0 ∧ (!s.ring.p0.up) = true) ∨ s.inFlight m.src = true ∨ s.breaksHeld m = true) := by
    rw [hready, hflight, hheld]
    simpa using hp0
  simp only [finishMove, hdst, if_neg hgo]
  rcases s.readPieces m.src with ⟨_ | bs, s1⟩
  · exact ⟨_, _, rfl⟩
  · dsimp only
    split_ifs <;> exact ⟨_, _, rfl⟩

variable (hm : s.mem.moves.find? (fun m => m.drawer == f && m.entry == e.idx) = some m)
include hm

theorem stepMove_waits (h : s.finishMove m = none) : s.stepMove f e evict = s := by simp only [stepMove, hm, h]

theorem stepMove_passes (h : s.finishMove m = some (t, 0)) : s.stepMove f e evict =
    if e.u64 0x18 ≤ e.step + m.size then t.complete f e 0 (moveResult 0)
    else t.setEntry f { e with step := e.step + m.size, stage := .ready } := by
  simp only [stepMove, hm, h]

theorem stepMove_fails {st : Nat} (h : s.finishMove m = some (t, st)) (hst : st ≠ 0) : s.stepMove f e evict = t.moveFails f e evict st m.base := by
  simp only [stepMove, hm, h]

end Progress

/-! The next page -/

section Next
variable (hnone : s.mem.moves.find? (fun m => m.drawer == f && m.entry == e.idx) = none)
include hnone

theorem stepMove_goesOn (hstep : e.step ≠ 0) : s.stepMove f e evict = s.startMove f e evict := by simp only [stepMove, hnone, if_pos hstep]

/-- How the leaves of an entry's range lie to its destination (R141). -/
def entryFits (s : State) (f : Nat) (e : Entry) : Option Bool × State :=
  s.moveFits f (e.u64 0x10) (e.u64 0x18) (e.u64 0x20) (e.u64 0x18 / 65536 + 1) 0

variable (hstep : e.step = 0)
include hstep

theorem stepMove_firstWaits (hfits : s.entryFits f e = (none, t)) : s.stepMove f e evict = s := by
  rw [entryFits] at hfits
  simp only [stepMove, hnone, hstep, hfits, ne_eq, not_true_eq_false, if_false]

theorem stepMove_first {fits : Bool} (hfits : s.entryFits f e = (some fits, t)) : s.stepMove f e evict =
    if fits && t.moveDestOk f e evict then t.startMove f e evict else t.complete f e 0x0E (moveResult 0) := by
  rw [entryFits] at hfits
  simp only [stepMove, hnone, hstep, hfits, ne_eq, not_true_eq_false, if_false]

end Next

/-- The page that an entry moves next. -/
def nextDva (e : Entry) : Nat := e.u64 0x10 + e.step

/-- How a page's translation is found: a page in a held window is walked to without its leaf being learnt (R138). -/
def findPage (u : State) (f dva : Nat) : Walk × State := if (u.windowLeaf f dva).isSome then u.walk f dva else u.walkLeaf f dva

/-- The move of an entry's next page, as the leaf found for it gives it. -/
def moveOf (t : State) (f : Nat) (e : Entry) (evict : Bool) (h : Hit) : PageMove :=
  ⟨f, nextDva e, levelSpan h.level, h.leaf, h.port, h.addr, (t.pageSource f (nextDva e) (levelSpan h.level) h.leaf).1,
    (t.pageSource f (nextDva e) (levelSpan h.level) h.leaf).2, evict, e.u32 0x28, e.u64 0x20 + e.step, .dev 0 0, e.idx, []⟩

/-- The bytes that a leaf leads to lie in this device or behind a port. -/
def reachesBytes : Tr → Bool
  | .device _ | .bus _ _ => true
  | _ => false

/-- What becomes of a page that can be moved: it lies at its destination already, waits for what holds it, begins its move, or fails for its
destination (R141, steps 1 to 3). -/
def beginMove (u t : State) (f : Nat) (e : Entry) (evict : Bool) (m : PageMove) : State :=
  if t.atDest m then (if e.u64 0x18 ≤ e.step + m.size then t.complete f e 0 (moveResult 0) else t.setEntry f { e with step := e.step + m.size })
  else if (t.touching f m.base m.size).any (fun w => t.windowHeld f w) ∨ t.handHolds f m.src then u
  else match t.moveDest f e evict e.step m.size with
    | some p => { t with mem := { t.mem with moves := t.mem.moves ++ [{ m with dst := p }] } }
    | none => t.moveFails f e evict 0x02 m.base

theorem findPage_eq (u : State) (f dva : Nat) :
    (if (!(u.windowLeaf f dva).isNone) = true then u.walk f dva else u.walkLeaf f dva) = u.findPage f dva := by
  rw [findPage, Option.not_isNone]

section Start
variable {x : Tr}

theorem startMove_fails {st : Nat} (hpage : u.findPage f (nextDva e) = (.stop x, t)) (hst : x.ringStatus = some st) :
    u.startMove f e evict = t.moveFails f e evict st (nextDva e) := by
  rw [← findPage_eq, nextDva] at hpage
  simp only [startMove, hpage, hst, nextDva]

theorem startMove_waits (hpage : u.findPage f (nextDva e) = (.stop x, t)) (hst : x.ringStatus = none) : u.startMove f e evict = u := by
  rw [← findPage_eq, nextDva] at hpage
  simp only [startMove, hpage, hst]

variable {h : Hit} (hpage : u.findPage f (nextDva e) = (.hit h, t))
  (hfound : (u.windowLeaf f (nextDva e)).isSome = true ∨
    reachesBytes (t.throughLeaf f (nextDva e) (nextDva e) (levelSpan h.level) h.leaf false false) = true)
  (hmap : t.mapBad f (nextDva e) (levelSpan h.level) = false)
  (howned : ∀ off n, Piece.dev off n ∈ (t.moveOf f e evict h).src → t.chunksOwned f off n = true)
  (hfree : t.mem.moves.any (fun x => x.drawer == f && overlaps x.base x.size (nextDva e) (levelSpan h.level)) = false)
include hpage hfound hmap howned hfree

/-- A page whose bytes are found, that is the drawer's and that no other move has, goes on to what holds it (R141, R148). -/
theorem startMove_begins : u.startMove f e evict = u.beginMove t f e evict (t.moveOf f e evict h) := by
  have hall : ¬ (!(t.moveOf f e evict h).src.all (fun p => match p with
      | .dev off n => t.chunksOwned f off n
      | _ => true)) = true := by
    rw [Bool.not_eq_true', Bool.not_eq_false, List.all_eq_true]
    rintro (⟨off, n⟩ | _ | _) hp
    · exact howned off n hp
    all_goals rfl
  rw [← findPage_eq, nextDva] at hpage
  simp only [nextDva] at hfound hmap hfree
  simp only [startMove, hpage, hmap, hfree, Bool.false_eq_true, if_false]
  rcases hwin : u.windowLeaf f (e.u64 0x10 + e.step) with _ | w
  · rcases hx : t.throughLeaf f (e.u64 0x10 + e.step) (e.u64 0x10 + e.step) (levelSpan h.level) h.leaf false false
    case device => exact if_neg hall
    case bus => exact if_neg hall
    all_goals simp [hwin, hx, reachesBytes] at hfound
  · exact if_neg hall

end Start

section Begin
variable {m : PageMove}

theorem beginMove_atDest (hat : t.atDest m = true) : u.beginMove t f e evict m =
    if e.u64 0x18 ≤ e.step + m.size then t.complete f e 0 (moveResult 0) else t.setEntry f { e with step := e.step + m.size } := by
  rw [beginMove, if_pos hat]

variable (hat : t.atDest m = false) (hwin : (t.touching f m.base m.size).any (fun w => t.windowHeld f w) = false)
  (hhand : t.handHolds f m.src = false)
include hat hwin hhand

theorem beginMove_starts {d : Piece} (hdest : t.moveDest f e evict e.step m.size = some d) : u.beginMove t f e evict m =
    { t with mem := { t.mem with moves := t.mem.moves ++ [{ m with dst := d }] } } := by
  simp only [beginMove, hat, hwin, hhand, hdest, Bool.false_eq_true, or_self, if_false]

theorem beginMove_fails (hdest : t.moveDest f e evict e.step m.size = none) : u.beginMove t f e evict m = t.moveFails f e evict 0x02 m.base := by
  simp only [beginMove, hat, hwin, hhand, hdest, Bool.false_eq_true, or_self, if_false]

end Begin

/-! Reading the tables leaves the regions and this module's ID alone -/

/-- What says where a destination lies: the region table, and the values in force of the ledger. -/
def destBase (s : State) : Sparse Region × Sparse Nat := (s.mem.regions, s.led.force)

theorem destBase_count (a b n : Nat) : (s.count a b n).destBase = s.destBase := by
  rw [count_eq]; split <;> rfl

theorem destBase_raiseSource (k : Nat) : (s.raiseSource k).destBase = s.destBase :=
  (congrArg destBase (raiseSource_frame s k) :)

theorem destBase_walkFrom (d dva lv reg off : Nat) (via : List Nat) : (s.walkFrom d dva lv reg off via).2.destBase = s.destBase := by
  induction lv generalizing s reg off via with
  | zero =>
    rw [walkFrom.eq_def]
    dsimp only
    repeat' split
    all_goals simp only [destBase_count, destBase_raiseSource]
  | succ l ih =>
    rw [walkFrom.eq_def]
    dsimp only
    repeat' split
    all_goals simp only [ih, destBase_count, destBase_raiseSource]
    exact destBase_count _ _ _

theorem destBase_walk (d dva : Nat) : (s.walk d dva).2.destBase = s.destBase := by
  unfold walk
  split
  · rfl
  · exact destBase_walkFrom _ _ _ _ _ _

theorem destBase_moveFits (d base len dest fuel off : Nat) : (s.moveFits d base len dest fuel off).2.destBase = s.destBase := by
  induction fuel generalizing s off with
  | zero => rfl
  | succ n ih =>
    have hwalk : (s.walk d (base + off)).2.destBase = s.destBase := destBase_walk _ _
    rw [moveFits]
    split
    · rfl
    · rcases hw : s.walk d (base + off) with ⟨x, t⟩
      rw [hw] at hwalk
      rcases x with h | x
      · dsimp only
        split
        · exact (ih _).trans hwalk
        · exact hwalk
      · cases x
        case wait => exact hwalk
        all_goals exact (ih _).trans hwalk

theorem moveDestOk_of_destBase (h : t.destBase = s.destBase) : t.moveDestOk f e evict = s.moveDestOk f e evict := by
  have hregion : t.region = s.region := congrArg (fun b : Sparse Region × Sparse Nat => fun r => Sparse.get (fun _ => Region.none) b.1 r) h
  have hmodule : t.moduleId = s.moduleId := congrArg (fun b : Sparse Region × Sparse Nat => Sparse.get objDefault b.2 (objKey 0x2800 1 0)) h
  unfold moveDestOk
  rw [hregion, hmodule]

/-! INVALIDATE (R134) -/

section Invalidate
variable (h : ready s f i e 0x2A)

/-- The first byte of an INVALIDATE's range, and how many: the whole space where its KIND is 1. -/
def invalidBase (e : Entry) : Nat := if e.u8 8 = 1 then 0 else e.u64 0x10
def invalidLen (e : Entry) : Nat := if e.u8 8 = 1 then 2 ^ 48 else e.u64 0x18

/-- The cached translations of an INVALIDATE's range removed. -/
def uncached (s : State) (f : Nat) (e : Entry) : State :=
  if e.u8 8 = 1 then s.dropDrawer f else s.dropCached f (invalidBase e) (invalidLen e)

/-- What an INVALIDATE comes to with the accesses it watches. -/
def invalidateEnds (t : State) (f : Nat) (e : Entry) (watch : List Piece) : State :=
  if t.watched watch then t.setEntry f { e with step := 1, watch := watch }
  else ((t.dropStale f (invalidBase e) (invalidLen e)).count 0x5308 4 1).complete f e 0 []

theorem watched_nil (t : State) : t.watched [] = false := by simp [watched]

include h

theorem exec_invalidate_first (hstep : e.step = 0) : exec (.invalidate f i) s =
    .next ((s.uncached f e).invalidateEnds f e (s.rangeFlights f (invalidBase e) (invalidLen e))) := by
  refine (live_ready h _).trans (congrArg _ ?_)
  simp only [hstep, if_true]
  rfl

theorem exec_invalidate_again (hstep : e.step ≠ 0) : exec (.invalidate f i) s = .next (s.invalidateEnds f e e.watch) := by
  refine (live_ready h _).trans (congrArg _ ?_)
  simp only [hstep, if_false]
  rfl

end Invalidate

theorem drawer_ne_of_mem_dropDrawer {d : Nat} {c : CachedLeaf} (hc : c ∈ (s.dropDrawer d).mem.leafCache) : c.drawer ≠ d := by
  simpa using (List.mem_filter.1 hc).2

theorem apart_of_mem_dropCached {d base len : Nat} {c : CachedLeaf} (hc : c ∈ (s.dropCached d base len).mem.leafCache)
    (hd : c.drawer = d) : overlaps c.base c.size base len = false := by
  simpa [hd] using (List.mem_filter.1 hc).2

end Sys2Proof.Machine.State

open Sys2Proof Sys2Proof.Machine Sys2Proof.Claims

/-- Settles O15: a move's command takes one step of its entry, whose branches are the page in progress, the first page and a later one; an
INVALIDATE ends once nothing that it watches is in flight. -/
theorem pageMovesAndInvalidation : Obligations.PageMovesAndInvalidation := by
  unfold Obligations.PageMovesAndInvalidation
  refine ⟨fun s f i e evict h => ?moves, fun s f i e h => ?invalidate⟩
  case moves =>
    intro c dest len dva ends passed
    have hexec : exec c s = .next (s.stepMove f e evict) := State.exec_moveCommand h
    rw [hexec]
    refine ⟨fun m hm => ?progress, fun hnone => ?next⟩
    case progress =>
      refine ⟨fun t ht => congrArg _ (State.stepMove_passes hm ht), fun t st ht hst => congrArg _ (State.stepMove_fails hm ht hst),
        fun hw => congrArg _ (State.stepMove_waits hm hw), State.finishMove_of_movePiece_none,
        fun dst hdst hready hp0 hflight hheld => State.finishMove_ends hdst hready hp0 hflight hheld⟩
    case next =>
      intro g lies fits
      have hlies : fits.2.moveDestOk f e evict = lies := State.moveDestOk_of_destBase (State.destBase_moveFits ..)
      refine ⟨fun ok hstep hok hno => ?_, fun hstep hw => congrArg _ (State.stepMove_firstWaits hnone hstep (Prod.ext hw rfl)), fun u hu => ?begins⟩
      · rw [State.stepMove_first (t := fits.2) hnone hstep (Prod.ext hok rfl), hlies, hno]
        rfl
      case begins =>
        have hstart : s.stepMove f e evict = u.startMove f e evict := by
          rcases hu with ⟨hstep, rfl⟩ | ⟨hstep, hfits, hl⟩
          · exact State.stepMove_goesOn hnone hstep
          · rw [hfits] at hlies
            rw [State.stepMove_first hnone hstep hfits, hlies, hl]
            rfl
        rw [hstart]
        intro w
        refine ⟨fun t st hw hst => congrArg _ (State.startMove_fails (Prod.ext hw rfl) hst),
          fun t hw hst => congrArg _ (State.startMove_waits (Prod.ext hw rfl) hst), fun h hw => ?_⟩
        intro size src m found hfound hmap howned hfree
        have hbegin : u.startMove f e evict = u.beginMove w.2 f e evict m :=
          State.startMove_begins (Prod.ext hw rfl) (Bool.or_eq_true_iff.1 hfound) hmap howned hfree
        rw [hbegin]
        refine ⟨fun hat hlast => ?_, fun hat hmore => ?_, fun hat hwin hhand =>
          ⟨fun d hd => congrArg _ (State.beginMove_starts hat hwin hhand hd), fun hd => congrArg _ (State.beginMove_fails hat hwin hhand hd)⟩⟩
        · exact congrArg _ ((State.beginMove_atDest hat).trans (if_pos hlast))
        · exact congrArg _ ((State.beginMove_atDest hat).trans (if_neg (Nat.not_le.2 hmore)))
  case invalidate =>
    intro base len t
    refine ⟨fun hstep hnone => ?_, fun hstep hw => ?_, fun hstep hw => ?_, fun hstep hw => ?_, fun c => State.drawer_ne_of_mem_dropDrawer,
      fun c => State.apart_of_mem_dropCached⟩
    · rw [State.exec_invalidate_first h hstep]
      exact congrArg _ (if_neg (by rw [show s.rangeFlights f (State.invalidBase e) (State.invalidLen e) = [] from hnone, State.watched_nil]; decide))
    · rw [State.exec_invalidate_first h hstep]
      exact congrArg _ (if_pos hw)
    · rw [State.exec_invalidate_again h hstep]
      exact congrArg _ (if_neg (by rw [hw]; decide))
    · rw [State.exec_invalidate_again h hstep]
      exact congrArg _ (if_pos hw)
end

section
/-! COPY inside the module and patrol scrub (R147, R343): the chain of checks of a COPY whose buffers are found, and what scrub notes of a
unit. -/

namespace Sys2Proof.Machine.State
open Sys2Proof.Claims

variable {s t u r : State} {f i : Nat} {e : Entry} {sb db : BufRef} {src dst : List Piece}

/-! Transfers of pieces that all lie here -/

theorem hasRemote_cons (p : Piece) (ps : List Piece) (h : hasRemote (p :: ps) = false) : (∀ a n, p ≠ .remote a n) ∧ hasRemote ps = false := by
  cases p <;> simp_all [hasRemote]

theorem remoteReads_of_here (sub : List Piece → Nat → Nat → List Piece) (k : Nat) (h : hasRemote src = false) (off : Nat) :
    remoteReads f k dst sub src off = [] := by
  induction src generalizing off with
  | nil => rfl
  | cons p ps ih =>
    obtain ⟨hp, hps⟩ := hasRemote_cons p ps h
    cases p with
    | remote a n => exact absurd rfl (hp a n)
    | _ => exact ih hps _

theorem remoteRuns_of_here (k : Nat) (bs : List Byte) (h : hasRemote dst = false) (off : Nat) : remoteRuns f k bs dst off = [] := by
  induction dst generalizing off with
  | nil => rfl
  | cons p ps ih =>
    obtain ⟨hp, hps⟩ := hasRemote_cons p ps h
    cases p with
    | remote a n => exact absurd rfl (hp a n)
    | _ => exact ih hps _

/-! COPY -/

/-- The bytes that a COPY carries of those it has read: free ones where its buffers share a byte (R343). -/
def carried (r : State) (src dst : List Piece) (got : List Byte) : List Byte × State :=
  if piecesMeet src dst then r.freeBytes got.length else (got, r)

/-- The part of a COPY's destination that lies here, written. -/
def placedHere (r : State) (f : Nat) (src dst : List Piece) (got : List Byte) : State :=
  ((r.carried src dst got).2.writePieces f dst (r.carried src dst got).1).race dst

/-- The transfers of a COPY over Derone: its reads, and its writes (R183, R188). -/
def copyReads (f : Nat) (e : Entry) (src dst : List Piece) : List Xfer := remoteReads f e.idx dst subPieces src 0
def copyWrites (r : State) (f : Nat) (e : Entry) (src dst : List Piece) (got : List Byte) : List Xfer :=
  remoteRuns f e.idx (r.carried src dst got).1 dst 0

/-- A buffer's last byte lies on another module. -/
def endsAway (dst : List Piece) : Bool :=
  match dst.getLast? with
  | some (.remote _ _) => true
  | _ => false

/-- What a COPY comes to with the bytes it has read (R343). -/
def copyCarries (r : State) (f : Nat) (e : Entry) (src dst : List Piece) (got : List Byte) : State :=
  let reads := copyReads f e src dst
  let writes := r.copyWrites f e src dst got
  let hold := e.sig && endsAway dst
  if reads.isEmpty && writes.isEmpty then (r.placedHere f src dst got).copyPlaced f e.idx dst false
  else ((r.placedHere f src dst got).busy f e).startOp
    { fid := f, idx := e.idx, todo := reads ++ (if hold then writes.dropLast else writes),
      final := if hold then writes.getLast?.map (fun x => { x with sig := some e.sigPeg }) else none,
      outstanding := 0, status := 0, dest := dst, mixed := piecesMeet src dst }

/-- What a COPY comes to once its buffers have passed their checks. -/
def copyRuns (u : State) (f : Nat) (e : Entry) (src dst : List Piece) : State :=
  match u.readPieces src with
  | (none, r) => r.copyFailed f e.idx 0x0B dst
  | (some got, r) => r.copyCarries f e src dst got

section Carries
variable {got : List Byte}

theorem copyRuns_parity (hread : (u.readPieces src).1 = none) : u.copyRuns f e src dst = (u.readPieces src).2.copyFailed f e.idx 0x0B dst := by
  rw [copyRuns, show u.readPieces src = (none, (u.readPieces src).2) from Prod.ext hread rfl]

theorem copyRuns_carries (hread : (u.readPieces src).1 = some got) : u.copyRuns f e src dst = (u.readPieces src).2.copyCarries f e src dst got := by
  rw [copyRuns, show u.readPieces src = (some got, (u.readPieces src).2) from Prod.ext hread rfl]

theorem copyCarries_here (hsrc : hasRemote src = false) (hdst : hasRemote dst = false) :
    r.copyCarries f e src dst got = (r.placedHere f src dst got).copyPlaced f e.idx dst false := by
  simp only [copyCarries, copyReads, copyWrites, remoteReads_of_here _ _ hsrc, remoteRuns_of_here _ _ hdst, List.isEmpty_nil, Bool.and_self, if_true]

theorem copyCarries_away (hsig : e.sig = false) (hany : copyReads f e src dst ++ r.copyWrites f e src dst got ≠ []) :
    r.copyCarries f e src dst got = ((r.placedHere f src dst got).busy f e).startOp
      { fid := f, idx := e.idx, todo := copyReads f e src dst ++ r.copyWrites f e src dst got, final := none, outstanding := 0, status := 0,
        dest := dst, mixed := piecesMeet src dst } := by
  have hsome : ¬ ((copyReads f e src dst).isEmpty && (r.copyWrites f e src dst got).isEmpty) = true := by
    rw [Bool.and_eq_true, List.isEmpty_iff, List.isEmpty_iff]
    exact fun ⟨hr, hw⟩ => hany (by rw [hr, hw]; rfl)
  simp only [copyCarries, if_neg hsome, hsig, Bool.false_and, Bool.false_eq_true, if_false]

end Carries

section Copy
variable (h : ready s f i e 0x02) (hsb : e.buf 0x08 = some sb) (hdb : e.buf 0x14 = some db)
include h hsb hdb

theorem exec_copy_noSource {st : Nat} (hsrc : s.resolveBuf f sb (e.u64 0x20) false true = (.fail st, t)) :
    exec (.copy f i) s = .next (t.copyFailed f e.idx st (t.copyDest f e)) := by
  refine (live_ready h _).trans (congrArg _ ?_)
  simp only [runCopy, hsb, hdb, hsrc]

variable (hsrc : s.resolveBuf f sb (e.u64 0x20) false true = (.ok src, t))
include hsrc

theorem exec_copy_noDestination {st : Nat} (hdst : t.resolveBuf f db (e.u64 0x20) true true = (.fail st, u)) :
    exec (.copy f i) s = .next (u.copyFailed f e.idx st (u.copyDest f e)) := by
  refine (live_ready h _).trans (congrArg _ ?_)
  simp only [runCopy, hsb, hdb, hsrc, hdst]

variable (hdst : t.resolveBuf f db (e.u64 0x20) true true = (.ok dst, u))
include hdst

theorem exec_copy_bothRemote (hsr : hasRemote src = true) (hdr : hasRemote dst = true) :
    exec (.copy f i) s = .next (u.copyFailed f e.idx 0x0E dst) := by
  refine (live_ready h _).trans (congrArg _ ?_)
  simp only [runCopy, hsb, hdb, hsrc, hdst, hsr, hdr, Bool.and_self, if_true]

variable (hone : (hasRemote src && hasRemote dst) = false) (hroute : (hasRemote src || hasRemote dst) = true → u.obj 0x2800 3 = 0)
  (hready : u.piecesReady (src ++ dst) = true)
include hone hroute hready

theorem exec_copy_foreignPeg (hsig : e.sig = true) (hlast : ∀ a n, dst.getLast? ≠ some (.remote a n)) (hpeg : u.ownsPeg f e.sigPeg = false) :
    exec (.copy f i) s = .next (u.copyFailed f e.idx 0x12 dst) := by
  have hgo : ((hasRemote src || hasRemote dst) && u.obj 0x2800 3 != 0) = false := by simpa using hroute
  refine (live_ready h _).trans (congrArg _ ?_)
  simp only [runCopy, hsb, hdb, hsrc, hdst, hone, hgo, hready, Bool.not_true, Bool.false_eq_true, if_false]
  refine if_pos ?_
  rcases hl : dst.getLast? with _ | (_ | _ | ⟨a, n⟩)
  case some.remote => exact absurd hl (hlast a n)
  all_goals simp [hsig, hpeg]

variable (hpeg : e.sig = true → (∃ a n, dst.getLast? = some (.remote a n)) ∨ u.ownsPeg f e.sigPeg = true)
  (hbus : ∀ p a n, Piece.bus p a n ∈ dst → u.busOk p = true)
include hpeg hbus

theorem exec_copy_runs : exec (.copy f i) s = .next (u.copyRuns f e src dst) := by
  have hgo : ((hasRemote src || hasRemote dst) && u.obj 0x2800 3 != 0) = false := by simpa using hroute
  refine (live_ready h _).trans (congrArg _ ?_)
  simp only [runCopy, hsb, hdb, hsrc, hdst, hone, hgo, hready, Bool.not_true, Bool.false_eq_true, if_false]
  refine (if_neg ?_).trans ((if_neg ?_).trans ?_)
  · cases hsig : e.sig
    · simp
    · rcases hpeg hsig with ⟨a, n, hl⟩ | hown
      · simp [hl]
      · simp [hown]
  · rw [List.any_eq_true]
    rintro ⟨_ | ⟨p, a, n⟩ | _, hp, hbad⟩
    · cases hbad
    · simp [hbus p a n hp] at hbad
    · cases hbad
  · unfold copyRuns
    rcases u.readPieces src with ⟨_ | got, r⟩ <;> rfl

end Copy
/-! Patrol scrub (R147) -/

/-- The units of populated memory, and the local offset of the next to be read. -/
def scrubUnits : Nat := 6144 * 2 ^ 20
def scrubNext (s : State) : Nat := scrubOffset (s.mem.scrubPos % scrubUnits)

/-- Scrub has passed a unit: its place moves on, and a pass that ends with the last unit is counted. -/
def scrubMoved (s : State) : State :=
  let p := s.mem.scrubPos % scrubUnits
  let t : State := { s with mem := { s.mem with scrubPos := (p + 1) % scrubUnits } }
  if p + 1 = scrubUnits then t.setObj 0x2A08 2 0 ((s.obj 0x2A08 2 + 1) % 2 ^ 32) else t

/-- Scrub has met a unit with bad parity: its DPA is logged, it is counted, and STACK_DATA is raised (R147). -/
def scrubBad (t : State) (off : Nat) : State :=
  ((t.setObj 0x2A08 3 0 (t.moduleId * 2 ^ 44 + off)).count (0x5300 + stackOf off) 3 1).raiseSource 7

/-- Scrub has met a unit with good parity, corrected or not (R147). -/
def scrubGood (t : State) (off : Nat) (c : Bool) : State := if c then t.count (0x5300 + stackOf off) 1 1 else t

section Moved

theorem scrubMoved_mem : s.scrubMoved.mem = { s.mem with scrubPos := (s.mem.scrubPos % scrubUnits + 1) % scrubUnits } := by
  unfold scrubMoved; dsimp only; split <;> rfl

theorem scrubMoved_ctrs : s.scrubMoved.led.ctrs = s.led.ctrs := by unfold scrubMoved; dsimp only; split <;> rfl
theorem scrubMoved_flt : s.scrubMoved.flt = s.flt := by unfold scrubMoved; dsimp only; split <;> rfl
theorem scrubMoved_stack (k : Nat) : s.scrubMoved.stack k = s.stack k := by unfold scrubMoved; dsimp only; split <;> rfl
theorem scrubMoved_moduleId : s.scrubMoved.moduleId = s.moduleId := by unfold scrubMoved; dsimp only; split <;> rfl

theorem scrubMoved_ctr (a b : Nat) : s.scrubMoved.ctr a b = s.ctr a b := congrArg (fun c => Sparse.num c (objKey a b 0)) scrubMoved_ctrs

theorem scrubMoved_line (k : Nat) : s.scrubMoved.line k = s.line k :=
  congrArg (fun x : FaultState => Sparse.get (fun _ => FaultLine.down) x.lines k) scrubMoved_flt

/-- The passes that scrub has made. -/
theorem scrubMoved_passes : s.scrubMoved.obj 0x2A08 2 =
    if s.mem.scrubPos % scrubUnits + 1 = scrubUnits then (s.obj 0x2A08 2 + 1) % 2 ^ 32 else s.obj 0x2A08 2 := by
  unfold scrubMoved
  dsimp only
  split
  · exact obj_setObj _ 0x2A08 2 0 _
  · rfl

end Moved

theorem raiseSource_mem (k : Nat) : (s.raiseSource k).mem = s.mem := (congrArg State.mem (raiseSource_frame s k) :)

theorem raiseSource_obj (k a b n : Nat) : (s.raiseSource k).obj a b n = s.obj a b n :=
  (congrArg (fun u : State => u.obj a b n) (raiseSource_frame s k) :)

/-- Raising a source counts nothing but merges on its own record. -/
theorem raiseSource_ctr {k a b : Nat} (ha : a ≠ sourceIndex k) (hb : b < 256) : (s.raiseSource k).ctr a b = s.ctr a b := by
  have hkey : objKey (sourceIndex k) 6 0 ≠ objKey a b 0 := objKey_ne (by decide) hb (by decide) (by decide) (.inl (Ne.symm ha))
  unfold raiseSource
  dsimp only
  split
  · rfl
  · split
    · rfl
    · split
      · exact ctr_count_ne s _ _ _ hkey
      · split
        · split
          · exact ctr_count_ne s _ _ _ hkey
          · rfl
        · rfl

section Scrub
variable {c : Bool} (hrun : s.running = true)
include hrun

theorem exec_scrubAccess : exec (.scrubAccess c) s = .next (
    if !(s.stack (stackOf s.scrubNext)).up ∨ (s.stack (stackOf s.scrubNext)).lost then s.scrubMoved
    else if s.scrubMoved.mem.dev.hasBad s.scrubNext 64 then s.scrubMoved.scrubBad s.scrubNext
    else if c then s.scrubMoved.count (0x5300 + stackOf s.scrubNext) 1 1 else s.scrubMoved) := live_running s _ hrun

theorem exec_scrubAccess_passed (hoff : (s.stack (stackOf s.scrubNext)).up = false ∨ (s.stack (stackOf s.scrubNext)).lost = true) :
    exec (.scrubAccess c) s = .next s.scrubMoved := by
  rw [exec_scrubAccess hrun, if_pos (by simpa using hoff)]

variable (hup : (s.stack (stackOf s.scrubNext)).up = true) (hlost : (s.stack (stackOf s.scrubNext)).lost = false)
include hup hlost

theorem exec_scrubAccess_bad (hbad : s.mem.dev.hasBad s.scrubNext 64 = true) :
    exec (.scrubAccess c) s = .next (s.scrubMoved.scrubBad s.scrubNext) := by
  rw [exec_scrubAccess hrun, if_neg (by simp [hup, hlost]), scrubMoved_mem, if_pos hbad]

theorem exec_scrubAccess_good (hgood : s.mem.dev.hasBad s.scrubNext 64 = false) : exec (.scrubAccess c) s =
    .next (s.scrubMoved.scrubGood s.scrubNext c) := by
  rw [exec_scrubAccess hrun, if_neg (by simp [hup, hlost]), scrubMoved_mem, if_neg (by rw [hgood]; decide)]
  rfl

end Scrub

section Bad
variable {off : Nat}

theorem scrubBad_mem : (t.scrubBad off).mem = t.mem := by rw [scrubBad, raiseSource_mem, count_mem, setObj_mem]

theorem scrubBad_logged : (t.scrubBad off).obj 0x2A08 3 = t.moduleId * 2 ^ 44 + off := by
  rw [scrubBad, raiseSource_obj, count_obj, obj_setObj]

theorem scrubBad_passes : (t.scrubBad off).obj 0x2A08 2 = t.obj 0x2A08 2 := by
  rw [scrubBad, raiseSource_obj, count_obj]
  exact obj_setObj_sub t (by decide) (by decide) (by decide)

theorem scrubBad_counted : (t.scrubBad off).ctr (0x5300 + stackOf off) 3 = satAdd 64 (t.ctr (0x5300 + stackOf off) 3) 1 := by
  have hk : stackOf off < 8 := Nat.mod_lt _ (by decide)
  rw [scrubBad, raiseSource_ctr (by unfold sourceIndex; omega) (by decide), ctr_count_self _ _ _ _ (by decide), setObj_ctr]

theorem scrubBad_raised (hup : (t.line 7).up = false) (hhold : (t.line 7).hold = false) : ((t.scrubBad off).line 7).up = true := by
  have hline : ((t.setObj 0x2A08 3 0 (t.moduleId * 2 ^ 44 + off)).count (0x5300 + stackOf off) 3 1).line 7 = t.line 7 := by
    rw [line, count_flt, setObj_flt, line]
  rw [scrubBad, raiseSource_rises _ 7 (by decide) (by rw [hline]; exact hup) (by rw [hline]; exact hhold), line_setLine]

end Bad

section Good
variable {off : Nat} {c : Bool}

theorem scrubGood_mem : (t.scrubGood off c).mem = t.mem := by
  rw [scrubGood]; split
  · exact count_mem _ _ _ _
  · rfl

theorem scrubGood_flt : (t.scrubGood off c).flt = t.flt := by
  rw [scrubGood]; split
  · exact count_flt _ _ _ _
  · rfl

theorem scrubGood_obj (a b n : Nat) : (t.scrubGood off c).obj a b n = t.obj a b n := by
  rw [scrubGood]; split
  · exact count_obj _ _ _ _ _ _ _
  · rfl

theorem scrubGood_counted : (t.scrubGood off c).ctr (0x5300 + stackOf off) 1 =
    if c then satAdd 64 (t.ctr (0x5300 + stackOf off) 1) 1 else t.ctr (0x5300 + stackOf off) 1 := by
  cases c
  · rfl
  · exact ctr_count_self t _ _ 1 (by decide)

end Good

end Sys2Proof.Machine.State

open Sys2Proof Sys2Proof.Machine Sys2Proof.Claims

/-- Settles O16: a COPY whose buffers are found passes its checks in their order and carries what it reads; scrub moves on first, and notes what
it finds of the unit after that. -/
theorem copyAndScrub : Obligations.CopyAndScrub := by
  unfold Obligations.CopyAndScrub
  refine ⟨fun s f i e sb db h hf hsb hdb => ?copy, fun s c hrun => ?scrub⟩
  case copy =>
    intro r1 r2 s2
    refine ⟨fun st hr1 => State.exec_copy_noSource h hsb hdb (Prod.ext hr1 rfl), fun src st hr1 hr2 =>
      State.exec_copy_noDestination h hsb hdb (Prod.ext hr1 rfl) (Prod.ext hr2 rfl), fun src dst hr1 hr2 => ?_⟩
    have hsrc : s.resolveBuf f sb (e.u64 0x20) false true = (.ok src, r1.2) := Prod.ext hr1 rfl
    have hdst : r1.2.resolveBuf f db (e.u64 0x20) true true = (.ok dst, s2) := Prod.ext hr2 rfl
    intro r3 away mixed
    refine ⟨State.exec_copy_bothRemote h hsb hdb hsrc hdst, State.exec_copy_foreignPeg h hsb hdb hsrc hdst, fun hone hroute hready hpeg hbus => ?_⟩
    rw [State.exec_copy_runs h hsb hdb hsrc hdst hone hroute hready hpeg hbus]
    refine ⟨fun hread => congrArg _ (State.copyRuns_parity hread), fun got hread => ?_⟩
    intro x t
    rw [State.copyRuns_carries hread]
    refine ⟨fun haway => ?_, fun _ hsig hany => congrArg _ (State.copyCarries_away hsig hany)⟩
    obtain ⟨hs, hd⟩ := Bool.or_eq_false_iff.1 haway
    exact congrArg _ (State.copyCarries_here hs hd)
  case scrub =>
    intro n p off k
    cases hup : (s.stack k).up
    · refine ⟨_, State.exec_scrubAccess_passed hrun (.inl hup), State.scrubMoved_mem, State.scrubMoved_passes, ?_⟩
      exact ⟨fun h => absurd h Bool.false_ne_true, fun _ => ⟨State.scrubMoved_ctrs, State.scrubMoved_flt⟩⟩
    cases hlost : (s.stack k).lost
    swap
    · refine ⟨_, State.exec_scrubAccess_passed hrun (.inr hlost), State.scrubMoved_mem, State.scrubMoved_passes, ?_⟩
      exact ⟨fun _ h => absurd h.symm Bool.false_ne_true, fun _ => ⟨State.scrubMoved_ctrs, State.scrubMoved_flt⟩⟩
    cases hbad : s.mem.dev.hasBad off 64
    · refine ⟨_, State.exec_scrubAccess_good hrun hup hlost hbad, ?_⟩
      refine ⟨State.scrubGood_mem.trans State.scrubMoved_mem, (State.scrubGood_obj 0x2A08 2 0).trans State.scrubMoved_passes, fun _ _ => ⟨fun h => absurd h Bool.false_ne_true, fun _ =>
        ⟨?_, State.scrubGood_flt.trans State.scrubMoved_flt⟩⟩, fun h => absurd h (by simp)⟩
      exact State.scrubGood_counted.trans (by rw [State.scrubMoved_ctr]; rfl)
    · refine ⟨_, State.exec_scrubAccess_bad hrun hup hlost hbad, State.scrubBad_mem.trans State.scrubMoved_mem,
        State.scrubBad_passes.trans State.scrubMoved_passes, fun _ _ => ⟨fun _ => ⟨?_, ?_, fun hline hhold => ?_⟩,
          fun h => absurd h.symm Bool.false_ne_true⟩, fun h => absurd h (by simp)⟩
      · exact State.scrubBad_logged.trans (by rw [State.scrubMoved_moduleId]; rfl)
      · exact State.scrubBad_counted.trans (by rw [State.scrubMoved_ctr]; rfl)
      · exact State.scrubBad_raised (by rw [State.scrubMoved_line]; exact hline) (by rw [State.scrubMoved_line]; exact hhold)
end

section
/-! QP_MODIFY and RESUME (R252 to R255, R293): the chain of checks of a QP_MODIFY, the transitions it makes, and what RESUME finds of the stalled
page. -/

namespace Sys2Proof.Machine.State
open Sys2Proof.Claims

variable {s t u : State} {f i n : Nat} {e : Entry} {q : Qp} {a : QpAttr}

/-- Work on a QP whose context is cached runs on its context (R250). -/
theorem withQp_cached (h : s.cachedQp n = true) (k : Qp → State → State) : s.withQp n k = k (s.qp n) (s.touchQp n) := if_pos h

/-- Work on a QP whose context is not cached waits (R250). -/
theorem withQp_uncached (h : s.cachedQp n = false) (k : Qp → State → State) : s.withQp n k = s :=
  if_neg (by rw [h]; decide)

/-! QP_MODIFY -/

/-- A QP in RESET may leave it for the function (R252, R255). -/
def mayLeaveReset (s : State) (f n : Nat) (q : Qp) : Prop :=
  q.quarantine ≤ s.now ∧ n < s.qpsAvailable ∧ s.obj 0x2300 4 f ≤ n ∧ n < s.obj 0x2300 4 f + s.obj 0x2300 5 f

theorem exec_qpModify (h : ready s f i e 0x18) (hrun : s.runModify f e = t) : exec (.qpModify f i) s = .next t.settleHands := by
  rw [← hrun]
  exact live_ready h _

theorem runModify_uncached (hc : s.cachedQp (e.u32 8) = false) : s.runModify f e = s := by
  unfold runModify
  exact withQp_uncached hc _

/-- What a QP_MODIFY comes to at its block of attributes, on the context `q` (R253). -/
def readBlock (t : State) (f : Nat) (e : Entry) (q : Qp) : State :=
  match e.buf 0x14 with
  | none => t.modifyEnds f e 0x0E
  | some b => match t.resolveBuf f b 128 false false with
    | (.fail st, t1) => t1.modifyEnds f e st
    | (.wait, t1) => t.moveWait f e t1
    | (.ok ps, t1) =>
      if !t1.piecesReady ps then t1
      else match t1.readPieces ps with
        | (none, t2) => t2.modifyEnds f e 0x0B
        | (some bs, t2) => t2.modifyWith f e q bs

section Block
variable {b : BufRef} (hb : e.buf 0x14 = some b)
include hb

theorem readBlock_fails {st : Nat} (hres : (t.resolveBuf f b 128 false false).1 = .fail st) :
    t.readBlock f e q = (t.resolveBuf f b 128 false false).2.modifyEnds f e st := by
  have hpair : t.resolveBuf f b 128 false false = (.fail st, (t.resolveBuf f b 128 false false).2) := Prod.ext hres rfl
  simp only [readBlock, hb]
  rw [hpair]

theorem readBlock_reads {ps : List Piece} {bs : List Byte} (hres : t.resolveBuf f b 128 false false = (.ok ps, u))
    (hready : u.piecesReady ps = true) (hread : (u.readPieces ps).1 = some bs) :
    t.readBlock f e q = (u.readPieces ps).2.modifyWith f e q bs := by
  have hpair : u.readPieces ps = (some bs, (u.readPieces ps).2) := Prod.ext hread rfl
  simp only [readBlock, hb, hres, hready, Bool.not_true, Bool.false_eq_true, if_false]
  rw [hpair]

end Block

section Modify
variable (hc : s.cachedQp (e.u32 8) = true)
include hc

theorem runModify_badMask (hmask : 2 ^ 18 ≤ e.u32 0x10) : s.runModify f e = (s.touchQp (e.u32 8)).modifyEnds f e 0x0E := by
  unfold runModify
  exact (withQp_cached hc _).trans (if_pos hmask)

variable (hmask : e.u32 0x10 < 2 ^ 18)
include hmask

theorem runModify_foreign (hstate : (s.qp (e.u32 8)).state ≠ .reset) (howner : (s.qp (e.u32 8)).owner ≠ some f) :
    s.runModify f e = (s.touchQp (e.u32 8)).modifyEnds f e 0x12 := by
  unfold runModify
  exact (withQp_cached hc _).trans ((if_neg (Nat.not_le.2 hmask)).trans (if_pos ⟨hstate, howner⟩))

theorem runModify_unavailable (hstate : (s.qp (e.u32 8)).state = .reset) (htarget : e.u8 0x0C ≠ 0)
    (hno : ¬ s.mayLeaveReset f (e.u32 8) (s.qp (e.u32 8))) : s.runModify f e = (s.touchQp (e.u32 8)).modifyEnds f e 0x12 := by
  unfold runModify
  rw [mayLeaveReset, not_and_or, not_and_or, not_and_or, Nat.not_le, Nat.not_lt, Nat.not_le, Nat.not_lt] at hno
  exact (withQp_cached hc _).trans ((if_neg (Nat.not_le.2 hmask)).trans ((if_neg fun hf => hf.1 hstate).trans (if_pos ⟨hstate, htarget, hno⟩)))

variable (howner : (s.qp (e.u32 8)).state ≠ .reset → (s.qp (e.u32 8)).owner = some f)
  (hmay : (s.qp (e.u32 8)).state = .reset → e.u8 0x0C ≠ 0 → s.mayLeaveReset f (e.u32 8) (s.qp (e.u32 8)))
include howner hmay

/-- A QP_MODIFY of a QP that the function may change goes on to its mask and its block (R253). -/
theorem runModify_allowed : s.runModify f e =
    if e.u32 0x10 &&& settable (s.qp (e.u32 8)).state (e.u8 0x0C) ≠ e.u32 0x10 then (s.touchQp (e.u32 8)).modifyEnds f e 0x12
    else if e.u32 0x10 = 0 then (s.touchQp (e.u32 8)).modifyWith f e (s.qp (e.u32 8)) (List.replicate 128 0)
    else (s.touchQp (e.u32 8)).readBlock f e (s.qp (e.u32 8)) := by
  unfold runModify
  refine (withQp_cached hc _).trans ((if_neg (Nat.not_le.2 hmask)).trans ((if_neg fun hf => hf.2 (howner hf.1)).trans (if_neg ?_)))
  rintro ⟨hstate, htarget, hno⟩
  obtain ⟨hquiet, hexists, hfrom, hto⟩ := hmay hstate htarget
  exact not_or.2 ⟨Nat.not_lt.2 hquiet, not_or.2 ⟨Nat.not_le.2 hexists, not_or.2 ⟨Nat.not_lt.2 hfrom, Nat.not_le.2 hto⟩⟩⟩ hno

end Modify

/-! Transitions (R254) -/

/-- An SA whose keys may not be taken leaves everything as it is (R418). -/
theorem bindKeys_refused {d : Nat} (h : (s.bindKeys n d a).2 = some 0x12) : (s.bindKeys n d a).1 = s := by
  unfold bindKeys at h ⊢
  dsimp only at h ⊢
  repeat' split at h
  all_goals simp_all

theorem bindKeys_none {d : Nat} (h : a.sa = 0) : s.bindKeys n d a = (s, none) := if_pos h

/-- A transition that is not permitted leaves all but the QPs alone (R254). -/
theorem qpMove_refused {target : Nat} {r : State × Nat} (hr : s.qpMove f n q a target = r) (h : r.2 = 0x12) : { r.1 with hrt := s.hrt } = s := by
  unfold qpMove at hr
  dsimp only at hr
  split at hr
  case h_2 =>
    split at hr
    · rw [← hr]
    · split at hr
      next s1 st hb =>
        rw [← hr] at h ⊢
        have hs1 : s1 = s.setQp n { q with attr := a } := by
          have hno := bindKeys_refused (s := s.setQp n { q with attr := a }) (n := n) (a := a) (d := f)
          rw [hb] at hno
          exact hno (congrArg some h)
        rw [hs1]
        rfl
      next s1 hb => rw [← hr] at h; cases h
  case h_3 =>
    split at hr
    · rw [← hr]
    · rw [← hr] at h; cases h
  case h_9 => rw [← hr]
  case h_11 => rw [← hr]
  case h_14 => rw [← hr]
  all_goals rw [← hr] at h; cases h

section Moves

theorem qpMove_toInit (hstate : q.state = .reset) : s.qpMove f n q a 1 =
    (s.setQp n { Qp.reset n q.incarnation q.quarantine with state := .init, owner := some f, attr := a, replies := q.replies }, 0) := by
  simp only [qpMove, hstate]

theorem qpMove_toRtr (hstate : q.state = .init) (hok : s.rtrOk f a = true) (hsa : a.sa = 0) : s.qpMove f n q a 2 =
    ((s.setQp n { q with attr := a }).setQp n { q with
      state := .rtr, attr := a, ePsn := a.rqPsn, arrived := 0, atomics := [], k := 0, ringLost := false,
      recvLimit := if a.recvLoc = 0 then 0 else 2 ^ a.recvLog }, 0) := by
  simp only [qpMove, hstate, hok, bindKeys_none hsa, qp_setQp, Bool.not_true, Bool.false_eq_true, if_false]

theorem qpMove_toRts (hstate : q.state = .rtr) (hgiven : bit a.given 8 = true) : s.qpMove f n q a 3 =
    (s.setQp n { q with
      state := .rts, attr := a, next := a.sqPsn, una := a.sqPsn, sendIndex := 0, sendLimit := a.remoteSlots % 65536, retries := 0,
      timeout := a.rtoBase, rung := 0, pressure := 0, clean := 0, lastEcn := none, lastCut := none, climbAt := none, rate := s.rateNow,
      bucket := ⟨0, s.now⟩ }, 0) := by
  simp only [qpMove, hstate, hgiven, Bool.not_true, Bool.false_eq_true, if_false]

/-- A QP whose entries have been flushed, halted with its attributes. -/
def sentToError (s : State) (n : Nat) (a : QpAttr) : State :=
  let t := (s.leaveOut n).flushQp n (fun _ => false) 0x0D
  t.setQp n { (t.qp n).halt with attr := a, replies := (t.qp n).replies.filter HrtReply.isStale }

theorem qpMove_toError (hstate : q.state = .init ∨ q.state = .rtr ∨ q.state = .rts) : s.qpMove f n q a 4 = (s.sentToError n a, 0) := by
  rcases hstate with hstate | hstate | hstate <;> simp only [qpMove, hstate, sentToError]

theorem qpMove_fromError {target : Nat} (hstate : q.state = .error) (h0 : target ≠ 0) (h4 : target ≠ 4) : s.qpMove f n q a target = (s, 0x12) := by
  simp only [qpMove, hstate]

end Moves

theorem sentToError_qp : ((s.sentToError n a).qp n).state = .error ∧ ((s.sentToError n a).qp n).attr = a := by
  rw [sentToError, qp_setQp]
  exact ⟨rfl, rfl⟩

theorem qpToReset_qp : ((s.qpToReset n).qp n).state = .reset ∧ ((s.qpToReset n).qp n).owner = none ∧
    ((s.qpToReset n).qp n).incarnation = ((s.qp n).incarnation + 1) % 256 ∧ ((s.qpToReset n).qp n).quarantine = s.now + 4000000000 := by
  rw [qpToReset, qp_setQp]
  exact ⟨rfl, rfl, rfl, rfl⟩

section With
variable {b : List Byte} {mask : Nat}

/-- The lowest lane that the block's PORT byte names is one of its port (R253). -/
def blockLaneOk (s : State) (b : List Byte) : Bool := lowestLane (s.obj (0x2500 + 16 * (leAt b 6 1 / 16 % 8)) 2) (leAt b 6 1 % 4)

/-- The attributes of a QP with a block's applied (R253). -/
def attrsWith (e : Entry) (q : Qp) (b : List Byte) : QpAttr := attrApply (if q.state = .reset then QpAttr.default (e.u32 8) else q.attr) b (e.u32 0x10)

theorem modifyWith_badBlock (hbad : attrOk b (e.u32 0x10) (s.blockLaneOk b) = false) : s.modifyWith f e q b = s.modifyEnds f e 0x0E := by
  unfold modifyWith
  exact if_pos (by rw [Bool.not_eq_true']; exact hbad)

variable (hok : attrOk b (e.u32 0x10) (s.blockLaneOk b) = true) (hsa : bit (e.u32 0x10) 14 = false)
include hok hsa

/-- Where the block is right and names no SA, the transition is made of the state as it is (R254). -/
theorem modifyWith_moves : s.modifyWith f e q b =
    let r := s.qpMove f (e.u32 8) q (attrsWith e q b) (e.u8 0x0C)
    if r.2 ≠ 0 then { s with cipher := r.1.cipher, drawn := r.1.drawn, led := { s.led with ctrs := r.1.led.ctrs } }.modifyEnds f e r.2
    else (if bit (e.u32 0x10) 17 ∧ e.u8 0x0C ≠ 0 then r.1.setQp (e.u32 8)
      { r.1.qp (e.u32 8) with recvLimit := ((r.1.qp (e.u32 8)).recvLimit + leAt b 0x64 4) % 65536 } else r.1).modifyEnds f e 0 := by
  unfold blockLaneOk at hok
  simp only [modifyWith, hok, hsa, Bool.not_true, Bool.false_eq_true, if_false, ite_self, attrsWith]
  rfl

theorem modifyWith_refused (hmove : (s.qpMove f (e.u32 8) q (attrsWith e q b) (e.u8 0x0C)).2 = 0x12) : s.modifyWith f e q b = s.modifyEnds f e 0x12 := by
  have hs := qpMove_refused rfl hmove
  have hcipher := (congrArg State.cipher hs :)
  have hdrawn := (congrArg State.drawn hs :)
  have hctrs := (congrArg (·.led.ctrs) hs :)
  dsimp only at hcipher hdrawn hctrs
  rw [modifyWith_moves hok hsa]
  dsimp only
  rw [hmove, if_pos (by decide), hcipher, hdrawn, hctrs]

theorem modifyWith_done (hslots : bit (e.u32 0x10) 17 = false) (hmove : (s.qpMove f (e.u32 8) q (attrsWith e q b) (e.u8 0x0C)).2 = 0) :
    s.modifyWith f e q b = (s.qpMove f (e.u32 8) q (attrsWith e q b) (e.u8 0x0C)).1.modifyEnds f e 0 := by
  rw [modifyWith_moves hok hsa]
  dsimp only
  rw [hmove, if_neg (by decide), if_neg (by rw [hslots]; exact fun hb => Bool.false_ne_true hb.1)]

end With

/-! RESUME (R293) -/

section Resume
variable (h : ready s f i e 0x19)
include h

theorem exec_resume_uncached (hc : s.cachedQp (e.u32 8) = false) : exec (.resume f i) s = .next s :=
  (live_ready h _).trans (congrArg _ (withQp_uncached hc _))

variable (hc : s.cachedQp (e.u32 8) = true)
include hc

theorem exec_resume_refused (hno : (s.qp (e.u32 8)).owner ≠ some f ∨ (s.qp (e.u32 8)).state ≠ .rts) :
    exec (.resume f i) s = .next ((s.touchQp (e.u32 8)).complete f e 0x12 (leBytes 4 (e.u32 8))) :=
  (live_ready h _).trans (congrArg _ ((withQp_cached hc _).trans (if_pos hno)))

variable (howner : (s.qp (e.u32 8)).owner = some f) (hstate : (s.qp (e.u32 8)).state = .rts)
include howner hstate

theorem exec_resume_unstalled (hstall : (s.qp (e.u32 8)).stall = none) :
    exec (.resume f i) s = .next ((s.touchQp (e.u32 8)).complete f e 0 (leBytes 4 (e.u32 8))) := by
  refine (live_ready h _).trans (congrArg _ ((withQp_cached hc _).trans ?_))
  simp only [howner, hstate, hstall, ne_eq, not_true_eq_false, or_self, if_false]

variable {st : HrtStall} (hstall : (s.qp (e.u32 8)).stall = some st) {x : Tr}
  (hpage : (s.touchQp (e.u32 8)).translate f st.page st.write false = (x, t))
include hstall hpage

theorem exec_resume_waits (hx : x = .wait) : exec (.resume f i) s = .next s := by
  refine (live_ready h _).trans (congrArg _ ((withQp_cached hc _).trans ?_))
  simp only [howner, hstate, hstall, hpage, hx, ne_eq, not_true_eq_false, or_self, if_false]

theorem exec_resume_moving (hx : x = .moving) : exec (.resume f i) s = .next ((s.touchQp (e.u32 8)).moveWait f e t) := by
  refine (live_ready h _).trans (congrArg _ ((withQp_cached hc _).trans ?_))
  simp only [howner, hstate, hstall, hpage, hx, ne_eq, not_true_eq_false, or_self, if_false]

theorem exec_resume_absent (hx : x = .notPresent) : exec (.resume f i) s =
    .next ((t.pageRequest (e.u32 8) st.page st.write false).complete f e 0 (leBytes 4 (e.u32 8))) := by
  refine (live_ready h _).trans (congrArg _ ((withQp_cached hc _).trans ?_))
  simp only [howner, hstate, hstall, hpage, hx, ne_eq, not_true_eq_false, or_self, if_false]

theorem exec_resume_goesOn (hwait : x ≠ .wait) (hmoving : x ≠ .moving) (hthere : x ≠ .notPresent) : exec (.resume f i) s =
    .next ((t.setQp (e.u32 8) { t.qp (e.u32 8) with stall := none }).complete f e 0 (leBytes 4 (e.u32 8))) := by
  refine (live_ready h _).trans (congrArg _ ((withQp_cached hc _).trans ?_))
  simp only [howner, hstate, hstall, hpage, ne_eq, not_true_eq_false, or_self, if_false]

end Resume

end Sys2Proof.Machine.State

open Sys2Proof Sys2Proof.Machine Sys2Proof.Claims

/-- Settles O34: a QP_MODIFY is a chain of checks before its block, its block and the transition; a RESUME asks for the stalled page again. -/
theorem queuePairsAreModifiedAndResumed : Obligations.QueuePairsAreModifiedAndResumed := by
  unfold Obligations.QueuePairsAreModifiedAndResumed
  refine ⟨fun s f i e h => ?modify, fun s f e q b => ?block, fun s f n q a => ?moves, fun s f i e h => ?resume⟩
  case modify =>
    intro n mask target q t mayLeave
    refine ⟨fun hc => ⟨fun hmask => State.exec_qpModify h (State.runModify_badMask hc hmask),
      fun hmask hst hown => State.exec_qpModify h (State.runModify_foreign hc hmask hst hown), fun hmask hno => ?_, fun hmask hown hmay => ?_⟩,
      fun hc => State.exec_qpModify h (State.runModify_uncached hc)⟩
    · obtain ⟨hst, hno⟩ := Classical.not_imp.1 hno
      obtain ⟨htarget, hno⟩ := Classical.not_imp.1 hno
      exact State.exec_qpModify h (State.runModify_unavailable hc hmask hst htarget hno)
    · have hallowed := State.runModify_allowed hc hmask hown hmay
      refine ⟨fun hset => State.exec_qpModify h (hallowed.trans (if_pos hset)), fun hnone => ?_, fun b hsome hset hb => ?_⟩
      · refine State.exec_qpModify h (hallowed.trans ((if_neg ?_).trans (if_pos hnone)))
        rw [show e.u32 0x10 = 0 from hnone]
        simp
      · have hread := hallowed.trans ((if_neg (not_not.2 hset)).trans (if_neg hsome))
        exact ⟨fun st hres => State.exec_qpModify h (hread.trans (State.readBlock_fails hb hres)), fun ps bs hres hready hbs =>
          State.exec_qpModify h (hread.trans (State.readBlock_reads hb (Prod.ext hres rfl) hready hbs))⟩
  case block =>
    exact ⟨State.modifyWith_badBlock, fun hok hsa hslots hmove => State.modifyWith_done hok hsa hslots hmove,
      fun hok hsa hmove => State.modifyWith_refused hok hsa hmove⟩
  case moves =>
    refine ⟨fun hst => ?_, fun hst hgiven => ?_, fun hst hok hsa => ?_, fun hst => ?_, fun hst => ?_, State.qpToReset_qp⟩
    · simp [State.qpMove_toInit hst, Qp.reset]
    · simp [State.qpMove_toRts hst hgiven]
    · simp [State.qpMove_toRtr hst hok hsa]
    · rw [State.qpMove_toError hst]
      exact ⟨rfl, State.sentToError_qp⟩
    · exact ⟨congrArg Prod.snd (State.qpMove_fromError hst (by decide) (by decide)),
        congrArg Prod.snd (State.qpMove_fromError hst (by decide) (by decide)), congrArg Prod.snd (State.qpMove_fromError hst (by decide) (by decide))⟩
  case resume =>
    intro n q t
    refine ⟨fun hc => ⟨State.exec_resume_refused h hc, State.exec_resume_unstalled h hc, fun st hown hst hstall => ?_⟩, State.exec_resume_uncached h⟩
    intro r
    have hpage : t.translate f st.page st.write false = (r.1, r.2) := rfl
    exact ⟨State.exec_resume_waits h hc hown hst hstall hpage, State.exec_resume_moving h hc hown hst hstall hpage,
      fun hthere hwait hmoving => State.exec_resume_goesOn h hc hown hst hstall hpage hwait hmoving hthere,
      State.exec_resume_absent h hc hown hst hstall hpage⟩
end

section
/-! The fault line of a stack's interface that retrains (R470, R472): a rise of one tick alone, which an injection makes (R478), ends at its
sample and not with the condition. -/

namespace Sys2Proof.Machine.State

variable {s : State}

/-- The end of its condition leaves a line that carries a rise of one tick alone (R470, R478). -/
theorem setCondition_false_of_pulse {k : Nat} (h : (s.line k).pulse = true) : s.setCondition k false = s := by
  simp only [setCondition, h, if_true, Bool.false_eq_true, if_false]

/-- ROOT runs, stack 0 is up with its interface lost, and its line carries a rise of one tick alone that has not been sampled. -/
def lostWithPulse : State :=
  let s : State := { reset with pw := { PowerState.reset with mainUp := true, rootLocked := true } }
  (s.setStack 0 { Stack.reset with up := true, lost := true }).setLine 16 { FaultLine.down with up := true, pulse := true }

theorem lostWithPulse_running : lostWithPulse.running = true := rfl
theorem lostWithPulse_lost : (lostWithPulse.stack 0).lost = true := by decide
theorem lostWithPulse_up : (lostWithPulse.stack 0).up = true := by decide
theorem lostWithPulse_line : lostWithPulse.line 16 = { FaultLine.down with up := true, pulse := true } := line_setLine _ 16 _

/-- At the retraining of that interface the line stays asserted. -/
theorem exec_stackInterfaceRetrained_lostWithPulse : exec (.stackInterfaceRetrained 0) lostWithPulse =
    .next (lostWithPulse.setStack 0 { lostWithPulse.stack 0 with lost := false }) := by
  rw [exec_stackInterfaceRetrained lostWithPulse_running (by decide) lostWithPulse_up lostWithPulse_lost]
  exact congrArg _ (setCondition_false_of_pulse (congrArg FaultLine.pulse lostWithPulse_line))

end Sys2Proof.Machine.State

open Sys2Proof Sys2Proof.Machine Sys2Proof.Claims

/-- Refutes O58: the clause that a line is deasserted once its stack's interface has retrained asks no more of the state than ROOT, the stack up and
its interface lost. In the state `lostWithPulse` the line carries a rise of one tick alone, which the end of a condition does not take down, and
it is still asserted after the retraining. -/
theorem not_throttlesRootAndStackInterfaces : ¬ Obligations.ThrottlesRootAndStackInterfaces := by
  unfold Obligations.ThrottlesRootAndStackInterfaces
  intro ⟨_, hroot⟩
  obtain ⟨-, -, -, -, -, -, hretrained, -⟩ := hroot State.lostWithPulse
  obtain ⟨t, ht, -, hdown, -⟩ := hretrained 0 State.lostWithPulse_running (by decide) State.lostWithPulse_lost State.lostWithPulse_up
  rw [State.exec_stackInterfaceRetrained_lostWithPulse] at ht
  cases ht
  have hup : (State.lostWithPulse.line (16 + 0)).up = true := congrArg FaultLine.up State.lostWithPulse_line
  exact Bool.false_ne_true (hdown.symm.trans hup)
end

section
/-! Arriving requests (R250, R257, R258): the packet that a row takes, the class of a request on a QP without a security association, and what a
new SEND or WRITE comes to at its checks. -/

namespace Sys2Proof.Machine.State
open Sys2Proof.Claims

variable {s t u : State} {n d i psn : Nat} {x : HrtIn} {p : HrtPkt} {q : Qp} {ops : HrtPkt → Bool} {ps : List Piece}

/-! The packet that a row takes (R250, R257) -/

/-- The packet's context is on the device but not in the cache, so that the packet waits (R250). -/
def waitsForContext (s : State) (x : HrtIn) : Prop :=
  x.pkt.destQpn < 65536 ∧ x.pkt.destQpn < s.qpsAvailable ∧ s.cachedQp x.pkt.destQpn = false

section ReceiveAt
variable (k : HrtIn → Qp → State → Option State)

theorem receiveAt_waits (h : s.waitsForContext x) : s.receiveAt i x k = none := by
  obtain ⟨hrange, havail, hcached⟩ := h
  exact (if_neg (by omega)).trans (if_pos (by rw [hcached]; rfl))

theorem receiveAt_noQp (h : 65536 ≤ x.pkt.destQpn ∨ s.qpsAvailable ≤ x.pkt.destQpn) :
    s.receiveAt i x k = some ((s.popHrt i).count 0x5100 0x0D 1) := if_pos h

section Cached
variable (hrange : x.pkt.destQpn < 65536) (havail : x.pkt.destQpn < s.qpsAvailable) (hcached : s.cachedQp x.pkt.destQpn = true)
include hrange havail hcached

theorem receiveAt_dealt (h : (((s.popHrt i).touchQp x.pkt.destQpn).passSix x).1 = none) :
    s.receiveAt i x k = some (arrived s i x) := by
  have hpair : ((s.popHrt i).touchQp x.pkt.destQpn).passSix x = (none, arrived s i x) := Prod.ext h rfl
  unfold receiveAt
  rw [if_neg (by omega), if_neg (by rw [hcached]; decide), hpair]

theorem receiveAt_passes (h : (((s.popHrt i).touchQp x.pkt.destQpn).passSix x).1 = some q) :
    s.receiveAt i x k = (k x q (arrived s i x)).map settleHands := by
  have hpair : ((s.popHrt i).touchQp x.pkt.destQpn).passSix x = (some q, arrived s i x) := Prod.ext h rfl
  unfold receiveAt
  rw [if_neg (by omega), if_neg (by rw [hcached]; decide), hpair]

end Cached

/-- Where every packet that is first for its pipeline waits, nothing is taken. -/
theorem receive_waits (h : ∀ y ∈ s.hrtNext ops, s.receiveAt y.1 y.2 k = none) : s.receive ops k = s := by
  unfold receive
  rw [List.findSome?_eq_none_iff.2 h, Option.getD_none]

/-- A packet that waits holds none of another pipeline: the first that can be taken is (R250). -/
theorem receive_first (hfirst : firstTaken s ops i x) (h : s.receiveAt i x k = some u) : s.receive ops k = u := by
  obtain ⟨pre, post, hnext, hwait⟩ := hfirst
  have hpre : pre.findSome? (fun y => s.receiveAt y.1 y.2 k) = none :=
    List.findSome?_eq_none_iff.2 fun y hy => receiveAt_waits k (hwait y hy)
  unfold receive
  rw [hnext, List.findSome?_append, hpre, Option.none_or, List.findSome?_cons, h, Option.getD_some]

end ReceiveAt

/-- The opcodes of request packets (R245) with their rows. -/
def requestRows : List (Nat × Instr) :=
  [(1, .hrtRxSend), (2, .hrtRxWrite), (3, .hrtRxReadReq), (5, .hrtRxAdd), (6, .hrtRxCas), (8, .hrtRxFlush), (9, .hrtRxColl)]

/-- Each row takes a packet of its own opcode. -/
theorem exec_requestRow {op : Nat} {c : Instr} (hrow : (op, c) ∈ requestRows) : exec c s = s.live (s.receiveRequest op) :=
  (List.map_inj_left (f := fun y : Nat × Instr => exec y.2 s) (g := fun y => s.live (s.receiveRequest y.1))).1 rfl _ hrow

section RequestRow
variable {op : Nat} {c : Instr} (hrow : (op, c) ∈ requestRows)
include hrow

theorem requestRow_takes (hrun : s.running = true) (hfirst : firstTaken s (fun p => p.op == op) i x)
    (h : s.receiveAt i x (fun x _ t => t.request x x.pkt.destQpn) = some u) : exec c s = .next u := by
  rw [exec_requestRow hrow, receiveRequest, receive_first _ hfirst h, live_running s u hrun]

theorem requestRow_waits (h : ∀ y ∈ s.hrtNext (fun p => p.op == op), s.receiveAt y.1 y.2 (fun x _ t => t.request x x.pkt.destQpn) = none) :
    exec c s = .next s := by
  rw [exec_requestRow hrow, receiveRequest, receive_waits _ h, live_self]

end RequestRow

/-! The classes of a request (R258) -/

theorem duplicate_acked {behind : Bool} (hflush : p.op ≠ 8) (hordered : behind = true → p.op ≠ 3 ∧ p.op ≠ 5 ∧ p.op ≠ 6) :
    s.duplicate n p behind = some ((s.count 0x5100 6 1).sendAck n 0 0 0) := by
  have hother (hb : behind = true) : ¬ (p.op = 5 ∨ p.op = 6) ∧ p.op ≠ 3 := by have := hordered hb; omega
  exact (if_neg hflush).trans ((if_neg fun h => (hother h.1).1 h.2).trans (if_neg fun h => (hother h.1).2 h.2))

section Request
variable (hd : subMod (2 ^ 24) x.pkt.psn (s.qp n).ePsn = d)
include hd

theorem request_past (hahead : d < 2 ^ 23) (hpast : 256 < d + max 1 x.pkt.psns) : s.request x n = some (s.count 0x5100 8 1) := by
  subst hd
  unfold request
  exact if_pos (by simp only [Bool.not_eq_true', decide_eq_false_iff_not]; omega)

variable (hsa : (s.qp n).attr.sa = 0) (hin : 2 ^ 23 ≤ d ∨ d + max 1 x.pkt.psns ≤ 256)
include hsa hin

theorem request_old (hold : 2 ^ 23 ≤ d ∨ taken (s.qp n) d x.pkt.psn = true) : s.request x n = s.duplicate n x.pkt (decide (2 ^ 23 ≤ d)) := by
  subst hd
  unfold request
  refine (if_neg (by simp only [Bool.not_eq_true', decide_eq_false_iff_not]; omega)).trans ?_
  simp only [openRequest, countSecure, hsa, if_true]
  exact if_pos (by simpa only [decide_eq_true_eq] using hold)

/-- What a new request of the window comes to by its opcode (R258). -/
def newRequest (s : State) (n psn : Nat) (x : HrtIn) : Option State :=
  if x.pkt.op = 1 then s.newSend n psn x x.pkt
  else if x.pkt.op = 2 then s.newWrite n psn x x.pkt
  else if x.pkt.op = 9 then
    some ((s.deliverHand ((s.qp n).owner.getD 0) (HandPkt.parse x.pkt.payload true)).accept n psn 1 x.pkt.ackReq x.ce x.frame.ce)
  else s.newOrdered n psn x x.pkt

theorem request_new (hahead : d < 2 ^ 23) (hnew : taken (s.qp n) d x.pkt.psn = false) :
    s.request x n = s.newRequest n ((s.qp n).ePsn + d) x := by
  subst hd
  unfold request
  refine (if_neg (by simp only [Bool.not_eq_true', decide_eq_false_iff_not]; omega)).trans ?_
  simp only [openRequest, countSecure, hsa, if_true]
  exact if_neg (by simp only [hnew, decide_eq_true_eq, Bool.false_eq_true, or_false]; omega)

end Request

section NewRequest

theorem newRequest_send (h : x.pkt.op = 1) : s.newRequest n psn x = s.newSend n psn x x.pkt := if_pos h

theorem newRequest_write (h : x.pkt.op = 2) : s.newRequest n psn x = s.newWrite n psn x x.pkt :=
  (if_neg (by omega)).trans (if_pos h)

theorem newRequest_coll (h : x.pkt.op = 9) : s.newRequest n psn x =
    some ((s.deliverHand ((s.qp n).owner.getD 0) (HandPkt.parse x.pkt.payload true)).accept n psn 1 x.pkt.ackReq x.ce x.frame.ce) :=
  (if_neg (by omega)).trans ((if_neg (by omega)).trans (if_pos h))

theorem newRequest_ordered (h : x.pkt.op = 3 ∨ x.pkt.op = 5 ∨ x.pkt.op = 6 ∨ x.pkt.op = 8) :
    s.newRequest n psn x = s.newOrdered n psn x x.pkt :=
  (if_neg (by omega)).trans ((if_neg (by omega)).trans (if_neg (by omega)))

end NewRequest

/-! A new WRITE and a new SEND at their checks (R265, R283) -/

theorem newWrite_refused {code : Nat} (hkey : s.keyCheck ((s.qp n).owner.getD 0) p p.payload.length = some code) :
    s.newWrite n psn x p = some (s.fatalNak n code psn) := by
  simp only [newWrite, hkey]

theorem newWrite_placed (hkey : s.keyCheck ((s.qp n).owner.getD 0) p p.payload.length = none)
    (hpeg : s.pegRefused ((s.qp n).owner.getD 0) p = false) (hpieces : s.keyPieces p p.payload.length true = (ps, t, none))
    (hstack : t.stackHeld ps = false) : s.newWrite n psn x p = some ((t.forgetKey n p ps).placeNew n psn x p ps) := by
  simp only [newWrite, hkey, hpeg, hpieces, hstack, Bool.false_eq_true, if_false]

theorem newSend_refused {code : Nat} (hcheck : (s.sendPieces (s.qp n) p p.payload).1 = some code) :
    s.newSend n psn x p = some (s.fatalNak n code psn) := by
  have hpair : s.sendPieces (s.qp n) p p.payload = (some code, (s.sendPieces (s.qp n) p p.payload).2) := Prod.ext hcheck rfl
  simp only [newSend]
  rw [hpair]

theorem newSend_placed (hpieces : s.sendPieces (s.qp n) p p.payload = (none, ps, t, none))
    (hpeg : s.pegRefused ((s.qp n).owner.getD 0) p = false) (hstack : t.stackHeld ps = false) :
    s.newSend n psn x p = some ((t.forgetSlot n (s.qp n) p ps).placeNew n psn x p ps) := by
  simp only [newSend, hpieces, hpeg, hstack, Bool.false_eq_true, if_false]

theorem placeNew_unplaceable (h : s.unplaceable ps = true) : s.placeNew n psn x p ps = (s.raiseSource 7).fatalNak n 0x23 psn := if_pos h

/-! What an acknowledgement leaves -/

section SendAck
variable (syndrome nakPsn retryAfter : Nat)

@[simp] theorem sendAck_mem : (s.sendAck n syndrome nakPsn retryAfter).mem = s.mem := rfl
@[simp] theorem sendAck_cmp : (s.sendAck n syndrome nakPsn retryAfter).cmp = s.cmp := rfl
@[simp] theorem sendAck_ring : (s.sendAck n syndrome nakPsn retryAfter).ring = s.ring := rfl

end SendAck

end Sys2Proof.Machine.State

open Sys2Proof Sys2Proof.Machine Sys2Proof.Claims Sys2Proof.Machine.State

/-- Settles O35: a row takes the first packet of its opcode that does not wait, the class of a request follows from its distance to ePSN, and a
new SEND or WRITE goes through its checks in order. -/
theorem arrivingRequestsByClass : Obligations.ArrivingRequestsByClass := by
  unfold Obligations.ArrivingRequestsByClass
  refine ⟨fun s op c hrow => ⟨fun i x q ⟨hrun, hfirst, hrange, havail, hcached, hpass⟩ => ?_,
      fun _ hwait => requestRow_waits hrow fun y hy => receiveAt_waits _ (hwait y hy),
      fun i x hrun hfirst => ⟨fun hno => requestRow_takes hrow hrun hfirst (receiveAt_noQp _ hno),
        fun havail hrange hcached hdealt => requestRow_takes hrow hrun hfirst (receiveAt_dealt _ hrange havail hcached hdealt)⟩⟩,
    fun s x n hsa => ?_, fun s n psn x p => ?_, fun s n => ?_⟩
  · have hat := receiveAt_passes (fun x _ t => t.request x x.pkt.destQpn) hrange havail hcached hpass
    refine ⟨fun u hreq => requestRow_takes hrow hrun hfirst (by rw [hat, hreq]; rfl), fun hone hreq => requestRow_waits hrow fun y hy => ?_⟩
    obtain rfl := List.mem_singleton.1 (hone ▸ hy)
    rw [hat, hreq, Option.map_none]
  · refine ⟨request_past rfl, fun hbehind hop => ?_, fun hin hahead htaken hflush => ?_, fun hin hahead hnew => ?_⟩
    · exact (request_old rfl hsa (.inl hbehind) (.inl hbehind)).trans (duplicate_acked (by omega) fun _ => by omega)
    · exact (request_old rfl hsa (.inr hin) (.inr htaken)).trans
        (duplicate_acked hflush fun hbehind => absurd (of_decide_eq_true hbehind) (Nat.not_le.2 hahead))
    · rw [request_new rfl hsa (.inr hin) hahead hnew]
      exact ⟨newRequest_send, newRequest_write, newRequest_ordered, newRequest_coll⟩
  · exact ⟨fun hkey hpeg hstop hstack => newWrite_placed hkey hpeg (Prod.ext rfl (Prod.ext rfl hstop)) hstack,
      fun _ hcode => newWrite_refused hcode,
      fun hnone hpeg hstop hstack => newSend_placed (Prod.ext hnone (Prod.ext rfl (Prod.ext rfl hstop))) hpeg hstack,
      fun _ hcode => newSend_refused hcode, fun _ hun => placeNew_unplaceable hun⟩
  · exact ⟨by rw [sendAck_mem, count_mem], by rw [sendAck_cmp, count_cmp], by rw [sendAck_ring, count_ring]⟩

end

section
/-! Pegs (R149 to R153, R161 to R166, R526): when a wait is met, what a change of a hub peg leaves alone, the kinds of PEG_SET in the order of
their checks, and the owner byte of a hub peg block. -/

namespace Sys2Proof.Machine

/-! When a wait is met (R161) -/

/-- The distance forward is the remainder of the difference. -/
theorem subMod_eq_emod {m : Nat} (hm : 0 < m) (a b : Nat) : (subMod m a b : Int) = ((a : Int) - b) % m := by
  have hle : b % m ≤ m := (Nat.mod_lt b hm).le
  have hdiv : (b : Int) % m + m * (b / m) = b := Int.emod_add_mul_ediv b m
  have hsum : (a : Int) + (m - (b : Int) % m) = a - b + m * (1 + b / m) := by linear_combination -hdiv
  rw [subMod, Int.natCast_emod, Nat.cast_add, Nat.cast_sub hle, Int.natCast_emod, hsum, Int.add_mul_emod_self_left]

theorem pegMet_iff (p v : Nat) : pegMet p v = true ↔ ((p : Int) - v) % 2 ^ 32 < 2 ^ 31 := by
  have hsub : (subMod (2 ^ 32) p v : Int) = ((p : Int) - v) % 2 ^ 32 := subMod_eq_emod (by decide) p v
  rw [← hsub, pegMet, decide_eq_true_iff]
  norm_cast

namespace State
open Sys2Proof.Claims

/-! A new value of a hub peg (R149, R163) -/

section HubPegs
variable (s : State)

theorem completeIdx_cmp (f i st : Nat) (r : List Byte) : (s.completeIdx f i st r).cmp = s.cmp := beside_cmp (besideRings_completeIdx s f i st r)

theorem enter_hubPegs (b : Nat) (r : RunState) : (s.enter b r).cmp.hubPegs = s.cmp.hubPegs :=
  (congrArg ComputeState.hubPegs (countStay_cmp s b) :)

theorem askWake_hubPegs (b : Nat) : (s.askWake b).cmp.hubPegs = s.cmp.hubPegs := by
  unfold askWake
  dsimp only
  split <;> rfl

/-- A peg's change concerns the bench that awaits it. -/
theorem pegChanged_hubPegs (b peg : Nat) : (s.pegChanged b peg).cmp.hubPegs = s.cmp.hubPegs := by
  unfold pegChanged
  dsimp only
  split
  · split
    · rfl
    · split
      · exact askWake_hubPegs s b
      · split
        · exact enter_hubPegs _ b .running
        · rfl
  · rfl

/-- Entries whose waits are met leave the hub's list of waits. -/
theorem checkWaits_cmp (h : Nat) : (s.checkWaits h).cmp =
    { s.cmp with waits := s.cmp.waits.filter fun w => !(w.peg == h && pegMet (s.hubPeg h) w.threshold) } :=
  foldl_keep State.cmp _ (fun u (w : PegWait) => completeIdx_cmp u w.fid w.entry 0 _) _ _

/-- Whatever a hub peg's new value wakes, the hub's pegs are the old ones and that value. -/
theorem setHubPegAt_hubPegs (h v n : Nat) : (s.setHubPegAt h v n).cmp.hubPegs = s.cmp.hubPegs.setNum h (v % 2 ^ 32) := by
  unfold setHubPegAt
  dsimp only
  rw [checkWaits_cmp]
  refine foldl_keep (fun u : State => u.cmp.hubPegs) _ (fun u w => foldl_keep (fun u : State => u.cmp.hubPegs) _ (fun t b => ?_) _ u) _ _
  split
  · exact pegChanged_hubPegs t b w.view
  · rfl

theorem hubPeg_setHubPeg (h v : Nat) : (s.setHubPeg h v).hubPeg h = v % 2 ^ 32 := by
  rw [hubPeg, setHubPeg, setHubPegAt_hubPegs, num_setNum]

theorem hubPeg_setHubPeg_ne {h g : Nat} (v : Nat) (hne : g ≠ h) : (s.setHubPeg h v).hubPeg g = s.hubPeg g := by
  rw [hubPeg, setHubPeg, setHubPegAt_hubPegs]
  exact Sparse.get_set_ne _ _ hne.symm

end HubPegs

/-! PEG_SET (R166, R370) -/

section PegSet
variable {s : State} {f i : Nat} {e : Entry} (h : ready s f i e 0x40)
include h

/-- A PEG_SET of a row's kind has its operation's effect. -/
theorem live_pegSet {kind : Nat} (hkind : e.u8 8 = kind) (k : Entry → State → State) : s.live (s.pegSet f i kind k) = .next (k e s) :=
  (live_ready h _).trans (congrArg _ (if_pos hkind))

section Write
variable (hkind : e.u8 8 = 0)
include hkind

theorem exec_pegSetWrite_owned (hown : s.ownsPeg f (e.u16 0x0A) = true) : exec (.pegSetWrite f i) s =
    .next ((s.setHubPeg (e.u16 0x0A) (e.u32 0x0C)).completeIdx f e.idx 0 (pegResult (e.u16 0x0A) (e.u32 0x0C))) :=
  (live_pegSet h hkind _).trans (congrArg _ (if_pos hown))

theorem exec_pegSetWrite_foreign (hown : s.ownsPeg f (e.u16 0x0A) = false) :
    exec (.pegSetWrite f i) s = .next (s.complete f e 0x12 (leBytes 2 (e.u16 0x0A))) :=
  (live_pegSet h hkind _).trans (congrArg _ (if_neg (Bool.eq_false_iff.1 hown)))

end Write

/-! ADD (R526) -/

/-- Each port with the end of what the function's entries before an index wrote last there. -/
def portsBefore (s : State) (f i : Nat) : List (Nat × Nat) := [0, 1].filterMap fun p => (s.lastBusBefore f i p).map fun a => (p, a)

section Add
variable (hkind : e.u8 8 = 1)
include hkind

theorem exec_pegSetAdd_foreign (hown : s.ownsPeg f (e.u16 0x0A) = false) :
    exec (.pegSetAdd f i) s = .next (s.complete f e 0x12 (leBytes 2 (e.u16 0x0A))) :=
  (live_pegSet h hkind _).trans (congrArg _ (if_pos (by rw [hown]; rfl)))

variable (hown : s.ownsPeg f (e.u16 0x0A) = true)
include hown

theorem exec_pegSetAdd_owned : exec (.pegSetAdd f i) s = .next (
    if s.earlierHas f e Entry.places then s
    else if (s.portsBefore f i).isEmpty then s.pegAdded f e
    else if (s.portsBefore f i).any fun p => !s.busOk p.1 then (s.raiseSource 7).complete f e 0x0B (leBytes 2 (e.u16 0x0A))
    else ((s.portsBefore f i).foldl (fun u p => u.issueOrdering p.1 (p.2 - 4) f (.pegAdd f i)) s).setEntry f
      { e with stage := .busy, left := (s.portsBefore f i).length }) :=
  (live_pegSet h hkind _).trans (congrArg _ (if_neg (by rw [hown]; decide)))

theorem exec_pegSetAdd_waits (hplaces : s.earlierHas f e Entry.places = true) : exec (.pegSetAdd f i) s = .next s := by
  rw [exec_pegSetAdd_owned h hkind hown, if_pos hplaces]

variable (hplaces : s.earlierHas f e Entry.places = false)
include hplaces

theorem exec_pegSetAdd_adds (hnone : s.portsBefore f i = []) : exec (.pegSetAdd f i) s = .next (s.pegAdded f e) := by
  rw [exec_pegSetAdd_owned h hkind hown, hplaces, hnone]
  rfl

theorem exec_pegSetAdd_asks (hsome : s.portsBefore f i ≠ []) (hup : ∀ p ∈ s.portsBefore f i, s.busOk p.1 = true) :
    exec (.pegSetAdd f i) s = .next (((s.portsBefore f i).foldl (fun u p => u.issueOrdering p.1 (p.2 - 4) f (.pegAdd f i)) s).setEntry f
      { e with stage := .busy, left := (s.portsBefore f i).length }) := by
  have hall : ¬ ((s.portsBefore f i).any fun p => !s.busOk p.1) = true := by simpa using hup
  rw [exec_pegSetAdd_owned h hkind hown, hplaces, if_neg Bool.false_ne_true, if_neg (by simpa using hsome), if_neg hall]

theorem exec_pegSetAdd_fails {p : Nat × Nat} (hp : p ∈ s.portsBefore f i) (hdown : s.busOk p.1 = false) :
    exec (.pegSetAdd f i) s = .next ((s.raiseSource 7).complete f e 0x0B (leBytes 2 (e.u16 0x0A))) := by
  have hany : ((s.portsBefore f i).any fun p => !s.busOk p.1) = true := List.any_eq_true.2 ⟨p, hp, by rw [hdown]; rfl⟩
  rw [exec_pegSetAdd_owned h hkind hown, hplaces, if_neg Bool.false_ne_true,
    if_neg (by simpa using List.ne_nil_of_mem hp), if_pos hany]

end Add

/-! WAIT -/

/-- A WAIT takes its place among the hub's waits. -/
def joinWait (s : State) (f i : Nat) (e : Entry) : State :=
  ({ s with cmp := { s.cmp with waits := s.cmp.waits ++ [PegWait.mk f i (e.u16 0x0A) (e.u32 0x0C)] } } : State).busy f e

section Wait
variable (hkind : e.u8 8 = 2)
include hkind

theorem exec_pegSetWait_foreign (hown : s.ownsPeg f (e.u16 0x0A) = false) :
    exec (.pegSetWait f i) s = .next (s.complete f e 0x12 (leBytes 2 (e.u16 0x0A))) :=
  (live_pegSet h hkind _).trans (congrArg _ (if_pos (by rw [hown]; rfl)))

variable (hown : s.ownsPeg f (e.u16 0x0A) = true)
include hown

theorem exec_pegSetWait_owned : exec (.pegSetWait f i) s = .next (
    if pegMet (s.hubPeg (e.u16 0x0A)) (e.u32 0x0C) then s.complete f e 0 (pegResult (e.u16 0x0A) (s.hubPeg (e.u16 0x0A)))
    else if s.drawerState f ≠ 0 then s.complete f e 0x11 (leBytes 2 (e.u16 0x0A))
    else if 64 ≤ (s.cmp.waits.filter (·.fid == f)).length then s.complete f e 0x12 (leBytes 2 (e.u16 0x0A))
    else s.joinWait f i e) :=
  (live_pegSet h hkind _).trans (congrArg _ (if_neg (by rw [hown]; decide)))

theorem exec_pegSetWait_met (hmet : pegMet (s.hubPeg (e.u16 0x0A)) (e.u32 0x0C) = true) :
    exec (.pegSetWait f i) s = .next (s.complete f e 0 (pegResult (e.u16 0x0A) (s.hubPeg (e.u16 0x0A)))) := by
  rw [exec_pegSetWait_owned h hkind hown, if_pos hmet]

variable (hmet : pegMet (s.hubPeg (e.u16 0x0A)) (e.u32 0x0C) = false)
include hmet

theorem exec_pegSetWait_stopped (hstop : s.drawerState f ≠ 0) :
    exec (.pegSetWait f i) s = .next (s.complete f e 0x11 (leBytes 2 (e.u16 0x0A))) := by
  rw [exec_pegSetWait_owned h hkind hown, if_neg (Bool.eq_false_iff.1 hmet), if_pos hstop]

variable (hgo : s.drawerState f = 0)
include hgo

theorem exec_pegSetWait_full (hfull : 64 ≤ (s.cmp.waits.filter (·.fid == f)).length) :
    exec (.pegSetWait f i) s = .next (s.complete f e 0x12 (leBytes 2 (e.u16 0x0A))) := by
  rw [exec_pegSetWait_owned h hkind hown, if_neg (Bool.eq_false_iff.1 hmet), if_neg (not_not.2 hgo), if_pos hfull]

theorem exec_pegSetWait_waits (hroom : (s.cmp.waits.filter (·.fid == f)).length < 64) :
    exec (.pegSetWait f i) s = .next (s.joinWait f i e) := by
  rw [exec_pegSetWait_owned h hkind hown, if_neg (Bool.eq_false_iff.1 hmet), if_neg (not_not.2 hgo), if_neg (Nat.not_le.2 hroom)]

end Wait

/-! BIND and UNBIND (R152, R166) -/

/-- A view is bound to a hub peg, in place of what it was bound to. -/
def bindView (s : State) (f slot logical view h : Nat) : State :=
  let t := s.unbind f slot logical view
  { t with cmp := { t.cmp with views := t.cmp.views ++ [ViewBinding.mk f slot logical view h] } }

section Bind
variable (hkind : e.u8 8 = 3)
include hkind

theorem exec_pegSetBind_waits (hbusy : s.slotQuiet f e (e.u8 0x10) = false) : exec (.pegSetBind f i) s = .next s :=
  (live_pegSet h hkind _).trans (congrArg _ (if_pos (by rw [hbusy]; rfl)))

variable (hquiet : s.slotQuiet f e (e.u8 0x10) = true)
include hquiet

theorem exec_pegSetBind_quiet : exec (.pegSetBind f i) s = .next (
    if !s.ownsPeg f (e.u16 0x0A) ∨ !s.viewExists f e then s.complete f e 0x12 (leBytes 2 (e.u16 0x0A))
    else (s.bindView f (e.u8 0x10) (e.u16 0x12) (e.u8 0x11) (e.u16 0x0A)).complete f e 0 (leBytes 2 (e.u16 0x0A))) :=
  (live_pegSet h hkind _).trans (congrArg _ (if_neg (by rw [hquiet]; decide)))

theorem exec_pegSetBind_refused (hno : s.ownsPeg f (e.u16 0x0A) = false ∨ s.viewExists f e = false) :
    exec (.pegSetBind f i) s = .next (s.complete f e 0x12 (leBytes 2 (e.u16 0x0A))) := by
  rw [exec_pegSetBind_quiet h hkind hquiet, if_pos (by simpa using hno)]

theorem exec_pegSetBind_binds (hown : s.ownsPeg f (e.u16 0x0A) = true) (hview : s.viewExists f e = true) : exec (.pegSetBind f i) s =
    .next ((s.bindView f (e.u8 0x10) (e.u16 0x12) (e.u8 0x11) (e.u16 0x0A)).complete f e 0 (leBytes 2 (e.u16 0x0A))) := by
  rw [exec_pegSetBind_quiet h hkind hquiet, if_neg (by simp [hown, hview])]

end Bind

section Unbind
variable (hkind : e.u8 8 = 4)
include hkind

theorem exec_pegSetUnbind_waits (hbusy : s.slotQuiet f e (e.u8 0x10) = false) : exec (.pegSetUnbind f i) s = .next s :=
  (live_pegSet h hkind _).trans (congrArg _ (if_pos (by rw [hbusy]; rfl)))

variable (hquiet : s.slotQuiet f e (e.u8 0x10) = true)
include hquiet

theorem exec_pegSetUnbind_quiet : exec (.pegSetUnbind f i) s = .next (
    if !s.viewExists f e then s.complete f e 0x12 [0, 0]
    else (s.unbind f (e.u8 0x10) (e.u16 0x12) (e.u8 0x11)).complete f e 0 [0, 0]) :=
  (live_pegSet h hkind _).trans (congrArg _ (if_neg (by rw [hquiet]; decide)))

theorem exec_pegSetUnbind_refused (hno : s.viewExists f e = false) : exec (.pegSetUnbind f i) s = .next (s.complete f e 0x12 [0, 0]) := by
  rw [exec_pegSetUnbind_quiet h hkind hquiet, hno]
  rfl

theorem exec_pegSetUnbind_unbinds (hview : s.viewExists f e = true) :
    exec (.pegSetUnbind f i) s = .next ((s.unbind f (e.u8 0x10) (e.u16 0x12) (e.u8 0x11)).complete f e 0 [0, 0]) := by
  rw [exec_pegSetUnbind_quiet h hkind hquiet, hview]
  rfl

end Unbind
end PegSet

/-! The last write before an index (R526) -/

/-- A fold that keeps what it has or takes the next element ends at an element of its list. -/
theorem mem_of_foldl_choice {α : Type} {g : Option α → α → Option α} (hg : ∀ o x, g o x = o ∨ g o x = some x) {l : List α} {y : α}
    (h : l.foldl g none = some y) : y ∈ l := by
  have hinv : ∀ (l : List α) (o : Option α), l.foldl g o = some y → o = some y ∨ y ∈ l := fun l => by
    induction l with
    | nil => exact fun o ho => .inl ho
    | cons x l ih =>
      intro o ho
      rcases ih _ ho with hx | hl
      · rcases hg o x with hkeep | htake
        · exact .inl (hkeep ▸ hx)
        · exact .inr (List.mem_cons.2 (.inl (Option.some.inj (hx.symm.trans htake))))
      · exact .inr (List.mem_cons_of_mem x hl)
  exact (hinv l none h).resolve_left (Option.some_ne_none y).symm

theorem lastBusBefore_mem {s : State} {f i p a : Nat} (h : s.lastBusBefore f i p = some a) :
    ∃ x ∈ (s.fn f).lastBus, x.port = p ∧ x.addr = a ∧ 1 ≤ subMod (2 ^ 32) i x.idx ∧ subMod (2 ^ 32) i x.idx < 2 ^ 31 := by
  obtain ⟨x, hfold, rfl⟩ := Option.map_eq_some_iff.1 h
  have hmem := mem_of_foldl_choice (fun o y => by
    cases o with
    | none => exact .inr rfl
    | some z => exact (ite_eq_or_eq _ (some y) (some z)).symm) hfold
  obtain ⟨hnote, hbefore⟩ := List.mem_filter.1 hmem
  simp only [Bool.and_eq_true, beq_iff_eq, decide_eq_true_eq] at hbefore
  obtain ⟨⟨hport, hone⟩, hhalf⟩ := hbefore
  exact ⟨x, hnote, hport, rfl, hone, hhalf⟩

/-! The owner byte of a block (R151) -/

section Block
variable (s : State) (b v : Nat)

theorem setPegBlock_cmp : (s.setPegBlock b v).cmp = { s.cmp with
    waits := s.cmp.waits.filter fun w => !(w.peg / 64 == b), views := s.cmp.views.filter fun w => !(w.hubPeg / 64 == b)
    hubPegs := s.cmp.hubPegs.keep fun h => !(h / 64 == b), hubAt := s.cmp.hubAt.keep fun h => !(h / 64 == b) } := by
  have hwaits := fun t : State => foldl_keep State.cmp (fun u (w : PegWait) => u.completeIdx w.fid w.entry 0x0D (leBytes 2 w.peg))
    (fun u w => completeIdx_cmp u _ _ _ _) (s.cmp.waits.filter fun w => w.peg / 64 == b) t
  unfold setPegBlock
  dsimp only
  rw [setObj_cmp]
  dsimp only
  rw [hwaits]

theorem setPegBlock_obj : (s.setPegBlock b v).obj 0x2340 (b + 1) = v := obj_setObj _ 0x2340 (b + 1) 0 v

variable {b}

theorem setPegBlock_hubPeg_in {h : Nat} (hin : h / 64 = b) : (s.setPegBlock b v).hubPeg h = 0 := by
  rw [hubPeg, setPegBlock_cmp]
  exact Sparse.get_filter_out _ s.cmp.hubPegs (fun g => !(g / 64 == b)) h (by simpa using hin)

theorem setPegBlock_hubPeg_out {h : Nat} (hout : h / 64 ≠ b) : (s.setPegBlock b v).hubPeg h = s.hubPeg h := by
  rw [hubPeg, setPegBlock_cmp]
  exact Sparse.get_filter _ s.cmp.hubPegs (fun g => !(g / 64 == b)) h (by simpa using hout)

theorem setPegBlock_waits : ∀ w ∈ (s.setPegBlock b v).cmp.waits, w.peg / 64 ≠ b := by simp [setPegBlock_cmp]

theorem setPegBlock_views : ∀ w ∈ (s.setPegBlock b v).cmp.views, w.hubPeg / 64 ≠ b := by simp [setPegBlock_cmp]

variable {s v}

theorem exec_hubPegBlockWrite (hrun : s.running = true) (hl : 0 < s.level) (hb : b < 64) (hv : v ≤ 255)
    (hfree : s.obj 0x2340 (b + 1) < 128 ∨ s.drawerState (s.obj 0x2340 (b + 1) % 128) = 2) :
    exec (.hubPegBlockWrite b v) s = .next (s.setPegBlock b v) := by
  refine liveLedger_unless _ hrun hl ?_
  rintro (hblock | hvalue | ⟨hvalid, hstate⟩)
  · exact Nat.not_le.2 hb hblock
  · exact Nat.not_lt.2 hv hvalue
  · exact hfree.elim (Nat.not_lt.2 hvalid) hstate

end Block
end State
end Sys2Proof.Machine

open Sys2Proof Sys2Proof.Machine Sys2Proof.Claims

/-- Settles O17: the modular distance forward is the remainder of the difference. -/
theorem pegWaitIsMetWithinHalfTheRange : Obligations.PegWaitIsMetWithinHalfTheRange := by
  unfold Obligations.PegWaitIsMetWithinHalfTheRange
  refine ⟨fun p v _ _ => pegMet_iff p v, fun v => (pegMet_iff v v).2 ?_, fun v k _ hk => (pegMet_iff _ v).trans ?_⟩
  · rw [sub_self]
    decide
  · omega

/-- Settles O18: each kind of PEG_SET in the order of its checks, the hub's pegs after one of them has its new value, and what is left of a block
whose owner byte is written. -/
theorem hubPegsAreSetAndOwned : Obligations.HubPegsAreSetAndOwned := by
  unfold Obligations.HubPegsAreSetAndOwned
  refine ⟨fun s f i e h => ⟨State.exec_pegSetWrite_owned h, State.exec_pegSetAdd_waits h,
      fun hkind hown hplaces => ⟨State.exec_pegSetAdd_adds h hkind hown hplaces, State.exec_pegSetAdd_asks h hkind hown hplaces,
        fun _ hp hdown => State.exec_pegSetAdd_fails h hkind hown hplaces hp hdown⟩,
      fun p a => State.lastBusBefore_mem, State.exec_pegSetWait_met h,
      fun hkind hown hmet hgo hroom => ⟨_, State.exec_pegSetWait_waits h hkind hown hmet hgo hroom, rfl, rfl, rfl⟩,
      State.exec_pegSetWait_full h, State.exec_pegSetWait_stopped h,
      State.exec_pegSetBind_binds h, State.exec_pegSetUnbind_unbinds h, State.exec_pegSetBind_refused h, State.exec_pegSetUnbind_refused h,
      fun hbusy => ⟨fun hkind => State.exec_pegSetBind_waits h hkind hbusy, fun hkind => State.exec_pegSetUnbind_waits h hkind hbusy⟩,
      fun hown => ⟨fun hkind => State.exec_pegSetWrite_foreign h hkind hown, fun hkind => State.exec_pegSetAdd_foreign h hkind hown,
        fun hkind => State.exec_pegSetWait_foreign h hkind hown⟩⟩,
    fun s h v => ⟨s.hubPeg_setHubPeg h v, fun g => s.hubPeg_setHubPeg_ne v⟩,
    fun s b v hrun hl hb hv hfree => ⟨_, State.exec_hubPegBlockWrite hrun hl hb hv hfree, s.setPegBlock_obj b v,
      fun _ => s.setPegBlock_hubPeg_in v, fun _ => s.setPegBlock_hubPeg_out v, s.setPegBlock_waits v, s.setPegBlock_views v⟩⟩

end

section
/-! Functions (R159, R330, R331, R339, R360 to R363, R471): VF Enable, FLR and what it clears, wedged functions, and what ends with a
Completion Timeout. -/

namespace Sys2Proof.Machine.State
open Sys2Proof.Claims

/-! VF Enable (R331, R363) -/

section Vfs
variable (s : State)

/-- The VFs 1 to n with their pages at reset, each with its vectors. -/
def resetVfs (s : State) (vectors : Nat → Nat) (n : Nat) : State :=
  (List.range n).foldl (fun t k => t.setFn (k + 1) (Fn.reset (vectors k))) s

theorem resetVfs_succ (vectors : Nat → Nat) (n : Nat) :
    s.resetVfs vectors (n + 1) = (s.resetVfs vectors n).setFn (n + 1) (Fn.reset (vectors n)) := by
  simp only [resetVfs, List.range_succ, List.foldl_append, List.foldl_cons, List.foldl_nil]

theorem resetVfs_fn_out (vectors : Nat → Nat) {n k : Nat} (hout : k = 0 ∨ n < k) : (s.resetVfs vectors n).fn k = s.fn k := by
  induction n with
  | zero => rfl
  | succ n ih => rw [resetVfs_succ, fn_setFn_ne _ _ _ (by omega), ih (by omega)]

theorem resetVfs_fn_in (vectors : Nat → Nat) {n k : Nat} (hone : 1 ≤ k) (hn : k ≤ n) :
    (s.resetVfs vectors n).fn k = Fn.reset (vectors (k - 1)) := by
  induction n with
  | zero => omega
  | succ n ih =>
    rw [resetVfs_succ]
    obtain rfl | hlt := Nat.eq_or_lt_of_le hn
    · exact fn_setFn _ (n + 1) _
    · rw [fn_setFn_ne _ _ _ (by omega), ih (by omega)]

/-- Only function pages differ once the VFs are up. -/
theorem onlyPages_resetVfs (vectors : Nat → Nat) (n : Nat) : onlyPages s (s.resetVfs vectors n) :=
  foldl_keep (fun t : State => ({ t with ring := { t.ring with fns := s.ring.fns } } : State))
    (fun t k => t.setFn (k + 1) (Fn.reset (vectors k))) (fun _ _ => rfl) (List.range n) s

/-- VF Enable with a number of VFs, and none of them up yet. -/
def enabledVfs (s : State) (n : Nat) : State := { s with ring := { s.ring with vfEnable := true, numVfs := n } }

/-- The vectors that the ledger allots to the VF with a place from 0 (R363). -/
def vfVectors (s : State) (k : Nat) : Nat := (nth 0 (s.blob 0x2402 1) (k + 1)).toNat

variable {s}

theorem exec_vfEnable {n : Nat} (hrun : s.running = true) (hn : n ≤ 127) (hoff : s.ring.vfEnable = false) (hup : s.ring.p0.up = true)
    (hl : 0 < s.level) : exec (.vfEnable n) s = .next ((s.enabledVfs n).resetVfs s.vfVectors n) := by
  have hgo : ¬ (127 < n ∨ !s.ring.p0.up ∨ s.level = 0) := by simp [hup]; omega
  refine (live_unless _ hrun hgo).trans (congrArg _ ?_)
  simp only [hoff, Bool.false_eq_true, if_false]
  rfl

theorem vfEnable_answers {n : Nat} (hrun : s.running = true) (hn : n ≤ 127) (hoff : s.ring.vfEnable = false) (hup : s.ring.p0.up = true)
    (hl : 0 < s.level) : answers (.vfEnable n) s fun t => t.ring.vfEnable = true ∧ t.ring.numVfs = n ∧
      (∀ k, 1 ≤ k → k ≤ n → t.fn k = Fn.reset (nth 0 (s.blob 0x2402 1) k).toNat) ∧ (∀ k, k = 0 ∨ n < k → t.fn k = s.fn k) ∧
      t.mem = s.mem ∧ t.led = s.led := by
  have hpages := (s.enabledVfs n).onlyPages_resetVfs s.vfVectors n
  refine ⟨_, exec_vfEnable hrun hn hoff hup hl, (congrArg (fun u : State => u.ring.vfEnable) hpages :),
    (congrArg (fun u : State => u.ring.numVfs) hpages :), fun k hone hk => ?_, fun k hout => resetVfs_fn_out _ _ hout,
    (congrArg State.mem hpages :), (congrArg State.led hpages :)⟩
  rw [resetVfs_fn_in _ _ hone hk, vfVectors, Nat.sub_add_cancel hone]

end Vfs

/-! Errors of PCIe TLPs (R471) -/

section TlpError
variable {s : State} {p : Nat} (hrun : s.running = true) (hp : p < 2)
include hrun hp

theorem exec_pcieTlpError : exec (.pcieTlpError p) s = .next (s.raiseSource 12) := live_guarded s _ hrun hp

theorem exec_pcieTlpError_merges (hup : (s.line 12).up = true) (hfresh : (s.line 12).sampled = false) :
    exec (.pcieTlpError p) s = .next (s.count 0x224C 6 1) :=
  (exec_pcieTlpError hrun hp).trans (congrArg _ (raiseSource_merges s 12 (by decide) hup (.inl hfresh)))

theorem pcieTlpError_answers (hdown : (s.line 12).up = false) (hfree : (s.line 12).hold = false) : answers (.pcieTlpError p) s fun t =>
    (t.line 12).up = true ∧ (∀ k, k ≠ 12 → t.line k = s.line k) ∧ { t with flt := s.flt } = s := by
  have hrises := (exec_pcieTlpError hrun hp).trans (congrArg _ (raiseSource_rises s 12 (by decide) hdown hfree))
  exact ⟨_, hrises, by rw [line_setLine], fun k hk => line_setLine_ne s 12 _ hk.symm, rfl⟩

end TlpError

/-! FLR (R360, R361) -/

section Flr
variable (s : State) (f : Nat)

/-- Every counter that is cleared reads 0, whichever others are cleared with it. -/
theorem foldl_clear_ctr (i : Nat) {k : Nat} : ∀ {l : List Nat} (t : State), k ∈ l → (l.foldl (fun u j => u.setCtr i j 0) t).ctr i k = 0 := by
  have hkept : ∀ (u : State) (j : Nat), u.ctr i k = 0 → (u.setCtr i j 0).ctr i k = 0 := fun u j hu => by
    by_cases hkey : objKey i j 0 = objKey i k 0
    · exact (congrArg (Sparse.num (u.setCtr i j 0).led.ctrs) hkey.symm).trans (ctr_setCtr u i j 0)
    · exact (ctr_setCtr_ne u i j 0 hkey).trans hu
  intro l t hk
  obtain ⟨pre, post, rfl⟩ := List.append_of_mem hk
  rw [List.foldl_append, List.foldl_cons]
  exact foldl_inv (fun u : State => u.ctr i k = 0) _ hkept post _ (ctr_setCtr _ i k 0)

/-- The function's counters, cleared (R360). -/
def clearFnCtrs (s : State) (f : Nat) : State := (List.range 9).foldl (fun u k => u.setCtr (fnCtr f) k 0) s

theorem clearFnCtrs_fn (g : Nat) : (s.clearFnCtrs f).fn g = s.fn g :=
  foldl_keep (fun u : State => u.fn g) (fun u k => u.setCtr (fnCtr f) k 0) (fun _ _ => rfl) (List.range 9) s

theorem clearFnCtrs_ctr {k : Nat} (hk : k < 9) : (s.clearFnCtrs f).ctr (fnCtr f) k = 0 :=
  foldl_clear_ctr (fnCtr f) s (List.mem_range.2 hk)

/-- The function's page at reset, but for the discards that FLR waits for, and its counters cleared (R360). -/
def resetPage (s : State) (f : Nat) : State :=
  (s.setFn f { Fn.reset (s.fn f).vectors with flrAt := if s.movesLeft f then some s.now else none }).clearFnCtrs f

theorem resetPage_fn : (s.resetPage f).fn f = { Fn.reset (s.fn f).vectors with flrAt := if s.movesLeft f then some s.now else none } :=
  (clearFnCtrs_fn _ f f).trans (fn_setFn s f _)

theorem resetPage_ctr {k : Nat} (hk : k < 9) : (s.resetPage f).ctr (fnCtr f) k = 0 := clearFnCtrs_ctr _ f hk

/-- PF0's mailbox, reset with its page (R360). -/
def clearMailbox (s : State) (f : Nat) : State :=
  if f = 0 then { s with led := { s.led with mbBase := 0, mbDone := 0, mbIntEn := false, mbBusy := false, mbError := false } } else s

theorem clearMailbox_fn (g : Nat) : (s.clearMailbox f).fn g = s.fn g := by
  unfold clearMailbox
  split <;> rfl

theorem clearMailbox_ctr (i k : Nat) : (s.clearMailbox f).ctr i k = s.ctr i k := by
  unfold clearMailbox
  split <;> rfl

/-- FLR ends with the page's reset, whatever the drawer has lost before (R360). -/
theorem flrEffects_eq : ∃ t : State, s.flrEffects f = (t.resetPage f).clearMailbox f := by
  generalize hends : s.flrEffects f = u
  unfold flrEffects at hends
  extract_lets s1 s2 s3 cmp clu hands s4 s5 s6 page s7 s8 at hends
  have hreset : s8 = s6.resetPage f := rfl
  clear_value s8
  subst hreset
  exact ⟨s6, hends.symm⟩

variable {s f} (hrun : s.running = true)

theorem exec_flr_wedged (hwedged : (s.fn f).wedged = true) : exec (.flr f) s = .next s :=
  (congrArg s.live (if_pos hwedged)).trans (live_self s)

include hrun in
theorem exec_flr (hwell : (s.fn f).wedged = false) : exec (.flr f) s = .next (s.flrEffects f) :=
  (live_running s _ hrun).trans (congrArg _ (if_neg (Bool.eq_false_iff.1 hwell)))

include hrun in
theorem flr_answers (hwell : (s.fn f).wedged = false) : answers (.flr f) s fun t =>
    (∃ v x, t.fn f = { Fn.reset v with flrAt := x }) ∧ ∀ k, k < 9 → t.ctr (fnCtr f) k = 0 := by
  obtain ⟨u, hu⟩ := s.flrEffects_eq f
  exact ⟨_, (exec_flr hrun hwell).trans (congrArg _ hu), ⟨_, _, (clearMailbox_fn _ f f).trans (u.resetPage_fn f)⟩,
    fun k hk => (clearMailbox_ctr _ f _ k).trans (u.resetPage_ctr f hk)⟩

/-! Wedged functions (R361, R471) -/

/-- A cause of a free line raises it. -/
theorem newCauses_rises {src : Nat} (hup : (s.line src).up = false) (hhold : (s.line src).hold = false) :
    s.newCauses src 1 true = s.setLine src { s.line src with up := true } := by
  simp [newCauses, setCondition, hup, hhold, count]

include hrun in
theorem flrWedgeTimeout_answers {u : Nat} (hasked : (s.fn f).flrAt = some u) (hwell : (s.fn f).wedged = false)
    (hlate : u + 100000000000 ≤ s.now) (hup : (s.line 14).up = false) (hhold : (s.line 14).hold = false) :
    answers (.flrWedgeTimeout f) s fun t =>
      t.fn f = { s.fn f with wedged := true } ∧ (t.line 14).up = true ∧ (∀ g, g ≠ f → t.fn g = s.fn g) ∧ t.mem = s.mem := by
  have hexec : exec (.flrWedgeTimeout f) s = .next ((s.setFn f { s.fn f with wedged := true }).newCauses 14 1 true) := by
    refine (live_running s _ hrun).trans (congrArg _ ?_)
    rw [hasked]
    exact if_pos ⟨hlate, by rw [hwell]; rfl⟩
  have hrises := newCauses_rises (s := s.setFn f { s.fn f with wedged := true }) hup hhold
  exact ⟨_, hexec.trans (congrArg _ hrises), by rw [setLine_fn, fn_setFn], by rw [line_setLine],
    fun g hg => by rw [setLine_fn, fn_setFn_ne s f _ hg.symm], rfl⟩

end Flr

/-! Ordering reads and Completion Timeouts (R159, R330, R339, R362) -/

section Timeouts
variable {s : State}

theorem exec_orderingReadComplete {id : Nat} {r : OrderingRead} (ok : Bool) (hrun : s.running = true)
    (hread : s.fab.orderings.find? (·.id == id) = some r) : exec (.orderingReadComplete id ok) s = .next (s.orderingDone r ok) := by
  refine (live_running s _ hrun).trans (congrArg _ ?_)
  rw [hread]

/-- The entries that read or write over PCIe themselves, and whose failure is their status alone. -/
def plainPcie : List Nat := [0x31, 0x38, 0x39, 0x3B, 0x48]

theorem plainPcie_subset : plainPcie ⊆ usesPcie := by decide

theorem timeoutEntry_plain {f : Nat} {e : Entry} (hop : e.opcode ∈ plainPcie) :
    s.timeoutEntry f e = (s.raiseSource 7).complete f e 0x0B e.plainResult := by
  obtain ⟨hcopy, hmodify, hmove, hadvise, hload⟩ :
      e.opcode ≠ 0x02 ∧ e.opcode ≠ 0x18 ∧ e.opcode ≠ 0x28 ∧ e.opcode ≠ 0x29 ∧ e.opcode ≠ 0x30 := by
    simp only [plainPcie, List.mem_cons, List.not_mem_nil, or_false] at hop
    omega
  simp [timeoutEntry, earlyResult, hcopy, hmodify, hmove, hadvise, hload]

variable {f i : Nat} (hfn : f ≠ 128)
include hfn

theorem exec_completionTimeout_fetch (hrun : s.running = true) (hnext : i = (s.fn f).wrCons) (hserved : s.nextServed = some f) :
    exec (.completionTimeout f i) s = .next (s.failedFetch f) := by
  refine (live_running s _ hrun).trans (congrArg _ ?_)
  rw [if_neg hfn, if_pos ⟨hnext, hserved⟩]

/-- A ready entry, with no ordering read in flight, has met the timeout of its own access. -/
theorem exec_completionTimeout_entry {op : Nat} {e : Entry} (h : ready s f i e op) (hop : op ∈ plainPcie) (hnone : s.fab.orderings = [])
    (hserved : s.nextServed ≠ some f) :
    exec (.completionTimeout f i) s = .next ((s.raiseSource 7).complete f e 0x0B e.plainResult) := by
  obtain ⟨hrun, hfind, hstage, rfl, hstart, hearly⟩ := h
  have hentry := runEntry_ready s (k := fun e t => t.timeoutEntry f e) hfind hstage (plainPcie_subset hop) hstart hearly
  refine (live_running s _ hrun).trans (congrArg _ ?_)
  rw [if_neg hfn, if_neg fun hfetch => hserved hfetch.2, hnone, List.find?_nil, hfind, Option.map_some, hstage]
  exact hentry.trans (timeoutEntry_plain hop)

end Timeouts
end Sys2Proof.Machine.State

open Sys2Proof Sys2Proof.Machine Sys2Proof.Claims

/-- Settles O12: the rows of functions that come up, are reset or are wedged, and of requests of the device that end, by what they find. -/
theorem functionsResetAndTimeOut : Obligations.FunctionsResetAndTimeOut := by
  unfold Obligations.FunctionsResetAndTimeOut
  refine ⟨fun s hrun => ⟨fun n hn hoff hup hl => State.vfEnable_answers hrun hn hoff hup hl,
      fun p hp hdown hfree => State.pcieTlpError_answers hrun hp hdown hfree,
      fun p hp hup hfresh => State.exec_pcieTlpError_merges hrun hp hup hfresh⟩,
    fun s f hrun => ⟨State.exec_flr_wedged, fun hwell => State.flr_answers hrun hwell,
      fun u hasked hwell hlate hup hhold => State.flrWedgeTimeout_answers hrun hasked hwell hlate hup hhold⟩,
    fun s id ok r hrun hread => State.exec_orderingReadComplete ok hrun hread,
    fun s f i hrun hfn hnext hserved => State.exec_completionTimeout_fetch hfn hrun hnext hserved,
    fun s f i op e h hfn hop hnone hserved => State.exec_completionTimeout_entry hfn h hop hnone hserved⟩

end

section
/-! D ports and the routes (R168 to R170, R190 to R193, R471): what the rows of a port's link and the writes of LINK_ENABLE and ROUTE_COMMAND
answer, each by the state that it finds. -/

namespace Sys2Proof.Machine.State
open Sys2Proof.Claims

/-- A row that meets its obstacle changes nothing. -/
theorem live_blocked {s : State} {P : Prop} [Decidable P] (t : State) (h : P) : s.live (if P then s else t) = .next s := by
  rw [if_pos h, live_self]

/-! DERONE_LINK follows the ports (R471) -/

section Condition
variable (s : State)

@[simp] theorem newCauses_obj (src n : Nat) (b : Bool) (i k m : Nat) : (s.newCauses src n b).obj i k m = s.obj i k m := by
  rw [newCauses, count_obj]
  exact (congrArg (fun u : State => u.obj i k m) (setCondition_frame s src b) :)

@[simp] theorem newCauses_out (src n : Nat) (b : Bool) : (s.newCauses src n b).out = s.out := by
  rw [newCauses, count_out]
  exact (congrArg State.out (setCondition_frame s src b) :)

@[simp] theorem judgeDerone_obj (before : State) (i k m : Nat) : (s.judgeDerone before).obj i k m = s.obj i k m := newCauses_obj s 9 _ _ i k m

@[simp] theorem judgeDerone_out (before : State) : (s.judgeDerone before).out = s.out := newCauses_out s 9 _ _

end Condition

/-! The writes of ledger objects (R436) -/

/-- Marking an object for flash touches the marks alone. -/
theorem markFlash_frame (s : State) (i b n : Nat) :
    { s.markFlash i b n with led := { (s.markFlash i b n).led with flashDue := s.led.flashDue } } = s := by
  unfold markFlash
  split
  · split <;> rfl
  · rfl

theorem putObj_out (s : State) (i b n v : Nat) : (s.putObj i b n v).out = s.out := (congrArg State.out (markFlash_frame (s.setObj i b n v) i b n) :)

theorem putObj_moduleId (s : State) (i b n v : Nat) : (s.putObj i b n v).moduleId = s.moduleId :=
  (congrArg State.moduleId (markFlash_frame (s.setObj i b n v) i b n) :)

/-! Links (R168 to R170) -/

section Link
variable {s : State} {p : Nat}

theorem deroneTrainingDone_miswired (q : Nat) (hrun : s.running = true) (htrain : s.obj (0x2808 + p) 2 = 1) (henabled : s.obj (0x2808 + p) 1 ≠ 0) :
    answers (.deroneTrainingDone p s.moduleId q) s fun t => t.obj (0x2808 + p) 2 = 4 ∧ t.out = s.out := by
  refine ⟨_, (live_unless _ hrun (not_or.2 ⟨not_not.2 htrain, henabled⟩)).trans (congrArg _ (if_pos rfl)), ?_, ?_⟩
  · rw [judgeDerone_obj, obj_setObj]
  · rw [judgeDerone_out, setObj_out, setObj_out, setObj_out]

theorem exec_deroneTrainingDone_idle (m q : Nat) (hst : s.obj (0x2808 + p) 2 ≠ 1) : exec (.deroneTrainingDone p m q) s = .next s :=
  live_blocked _ (.inl hst)

theorem exec_deroneLinkDown_idle (hst : s.obj (0x2808 + p) 2 ≠ 2) : exec (.deroneLinkDown p) s = .next s := live_blocked _ hst

/-- The report of a degraded link, in the window with a number (R170, log 147). -/
def reportDegraded (s : State) (p w : Nat) : State :=
  let s1 := s.countSince (0x5280 + p) 9 (s.obj (0x2808 + p) 5) (w * 1000000000000)
  { s1 with fab := { s1.fab with degraded := s1.fab.degraded.setNum p (w + 1) } }.raiseDevice 3 (1 * 256 + p) [1, BitVec.ofNat 8 p, 0]

theorem exec_deroneDegraded (hrun : s.running = true) (hup : s.obj (0x2808 + p) 2 = 2) (hfresh : s.fab.degraded.num p ≠ s.now / 1000000000000 + 1) :
    exec (.deroneDegraded p) s = .next (s.reportDegraded p (s.now / 1000000000000)) :=
  live_unless _ hrun (not_or.2 ⟨not_not.2 hup, hfresh⟩)

theorem exec_deroneDegraded_told (h : s.obj (0x2808 + p) 2 ≠ 2 ∨ s.fab.degraded.num p = s.now / 1000000000000 + 1) :
    exec (.deroneDegraded p) s = .next s := live_blocked _ h

theorem exec_deroneLinkEnableWrite {v : Nat} (hrun : s.running = true) (hl : 0 < s.level) (hv : v ≤ 1) :
    exec (.deroneLinkEnableWrite p v) s = .next ((s.linkEnable p v).settleHands) := liveLedger_unless _ hrun hl (Nat.not_lt.2 hv)

theorem exec_deroneLinkEnableWrite_reserved {v : Nat} (hv : 1 < v) : exec (.deroneLinkEnableWrite p v) s = .next s :=
  (congrArg s.liveLedger (if_pos hv)).trans (liveLedger_self s)

variable (s p)

theorem linkEnable_zero_obj : (s.linkEnable p 0).obj (0x2808 + p) 2 = 0 := by
  unfold linkEnable
  dsimp only
  rw [judgeDerone_obj, if_pos rfl, obj_setObj]

variable {s p}

/-- LINK_ENABLE from 0 to 1 starts training (R168). -/
theorem linkEnable_one (h : s.obj (0x2808 + p) 1 = 0) :
    s.linkEnable p 1 = ((s.putObj (0x2808 + p) 1 0 1).startTraining p).judgeDerone s := by
  unfold linkEnable
  dsimp only
  rw [if_neg (by decide), if_pos (.inl h)]

theorem linkEnable_one_trains (h : s.obj (0x2808 + p) 1 = 0) :
    (s.linkEnable p 1).obj (0x2808 + p) 2 = 1 ∧ (s.linkEnable p 1).out = s.out ++ [.deroneTraining p s.moduleId] := by
  rw [linkEnable_one h, judgeDerone_obj, judgeDerone_out, startTraining, emit_out, setObj_out, putObj_out, putObj_moduleId]
  exact ⟨obj_setObj _ (0x2808 + p) 2 0 1, rfl⟩

end Link

/-! ROUTE_COMMAND (R190 to R192) -/

section Routes
variable (s : State)

/-- The staged table and its epoch in force, and the module in SWAPPED (R190, R191). -/
def swapRoutes (s : State) : State :=
  (({ s with fab := { s.fab with active := s.blob 0x2801 2 } }).setObj 0x2800 2 0 (s.obj 0x2801 3)).setObj 0x2800 3 0 3

theorem swapRoutes_epoch : s.swapRoutes.obj 0x2800 2 = s.obj 0x2801 3 :=
  (obj_setObj_sub _ (by decide) (by decide) (by decide)).trans (obj_setObj _ 0x2800 2 0 _)

theorem swapRoutes_state : s.swapRoutes.obj 0x2800 3 = 3 := obj_setObj _ 0x2800 3 0 3

variable {s}

/-! The four commands, each in the state where it is listed (R191) -/

theorem routeCommand_drain : s.routeCommand 1 = if s.obj 0x2800 3 = 0 then some (s.holdStarts.setObj 0x2800 3 0 1) else none := by
  simp [routeCommand]

theorem routeCommand_swap : s.routeCommand 2 = if s.obj 0x2800 3 = 2 ∧ s.stagedOk = true then
    some (s.swapRoutes.raiseDevice 5 0 ([0, 0, 0, 0] ++ leBytes 4 (s.obj 0x2801 3))) else none := by
  simp [routeCommand, swapRoutes]

theorem routeCommand_resume : s.routeCommand 3 = if s.obj 0x2800 3 = 3 then some (s.setObj 0x2800 3 0 0) else none := by
  simp [routeCommand]

theorem routeCommand_abort : s.routeCommand 4 = if s.obj 0x2800 3 = 1 ∨ s.obj 0x2800 3 = 2 then some (s.setObj 0x2800 3 0 0) else none := by
  simp [routeCommand]

section Listed
variable {o : Option State} {P : Prop} [Decidable P] {t : State} (ho : o = if P then some t else none)
include ho

theorem liveLedger_listed (hrun : s.running = true) (hl : 0 < s.level) (h : P) : s.liveLedger (o.getD s) = .next t := by
  rw [ho, if_pos h]
  exact liveLedger_running s t hrun hl

/-- A command that is not listed for the present state changes nothing (R9, R191). -/
theorem liveLedger_unlisted (h : ¬ P) : s.liveLedger (o.getD s) = .next s := by
  rw [ho, if_neg h]
  exact liveLedger_self s

end Listed

theorem not_swap_listed (h : s.obj 0x2800 3 ≠ 2 ∨ s.stagedOk = false) : ¬(s.obj 0x2800 3 = 2 ∧ s.stagedOk = true) := by
  rintro ⟨hst, hok⟩
  rcases h with h | h
  · exact h hst
  · rw [h] at hok
    exact absurd hok (by decide)

theorem exec_routeDrained_busy (h : s.obj 0x2800 3 ≠ 1 ∨ s.deroneIdle s.handsOut = false) : exec .routeDrained s = .next s := by
  refine live_unguarded s _ fun hidle => ?_
  rcases h with h | h
  · exact h hidle.1
  · rw [h] at hidle
    exact absurd hidle.2 (by decide)

end Routes
end Sys2Proof.Machine.State

open Sys2Proof Sys2Proof.Machine Sys2Proof.Claims

/-- Settles O26: the rows of a D port by the state of its link, and those of the routes by the route state. -/
theorem deroneLinksAndRoutes : Obligations.DeroneLinksAndRoutes := by
  unfold Obligations.DeroneLinksAndRoutes
  refine ⟨fun s p hrun => ⟨fun m q htrain henabled hother => State.exec_deroneTrainingDone hrun htrain henabled hother,
      fun q => State.deroneTrainingDone_miswired q hrun, fun m q => State.exec_deroneTrainingDone_idle m q,
      State.exec_deroneLinkDown hrun, State.exec_deroneLinkDown_idle, ⟨State.exec_deroneDegraded hrun, State.exec_deroneDegraded_told⟩,
      fun v hv hl => State.exec_deroneLinkEnableWrite hrun hl hv, s.linkEnable_zero_obj p, State.linkEnable_one_trains,
      fun v => State.exec_deroneLinkEnableWrite_reserved⟩,
    fun s hrun hl => ⟨State.liveLedger_listed State.routeCommand_drain hrun hl, State.liveLedger_unlisted State.routeCommand_drain,
      fun hst hidle => State.live_guarded s _ hrun ⟨hst, hidle⟩, State.exec_routeDrained_busy,
      State.liveLedger_listed State.routeCommand_abort hrun hl,
      fun hdraining hdrained => State.liveLedger_unlisted State.routeCommand_abort (not_or.2 ⟨hdraining, hdrained⟩),
      State.liveLedger_listed State.routeCommand_resume hrun hl, State.liveLedger_unlisted State.routeCommand_resume,
      fun hst hok => ⟨State.liveLedger_listed State.routeCommand_swap hrun hl ⟨hst, hok⟩, rfl, s.swapRoutes_epoch, s.swapRoutes_state⟩,
      fun h => State.liveLedger_unlisted State.routeCommand_swap (State.not_swap_listed h)⟩⟩

end

section
/-! Derone packets (R172 to R176, R181 to R184, R472): what R175 makes of a packet that arrives, what the five rows of its TYPE then do, and
write transfers of one packet. -/

namespace Sys2Proof.Machine.State
open Sys2Proof.Claims

/-! What the sending of packets leaves alone: `besideLinks` is a state without what it may touch. -/

/-- A state without the fabric's own state, the counters and what has been sent. -/
def besideLinks (s : State) : State := { s with fab := FabricState.reset, led := { s.led with ctrs := [] }, out := [] }

section Links
variable {s t : State} (h : t.besideLinks = s.besideLinks)
include h
theorem links_mem : t.mem = s.mem := congrArg (·.mem) h
theorem links_cmp : t.cmp = s.cmp := congrArg (·.cmp) h
theorem links_ring : t.ring = s.ring := congrArg (·.ring) h
end Links

section Sending
variable (s : State)

@[simp] theorem besideLinks_count (i b n : Nat) : (s.count i b n).besideLinks = s.besideLinks := by
  rw [count_eq]
  split <;> rfl

@[simp] theorem besideLinks_noteLeft (pkt : List Byte) : (s.noteLeft pkt).besideLinks = s.besideLinks := by
  unfold noteLeft
  split <;> rfl

@[simp] theorem besideLinks_sendPacket (port vc source : Nat) (pkt : List Byte) :
    (s.sendPacket port vc source pkt).besideLinks = s.besideLinks := by
  rw [sendPacket, besideLinks_noteLeft, besideLinks_count, besideLinks_count]
  rfl

/-- A header that finds its bulk output granted to another stream is counted (R189). -/
def noteContention (s : State) (port vc source : Nat) : State :=
  if vc = 0 ∧ s.contended (2 * port + vc) source then s.count (0x5280 + port) 7 1 else s

theorem putPacket_eq (port vc source : Nat) (pkt : List Byte) : s.putPacket port vc source pkt =
    if (s.outQueue (2 * port + vc)).isEmpty && (s.heldOff (2 * port + vc)).isNone then (s.noteContention port vc source).sendPacket port vc source pkt
    else (s.noteContention port vc source).setOutQueue (2 * port + vc) (s.outQueue (2 * port + vc) ++ [⟨pkt, s.now, source⟩]) := rfl

@[simp] theorem besideLinks_noteContention (port vc source : Nat) : (s.noteContention port vc source).besideLinks = s.besideLinks := by
  unfold noteContention
  split
  · rw [besideLinks_count]
  · rfl

@[simp] theorem besideLinks_putPacket (port vc source : Nat) (pkt : List Byte) :
    (s.putPacket port vc source pkt).besideLinks = s.besideLinks := by
  rw [putPacket_eq]
  split
  · rw [besideLinks_sendPacket, besideLinks_noteContention]
  · exact besideLinks_noteContention s port vc source

@[simp] theorem besideLinks_sendRouted (p : Packet) : (s.sendRouted p).besideLinks = s.besideLinks := by
  unfold sendRouted
  dsimp only
  split
  · rw [besideLinks_putPacket]
  · rfl

@[simp] theorem besideLinks_answerDerone (dst kind id code : Nat) : (s.answerDerone dst kind id code).besideLinks = s.besideLinks := by
  unfold answerDerone
  dsimp only
  rw [besideLinks_sendRouted]
  split
  · rw [besideLinks_count]
  · rfl

end Sending

/-! A packet at an input (R175) -/

theorem parse_header {bytes : List Byte} {p : Packet} (h : Packet.parse bytes = some p) :
    Packet.header bytes = some p ∧ bytes.length = 32 + roundUp p.len 32 := by
  obtain ⟨hhead, hlen⟩ := Option.filter_eq_some_iff.1 h
  exact ⟨hhead, beq_iff_eq.1 hlen⟩

theorem count_moduleId (s : State) (i b n : Nat) : (s.count i b n).moduleId = s.moduleId := (congrArg State.moduleId (count_frame s i b n) :)

/-- The state in which R175 judges a packet: its port has counted it. -/
def counted (s : State) (port : Nat) (bytes : List Byte) : State := s.countArrival port (bits (leAt bytes 0 1) 4 4) bytes.length

theorem counted_moduleId (s : State) (port : Nat) (bytes : List Byte) : (s.counted port bytes).moduleId = s.moduleId :=
  (count_moduleId _ _ _ _).trans (count_moduleId _ _ _ _)

theorem counted_epoch8 (s : State) (port : Nat) (bytes : List Byte) : (s.counted port bytes).epoch8 = s.epoch8 :=
  congrArg (· % 256) ((count_obj _ _ _ _ _ _ _).trans (count_obj _ _ _ _ _ _ _))

/-- Only a READ_RESP for this module is matched to its read. -/
theorem respFits_of_other {s : State} {p : Packet} (h : p.kind ≠ 2 ∨ p.dst ≠ s.moduleId) : s.respFits p = true := by
  unfold respFits
  cases s.findXfer p.id with
  | none => rfl
  | some x => rcases h with h | h <;> simp [h]

section Arrive
variable {s : State} {port : Nat} {bytes : List Byte} (hup : s.portUp port = true)
include hup

theorem arrive_headless (hlen : 32 ≤ bytes.length) (hhead : Packet.header bytes = none) :
    (s.arrive port bytes).1 = (s.counted port bytes).count (0x5280 + port) 0x0C 1 := by
  unfold arrive
  dsimp only
  rw [if_neg (by rw [hup]; decide), if_neg (Nat.not_lt.2 hlen), hhead]
  rfl

variable {p : Packet} (hp : Packet.parse bytes = some p)
include hp

/-- R175 on a packet with all its slots. -/
theorem arrive_whole : s.arrive port bytes =
    if !(s.counted port bytes).respFits p then ((s.counted port bytes).count (0x5280 + port) 0x0C 1, none)
    else if p.epoch ≠ s.epoch8 then (((s.counted port bytes).count (0x5280 + port) 0x0D 1).answerDerone p.src 4 p.id 5, none)
    else (s.counted port bytes, some p) := by
  obtain ⟨hhead, hlen⟩ := parse_header hp
  unfold arrive
  dsimp only
  rw [if_neg (by rw [hup]; decide), if_neg (by omega), hhead]
  dsimp only
  rw [if_neg (Nat.not_lt.2 hlen.ge), if_neg (Nat.not_lt.2 hlen.le), ← counted_epoch8 s port bytes]
  rfl

theorem arrive_misfit (hfit : (s.counted port bytes).respFits p = false) :
    s.arrive port bytes = ((s.counted port bytes).count (0x5280 + port) 0x0C 1, none) := by
  rw [arrive_whole hup hp, if_pos (by rw [hfit]; rfl)]

variable (hfit : (s.counted port bytes).respFits p = true)
include hfit

theorem arrive_stale (hepoch : p.epoch ≠ s.epoch8) :
    s.arrive port bytes = (((s.counted port bytes).count (0x5280 + port) 0x0D 1).answerDerone p.src 4 p.id 5, none) := by
  rw [arrive_whole hup hp, if_neg (by rw [hfit]; decide), if_pos hepoch]

theorem arrive_valid (hepoch : p.epoch = s.epoch8) : s.arrive port bytes = (s.counted port bytes, some p) := by
  rw [arrive_whole hup hp, if_neg (by rw [hfit]; decide), if_neg (not_not.2 hepoch)]

end Arrive

/-! The rows of the five TYPEs: each is `atDestination` with what its TYPE does (R172). -/

section Rows
variable {s : State} {port kind : Nat} {bytes : List Byte} {k : Packet → State → State} (hrun : s.running = true) (hup : s.portUp port = true)
include hrun hup

theorem live_headless (hlen : 32 ≤ bytes.length) (hhead : Packet.header bytes = none) :
    s.live (s.atDestination port bytes kind k) = .next ((s.counted port bytes).count (0x5280 + port) 0x0C 1) := by
  rw [live_running s _ hrun, ← arrive_headless hup hlen hhead, atDestination, hhead]

variable {p : Packet} (hp : Packet.parse bytes = some p) (hdst : p.dst = s.moduleId) (hkind : p.kind = kind)
include hp hdst hkind

omit hup in
/-- A packet of the row's TYPE for this module has its effect where R175 lets it pass, and else what R175 does is all. -/
theorem live_atDestination : s.live (s.atDestination port bytes kind k) =
    .next ((s.arrive port bytes).2.elim (s.arrive port bytes).1 fun q => k q (s.arrive port bytes).1) := by
  rw [live_running s _ hrun, atDestination, (parse_header hp).1]
  dsimp only
  rw [if_neg (by simp [hdst, hkind])]
  cases s.arrive port bytes with
  | mk t o => cases o <;> rfl

theorem live_misfit (hfit : (s.counted port bytes).respFits p = false) :
    s.live (s.atDestination port bytes kind k) = .next ((s.counted port bytes).count (0x5280 + port) 0x0C 1) := by
  rw [live_atDestination hrun hp hdst hkind, arrive_misfit hup hp hfit]
  rfl

variable (hfit : (s.counted port bytes).respFits p = true)
include hfit

theorem live_stale (hepoch : p.epoch ≠ s.epoch8) : s.live (s.atDestination port bytes kind k) =
    .next (((s.counted port bytes).count (0x5280 + port) 0x0D 1).answerDerone p.src 4 p.id 5) := by
  rw [live_atDestination hrun hp hdst hkind, arrive_stale hup hp hfit hepoch]
  rfl

theorem live_valid (hepoch : p.epoch = s.epoch8) : s.live (s.atDestination port bytes kind k) = .next (k p (s.counted port bytes)) := by
  rw [live_atDestination hrun hp hdst hkind, arrive_valid hup hp hfit hepoch]
  rfl

end Rows

/-! A stack that has lost its interface holds what concerns it (R472) -/

section Held
variable {s : State} {port : Nat} {bytes : List Byte} {p : Packet} (hrun : s.running = true) (hup : s.portUp port = true)
  (hp : Packet.parse bytes = some p) (hdst : p.dst = s.moduleId) (hfit : (s.counted port bytes).respFits p = true) (hepoch : p.epoch = s.epoch8)
include hrun hup hp hdst hfit hepoch

theorem exec_deroneRxWrite (hkind : p.kind = 0) : exec (.deroneRxWrite port bytes) s =
    .next (if (s.counted port bytes).stackHeld [.dev (dpaOffset p.addr) p.len] then s else rxWrite port p (s.counted port bytes)) :=
  live_valid hrun hup hp hdst hkind hfit hepoch

theorem exec_deroneRxReadReq (hkind : p.kind = 1) : exec (.deroneRxReadReq port bytes) s =
    .next (if (s.counted port bytes).stackHeld [.dev (dpaOffset p.addr) p.info] then s else rxReadReq p (s.counted port bytes)) :=
  live_valid hrun hup hp hdst hkind hfit hepoch

theorem exec_deroneRxReadResp (hkind : p.kind = 2) : exec (.deroneRxReadResp port bytes) s =
    .next (if (((s.counted port bytes).findXfer p.id).map fun x => (s.counted port bytes).stackHeld x.dest).getD false then s
      else rxReadResp p (s.counted port bytes)) :=
  live_valid hrun hup hp hdst hkind hfit hepoch

end Held

theorem next_held {b : Bool} {s t : State} (h : b = true) :
    (Host.Outcome.next (if b then s else t) : Host.Outcome State Fault Refusal) = .next s := by rw [if_pos h]

theorem next_free {b : Bool} {s t : State} (h : b = false) :
    (Host.Outcome.next (if b then s else t) : Host.Outcome State Fault Refusal) = .next t := by rw [if_neg (Bool.eq_false_iff.1 h)]

/-- A read's destination is held when its stack is, and a response without a read is not. -/
theorem respHeld_false {t : State} {p : Packet} (h : ∀ x, t.findXfer p.id = some x → t.stackHeld x.dest = false) :
    ((t.findXfer p.id).map fun x => t.stackHeld x.dest).getD false = false := by
  cases hx : t.findXfer p.id with
  | none => rfl
  | some x => exact h x hx

theorem respHeld_true {t : State} {p : Packet} {x : Xfer} (hx : t.findXfer p.id = some x) (h : t.stackHeld x.dest = true) :
    ((t.findXfer p.id).map fun x => t.stackHeld x.dest).getD false = true := by
  rw [hx]
  exact h

/-! The placement of a transfer's bytes (R181, R185) -/

section Placement
variable (s : State)

/-- Marking pages dirty touches the marks alone. -/
theorem markDirty_frame (off n : Nat) : { s.markDirty off n with mem := { (s.markDirty off n).mem with dirty := s.mem.dirty } } = s := by
  unfold markDirty
  split
  · rfl
  · refine foldl_keep (fun t : State => ({ t with mem := { t.mem with dirty := s.mem.dirty } } : State)) _ (fun u k => ?_) _ s
    dsimp only
    split <;> rfl

theorem devWrite_dev (off : Nat) (bs : List Byte) : (s.devWrite off bs).mem.dev = s.mem.dev.writeBytes off bs := by
  unfold devWrite
  split
  next hnil => rw [hnil]; rfl
  next => exact (congrArg (fun t : State => t.mem.dev) (markDirty_frame _ off bs.length) :)

theorem devWrite_out (off : Nat) (bs : List Byte) : (s.devWrite off bs).out = s.out := by
  unfold devWrite
  split
  · rfl
  · exact (congrArg State.out (markDirty_frame _ off bs.length) :)

theorem devWrite_fab (off : Nat) (bs : List Byte) : (s.devWrite off bs).fab = s.fab := by
  unfold devWrite
  split
  · rfl
  · exact (congrArg State.fab (markDirty_frame _ off bs.length) :)

/-- What races with a placement is noted at the benches alone (R22). -/
theorem raceBut_frame (own : Option Nat) (ps : List Piece) : { s.raceBut own ps with cmp := s.cmp } = s := by
  refine foldl_keep (fun t : State => ({ t with cmp := s.cmp } : State)) _ (fun u q => ?_) ps
    { s with cmp := { s.cmp with placed := s.cmp.placed + 1 } }
  dsimp only
  split
  · split
    · rfl
    · split
      · split
        · rfl
        · refine foldl_keep (fun t : State => ({ t with cmp := s.cmp } : State)) _ (fun _ _ => ?_) _ u
          rfl
      · rfl
  · rfl

variable {s}

theorem mixedBytes_alone {src id off : Nat} {bs : List Byte}
    (h : ∀ c ∈ s.fab.contexts, ∀ r ∈ c.placed ++ c.crossed, overlaps off bs.length r.1 r.2 = false) :
    s.mixedBytes src id off bs = (bs, s) := by
  unfold mixedBytes
  dsimp only
  rw [if_neg]
  intro hclash
  obtain ⟨r, hr, hover⟩ := List.any_eq_true.1 hclash
  obtain ⟨c, hc, hrc⟩ := List.mem_flatMap.1 hr
  have hmem : r ∈ c.placed ++ c.crossed := by
    split at hrc
    · exact List.mem_append_right _ hrc
    · exact List.mem_append_left _ hrc
  rw [h c hc r hmem] at hover
  exact absurd hover (by decide)

variable {own : Option Nat} {src id off : Nat} {bs : List Byte}
  (h : ∀ c ∈ s.fab.contexts, ∀ r ∈ c.placed ++ c.crossed, overlaps off bs.length r.1 r.2 = false)
include h

/-- Where no other transfer in progress writes the same bytes, the bytes are placed as they are (R185). -/
theorem placeBytes_alone :
    s.placeBytes own src id off bs = ((s.devWrite off bs).raceBut own [.dev off bs.length]).notePlaced src id off bs.length := by
  rw [placeBytes, mixedBytes_alone h]

theorem placeBytes_dev : (s.placeBytes own src id off bs).mem.dev = s.mem.dev.writeBytes off bs := by
  rw [placeBytes_alone h]
  exact (congrArg (fun t : State => t.mem.dev) (raceBut_frame _ own _) :).trans (devWrite_dev s off bs)

theorem placeBytes_out : (s.placeBytes own src id off bs).out = s.out := by
  rw [placeBytes_alone h]
  exact (congrArg State.out (raceBut_frame _ own _) :).trans (devWrite_out s off bs)

theorem placeBytes_xfers : (s.placeBytes own src id off bs).fab.xfers = s.fab.xfers := by
  rw [placeBytes_alone h]
  exact (congrArg (fun t : State => t.fab.xfers) (raceBut_frame _ own _) :).trans (congrArg FabricState.xfers (devWrite_fab s off bs))

end Placement

/-! Write transfers of one packet (R181, R182) -/

section OnePacket
variable {s : State} {port : Nat} {p : Packet} (hfirst : p.first = true) (hlast : p.last = true) (hindex : p.index = 0)
include hfirst hlast hindex

/-- The packet of a transfer that is not in progress is placed at once. -/
theorem rxWrite_alone (hnew : ∀ c, s.findContext p.src p.id = some c → c.failed = true) : rxWrite port p s = s.placeWrite port p := by
  have hheld : (s.findContext p.src p.id).any (fun c => !c.failed) = false := by
    cases hc : s.findContext p.src p.id with
    | none => rfl
    | some c => simp [hnew c hc]
  unfold rxWrite
  dsimp only
  rw [if_pos hfirst, if_neg (by simp [hindex, hheld]), if_neg (by simp [hlast])]

omit hindex in
theorem placeWrite_alone {d : Nat} (hsig : p.sig = false) (harr : s.arrival p.src p.drawer p.addr p.len true = some d)
    (hland : s.landingOf d (dpaOffset p.addr) = false) : s.placeWrite port p =
    ((s.placeBytes none p.src p.id (dpaOffset p.addr) p.payload).setContext p.src p.id none).answerDerone p.src 3 p.id 0 := by
  simp [placeWrite, harr, hland, hfirst, hlast, hsig]

omit hfirst hindex in
theorem placeWrite_refused (hnone : s.findContext p.src p.id = none) (harr : s.arrival p.src p.drawer p.addr p.len true = none) :
    s.placeWrite port p = ((s.count 0x5288 8 1).setContext p.src p.id none).answerDerone p.src 4 p.id 1 := by
  have hnone' : (s.count 0x5288 8 1).findContext p.src p.id = none := by rw [findContext, count_fab]; exact hnone
  rw [placeWrite, harr]
  dsimp only
  rw [refuseWrite, hnone']
  dsimp only
  rw [if_pos hlast]

omit hfirst hlast hindex in
/-- A context that is found is one of the transfer. -/
theorem findContext_mem {src id : Nat} {c : RxContext} (h : s.findContext src id = some c) : c ∈ s.fab.contexts ∧ c.src = src ∧ c.id = id := by
  have hkey := List.find?_some h
  rw [Bool.and_eq_true, beq_iff_eq, beq_iff_eq] at hkey
  exact ⟨List.mem_of_find?_eq_some h, hkey⟩

theorem rxWrite_places {d : Nat} (hsig : p.sig = false) (hlen : p.payload.length = p.len)
    (harr : s.arrival p.src p.drawer p.addr p.len true = some d) (hland : s.landingOf d (dpaOffset p.addr) = false)
    (hnew : ∀ c ∈ s.fab.contexts, c.src = p.src → c.id = p.id → c.failed = true)
    (halone : ∀ c ∈ s.fab.contexts, ∀ r ∈ c.placed ++ c.crossed, overlaps (dpaOffset p.addr) p.len r.1 r.2 = false) :
    (rxWrite port p s).mem.dev.readBytes (dpaOffset p.addr) p.payload.length = p.payload ∧
    (∀ x, x < dpaOffset p.addr ∨ dpaOffset p.addr + p.payload.length ≤ x → (rxWrite port p s).mem.dev.read x = s.mem.dev.read x) ∧
    ∃ u : State, rxWrite port p s = u.answerDerone p.src 3 p.id 0 ∧ u.out = s.out ∧ u.fab.xfers = s.fab.xfers := by
  rw [← hlen] at halone
  have hwrite : rxWrite port p s =
      ((s.placeBytes none p.src p.id (dpaOffset p.addr) p.payload).setContext p.src p.id none).answerDerone p.src 3 p.id 0 :=
    (rxWrite_alone hfirst hlast hindex fun c hc =>
      let ⟨hmem, hsrc, hid⟩ := findContext_mem hc
      hnew c hmem hsrc hid).trans (placeWrite_alone hfirst hlast hsig harr hland)
  have hdev : (rxWrite port p s).mem.dev = s.mem.dev.writeBytes (dpaOffset p.addr) p.payload := by
    rw [hwrite, links_mem (besideLinks_answerDerone _ _ _ _ _)]
    exact placeBytes_dev halone
  rw [hdev]
  exact ⟨Ram.readBytes_writeBytes _ _ _, fun x => Ram.read_writeBytes_out _ _ _, _, hwrite, placeBytes_out halone, placeBytes_xfers halone⟩

theorem rxWrite_refused (hnone : s.findContext p.src p.id = none) (harr : s.arrival p.src p.drawer p.addr p.len true = none) :
    (rxWrite port p s).mem = s.mem ∧ (rxWrite port p s).cmp = s.cmp ∧ (rxWrite port p s).ring = s.ring ∧
    ∃ u : State, rxWrite port p s = u.answerDerone p.src 4 p.id 1 ∧ u.ctr 0x5288 8 = satAdd 64 (s.ctr 0x5288 8) 1 := by
  have hwrite := (rxWrite_alone (port := port) hfirst hlast hindex fun c hc => absurd (hnone.symm.trans hc) (by simp)).trans
    (placeWrite_refused hlast hnone harr)
  have hlinks : (rxWrite port p s).besideLinks = s.besideLinks := by
    rw [hwrite, besideLinks_answerDerone]
    exact besideLinks_count s 0x5288 8 1
  exact ⟨links_mem hlinks, links_cmp hlinks, links_ring hlinks, _, hwrite, ctr_count_self s 0x5288 8 1 (by decide)⟩

end OnePacket
end Sys2Proof.Machine.State

open Sys2Proof Sys2Proof.Machine Sys2Proof.Claims

/-- Settles O27: the five rows of a packet by what R175 makes of it, and write transfers of one packet. -/
theorem deronePacketsAtTheirDestination : Obligations.DeronePacketsAtTheirDestination := by
  unfold Obligations.DeronePacketsAtTheirDestination
  refine ⟨fun s port bytes hrun hup => ⟨fun hlen hhead c hc => ?_, fun p hp hdst hkind hfit => State.live_misfit hrun hup hp hdst hkind hfit,
      fun p hp hdst hmatch => ?_⟩,
    fun s port p d hfirst hlast hsig hindex _ hlen harr hland => State.rxWrite_places hfirst hlast hindex hsig hlen harr hland,
    fun s port p hfirst hlast hindex => State.rxWrite_refused hfirst hlast hindex⟩
  · simp only [List.mem_cons, List.not_mem_nil, or_false] at hc
    obtain rfl | rfl | rfl | rfl | rfl := hc
    all_goals exact State.live_headless hrun hup hlen hhead
  · have hfit : (s.counted port bytes).respFits p = true := by
      by_cases hkind : p.kind = 2
      · exact hmatch hkind
      · exact State.respFits_of_other (.inl hkind)
    refine ⟨fun hepoch => ?_, fun hepoch => ⟨fun hkind => ?_, fun hkind => ?_, fun hkind => ?_, fun hkind => ?_, fun hkind => ?_⟩⟩
    · refine ⟨fun hkind => ?_, fun hkind => ?_, fun hkind => ?_, fun hkind => ?_, fun hkind => ?_⟩
      all_goals exact State.live_stale hrun hup hp hdst hkind hfit hepoch
    · have hexec := State.exec_deroneRxWrite hrun hup hp hdst hfit hepoch hkind
      exact ⟨fun h => hexec.trans (State.next_free h), fun h => hexec.trans (State.next_held h)⟩
    · have hexec := State.exec_deroneRxReadReq hrun hup hp hdst hfit hepoch hkind
      exact ⟨fun h => hexec.trans (State.next_free h), fun h => hexec.trans (State.next_held h)⟩
    · have hexec := State.exec_deroneRxReadResp hrun hup hp hdst hfit hepoch hkind
      exact ⟨fun h => hexec.trans (State.next_free (State.respHeld_false h)),
        fun x hx h => hexec.trans (State.next_held (State.respHeld_true hx h))⟩
    · exact State.live_valid hrun hup hp hdst hkind hfit hepoch
    · exact State.live_valid hrun hup hp hdst hkind hfit hepoch

end

section
/-! Forwarding, flow control and the timers of transfers (R174, R179, R180, R184, R186, R188, R189): what each row answers by what it finds. -/

namespace Sys2Proof.Machine.State
open Sys2Proof.Claims

/-! Forwarding (R177, R186) -/

section Forward
variable {s : State} {port : Nat} {bytes : List Byte} {p : Packet}

/-- What becomes of a packet for another module that R175 lets pass (R176, R186). -/
def forwards (t : State) (port : Nat) (p : Packet) : State :=
  if p.hops = 15 then (t.count (0x5280 + port) 0x0E 1).answerDerone p.src 4 p.id 2
  else if t.routeEntry p.dst < 8 ∧ t.portUp (t.routeEntry p.dst) then
    (t.putPacket (t.routeEntry p.dst) p.vc port { p with hops := p.hops + 1 }.bytes).judgeInputs
  else t.answerDerone p.src 4 p.id 7

theorem exec_deroneForward (hrun : s.running = true) (hup : s.portUp port = true) (hp : Packet.parse bytes = some p)
    (hdst : p.dst ≠ s.moduleId) (hepoch : p.epoch = s.epoch8) :
    exec (.deroneForward port bytes) s = .next ((s.counted port bytes).forwards port p) := by
  have hfit : (s.counted port bytes).respFits p = true := respFits_of_other (.inr (by rwa [counted_moduleId]))
  refine (live_running s _ hrun).trans (congrArg _ ?_)
  rw [(parse_header hp).1]
  dsimp only
  rw [if_neg hdst, arrive_valid hup hp hfit hepoch]
  rfl

variable {t : State}

theorem forwards_worn (hhops : p.hops = 15) : t.forwards port p = (t.count (0x5280 + port) 0x0E 1).answerDerone p.src 4 p.id 2 := if_pos hhops

theorem forwards_on (hhops : p.hops ≠ 15) (hway : t.routeEntry p.dst < 8) (hup : t.portUp (t.routeEntry p.dst) = true) :
    t.forwards port p = (t.putPacket (t.routeEntry p.dst) p.vc port { p with hops := p.hops + 1 }.bytes).judgeInputs :=
  (if_neg hhops).trans (if_pos ⟨hway, hup⟩)

theorem forwards_stuck (hhops : p.hops ≠ 15) (hstuck : 8 ≤ t.routeEntry p.dst ∨ t.portUp (t.routeEntry p.dst) = false) :
    t.forwards port p = t.answerDerone p.src 4 p.id 7 := by
  refine (if_neg hhops).trans (if_neg ?_)
  rintro ⟨hway, hup⟩
  rcases hstuck with h | h
  · omega
  · rw [hup] at h
    exact absurd h (by decide)

end Forward

/-! Flow control (R179, R189) -/

section Flow
variable {s : State} {port vc : Nat}

theorem exec_deroneFlowControl_off (hrun : s.running = true) (hon : s.heldOff (2 * port + vc) = none) :
    exec (.deroneFlowControl port vc true) s = .next (s.setOff (2 * port + vc) (some s.now)) := by
  refine (live_running s _ hrun).trans (congrArg _ ?_)
  rw [hon]
  rfl

theorem exec_deroneFlowControl_on {u : Nat} (hrun : s.running = true) (hoff : s.heldOff (2 * port + vc) = some u) :
    exec (.deroneFlowControl port vc false) s = .next (s.flowOn port vc) := by
  refine (live_running s _ hrun).trans (congrArg _ ?_)
  rw [hoff]
  rfl

theorem exec_deroneFlowControl_stays (hon : s.heldOff (2 * port + vc) = none) : exec (.deroneFlowControl port vc false) s = .next s := by
  refine (congrArg s.live ?_).trans (live_self s)
  rw [hon]
  rfl

/-- An output that was held OFF is held no longer, and the time is counted (R189). -/
theorem endOff_held {u : Nat} (hoff : s.heldOff (2 * port + vc) = some u) :
    s.endOff port vc = (s.setOff (2 * port + vc) none).count (0x5280 + port) 6 ((s.now - u) / 1000) := by
  rw [endOff, hoff]

theorem endOff_heldOff {u : Nat} (hoff : s.heldOff (2 * port + vc) = some u) : (s.endOff port vc).heldOff (2 * port + vc) = none := by
  rw [endOff_held hoff, heldOff, count_fab]
  exact heldOff_setOff s (2 * port + vc) none

theorem endOff_ctr {u : Nat} (hoff : s.heldOff (2 * port + vc) = some u) (hctr : s.ctr (0x5280 + port) 6 < 2 ^ 64) :
    (s.endOff port vc).ctr (0x5280 + port) 6 = satAdd 64 (s.ctr (0x5280 + port) 6) ((s.now - u) / 1000) := by
  rw [endOff_held hoff]
  exact ctr_count (s.setOff (2 * port + vc) none) _ 6 _ hctr

variable (s port vc) (source : Nat) (pkt : List Byte)

theorem noteLeft_out : (s.noteLeft pkt).out = s.out := by
  unfold noteLeft
  split <;> rfl

theorem sendPacket_out : (s.sendPacket port vc source pkt).out = s.out ++ [.derone port vc pkt] := by
  rw [sendPacket, noteLeft_out, count_out, count_out]
  rfl

theorem noteContention_out : (s.noteContention port vc source).out = s.out := by
  unfold noteContention
  split
  · exact count_out _ _ _ _
  · rfl

variable {s port vc}

/-- A packet leaves at once by an output that is free and ON. -/
theorem putPacket_leaves (hempty : s.outQueue (2 * port + vc) = []) (hon : s.heldOff (2 * port + vc) = none) :
    (s.putPacket port vc source pkt).out = s.out ++ [.derone port vc pkt] := by
  rw [putPacket_eq, if_pos (by rw [hempty, hon]; rfl), sendPacket_out, noteContention_out]

/-- At an output held OFF it waits behind those that wait there. -/
theorem putPacket_waits (hoff : (s.heldOff (2 * port + vc)).isSome = true) :
    (s.putPacket port vc source pkt).out = s.out ∧
    (s.putPacket port vc source pkt).outQueue (2 * port + vc) = s.outQueue (2 * port + vc) ++ [⟨pkt, s.now, source⟩] := by
  rw [putPacket_eq, if_neg (by rw [Option.isNone_eq_false_iff.2 hoff, Bool.and_false]; decide)]
  exact ⟨noteContention_out s port vc source, outQueue_setOutQueue _ _ _⟩

end Flow

/-! The stall timer (R180) -/

section Stall
variable {s : State} {port vc : Nat} {q : Queued} {r : List Queued} (hq : s.outQueue (2 * port + vc) = q :: r)
include hq

theorem exec_deroneStallDiscard (hrun : s.running = true) (hdue : q.since + s.obj 0x2800 5 * 1000000 ≤ s.now) :
    exec (.deroneStallDiscard port vc) s = .next (((((s.setOutQueue (2 * port + vc) r).count (0x5280 + port) 8 1).raiseSource 10).lose q.packet 2).judgeInputs.settleHands) := by
  refine (live_running s _ hrun).trans (congrArg _ ?_)
  rw [hq]
  exact if_neg (Nat.not_lt.2 hdue)

theorem exec_deroneStallDiscard_early (hearly : s.now < q.since + s.obj 0x2800 5 * 1000000) : exec (.deroneStallDiscard port vc) s = .next s := by
  refine (congrArg s.live ?_).trans (live_self s)
  rw [hq]
  exact if_pos hearly

end Stall

/-! The timers of an outstanding transfer (R184) -/

section Transfer
variable {s : State} {id : Nat} {x : Xfer} (hx : s.findXfer id = some x)

/-- When a transfer without an answer times out (R184). -/
def ackDue (s : State) (x : Xfer) : Nat := (if x.resent then x.firstSent else x.lastSent) + s.obj 0x2800 6 * 1000000

include hx

theorem exec_deroneAckTimeout (hrun : s.running = true) (hdue : s.ackDue x ≤ s.now) (hleft : x.resent = false → s.packetsWait id = false) :
    exec (.deroneAckTimeout id) s = .next (((s.count 0x5288 4 1).endXfer x 0x09).settleHands) := by
  refine (live_running s _ hrun).trans (congrArg _ ?_)
  rw [hx]
  refine if_neg ?_
  rintro (⟨hfirst, hwait⟩ | hearly)
  · rw [hleft (by simpa using hfirst)] at hwait
    exact absurd hwait (by decide)
  · exact absurd hearly (Nat.not_lt.2 hdue)

theorem exec_deroneAckTimeout_early (h : s.now < s.ackDue x ∨ (x.resent = false ∧ s.packetsWait id = true)) :
    exec (.deroneAckTimeout id) s = .next s := by
  refine (congrArg s.live ?_).trans (live_self s)
  rw [hx]
  refine if_pos (h.symm.imp (fun hwait => ⟨?_, hwait.2⟩) fun hearly => hearly)
  rw [hwait.1]
  rfl

variable {u : Nat} (hbusy : x.busyAt = some u) (hdue : u + 2000000 ≤ s.now) (hrun : s.running = true)
include hbusy hdue hrun

/-- A transfer answered BUSY is sent again where its port is UP, and fails as one that finds no route where it is not (R184, R186). -/
theorem exec_deroneBusyResend :
    let y := { x with busyAt := none, resent := true, next := 0 }
    exec (.deroneBusyResend id) s = .next (if 8 ≤ s.xferPort x ∨ !s.portUp (s.xferPort x) then (s.endXfer x 0x09).settleHands
      else ((s.count 0x5288 7 1).mapXfer id fun _ => y).sendXfer y) := by
  refine (live_running s _ hrun).trans (congrArg _ ?_)
  rw [hx]
  dsimp only
  rw [hbusy]
  exact if_neg (Nat.not_lt.2 hdue)

theorem exec_deroneBusyResend_sends (hport : s.xferPort x < 8) (hup : s.portUp (s.xferPort x) = true) :
    let y := { x with busyAt := none, resent := true, next := 0 }
    exec (.deroneBusyResend id) s = .next (((s.count 0x5288 7 1).mapXfer id fun _ => y).sendXfer y) :=
  (exec_deroneBusyResend hx hbusy hdue hrun).trans (congrArg _ (if_neg (by simp [hup, hport])))

theorem exec_deroneBusyResend_lost (h : 8 ≤ s.xferPort x ∨ s.portUp (s.xferPort x) = false) :
    exec (.deroneBusyResend id) s = .next ((s.endXfer x 0x09).settleHands) :=
  (exec_deroneBusyResend hx hbusy hdue hrun).trans (congrArg _ (if_pos (h.imp_right fun hdown => by rw [hdown]; rfl)))

end Transfer

/-! Transfers that have not started (R174, R188) -/

section Starts
variable {s : State}

theorem exec_dovetailIssue {id : Nat} {h : HeldMove} (hrun : s.running = true) (hheld : s.fab.held.find? (·.id == id) = some h)
    (hdue : h.issue ≤ s.now) : exec (.dovetailIssue id) s =
    .next ({ s with fab := { s.fab with held := s.fab.held.filter (·.id != id) } }.startOp h.op) := by
  refine (live_running s _ hrun).trans (congrArg _ ?_)
  rw [hheld]
  exact if_neg (Nat.not_lt.2 hdue)

theorem exec_dovetailIssue_early {id : Nat} {h : HeldMove} (hheld : s.fab.held.find? (·.id == id) = some h) (hearly : s.now < h.issue) :
    exec (.dovetailIssue id) s = .next s := by
  refine (congrArg s.live ?_).trans (live_self s)
  rw [hheld]
  exact if_pos hearly

variable {x : Xfer} {r : List Xfer} (hwait : s.fab.waiting = x :: r)
include hwait

theorem exec_deroneTransferStart_full (hfull : 4096 ≤ s.fab.xfers.length) : exec .deroneTransferStart s = .next s := by
  refine (congrArg s.live ?_).trans (live_self s)
  rw [hwait]
  exact if_pos hfull

variable (hrun : s.running = true) (hroom : s.fab.xfers.length < 4096)
include hrun hroom

theorem exec_deroneTransferStart (hlaunch : (launch { s with fab := { s.fab with waiting := r } } x).2 = none) :
    exec .deroneTransferStart s = .next (launch { s with fab := { s.fab with waiting := r } } x).1.settleHands := by
  refine (live_running s _ hrun).trans (congrArg _ ?_)
  rw [hwait]
  dsimp only
  rw [if_neg (Nat.not_le.2 hroom), ← Prod.mk.eta (p := launch _ x), hlaunch]

theorem exec_deroneTransferStart_fails {st : Nat} (hlaunch : (launch { s with fab := { s.fab with waiting := r } } x).2 = some st) :
    exec .deroneTransferStart s = .next (((launch { s with fab := { s.fab with waiting := r } } x).1.originDone x.origin st).settleHands) := by
  refine (live_running s _ hrun).trans (congrArg _ ?_)
  rw [hwait]
  dsimp only
  rw [if_neg (Nat.not_le.2 hroom), ← Prod.mk.eta (p := launch _ x), hlaunch]

end Starts
end Sys2Proof.Machine.State

open Sys2Proof Sys2Proof.Machine Sys2Proof.Claims

/-- Settles O28: the rows of forwarding, of flow control and of the timers, each by what it finds. -/
theorem deroneForwardingAndTimers : Obligations.DeroneForwardingAndTimers := by
  unfold Obligations.DeroneForwardingAndTimers
  refine ⟨⟨fun s port bytes p hrun hup hp hdst hepoch => ?_, fun s port vc hrun => ⟨fun hon => ?_, fun u hoff hctr => ?_, ?_⟩,
      fun s port vc source pkt => ⟨State.putPacket_leaves source pkt, State.putPacket_waits source pkt⟩⟩,
    fun s hrun => ⟨fun port vc q r hq => ⟨State.exec_deroneStallDiscard hq hrun, State.exec_deroneStallDiscard_early hq⟩,
      fun id x hx => ⟨State.exec_deroneAckTimeout hx hrun, State.exec_deroneAckTimeout_early hx⟩,
      fun id x u hx hbusy hdue => ⟨State.exec_deroneBusyResend_sends hx hbusy hdue hrun, State.exec_deroneBusyResend_lost hx hbusy hdue hrun⟩,
      fun id h => State.exec_dovetailIssue hrun, fun id h => State.exec_dovetailIssue_early,
      fun x r hwait => ⟨State.exec_deroneTransferStart hwait hrun, fun st hroom => State.exec_deroneTransferStart_fails hwait hrun hroom,
        State.exec_deroneTransferStart_full hwait⟩⟩⟩
  · have hexec := State.exec_deroneForward hrun hup hp hdst hepoch
    exact ⟨fun hhops => hexec.trans (congrArg _ (State.forwards_worn hhops)),
      fun hhops hway hout => hexec.trans (congrArg _ (State.forwards_on hhops hway hout)),
      fun hhops hstuck => hexec.trans (congrArg _ (State.forwards_stuck hhops hstuck))⟩
  · exact ⟨_, State.exec_deroneFlowControl_off hrun hon, s.heldOff_setOff _ _, rfl, rfl⟩
  · exact ⟨State.exec_deroneFlowControl_on hrun hoff, State.endOff_heldOff hoff, State.endOff_ctr hoff hctr⟩
  · exact State.exec_deroneFlowControl_stays

end

section
/-! Tables and the starts of hands (R191, R194, R197, R198, R202, R203, R210, R215, R216, R229): the checks of a deal, what a table is once dealt
or cleared, when a hand begins, and the chunks of RING. -/

namespace Sys2Proof.Machine.State
open Sys2Proof.Claims

/-! A table just dealt (R198, R237) -/

section Dealt
variable (s : State) (t f cells : Nat) (d : Deal)

theorem dealt_table : ∃ c, (s.dealt t f cells d).table t = some c ∧ c.fid = f ∧ c.deal = d ∧ c.seq = 1 ∧ c.running = none ∧ c.queue = [] :=
  ⟨_, table_setTable _ t _, rfl, rfl, rfl, rfl, rfl⟩

theorem dealt_ctr {k : Nat} (hone : 1 ≤ k) (hle : k ≤ 8) : (s.dealt t f cells d).ctr (tableCtr t) k = 0 := by
  have hcleared := foldl_clear_ctr (tableCtr t) (k := k) (l := (List.range 8).map (· + 1)) s
    (List.mem_map.2 ⟨k - 1, List.mem_range.2 (by omega), by omega⟩)
  rw [List.foldl_map] at hcleared
  unfold dealt
  extract_lets s1
  have hzero : s1.ctr (tableCtr t) k = 0 := hcleared
  clear_value s1
  exact hzero

theorem dealt_table_ne {u : Nat} (h : u ≠ t) : (s.dealt t f cells d).table u = s.table u := by
  have hkept : ((List.range 8).foldl (fun st k => st.setCtr (tableCtr t) (k + 1) 0) s).table u = s.table u :=
    foldl_keep (fun st : State => st.table u) (fun st k => st.setCtr (tableCtr t) (k + 1) 0) (fun _ _ => rfl) (List.range 8) s
  unfold dealt
  extract_lets s1
  have hkept' : s1.table u = s.table u := hkept
  clear_value s1
  exact (table_setTable_ne _ t _ h.symm).trans hkept'

end Dealt

/-! TABLE_DEAL (R198) -/

section DealRows
variable {s s1 : State} {f i : Nat} {e : Entry} {b : BufRef} {d : Deal}

theorem exec_tableDeal (h : ready s f i e 0x38) (hturn : s.tableTurn f e = true) : exec (.tableDeal f i) s = .next (s.runDeal f e) :=
  (live_ready h _).trans (congrArg _ (if_pos hturn))

theorem exec_tableRedeal (h : ready s f i e 0x39) (hturn : s.tableTurn f e = true) : exec (.tableRedeal f i) s = .next (s.runRedeal f e) :=
  (live_ready h _).trans (congrArg _ (if_pos hturn))

theorem exec_tableClear (h : ready s f i e 0x3A) (hturn : s.tableTurn f e = true) : exec (.tableClear f i) s = .next (s.runClear f e) :=
  (live_ready h _).trans (congrArg _ (if_pos hturn))

theorem exec_handStart (h : ready s f i e 0x3B) (hturn : s.tableTurn f e = true) : exec (.handStart f i) s = .next (s.runHand f e) :=
  (live_ready h _).trans (congrArg _ (if_pos hturn))

/-- A deal that R198 does not permit: its context is in use, outside the drawer's range or dealt to the same rank already, or its cells
are not there. -/
def dealBarred (s1 : State) (t f : Nat) (d : Deal) : Bool :=
  (s1.table t).isSome || t < s1.obj 0x2300 7 f || s1.obj 0x2300 7 f + s1.obj 0x2300 8 f ≤ t || s1.dealtTwice t f d ||
    s1.obj 0x2300 3 f < s1.cellsHeld f + d.cells + 256

theorem dealBarred_iff (s1 : State) (t f : Nat) (d : Deal) : s1.dealBarred t f d = true ↔
    (s1.table t).isSome = true ∨ t < s1.obj 0x2300 7 f ∨ s1.obj 0x2300 7 f + s1.obj 0x2300 8 f ≤ t ∨ s1.dealtTwice t f d = true ∨
      s1.obj 0x2300 3 f < s1.cellsHeld f + d.cells + 256 := by
  simp only [dealBarred, Bool.or_eq_true, decide_eq_true_eq, or_assoc]

/-- A new deal that R202 does not permit: the context is another function's or keeps its key, or is dealt to the same rank elsewhere, or the
cells that it needs beside its own are not there. -/
abbrev redealBarred (s1 : State) (t f : Nat) (c : Table) (d : Deal) : Prop :=
  c.fid ≠ f ∨ c.deal.key = d.key ∨ s1.dealtTwice t f d = true ∨
    (c.cells < d.cells ∧ s1.obj 0x2300 3 f + c.cells < s1.cellsHeld f + max c.cells d.cells + 256)

variable (hb : e.buf 0x0C = some b)
include hb

theorem runDeal_unread {st : Nat} (hread : s.readDeal f b = (some (.inl st), s1)) :
    s.runDeal f e = s1.complete f e st (leBytes 1 (e.u8 8)) := by
  simp only [runDeal, hb, hread]

theorem runDeal_waits (hread : s.readDeal f b = (none, s1)) : s.runDeal f e = s.moveWait f e s1 := by
  simp only [runDeal, hb, hread]

theorem runDeal_read (hread : s.readDeal f b = (some (.inr d), s1)) : s.runDeal f e =
    if s1.dealBarred (e.u8 8) f d then s1.complete f e 0x12 (leBytes 1 (e.u8 8))
    else (s1.dealt (e.u8 8) f d.cells d).complete f e 0 (leBytes 1 (e.u8 8)) := by
  simp only [runDeal, hb, hread]
  rfl

/-! TABLE_REDEAL (R202) -/

variable (hquiet : s.handsBefore f e = false)
include hquiet

theorem runRedeal_unread {st : Nat} (hread : s.readDeal f b = (some (.inl st), s1)) :
    s.runRedeal f e = s1.complete f e st (leBytes 1 (e.u8 8)) := by
  simp only [runRedeal, hb, hquiet, hread, Bool.false_eq_true, if_false]

variable (hread : s.readDeal f b = (some (.inr d), s1))
include hread

theorem runRedeal_empty (hnone : s1.table (e.u8 8) = none) : s.runRedeal f e = s1.complete f e 0x12 (leBytes 1 (e.u8 8)) := by
  simp only [runRedeal, hb, hquiet, hread, hnone, Bool.false_eq_true, if_false]

theorem runRedeal_read {c : Table} (hc : s1.table (e.u8 8) = some c) : s.runRedeal f e =
    if s1.redealBarred (e.u8 8) f c d then s1.complete f e 0x12 (leBytes 1 (e.u8 8))
    else (s1.dealt (e.u8 8) f (max c.cells d.cells) d).complete f e 0 (leBytes 1 (e.u8 8)) := by
  simp only [runRedeal, hb, hquiet, hread, hc, Bool.false_eq_true, if_false]

end DealRows

/-! TABLE_CLEAR (R203) -/

section Clear
variable {s : State} {f : Nat} {e : Entry}

theorem completeIdx_table (s : State) (f i st : Nat) (r : List Byte) (t : Nat) : (s.completeIdx f i st r).table t = s.table t :=
  congrArg (fun h : HandState => Sparse.get (fun _ => none) h.tables t) (beside_hands (besideRings_completeIdx s f i st r))

theorem runClear_own {c : Table} (hc : s.table (e.u8 8) = some c) (hown : c.fid = f) :
    ∃ u : State, s.runClear f e = u.complete f e 0 (leBytes 1 (e.u8 8)) ∧ u.table (e.u8 8) = none := by
  unfold runClear
  dsimp only
  rw [hc]
  dsimp only
  rw [if_neg (not_not.2 hown)]
  refine ⟨_, rfl, ?_⟩
  exact (foldl_keep (fun u : State => u.table (e.u8 8)) _ (fun u i => completeIdx_table u f i _ _ _) _ _).trans (table_setTable _ _ _)

theorem runClear_foreign (h : ∀ c, s.table (e.u8 8) = some c → c.fid ≠ f) : s.runClear f e = s.complete f e 0x12 (leBytes 1 (e.u8 8)) := by
  unfold runClear
  dsimp only
  cases hc : s.table (e.u8 8) with
  | none => rfl
  | some c => exact if_pos (h c hc)

end Clear

/-! HAND_START (R215, R216, R229) -/

section Start
variable {s : State} {f : Nat} {e : Entry}

theorem runHand_foreign (h : ∀ c, s.table (e.u8 8) = some c → c.fid ≠ f) :
    s.runHand f e = s.complete f e 0x12 (handResult (e.u8 8) 0 0xFFFF) := by
  unfold runHand
  dsimp only
  cases hc : s.table (e.u8 8) with
  | none => rfl
  | some c => exact if_pos (h c hc)

/-- A hand over other modules waits while the route changes (R191). -/
abbrev awaitsRoute (s : State) (c : Table) : Prop := s.obj 0x2800 3 ≠ 0 ∧ s.offModule c.deal = true

/-- The context's HAND_SEQ is taken for the entry, and the limits of its hand begin (R215, step 2; R229; log 54). -/
def takesSeq (s : State) (t : Nat) (c : Table) (e : Entry) (dst : List Piece) : State :=
  let h : Hand := { newHand c e s.now with dst := dst }
  ((s.setTable t (some { c with seq := (c.seq + 1) % 2 ^ 32, running := some h, queue := c.queue.filter (· != e.idx) })).count
    (tableCtr t) 1 1).busy c.fid e

/-- A member whose entry passes step 3 of R215 goes on to join. -/
theorem beginHand_joins (t : Nat) {c : Table} (h : handEarly c.deal e = 0) :
    s.beginHand t c e = (((s.takesSeq t c e []).takeAbort t).joinHand t).settleHands := by
  unfold beginHand
  dsimp only
  rw [if_pos h, if_pos h]
  rfl

/-- What step 3 refuses becomes the member's own status. -/
theorem beginHand_fails (t : Nat) {c : Table} (h : handEarly c.deal e ≠ 0) :
    s.beginHand t c e = ((s.takesSeq t c e (s.lostDst c e)).failHand t (handEarly c.deal e) c.deal.rank).settleHands := by
  unfold beginHand
  dsimp only
  rw [if_neg h, if_neg h]
  rfl

variable {c : Table}

/-- HAND_START on a context of the function (R191, R216). -/
theorem runHand_own (hc : s.table (e.u8 8) = some c) (hown : c.fid = f) : s.runHand f e =
    if 64 ≤ s.handsAccepted f ∨ s.awaitsRoute c then s
    else if c.running.isSome ∨ c.queue ≠ [] then (s.setTable (e.u8 8) (some { c with queue := c.queue ++ [e.idx] })).busy f e
    else s.beginHand (e.u8 8) c e := by
  unfold runHand
  dsimp only
  rw [hc]
  exact if_neg (not_not.2 hown)

/-! HAND_QUEUED_START (R216) -/

section Queued
variable {i : Nat} (hc : s.table (e.u8 8) = some c) (he : s.findEntry f i = some e)
include hc he

theorem exec_handQueuedStart (hrun : s.running = true) (hop : e.opcode = 0x3B) (hown : c.fid = f) (hidle : c.running = none)
    (hturn : c.queue.head? = some i) (hroute : ¬ s.awaitsRoute c) : exec (.handQueuedStart f i) s = .next (s.beginHand (e.u8 8) c e) := by
  refine (live_running s _ hrun).trans (congrArg _ ?_)
  rw [he]
  dsimp only
  rw [hc]
  exact if_pos ⟨hop, hown, by rw [hidle]; rfl, hturn, hroute⟩

theorem exec_handQueuedStart_waits (h : c.running.isSome = true ∨ c.queue.head? ≠ some i ∨ s.awaitsRoute c) :
    exec (.handQueuedStart f i) s = .next s := by
  refine (congrArg s.live ?_).trans (live_self s)
  rw [he]
  dsimp only
  rw [hc]
  refine if_neg ?_
  rintro ⟨-, -, hidle, hturn, hroute⟩
  rcases h with h | h | h
  · rw [Option.isNone_iff_eq_none.1 hidle] at h
    exact absurd h (by decide)
  · exact h hturn
  · exact hroute h

end Queued
end Start
end Sys2Proof.Machine.State

namespace Sys2Proof.Machine

/-! The chunks of RING (R210) -/

section Ring
variable (n count : Nat)

theorem ringChunk_zero : (ringChunk n count 0).1 = 0 := by simp [ringChunk]

/-- A chunk begins where the one before it ended. -/
theorem ringChunk_succ (c : Nat) : (ringChunk n count (c + 1)).1 = (ringChunk n count c).2 := by
  simp only [ringChunk, Nat.add_one_mul]
  split <;> omega

theorem ringChunk_length (c : Nat) :
    (ringChunk n count c).2 - (ringChunk n count c).1 = count / n + (if c < count % n then 1 else 0) := by
  unfold ringChunk
  dsimp only
  rw [Nat.add_assoc, Nat.add_sub_cancel_left]

variable {n}

/-- The last chunk ends with the last element. -/
theorem ringChunk_last (hn : 0 < n) : (ringChunk n count (n - 1)).2 = count := by
  have hmod := Nat.mod_lt count hn
  have hdiv := Nat.div_add_mod count n
  obtain ⟨k, rfl⟩ : ∃ k, n = k + 1 := ⟨n - 1, by omega⟩
  rw [Nat.add_one_mul] at hdiv
  simp only [ringChunk, Nat.add_sub_cancel]
  rw [if_neg (by omega), Nat.min_eq_right (by omega)]
  omega

end Ring
end Sys2Proof.Machine

open Sys2Proof Sys2Proof.Machine Sys2Proof.Claims

/-- Settles O29: the deals by what is read of them, the starts of hands by their table, and the chunks of RING by their ends. -/
theorem tablesAndHandStarts : Obligations.TablesAndHandStarts := by
  unfold Obligations.TablesAndHandStarts
  refine ⟨⟨fun s f i e b h hturn hb => ?_, fun s t f cells d =>
      ⟨s.dealt_table t f cells d, fun k => s.dealt_ctr t f cells d, fun u => s.dealt_table_ne t f cells d⟩,
      fun s f i e b h hturn hb hquiet => ?_, fun s f i e h hturn => ?_⟩,
    fun s f i e => ⟨fun h hturn => ?_, fun c hrun he hc hop hown => ?_⟩,
    fun n count hn => ⟨ringChunk_zero n count, ringChunk_last count hn, fun c _ => ringChunk_succ n count c,
      fun c _ => ringChunk_length n count c⟩⟩
  · have hexec := State.exec_tableDeal h hturn
    refine ⟨fun st s1 hread => hexec.trans (congrArg _ (State.runDeal_unread hb hread)),
      fun s1 hread => hexec.trans (congrArg _ (State.runDeal_waits hb hread)),
      fun d s1 hread => ?_⟩
    have hdeal := hexec.trans (congrArg _ (State.runDeal_read hb hread))
    exact ⟨fun hbar => hdeal.trans (congrArg _ (if_pos ((s1.dealBarred_iff _ f d).2 hbar))),
      fun hfree => hdeal.trans (congrArg _ (if_neg (mt (s1.dealBarred_iff _ f d).1 hfree)))⟩
  · have hexec := State.exec_tableRedeal h hturn
    refine ⟨fun st s1 hread => hexec.trans (congrArg _ (State.runRedeal_unread hb hquiet hread)),
      fun d s1 hread => ⟨fun hnone => hexec.trans (congrArg _ (State.runRedeal_empty hb hquiet hread hnone)),
        fun c hc => ?_⟩⟩
    have hdeal := hexec.trans (congrArg _ (State.runRedeal_read hb hquiet hread hc))
    exact ⟨fun hbar => hdeal.trans (congrArg _ (if_pos hbar)), fun hfree => hdeal.trans (congrArg _ (if_neg hfree))⟩
  · have hexec := State.exec_tableClear h hturn
    refine ⟨fun c hc hown => ?_, fun hforeign => hexec.trans (congrArg _ (State.runClear_foreign hforeign))⟩
    obtain ⟨u, hu, hnone⟩ := State.runClear_own hc hown
    exact ⟨u, hexec.trans (congrArg _ hu), hnone⟩
  · have hexec := State.exec_handStart h hturn
    refine ⟨fun hforeign => hexec.trans (congrArg _ (State.runHand_foreign hforeign)), fun c hc hown => ?_⟩
    have howned := hexec.trans (congrArg _ (State.runHand_own hc hown))
    refine ⟨fun hwait => howned.trans (congrArg _ (if_pos hwait)), fun hroom hroute => ?_⟩
    have htaken := howned.trans (congrArg _ (if_neg (not_or.2 ⟨Nat.not_le.2 hroom, hroute⟩)))
    refine ⟨fun hbusy => htaken.trans (congrArg _ (if_pos hbusy)), fun hidle hempty => ?_⟩
    have hbegins := htaken.trans (congrArg _ (if_neg (by simp [hidle, hempty])))
    exact ⟨fun hearly => hbegins.trans (congrArg _ (State.beginHand_joins _ hearly)),
      fun hearly => hbegins.trans (congrArg _ (State.beginHand_fails _ hearly))⟩
  · refine ⟨fun hidle hturn hroute => ?_, State.exec_handQueuedStart_waits hc he⟩
    have hbegins := State.exec_handQueuedStart hc he hrun hop hown hidle hturn hroute
    exact ⟨fun hearly => hbegins.trans (congrArg _ (State.beginHand_joins _ hearly)),
      fun hearly => hbegins.trans (congrArg _ (State.beginHand_fails _ hearly))⟩

end

section
/-! What the reports of a hand come to (R228): the rank that is named is the least of a list, and the status decides whose ranks are in it. -/

namespace Sys2Proof.Machine

theorem leastOf_eq_min? (xs : List Nat) : leastOf xs = xs.min? := by
  have hsome : ∀ (ys : List Nat) (b : Nat), ys.foldl (fun b x => some (min (b.getD x) x)) (some b) = some (ys.foldl min b) := by
    intro ys
    induction ys with
    | nil => exact fun b => rfl
    | cons y ys ih => exact fun b => ih (min b y)
  cases xs with
  | nil => rfl
  | cons x xs =>
    rw [List.min?_cons', ← hsome xs x]
    exact congrArg (fun m => xs.foldl _ (some m)) (Nat.min_self x)

section Combined
variable (rs : List (Nat × Nat × Nat)) (missing leaders : List Nat)

/-- The ranks among which R228 names the least: those that the reports of a status count by, and those that are missing. -/
def ranksOf (p : Nat → Bool) : List Nat := (rs.filter fun x => p x.2.1).map (reportRank leaders) ++ missing

/-- A rank is the least that reported a status or is missing (R228). -/
def LeastNamed (p : Nat → Prop) (r : Nat) : Prop :=
  ((∃ x ∈ rs, p x.2.1 ∧ reportRank leaders x = r) ∨ r ∈ missing) ∧ (∀ x ∈ rs, p x.2.1 → r ≤ reportRank leaders x) ∧ ∀ m ∈ missing, r ≤ m

variable {rs missing leaders}

theorem mem_ranksOf {p : Nat → Bool} {r : Nat} :
    r ∈ ranksOf rs missing leaders p ↔ (∃ x ∈ rs, p x.2.1 = true ∧ reportRank leaders x = r) ∨ r ∈ missing := by
  simp only [ranksOf, List.mem_append, List.mem_map, List.mem_filter, and_assoc]

theorem leastNamed_of_leastOf {p : Nat → Bool} {r : Nat} (h : leastOf (ranksOf rs missing leaders p) = some r) :
    LeastNamed rs missing leaders (fun st => p st = true) r := by
  rw [leastOf_eq_min?] at h
  obtain ⟨hmem, hle⟩ := List.min?_eq_some_iff.1 h
  exact ⟨mem_ranksOf.1 hmem, fun x hx hp => hle _ (mem_ranksOf.2 (.inl ⟨x, hx, hp, rfl⟩)), fun m hm => hle m (mem_ranksOf.2 (.inr hm))⟩

/-- Where a report has the status or a rank is missing, a rank is named. -/
theorem leastOf_ranksOf {p : Nat → Bool} (h : (∃ x ∈ rs, p x.2.1 = true) ∨ missing ≠ []) :
    ∃ r, leastOf (ranksOf rs missing leaders p) = some r := by
  rw [leastOf_eq_min?, ← Option.isSome_iff_exists, List.isSome_min?_iff]
  rcases h with ⟨x, hx, hp⟩ | h
  · exact List.ne_nil_of_mem (mem_ranksOf.2 (.inl ⟨x, hx, hp, rfl⟩))
  · exact List.append_ne_nil_of_right_ne_nil _ h

theorem any_status {st : Nat} : (rs.any (·.2.1 == st)) = true ↔ ∃ x ∈ rs, x.2.1 = st := by
  simp only [List.any_eq_true, beq_iff_eq]

theorem any_status_not {st : Nat} (h : ∀ x ∈ rs, x.2.1 ≠ st) : ¬ (rs.any (·.2.1 == st)) = true :=
  fun hany => let ⟨x, hx, hst⟩ := any_status.1 hany; h x hx hst

theorem combineReports_mismatch (h : ∃ x ∈ rs, x.2.1 = 8) :
    (combineReports rs missing leaders).1 = 8 ∧ LeastNamed rs missing leaders (· = 8) (combineReports rs missing leaders).2 := by
  obtain ⟨r, hr⟩ := leastOf_ranksOf (missing := missing) (leaders := leaders) (p := (· == 8)) (.inl (by simpa using h))
  have hcombined : combineReports rs missing leaders = (8, r) :=
    (if_pos (any_status.2 h)).trans (congrArg (fun o : Option Nat => (8, o.getD 0xFFFF)) hr)
  rw [hcombined]
  exact ⟨rfl, by simpa using leastNamed_of_leastOf hr⟩

theorem combineReports_linkLost (hmatch : ∀ x ∈ rs, x.2.1 ≠ 8) (h : ∃ x ∈ rs, x.2.1 = 9) :
    (combineReports rs missing leaders).1 = 9 ∧ LeastNamed rs missing leaders (· = 9) (combineReports rs missing leaders).2 := by
  obtain ⟨r, hr⟩ := leastOf_ranksOf (missing := missing) (leaders := leaders) (p := (· == 9)) (.inl (by simpa using h))
  have hcombined : combineReports rs missing leaders = (9, r) :=
    (if_neg (any_status_not hmatch)).trans ((if_pos (any_status.2 h)).trans (congrArg (fun o : Option Nat => (9, o.getD 0xFFFF)) hr))
  rw [hcombined]
  exact ⟨rfl, by simpa using leastNamed_of_leastOf hr⟩

/-- With neither COLL_MISMATCH nor LINK_LOST reported, any failure or missing report decides. -/
theorem combineReports_other (hmatch : ∀ x ∈ rs, x.2.1 ≠ 8) (hlink : ∀ x ∈ rs, x.2.1 ≠ 9) : combineReports rs missing leaders =
    (leastOf (ranksOf rs missing leaders (· != 0))).elim (0, 0xFFFF) fun r => (0x0A, r) := by
  rw [combineReports, if_neg (any_status_not hmatch), if_neg (any_status_not hlink)]
  split
  next r hr => exact (congrArg (Option.elim · (0, 0xFFFF) fun r => (0x0A, r)) hr).symm
  next hr => exact (congrArg (Option.elim · (0, 0xFFFF) fun r => (0x0A, r)) hr).symm

theorem combineReports_failed (hmatch : ∀ x ∈ rs, x.2.1 ≠ 8) (hlink : ∀ x ∈ rs, x.2.1 ≠ 9) (h : (∃ x ∈ rs, x.2.1 ≠ 0) ∨ missing ≠ []) :
    (combineReports rs missing leaders).1 = 0x0A ∧ LeastNamed rs missing leaders (· ≠ 0) (combineReports rs missing leaders).2 := by
  obtain ⟨r, hr⟩ := leastOf_ranksOf (rs := rs) (leaders := leaders) (p := (· != 0)) (by simpa using h)
  rw [combineReports_other hmatch hlink, hr]
  exact ⟨rfl, by simpa using leastNamed_of_leastOf hr⟩

theorem combineReports_ok (h : ∀ x ∈ rs, x.2.1 = 0) (hall : missing = []) : combineReports rs missing leaders = (0, 0xFFFF) := by
  have hnone : ranksOf rs missing leaders (· != 0) = [] := by
    rw [ranksOf, hall, List.append_nil, List.map_eq_nil_iff, List.filter_eq_nil_iff]
    exact fun x hx => by simp [h x hx]
  rw [combineReports_other (fun x hx => by simp [h x hx]) (fun x hx => by simp [h x hx]), hnone]
  rfl

end Combined
end Sys2Proof.Machine

open Sys2Proof Sys2Proof.Machine Sys2Proof.Claims

/-- Settles O31: the status is chosen by which are reported at all, and the rank is then the least of a list that is not empty. -/
theorem reportsCombineByPrecedence : Obligations.ReportsCombineByPrecedence := by
  unfold Obligations.ReportsCombineByPrecedence
  exact fun rs missing leaders => ⟨combineReports_mismatch, combineReports_linkLost,
    fun hneither => combineReports_failed (fun x hx => (hneither x hx).1) fun x hx => (hneither x hx).2, combineReports_ok⟩

end

section
/-! The packets of a running hand (R223 to R227, R231), its limits (R229, R230) and the end of its part (R227): the packet that each row takes and
what comes of it, and what a limit that has passed does. -/

namespace Sys2Proof.Machine.State
open Sys2Proof.Claims

/-! A packet of the running hand (R223) -/

/-- A table whose n-th packet has been taken. -/
abbrev unqueued (c : Table) (n : Nat) : Table := { c with inbox := c.inbox.eraseIdx n }

/-- The state in which a table's n-th packet has been taken. -/
abbrev unqueue (s : State) (t : Nat) (c : Table) (n : Nat) : State := s.setTable t (some (unqueued c n))

/-- The member after an ABORT that it adopts (R231, item 5). -/
def adopting (h : Hand) (p : HandPkt) : Hand :=
  { h with status := if p.status = 8 ∨ p.status = 9 then p.status else 0x0A, failed := p.failed, staged := [], held := [], streams := [],
           relayed := true }

/-- The ranks that a leader tells of an ABORT, the first time that it hears of one (R231, item 4). -/
def relayRanks (d : Deal) (h : Hand) (p : HandPkt) : List Nat :=
  if h.relayed = true ∨ d.rank ≠ d.leader d.mine then [] else if (d.member p.src).group = d.mine then tellLeaders d else groupMates d

/-- The report that a leader makes of a DONE; one of another signature reports COLL_MISMATCH (R226, R228). -/
def doneReport (h : Hand) (p : HandPkt) : Nat × Nat × Nat :=
  if p.sig ≠ h.sig then (p.src, 8, p.src) else (p.src, listedStatus p.status, p.failed)

section Packets
variable {s : State} {t n : Nat} {c : Table} {h : Hand} {p : HandPkt} (hrun : s.running = true) (hc : s.table t = some c)
  (hhand : c.running = some h) (hpos : findPos (fun q : HandPkt => q.seq == h.seq && q.kind == p.kind) c.inbox = some n)
  (hget : c.inbox[n]? = some p)
include hc hhand hpos hget

/-- A row takes the oldest packet of its kind, and no other. -/
theorem takeHand_oldest (k : Table → Hand → HandPkt → State → State) :
    s.takeHand t p.kind k = (k (unqueued c n) h p (s.unqueue t c n)).settleHands := by
  unfold takeHand
  rw [hc]
  cases c
  cases hhand
  dsimp only
  rw [hpos]
  dsimp only
  rw [hget]

include hrun

/-- What the row makes of its packet, once every table has heard of its packets' ends, is the next state. -/
theorem live_takeHand {kind : Nat} (hkind : p.kind = kind) {k : Table → Hand → HandPkt → State → State} {u : State}
    (hu : k (unqueued c n) h p (s.unqueue t c n) = u) : s.live (s.takeHand t kind k) = .next u.settleHands := by
  rw [live_running s _ hrun, ← hkind, takeHand_oldest hc hhand hpos hget, hu]

/-! DATA (R223, R225, R226) -/

/-- DATA of the hand's own signature, in whole elements and of a member's rank, is staged, and the streams go on. -/
theorem exec_handData_staged (hkind : p.kind = 1) (hsig : p.sig = h.sig) (hwhole : wholeData (unqueued c n) h p = true)
    (hsrc : p.src < c.deal.count) (hok : h.status = 0) : exec (.handData t) s =
      .next (((((s.unqueue t c n).setHand t { h with staged := h.staged ++ [p] }).releaseStaged t).pump t).settleHands) := by
  refine live_takeHand hrun hc hhand hpos hget hkind ?_
  dsimp only
  rw [if_neg (by simp [hsig, hwhole, hsrc]), if_neg (not_not.2 hok)]

/-- Other DATA of a member's rank gives its credit back and fails the hand. -/
theorem exec_handData_mismatch (hkind : p.kind = 1) (hbad : p.sig ≠ h.sig ∨ wholeData (unqueued c n) h p = false)
    (hsrc : p.src < c.deal.count) : exec (.handData t) s =
      .next (((((s.unqueue t c n).count (tableCtr t) 6 1).sendHand t (unqueued c n)
        (handPkt (unqueued c n) h p.src 2 0 0xFFFF 1 0 [])).failHand t 8 c.deal.rank).settleHands) := by
  refine live_takeHand hrun hc hhand hpos hget hkind ?_
  dsimp only
  rw [if_pos (hbad.imp_right fun hpart => .inl (by simp [hpart])), if_pos hsrc]

/-- DATA of a rank that the table does not have fails the hand, and there is no member to give credit back to (log 55). -/
theorem exec_handData_stranger (hkind : p.kind = 1) (hsrc : c.deal.count ≤ p.src) : exec (.handData t) s =
    .next ((((s.unqueue t c n).count (tableCtr t) 6 1).failHand t 8 c.deal.rank).settleHands) := by
  refine live_takeHand hrun hc hhand hpos hget hkind ?_
  dsimp only
  rw [if_pos (.inr (.inr hsrc)), if_neg (Nat.not_lt.2 hsrc)]

/-! CREDIT (R224) -/

theorem exec_handCredit (hkind : p.kind = 2) (hok : h.status = 0) : exec (.handCredit t) s =
    .next ((((s.unqueue t c n).setHand t { h with spent := h.spent.setNum p.src (h.spent.num p.src - p.step) }).pump t).settleHands) :=
  live_takeHand hrun hc hhand hpos hget hkind (if_neg (not_not.2 hok))

/-! ABORT (R231) -/

theorem exec_handAbort_stopped (hkind : p.kind = 3) (hstopped : h.doneSent = true ∨ h.status ≠ 0) :
    exec (.handAbort t) s = .next (s.unqueue t c n).settleHands :=
  live_takeHand hrun hc hhand hpos hget hkind (if_pos hstopped)

theorem exec_handAbort_adopted (hkind : p.kind = 3) (hopen : h.doneSent = false) (hok : h.status = 0) : exec (.handAbort t) s =
    .next (((((s.unqueue t c n).setHand t (adopting h p)).tell t (unqueued c n) (adopting h p) (relayRanks c.deal h p) 3
      (listedStatus p.status) p.failed).sendDone t).settleHands) :=
  live_takeHand hrun hc hhand hpos hget hkind (if_neg (by simp [hopen, hok]))

/-! DONE (R227, item 2) -/

theorem exec_handDone_reported (hkind : p.kind = 4) (hleader : c.deal.rank = c.deal.leader c.deal.mine)
    (hfirst : h.reports.any (·.1 == p.src) = false) : exec (.handDone t) s =
      .next ((((s.unqueue t c n).setHand t { h with reports := h.reports ++ [doneReport h p] }).leaderSends t false).settleHands) :=
  live_takeHand hrun hc hhand hpos hget hkind (if_neg (not_or.2 ⟨not_not.2 hleader, Bool.eq_false_iff.1 hfirst⟩))

/-- A member that is no leader, and a leader that has the report already, drop a DONE. -/
theorem exec_handDone_dropped (hkind : p.kind = 4) (hdrop : c.deal.rank ≠ c.deal.leader c.deal.mine ∨ h.reports.any (·.1 == p.src) = true) :
    exec (.handDone t) s = .next (s.unqueue t c n).settleHands :=
  live_takeHand hrun hc hhand hpos hget hkind (if_pos hdrop)

/-! FIN (R227, items 3 to 5) -/

theorem exec_handFin (hkind : p.kind = 5) : exec (.handFin t) s =
    .next (((s.unqueue t c n).finish t (unqueued c n) h (listedStatus p.status) p.failed).settleHands) :=
  live_takeHand hrun hc hhand hpos hget hkind rfl

end Packets

/-! The limits of R229 -/

section Limits
variable {s : State} {t : Nat} {c : Table} {h : Hand}

/-- A number of quarters of DEADLINE has passed since the hand's start. -/
abbrev Due (s : State) (c : Table) (h : Hand) (quarters : Nat) : Prop := h.startedAt + c.deal.deadline * 1000000 * quarters / 4 ≤ s.now

theorem pastLimit_iff {quarters : Nat} : s.pastLimit c h quarters = true ↔ s.Due c h quarters := decide_eq_true_iff

variable (hc : s.table t = some c) (hhand : c.running = some h)
include hc hhand

theorem atLimit_running (quarters : Nat) (k : Table → Hand → State) :
    s.atLimit t quarters k = if s.pastLimit c h quarters then (k c h).settleHands else s := by
  unfold atLimit
  rw [hc]
  dsimp only
  rw [hhand]

theorem live_beforeLimit {quarters : Nat} (hearly : ¬ s.Due c h quarters) (k : Table → Hand → State) :
    s.live (s.atLimit t quarters k) = .next s := by
  rw [atLimit_running hc hhand, if_neg (mt pastLimit_iff.1 hearly), live_self]

theorem live_pastLimit {quarters : Nat} (hrun : s.running = true) (hdue : s.Due c h quarters) {k : Table → Hand → State}
    {u : State} (hu : k c h = u) : s.live (s.atLimit t quarters k) = .next u.settleHands := by
  rw [live_running s _ hrun, atLimit_running hc hhand, if_pos (pastLimit_iff.2 hdue), hu]

theorem exec_handLeaderDeadline (hrun : s.running = true) (hdue : s.Due c h 4) (hrank : c.deal.rank ≠ 0) :
    exec (.handLeaderDeadline t) s = .next ((s.leaderSends t true).settleHands) :=
  live_pastLimit hc hhand hrun hdue (if_neg hrank)

theorem exec_handRootDeadline (hrun : s.running = true) (hdue : s.Due c h 6) (hrank : c.deal.rank = 0) :
    exec (.handRootDeadline t) s = .next ((s.leaderSends t true).settleHands) :=
  live_pastLimit hc hhand hrun hdue (if_pos hrank)

/-- A member that has stopped completes with its own status. -/
theorem exec_handMemberDeadline_stopped (hrun : s.running = true) (hdue : s.Due c h 8) (hstopped : h.status ≠ 0) :
    exec (.handMemberDeadline t) s = .next ((s.endHand t c h h.status h.failed).settleHands) :=
  live_pastLimit hc hhand hrun hdue (if_pos hstopped)

/-- A member that has not stopped names the lowest rank that it awaits. -/
theorem exec_handMemberDeadline_awaits (hrun : s.running = true) (hdue : s.Due c h 8) (hok : h.status = 0) :
    exec (.handMemberDeadline t) s = .next ((s.endHand t c h 0x0A ((leastOf (awaited c h)).getD 0)).settleHands) :=
  live_pastLimit hc hhand hrun hdue (if_neg (not_not.2 hok))

end Limits

/-! The end of a member's part (R227, item 1) -/

section PartDone
variable {s : State} {t : Nat} {c : Table} {h : Hand}

/-- The member after it has heard of its packets' ends, joined where it had waited, and gone on as far as it can (R215). -/
abbrev caughtUp (s : State) (t : Nat) : State := ((s.settleHands).joinHand t).pump t

/-- The member's part is over: it has stopped, or its streams are done with every DATA acknowledged. -/
abbrev PartOver (h : Hand) : Prop :=
  h.status ≠ 0 ∨ (h.joined = true ∧ h.streams.all (fun x => decide (x.hi ≤ x.pos)) = true ∧ h.outstanding = 0)

theorem exec_handPartDone (hrun : s.running = true) (hc : (s.caughtUp t).table t = some c) (hhand : c.running = some h) :
    exec (.handPartDone t) s = .next (if PartOver h then ((s.caughtUp t).sendDone t).settleHands else s.caughtUp t) := by
  refine (live_running s _ hrun).trans (congrArg _ ?_)
  dsimp only
  rw [hc]
  dsimp only
  rw [hhand]

end PartDone
end Sys2Proof.Machine.State

open Sys2Proof Sys2Proof.Machine Sys2Proof.Claims

/-- Settles O30: a row of a packet by what it finds of the packet that it takes, and a row of a limit by whether the limit has passed. -/
theorem handPacketsAndLimits : Obligations.HandPacketsAndLimits := by
  unfold Obligations.HandPacketsAndLimits
  refine ⟨fun s t n c h p hrun hc hhand hpos hget => ⟨fun hkind => ⟨?_, ?_, ?_⟩, ?_, ?_, ?_, ?_, ?_, ?_⟩,
    fun s t hrun => ⟨fun c h hc hhand => ?_, fun c h hc hhand => ?_⟩⟩
  · exact State.exec_handData_staged hrun hc hhand hpos hget hkind
  · exact State.exec_handData_mismatch hrun hc hhand hpos hget hkind
  · exact State.exec_handData_stranger hrun hc hhand hpos hget hkind
  · exact State.exec_handCredit hrun hc hhand hpos hget
  · exact State.exec_handAbort_stopped hrun hc hhand hpos hget
  · exact State.exec_handAbort_adopted hrun hc hhand hpos hget
  · exact State.exec_handDone_reported hrun hc hhand hpos hget
  · exact State.exec_handDone_dropped hrun hc hhand hpos hget
  · exact State.exec_handFin hrun hc hhand hpos hget
  · exact ⟨State.exec_handLeaderDeadline hc hhand hrun, State.exec_handRootDeadline hc hhand hrun,
      State.exec_handMemberDeadline_stopped hc hhand hrun, State.exec_handMemberDeadline_awaits hc hhand hrun,
      fun hearly => State.live_beforeLimit hc hhand hearly _, fun hearly => State.live_beforeLimit hc hhand hearly _,
      fun hearly => State.live_beforeLimit hc hhand hearly _⟩
  · have hexec := State.exec_handPartDone hrun hc hhand
    exact ⟨fun hdone => hexec.trans (congrArg _ (if_pos hdone)), fun hpart => hexec.trans (congrArg _ (if_neg hpart))⟩

end

section
/-! The HRT entries at a requester (R252, R260, R275, R282): what the start of an entry comes to on its QP, and which entries pass R282's
checks. -/

namespace Sys2Proof.Machine.State
open Sys2Proof.Claims

variable {s : State} {f i op : Nat} {c : Instr} {e : Entry} {q : Qp}

/-- The opcodes of the HRT entries (R344) of a function's ring, with their rows. -/
def hrtEntryRows (f i : Nat) : List (Nat × Instr) :=
  [(0x10, .hrtSend f i), (0x11, .hrtWrite f i), (0x12, .hrtRead f i), (0x13, .hrtAdd f i), (0x14, .hrtCas f i), (0x15, .hrtFlush f i)]

/-- Each row starts an entry of its own opcode. -/
theorem exec_hrtEntryRow (hrow : (op, c) ∈ hrtEntryRows f i) : exec c s = s.live (s.runEntry f i [op] fun e t => t.startHrt f e) :=
  (List.map_inj_left (f := fun y : Nat × Instr => exec y.2 s)
    (g := fun y => s.live (s.runEntry f i [y.1] fun e t => t.startHrt f e))).1 rfl _ hrow

theorem exec_hrtEntryRow_ready (hrow : (op, c) ∈ hrtEntryRows f i) (h : ready s f i e op) : exec c s = .next (s.startHrt f e) :=
  (exec_hrtEntryRow hrow).trans (live_ready h _)

/-! The start of an entry (R260, R275) -/

/-- A payload that the cipher engine refuses in its mode is counted (R410). -/
abbrev countRefusal (t : State) (st : Nat) : State := if st = 0x10 then t.count 0x5800 6 1 else t

/-- A request that has failed with a status before any packet leaves, and that ends in its turn (R275). -/
abbrev failedReq (e : Entry) (st : Nat) : HrtReq := { plainReq (.entry e.idx) 8 0 1024 with count := 0, status := some st }

/-- What R282's checks make of an entry on the QP `q`: a request, or an end with a status, at once or in its turn (R275). -/
def takeChecked (t : State) (f : Nat) (e : Entry) (q : Qp) : HrtReq ⊕ Nat → State
  | .inl r => (t.busy f e).setQp (e.u32 8) { q with reqs := q.reqs ++ [r] }
  | .inr st =>
    if q.owner ≠ some f ∨ q.state ≠ .rts then (t.countRefusal st).complete f e st (leBytes 4 (e.u32 8))
    else (((t.countRefusal st).busy f e).setQp (e.u32 8) { q with reqs := q.reqs ++ [failedReq e st] }).settleQp (e.u32 8)

theorem startHrt_uncached (hc : s.cachedQp (e.u32 8) = false) : s.startHrt f e = s := by
  unfold startHrt
  exact withQp_uncached hc _

section Start
variable (hc : s.cachedQp (e.u32 8) = true) (hfirst : (s.touchQp (e.u32 8)).firstOfQp f e = true)
  (hsent : (s.qp (e.u32 8)).owner = some f → allSent (s.qp (e.u32 8)) = true)
include hc hfirst hsent

/-- The entry whose turn it is goes on to R282's checks. -/
theorem startHrt_checks : s.startHrt f e =
    (s.touchQp (e.u32 8)).takeChecked f e (s.qp (e.u32 8)) ((s.touchQp (e.u32 8)).entryReq f e (s.qp (e.u32 8))) := by
  unfold startHrt
  refine (withQp_cached hc _).trans ((if_neg ?_).trans ?_)
  · rintro (hlater | ⟨howner, hleft⟩)
    · simp [hfirst] at hlater
    · simp [hsent howner] at hleft
  · cases (s.touchQp (e.u32 8)).entryReq f e (s.qp (e.u32 8)) <;> rfl

theorem startHrt_joins {r : HrtReq} (hx : (s.touchQp (e.u32 8)).entryReq f e (s.qp (e.u32 8)) = .inl r) : s.startHrt f e =
    ((s.touchQp (e.u32 8)).busy f e).setQp (e.u32 8) { s.qp (e.u32 8) with reqs := (s.qp (e.u32 8)).reqs ++ [r] } := by
  rw [startHrt_checks hc hfirst hsent, hx, takeChecked]

section Fails
variable {st : Nat} (hx : (s.touchQp (e.u32 8)).entryReq f e (s.qp (e.u32 8)) = .inr st)
include hx

/-- Where the QP is not the function's or not in RTS, an entry that fails ends at once. -/
theorem startHrt_fails_atOnce (hno : (s.qp (e.u32 8)).owner ≠ some f ∨ (s.qp (e.u32 8)).state ≠ .rts) :
    s.startHrt f e = ((s.touchQp (e.u32 8)).countRefusal st).complete f e st (leBytes 4 (e.u32 8)) := by
  rw [startHrt_checks hc hfirst hsent, hx, takeChecked, if_pos hno]

theorem startHrt_fails_inTurn (howner : (s.qp (e.u32 8)).owner = some f) (hstate : (s.qp (e.u32 8)).state = .rts) :
    s.startHrt f e = ((((s.touchQp (e.u32 8)).countRefusal st).busy f e).setQp (e.u32 8)
      { s.qp (e.u32 8) with reqs := (s.qp (e.u32 8)).reqs ++ [failedReq e st] }).settleQp (e.u32 8) := by
  rw [startHrt_checks hc hfirst hsent, hx, takeChecked, if_neg (not_or.2 ⟨not_not.2 howner, not_not.2 hstate⟩)]

end Fails
end Start

/-! R282's checks -/

theorem entryReq_foreign (howner : q.owner ≠ some f) : s.entryReq f e q = .inr 0x12 := if_pos (.inr howner)

theorem entryReq_error (howner : q.owner = some f) (hstate : q.state = .error) : s.entryReq f e q = .inr 0x0D := by
  unfold entryReq
  exact (if_neg (by simp [howner, hstate])).trans (if_pos hstate)

/-- The bytes of an entry's local buffer, by its packet opcode (R282). -/
def localLen (e : Entry) : Nat := if hrtOp e.opcode = 5 ∨ hrtOp e.opcode = 6 then 8 else if hrtOp e.opcode = 8 then 0 else e.u64 0x18

/-- The device writes the local buffer of an entry (R282). -/
def localWrite (e : Entry) : Bool := decide (hrtOp e.opcode = 3 ∨ hrtOp e.opcode = 5 ∨ hrtOp e.opcode = 6)

/-- On the function's own QP in RTS without a security association, an entry whose buffer is found makes a request. -/
theorem entryReq_passes {b : BufRef} {x : List Piece × BufRef} (howner : q.owner = some f) (hstate : q.state = .rts) (hsa : q.attr.sa = 0)
    (halign : hrtOp e.opcode = 5 ∨ hrtOp e.opcode = 6 → e.u64 0x28 % 8 = 0) (hb : e.buf 0x0C = some b)
    (hlocal : s.localBuf f b (localLen e) (localWrite e) = .inr x) :
    ∃ r, s.entryReq f e q = .inl r ∧ r.origin = .entry e.idx ∧ r.op = hrtOp e.opcode ∧ r.key = e.u32 0x20 ∧ r.roff = e.u64 0x28 ∧
      r.sent = 0 := by
  have haligned : ¬ ((hrtOp e.opcode = 5 ∨ hrtOp e.opcode = 6) ∧ e.u64 0x28 % 8 ≠ 0) := fun h => h.2 (halign h.1)
  unfold localLen localWrite at hlocal
  unfold entryReq
  simp only [howner, hstate, hsa, haligned, hb, hlocal, ne_eq, not_true_eq_false, reduceCtorEq, or_self, false_and, if_false]
  exact ⟨_, rfl, rfl, rfl, rfl, rfl, rfl⟩

/-- The packet opcodes of the entries that write their local buffer, and that of FLUSH (R239, R344). -/
theorem hrtOp_iff : ∀ op ∈ [0x10, 0x11, 0x12, 0x13, 0x14, 0x15],
    (hrtOp op = 3 ↔ op = 0x12) ∧ (hrtOp op = 5 ↔ op = 0x13) ∧ (hrtOp op = 6 ↔ op = 0x14) ∧ (hrtOp op = 8 ↔ op = 0x15) := by decide

end Sys2Proof.Machine.State

open Sys2Proof Sys2Proof.Machine Sys2Proof.Claims

/-- Settles O32: the start of an entry whose turn it is comes to what R282's checks make of it. -/
theorem hrtEntriesJoinTheirQp : Obligations.HrtEntriesJoinTheirQp := by
  unfold Obligations.HrtEntriesJoinTheirQp
  intro s f i op c e hrow h n q t
  have hexec := State.exec_hrtEntryRow_ready hrow h
  obtain ⟨-, -, -, hop, -⟩ := h
  refine ⟨fun hc hfirst hsent => ⟨fun r hx => ?_, fun st hx => ?_⟩, fun hc => ?_, fun b x howner hstate hsa halign hb hlocal => ?_,
    State.entryReq_foreign, fun hstate howner => State.entryReq_error howner hstate⟩
  · exact hexec.trans (congrArg _ (State.startHrt_joins hc hfirst hsent hx))
  · exact ⟨fun hno => hexec.trans (congrArg _ (State.startHrt_fails_atOnce hc hfirst hsent hx hno)),
      fun howner hstate => hexec.trans (congrArg _ (State.startHrt_fails_inTurn hc hfirst hsent hx howner hstate))⟩
  · exact hexec.trans (congrArg _ (State.startHrt_uncached hc))
  · obtain ⟨hread, hadd, hcas, hflush⟩ := State.hrtOp_iff op (List.mem_map_of_mem (f := Prod.fst) hrow)
    subst hop
    refine State.entryReq_passes (x := x) howner hstate hsa (by rwa [hadd, hcas]) hb ?_
    simpa only [State.localLen, State.localWrite, hread, hadd, hcas, hflush] using hlocal
end

section
/-! Acknowledgements and responses (R257, R259, R262, R268, R269, R296, R424): what a row makes of a reply that reaches step 7, and what an ACK
leaves of the QP's timer. -/

namespace Sys2Proof.Machine.State
open Sys2Proof.Claims

variable {s u : State} {i n a : Nat} {x : HrtIn} {q : Qp} {ops : HrtPkt → Bool}

/-! A packet that reaches step 7 (R257) -/

section Arrives
variable (h : arrivesAt s ops i x q)
include h

theorem arrivesAt_kind : ops x.pkt = true := by
  obtain ⟨-, ⟨pre, post, hnext, -⟩, -⟩ := h
  exact (List.mem_filter.1 (show (i, x) ∈ s.hrtNext ops by simp [hnext])).2

theorem live_receive_takes {k : HrtIn → Qp → State → Option State} (hk : k x q (arrived s i x) = some u) :
    s.live (s.receive ops k) = .next u.settleHands := by
  obtain ⟨hrun, hfirst, hrange, havail, hcached, hpass⟩ := h
  have hat : s.receiveAt i x k = some u.settleHands := by rw [receiveAt_passes k hrange havail hcached hpass, hk, Option.map_some]
  rw [receive_first k hfirst hat, live_running s _ hrun]

/-- The only packet of the row's kind that is first for its pipeline waits where the row cannot take it yet. -/
theorem live_receive_waits {k : HrtIn → Qp → State → Option State} (hone : s.hrtNext ops = [(i, x)]) (hk : k x q (arrived s i x) = none) :
    s.live (s.receive ops k) = .next s := by
  obtain ⟨-, -, hrange, havail, hcached, hpass⟩ := h
  have hat : s.receiveAt i x k = none := by rw [receiveAt_passes k hrange havail hcached hpass, hk, Option.map_none]
  rw [receive_waits k, live_self]
  intro y hy
  rw [hone, List.mem_singleton] at hy
  rw [hy, hat]

end Arrives

/-! Replies (R268, R424) -/

/-- The reply is an acknowledgement, or a response that a request of the QP awaits (R268). -/
abbrev Expected (q : Qp) (p : HrtPkt) : Prop := p.op = 4 ∨ p.op = 7 → Qp.awaits q p = true

theorem not_unexpected (hexp : Expected q x.pkt) : ¬ ((x.pkt.op = 4 ∨ x.pkt.op = 7) ∧ (!Qp.awaits q x.pkt) = true) := fun hno => by
  rw [hexp hno.1] at hno
  exact Bool.false_ne_true hno.2

/-- The state in which a reply's tag has been looked at (R424). -/
abbrev verified (s : State) (i : Nat) (x : HrtIn) (q : Qp) : State := (arrived s i x).countSecure q.attr.sa 1

section Reply
variable (h : arrivesAt s ops i x q) {k : HrtPkt → Nat → State → Option State}
include h

theorem live_receiveReply_duplicate (hop : x.pkt.op = 4 ∨ x.pkt.op = 7) (hno : Qp.awaits q x.pkt = false) :
    s.live (s.receiveReply ops k) = .next ((arrived s i x).count 0x5100 6 1).settleHands :=
  live_receive_takes h (if_pos ⟨hop, by rw [hno]; rfl⟩)

section Expected
variable (hexp : Expected q x.pkt)
include hexp

theorem live_receiveReply_unverified (hbad : openReply q x.pkt = false) :
    s.live (s.receiveReply ops k) = .next ((s.verified i x q).count 0x5800 4 1).settleHands :=
  live_receive_takes h ((if_neg (not_unexpected hexp)).trans (if_neg (by rw [hbad]; decide)))

variable (hopen : openReply q x.pkt = true)
include hopen

theorem live_receiveReply_takes (hk : k x.pkt x.pkt.destQpn (s.verified i x q) = some u) :
    s.live (s.receiveReply ops k) = .next u.settleHands :=
  live_receive_takes h ((if_neg (not_unexpected hexp)).trans ((if_pos hopen).trans hk))

theorem live_receiveReply_waits (hone : s.hrtNext ops = [(i, x)]) (hk : k x.pkt x.pkt.destQpn (s.verified i x q) = none) :
    s.live (s.receiveReply ops k) = .next s :=
  live_receive_waits h hone ((if_neg (not_unexpected hexp)).trans ((if_pos hopen).trans hk))

end Expected

/-- A response (R262, R268) that a request awaits is placed, but for one that waits for a lost hub interface (R472). -/
theorem live_receiveReply_response (hop : x.pkt.op = 4 ∨ x.pkt.op = 7) (place : HrtPkt → Nat → State → State) :
    let taken := s.live (s.receiveReply ops fun p n t => if t.replyHeld n then none else some (place p n t))
    (Qp.awaits q x.pkt = false → taken = .next ((arrived s i x).count 0x5100 6 1).settleHands) ∧
    (Qp.awaits q x.pkt = true → openReply q x.pkt = true →
      ((s.verified i x q).replyHeld x.pkt.destQpn = false → taken = .next (place x.pkt x.pkt.destQpn (s.verified i x q)).settleHands) ∧
      ((s.verified i x q).replyHeld x.pkt.destQpn = true → s.hrtNext ops = [(i, x)] → taken = .next s)) :=
  ⟨live_receiveReply_duplicate h hop, fun hexp hopen =>
    ⟨fun hfree => live_receiveReply_takes h (fun _ => hexp) hopen (if_neg (Bool.eq_false_iff.1 hfree)),
      fun hheld hone => live_receiveReply_waits h (fun _ => hexp) hopen hone (if_pos hheld)⟩⟩

end Reply

/-- An acknowledgement is no response. -/
theorem expected_of_isAck {p : Nat → Bool} (h : arrivesAt s (isAck p) i x q) : Expected q x.pkt := by
  have hack := arrivesAt_kind h
  rw [isAck, Bool.and_eq_true, beq_iff_eq] at hack
  omega

/-- The kinds of replies (R245) with their rows. -/
def replyRows : List ((HrtPkt → Bool) × Instr) :=
  [(fun p => p.op == 4, .hrtRxReadResp), (fun p => p.op == 7, .hrtRxAtomicResp), (isAck (· == 0), .hrtRxAck), (isAck (· == 1), .hrtRxAckStale),
    (isAck (· == 0x10), .hrtRxNakPage), (isAck (fun k => decide (0x20 ≤ k)), .hrtRxFatalNak)]

/-- Each row takes a reply of its own kind. -/
theorem exec_replyRow {c : Instr} (hrow : (ops, c) ∈ replyRows) : ∃ k, exec c s = s.live (s.receiveReply ops k) := by
  have hrows : ∀ y ∈ replyRows, ∃ k, exec y.2 s = s.live (s.receiveReply y.1 k) := by
    simp only [replyRows, List.forall_mem_cons]
    exact ⟨⟨_, rfl⟩, ⟨_, rfl⟩, ⟨_, rfl⟩, ⟨_, rfl⟩, ⟨_, rfl⟩, ⟨_, rfl⟩, List.forall_mem_nil _⟩
  exact hrows _ hrow

/-! The timer at an ACK (R268, R270) -/

section AckTo

theorem ackTo_advances (h : (s.qp n).una < a) :
    ((s.ackTo n a).qp n).una = a ∧ ((s.ackTo n a).qp n).retries = 0 ∧ ((s.ackTo n a).qp n).timeout = (s.qp n).attr.rtoBase ∧
    ((s.qp n).waitUntil.isSome = true → ((s.ackTo n a).qp n).timerAt = (s.qp n).timerAt) ∧
    ((s.qp n).waitUntil = none → ((s.ackTo n a).qp n).timerAt = none ∨
      ((s.ackTo n a).qp n).timerAt = some (s.now + (s.qp n).attr.rtoBase * 1000000)) := by
  simp only [ackTo, if_neg (Nat.not_le.2 h), qp_setQp]
  cases (s.qp n).waitUntil with
  | some t => simp
  | none => simp only [Option.isSome_none, Bool.false_eq_true, if_false]; simp

variable (h : a ≤ (s.qp n).una)
include h

theorem ackTo_keeps (hwait : (s.qp n).waitUntil.isSome = true ∨ awaiting (s.qp n) = true) : s.ackTo n a = s := by
  refine (if_pos h).trans (if_neg ?_)
  rw [Bool.and_eq_true, Option.isNone_iff_eq_none, Bool.not_eq_true']
  rintro ⟨hnone, hdone⟩
  simp [hnone, hdone] at hwait

theorem ackTo_stops (hno : (s.qp n).waitUntil = none) (hdone : awaiting (s.qp n) = false) :
    s.ackTo n a = s.setQp n { s.qp n with timerAt := none } :=
  (if_pos h).trans (if_pos (by simp [hno, hdone]))

end AckTo
end Sys2Proof.Machine.State

open Sys2Proof Sys2Proof.Machine Sys2Proof.Claims

/-- Settles O37: what comes of a reply follows from whether a request awaits it, then from its tag, and then from its own row; what an ACK leaves
follows from whether it advances una. -/
theorem acknowledgementsAndResponses : Obligations.AcknowledgementsAndResponses := by
  unfold Obligations.AcknowledgementsAndResponses
  refine ⟨fun s i x q => ?_, fun s n a h => State.ackTo_advances h, fun s n a h => ⟨State.ackTo_keeps h, State.ackTo_stops h⟩⟩
  intro n p t
  refine ⟨fun h => ?_, fun h => ?_, fun h hopen => ?_, fun h hopen => ?_, fun h hopen => ?_, fun h hopen => ?_, fun ops c hrow h hexp hbad => ?_⟩
  · exact State.live_receiveReply_response h (.inl (beq_iff_eq.1 (State.arrivesAt_kind h))) fun p n t => t.placeRead n p
  · exact State.live_receiveReply_response h (.inr (beq_iff_eq.1 (State.arrivesAt_kind h))) fun p n t => t.placeAtomic n p
  · exact State.live_receiveReply_takes h (State.expected_of_isAck h) hopen rfl
  · exact State.live_receiveReply_takes h (State.expected_of_isAck h) hopen rfl
  · exact State.live_receiveReply_takes h (State.expected_of_isAck h) hopen rfl
  · exact State.live_receiveReply_takes h (State.expected_of_isAck h) hopen rfl
  · obtain ⟨k, hexec⟩ := State.exec_replyRow hrow
    exact hexec.trans (State.live_receiveReply_unverified h hexp hbad)
end

section
/-! A QP's turn to send (R250, R260, R276, R419), and its other timers and held work (R264, R267, R286, R289, R294, R296, R300). -/

namespace Sys2Proof.Machine.State
open Sys2Proof.Claims

variable {s t : State} {n : Nat}

/-! The turn to send (R260, R276) -/

/-- The pipeline's last packet of an offer's class is still queued (R315). -/
abbrev stillQueued (t : State) (n : Nat) (o : Nat × Nat × Nat × Nat) : Prop := (t.sub (4 * o.2.1 + o.2.2.1)).queue o.2.2.2 (n % 8) ≠ []

/-- The rotating pointer of an offer has moved past the QP (R276). -/
abbrev pastPointer (t : State) (n : Nat) (o : Nat × Nat × Nat × Nat) : State :=
  { t with hrt := { t.hrt with
    pointer := t.hrt.pointer.setNum ((((4 * o.2.1 + o.2.2.1) * 8 + o.2.2.2) * 8 + n % 8) * 8 + o.1) (n + 1) } }

/-- The packet of a class of R276 leaves. -/
abbrev sendOf (t : State) (n cls : Nat) : State := if cls ≤ 2 then t.sendReply n cls else if cls = 3 then t.sendRtx n else t.sendNew n

theorem exec_hrtPacketTransmit_uncached (hc : s.cachedQp n = false) : exec (.hrtPacketTransmit n) s = .next s :=
  (congrArg s.live (withQp_uncached hc _)).trans (live_self s)

section Transmit
variable (hc : s.cachedQp n = true)
include hc

theorem exec_hrtPacketTransmit_unoffered (ho : (s.touchQp n).offerOf (s.qp n) = none) : exec (.hrtPacketTransmit n) s = .next s := by
  refine (congrArg s.live ((withQp_cached hc _).trans ?_)).trans (live_self s)
  dsimp only
  rw [ho]

variable {o : Nat × Nat × Nat × Nat} (ho : (s.touchQp n).offerOf (s.qp n) = some o)
include ho

/-- A QP that has an offer sends in its turn, while its pipeline has no packet of the class queued. -/
theorem exec_hrtPacketTransmit_offered : exec (.hrtPacketTransmit n) s =
    s.live (if !(s.touchQp n).pipelineTurn n o ∨ (s.touchQp n).stillQueued n o then s
      else if (s.touchQp n).synthSpent (s.qp n) then ((s.touchQp n).endSpent n).settleHands
      else ((((s.touchQp n).pastPointer n o).sendOf n o.1).endSpent n).settleHands) := by
  refine congrArg s.live ((withQp_cached hc _).trans ?_)
  dsimp only
  rw [ho]

theorem exec_hrtPacketTransmit_held (hno : (s.touchQp n).pipelineTurn n o = false ∨ (s.touchQp n).stillQueued n o) :
    exec (.hrtPacketTransmit n) s = .next s := by
  rw [exec_hrtPacketTransmit_offered hc ho, if_pos (by simpa using hno), live_self]

variable (hrun : s.running = true) (hturn : (s.touchQp n).pipelineTurn n o = true) (hfree : ¬ (s.touchQp n).stillQueued n o)
include hrun hturn hfree

theorem exec_hrtPacketTransmit_spent (hspent : (s.touchQp n).synthSpent (s.qp n) = true) :
    exec (.hrtPacketTransmit n) s = .next ((s.touchQp n).endSpent n).settleHands := by
  rw [exec_hrtPacketTransmit_offered hc ho, if_neg (by simp [hturn, hfree]), if_pos hspent, live_running s _ hrun]

theorem exec_hrtPacketTransmit_sends (hleft : (s.touchQp n).synthSpent (s.qp n) = false) :
    exec (.hrtPacketTransmit n) s = .next ((((s.touchQp n).pastPointer n o).sendOf n o.1).endSpent n).settleHands := by
  rw [exec_hrtPacketTransmit_offered hc ho, if_neg (by simp [hturn, hfree]), if_neg (by simp [hleft]), live_running s _ hrun]

end Transmit

theorem endSpent_spent (hspent : t.synthSpent (t.qp n) = true) (hstate : (t.qp n).state ≠ .error) : t.endSpent n = t.qpErrorAll n 0x0F :=
  if_pos ⟨hspent, hstate⟩

theorem endSpent_other (h : t.synthSpent (t.qp n) = false ∨ (t.qp n).state = .error) : t.endSpent n = t := by
  refine if_neg fun ⟨hspent, hstate⟩ => ?_
  rcases h with hleft | herror
  · exact Bool.false_ne_true (hleft.symm.trans hspent)
  · exact hstate herror

/-! CONTEXT_FETCH (R250) -/

theorem exec_contextFetch_cached (hc : s.cachedQp n = true) : exec (.contextFetch n) s = .next s :=
  (congrArg s.live (if_pos (.inl hc))).trans (live_self s)

theorem contextFetch_answers (hrun : s.running = true) (hc : s.cachedQp n = false) (hrange : n < 65536) :
    answers (.contextFetch n) s fun u => u.cachedQp n = true ∧ u.hrt.qps = s.hrt.qps ∧ u.hrt.cached.length ≤ 4096 ∧
      u.ctr 0x5100 0x13 = satAdd 64 (s.ctr 0x5100 0x13) 1 ∧ u.mem = s.mem := by
  refine ⟨_, live_unless _ hrun (by simp [hc, hrange]), ?_, ?_, ?_, ?_, ?_⟩
  · simp [cachedQp]
  · rw [count_hrt]
  · rw [count_hrt]
    exact List.length_take_le ..
  · exact ctr_count_self _ _ _ _ Nat.one_ne_zero
  · rw [count_mem]

/-! Timers (R267, R294, R296, R300) -/

section Timers

theorem exec_ackDelayExpiry_set {due : Nat} (h : (s.qp n).ackAt = some due) :
    exec (.ackDelayExpiry n) s = s.live (if due ≤ s.now then s.sendAck n 0 0 0 else s) := by
  refine congrArg s.live ?_
  rw [h]

/-- The QP at the end of a NAK_PAGE wait: what was refused, and what came after it, is due again (R296, item 2). -/
def waitEnded (s : State) (n : Nat) : State :=
  s.setQp n ({ s.qp n with waitUntil := none, rtx := dueAgain (s.qp n) (s.qp n).waitFrom, rtxPage := true }.startTimer s.now)

theorem exec_pageWaitEnd_set {due : Nat} (h : (s.qp n).waitUntil = some due) :
    exec (.pageWaitEnd n) s = s.live (if (s.qp n).state = .rts ∧ due ≤ s.now then s.waitEnded n else s) := by
  refine congrArg s.live ?_
  dsimp only
  rw [h]
  rfl

theorem pageWaitEnd_answers {due : Nat} (hrun : s.running = true) (h : (s.qp n).waitUntil = some due) (hstate : (s.qp n).state = .rts)
    (hdue : due ≤ s.now) : answers (.pageWaitEnd n) s fun u => (u.qp n).waitUntil = none ∧
      (u.qp n).rtx = dueAgain (s.qp n) (s.qp n).waitFrom ∧ (u.qp n).timerAt =
        some (s.now + (if (s.qp n).retries = 0 then (s.qp n).attr.rtoBase else (s.qp n).timeout) * 1000000) ∧ u.mem = s.mem := by
  refine ⟨s.waitEnded n, (exec_pageWaitEnd_set h).trans (live_guarded s _ hrun ⟨hstate, hdue⟩), ?_⟩
  simp only [waitEnded, qp_setQp]
  exact ⟨rfl, rfl, rfl, rfl⟩

/-- A stall has lasted PAGE_WAIT_LIMIT: the request that it stopped takes PAGE_WAIT_TIMEOUT, and the QP ends (R294). -/
def stallEnded (s : State) (n : Nat) : State :=
  ((match nextReq (s.qp n) with
    | some (i, r) => s.setReq n i { r with status := some 7 }
    | none => s).qpError n (fun _ => false) 7).count 0x5101 0x0A 1

theorem exec_pageWaitTimeout_stalled {st : HrtStall} (h : (s.qp n).stall = some st) :
    exec (.pageWaitTimeout n) s = s.live (if st.since + st.limit * 1000000000 ≤ s.now then s.stallEnded n else s) := by
  refine congrArg s.live ?_
  dsimp only
  rw [h, stallEnded]
  cases nextReq (s.qp n) <;> rfl

theorem exec_climbTimer_set {due : Nat} (h : (s.qp n).climbAt = some due) :
    exec (.climbTimer n) s = s.live (if due ≤ s.now then s.climb n due else s) := by
  refine congrArg s.live ?_
  dsimp only
  rw [h]

theorem climbTimer_answers {due : Nat} (hrun : s.running = true) (h : (s.qp n).climbAt = some due) (hdue : due ≤ s.now)
    (henable : s.obj 0x2702 1 = 1) : answers (.climbTimer n) s fun u => (u.qp n).clean = (s.qp n).clean + 1 ∧
      (u.qp n).rung = (s.qp n).rung - (if s.obj 0x2702 7 < (s.qp n).clean + 1 then 2 else 1) ∧
      (u.qp n).climbAt = (if (u.qp n).rung = 0 then none else some (due + s.obj 0x2702 6 * 1000000)) ∧ u.mem = s.mem := by
  refine ⟨s.climb n due, (exec_climbTimer_set h).trans (live_guarded s _ hrun hdue), ?_⟩
  have hon : s.rateNow.enable = true := beq_iff_eq.2 henable
  simp only [climb, takeRate, qp_setQp, hon, if_true, true_and]
  exact ⟨rfl, rfl, rfl⟩

end Timers

/-! Held work (R264, R286, R289) -/

/-- The requests with a PSN are held no longer (R264). -/
abbrev withoutHeld (t : State) (n : Nat) (p : HrtPkt) : State :=
  t.setQp n { t.qp n with held := (t.qp n).held.filter (·.psn != p.psn) }

section Held
variable {p : HrtPkt} {port a v : Nat}

/-- HELD_REQUEST_EXECUTE where ePSN has moved on as far as it can (R264). -/
def runHeld (t : State) (n : Nat) : State :=
  match (t.qp n).held.find? (fun h => h.psn == (t.qp n).ePsn % 2 ^ 24) with
  | none => t
  | some p =>
    if (t.qp n).busy.isSome ∨ ((t.qp n).state ≠ .rtr ∧ (t.qp n).state ≠ .rts) then t
    else match (t.withoutHeld n p).execInOrder n (t.qp n).ePsn p with
      | some u => u.settleHands
      | none => t

theorem exec_heldRequestExecute : exec (.heldRequestExecute n) s = s.live ((s.advanceQp n).runHeld n) := rfl

section Ready
variable (hp : (t.qp n).held.find? (fun h => h.psn == (t.qp n).ePsn % 2 ^ 24) = some p) (hbusy : (t.qp n).busy = none)
  (hstate : (t.qp n).state = .rtr ∨ (t.qp n).state = .rts)

include hbusy hstate in
/-- Nothing executes before a held request, and the QP takes requests. -/
theorem not_blocked : ¬ ((t.qp n).busy.isSome = true ∨ ((t.qp n).state ≠ .rtr ∧ (t.qp n).state ≠ .rts)) := by
  rw [hbusy]
  rintro (hsome | ⟨hrtr, hrts⟩)
  · exact Bool.false_ne_true hsome
  · exact hstate.elim hrtr hrts

include hp hbusy hstate

theorem runHeld_runs {u : State} (hu : (t.withoutHeld n p).execInOrder n (t.qp n).ePsn p = some u) : t.runHeld n = u.settleHands := by
  rw [runHeld, hp]
  refine (if_neg (not_blocked hbusy hstate)).trans ?_
  rw [hu]

theorem runHeld_waits (hu : (t.withoutHeld n p).execInOrder n (t.qp n).ePsn p = none) : t.runHeld n = t := by
  rw [runHeld, hp]
  refine (if_neg (not_blocked hbusy hstate)).trans ?_
  rw [hu]

end Ready

theorem exec_flushConditionMet_flushing (hbusy : (s.qp n).busy = some (.flush p)) : exec (.flushConditionMet n) s =
    s.live (if (s.qp n).flushReads = [] then ((s.setQp n { s.qp n with busy := none }).count 0x5101 5 1).accept n (s.qp n).ePsn 1
      p.ackReq p.ce p.marked else s) := by
  refine congrArg s.live ?_
  dsimp only
  rw [hbusy]

/-- The state in which an AtomicOp whose QP has left its state is no longer out. -/
abbrev withoutStray (s : State) (x : StrayAtomic) : State := { s with hrt := { s.hrt with strays := s.hrt.strays.erase x } }

/-- An AtomicOp whose QP has left its state completes first, and does nothing but place its result (R286). -/
theorem exec_atomicopCompletion_stray {x : StrayAtomic} (hrun : s.running = true) (hx : s.hrt.strays.find? (·.qp == n) = some x)
    (success : Bool) : exec (.atomicopCompletion n success v) s = .next (if success then
      (s.withoutStray x).atomicApplied x.fid x.port x.addr x.pkt (v % 2 ^ 64) else s.withoutStray x) := by
  refine (live_running s _ hrun).trans (congrArg _ ?_)
  dsimp only
  rw [hx]

theorem exec_atomicopCompletion_own (hrun : s.running = true) (hnone : ∀ x ∈ s.hrt.strays, x.qp ≠ n)
    (hbusy : (s.qp n).busy = some (.atomic p port a)) (success : Bool) : exec (.atomicopCompletion n success v) s = .next (if success then
      (s.atomicApplied ((s.qp n).owner.getD 0) port a p (v % 2 ^ 64)).atomicDone n (s.qp n).ePsn p (v % 2 ^ 64)
      else (s.fatalNak n (if v = 0 then 0x21 else 0x23) (s.qp n).ePsn).settleHands) := by
  refine (live_running s _ hrun).trans (congrArg _ ?_)
  dsimp only
  rw [List.find?_eq_none.2 fun x hx => by simpa using hnone x hx, hbusy]

end Held
end Sys2Proof.Machine.State

open Sys2Proof Sys2Proof.Machine Sys2Proof.Claims

/-- Settles O38: a QP's turn is a chain of conditions before its packet leaves; each timer acts when it is due, and each piece of held work
by what the QP waits for. -/
theorem queuePairsSendAndWait : Obligations.QueuePairsSendAndWait := by
  unfold Obligations.QueuePairsSendAndWait
  refine ⟨fun s n hrun => ?turn, fun s n hrun => ?waits⟩
  case turn =>
    intro q t
    refine ⟨fun hc => ⟨fun c port lane tc ho hturn hfree hleft => ?_, fun o ho hturn hfree hspent => ?_, State.endSpent_spent, State.endSpent_other,
      State.exec_hrtPacketTransmit_unoffered hc, fun o ho => State.exec_hrtPacketTransmit_held hc ho⟩,
      State.exec_hrtPacketTransmit_uncached, State.contextFetch_answers hrun, State.exec_contextFetch_cached⟩
    · exact State.exec_hrtPacketTransmit_sends (o := (c, port, lane, tc)) hc ho hrun hturn (not_not.2 hfree) hleft
    · exact State.exec_hrtPacketTransmit_spent hc ho hrun hturn (not_not.2 hfree) hspent
  case waits =>
    intro q
    refine ⟨fun t h hdue => (State.exec_ackDelayExpiry_set h).trans (State.live_guarded s _ hrun hdue),
      fun t h hearly => (State.exec_ackDelayExpiry_set h).trans (State.live_unguarded s _ (Nat.not_le.2 hearly)),
      fun t => State.pageWaitEnd_answers hrun,
      fun t h hearly => (State.exec_pageWaitEnd_set h).trans (State.live_unguarded s _ fun hdue => Nat.not_le.2 hearly hdue.2),
      fun st h hdue hnone => ?_, fun st i r h hdue hnext => ?_,
      fun st h hearly => (State.exec_pageWaitTimeout_stalled h).trans (State.live_unguarded s _ (Nat.not_le.2 hearly)),
      fun t => State.climbTimer_answers hrun,
      fun t h hearly => (State.exec_climbTimer_set h).trans (State.live_unguarded s _ (Nat.not_le.2 hearly)),
      ?_,
      fun p h hdone => (State.exec_flushConditionMet_flushing h).trans (State.live_guarded s _ hrun hdone),
      fun p h hleft => (State.exec_flushConditionMet_flushing h).trans (State.live_unguarded s _ hleft),
      fun x v hx => ⟨State.exec_atomicopCompletion_stray hrun hx true, State.exec_atomicopCompletion_stray hrun hx false⟩,
      fun p port a v hnone h => State.exec_atomicopCompletion_own hrun hnone h true,
      fun p port a v hnone h => State.exec_atomicopCompletion_own hrun hnone h false⟩
    · rw [State.exec_pageWaitTimeout_stalled h, State.live_guarded s _ hrun hdue, State.stallEnded, hnone]
    · rw [State.exec_pageWaitTimeout_stalled h, State.live_guarded s _ hrun hdue, State.stallEnded, hnext]
    · intro s0 k p hp hbusy hstate
      rw [State.exec_heldRequestExecute, State.live_running s _ hrun]
      refine congrArg _ ?_
      split
      next u hu => exact State.runHeld_runs hp hbusy hstate hu
      next hu => exact State.runHeld_waits hp hbusy hstate hu
end

section
/-! Regions (R279 to R281): the index that REG_REGION takes, and what DEREG_REGION leaves. -/

namespace Sys2Proof.Machine

/-- A key that is not listed reads as the unlisted value. -/
theorem Sparse.get_of_not_mem_keys {α : Type} (d : Nat → α) {m : Sparse α} {k : Nat} (h : k ∉ Sparse.keys m) : Sparse.get d m k = d k := by
  induction m with
  | nil => rfl
  | cons kv r ih =>
    obtain ⟨hne, hrest⟩ := not_or.1 (mt List.mem_cons.2 h)
    exact (if_neg (Ne.symm hne)).trans (ih hrest)

/-- A table that lists every key below a bound has at least that many pairs. -/
theorem Sparse.le_length_of_mem_keys {α : Type} {m : Sparse α} {n : Nat} (h : ∀ k, k < n → k ∈ Sparse.keys m) : n ≤ m.length := by
  have hsub : Finset.range n ⊆ (Sparse.keys m).toFinset := fun k hk => List.mem_toFinset.2 (h k (Finset.mem_range.1 hk))
  calc n = (Finset.range n).card := (Finset.card_range n).symm
    _ ≤ (Sparse.keys m).toFinset.card := Finset.card_le_card hsub
    _ ≤ (Sparse.keys m).length := List.toFinset_card_le _
    _ = m.length := List.length_map _

namespace State
open Sys2Proof.Claims

variable {s : State} {f i r : Nat} {e : Entry}

theorem mem_keys_of_region_valid (h : (s.region r).valid = true) : r ∈ Sparse.keys s.mem.regions := by
  by_contra hno
  rw [region, Sparse.get_of_not_mem_keys _ hno] at h
  exact Bool.false_ne_true h

/-! The index of REG_REGION (R279) -/

theorem freeRegion_eq_some (hr : r < 262144) (hfree : (s.region r).valid = false) (hbelow : ∀ q, q < r → (s.region q).valid = true) :
    s.freeRegion = some r := by
  have hlisted : r ≤ s.mem.regions.length := Sparse.le_length_of_mem_keys fun q hq => mem_keys_of_region_valid (hbelow q hq)
  refine List.find?_range_eq_some.2 ⟨by simp [hfree, hr], List.mem_range.2 (Nat.lt_succ_of_le hlisted), fun q hq => ?_⟩
  simp [hbelow q hq]

theorem freeRegion_eq_none (hfull : ∀ q, q < 262144 → (s.region q).valid = true) : s.freeRegion = none :=
  List.find?_eq_none.2 fun q _ => by simpa using mt (hfull q) ∘ Bool.eq_false_iff.1

section RegRegion
variable (h : ready s f i e 0x20)
include h

theorem exec_regRegion_registers (hfree : s.freeRegion = some r) (hquota : s.regionCount f < s.obj 0x2300 6 f) :
    exec (.regRegion f i) s = .next ((s.setRegion r ⟨true, f, (s.region r).generation, if e.u8 0x0C = 0 then .bus else .dva, e.u8 0x0D,
      e.u64 0x10, e.u64 0x18, e.u8 0x0E⟩).complete f e 0 (leBytes 4 r ++ leBytes 4 (r * 256 + (s.region r).generation))) := by
  refine (live_ready h _).trans (congrArg _ ?_)
  dsimp only
  rw [hfree]
  exact if_neg (Nat.not_le.2 hquota)

theorem exec_regRegion_refused (hno : s.freeRegion = none ∨ s.obj 0x2300 6 f ≤ s.regionCount f) :
    exec (.regRegion f i) s = .next (s.complete f e 0x12 []) := by
  refine (live_ready h _).trans (congrArg _ ?_)
  dsimp only
  split
  next q hfree => exact if_pos (hno.resolve_left fun hnone => Option.some_ne_none q (hfree.symm.trans hnone))
  next => rfl

end RegRegion

/-! DEREG_REGION (R281) -/

section DeregRegion
variable (h : ready s f i e 0x21)

/-- What a DEREG_REGION comes to with the accesses that it watches (R281, step 3). -/
def deregEnds (t : State) (f : Nat) (e : Entry) (watch : List Piece) : State :=
  if t.watched watch then t.setEntry f { e with step := 1, watch := watch } else t.complete f e 0 (leBytes 4 (e.u32 8))

theorem deregEnds_waits {t : State} {watch : List Piece} (hw : t.watched watch = true) :
    t.deregEnds f e watch = t.setEntry f { e with step := 1, watch := watch } := if_pos hw

theorem deregEnds_done {t : State} {watch : List Piece} (hw : t.watched watch = false) :
    t.deregEnds f e watch = t.complete f e 0 (leBytes 4 (e.u32 8)) := if_neg (Bool.eq_false_iff.1 hw)

include h

theorem exec_deregRegion_refused (hstep : e.step = 0)
    (hno : 262144 ≤ e.u32 8 ∨ (s.region (e.u32 8)).valid = false ∨ (s.region (e.u32 8)).owner ≠ f) :
    exec (.deregRegion f i) s = .next (s.complete f e 0x12 (leBytes 4 (e.u32 8))) :=
  (live_ready h _).trans (congrArg _ (if_pos ⟨hstep, by simpa using hno⟩))

theorem exec_deregRegion_first (hstep : e.step = 0) (hr : e.u32 8 < 262144) (hvalid : (s.region (e.u32 8)).valid = true)
    (howner : (s.region (e.u32 8)).owner = f) :
    exec (.deregRegion f i) s = .next ((s.invalidateRegion (e.u32 8)).deregEnds f e (s.regionFlights (e.u32 8))) := by
  refine (live_ready h _).trans (congrArg _ ((if_neg (by simp [hr, hvalid, howner])).trans ?_))
  rw [if_pos hstep, if_pos hstep, deregEnds]

theorem exec_deregRegion_again (hstep : e.step ≠ 0) : exec (.deregRegion f i) s = .next (s.deregEnds f e e.watch) := by
  refine (live_ready h _).trans (congrArg _ ((if_neg fun hno => hstep hno.1).trans ?_))
  rw [if_neg hstep, if_neg hstep, deregEnds]

end DeregRegion

/-! What steps 1 and 2 of R281 leave -/

section Invalidate
variable (s r)

theorem besideFrames_pfcClass (port lane tc : Nat) : (s.pfcClass port lane tc).besideFrames = s.besideFrames := by
  simp only [pfcClass, apply_ite besideFrames, besideFrames_setSub, ite_self]

theorem besideFrames_pfcTick (port : Nat) : (s.pfcTick port).besideFrames = s.besideFrames :=
  foldl_keep besideFrames _ (fun u k => besideFrames_pfcClass u port (k / 8) (k % 8)) _ s

theorem dropRaw_mem (q : Nat) : (s.dropRaw q).mem = s.mem := by
  unfold dropRaw
  split
  · rfl
  · exact (frames_mem (besideFrames_pfcTick _ _)).trans rfl

/-- The raw queues of a region's owner that lie in it are disabled (R397). -/
def rawsDropped : State :=
  (List.range 32).foldl (fun st q =>
    if st.obj (rawObj q) 4 % 2 ^ 24 = r ∧ st.rawDrawer q = (s.region r).owner ∧ (s.region r).valid then st.dropRaw q else st) s

/-- A region that ends keeps no consent to its shares (R374). -/
def sharesEnded : State :=
  (List.range 64).foldl (fun st i => if st.obj (0x2360 + i) 1 = r then (st.setObj (0x2360 + i) 4 0 0).setObj (0x2360 + i) 5 0 0 else st) s

theorem invalidateRegion_eq : s.invalidateRegion r = ((((s.rawsDropped r).setRegion r
    { Region.none with generation := ((s.region r).generation + 1) % 256 }).dropRegion r).loseRings r).sharesEnded r := rfl

theorem rawsDropped_mem : (s.rawsDropped r).mem = s.mem :=
  foldl_keep State.mem _ (fun u q => by rw [apply_ite State.mem, dropRaw_mem, ite_self]) _ s

theorem sharesEnded_mem : (s.sharesEnded r).mem = s.mem :=
  foldl_keep State.mem _ (fun u k => by rw [apply_ite State.mem, setObj_mem, setObj_mem, ite_self]) _ s

theorem loseRings_mem : (s.loseRings r).mem = s.mem := rfl

/-- Of the memories and their tables, an invalidation touches the region and the translations that name it. -/
theorem invalidateRegion_mem : (s.invalidateRegion r).mem =
    ((s.setRegion r { Region.none with generation := ((s.region r).generation + 1) % 256 }).dropRegion r).mem := by
  rw [invalidateRegion_eq, sharesEnded_mem, loseRings_mem]
  simp only [dropRegion, setRegion, rawsDropped_mem]

theorem region_invalidateRegion : (s.invalidateRegion r).region r = { Region.none with generation := ((s.region r).generation + 1) % 256 } := by
  rw [region, invalidateRegion_mem]
  exact region_setRegion ..

theorem region_invalidateRegion_ne {q : Nat} (hne : q ≠ r) : (s.invalidateRegion r).region q = s.region q := by
  rw [region, invalidateRegion_mem]
  exact region_setRegion_ne _ _ _ hne.symm

theorem invalidateRegion_dev : (s.invalidateRegion r).mem.dev = s.mem.dev := by
  rw [invalidateRegion_mem]
  rfl

end Invalidate
end State
end Sys2Proof.Machine

open Sys2Proof Sys2Proof.Machine Sys2Proof.Claims

/-- Settles O13: the valid regions below the lowest free index are all listed, so the model's search meets that index; an invalidation
touches the region's own entry, and a DEREG_REGION ends once nothing that it watches is in flight. -/
theorem regionsAreRegisteredAndRemoved : Obligations.RegionsAreRegisteredAndRemoved := by
  unfold Obligations.RegionsAreRegisteredAndRemoved
  refine ⟨fun s f i e h => ⟨fun r hr hfree hbelow => ?_, fun hno => ?_⟩, fun s f i e h => ?dereg, fun s r => ?_⟩
  · exact State.exec_regRegion_registers h (State.freeRegion_eq_some hr hfree hbelow)
  · exact State.exec_regRegion_refused h (hno.imp_left State.freeRegion_eq_none)
  case dereg =>
    intro r g t
    refine ⟨State.exec_deregRegion_refused h, fun hstep hr hvalid howner hnone => ?_, fun hstep hr hvalid howner hw => ?_, fun hstep hw => ?_⟩
    · rw [State.exec_deregRegion_first h hstep hr hvalid howner, hnone, State.deregEnds_done (State.watched_nil _)]
    · rw [State.exec_deregRegion_first h hstep hr hvalid howner, State.deregEnds_waits hw]
    · rw [State.exec_deregRegion_again h hstep, State.deregEnds_done hw]
  · exact ⟨State.region_invalidateRegion s r, fun q => State.region_invalidateRegion_ne s r, State.invalidateRegion_dev s r⟩
end

section
/-! The key checks of R283, and the atomics on device memory (R284, R285). -/

namespace Sys2Proof.Machine.State

/-! The key checks -/

section KeyCheck
variable (s : State) (d : Nat) (p : HrtPkt) (n : Nat)

/-- A packet's key names a valid region of its generation that the drawer owns or shares, and the range lies inside it (R283, checks 1 to 4). -/
abbrev KeyReaches : Prop :=
  p.key / 256 < 262144 ∧ (s.region (p.key / 256)).valid = true ∧ p.key % 256 = (s.region (p.key / 256)).generation ∧
  ((s.region (p.key / 256)).owner = d ∨ s.sharedWith (p.key / 256) d = true) ∧ p.roff + n ≤ (s.region (p.key / 256)).length

/-- An atomic's target is aligned to its eight bytes (R283, check 5). -/
abbrev KeyAligned : Prop := p.op = 5 ∨ p.op = 6 → ((s.region (p.key / 256)).base + p.roff) % 8 = 0

/-- The region gives the right that a packet's opcode needs (R283, check 6). -/
abbrev keyRight : Bool :=
  bit (s.region (p.key / 256)).rights (if p.op = 2 then 1 else if p.op = 3 then 0 else if p.op = 8 then 3 else 2)

variable {s d n p}

theorem keyCheck_of_not_reaches (h : ¬ s.KeyReaches d p n) : s.keyCheck d p n = some 0x20 := by
  unfold keyCheck
  dsimp only
  refine ite_eq_left_iff.2 fun hindex => ite_eq_left_iff.2 fun hgen => ite_eq_left_iff.2 fun howner => ite_eq_left_iff.2 fun hlen => ?_
  obtain ⟨hin, hvalid⟩ := not_or.1 hindex
  exact absurd ⟨Nat.not_le.1 hin, by simpa using hvalid, not_not.1 hgen, by simpa [or_iff_not_imp_left] using howner, Nat.not_lt.1 hlen⟩ h

theorem keyCheck_of_reaches (h : s.KeyReaches d p n) :
    s.keyCheck d p n = if ¬ s.KeyAligned p then some 0x21 else if !s.keyRight p then some 0x20 else none := by
  obtain ⟨hindex, hvalid, hgen, howner, hlen⟩ := h
  unfold keyCheck
  dsimp only
  rw [if_neg (by simp [hvalid, hindex]), if_neg (not_not.2 hgen), if_neg (by simpa [or_iff_not_imp_left] using howner), if_neg (Nat.not_lt.2 hlen)]
  simp only [KeyAligned, Classical.not_imp]

/-- What the key checks come to: the first four in one, the alignment, and the right. -/
theorem keyCheck_cases :
    (¬ s.KeyReaches d p n ∧ s.keyCheck d p n = some 0x20) ∨
    (s.KeyReaches d p n ∧ ¬ s.KeyAligned p ∧ s.keyCheck d p n = some 0x21) ∨
    (s.KeyReaches d p n ∧ s.KeyAligned p ∧ s.keyRight p = false ∧ s.keyCheck d p n = some 0x20) ∨
    (s.KeyReaches d p n ∧ s.KeyAligned p ∧ s.keyRight p = true ∧ s.keyCheck d p n = none) := by
  by_cases hreach : s.KeyReaches d p n
  · rw [keyCheck_of_reaches hreach]
    by_cases haligned : s.KeyAligned p
    · rw [if_neg (not_not.2 haligned)]
      rcases Bool.eq_false_or_eq_true (s.keyRight p) with hright | hright
      · exact .inr (.inr (.inr ⟨hreach, haligned, hright, by rw [hright]; rfl⟩))
      · exact .inr (.inr (.inl ⟨hreach, haligned, hright, by rw [hright]; rfl⟩))
    · exact .inr (.inl ⟨hreach, haligned, if_pos haligned⟩)
  · exact .inl ⟨hreach, keyCheck_of_not_reaches hreach⟩

end KeyCheck

/-! Atomics on device memory -/

section Atomic
variable {s : State} {n psn a : Nat} {p : HrtPkt}

theorem readPieces_fresh {x : Piece} (hbad : s.pieceBad x = false) (hstale : s.pieceStale x = false) :
    s.readPieces [x] = (some (s.pieceBytes x), s) := by
  rw [readPieces_cons, if_neg (Bool.eq_false_iff.1 hbad), pieceRead, if_neg (Bool.eq_false_iff.1 hstale)]
  exact Prod.ext (congrArg some (List.append_nil _)) rfl

theorem writePieces_fresh (f : Nat) {m : Nat} {bs : List Byte} (hlen : bs.length = m) (hstale : s.pieceStale (.dev a m) = false) :
    s.writePieces f [.dev a m] bs = s.devWrite a bs := by
  subst hlen
  simp only [writePieces, hstale, Bool.false_eq_true, if_false, Piece.len, List.take_length]

/-- An atomic's result placed in device memory (R284, R285). -/
abbrev atomicStore (s : State) (a w : Nat) : State := (s.devWrite a (leBytes 8 w)).race [.dev a 8]

section Execute
variable {t t0 : State} {v : Nat} (hpieces : s.keyPieces p 8 true = ([.dev a 8], t, none)) (hforget : t.forgetKey n p [.dev a 8] = t0)
  (hstack : t0.stackHeld [.dev a 8] = false) (hbad : t0.pieceBad (.dev a 8) = false) (hstale : t0.pieceStale (.dev a 8) = false)
  (horiginal : ofLe (t0.mem.dev.readBytes a 8) = v)
include hpieces hforget hstack hbad hstale horiginal

/-- An atomic on eight bytes of device memory that can be read stores what R284 makes of the original. -/
theorem execAtomic_stores {w : Nat} (hresult : atomicResult p v = some w) :
    s.execAtomic n psn p = some ((t0.atomicStore a w).atomicDone n psn p v) := by
  subst hforget horiginal
  have hwrite := writePieces_fresh ((s.qp n).owner.getD 0) (bs := leBytes 8 w) (length_leBytes 8 w) hstale
  simp only [execAtomic, hpieces, hstack, readPieces_fresh hbad hstale, pieceBytes, hresult, hwrite, Bool.false_eq_true, if_false]

theorem execAtomic_keeps (hresult : atomicResult p v = none) : s.execAtomic n psn p = some (t0.atomicDone n psn p v) := by
  subst hforget horiginal
  simp only [execAtomic, hpieces, hstack, readPieces_fresh hbad hstale, pieceBytes, hresult, Bool.false_eq_true, if_false]

end Execute

theorem atomicResult_add {v : Nat} (hop : p.op = 5) : atomicResult p v = some ((v + p.operand) % 2 ^ 64) := if_pos hop

theorem atomicResult_swap {v : Nat} (hop : p.op ≠ 5) (hv : v = p.compare) : atomicResult p v = some p.operand :=
  (if_neg hop).trans (if_pos hv)

theorem atomicResult_kept {v : Nat} (hop : p.op ≠ 5) (hv : v ≠ p.compare) : atomicResult p v = none := (if_neg hop).trans (if_neg hv)

theorem atomicStore_dev (s : State) (a w : Nat) : (s.atomicStore a w).mem.dev = s.mem.dev.writeBytes a (leBytes 8 w) :=
  (congrArg (fun u : State => u.mem.dev) (raceBut_frame _ none _) :).trans (devWrite_dev s a _)

end Atomic
end Sys2Proof.Machine.State

open Sys2Proof Sys2Proof.Machine Sys2Proof.Claims

/-- Settles O36: the key checks end at the first that fails, and an atomic on device memory writes what R284 computes from the original, at its
own eight bytes. -/
theorem rightsAndAtomics : Obligations.RightsAndAtomics := by
  unfold Obligations.RightsAndAtomics
  refine ⟨fun s d n p => ?checks, fun s n psn a p => ?atomics, fun s a w => ?store⟩
  case checks =>
    intro g right reach aligned
    have hcases : (¬ reach ∧ s.keyCheck d p n = some 0x20) ∨ (reach ∧ ¬ aligned ∧ s.keyCheck d p n = some 0x21) ∨
      (reach ∧ aligned ∧ right = false ∧ s.keyCheck d p n = some 0x20) ∨ (reach ∧ aligned ∧ right = true ∧ s.keyCheck d p n = none) :=
      State.keyCheck_cases
    rcases hcases with ⟨hreach, hcheck⟩ | ⟨hreach, haligned, hcheck⟩ | ⟨hreach, haligned, hright, hcheck⟩ | ⟨hreach, haligned, hright, hcheck⟩
    · simp [hcheck, hreach]
    · simp [hcheck, hreach, haligned]
    · simp [hcheck, hreach, haligned, hright]
    · simp [hcheck, hreach, haligned, hright]
  case atomics =>
    intro r s0 v hpieces hstop hstack hbad hstale
    have hpair : s.keyPieces p 8 true = ([.dev a 8], r.2.1, none) := Prod.ext hpieces (Prod.ext rfl hstop)
    have hforget : r.2.1.forgetKey n p [.dev a 8] = s0 := congrArg (r.2.1.forgetKey n p) hpieces.symm
    exact ⟨fun hop => State.execAtomic_stores hpair hforget hstack hbad hstale rfl (State.atomicResult_add hop),
      fun hop hv => State.execAtomic_stores hpair hforget hstack hbad hstale rfl (State.atomicResult_swap hop hv),
      fun hop hv => State.execAtomic_keeps hpair hforget hstack hbad hstale rfl (State.atomicResult_kept hop hv)⟩
  case store =>
    intro t
    have hdev : t.mem.dev = s.mem.dev.writeBytes a (leBytes 8 w) := State.atomicStore_dev s a w
    rw [hdev]
    refine ⟨fun hw => ?_, fun b hb => Ram.read_writeBytes_out _ _ _ (by simpa using hb)⟩
    rw [Ram.le_writeBytes]
    exact Nat.mod_eq_of_lt hw
end

section
/-! The retransmission timer (R270, R271) and the loss cut that each of its expiries makes (R301 to R303). -/

namespace Sys2Proof.Machine.State

variable {s : State} {n : Nat}

theorem exec_retransmitTimeout_set {due : Nat} (h : (s.qp n).timerAt = some due) : exec (.retransmitTimeout n) s =
    s.live (if (s.qp n).state = .rts ∧ due ≤ s.now then (((s.count 0x5100 4 1).lossCut n).rtoExpires n).settleHands else s) := by
  refine congrArg s.live ?_
  dsimp only
  rw [h]

/-! The loss cut (R301) -/

theorem climbDue_early (h : ∀ t, (s.qp n).climbAt = some t → s.now < t) (fuel : Nat) : s.climbDue n fuel = s := by
  cases fuel with
  | zero => rfl
  | succ fuel =>
    rw [climbDue]
    split
    next t ht => exact if_neg (Nat.not_le.2 (h t ht))
    next => rfl

theorem qp_takeRate (s : State) (n : Nat) : (s.takeRate n).qp n = { s.qp n with
    bucket := ⟨s.bucketNow (s.qp n), s.now⟩, rate := s.rateNow,
    pressure := min (s.qp n).pressure (s.rateNow.stepMax - s.rateNow.stepEcn) } := qp_setQp ..

/-- What a loss cut leaves of a QP. -/
theorem qp_lossCut (henable : s.obj 0x2702 1 = 1) (hearly : ∀ t, (s.qp n).climbAt = some t → s.now < t) :
    (s.lossCut n).qp n = { (s.takeRate n).qp n with
      rung := min 63 ((s.qp n).rung + s.obj 0x2702 8), clean := 0, lastCut := some s.now,
      climbAt := some (s.now + s.obj 0x2702 6 * 1000000) } := by
  have hon : ((s.takeRate n).qp n).rate.enable = true := by rw [qp_takeRate]; exact beq_iff_eq.2 henable
  rw [lossCut, climbDue_early hearly]
  dsimp only
  rw [if_pos hon, qp, count_hrt]
  refine (qp_setQp _ _ _).trans ?_
  rw [qp_takeRate]
  rfl

/-! The timer's expiry (R270, R271) -/

theorem rtoExpires_last (h : (s.qp n).retries = (s.qp n).attr.retryLimit) : s.rtoExpires n = (s.count 0x5100 5 1).qpErrorAll n 5 := if_pos h

theorem qp_rtoExpires (h : (s.qp n).retries ≠ (s.qp n).attr.retryLimit) : (s.rtoExpires n).qp n = { s.qp n with
    retries := (s.qp n).retries + 1, timeout := min (2 * (s.qp n).timeout) 16000, rtx := dueAgain (s.qp n) 0, rtxPage := false,
    timerAt := some (s.now + min (2 * (s.qp n).timeout) 16000 * 1000000) } := by
  rw [rtoExpires, if_neg h]
  exact qp_setQp ..

end Sys2Proof.Machine.State

open Sys2Proof Sys2Proof.Machine Sys2Proof.Claims

/-- Settles O39: the row is a loss cut and then the expiry, and each of the two is one update of the QP. -/
theorem eachTimerExpiryIsALossCut : Obligations.EachTimerExpiryIsALossCut := by
  unfold Obligations.EachTimerExpiryIsALossCut
  refine ⟨fun s n t hrun ht => ⟨fun hstate hdue => ?_, fun hearly => ?_⟩, fun s n henable hearly => ?_, fun s n => ⟨fun hmore => ?_,
    State.rtoExpires_last⟩⟩
  · exact (State.exec_retransmitTimeout_set ht).trans (State.live_guarded s _ hrun ⟨hstate, hdue⟩)
  · exact (State.exec_retransmitTimeout_set ht).trans (State.live_unguarded s _ fun hdue => Nat.not_le.2 hearly hdue.2)
  · intro q r
    rw [show r = _ from State.qp_lossCut henable hearly, State.qp_takeRate]
    exact ⟨rfl, rfl, rfl, rfl, rfl, rfl⟩
  · intro q r
    rw [show r = _ from State.qp_rtoExpires hmore]
    exact ⟨rfl, rfl, rfl⟩
end
section
/-! The machine as a whole: a step runs the command at the front of the queue, every row of the dispatcher answers a next state, and the
state after reset is standby. -/

namespace Sys2Proof.Machine

theorem step_pending {s : State} {c : Instr} {rest : List Instr} (h : s.pending = c :: rest) :
    step s = exec c { s with pending := rest } := by
  rw [step, h]

/-- Each arm of the dispatcher ends in `.next`, whatever its command finds. -/
theorem exec_next (c : Instr) (s : State) : ∃ t, exec c s = .next t := by
  cases c <;> exact ⟨_, rfl⟩

end Sys2Proof.Machine

open Sys2Proof Sys2Proof.Machine Sys2Proof.Claims

/-- Settles O1: the step's own equation for a queue that is not empty. -/
theorem stepRunsFrontCommand : Obligations.StepRunsFrontCommand := fun _ _ _ h => step_pending h

/-- Settles O3: no arm of the dispatcher ends in a fault or a refusal. -/
theorem everyCommandCompletes : Obligations.EveryCommandCompletes := exec_next

/-- Settles O4: each clause evaluates on the reset state; its tables are empty, so every page, bench, session and line reads as unlisted. -/
theorem resetIsStandby : Obligations.ResetIsStandby :=
  ⟨rfl, rfl, rfl, rfl, rfl, rfl, rfl, fun _ => rfl, fun _ => rfl, fun _ => rfl, fun _ => rfl, rfl, rfl, rfl⟩
end
section
/-! The test access port (R521): which register an instruction selects, and what the lands carry. -/

namespace Sys2Proof.Machine.State

variable {s : State}

/-- The state once the instruction register holds an instruction. -/
def withTap (s : State) (i : TapInstr) : State := { s with pw := { s.pw with tap := i, bypassBit := false } }

theorem tapTake_down (i : TapInstr) (h : s.pw.mainUp = false) : s.tapTake i = s := by simp [tapTake, h]

theorem tapTake_idcode (h : s.pw.mainUp = true) : s.tapTake .idcode = (s.withTap .idcode).emit (.tdo 32 0x10480997) := by
  simp [tapTake, h, tapActs, withTap, idcodeValue]

theorem tapTake_bypass (h : s.pw.mainUp = true) : s.tapTake .bypass = (s.withTap .bypass).emit (.tdo 1 0) := by
  simp [tapTake, h, tapActs, withTap]

theorem tapTake_samplePreload (h : s.pw.mainUp = true) :
    s.tapTake .samplePreload = (s.samplePins.2.withTap .samplePreload).emit (.tdo 17 s.samplePins.1) := by
  simp [tapTake, h, tapActs, withTap]

theorem tapTake_extest (h : s.pw.mainUp = true) (hp : s.pw.perst0 = true) :
    s.tapTake .extest = (s.withTap .extest).samplePins.2.emit (.tdo 17 (s.withTap .extest).samplePins.1) := by
  simp [tapTake, h, tapActs, withTap, hp]

/-- CLAMP and HIGHZ select the bypass register, and so does EXTEST while it acts as BYPASS. -/
theorem tapTake_bypassed {i : TapInstr} (h : s.pw.mainUp = true) (hi : i = .clamp ∨ i = .highz ∨ i = .extest ∧ s.pw.perst0 = false) :
    s.tapTake i = (s.withTap i).emit (.tdo 1 0) := by
  rcases hi with rfl | rfl | ⟨rfl, hp⟩
  · cases hp : s.pw.perst0 <;> simp [tapTake, h, tapActs, withTap, hp]
  · cases hp : s.pw.perst0 <;> simp [tapTake, h, tapActs, withTap, hp]
  · simp [tapTake, h, tapActs, withTap, hp]

/-- Beyond the five inputs, every cell of the boundary register lies at bit 5 or above. -/
theorem four_dvd_outputCells (l : List (Option Bool × Nat)) :
    4 ∣ (l.map fun x => (match x.1 with
      | some true => 3
      | some false => 2
      | none => 1) * 2 ^ (5 + 2 * x.2)).sum :=
  List.dvd_sum fun y hy => by
    obtain ⟨x, -, rfl⟩ := List.mem_map.1 hy
    exact (pow_dvd_pow 2 (by omega : 2 ≤ 5 + 2 * x.2)).mul_left _

theorem samplePins_low : bit s.samplePins.1 0 = !s.pw.perst0 ∧ bit s.samplePins.1 1 = !s.pw.perst1 := by
  obtain ⟨k, hk⟩ := four_dvd_outputCells s.outputPins.zipIdx
  have hvalue : s.samplePins.1 = bnat (!s.pw.perst0) + 2 * bnat (!s.pw.perst1) + 4 * ((s.freeNat 3).1 + k) := by
    rw [Nat.mul_add, ← hk, ← Nat.add_assoc]
    rfl
  rw [hvalue]
  cases s.pw.perst0 <;> cases s.pw.perst1 <;> simp [bit, bnat] <;> omega

end Sys2Proof.Machine.State

open Sys2Proof Sys2Proof.Machine Sys2Proof.Claims

/-- Settles O59: each instruction's register by its own equation of `tapTake`; the lands then follow from the instruction in force. -/
theorem testAccessPort : Obligations.TestAccessPort := by
  unfold Obligations.TestAccessPort
  intro s
  refine ⟨⟨_, rfl, rfl, rfl⟩, fun hup => ⟨?_, ?_, fun n => ?_, fun c i hrow => ?_⟩, fun hdown n => ?_⟩
  · refine ⟨s.tapTake .idcode, rfl, ?_⟩
    rw [State.tapTake_idcode hup]
    exact ⟨rfl, rfl, rfl⟩
  · refine ⟨s.tapTake .bypass, rfl, ?_⟩
    rw [State.tapTake_bypass hup]
    exact ⟨rfl, rfl, rfl⟩
  · refine ⟨_, congrArg Host.Outcome.next (if_pos hup), ?_⟩
    rw [State.tapTake_samplePreload hup]
    exact ⟨rfl, rfl, s.samplePins.1, rfl, State.samplePins_low⟩
  · have hexec : exec c s = .next (s.tapTake i) ∧ (i = .extest ∨ i = .clamp ∨ i = .highz) := by
      simp only [List.mem_cons, Prod.mk.injEq, List.not_mem_nil, or_false] at hrow
      obtain ⟨rfl, rfl⟩ | ⟨rfl, rfl⟩ | ⟨rfl, rfl⟩ := hrow
      · exact ⟨rfl, .inl rfl⟩
      · exact ⟨rfl, .inr (.inl rfl)⟩
      · exact ⟨rfl, .inr (.inr rfl)⟩
    obtain ⟨hexec, hi⟩ := hexec
    cases hp : s.pw.perst0
    · have htake := State.tapTake_bypassed (i := i) hup (by tauto)
      have hpins : ((s.withTap i).emit (.tdo 1 0)).outputPins = ((s.withTap i).emit (.tdo 1 0)).ownPins := by
        rcases hi with rfl | rfl | rfl <;> simp [State.outputPins, State.tapActs, State.withTap, hp]
      rw [htake] at hexec
      exact ⟨⟨_, hexec, rfl, rfl⟩, fun _ => ⟨_, hexec, rfl, hpins⟩, nofun⟩
    · refine ⟨⟨_, hexec, ?_⟩, nofun, fun _ => ⟨_, hexec, ?_⟩⟩
      all_goals
        rcases hi with rfl | rfl | rfl
        · rw [State.tapTake_extest hup hp]
          simp [State.outputPins, State.tapActs, State.withTap, State.samplePins, State.freeNat, hp]
        · rw [State.tapTake_bypassed hup (by simp)]
          simp [State.outputPins, State.tapActs, State.withTap, hp]
        · rw [State.tapTake_bypassed hup (by simp)]
          simp [State.outputPins, State.tapActs, State.withTap, hp]
  · have hnot : ¬ s.pw.mainUp = true := Bool.eq_false_iff.1 hdown
    have hkept (i : TapInstr) : Host.Outcome.next (s.tapTake i) = (.next s : Host.Outcome State Fault Refusal) :=
      congrArg Host.Outcome.next (State.tapTake_down i hdown)
    exact ⟨hkept .extest, hkept .idcode, congrArg Host.Outcome.next (if_neg hnot), hkept .clamp, hkept .highz, hkept .bypass⟩
end
section
/-! Every function of the model that answers a state keeps the byte memories canonical: one lemma for each, in the model's order. A lemma
cites those of the functions that its function calls; at the bottom stand the four writers of a byte memory, and what builds a state from
fields that are no memory keeps them by definition. -/

-- One lemma after another: elaborated at once, the many that wait for others would each hold a thread and its stack.
set_option Elab.async false

namespace Sys2Proof.Machine.State

theorem memoriesWf_foldl {α : Type} {f : State → α → State} {s : State} (hf : ∀ u x, u.memoriesWf → (f u x).memoriesWf)
    (l : List α) (h : s.memoriesWf) :
    (l.foldl f s).memoriesWf := foldl_inv memoriesWf f hf l s h

theorem memoriesWf_foldl_fst {α β : Type} {f : State × β → α → State × β} {s : State × β} (hf : ∀ u x, u.1.memoriesWf → (f u x).1.memoriesWf)
    (l : List α) (h : s.1.memoriesWf) :
    (l.foldl f s).1.memoriesWf := foldl_inv (fun u => u.1.memoriesWf) f hf l s h

theorem memoriesWf_foldl_snd {α β : Type} {f : β × State → α → β × State} {s : β × State} (hf : ∀ u x, u.2.memoriesWf → (f u x).2.memoriesWf)
    (l : List α) (h : s.2.memoriesWf) :
    (l.foldl f s).2.memoriesWf := foldl_inv (fun u => u.2.memoriesWf) f hf l s h

theorem memoriesWf_getD {o : Option State} {s : State} (hs : s.memoriesWf) (ho : ∀ u, o = some u → u.memoriesWf) : (o.getD s).memoriesWf := by
  cases o with
  | none => exact hs
  | some u => exact ho u rfl

theorem memoriesWf_ite {c : Prop} [Decidable c] {s t : State} (hs : c → s.memoriesWf) (ht : ¬ c → t.memoriesWf) :
    (if c then s else t).memoriesWf := by
  split
  next h => exact hs h
  next h => exact ht h

theorem memoriesWf_withCmp {s : State} (c : ComputeState) (hs : s.memoriesWf) : ({ s with cmp := c } : State).memoriesWf := hs

theorem memoriesWf_withCipher {s : State} (c : CipherState) (hs : s.memoriesWf) : ({ s with cipher := c } : State).memoriesWf := hs

theorem memoriesWf_of_fst {β : Type} {x : State × β} {u : State} {b : β} (h : x.1.memoriesWf) (e : x = (u, b)) : u.memoriesWf := by
  subst e; exact h

theorem memoriesWf_of_snd {β : Type} {x : β × State} {b : β} {u : State} (h : x.2.memoriesWf) (e : x = (b, u)) : u.memoriesWf := by
  subst e; exact h

theorem memoriesWf_withLed {s : State} (l : LedgerState) (hs : s.memoriesWf) : ({ s with led := l } : State).memoriesWf := hs

/-! Machine/Ops.lean -/

theorem memoriesWf_setBlob (s : State) (idx sub inst : Nat) (v : List Byte) (hs : s.memoriesWf) : (s.setBlob idx sub inst v).memoriesWf := hs

theorem memoriesWf_markFlash (s : State) (idx sub inst : Nat) (hs : s.memoriesWf) : (s.markFlash idx sub inst).memoriesWf := by
  grind [State.memoriesWf, State.markFlash]

theorem memoriesWf_putObj (s : State) (idx sub inst v : Nat) (hs : s.memoriesWf) : (s.putObj idx sub inst v).memoriesWf := by
  grind [State.memoriesWf, State.putObj, memoriesWf_markFlash, memoriesWf_setObj]

theorem memoriesWf_putBlob (s : State) (idx sub inst : Nat) (v : List Byte) (hs : s.memoriesWf) : (s.putBlob idx sub inst v).memoriesWf := by
  grind [State.memoriesWf, State.putBlob, memoriesWf_markFlash, memoriesWf_setBlob]

theorem memoriesWf_setCtr (s : State) (idx sub v : Nat) (hs : s.memoriesWf) : (s.setCtr idx sub v).memoriesWf := hs

theorem memoriesWf_countFree (s : State) (idx sub : Nat) (hs : s.memoriesWf) : (s.countFree idx sub).memoriesWf := hs

theorem memoriesWf_riseNow (s : State) (idx sub : Nat) (hs : s.memoriesWf) : (s.riseNow idx sub).memoriesWf := by
  grind [State.memoriesWf, State.riseNow, memoriesWf_countFree]

theorem memoriesWf_countSince (s : State) (idx sub n since : Nat) (hs : s.memoriesWf) : (s.countSince idx sub n since).memoriesWf := by
  grind [State.memoriesWf, State.countSince, memoriesWf_count]

theorem memoriesWf_clearCtr (s : State) (idx sub : Nat) (hs : s.memoriesWf) : (s.clearCtr idx sub).memoriesWf := hs

theorem memoriesWf_forceAll (s : State) (hs : s.memoriesWf) : s.forceAll.memoriesWf := hs

theorem memoriesWf_freeBytes (s : State) (n : Nat) (hs : s.memoriesWf) : (s.freeBytes n).2.memoriesWf := hs

theorem memoriesWf_randomBytes (s : State) (n : Nat) (hs : s.memoriesWf) : (s.randomBytes n).2.memoriesWf := hs

theorem memoriesWf_freeNat (s : State) (w : Nat) (hs : s.memoriesWf) : (s.freeNat w).2.memoriesWf := hs

theorem memoriesWf_setBench (s : State) (b : Nat) (v : Bench) (hs : s.memoriesWf) : (s.setBench b v).memoriesWf := hs

theorem memoriesWf_setStack (s : State) (k : Nat) (v : Stack) (hs : s.memoriesWf) : (s.setStack k v).memoriesWf := hs

theorem memoriesWf_setSlot (s : State) (f k : Nat) (v : Option Slot) (hs : s.memoriesWf) : (s.setSlot f k v).memoriesWf := hs

theorem memoriesWf_setJob (s : State) (d : Nat) (v : Option Job) (hs : s.memoriesWf) : (s.setJob d v).memoriesWf := hs

theorem memoriesWf_setRegion (s : State) (r : Nat) (v : Region) (hs : s.memoriesWf) : (s.setRegion r v).memoriesWf := hs

theorem memoriesWf_setWindows (s : State) (d : Nat) (v : List Window) (hs : s.memoriesWf) : (s.setWindows d v).memoriesWf := hs

theorem memoriesWf_setDev (s : State) (r : Ram) (hs : s.memoriesWf) (hr : r.wf = true) : (s.setDev r).memoriesWf := ⟨hr, hs.2⟩

theorem memoriesWf_setHost (s : State) (r : Ram) (hs : s.memoriesWf) (hr : r.wf = true) : (s.setHost r).memoriesWf := ⟨hs.1, hr, hs.2.2⟩

theorem memoriesWf_setPeer (s : State) (r : Ram) (hs : s.memoriesWf) (hr : r.wf = true) : (s.setPeer r).memoriesWf := ⟨hs.1, hs.2.1, hr⟩

theorem memoriesWf_setLine (s : State) (src : Nat) (v : FaultLine) (hs : s.memoriesWf) : (s.setLine src v).memoriesWf := hs

theorem memoriesWf_raiseSource (s : State) (src : Nat) (hs : s.memoriesWf) : (s.raiseSource src).memoriesWf := by
  grind [State.memoriesWf, State.raiseSource, memoriesWf_setLine, memoriesWf_count]

theorem memoriesWf_setCondition (s : State) (src : Nat) (holds : Bool) (hs : s.memoriesWf) : (s.setCondition src holds).memoriesWf := by
  grind [State.memoriesWf, State.setCondition, memoriesWf_setLine]

theorem memoriesWf_newCauses (s : State) (src n : Nat) (holds : Bool) (hs : s.memoriesWf) : (s.newCauses src n holds).memoriesWf := by
  grind [State.memoriesWf, State.newCauses, memoriesWf_count, memoriesWf_setCondition]

theorem memoriesWf_setSession (s : State) (k : Nat) (v : Option Session) (hs : s.memoriesWf) : (s.setSession k v).memoriesWf := hs

theorem memoriesWf_notifySession (s : State) (k : Nat) (ss : Session) (e : PendingEvent) (hs : s.memoriesWf) :
    (s.notifySession k ss e).memoriesWf := by
  grind [State.memoriesWf, State.notifySession, memoriesWf_emit, memoriesWf_setSession, memoriesWf_foldl, memoriesWf_foldl_fst,
    memoriesWf_foldl_snd]

/-! Machine/Entry.lean -/

theorem memoriesWf_setEntry (s : State) (f : Nat) (e : Entry) (hs : s.memoriesWf) : (s.setEntry f e).memoriesWf := by
  grind [State.memoriesWf, State.setEntry, memoriesWf_setFn]

theorem memoriesWf_busy (s : State) (f : Nat) (e : Entry) (hs : s.memoriesWf) : (s.busy f e).memoriesWf := by
  grind [State.memoriesWf, State.busy, memoriesWf_setEntry]

theorem memoriesWf_runEntry (s : State) (f idx : Nat) (ops : List Nat) (k : Entry → State → State) (hs : s.memoriesWf)
    (hk : ∀ x0 x1, x1.memoriesWf → (k x0 x1).memoriesWf) : (s.runEntry f idx ops k).memoriesWf := by
  grind [State.memoriesWf, State.runEntry]

/-! Machine/Translate.lean -/

theorem memoriesWf_cachePointer (s : State) (c : CachedPointer) (hs : s.memoriesWf) : (s.cachePointer c).memoriesWf := hs

theorem memoriesWf_cacheLeaf (s : State) (c : CachedLeaf) (hs : s.memoriesWf) : (s.cacheLeaf c).memoriesWf := hs

theorem memoriesWf_walkFrom (s : State) (d dva lv reg off : Nat) (via : List Nat) (hs : s.memoriesWf) :
    (s.walkFrom d dva lv reg off via).2.memoriesWf := by
  induction lv generalizing reg off via s with
  | zero => grind [State.memoriesWf, State.walkFrom, memoriesWf_count, memoriesWf_raiseSource, memoriesWf_cachePointer]
  | succ n ih => grind [State.memoriesWf, State.walkFrom, memoriesWf_count, memoriesWf_raiseSource, memoriesWf_cachePointer]

theorem memoriesWf_walk (s : State) (d dva : Nat) (hs : s.memoriesWf) : (s.walk d dva).2.memoriesWf := by
  grind [State.memoriesWf, State.walk, memoriesWf_walkFrom]

theorem memoriesWf_noteStale (s : State) (c : CachedLeaf) (hs : s.memoriesWf) : (s.noteStale c).memoriesWf := by
  grind [State.memoriesWf, State.noteStale]

theorem memoriesWf_learnLeaf (s : State) (c : CachedLeaf) (hs : s.memoriesWf) : (s.learnLeaf c).memoriesWf := by
  grind [State.memoriesWf, State.learnLeaf, memoriesWf_noteStale]

theorem memoriesWf_walkLeaf (s : State) (d dva : Nat) (hs : s.memoriesWf) : (s.walkLeaf d dva).2.memoriesWf := by
  grind [State.memoriesWf, State.walkLeaf, memoriesWf_walk, memoriesWf_count, memoriesWf_learnLeaf]

theorem memoriesWf_translate (s : State) (d dva : Nat) (write remoteOk : Bool) (hs : s.memoriesWf) :
    (s.translate d dva write remoteOk).2.memoriesWf := by
  grind [State.memoriesWf, State.translate, memoriesWf_count, memoriesWf_raiseSource, memoriesWf_cacheLeaf, memoriesWf_noteStale,
    memoriesWf_walkLeaf]

theorem memoriesWf_dropStale (s : State) (d base len : Nat) (hs : s.memoriesWf) : (s.dropStale d base len).memoriesWf := hs

theorem memoriesWf_forgetLeaves (s : State) (d base len : Nat) (hs : s.memoriesWf) : (s.forgetLeaves d base len).memoriesWf := hs

theorem memoriesWf_dropCached (s : State) (d base len : Nat) (hs : s.memoriesWf) : (s.dropCached d base len).memoriesWf := hs

theorem memoriesWf_dropDrawer (s : State) (d : Nat) (hs : s.memoriesWf) : (s.dropDrawer d).memoriesWf := hs

theorem memoriesWf_renewDrawer (s : State) (d : Nat) (hs : s.memoriesWf) : (s.renewDrawer d).memoriesWf := by
  grind [State.memoriesWf, State.renewDrawer, memoriesWf_dropStale, memoriesWf_dropDrawer]

theorem memoriesWf_dropRegion (s : State) (r : Nat) (hs : s.memoriesWf) : (s.dropRegion r).memoriesWf := hs

theorem memoriesWf_dropChunk (s : State) (d c : Nat) (hs : s.memoriesWf) : (s.dropChunk d c).memoriesWf := hs

theorem memoriesWf_resolveDva (s : State) (d : Nat) (write remoteOk : Bool) (fuel dva len : Nat) (acc : List Piece) (hs : s.memoriesWf) :
    (s.resolveDva d write remoteOk fuel dva len acc).2.memoriesWf := by
  induction fuel generalizing s dva len acc with
  | zero => grind [State.memoriesWf, State.resolveDva, memoriesWf_translate]
  | succ n ih => grind [State.memoriesWf, State.resolveDva, memoriesWf_translate]

theorem memoriesWf_resolveRange (s : State) (d dva len : Nat) (write remoteOk : Bool) (hs : s.memoriesWf) :
    (s.resolveRange d dva len write remoteOk).2.memoriesWf := by
  grind [State.memoriesWf, State.resolveRange, memoriesWf_resolveDva]

theorem memoriesWf_resolveRegion (s : State) (d r off len : Nat) (write remoteOk : Bool) (hs : s.memoriesWf) :
    (s.resolveRegion d r off len write remoteOk).2.memoriesWf := by
  grind [State.memoriesWf, State.resolveRegion, memoriesWf_resolveRange]

theorem memoriesWf_resolveBuf (s : State) (d : Nat) (b : BufRef) (len : Nat) (write remoteOk : Bool) (hs : s.memoriesWf) :
    (s.resolveBuf d b len write remoteOk).2.memoriesWf := by
  rw [State.resolveBuf.eq_def]
  grind [State.memoriesWf, memoriesWf_resolveRange, memoriesWf_resolveRegion]

theorem memoriesWf_parityMet (s : State) (p : Piece) (hs : s.memoriesWf) : (s.parityMet p).memoriesWf := by
  rw [State.parityMet.eq_def]
  grind [State.memoriesWf, memoriesWf_raiseSource, memoriesWf_count]

theorem memoriesWf_readPieces (s : State) (ps : List Piece) (hs : s.memoriesWf) : (s.readPieces ps).2.memoriesWf := by
  induction ps generalizing s with
  | nil => exact hs
  | cons x xs ih =>
    unfold readPieces
    dsimp only
    repeat' split
    all_goals grind [memoriesWf_freeBytes, memoriesWf_parityMet]

theorem memoriesWf_markDirty (s : State) (off n : Nat) (hs : s.memoriesWf) : (s.markDirty off n).memoriesWf := by
  grind [State.memoriesWf, State.markDirty, memoriesWf_foldl, memoriesWf_foldl_fst, memoriesWf_foldl_snd]

theorem memoriesWf_devWrite (s : State) (off : Nat) (bs : List Byte) (hs : s.memoriesWf) : (s.devWrite off bs).memoriesWf := by
  grind [memoriesWf, State.devWrite, memoriesWf_markDirty, memoriesWf_setDev, Ram.wf_writeBytes]

theorem memoriesWf_busWrite (s : State) (f port a : Nat) (bs : List Byte) (hs : s.memoriesWf) : (s.busWrite f port a bs).memoriesWf := by
  grind [memoriesWf, State.busWrite, memoriesWf_hostWrite, memoriesWf_setPeer, Ram.wf_writeBytes]

theorem memoriesWf_writePieces (s : State) (f : Nat) (ps : List Piece) (bs : List Byte) (hs : s.memoriesWf) :
    (s.writePieces f ps bs).memoriesWf := by
  induction ps generalizing s bs with
  | nil => exact hs
  | cons x xs ih =>
    unfold writePieces
    dsimp only
    repeat' split
    all_goals grind [memoriesWf_freeBytes, memoriesWf_devWrite, memoriesWf_busWrite]

theorem memoriesWf_scramblePieces (s : State) (f : Nat) (ps : List Piece) (hs : s.memoriesWf) : (s.scramblePieces f ps).memoriesWf := by
  grind [State.memoriesWf, State.scramblePieces, memoriesWf_freeBytes, memoriesWf_writePieces]

theorem memoriesWf_moveWait (s : State) (f : Nat) (e : Entry) (t : State) (hs : s.memoriesWf) : (s.moveWait f e t).memoriesWf := by
  grind [State.memoriesWf, State.moveWait, memoriesWf_count, memoriesWf_setEntry]

theorem memoriesWf_waitForMove (s : State) (d who : Nat) (t : State) (hs : s.memoriesWf) : (s.waitForMove d who t).memoriesWf := by
  grind [State.memoriesWf, State.waitForMove, memoriesWf_count]

/-! Machine/Signals.lean -/

theorem memoriesWf_settleStack (s : State) (k : Nat) (hs : s.memoriesWf) : (s.settleStack k).memoriesWf := by
  grind [State.memoriesWf, State.settleStack, memoriesWf_setStack]

theorem memoriesWf_settleCycles (s : State) (hs : s.memoriesWf) : s.settleCycles.memoriesWf := by
  grind [State.memoriesWf, State.settleCycles, memoriesWf_settleStack, memoriesWf_foldl, memoriesWf_foldl_fst, memoriesWf_foldl_snd]

theorem memoriesWf_enter (s : State) (b : Nat) (r : RunState) (hs : s.memoriesWf) : (s.enter b r).memoriesWf := by
  grind [State.memoriesWf, State.enter, memoriesWf_count, memoriesWf_setBench, memoriesWf_foldl, memoriesWf_foldl_fst, memoriesWf_foldl_snd]

theorem memoriesWf_askWake (s : State) (b : Nat) (hs : s.memoriesWf) : (s.askWake b).memoriesWf := by
  grind [State.memoriesWf, State.askWake, memoriesWf_setStack, memoriesWf_setBench]

theorem memoriesWf_askHelp (s : State) (b : Nat) (hs : s.memoriesWf) : (s.askHelp b).memoriesWf := by
  grind [State.memoriesWf, State.askHelp, memoriesWf_setStack]

theorem memoriesWf_grantWake (s : State) (i : Nat) (hs : s.memoriesWf) : (s.grantWake i).memoriesWf := by
  grind [State.memoriesWf, State.grantWake, memoriesWf_setStack, memoriesWf_setBench, memoriesWf_count]

theorem memoriesWf_park (s : State) (b : Nat) (hs : s.memoriesWf) : (s.park b).memoriesWf := by
  grind [State.memoriesWf, State.park, memoriesWf_enter, memoriesWf_setStack, memoriesWf_setBench]

theorem memoriesWf_observePeg (s : State) (b peg : Nat) (hs : s.memoriesWf) : (s.observePeg b peg).memoriesWf := by
  grind [State.memoriesWf, State.observePeg, memoriesWf_setBench]

theorem memoriesWf_pegChanged (s : State) (b peg : Nat) (hs : s.memoriesWf) : (s.pegChanged b peg).memoriesWf := by
  grind [State.memoriesWf, State.pegChanged, memoriesWf_askWake, memoriesWf_enter, memoriesWf_observePeg, memoriesWf_setBench]

theorem memoriesWf_checkWaits (s : State) (h : Nat) (hs : s.memoriesWf) : (s.checkWaits h).memoriesWf := by
  grind [State.memoriesWf, State.checkWaits, memoriesWf_completeIdx, memoriesWf_foldl, memoriesWf_foldl_fst, memoriesWf_foldl_snd]

theorem memoriesWf_setHubPegAt (s : State) (h v n : Nat) (hs : s.memoriesWf) : (s.setHubPegAt h v n).memoriesWf := by
  grind [State.memoriesWf, State.setHubPegAt, memoriesWf_pegChanged, memoriesWf_checkWaits, memoriesWf_foldl, memoriesWf_foldl_fst,
    memoriesWf_foldl_snd]

theorem memoriesWf_setHubPeg (s : State) (h v : Nat) (hs : s.memoriesWf) : (s.setHubPeg h v).memoriesWf := by
  grind [State.memoriesWf, State.setHubPeg, memoriesWf_setHubPegAt]

theorem memoriesWf_addHubPeg (s : State) (h v : Nat) (hs : s.memoriesWf) : (s.addHubPeg h v).memoriesWf := by
  grind [State.memoriesWf, State.addHubPeg, memoriesWf_setHubPegAt]

theorem memoriesWf_addBenchPeg (s : State) (b peg v : Nat) (hs : s.memoriesWf) : (s.addBenchPeg b peg v).memoriesWf := by
  grind [State.memoriesWf, State.addBenchPeg, memoriesWf_addHubPeg, memoriesWf_pegChanged, memoriesWf_setBench]

theorem memoriesWf_failJob (s : State) (d status logical instr : Nat) (hs : s.memoriesWf) : (s.failJob d status logical instr).memoriesWf := by
  grind [State.memoriesWf, State.failJob, memoriesWf_park, memoriesWf_setJob, memoriesWf_foldl, memoriesWf_foldl_fst, memoriesWf_foldl_snd]

theorem memoriesWf_workDone (s : State) (d work status : Nat) (hs : s.memoriesWf) : (s.workDone d work status).memoriesWf := by
  grind [State.memoriesWf, State.workDone, memoriesWf_setJob, memoriesWf_failJob]

theorem memoriesWf_raceBut (s : State) (own : Option Nat) (ps : List Piece) (hs : s.memoriesWf) : (s.raceBut own ps).memoriesWf := by
  grind [State.memoriesWf, State.raceBut, memoriesWf_setBench, memoriesWf_foldl, memoriesWf_foldl_fst, memoriesWf_foldl_snd]

theorem memoriesWf_race (s : State) (ps : List Piece) (hs : s.memoriesWf) : (s.race ps).memoriesWf := by
  grind [State.memoriesWf, State.race, memoriesWf_raceBut]

theorem memoriesWf_issueOrdering (s : State) (port addr fid : Nat) (why : OrderedBy) (hs : s.memoriesWf) :
    (s.issueOrdering port addr fid why).memoriesWf := by
  grind [State.memoriesWf, State.issueOrdering, memoriesWf_emit]

theorem memoriesWf_noteBus (s : State) (f idx : Nat) (ps : List Piece) (hs : s.memoriesWf) : (s.noteBus f idx ps).memoriesWf := by
  grind [State.memoriesWf, State.noteBus, memoriesWf_setFn, memoriesWf_foldl, memoriesWf_foldl_fst, memoriesWf_foldl_snd]

/-! Machine/HandWire.lean -/

theorem memoriesWf_noteHand (s : State) (t mark status : Nat) (hs : s.memoriesWf) : (s.noteHand t mark status).memoriesWf := by
  grind [State.memoriesWf, State.noteHand, memoriesWf_setTable]

theorem memoriesWf_countSegment (s : State) (t mark : Nat) (hs : s.memoriesWf) : (s.countSegment t mark).memoriesWf := by
  grind [State.memoriesWf, State.countSegment, memoriesWf_count]

theorem memoriesWf_deliverHand (s : State) (drawer : Nat) (p : HandPkt) (hs : s.memoriesWf) : (s.deliverHand drawer p).memoriesWf := by
  grind [State.memoriesWf, State.deliverHand, memoriesWf_count, memoriesWf_setTable]

/-! Machine/Packets.lean -/

theorem memoriesWf_mapXfer (s : State) (id : Nat) (g : Xfer → Xfer) (hs : s.memoriesWf) : (s.mapXfer id g).memoriesWf := hs

theorem memoriesWf_noteLeft (s : State) (pkt : List Byte) (hs : s.memoriesWf) : (s.noteLeft pkt).memoriesWf := by
  grind [State.memoriesWf, State.noteLeft, memoriesWf_mapXfer]

theorem memoriesWf_sendPacket (s : State) (port vc source : Nat) (pkt : List Byte) (hs : s.memoriesWf) :
    (s.sendPacket port vc source pkt).memoriesWf := by
  grind [State.memoriesWf, State.sendPacket, memoriesWf_noteLeft, memoriesWf_count, memoriesWf_emit]

theorem memoriesWf_putPacket (s : State) (port vc source : Nat) (pkt : List Byte) (hs : s.memoriesWf) :
    (s.putPacket port vc source pkt).memoriesWf := by
  grind [State.memoriesWf, State.putPacket, memoriesWf_count, memoriesWf_sendPacket, memoriesWf_setOutQueue]

theorem memoriesWf_sendRouted (s : State) (p : Packet) (hs : s.memoriesWf) : (s.sendRouted p).memoriesWf := by
  grind [State.memoriesWf, State.sendRouted, memoriesWf_putPacket]

theorem memoriesWf_dropPackets (s : State) (id : Nat) (hs : s.memoriesWf) : (s.dropPackets id).memoriesWf := by
  grind [State.memoriesWf, State.dropPackets, memoriesWf_setOutQueue, memoriesWf_foldl, memoriesWf_foldl_fst, memoriesWf_foldl_snd]

theorem memoriesWf_answerDerone (s : State) (dst kind id code : Nat) (hs : s.memoriesWf) : (s.answerDerone dst kind id code).memoriesWf := by
  grind [State.memoriesWf, State.answerDerone, memoriesWf_count, memoriesWf_sendRouted]

theorem memoriesWf_mixedBytes (s : State) (src id off : Nat) (bs : List Byte) (hs : s.memoriesWf) :
    (s.mixedBytes src id off bs).2.memoriesWf := by
  grind [State.memoriesWf, State.mixedBytes]

theorem memoriesWf_notePlaced (s : State) (src id off n : Nat) (hs : s.memoriesWf) : (s.notePlaced src id off n).memoriesWf := hs

theorem memoriesWf_placeBytes (s : State) (own : Option Nat) (src id off : Nat) (bs : List Byte) (hs : s.memoriesWf) :
    (s.placeBytes own src id off bs).memoriesWf := by
  grind [State.memoriesWf, State.placeBytes, memoriesWf_mixedBytes, memoriesWf_notePlaced, memoriesWf_raceBut, memoriesWf_devWrite]

theorem memoriesWf_placeOnto (s : State) (f src id : Nat) (ps : List Piece) (bs : List Byte) (hs : s.memoriesWf) :
    (s.placeOnto f src id ps bs).memoriesWf := by
  induction ps generalizing s bs with
  | nil => grind [State.memoriesWf, State.placeOnto, memoriesWf_writePieces, memoriesWf_placeBytes]
  | cons x xs ih => cases x <;> grind [State.memoriesWf, State.placeOnto, memoriesWf_writePieces, memoriesWf_placeBytes]

theorem memoriesWf_localPieces (s : State) (x : Xfer) (rs : List (Nat × Nat)) (hs : s.memoriesWf) : (s.localPieces x rs).1.memoriesWf := by
  induction rs generalizing s with
  | nil => grind [State.memoriesWf, State.localPieces, memoriesWf_count, memoriesWf_addHubPeg, memoriesWf_deliverHand,
    memoriesWf_placeBytes]
  | cons x xs ih => grind [State.memoriesWf, State.localPieces, memoriesWf_count, memoriesWf_addHubPeg, memoriesWf_deliverHand,
    memoriesWf_placeBytes]

theorem memoriesWf_sendXfer (s : State) (x : Xfer) (hs : s.memoriesWf) : (s.sendXfer x).memoriesWf := by
  grind [State.memoriesWf, State.sendXfer, memoriesWf_putPacket, memoriesWf_foldl, memoriesWf_foldl_fst, memoriesWf_foldl_snd]

theorem memoriesWf_launch (s : State) (x : Xfer) (hs : s.memoriesWf) : (s.launch x).1.memoriesWf := by
  grind [State.memoriesWf, State.launch, memoriesWf_countSegment, memoriesWf_localPieces, memoriesWf_sendXfer]

theorem memoriesWf_startXfer (s : State) (x : Xfer) (hs : s.memoriesWf) : (s.startXfer x).1.memoriesWf := by
  grind [State.memoriesWf, State.startXfer, memoriesWf_launch]

theorem memoriesWf_setCopy (s : State) (c : CopyOp) (hs : s.memoriesWf) : (s.setCopy c).memoriesWf := hs

theorem memoriesWf_dropCopy (s : State) (f idx : Nat) (hs : s.memoriesWf) : (s.dropCopy f idx).memoriesWf := hs

theorem memoriesWf_copyPlaced (s : State) (f idx : Nat) (dest : List Piece) (carried : Bool) (hs : s.memoriesWf) :
    (s.copyPlaced f idx dest carried).memoriesWf := by
  grind [State.memoriesWf, State.copyPlaced, memoriesWf_workDone, memoriesWf_noteBus, memoriesWf_busy, memoriesWf_issueOrdering,
    memoriesWf_completeIdx, memoriesWf_addHubPeg, memoriesWf_complete]

theorem memoriesWf_copyFailed (s : State) (f idx status : Nat) (dest : List Piece) (hs : s.memoriesWf) :
    (s.copyFailed f idx status dest).memoriesWf := by
  grind [State.memoriesWf, State.copyFailed, memoriesWf_workDone, memoriesWf_completeIdx, memoriesWf_scramblePieces]

theorem memoriesWf_copyPump (s : State) (f idx fuel : Nat) (hs : s.memoriesWf) : (s.copyPump f idx fuel).memoriesWf := by
  induction fuel generalizing s with
  | zero => exact hs
  | succ n ih =>
    rw [copyPump]
    repeat' split
    all_goals grind [memoriesWf_scramblePieces, memoriesWf_startXfer, memoriesWf_setCopy, memoriesWf_dropCopy, memoriesWf_copyPlaced,
      memoriesWf_copyFailed]

theorem memoriesWf_pumpFinals (s : State) (hs : s.memoriesWf) : s.pumpFinals.memoriesWf := by
  grind [State.memoriesWf, State.pumpFinals, memoriesWf_copyPump, memoriesWf_foldl, memoriesWf_foldl_fst, memoriesWf_foldl_snd]

theorem memoriesWf_originDone (s : State) (o : Origin) (status : Nat) (hs : s.memoriesWf) : (s.originDone o status).memoriesWf := by
  grind [State.memoriesWf, State.originDone, memoriesWf_noteHand, memoriesWf_pumpFinals, memoriesWf_copyPump, memoriesWf_setCopy]

theorem memoriesWf_startOp (s : State) (op : CopyOp) (hs : s.memoriesWf) : (s.startOp op).memoriesWf := by
  grind [State.memoriesWf, State.startOp, memoriesWf_pumpFinals, memoriesWf_copyPump]

theorem memoriesWf_endXfer (s : State) (x : Xfer) (status : Nat) (hs : s.memoriesWf) : (s.endXfer x status).memoriesWf := by
  grind [State.memoriesWf, State.endXfer, memoriesWf_dropPackets, memoriesWf_originDone]

/-! Machine/HrtWire.lean -/

theorem memoriesWf_offerFrame (s : State) (port lane tc requester : Nat) (f : TxFrame) (hs : s.memoriesWf) :
    (s.offerFrame port lane tc requester f).memoriesWf := by
  grind [State.memoriesWf, State.offerFrame, memoriesWf_count, memoriesWf_setSub]

/-! Machine/EthOps.lean -/

theorem memoriesWf_pfcClass (s : State) (port lane t : Nat) (hs : s.memoriesWf) : (s.pfcClass port lane t).memoriesWf := by
  grind [State.memoriesWf, State.pfcClass, memoriesWf_setSub]

theorem memoriesWf_pfcTick (s : State) (port : Nat) (hs : s.memoriesWf) : (s.pfcTick port).memoriesWf := by
  grind [State.memoriesWf, State.pfcTick, memoriesWf_pfcClass, memoriesWf_foldl, memoriesWf_foldl_fst, memoriesWf_foldl_snd]

theorem memoriesWf_rawUnqueue (s : State) (q : Nat) (hs : s.memoriesWf) : (s.rawUnqueue q).memoriesWf := by
  grind [State.memoriesWf, State.rawUnqueue, memoriesWf_setSub]

theorem memoriesWf_dropRaw (s : State) (q : Nat) (hs : s.memoriesWf) : (s.dropRaw q).memoriesWf := by
  grind [State.memoriesWf, State.dropRaw, memoriesWf_pfcTick, memoriesWf_setObj, memoriesWf_setRaw, memoriesWf_rawUnqueue]

theorem memoriesWf_takeShaper (s : State) (port lane c len : Nat) (hs : s.memoriesWf) : (s.takeShaper port lane c len).memoriesWf := by
  grind [State.memoriesWf, State.takeShaper, memoriesWf_setSub]

theorem memoriesWf_police (s : State) (port lane c len : Nat) (hs : s.memoriesWf) {u : State} (e : s.police port lane c len = some u) :
    u.memoriesWf := by
  grind [State.memoriesWf, State.police, memoriesWf_setSub]

theorem memoriesWf_resetBucket (s : State) (port sub_ : Nat) (hs : s.memoriesWf) : (s.resetBucket port sub_).memoriesWf := by
  grind [State.memoriesWf, State.resetBucket, memoriesWf_setSub, memoriesWf_foldl, memoriesWf_foldl_fst, memoriesWf_foldl_snd]

theorem memoriesWf_portEvent (s : State) (code kind port lane : Nat) (hs : s.memoriesWf) : (s.portEvent code kind port lane).memoriesWf := by
  grind [State.memoriesWf, State.portEvent, memoriesWf_raiseDevice]

/-! Machine/Network.lean -/

theorem memoriesWf_offerOwn (s : State) (port lane : Nat) (f : List Byte) (hs : s.memoriesWf) : (s.offerOwn port lane f).memoriesWf := by
  grind [State.memoriesWf, State.offerOwn, memoriesWf_offerFrame]

theorem memoriesWf_learn (s : State) (port lane : Nat) (ip mac : List Byte) (hs : s.memoriesWf) : (s.learn port lane ip mac).memoriesWf := hs

theorem memoriesWf_solicit (s : State) (port lane : Nat) (ip : List Byte) (hs : s.memoriesWf) : (s.solicit port lane ip).memoriesWf := by
  grind [State.memoriesWf, State.solicit, memoriesWf_offerOwn]

theorem memoriesWf_refreshNeighbours (s : State) (hs : s.memoriesWf) : s.refreshNeighbours.memoriesWf := by
  grind [State.memoriesWf, State.refreshNeighbours, memoriesWf_solicit, memoriesWf_foldl, memoriesWf_foldl_fst, memoriesWf_foldl_snd]

theorem memoriesWf_timeTake (s : State) (port lane o : Nat) (f : List Byte) (hs : s.memoriesWf) : (s.timeTake port lane o f).memoriesWf := by
  grind [State.memoriesWf, State.timeTake, memoriesWf_offerOwn]

theorem memoriesWf_netTake (s : State) (port lane : Nat) (f : List Byte) (frame : NetFrame) (hs : s.memoriesWf) :
    (s.netTake port lane f frame).memoriesWf := by
  rw [State.netTake.eq_def]
  grind [State.memoriesWf, memoriesWf_learn, memoriesWf_offerOwn]

theorem memoriesWf_announce (s : State) (port lane : Nat) (hs : s.memoriesWf) : (s.announce port lane).memoriesWf := by
  grind [State.memoriesWf, State.announce, memoriesWf_offerOwn, memoriesWf_foldl, memoriesWf_foldl_fst, memoriesWf_foldl_snd]

/-! Machine/MemOps.lean -/

theorem memoriesWf_releaseWindow (s : State) (d base : Nat) (hs : s.memoriesWf) : (s.releaseWindow d base).memoriesWf := by
  grind [State.memoriesWf, State.releaseWindow, memoriesWf_dropCached, memoriesWf_setWindows]

theorem memoriesWf_addWindow (s : State) (d : Nat) (w : Window) (hs : s.memoriesWf) : (s.addWindow d w).memoriesWf := by
  unfold addWindow
  dsimp only
  split <;> exact hs

theorem memoriesWf_walkPages (s : State) (d n page : Nat) (hs : s.memoriesWf) : (s.walkPages d n page).2.memoriesWf := by
  induction n generalizing s page with
  | zero => grind [State.memoriesWf, State.walkPages, memoriesWf_translate]
  | succ k ih => grind [State.memoriesWf, State.walkPages, memoriesWf_translate]

theorem memoriesWf_setPins (s : State) (d base len : Nat) (p : Bool) (hs : s.memoriesWf) : (s.setPins d base len p).memoriesWf := hs

theorem memoriesWf_granules (s : State) (d n g : Nat) (acc : List Nat) (hs : s.memoriesWf) : (s.granules d n g acc).2.memoriesWf := by
  induction n generalizing s g acc with
  | zero => grind [State.memoriesWf, State.granules, memoriesWf_translate]
  | succ k ih => grind [State.memoriesWf, State.granules, memoriesWf_translate]

theorem memoriesWf_moveWindows (s : State) (m : PageMove) (hs : s.memoriesWf) : (s.moveWindows m).memoriesWf := by
  grind [State.memoriesWf, State.moveWindows, memoriesWf_setWindows, memoriesWf_releaseWindow, memoriesWf_foldl, memoriesWf_foldl_fst,
    memoriesWf_foldl_snd]

theorem memoriesWf_finishMove (s : State) (m : PageMove) (hs : s.memoriesWf) {u : State} {r} (e : s.finishMove m = some (u, r)) :
    u.memoriesWf := by
  grind [State.memoriesWf, State.finishMove, memoriesWf_readPieces, memoriesWf_raiseSource, memoriesWf_count, memoriesWf_noteBus,
    memoriesWf_race, memoriesWf_writePieces, memoriesWf_forgetLeaves, memoriesWf_dropCached, memoriesWf_moveWindows, memoriesWf_busWrite]

theorem memoriesWf_moveFails (s : State) (f : Nat) (e : Entry) (evict : Bool) (status dva : Nat) (hs : s.memoriesWf) :
    (s.moveFails f e evict status dva).memoriesWf := by
  grind [State.memoriesWf, State.moveFails, memoriesWf_complete, memoriesWf_scramblePieces]

theorem memoriesWf_moveFits (s : State) (d base len dest fuel off : Nat) (hs : s.memoriesWf) :
    (s.moveFits d base len dest fuel off).2.memoriesWf := by
  induction fuel generalizing s off with
  | zero => grind [State.memoriesWf, State.moveFits, memoriesWf_walk]
  | succ n ih => grind [State.memoriesWf, State.moveFits, memoriesWf_walk]

theorem memoriesWf_startMove (s : State) (f : Nat) (e : Entry) (evict : Bool) (hs : s.memoriesWf) : (s.startMove f e evict).memoriesWf := by
  unfold startMove
  dsimp only
  split
  next t s1 h1 => grind [memoriesWf_count, memoriesWf_complete, memoriesWf_setEntry, memoriesWf_walk, memoriesWf_walkLeaf,
    memoriesWf_parityMet, memoriesWf_moveWait, memoriesWf_moveFails]
  next x s1 h1 =>
    have hs1 : s1.memoriesWf := by grind [memoriesWf_walk, memoriesWf_walkLeaf]
    clear h1
    repeat' split
    all_goals grind [memoriesWf, memoriesWf_count, memoriesWf_complete, memoriesWf_setEntry, memoriesWf_walk, memoriesWf_walkLeaf,
      memoriesWf_parityMet, memoriesWf_moveWait, memoriesWf_moveFails]

theorem memoriesWf_settleMove (s : State) (m : PageMove) (hs : s.memoriesWf) : (s.settleMove m).memoriesWf := by
  unfold State.settleMove
  repeat' split
  all_goals grind [State.memoriesWf, memoriesWf_finishMove, memoriesWf_moveFails]

theorem memoriesWf_stepMove (s : State) (f : Nat) (e : Entry) (evict : Bool) (hs : s.memoriesWf) : (s.stepMove f e evict).memoriesWf := by
  rw [State.stepMove.eq_def]
  grind [State.memoriesWf, memoriesWf_finishMove, memoriesWf_complete, memoriesWf_setEntry, memoriesWf_moveFails, memoriesWf_startMove,
    memoriesWf_moveFits]

theorem memoriesWf_loseRings (s : State) (r : Nat) (hs : s.memoriesWf) : (s.loseRings r).memoriesWf := hs

theorem memoriesWf_invalidateRegion (s : State) (r : Nat) (hs : s.memoriesWf) : (s.invalidateRegion r).memoriesWf := by
  grind [State.memoriesWf, State.invalidateRegion, memoriesWf_dropRaw, memoriesWf_loseRings, memoriesWf_dropRegion, memoriesWf_setRegion,
    memoriesWf_setObj, memoriesWf_foldl, memoriesWf_foldl_fst, memoriesWf_foldl_snd]

theorem memoriesWf_runCopy (s : State) (f : Nat) (e : Entry) (hs : s.memoriesWf) : (s.runCopy f e).memoriesWf := by
  unfold runCopy
  dsimp only
  split
  · split
    next s1 h1 => exact memoriesWf_moveWait _ _ _ _ hs
    next st s1 h1 => exact memoriesWf_copyFailed _ _ _ _ _ (memoriesWf_of_snd (memoriesWf_resolveBuf _ _ _ _ _ _ hs) h1)
    next src s1 h1 =>
      have hs1 : s1.memoriesWf := memoriesWf_of_snd (memoriesWf_resolveBuf _ _ _ _ _ _ hs) h1
      split
      next s2 h2 => exact memoriesWf_moveWait _ _ _ _ hs
      next st s2 h2 => exact memoriesWf_copyFailed _ _ _ _ _ (memoriesWf_of_snd (memoriesWf_resolveBuf _ _ _ _ _ _ hs1) h2)
      next dst s2 h2 =>
        have hs2 : s2.memoriesWf := memoriesWf_of_snd (memoriesWf_resolveBuf _ _ _ _ _ _ hs1) h2
        refine memoriesWf_ite (fun _ => memoriesWf_copyFailed _ _ _ _ _ hs2) fun _ => memoriesWf_ite (fun _ => hs) fun _ => ?_
        refine memoriesWf_ite (fun _ => hs) fun _ => memoriesWf_ite (fun _ => memoriesWf_copyFailed _ _ _ _ _ hs2) fun _ => ?_
        refine memoriesWf_ite (fun _ => memoriesWf_copyFailed _ _ _ _ _ hs2) fun _ => ?_
        split
        next r hr => exact memoriesWf_copyFailed _ _ _ _ _ (memoriesWf_of_snd (memoriesWf_readPieces _ _ hs2) hr)
        next got r hr =>
          have hread : r.memoriesWf := memoriesWf_of_snd (memoriesWf_readPieces _ _ hs2) hr
          have hmixed : (if piecesMeet src dst then r.freeBytes got.length else (got, r)).2.memoriesWf := by
            split
            · exact memoriesWf_freeBytes _ _ hread
            · exact hread
          have hplaced := memoriesWf_race _ dst (memoriesWf_writePieces _ f dst
            (if piecesMeet src dst then r.freeBytes got.length else (got, r)).1 hmixed)
          exact memoriesWf_ite (fun _ => memoriesWf_copyPlaced _ _ _ _ _ hplaced) fun _ =>
            memoriesWf_startOp _ _ (memoriesWf_busy _ _ _ hplaced)
  · exact hs

theorem memoriesWf_advise (fid idx kind : Nat) (k : Entry → State → State) (s : State)
    (hk : ∀ x0 x1, x1.memoriesWf → (k x0 x1).memoriesWf) (hs : s.memoriesWf) : (advise fid idx kind k s).memoriesWf := by
  grind [State.memoriesWf, advise, memoriesWf_runEntry]

/-! Machine/RawQueues.lean -/

theorem memoriesWf_rawRange (s : State) (q off len : Nat) (write : Bool) (hs : s.memoriesWf) : (s.rawRange q off len write).2.memoriesWf := by
  grind [State.memoriesWf, State.rawRange, memoriesWf_resolveRegion]

theorem memoriesWf_rawPut (s : State) (q off : Nat) (bs : List Byte) (peg : Option Nat) (hs : s.memoriesWf) {u : State}
    (e : s.rawPut q off bs peg = some u) : u.memoriesWf := by
  grind [State.memoriesWf, State.rawPut, memoriesWf_rawRange, memoriesWf_race, memoriesWf_writePieces, memoriesWf_issueOrdering,
    memoriesWf_addHubPeg]

theorem memoriesWf_rawWrite (s : State) (q off : Nat) (bs : List Byte) (peg : Option Nat) (hs : s.memoriesWf) :
    (s.rawWrite q off bs peg).memoriesWf := by
  unfold rawWrite
  grind [memoriesWf_getD, memoriesWf_setRaw, memoriesWf_rawPut]

theorem memoriesWf_rawDone (s : State) (q i status stamp cookie : Nat) (hs : s.memoriesWf) :
    (s.rawDone q i status stamp cookie).memoriesWf := by
  grind [State.memoriesWf, State.rawDone, memoriesWf_setRaw, memoriesWf_rawWrite, memoriesWf_count]

theorem memoriesWf_rawEnable (s : State) (q : Nat) (hs : s.memoriesWf) {u : State} (e : s.rawEnable q = some u) : u.memoriesWf := by
  grind [State.memoriesWf, State.rawEnable, memoriesWf_dropRaw, memoriesWf_setHubPeg, memoriesWf_setObj, memoriesWf_setRaw,
    memoriesWf_foldl, memoriesWf_foldl_fst, memoriesWf_foldl_snd]

theorem memoriesWf_rawFlushOne (s : State) (q : Nat) (r : RawQueue) (hs : s.memoriesWf) {u : State} (e : s.rawFlushOne q r = some u) :
    u.memoriesWf := by
  grind [State.memoriesWf, State.rawFlushOne, memoriesWf_rawRange, memoriesWf_rawDone, memoriesWf_setRaw, memoriesWf_readPieces]

theorem memoriesWf_rawSettle (s : State) (q n : Nat) (hs : s.memoriesWf) : (s.rawSettle q n).memoriesWf := by
  induction n generalizing s with
  | zero => exact hs
  | succ k ih =>
    rw [rawSettle]
    repeat' split
    all_goals grind [memoriesWf_setObj, memoriesWf_pfcTick, memoriesWf_setRaw, memoriesWf_rawPut, memoriesWf_rawFlushOne]

theorem memoriesWf_rawGoOn (s : State) (q : Nat) (hs : s.memoriesWf) : (s.rawGoOn q).memoriesWf := by
  grind [State.memoriesWf, State.rawGoOn, memoriesWf_rawSettle]

theorem memoriesWf_rawsGoOn (s : State) (hs : s.memoriesWf) : s.rawsGoOn.memoriesWf := by
  grind [State.memoriesWf, State.rawsGoOn, memoriesWf_rawGoOn, memoriesWf_foldl, memoriesWf_foldl_fst, memoriesWf_foldl_snd]

theorem memoriesWf_rawFlush (s : State) (q : Nat) (closing : Bool) (hs : s.memoriesWf) : (s.rawFlush q closing).memoriesWf := by
  grind [State.memoriesWf, State.rawFlush, memoriesWf_rawGoOn, memoriesWf_setRaw]

theorem memoriesWf_rawDisable (s : State) (q : Nat) (hs : s.memoriesWf) : (s.rawDisable q).memoriesWf := by
  grind [State.memoriesWf, State.rawDisable, memoriesWf_setObj, memoriesWf_pfcTick, memoriesWf_rawFlush, memoriesWf_rawDone,
    memoriesWf_rawUnqueue, memoriesWf_foldl, memoriesWf_foldl_fst, memoriesWf_foldl_snd]

theorem memoriesWf_rawTake (s : State) (q : Nat) (hs : s.memoriesWf) : (s.rawTake q).memoriesWf := by
  unfold rawTake
  dsimp only
  split
  · exact hs
  next r hr =>
    have hfin (t : State) (i st cookie : Nat) (ht : t.memoriesWf) : (match t.raw q with
        | some x => (t.setRaw q (some { x with txNext := i })).rawDone q r.txNext st 0 cookie
        | none => t).memoriesWf := by
      split
      · exact memoriesWf_rawDone _ _ _ _ _ _ ((memoriesWf_setRaw _ _ _).2 ht)
      · exact ht
    refine memoriesWf_ite (fun _ => memoriesWf_rawGoOn s q hs) fun _ => memoriesWf_ite (fun _ => hs) fun _ => ?_
    split
    · exact hs
    next s1 h1 => exact hfin _ _ _ _ (memoriesWf_of_snd (memoriesWf_rawRange _ _ _ _ _ hs) h1)
    next ps s1 h1 =>
      have hs1 : s1.memoriesWf := memoriesWf_of_snd (memoriesWf_rawRange _ _ _ _ _ hs) h1
      refine memoriesWf_ite (fun _ => hs) fun _ => ?_
      split
      next s2 h2 => exact hfin _ _ _ _ (memoriesWf_of_snd (memoriesWf_readPieces _ _ hs1) h2)
      next d s2 h2 =>
        have hs2 : s2.memoriesWf := memoriesWf_of_snd (memoriesWf_readPieces _ _ hs1) h2
        refine memoriesWf_ite (fun _ => hfin _ _ _ _ hs2) fun _ => ?_
        split
        · exact hs
        next st s3 h3 => exact hfin _ _ _ _ (memoriesWf_of_snd (memoriesWf_rawRange _ _ _ _ _ hs2) h3)
        next fs s3 h3 =>
          have hs3 : s3.memoriesWf := memoriesWf_of_snd (memoriesWf_rawRange _ _ _ _ _ hs2) h3
          refine memoriesWf_ite (fun _ => hs) fun _ => ?_
          split
          next s4 h4 => exact hfin _ _ _ _ (memoriesWf_of_snd (memoriesWf_readPieces _ _ hs3) h4)
          next f s4 h4 =>
            have hs4 : s4.memoriesWf := memoriesWf_of_snd (memoriesWf_readPieces _ _ hs3) h4
            refine memoriesWf_ite (fun _ => hfin _ _ _ _ hs4) fun _ => memoriesWf_ite (fun _ => hfin _ _ _ _ hs4) fun _ => ?_
            exact memoriesWf_ite (fun _ => hfin _ _ _ _ ((memoriesWf_count _ _ _ _).2 hs4)) fun _ =>
              memoriesWf_offerFrame _ _ _ _ _ _ ((memoriesWf_setRaw _ _ _).2 hs4)

theorem memoriesWf_rawJoin (s : State) (q : Nat) (f : RxFrame) (hs : s.memoriesWf) : (s.rawJoin q f).memoriesWf := by
  grind [State.memoriesWf, State.rawJoin, memoriesWf_setRaw]

theorem memoriesWf_rawDeliver (s : State) (q : Nat) (hs : s.memoriesWf) : (s.rawDeliver q).memoriesWf := by
  grind [State.memoriesWf, State.rawDeliver, memoriesWf_rawGoOn, memoriesWf_pfcTick, memoriesWf_count, memoriesWf_setRaw,
    memoriesWf_rawRange, memoriesWf_rawWrite]

/-! Machine/Ethernet.lean -/

theorem memoriesWf_markCe (s : State) (port ecn : Nat) (hs : s.memoriesWf) : (s.markCe port ecn).2.memoriesWf := by
  grind [State.memoriesWf, State.markCe]

theorem memoriesWf_hrtTake (s : State) (port lane tc flags : Nat) (u : Udp) (f : List Byte) (hs : s.memoriesWf) :
    (s.hrtTake port lane tc flags u f).memoriesWf := by
  grind [State.memoriesWf, State.hrtTake, memoriesWf_count, memoriesWf_markCe, memoriesWf_pfcTick]

theorem memoriesWf_clusterTake (s : State) (port lane tc flags : Nat) (f : List Byte) (hs : s.memoriesWf) :
    (s.clusterTake port lane tc flags f).memoriesWf := by
  grind [State.memoriesWf, State.clusterTake, memoriesWf_pfcTick, memoriesWf_rawJoin, memoriesWf_netTake, memoriesWf_timeTake,
    memoriesWf_count]

theorem memoriesWf_pauseClass (s : State) (port lane t quanta : Nat) (hs : s.memoriesWf) : (s.pauseClass port lane t quanta).memoriesWf := by
  grind [State.memoriesWf, State.pauseClass, memoriesWf_setSub]

theorem memoriesWf_pfcTake (s : State) (port lane : Nat) (l : Link) (f : List Byte) (hs : s.memoriesWf) :
    (s.pfcTake port lane l f).memoriesWf := by
  grind [State.memoriesWf, State.pfcTake, memoriesWf_pauseClass, memoriesWf_count, memoriesWf_foldl, memoriesWf_foldl_fst,
    memoriesWf_foldl_snd]

theorem memoriesWf_steer (s : State) (port lane tc flags : Nat) (f : List Byte) (hs : s.memoriesWf) :
    (s.steer port lane tc flags f).memoriesWf := by
  grind [State.memoriesWf, State.steer, memoriesWf_clusterTake, memoriesWf_pfcTake, memoriesWf_count, memoriesWf_hrtTake]

theorem memoriesWf_steerM0 (s : State) (f : List Byte) (hs : s.memoriesWf) : (s.steerM0 f).memoriesWf := by
  grind [State.memoriesWf, State.steerM0, memoriesWf_count, memoriesWf_netTake, memoriesWf_timeTake]

theorem memoriesWf_frameReceive (s : State) (port lane : Nat) (code : Bool) (f : List Byte) (hs : s.memoriesWf) :
    (s.frameReceive port lane code f).memoriesWf := by
  grind [State.memoriesWf, State.frameReceive, memoriesWf_count, memoriesWf_steerM0, memoriesWf_police, memoriesWf_steer]

theorem memoriesWf_startFrame (s : State) (port lane tc r : Nat) (f : TxFrame) (hs : s.memoriesWf) :
    (s.startFrame port lane tc r f).memoriesWf := by
  grind [State.memoriesWf, State.startFrame, memoriesWf_takeShaper, memoriesWf_setSub, memoriesWf_count, memoriesWf_emit,
    memoriesWf_rawDone]

theorem memoriesWf_transmitFrom (s : State) (port lane n : Nat) (hs : s.memoriesWf) : (s.transmitFrom port lane n).memoriesWf := by
  induction n generalizing s with
  | zero => exact hs
  | succ k ih =>
    rw [transmitFrom]
    repeat' split
    all_goals grind [memoriesWf_count, memoriesWf_setSub, memoriesWf_startFrame]

theorem memoriesWf_discardFrames (s : State) (port : Nat) (fs : List TxFrame) (hs : s.memoriesWf) : (s.discardFrames port fs).memoriesWf := by
  grind [State.memoriesWf, State.discardFrames, memoriesWf_rawDone, memoriesWf_count, memoriesWf_foldl, memoriesWf_foldl_fst,
    memoriesWf_foldl_snd]

theorem memoriesWf_dropLong (s : State) (port lane : Nat) (hs : s.memoriesWf) : (s.dropLong port lane).memoriesWf := by
  grind [State.memoriesWf, State.dropLong, memoriesWf_discardFrames, memoriesWf_setSub, memoriesWf_foldl, memoriesWf_foldl_fst,
    memoriesWf_foldl_snd]

theorem memoriesWf_transmit (s : State) (port lane : Nat) (hs : s.memoriesWf) : (s.transmit port lane).memoriesWf := by
  grind [State.memoriesWf, State.transmit, memoriesWf_count, memoriesWf_emit, memoriesWf_setSub, memoriesWf_transmitFrom,
    memoriesWf_dropLong]

theorem memoriesWf_leaveUp (s : State) (port lane : Nat) (next : LinkState) (hs : s.memoriesWf) : (s.leaveUp port lane next).memoriesWf := by
  grind [State.memoriesWf, State.leaveUp, memoriesWf_discardFrames, memoriesWf_setSub]

theorem memoriesWf_subEvent (s : State) (code port lane : Nat) (hs : s.memoriesWf) : (s.subEvent code port lane).memoriesWf := by
  grind [State.memoriesWf, State.subEvent, memoriesWf_portEvent]

theorem memoriesWf_dropSub (s : State) (port lane : Nat) (next : LinkState) (hs : s.memoriesWf) : (s.dropSub port lane next).memoriesWf := by
  grind [State.memoriesWf, State.dropSub, memoriesWf_subEvent, memoriesWf_leaveUp, memoriesWf_setSub]

theorem memoriesWf_trainPort (s : State) (port : Nat) (hs : s.memoriesWf) : (s.trainPort port).memoriesWf := by
  grind [State.memoriesWf, State.trainPort, memoriesWf_setSub, memoriesWf_foldl, memoriesWf_foldl_fst, memoriesWf_foldl_snd]

theorem memoriesWf_ethEnable (s : State) (port value : Nat) (hs : s.memoriesWf) : (s.ethEnable port value).memoriesWf := by
  grind [State.memoriesWf, State.ethEnable, memoriesWf_putObj, memoriesWf_riseNow, memoriesWf_dropSub, memoriesWf_trainPort,
    memoriesWf_foldl, memoriesWf_foldl_fst, memoriesWf_foldl_snd]

theorem memoriesWf_configChange (s : State) (port : Nat) (hs : s.memoriesWf) {u : State} (e : s.configChange port = some u) : u.memoriesWf := by
  unfold configChange at e
  dsimp only at e
  split at e
  · cases e
  · cases e
    exact (memoriesWf_setObj _ _ _ _ _).2 ((memoriesWf_setObj _ _ _ _ _).2 hs)

theorem memoriesWf_gateApply (s : State) (port : Nat) (hs : s.memoriesWf) : (s.gateApply port).memoriesWf := by
  grind [State.memoriesWf, State.gateApply, memoriesWf_setObj, memoriesWf_setBlob]

theorem memoriesWf_subDown (s : State) (port lane : Nat) (hs : s.memoriesWf) : (s.subDown port lane).memoriesWf := by
  grind [State.memoriesWf, State.subDown, memoriesWf_raiseSource, memoriesWf_count, memoriesWf_dropSub]

/-! Machine/Pegs.lean -/

theorem memoriesWf_pegSet (s : State) (f idx kind : Nat) (k : Entry → State → State) (hs : s.memoriesWf)
    (hk : ∀ x0 x1, x1.memoriesWf → (k x0 x1).memoriesWf) : (s.pegSet f idx kind k).memoriesWf := by
  grind [State.memoriesWf, State.pegSet, memoriesWf_runEntry]

theorem memoriesWf_pegAdded (s : State) (f : Nat) (e : Entry) (hs : s.memoriesWf) : (s.pegAdded f e).memoriesWf := by
  grind [State.memoriesWf, State.pegAdded, memoriesWf_addHubPeg, memoriesWf_completeIdx]

theorem memoriesWf_unbind (s : State) (f slot logical view : Nat) (hs : s.memoriesWf) : (s.unbind f slot logical view).memoriesWf := hs

theorem memoriesWf_setPegBlock (s : State) (n v : Nat) (hs : s.memoriesWf) : (s.setPegBlock n v).memoriesWf := by
  grind [State.memoriesWf, State.setPegBlock, memoriesWf_completeIdx, memoriesWf_setObj, memoriesWf_foldl, memoriesWf_foldl_fst,
    memoriesWf_foldl_snd]

/-! Machine/Jobs.lean -/

theorem memoriesWf_windowRead (s : State) (d dva len : Nat) (ps : List Piece) (hs : s.memoriesWf) :
    (s.windowRead d dva len ps).2.memoriesWf := by
  grind [State.memoriesWf, State.windowRead, memoriesWf_parityMet, memoriesWf_readPieces]

theorem memoriesWf_placeSections (s : State) (d base : Nat) (bs : List Byte) (m : Image) (hs : s.memoriesWf) {u : State}
    (e : s.placeSections d base bs m = some u) : u.memoriesWf := by
  refine foldl_inv (fun acc => ∀ v, acc = some v → v.memoriesWf) _ (fun acc x hacc v hv => ?_) m.sections (some s) ?_ u e
  · grind [memoriesWf_writePieces, memoriesWf_race, Option.map_eq_some_iff]
  · rintro v ⟨⟩
    exact hs

theorem memoriesWf_scrambleSections (s : State) (d base : Nat) (m : Image) (hs : s.memoriesWf) : (s.scrambleSections d base m).memoriesWf := by
  grind [State.memoriesWf, State.scrambleSections, memoriesWf_scramblePieces, memoriesWf_foldl, memoriesWf_foldl_fst, memoriesWf_foldl_snd]

theorem memoriesWf_runLoad (s : State) (f : Nat) (e : Entry) (hs : s.memoriesWf) : (s.runLoad f e).memoriesWf := by
  unfold runLoad
  dsimp only
  repeat' split
  all_goals grind [memoriesWf_setSlot, memoriesWf_complete, memoriesWf_resolveBuf, memoriesWf_parityMet, memoriesWf_readPieces,
    memoriesWf_moveWait, memoriesWf_placeSections, memoriesWf_scrambleSections]

theorem memoriesWf_runRun (s : State) (f : Nat) (e : Entry) (hs : s.memoriesWf) : (s.runRun f e).memoriesWf := by
  unfold runRun
  dsimp only
  refine memoriesWf_ite (fun _ => hs) fun _ => ?_
  split
  · exact memoriesWf_complete s _ _ _ _ hs
  · have hends (st : Nat) (r : List Byte) : (s.complete f e st r).memoriesWf := memoriesWf_complete s _ _ _ _ hs
    refine memoriesWf_ite (fun _ => hends _ _) fun _ => memoriesWf_ite (fun _ => hs) fun _ => memoriesWf_ite (fun _ => hends _ _) fun _ => ?_
    refine memoriesWf_ite (fun _ => hends _ _) fun _ => ?_
    split
    · exact memoriesWf_complete s _ _ _ _ hs
    · refine memoriesWf_ite (fun _ => hs) fun _ => ?_
      split
      next s1 h1 => exact memoriesWf_complete s1 _ _ _ _ (memoriesWf_of_snd (memoriesWf_windowRead _ _ _ _ _ hs) h1)
      next args s1 h1 =>
        have hs1 := memoriesWf_of_snd (memoriesWf_windowRead _ _ _ _ _ hs) h1
        refine memoriesWf_ite (fun _ => hs) fun _ => ?_
        iterate 3 refine memoriesWf_ite (fun _ => memoriesWf_complete s1 _ _ _ _ hs1) fun _ => ?_
        exact memoriesWf_busy _ f e hs1

theorem memoriesWf_dispatchBench (s : State) (d : Nat) (j : Job) (l b : Nat) (hs : s.memoriesWf) : (s.dispatchBench d j l b).memoriesWf := by
  grind [State.memoriesWf, State.dispatchBench, memoriesWf_askWake, memoriesWf_setBench]

theorem memoriesWf_giveBench (s : State) (b v : Nat) (hs : s.memoriesWf) : (s.giveBench b v).memoriesWf := by
  grind [State.memoriesWf, State.giveBench, memoriesWf_setBlob, memoriesWf_setBench]

theorem memoriesWf_applyOwners (s : State) (bs : List Nat) (hs : s.memoriesWf) : (s.applyOwners bs).memoriesWf := by
  grind [State.memoriesWf, State.applyOwners, memoriesWf_giveBench, memoriesWf_foldl, memoriesWf_foldl_fst, memoriesWf_foldl_snd]

theorem memoriesWf_clearJob (s : State) (d : Nat) (j : Job) (hs : s.memoriesWf) : (s.clearJob d j).memoriesWf := by
  grind [State.memoriesWf, State.clearJob, memoriesWf_applyOwners, memoriesWf_setBench, memoriesWf_setJob, memoriesWf_foldl,
    memoriesWf_foldl_fst, memoriesWf_foldl_snd]

theorem memoriesWf_scrambleWrites (s : State) (d : Nat) (j : Job) (hs : s.memoriesWf) : (s.scrambleWrites d j).memoriesWf := by
  grind [State.memoriesWf, State.scrambleWrites, memoriesWf_scramblePieces, memoriesWf_foldl, memoriesWf_foldl_fst, memoriesWf_foldl_snd]

/-! Machine/HrtBase.lean -/

theorem memoriesWf_touchQp (s : State) (n : Nat) (hs : s.memoriesWf) : (s.touchQp n).memoriesWf := hs

theorem memoriesWf_withQp (s : State) (n : Nat) (k : Qp → State → State) (hs : s.memoriesWf)
    (hk : ∀ x0 x1, x1.memoriesWf → (k x0 x1).memoriesWf) : (s.withQp n k).memoriesWf := by
  grind [State.memoriesWf, State.withQp, memoriesWf_touchQp]

theorem memoriesWf_qpErrorEvent (s : State) (n : Nat) (q : Qp) (status : Nat) (hs : s.memoriesWf) : (s.qpErrorEvent n q status).memoriesWf := by
  grind [State.memoriesWf, State.qpErrorEvent, memoriesWf_raiseFn]

theorem memoriesWf_endReq (s : State) (n : Nat) (owner : Option Nat) (r : HrtReq) (status : Nat) (hs : s.memoriesWf) :
    (s.endReq n owner r status).memoriesWf := by
  grind [State.memoriesWf, State.endReq, memoriesWf_completeIdx, memoriesWf_workDone, memoriesWf_noteHand]

theorem memoriesWf_dropPlaces (s : State) (n : Nat) (p : HrtPlace → Bool) (hs : s.memoriesWf) : (s.dropPlaces n p).memoriesWf := hs

theorem memoriesWf_leaveOut (s : State) (n : Nat) (hs : s.memoriesWf) : (s.leaveOut n).memoriesWf := by
  grind [State.memoriesWf, State.leaveOut, memoriesWf_dropPlaces]

theorem memoriesWf_settleQp (s : State) (n : Nat) (hs : s.memoriesWf) : (s.settleQp n).memoriesWf := by
  grind [State.memoriesWf, State.settleQp, memoriesWf_dropPlaces, memoriesWf_endReq, memoriesWf_setQp, memoriesWf_foldl,
    memoriesWf_foldl_fst, memoriesWf_foldl_snd]

theorem memoriesWf_flushQp (s : State) (n : Nat) (named : HrtReq → Bool) (status : Nat) (hs : s.memoriesWf) :
    (s.flushQp n named status).memoriesWf := by
  grind [State.memoriesWf, State.flushQp, memoriesWf_endReq, memoriesWf_setQp, memoriesWf_completeIdx, memoriesWf_foldl,
    memoriesWf_foldl_fst, memoriesWf_foldl_snd]

theorem memoriesWf_qpError (s : State) (n : Nat) (named : HrtReq → Bool) (status : Nat) (hs : s.memoriesWf) :
    (s.qpError n named status).memoriesWf := by
  grind [State.memoriesWf, State.qpError, memoriesWf_flushQp, memoriesWf_leaveOut, memoriesWf_qpErrorEvent, memoriesWf_setQp]

theorem memoriesWf_qpErrorAll (s : State) (n status : Nat) (hs : s.memoriesWf) : (s.qpErrorAll n status).memoriesWf := by
  grind [State.memoriesWf, State.qpErrorAll, memoriesWf_endReq, memoriesWf_setQp, memoriesWf_leaveOut, memoriesWf_completeIdx,
    memoriesWf_qpErrorEvent, memoriesWf_foldl, memoriesWf_foldl_fst, memoriesWf_foldl_snd]

theorem memoriesWf_freeSa (s : State) (d a : Nat) (hs : s.memoriesWf) : (s.freeSa d a).memoriesWf := by
  grind [State.memoriesWf, State.freeSa, memoriesWf_setObj]

theorem memoriesWf_qpToReset (s : State) (n : Nat) (hs : s.memoriesWf) : (s.qpToReset n).memoriesWf := by
  grind [State.memoriesWf, State.qpToReset, memoriesWf_setQp, memoriesWf_leaveOut]

theorem memoriesWf_sendAck (s : State) (n syndrome nakPsn retryAfter : Nat) (hs : s.memoriesWf) :
    (s.sendAck n syndrome nakPsn retryAfter).memoriesWf := by
  grind [State.memoriesWf, State.sendAck, memoriesWf_setQp, memoriesWf_dropPlaces]

theorem memoriesWf_sendNak (s : State) (n syndrome psn : Nat) (hs : s.memoriesWf) : (s.sendNak n syndrome psn).memoriesWf := by
  grind [State.memoriesWf, State.sendNak, memoriesWf_sendAck]

theorem memoriesWf_fatalNak (s : State) (n syndrome psn : Nat) (hs : s.memoriesWf) : (s.fatalNak n syndrome psn).memoriesWf := by
  grind [State.memoriesWf, State.fatalNak, memoriesWf_sendNak, memoriesWf_setQp, memoriesWf_qpError]

theorem memoriesWf_takeRate (s : State) (n : Nat) (hs : s.memoriesWf) : (s.takeRate n).memoriesWf := by
  grind [State.memoriesWf, State.takeRate, memoriesWf_setQp]

theorem memoriesWf_climb (s : State) (n t : Nat) (hs : s.memoriesWf) : (s.climb n t).memoriesWf := by
  grind [State.memoriesWf, State.climb, memoriesWf_takeRate, memoriesWf_setQp]

theorem memoriesWf_climbDue (s : State) (n fuel : Nat) (hs : s.memoriesWf) : (s.climbDue n fuel).memoriesWf := by
  induction fuel generalizing s with
  | zero => grind [State.memoriesWf, State.climbDue, memoriesWf_climb]
  | succ n ih => grind [State.memoriesWf, State.climbDue, memoriesWf_climb]

theorem memoriesWf_ecnEvent (s : State) (n : Nat) (hs : s.memoriesWf) : (s.ecnEvent n).memoriesWf := by
  grind [State.memoriesWf, State.ecnEvent, memoriesWf_climbDue, memoriesWf_takeRate, memoriesWf_count, memoriesWf_setQp]

theorem memoriesWf_lossCut (s : State) (n : Nat) (hs : s.memoriesWf) : (s.lossCut n).memoriesWf := by
  grind [State.memoriesWf, State.lossCut, memoriesWf_takeRate, memoriesWf_climbDue, memoriesWf_count, memoriesWf_setQp]

/-! Machine/Keys.lean -/

theorem memoriesWf_emptySlot (s : State) (d k : Nat) (hs : s.memoriesWf) : (s.emptySlot d k).memoriesWf := by
  grind [State.memoriesWf, State.emptySlot, memoriesWf_setKeySlot]

theorem memoriesWf_emptySlots (s : State) (d : Nat) (hs : s.memoriesWf) : (s.emptySlots d).memoriesWf := hs

theorem memoriesWf_cacheKey (s : State) (key : Nat) (pinned : List Nat) (hs : s.memoriesWf) : (s.cacheKey key pinned).memoriesWf := hs

theorem memoriesWf_countBlocks (s : State) (n : Nat) (hs : s.memoriesWf) : (s.countBlocks n).memoriesWf := by
  grind [State.memoriesWf, State.countBlocks, memoriesWf_freeNat, memoriesWf_count]

theorem memoriesWf_countUnwrap (s : State) (wrapped : List Byte) (hs : s.memoriesWf) : (s.countUnwrap wrapped).memoriesWf := by
  grind [State.memoriesWf, State.countUnwrap, memoriesWf_countBlocks]

theorem memoriesWf_countUnits (s : State) (block bytes : Nat) (hs : s.memoriesWf) : (s.countUnits block bytes).memoriesWf := by
  grind [State.memoriesWf, State.countUnits, memoriesWf_countBlocks]

theorem memoriesWf_countSecure (s : State) (sa n : Nat) (hs : s.memoriesWf) : (s.countSecure sa n).memoriesWf := by
  grind [State.memoriesWf, State.countSecure, memoriesWf_countBlocks]

theorem memoriesWf_takeKey (s : State) (d k : Nat) (hs : s.memoriesWf) : (s.takeKey d k).2.memoriesWf := by
  grind [State.memoriesWf, State.takeKey, memoriesWf_countUnwrap, memoriesWf_count, memoriesWf_setKeySlot, memoriesWf_cacheKey]

/-! Machine/HrtSend.lean -/

theorem memoriesWf_pageRequest (s : State) (n page : Nat) (write responder : Bool) (hs : s.memoriesWf) :
    (s.pageRequest n page write responder).memoriesWf := by
  grind [State.memoriesWf, State.pageRequest, memoriesWf_raiseFn]

theorem memoriesWf_startHrt (s : State) (f : Nat) (e : Entry) (hs : s.memoriesWf) : (s.startHrt f e).memoriesWf := by
  grind [State.memoriesWf, State.startHrt, memoriesWf_withQp, memoriesWf_count, memoriesWf_complete, memoriesWf_settleQp,
    memoriesWf_setQp, memoriesWf_busy]

theorem memoriesWf_sendQp (s : State) (n : Nat) (pkt : List Byte) (hs : s.memoriesWf) : (s.sendQp n pkt).memoriesWf := by
  grind [State.memoriesWf, State.sendQp, memoriesWf_count, memoriesWf_offerFrame, memoriesWf_setQp]

theorem memoriesWf_sendRequest (s : State) (n : Nat) (pkt : List Byte) (hs : s.memoriesWf) : (s.sendRequest n pkt).memoriesWf := by
  grind [State.memoriesWf, State.sendRequest, memoriesWf_sendQp, memoriesWf_setQp]

theorem memoriesWf_countSynth (s : State) (n : Nat) (hs : s.memoriesWf) : (s.countSynth n).memoriesWf := by
  grind [State.memoriesWf, State.countSynth, memoriesWf_setObj]

theorem memoriesWf_endSpent (s : State) (n : Nat) (hs : s.memoriesWf) : (s.endSpent n).memoriesWf := by
  grind [State.memoriesWf, State.endSpent, memoriesWf_qpErrorAll]

theorem memoriesWf_resolveMore (s : State) (d upto : Nat) (write : Bool) (fuel : Nat) (r : HrtReq) (hs : s.memoriesWf) :
    (s.resolveMore d upto write fuel r).2.1.memoriesWf := by
  induction fuel generalizing s r with
  | zero => grind [State.memoriesWf, State.resolveMore, memoriesWf_translate]
  | succ n ih => grind [State.memoriesWf, State.resolveMore, memoriesWf_translate]

theorem memoriesWf_setReq (s : State) (n i : Nat) (r : HrtReq) (hs : s.memoriesWf) : (s.setReq n i r).memoriesWf := by
  grind [State.memoriesWf, State.setReq, memoriesWf_setQp]

theorem memoriesWf_buildFails (s : State) (n i : Nat) (r : HrtReq) (st : Nat) (hs : s.memoriesWf) : (s.buildFails n i r st).memoriesWf := by
  grind [State.memoriesWf, State.buildFails, memoriesWf_settleQp, memoriesWf_setReq, memoriesWf_qpError]

theorem memoriesWf_countNak (s : State) (syndrome : Nat) (hs : s.memoriesWf) : (s.countNak syndrome).memoriesWf := by
  grind [State.memoriesWf, State.countNak, memoriesWf_count]

theorem memoriesWf_sendReply (s : State) (n cls : Nat) (hs : s.memoriesWf) : (s.sendReply n cls).memoriesWf := by
  grind [State.memoriesWf, State.sendReply, memoriesWf_setQp, memoriesWf_count, memoriesWf_offerFrame, memoriesWf_countNak,
    memoriesWf_sendQp, memoriesWf_countSecure, memoriesWf_countSynth]

theorem memoriesWf_sendRtx (s : State) (n : Nat) (hs : s.memoriesWf) : (s.sendRtx n).memoriesWf := by
  grind [State.memoriesWf, State.sendRtx, memoriesWf_setQp, memoriesWf_count, memoriesWf_sendRequest]

theorem memoriesWf_sendNew (s : State) (n : Nat) (hs : s.memoriesWf) : (s.sendNew n).memoriesWf := by
  unfold sendNew
  dsimp only
  split
  · exact hs
  next i r0 hr0 =>
    split
    next r s1 t h1 =>
      have hs1 : s1.memoriesWf := by
        split at h1
        · cases h1
        · exact (congrArg (·.2.1) h1 : _ = s1) ▸ memoriesWf_resolveMore s _ _ _ _ r0 hs
      clear h1
      grind [memoriesWf_setReq, memoriesWf_pageRequest, memoriesWf_setQp, memoriesWf_buildFails]
    next r s1 h1 =>
      have hs1 : s1.memoriesWf := by
        split at h1
        · cases h1
          exact hs
        · exact (congrArg (·.2.1) h1 : _ = s1) ▸ memoriesWf_resolveMore s _ _ _ _ r0 hs
      refine memoriesWf_ite (fun _ => memoriesWf_setReq _ _ _ _ hs1) fun _ => ?_
      split
      next s2 h2 => grind [memoriesWf_buildFails, memoriesWf_readPieces]
      next bs s2 h2 =>
        have hs2 : s2.memoriesWf := by grind [memoriesWf_readPieces]
        clear h1 h2
        have hkept (r : HrtReq) (q : Qp) : ((s2.setReq n i r).setQp n q).memoriesWf := (memoriesWf_setQp _ _ _).2 (memoriesWf_setReq _ _ _ _ hs2)
        split
        · exact memoriesWf_countSegment _ _ _ (memoriesWf_sendRequest _ _ _ (memoriesWf_countSecure _ _ _ (hkept _ _)))
        · exact memoriesWf_sendRequest _ _ _ (memoriesWf_countSecure _ _ _ (hkept _ _))

/-! Machine/HandEngine.lean -/

theorem memoriesWf_sendHand (s : State) (t : Nat) (c : Table) (p : HandPkt) (hs : s.memoriesWf) : (s.sendHand t c p).memoriesWf := by
  grind [State.memoriesWf, State.sendHand, memoriesWf_startXfer, memoriesWf_noteHand, memoriesWf_count, memoriesWf_setQp]

theorem memoriesWf_setHand (s : State) (t : Nat) (h : Hand) (hs : s.memoriesWf) : (s.setHand t h).memoriesWf := by
  grind [State.memoriesWf, State.setHand, memoriesWf_setTable]

theorem memoriesWf_endHand (s : State) (t : Nat) (c : Table) (h : Hand) (status failed : Nat) (hs : s.memoriesWf) :
    (s.endHand t c h status failed).memoriesWf := by
  grind [State.memoriesWf, State.endHand, memoriesWf_count, memoriesWf_scramblePieces, memoriesWf_setTable, memoriesWf_raiseFn,
    memoriesWf_completeIdx]

theorem memoriesWf_tell (s : State) (t : Nat) (c : Table) (h : Hand) (ranks : List Nat) (kind status failed : Nat) (hs : s.memoriesWf) :
    (s.tell t c h ranks kind status failed).memoriesWf := by
  grind [State.memoriesWf, State.tell, memoriesWf_sendHand, memoriesWf_foldl, memoriesWf_foldl_fst, memoriesWf_foldl_snd]

theorem memoriesWf_finish (s : State) (t : Nat) (c : Table) (h : Hand) (status failed : Nat) (hs : s.memoriesWf) :
    (s.finish t c h status failed).memoriesWf := by
  grind [State.memoriesWf, State.finish, memoriesWf_tell, memoriesWf_endHand]

theorem memoriesWf_leaderSends (s : State) (t : Nat) (late : Bool) (hs : s.memoriesWf) : (s.leaderSends t late).memoriesWf := by
  grind [State.memoriesWf, State.leaderSends, memoriesWf_finish, memoriesWf_sendHand, memoriesWf_setHand]

theorem memoriesWf_sendDone (s : State) (t : Nat) (hs : s.memoriesWf) : (s.sendDone t).memoriesWf := by
  grind [State.memoriesWf, State.sendDone, memoriesWf_leaderSends, memoriesWf_setHand, memoriesWf_sendHand]

theorem memoriesWf_failHand (s : State) (t status failed : Nat) (hs : s.memoriesWf) : (s.failHand t status failed).memoriesWf := by
  grind [State.memoriesWf, State.failHand, memoriesWf_tell, memoriesWf_setHand]

theorem memoriesWf_streamRun (s : State) (c : Table) (h : Hand) (x : HandStream) (n : Nat) (hs : s.memoriesWf) :
    (s.streamRun c h x n).2.memoriesWf := by
  grind [State.memoriesWf, State.streamRun, memoriesWf_readPieces]

theorem memoriesWf_releaseStaged (s : State) (t : Nat) (hs : s.memoriesWf) : (s.releaseStaged t).memoriesWf := by
  grind [State.memoriesWf, State.releaseStaged, memoriesWf_setHand, memoriesWf_sendHand, memoriesWf_foldl, memoriesWf_foldl_fst,
    memoriesWf_foldl_snd]

theorem memoriesWf_wakeCombiners (s : State) (bs : List Nat) (hs : s.memoriesWf) : (s.wakeCombiners bs).memoriesWf := by
  grind [State.memoriesWf, State.wakeCombiners, memoriesWf_askHelp, memoriesWf_grantWake, memoriesWf_foldl, memoriesWf_foldl_fst,
    memoriesWf_foldl_snd]

theorem memoriesWf_useHelp (s : State) (bs : List Nat) (hs : s.memoriesWf) : (s.useHelp bs).memoriesWf := by
  grind [State.memoriesWf, State.useHelp, memoriesWf_setStack, memoriesWf_foldl, memoriesWf_foldl_fst, memoriesWf_foldl_snd]

theorem memoriesWf_countAt (s : State) (h : Hand) (x : HandStream) (i sub : Nat) (hs : s.memoriesWf) : (s.countAt h x i sub).memoriesWf := by
  grind [State.memoriesWf, State.countAt, memoriesWf_count]

theorem memoriesWf_countSteps (s : State) (h : Hand) (x : HandStream) (codes : List Nat) (hs : s.memoriesWf) :
    (s.countSteps h x codes).memoriesWf := by
  grind [State.memoriesWf, State.countSteps, memoriesWf_countAt, memoriesWf_foldl, memoriesWf_foldl_fst, memoriesWf_foldl_snd]

theorem memoriesWf_countNarrowed (s : State) (h : Hand) (x : HandStream) (at_ : Nat) (blocks : List (Nat × List Conv)) (hs : s.memoriesWf) :
    (s.countNarrowed h x at_ blocks).memoriesWf := by
  grind [State.memoriesWf, State.countNarrowed, memoriesWf_countAt, memoriesWf_foldl, memoriesWf_foldl_fst, memoriesWf_foldl_snd]

theorem memoriesWf_formPacket (s : State) (t : Nat) (c : Table) (h : Hand) (i : Nat) (x : HandStream) (codes : List Nat)
    (hs : s.memoriesWf) : (s.formPacket t c h i x codes).memoriesWf := by
  grind [State.memoriesWf, State.formPacket, memoriesWf_setHand, memoriesWf_sendHand, memoriesWf_countNarrowed, memoriesWf_foldl,
    memoriesWf_foldl_fst, memoriesWf_foldl_snd]

theorem memoriesWf_pumpOne (s : State) (t : Nat) (hs : s.memoriesWf) {u : State} (e : s.pumpOne t = some u) : u.memoriesWf := by
  unfold pumpOne at e
  dsimp only at e
  repeat' split at e
  all_goals grind [memoriesWf_count, memoriesWf_raiseSource, memoriesWf_writePieces, memoriesWf_race, memoriesWf_noteBus,
    memoriesWf_failHand, memoriesWf_streamRun, memoriesWf_releaseStaged, memoriesWf_wakeCombiners, memoriesWf_useHelp,
    memoriesWf_countSteps, memoriesWf_formPacket]

theorem memoriesWf_pumpN (s : State) (t k : Nat) (hs : s.memoriesWf) : (s.pumpN t k).memoriesWf := by
  induction k generalizing s with
  | zero => grind [State.memoriesWf, State.pumpN, memoriesWf_pumpOne]
  | succ n ih => grind [State.memoriesWf, State.pumpN, memoriesWf_pumpOne]

theorem memoriesWf_pump (s : State) (t : Nat) (hs : s.memoriesWf) : (s.pump t).memoriesWf := by
  grind [State.memoriesWf, State.pump, memoriesWf_pumpN]

theorem memoriesWf_takeEnd (s : State) (t : Nat) (e : Nat × Nat) (hs : s.memoriesWf) : (s.takeEnd t e).memoriesWf := by
  grind [State.memoriesWf, State.takeEnd, memoriesWf_setHand, memoriesWf_failHand]

theorem memoriesWf_settleHands (s : State) (hs : s.memoriesWf) : s.settleHands.memoriesWf := by
  grind [State.memoriesWf, State.settleHands, memoriesWf_takeEnd, memoriesWf_setTable, memoriesWf_foldl, memoriesWf_foldl_fst,
    memoriesWf_foldl_snd]

/-! Machine/HrtControl.lean -/

theorem memoriesWf_nameSa (s : State) (d n old new : Nat) (hs : s.memoriesWf) {u : State} (e : s.nameSa d n old new = some u) :
    u.memoriesWf := by
  grind [State.memoriesWf, State.nameSa, memoriesWf_setObj]

theorem memoriesWf_bindKeys (s : State) (n d : Nat) (a : QpAttr) (hs : s.memoriesWf) : (s.bindKeys n d a).1.memoriesWf := by
  grind [State.memoriesWf, State.bindKeys, memoriesWf_takeKey, memoriesWf_setQp]

theorem memoriesWf_modifyEnds (s : State) (f : Nat) (e : Entry) (st : Nat) (hs : s.memoriesWf) : (s.modifyEnds f e st).memoriesWf := by
  grind [State.memoriesWf, State.modifyEnds, memoriesWf_complete]

theorem memoriesWf_emptySa (s : State) (d a : Nat) (hs : s.memoriesWf) : (s.emptySa d a).memoriesWf := by
  grind [State.memoriesWf, State.emptySa, memoriesWf_emptySlot, memoriesWf_freeSa]

theorem memoriesWf_resetQp (s : State) (n : Nat) (hs : s.memoriesWf) : (s.resetQp n).memoriesWf := by
  grind [State.memoriesWf, State.resetQp, memoriesWf_qpToReset, memoriesWf_emptySa]

theorem memoriesWf_qpMove (s : State) (f n : Nat) (q : Qp) (a : QpAttr) (target : Nat) (hs : s.memoriesWf) :
    (s.qpMove f n q a target).1.memoriesWf := by
  rw [State.qpMove.eq_def]
  grind [State.memoriesWf, memoriesWf_setQp, memoriesWf_bindKeys, memoriesWf_resetQp, memoriesWf_flushQp, memoriesWf_leaveOut]

theorem memoriesWf_modifyWith (s : State) (f : Nat) (e : Entry) (q : Qp) (b : List Byte) (hs : s.memoriesWf) :
    (s.modifyWith f e q b).memoriesWf := by
  grind [State.memoriesWf, State.modifyWith, memoriesWf_modifyEnds, memoriesWf_nameSa, memoriesWf_qpMove, memoriesWf_setQp]

theorem memoriesWf_runModify (s : State) (f : Nat) (e : Entry) (hs : s.memoriesWf) : (s.runModify f e).memoriesWf := by
  unfold runModify
  refine memoriesWf_withQp s _ _ hs fun q t ht => ?_
  grind [memoriesWf_resolveBuf, memoriesWf_readPieces, memoriesWf_moveWait, memoriesWf_withQp, memoriesWf_modifyEnds, memoriesWf_modifyWith]

theorem memoriesWf_ackTo (s : State) (n a : Nat) (hs : s.memoriesWf) : (s.ackTo n a).memoriesWf := by
  grind [State.memoriesWf, State.ackTo, memoriesWf_setQp]

theorem memoriesWf_takeLimit (s : State) (n : Nat) (p : HrtPkt) (hs : s.memoriesWf) : (s.takeLimit n p).memoriesWf := by
  grind [State.memoriesWf, State.takeLimit, memoriesWf_setQp, memoriesWf_ecnEvent]

theorem memoriesWf_takeAck (s : State) (n : Nat) (p : HrtPkt) (hs : s.memoriesWf) : (s.takeAck n p).memoriesWf := by
  grind [State.memoriesWf, State.takeAck, memoriesWf_ackTo, memoriesWf_setQp]

theorem memoriesWf_rtoExpires (s : State) (n : Nat) (hs : s.memoriesWf) : (s.rtoExpires n).memoriesWf := by
  grind [State.memoriesWf, State.rtoExpires, memoriesWf_qpErrorAll, memoriesWf_count, memoriesWf_setQp]

/-! Machine/HrtRecv.lean -/

theorem memoriesWf_popHrt (s : State) (i : Nat) (hs : s.memoriesWf) : (s.popHrt i).memoriesWf := by
  grind [State.memoriesWf, State.popHrt, memoriesWf_pfcTick]

theorem memoriesWf_passSix (s : State) (x : HrtIn) (hs : s.memoriesWf) : (s.passSix x).2.memoriesWf := by
  grind [State.memoriesWf, State.passSix, memoriesWf_count, memoriesWf_setQp, memoriesWf_sendNak]

theorem memoriesWf_receiveAt (s : State) (i : Nat) (x : HrtIn) (k : HrtIn → Qp → State → Option State) (hs : s.memoriesWf)
    (hk : ∀ x0 x1 x2 u, x2.memoriesWf → k x0 x1 x2 = some u → u.memoriesWf) {u : State} (e : s.receiveAt i x k = some u) : u.memoriesWf := by
  unfold receiveAt at e
  repeat' split at e
  next => exact Option.some.inj e ▸ (memoriesWf_count _ _ _ _).2 (memoriesWf_popHrt s i hs)
  next => cases e
  next s1 h1 =>
    obtain rfl := Option.some.inj e
    exact memoriesWf_of_snd (memoriesWf_passSix _ x (memoriesWf_touchQp _ _ (memoriesWf_popHrt s i hs))) h1
  next q s1 h1 =>
    obtain ⟨v, hv, rfl⟩ := Option.map_eq_some_iff.1 e
    exact memoriesWf_settleHands v (hk x q s1 v
      (memoriesWf_of_snd (memoriesWf_passSix _ x (memoriesWf_touchQp _ _ (memoriesWf_popHrt s i hs))) h1) hv)

theorem memoriesWf_receive (s : State) (ops : HrtPkt → Bool) (k : HrtIn → Qp → State → Option State) (hs : s.memoriesWf)
    (hk : ∀ x0 x1 x2 u, x2.memoriesWf → k x0 x1 x2 = some u → u.memoriesWf) : (s.receive ops k).memoriesWf := by
  unfold receive
  refine memoriesWf_getD hs fun u hu => ?_
  obtain ⟨y, -, hy⟩ := List.exists_of_findSome?_eq_some hu
  exact memoriesWf_receiveAt s _ _ k hs hk hy

theorem memoriesWf_applyEffect (s : State) (f n : Nat) (e : HrtEffect) (hs : s.memoriesWf) : (s.applyEffect f n e).memoriesWf := by
  grind [State.memoriesWf, State.applyEffect, memoriesWf_addHubPeg, memoriesWf_placeRecord]

theorem memoriesWf_advanceN (s : State) (n fuel : Nat) (a : Bool) (hs : s.memoriesWf) : (s.advanceN n fuel a).1.memoriesWf := by
  induction fuel generalizing s a with
  | zero => grind [State.memoriesWf, State.advanceN, memoriesWf_pause, memoriesWf_issueOrdering, memoriesWf_setQp, memoriesWf_applyEffect]
  | succ n ih => grind [State.memoriesWf, State.advanceN, memoriesWf_pause, memoriesWf_issueOrdering, memoriesWf_setQp,
    memoriesWf_applyEffect]

theorem memoriesWf_advanceQp (s : State) (n : Nat) (hs : s.memoriesWf) : (s.advanceQp n).memoriesWf := by
  grind [State.memoriesWf, State.advanceQp, memoriesWf_advanceN, memoriesWf_sendAck]

theorem memoriesWf_accept (s : State) (n psn k : Nat) (ackReq ce marked : Bool) (hs : s.memoriesWf) :
    (s.accept n psn k ackReq ce marked).memoriesWf := by
  grind [State.memoriesWf, State.accept, memoriesWf_count, memoriesWf_advanceQp, memoriesWf_setQp, memoriesWf_sendAck]

theorem memoriesWf_keyPieces (s : State) (p : HrtPkt) (n : Nat) (write : Bool) (hs : s.memoriesWf) :
    (s.keyPieces p n write).2.1.memoriesWf := by
  grind [State.memoriesWf, State.keyPieces, memoriesWf_resolveMore]

theorem memoriesWf_sendPieces (s : State) (q : Qp) (p : HrtPkt) (payload : List Byte) (hs : s.memoriesWf) :
    (s.sendPieces q p payload).2.2.1.memoriesWf := by
  grind [State.memoriesWf, State.sendPieces, memoriesWf_resolveMore]

theorem memoriesWf_pageNak (s : State) (n psn : Nat) (t : Tr) (page : Nat) (write : Bool) (hs : s.memoriesWf) {u : State}
    (e : s.pageNak n psn t page write = some u) : u.memoriesWf := by
  unfold pageNak at e
  grind [memoriesWf_setQp, memoriesWf_sendAck, memoriesWf_fatalNak, memoriesWf_pageRequest]

theorem memoriesWf_forget (s : State) (n base len : Nat) (hs : s.memoriesWf) : (s.forget n base len).memoriesWf := by
  grind [State.memoriesWf, State.forget, memoriesWf_setQp]

theorem memoriesWf_forgetKey (s : State) (n : Nat) (p : HrtPkt) (ps : List Piece) (hs : s.memoriesWf) : (s.forgetKey n p ps).memoriesWf := by
  grind [State.memoriesWf, State.forgetKey, memoriesWf_forget]

theorem memoriesWf_forgetSlot (s : State) (n : Nat) (q : Qp) (p : HrtPkt) (ps : List Piece) (hs : s.memoriesWf) :
    (s.forgetSlot n q p ps).memoriesWf := by
  grind [State.memoriesWf, State.forgetSlot, memoriesWf_forget]

theorem memoriesWf_noteSpots (s : State) (n psn : Nat) (ps : List Piece) (hs : s.memoriesWf) : (s.noteSpots n psn ps).memoriesWf := by
  grind [State.memoriesWf, State.noteSpots, memoriesWf_setQp, memoriesWf_foldl, memoriesWf_foldl_fst, memoriesWf_foldl_snd]

theorem memoriesWf_placeHrt (s : State) (x : HrtPlace) (bs : List Byte) (hs : s.memoriesWf) : (s.placeHrt x bs).memoriesWf := by
  grind [State.memoriesWf, State.placeHrt, memoriesWf_writePieces, memoriesWf_scramblePieces]

theorem memoriesWf_placeNew (s : State) (n psn : Nat) (x : HrtIn) (p : HrtPkt) (ps : List Piece) (hs : s.memoriesWf) :
    (s.placeNew n psn x p ps).memoriesWf := by
  grind [State.memoriesWf, State.placeNew, memoriesWf_fatalNak, memoriesWf_raiseSource, memoriesWf_noteSpots, memoriesWf_race,
    memoriesWf_placeHrt, memoriesWf_accept, memoriesWf_setQp]

theorem memoriesWf_newWrite (s : State) (n psn : Nat) (x : HrtIn) (p : HrtPkt) (hs : s.memoriesWf) {u : State}
    (e : s.newWrite n psn x p = some u) : u.memoriesWf := by
  grind [State.memoriesWf, State.newWrite, memoriesWf_fatalNak, memoriesWf_keyPieces, memoriesWf_pageNak, memoriesWf_forgetKey,
    memoriesWf_placeNew]

theorem memoriesWf_newSend (s : State) (n psn : Nat) (x : HrtIn) (p : HrtPkt) (hs : s.memoriesWf) {u : State}
    (e : s.newSend n psn x p = some u) : u.memoriesWf := by
  grind [State.memoriesWf, State.newSend, memoriesWf_sendPieces, memoriesWf_fatalNak, memoriesWf_pageNak, memoriesWf_forgetSlot,
    memoriesWf_placeNew]

theorem memoriesWf_serveRead (s : State) (n psn : Nat) (p : HrtPkt) (hs : s.memoriesWf) {u : State} {r}
    (e : s.serveRead n psn p = some (u, r)) : u.memoriesWf := by
  unfold serveRead at e
  grind [memoriesWf_readPieces, memoriesWf_setQp, memoriesWf_fatalNak, memoriesWf_keyPieces, memoriesWf_pageNak, memoriesWf_forgetKey,
    Option.map_eq_some_iff]

theorem memoriesWf_atomicDone (s : State) (n psn : Nat) (p : HrtPkt) (v : Nat) (hs : s.memoriesWf) : (s.atomicDone n psn p v).memoriesWf := by
  grind [State.memoriesWf, State.atomicDone, memoriesWf_accept, memoriesWf_count, memoriesWf_setQp]

theorem memoriesWf_execAtomic (s : State) (n psn : Nat) (p : HrtPkt) (hs : s.memoriesWf) {u : State} (e : s.execAtomic n psn p = some u) :
    u.memoriesWf := by
  grind [State.memoriesWf, State.execAtomic, memoriesWf_keyPieces, memoriesWf_pageNak, memoriesWf_forgetKey, memoriesWf_fatalNak,
    memoriesWf_raiseSource, memoriesWf_emit, memoriesWf_count, memoriesWf_setQp, memoriesWf_readPieces, memoriesWf_atomicDone,
    memoriesWf_race, memoriesWf_writePieces]

theorem memoriesWf_atomicApplied (s : State) (f port a : Nat) (p : HrtPkt) (v : Nat) (hs : s.memoriesWf) :
    (s.atomicApplied f port a p v).memoriesWf := by
  unfold atomicApplied
  split
  · split
    · exact memoriesWf_logWrite _ _ _ _ (memoriesWf_setHost _ _ hs (Ram.wf_writeBytes _ _ hs.2.1))
    · exact memoriesWf_setPeer _ _ hs (Ram.wf_writeBytes _ _ hs.2.2)
  · exact hs

theorem memoriesWf_startFlush (s : State) (n psn : Nat) (p : HrtPkt) (hs : s.memoriesWf) : (s.startFlush n psn p).memoriesWf := by
  grind [State.memoriesWf, State.startFlush, memoriesWf_setQp, memoriesWf_count, memoriesWf_issueOrdering, memoriesWf_foldl,
    memoriesWf_foldl_fst, memoriesWf_foldl_snd]

theorem memoriesWf_execInOrder (s : State) (n psn : Nat) (p : HrtPkt) (hs : s.memoriesWf) {u : State} (e : s.execInOrder n psn p = some u) :
    u.memoriesWf := by
  unfold execInOrder at e
  grind [memoriesWf_fatalNak, memoriesWf_accept, memoriesWf_serveRead, memoriesWf_execAtomic, memoriesWf_startFlush, Option.map_eq_some_iff]

-- SKIP Sys2Proof.Machine.State.arrivalCheck Option (Sys2Proof.Machine.State ⊕ Sys2Proof.Machine.State)

theorem memoriesWf_arrivalCheck_inl (s : State) (n psn : Nat) (p : HrtPkt) (hs : s.memoriesWf) {u : State}
    (e : s.arrivalCheck n psn p = some (.inl u)) : u.memoriesWf := by
  grind [arrivalCheck, Option.map_eq_some_iff, memoriesWf_fatalNak, memoriesWf_keyPieces, memoriesWf_forgetKey, memoriesWf_pageNak]

theorem memoriesWf_arrivalCheck_inr (s : State) (n psn : Nat) (p : HrtPkt) (hs : s.memoriesWf) {u : State}
    (e : s.arrivalCheck n psn p = some (.inr u)) : u.memoriesWf := by
  grind [arrivalCheck, Option.map_eq_some_iff, memoriesWf_fatalNak, memoriesWf_keyPieces, memoriesWf_forgetKey, memoriesWf_pageNak]

theorem memoriesWf_newOrdered (s : State) (n psn : Nat) (x : HrtIn) (p : HrtPkt) (hs : s.memoriesWf) {u : State}
    (e : s.newOrdered n psn x p = some u) : u.memoriesWf := by
  unfold newOrdered at e
  split at e
  next => cases e
  next t ht => exact Option.some.inj e ▸ memoriesWf_arrivalCheck_inl s n psn p hs ht
  next t ht =>
    have htwf := memoriesWf_arrivalCheck_inr s n psn p hs ht
    grind [memoriesWf_execInOrder, memoriesWf_count, memoriesWf_setQp]

theorem memoriesWf_duplicate (s : State) (n : Nat) (p : HrtPkt) (behind : Bool) (hs : s.memoriesWf) {u : State}
    (e : s.duplicate n p behind = some u) : u.memoriesWf := by
  unfold duplicate at e
  grind [memoriesWf_count, memoriesWf_busy, memoriesWf_setQp, memoriesWf_sendAck, memoriesWf_fatalNak, memoriesWf_serveRead,
    Option.map_eq_some_iff]

theorem memoriesWf_request (s : State) (x : HrtIn) (n : Nat) (hs : s.memoriesWf) {u : State} (e : s.request x n = some u) : u.memoriesWf := by
  unfold request at e
  dsimp only at e
  repeat' split at e
  all_goals grind [memoriesWf_count, memoriesWf_deliverHand, memoriesWf_fatalNak, memoriesWf_countBlocks, memoriesWf_countSecure,
    memoriesWf_accept, memoriesWf_newWrite, memoriesWf_newSend, memoriesWf_newOrdered, memoriesWf_duplicate]

theorem memoriesWf_receiveRequest (s : State) (op : Nat) (hs : s.memoriesWf) : (s.receiveRequest op).memoriesWf := by
  exact memoriesWf_receive s _ _ hs fun x _ t u ht hu => memoriesWf_request t x _ ht hu

theorem memoriesWf_receiveReply (s : State) (ops : HrtPkt → Bool) (k : HrtPkt → Nat → State → Option State) (hs : s.memoriesWf)
    (hk : ∀ x0 x1 x2 u, x2.memoriesWf → k x0 x1 x2 = some u → u.memoriesWf) : (s.receiveReply ops k).memoriesWf := by
  refine memoriesWf_receive s _ _ hs fun x q t u ht hu => ?_
  grind [memoriesWf_countSecure, memoriesWf_count]

theorem memoriesWf_placeOwn (s : State) (n psn : Nat) (r : HrtReq) (dest : List Piece) (bs : List Byte) (hs : s.memoriesWf) :
    (s.placeOwn n psn r dest bs).memoriesWf := by
  grind [State.memoriesWf, State.placeOwn, memoriesWf_race, memoriesWf_placeHrt, memoriesWf_noteBus]

theorem memoriesWf_placeRead (s : State) (n : Nat) (p : HrtPkt) (hs : s.memoriesWf) : (s.placeRead n p).memoriesWf := by
  grind [State.memoriesWf, State.placeRead, memoriesWf_count, memoriesWf_raiseSource, memoriesWf_placeOwn, memoriesWf_setReq,
    memoriesWf_ackTo, memoriesWf_settleQp]

theorem memoriesWf_placeAtomic (s : State) (n : Nat) (p : HrtPkt) (hs : s.memoriesWf) : (s.placeAtomic n p).memoriesWf := by
  grind [State.memoriesWf, State.placeAtomic, memoriesWf_count, memoriesWf_raiseSource, memoriesWf_placeOwn, memoriesWf_setReq,
    memoriesWf_settleQp, memoriesWf_ackTo]

theorem memoriesWf_takeNakPage (s : State) (n : Nat) (p : HrtPkt) (hs : s.memoriesWf) : (s.takeNakPage n p).memoriesWf := by
  grind [State.memoriesWf, State.takeNakPage, memoriesWf_settleQp, memoriesWf_takeAck, memoriesWf_takeLimit, memoriesWf_count,
    memoriesWf_setQp, memoriesWf_qpErrorAll]

theorem memoriesWf_takeFatal (s : State) (n : Nat) (p : HrtPkt) (hs : s.memoriesWf) : (s.takeFatal n p).memoriesWf := by
  grind [State.memoriesWf, State.takeFatal, memoriesWf_settleQp, memoriesWf_takeAck, memoriesWf_takeLimit, memoriesWf_count,
    memoriesWf_qpError]

/-! Machine/Rings.lean -/

theorem memoriesWf_ringEnable (s : State) (f : Nat) (on : Bool) (hs : s.memoriesWf) : (s.ringEnable f on).memoriesWf := by
  grind [State.memoriesWf, State.ringEnable, memoriesWf_setFn, memoriesWf_drain]

theorem memoriesWf_wrProdWrite (s : State) (f x : Nat) (hs : s.memoriesWf) : (s.wrProdWrite f x).memoriesWf := by
  grind [State.memoriesWf, State.wrProdWrite, memoriesWf_setFn]

theorem memoriesWf_crConsWrite (s : State) (f x : Nat) (hs : s.memoriesWf) : (s.crConsWrite f x).memoriesWf := by
  grind [State.memoriesWf, State.crConsWrite, memoriesWf_drain, memoriesWf_setFn, memoriesWf_advanceQp, memoriesWf_foldl,
    memoriesWf_foldl_fst, memoriesWf_foldl_snd]

theorem memoriesWf_crArmWrite (s : State) (f x : Nat) (hs : s.memoriesWf) : (s.crArmWrite f x).memoriesWf := by
  grind [State.memoriesWf, State.crArmWrite, memoriesWf_setFn]

theorem memoriesWf_wideWrite (s : State) (f off half : Nat) (high : Bool) (use : Fn → Nat → Fn) (old : Nat) (hs : s.memoriesWf) :
    (s.wideWrite f off half high use old).memoriesWf := by
  grind [State.memoriesWf, State.wideWrite, memoriesWf_setFn]

theorem memoriesWf_sendVector (s : State) (f vec : Nat) (hs : s.memoriesWf) : (s.sendVector f vec).memoriesWf := by
  grind [State.memoriesWf, State.sendVector, memoriesWf_setFn, memoriesWf_emit]

theorem memoriesWf_write32 (s : State) (f off x : Nat) (hs : s.memoriesWf) : (s.write32 f off x).memoriesWf := by
  have hset (g : Nat) (v : Fn) : (s.setFn g v).memoriesWf := (memoriesWf_setFn s g v).2 hs
  have hwide (o x : Nat) (b : Bool) (p : Fn → Nat → Fn) (w : Nat) : (s.wideWrite f o x b p w).memoriesWf := memoriesWf_wideWrite s _ _ _ _ _ _ hs
  unfold write32
  dsimp only
  refine memoriesWf_ite (fun _ => memoriesWf_ite (fun _ => hset _ _) fun _ => hwide _ _ _ _ _) fun _ => ?_
  refine memoriesWf_ite (fun _ => memoriesWf_ite (fun _ => hset _ _) fun _ => hwide _ _ _ _ _) fun _ => ?_
  refine memoriesWf_ite (fun _ => memoriesWf_ite (fun _ => hset _ _) fun _ => memoriesWf_ite (fun _ => hset _ _) fun _ => hs) fun _ => ?_
  refine memoriesWf_ite (fun _ => memoriesWf_wrProdWrite s _ _ hs) fun _ => ?_
  refine memoriesWf_ite (fun _ => memoriesWf_ite (fun _ => hset _ _) fun _ => hwide _ _ _ _ _) fun _ => ?_
  refine memoriesWf_ite (fun _ => memoriesWf_ite (fun _ => hset _ _) fun _ => hwide _ _ _ _ _) fun _ => ?_
  refine memoriesWf_ite (fun _ => memoriesWf_ite (fun _ => hset _ _) fun _ => memoriesWf_ite (fun _ => hset _ _) fun _ => hs) fun _ => ?_
  refine memoriesWf_ite (fun _ => memoriesWf_crConsWrite s _ _ hs) fun _ => ?_
  refine memoriesWf_ite (fun _ => hwide _ _ _ _ _) fun _ => memoriesWf_ite (fun _ => hwide _ _ _ _ _) fun _ => ?_
  refine memoriesWf_ite (fun _ => memoriesWf_crArmWrite s _ _ hs) fun _ => memoriesWf_ite (fun _ => hset _ _) fun _ => ?_
  refine memoriesWf_ite (fun _ => memoriesWf_ringEnable s _ _ hs) fun _ => memoriesWf_ite (fun _ => hset _ _) fun _ => ?_
  refine memoriesWf_ite (fun _ => ?_) fun _ => ?_
  · exact memoriesWf_withLed _ (hset _ _)
  refine memoriesWf_ite (fun _ => memoriesWf_withLed _ hs) fun _ => memoriesWf_ite (fun _ => ?_) fun _ => hs
  exact memoriesWf_ite (fun _ => memoriesWf_sendVector _ _ _ ((memoriesWf_setFn _ _ _).2 (hset _ _))) fun _ => hset _ _

theorem memoriesWf_pageWrite (s : State) (f off size x : Nat) (hs : s.memoriesWf) : (s.pageWrite f off size x).memoriesWf := by
  grind [State.memoriesWf, State.pageWrite, memoriesWf_write32]

theorem memoriesWf_clear32 (s : State) (f off : Nat) (hs : s.memoriesWf) : (s.clear32 f off).memoriesWf := by
  grind [State.memoriesWf, State.clear32, memoriesWf_setFn]

theorem memoriesWf_pageRead (s : State) (f off size : Nat) (hs : s.memoriesWf) : (s.pageRead f off size).2.memoriesWf := by
  grind [State.memoriesWf, State.pageRead, memoriesWf_clear32]

theorem memoriesWf_readPage (s : State) (f off size : Nat) (hs : s.memoriesWf) : (s.readPage f off size).memoriesWf := by
  grind [State.memoriesWf, State.readPage, memoriesWf_pageRead, memoriesWf_emit]

theorem memoriesWf_takeEntry (s : State) (f : Nat) (raw : List Byte) (hs : s.memoriesWf) : (s.takeEntry f raw).memoriesWf := by
  grind [State.memoriesWf, State.takeEntry, memoriesWf_setFn, memoriesWf_count]

theorem memoriesWf_failedFetch (s : State) (f : Nat) (hs : s.memoriesWf) : (s.failedFetch f).memoriesWf := by
  grind [State.memoriesWf, State.failedFetch, memoriesWf_raiseSource, memoriesWf_takeEntry, memoriesWf_complete]

theorem memoriesWf_fetch (s : State) (f : Nat) (hs : s.memoriesWf) : (s.fetch f).memoriesWf := by
  grind [State.memoriesWf, State.fetch, memoriesWf_settle, memoriesWf_count, memoriesWf_takeEntry, memoriesWf_failedFetch]

/-! Machine/Storage.lean -/

theorem memoriesWf_endIo (s : State) (i : NvmeIo) (status : Nat) (hs : s.memoriesWf) : (s.endIo i status).memoriesWf := by
  grind [State.memoriesWf, State.endIo, memoriesWf_scramblePieces, memoriesWf_noteBus, memoriesWf_completeIdx]

theorem memoriesWf_joinIo (s : State) (v : NvmeIo) (hs : s.memoriesWf) : (s.joinIo v).memoriesWf := hs

theorem memoriesWf_issueOne (s : State) (i : NvmeIo) (hs : s.memoriesWf) : (s.issueOne i).memoriesWf := by
  grind [State.memoriesWf, State.issueOne, memoriesWf_setConn, memoriesWf_setIo, memoriesWf_count, memoriesWf_emit]

theorem memoriesWf_pumpIo (s : State) (f idx n : Nat) (hs : s.memoriesWf) : (s.pumpIo f idx n).memoriesWf := by
  induction n generalizing s with
  | zero => exact hs
  | succ k ih =>
    rw [pumpIo]
    repeat' split
    all_goals grind [memoriesWf_issueOne]

theorem memoriesWf_pumpConn (s : State) (c : Nat) (hs : s.memoriesWf) : (s.pumpConn c).memoriesWf := by
  grind [State.memoriesWf, State.pumpConn, memoriesWf_pumpIo, memoriesWf_foldl, memoriesWf_foldl_fst, memoriesWf_foldl_snd]

theorem memoriesWf_finishIo (s : State) (i : NvmeIo) (hs : s.memoriesWf) : (s.finishIo i).memoriesWf := by
  grind [State.memoriesWf, State.finishIo, memoriesWf_endIo, memoriesWf_issueOrdering, memoriesWf_addHubPeg]

theorem memoriesWf_failIo (s : State) (i : NvmeIo) (status lba : Nat) (hs : s.memoriesWf) : (s.failIo i status lba).memoriesWf := by
  grind [State.memoriesWf, State.failIo, memoriesWf_finishIo, memoriesWf_setIo]

theorem memoriesWf_nvmeOrdered (s : State) (f idx : Nat) (ok : Bool) (hs : s.memoriesWf) : (s.nvmeOrdered f idx ok).memoriesWf := by
  grind [State.memoriesWf, State.nvmeOrdered, memoriesWf_endIo, memoriesWf_addHubPeg]

theorem memoriesWf_startIo (s : State) (f : Nat) (e : Entry) (hs : s.memoriesWf) : (s.startIo f e).memoriesWf := by
  unfold startIo
  dsimp only
  refine memoriesWf_ite (fun _ => memoriesWf_complete _ _ _ _ _ hs) fun _ => memoriesWf_ite (fun _ => memoriesWf_complete _ _ _ _ _ hs) fun _ => ?_
  generalize hu : (if (s.conn (e.u16 8)).spaces.any _ = true then s else _) = s1
  have hs1 : s1.memoriesWf := hu ▸ memoriesWf_ite (fun _ => hs) fun _ => (memoriesWf_emit _ _).2 ((memoriesWf_setConn _ _ _).2 hs)
  refine memoriesWf_ite (fun _ => memoriesWf_complete _ _ _ _ _ hs1) fun _ => ?_
  generalize hk : (if bit (e.u8 0x0B) 0 = true then s1.takeKey f (e.u16 0x1A) else (some [], s1)) = kr
  have hkr : kr.2.memoriesWf := by
    subst hk
    split
    · exact memoriesWf_takeKey _ _ _ hs1
    · exact hs1
  split
  · exact hs
  · split
    · exact memoriesWf_moveWait _ _ _ _ hs
    next st s2 h2 => exact memoriesWf_complete _ _ _ _ _ (memoriesWf_of_snd (memoriesWf_resolveBuf _ _ _ _ _ _ hkr) h2)
    next ps s2 h2 =>
      exact memoriesWf_pumpIo _ _ _ _ (memoriesWf_joinIo _ _ (memoriesWf_busy _ _ _ (memoriesWf_of_snd (memoriesWf_resolveBuf _ _ _ _ _ _ hkr) h2)))

theorem memoriesWf_leaveConn (s : State) (c next error : Nat) (bad : Option (Nat × Nat × Nat)) (hs : s.memoriesWf) :
    (s.leaveConn c next error bad).memoriesWf := by
  grind [State.memoriesWf, State.leaveConn, memoriesWf_setConn, memoriesWf_setObj, memoriesWf_endIo, memoriesWf_foldl,
    memoriesWf_foldl_fst, memoriesWf_foldl_snd]

theorem memoriesWf_resolveHop (s : State) (c : Nat) (hs : s.memoriesWf) : (s.resolveHop c).memoriesWf := by
  grind [State.memoriesWf, State.resolveHop, memoriesWf_solicit]

theorem memoriesWf_beginConn (s : State) (c : Nat) (hs : s.memoriesWf) : (s.beginConn c).memoriesWf := by
  refine (memoriesWf_emit _ _).2 ?_
  have hconn (v : NvmeConn) : ((s.setObj (connObj c) 3 0 1).setConn c v).memoriesWf := (memoriesWf_setConn _ _ _).2 ((memoriesWf_setObj _ _ _ _ _).2 hs)
  exact memoriesWf_ite (fun _ => memoriesWf_resolveHop _ _ (hconn _)) fun _ => hconn _

theorem memoriesWf_setupConn (s : State) (c : Nat) (hs : s.memoriesWf) : (s.setupConn c).memoriesWf := by
  grind [State.memoriesWf, State.setupConn, memoriesWf_emit, memoriesWf_foldl, memoriesWf_foldl_fst, memoriesWf_foldl_snd]

theorem memoriesWf_connect (s : State) (c : Nat) (hs : s.memoriesWf) {u : State} (e : s.connect c = some u) : u.memoriesWf := by
  grind [State.memoriesWf, State.connect, memoriesWf_beginConn]

theorem memoriesWf_disconnect (s : State) (c : Nat) (hs : s.memoriesWf) : (s.disconnect c).memoriesWf := by
  grind [State.memoriesWf, State.disconnect, memoriesWf_leaveConn]

theorem memoriesWf_withPdu (s : State) (c type cidAt : Nat) (p : List Byte) (k : NvmeIo → NvmeCmd → State → State) (hs : s.memoriesWf)
    (hk : ∀ x0 x1 x2, x2.memoriesWf → (k x0 x1 x2).memoriesWf) : (s.withPdu c type cidAt p k).memoriesWf := by
  grind [State.memoriesWf, State.withPdu, memoriesWf_leaveConn, memoriesWf_count, memoriesWf_emit]

theorem memoriesWf_placeNvme (s : State) (i : NvmeIo) (off lba : Nat) (bs : List Byte) (hs : s.memoriesWf) :
    (s.placeNvme i off lba bs).memoriesWf := by
  grind [State.memoriesWf, State.placeNvme, memoriesWf_failIo, memoriesWf_writePieces, memoriesWf_scramblePieces, memoriesWf_count,
    memoriesWf_noteBus, memoriesWf_race]

theorem memoriesWf_c2hData (s : State) (c : Nat) (p : List Byte) (hs : s.memoriesWf) : (s.c2hData c p).memoriesWf := by
  grind [State.memoriesWf, State.c2hData, memoriesWf_withPdu, memoriesWf_placeNvme, memoriesWf_setIo, memoriesWf_failIo,
    memoriesWf_countUnits, memoriesWf_foldl, memoriesWf_foldl_fst, memoriesWf_foldl_snd]

theorem memoriesWf_r2t (s : State) (c : Nat) (p : List Byte) (hs : s.memoriesWf) : (s.r2t c p).memoriesWf := by
  grind [State.memoriesWf, State.r2t, memoriesWf_withPdu, memoriesWf_failIo, memoriesWf_readPieces, memoriesWf_count, memoriesWf_emit,
    memoriesWf_countUnits]

theorem memoriesWf_capsuleResp (s : State) (c : Nat) (p : List Byte) (hs : s.memoriesWf) : (s.capsuleResp c p).memoriesWf := by
  grind [State.memoriesWf, State.capsuleResp, memoriesWf_withPdu, memoriesWf_pumpConn, memoriesWf_finishIo, memoriesWf_setIo,
    memoriesWf_count]

/-! Machine/Derone.lean -/

theorem memoriesWf_judgeDerone (s before : State) (hs : s.memoriesWf) : (s.judgeDerone before).memoriesWf := by
  grind [State.memoriesWf, State.judgeDerone, memoriesWf_newCauses]

theorem memoriesWf_judgeInput (s : State) (k : Nat) (hs : s.memoriesWf) : (s.judgeInput k).memoriesWf := by
  grind [State.memoriesWf, State.judgeInput, memoriesWf_count, memoriesWf_emit]

theorem memoriesWf_judgeInputs (s : State) (hs : s.memoriesWf) : s.judgeInputs.memoriesWf := by
  grind [State.memoriesWf, State.judgeInputs, memoriesWf_judgeInput, memoriesWf_foldl, memoriesWf_foldl_fst, memoriesWf_foldl_snd]

theorem memoriesWf_endOff (s : State) (port vc : Nat) (hs : s.memoriesWf) : (s.endOff port vc).memoriesWf := by
  grind [State.memoriesWf, State.endOff, memoriesWf_count, memoriesWf_setOff]

theorem memoriesWf_lose (s : State) (pkt : List Byte) (code : Nat) (hs : s.memoriesWf) : (s.lose pkt code).memoriesWf := by
  grind [State.memoriesWf, State.lose, memoriesWf_endXfer, memoriesWf_answerDerone]

theorem memoriesWf_dropQueues (s : State) (port : Nat) (hs : s.memoriesWf) : (s.dropQueues port).memoriesWf := by
  grind [State.memoriesWf, State.dropQueues, memoriesWf_setOutQueue, memoriesWf_lose, memoriesWf_endOff, memoriesWf_foldl,
    memoriesWf_foldl_fst, memoriesWf_foldl_snd]

theorem memoriesWf_scramblePlaced (s : State) (c : RxContext) (hs : s.memoriesWf) : (s.scramblePlaced c).memoriesWf := by
  grind [State.memoriesWf, State.scramblePlaced, memoriesWf_scramblePieces]

theorem memoriesWf_cutTransfers (s : State) (port : Nat) (hs : s.memoriesWf) : (s.cutTransfers port).memoriesWf := by
  grind [State.memoriesWf, State.cutTransfers, memoriesWf_scramblePlaced, memoriesWf_foldl, memoriesWf_foldl_fst, memoriesWf_foldl_snd]

theorem memoriesWf_parityTransfers (s : State) (k : Nat) (hs : s.memoriesWf) : (s.parityTransfers k).memoriesWf := by
  grind [State.memoriesWf, State.parityTransfers, memoriesWf_answerDerone, memoriesWf_parityMet, memoriesWf_scramblePlaced,
    memoriesWf_foldl, memoriesWf_foldl_fst, memoriesWf_foldl_snd]

theorem memoriesWf_deroneDown (s : State) (port : Nat) (hs : s.memoriesWf) : (s.deroneDown port).memoriesWf := by
  grind [State.memoriesWf, State.deroneDown, memoriesWf_judgeDerone, memoriesWf_count, memoriesWf_setObj, memoriesWf_settleHands,
    memoriesWf_raiseDevice, memoriesWf_judgeInputs, memoriesWf_cutTransfers, memoriesWf_dropQueues]

theorem memoriesWf_badCodeword (s : State) (port : Nat) (hs : s.memoriesWf) : (s.badCodeword port).memoriesWf := by
  grind [State.memoriesWf, State.badCodeword, memoriesWf_count, memoriesWf_deroneDown]

theorem memoriesWf_countArrival (s : State) (port vc bytes : Nat) (hs : s.memoriesWf) : (s.countArrival port vc bytes).memoriesWf := by
  grind [State.memoriesWf, State.countArrival, memoriesWf_count]

theorem memoriesWf_arrive (s : State) (port : Nat) (bytes : List Byte) (hs : s.memoriesWf) : (s.arrive port bytes).1.memoriesWf := by
  grind [State.memoriesWf, State.arrive, memoriesWf_badCodeword, memoriesWf_countArrival, memoriesWf_count, memoriesWf_answerDerone]

theorem memoriesWf_atDestination (s : State) (port : Nat) (bytes : List Byte) (kind : Nat) (k : Packet → State → State)
    (hs : s.memoriesWf) (hk : ∀ x0 x1, x1.memoriesWf → (k x0 x1).memoriesWf) : (s.atDestination port bytes kind k).memoriesWf := by
  grind [State.memoriesWf, State.atDestination, memoriesWf_arrive]

theorem memoriesWf_setContext (s : State) (src id : Nat) (c : Option RxContext) (hs : s.memoriesWf) : (s.setContext src id c).memoriesWf := hs

theorem memoriesWf_refuseWrite (s : State) (port : Nat) (p : Packet) (code : Nat) (hs : s.memoriesWf) :
    (s.refuseWrite port p code).memoriesWf := by
  grind [State.memoriesWf, State.refuseWrite, memoriesWf_scramblePlaced, memoriesWf_answerDerone, memoriesWf_setContext]

theorem memoriesWf_placeWrite (s : State) (port : Nat) (p : Packet) (hs : s.memoriesWf) : (s.placeWrite port p).memoriesWf := by
  grind [State.memoriesWf, State.placeWrite, memoriesWf_refuseWrite, memoriesWf_count, memoriesWf_setContext, memoriesWf_deliverHand,
    memoriesWf_placeBytes, memoriesWf_answerDerone, memoriesWf_addHubPeg]

theorem memoriesWf_rxWrite (port : Nat) (p : Packet) (s : State) (hs : s.memoriesWf) : (State.rxWrite port p s).memoriesWf := by
  grind [State.memoriesWf, State.rxWrite, memoriesWf_refuseWrite, memoriesWf_placeWrite, memoriesWf_setContext]

theorem memoriesWf_respond (s : State) (p : Packet) (n : Nat) (rs : List ((Nat × Nat) × Nat)) (hs : s.memoriesWf) :
    (s.respond p n rs).memoriesWf := by
  induction rs generalizing s with
  | nil => exact hs
  | cons x xs ih =>
    rw [respond]
    repeat' split
    all_goals grind [memoriesWf_parityMet, memoriesWf_sendRouted, memoriesWf_answerDerone]

theorem memoriesWf_rxReadReq (p : Packet) (s : State) (hs : s.memoriesWf) : (State.rxReadReq p s).memoriesWf := by
  unfold rxReadReq
  grind [memoriesWf_count, memoriesWf_answerDerone, memoriesWf_respond]

theorem memoriesWf_rxReadResp (p : Packet) (s : State) (hs : s.memoriesWf) : (State.rxReadResp p s).memoriesWf := by
  grind [State.memoriesWf, State.rxReadResp, memoriesWf_endXfer, memoriesWf_placeOnto, memoriesWf_mapXfer]

theorem memoriesWf_rxAck (p : Packet) (s : State) (hs : s.memoriesWf) : (State.rxAck p s).memoriesWf := by
  grind [State.memoriesWf, State.rxAck, memoriesWf_endXfer]

theorem memoriesWf_rxNak (p : Packet) (s : State) (hs : s.memoriesWf) : (State.rxNak p s).memoriesWf := by
  grind [State.memoriesWf, State.rxNak, memoriesWf_count, memoriesWf_mapXfer, memoriesWf_dropPackets, memoriesWf_endXfer]

theorem memoriesWf_release (s : State) (port vc fuel : Nat) (hs : s.memoriesWf) : (s.release port vc fuel).memoriesWf := by
  induction fuel generalizing s with
  | zero => exact hs
  | succ n ih =>
    rw [release]
    repeat' split
    all_goals grind [memoriesWf_setOutQueue, memoriesWf_sendPacket]

theorem memoriesWf_startTraining (s : State) (port : Nat) (hs : s.memoriesWf) : (s.startTraining port).memoriesWf := by
  grind [State.memoriesWf, State.startTraining, memoriesWf_emit, memoriesWf_setObj]

theorem memoriesWf_linkEnable (s : State) (port value : Nat) (hs : s.memoriesWf) : (s.linkEnable port value).memoriesWf := by
  grind [State.memoriesWf, State.linkEnable, memoriesWf_putObj, memoriesWf_riseNow, memoriesWf_judgeDerone, memoriesWf_setObj,
    memoriesWf_judgeInputs, memoriesWf_dropQueues, memoriesWf_startTraining]

theorem memoriesWf_flowOn (s : State) (port vc : Nat) (hs : s.memoriesWf) : (s.flowOn port vc).memoriesWf := by
  grind [State.memoriesWf, State.flowOn, memoriesWf_endOff, memoriesWf_settleHands, memoriesWf_judgeInputs, memoriesWf_release]

theorem memoriesWf_holdStarts (s : State) (hs : s.memoriesWf) : s.holdStarts.memoriesWf := by
  grind [State.memoriesWf, State.holdStarts, memoriesWf_setEntry, memoriesWf_foldl, memoriesWf_foldl_fst, memoriesWf_foldl_snd]

theorem memoriesWf_routeCommand (s : State) (c : Nat) (hs : s.memoriesWf) {u : State} (e : s.routeCommand c = some u) : u.memoriesWf := by
  grind [State.memoriesWf, State.routeCommand, memoriesWf_setObj, memoriesWf_holdStarts, memoriesWf_raiseDevice]

/-! Machine/Tables.lean -/

theorem memoriesWf_readBuf (s : State) (f : Nat) (b : BufRef) (len : Nat) (hs : s.memoriesWf) : (s.readBuf f b len).2.memoriesWf := by
  grind [State.memoriesWf, State.readBuf, memoriesWf_resolveBuf, memoriesWf_readPieces]

theorem memoriesWf_readDeal (s : State) (f : Nat) (b : BufRef) (hs : s.memoriesWf) : (s.readDeal f b).2.memoriesWf := by
  grind [State.memoriesWf, State.readDeal, memoriesWf_readBuf]

theorem memoriesWf_dealt (s : State) (t f cells : Nat) (d : Deal) (hs : s.memoriesWf) : (s.dealt t f cells d).memoriesWf := by
  grind [State.memoriesWf, State.dealt, memoriesWf_setCtr, memoriesWf_setTable, memoriesWf_foldl, memoriesWf_foldl_fst,
    memoriesWf_foldl_snd]

theorem memoriesWf_runDeal (s : State) (f : Nat) (e : Entry) (hs : s.memoriesWf) : (s.runDeal f e).memoriesWf := by
  grind [State.memoriesWf, State.runDeal, memoriesWf_complete, memoriesWf_readDeal, memoriesWf_moveWait, memoriesWf_dealt]

theorem memoriesWf_runRedeal (s : State) (f : Nat) (e : Entry) (hs : s.memoriesWf) : (s.runRedeal f e).memoriesWf := by
  grind [State.memoriesWf, State.runRedeal, memoriesWf_complete, memoriesWf_readDeal, memoriesWf_moveWait, memoriesWf_dealt]

theorem memoriesWf_sendAbort (s : State) (t : Nat) (c : Table) (h : Hand) (status : Nat) (hs : s.memoriesWf) :
    (s.sendAbort t c h status).memoriesWf := by
  grind [State.memoriesWf, State.sendAbort, memoriesWf_tell]

theorem memoriesWf_handBuf (s : State) (f : Nat) (b : BufRef) (len : Nat) (write : Bool) (hs : s.memoriesWf) :
    (s.handBuf f b len write).2.memoriesWf := by
  unfold handBuf
  grind [memoriesWf_resolveBuf]

theorem memoriesWf_handBufs (s : State) (c : Table) (e : Entry) (hs : s.memoriesWf) : (s.handBufs c e).2.2.memoriesWf := by
  grind [State.memoriesWf, State.handBufs, memoriesWf_handBuf]

theorem memoriesWf_joinHand (s : State) (t : Nat) (hs : s.memoriesWf) : (s.joinHand t).memoriesWf := by
  grind [State.memoriesWf, State.joinHand, memoriesWf_handBufs, memoriesWf_moveWait, memoriesWf_pump, memoriesWf_setHand,
    memoriesWf_failHand]

theorem memoriesWf_stopQueued (s : State) (t status : Nat) (is : List Nat) (hs : s.memoriesWf) : (s.stopQueued t status is).memoriesWf := by
  induction is generalizing s with
  | nil => exact hs
  | cons x xs ih =>
    rw [stopQueued]
    repeat' split
    all_goals grind [memoriesWf_count, memoriesWf_setTable, memoriesWf_endHand, memoriesWf_sendAbort]

theorem memoriesWf_stopHands (s : State) (t status : Nat) (hs : s.memoriesWf) : (s.stopHands t status).memoriesWf := by
  grind [State.memoriesWf, State.stopHands, memoriesWf_setTable, memoriesWf_sendAbort, memoriesWf_endHand, memoriesWf_stopQueued]

theorem memoriesWf_queueHands (s : State) (f t : Nat) (es : List Entry) (hs : s.memoriesWf) : (s.queueHands f t es).memoriesWf := by
  grind [State.memoriesWf, State.queueHands, memoriesWf_busy, memoriesWf_setTable, memoriesWf_foldl, memoriesWf_foldl_fst,
    memoriesWf_foldl_snd]

theorem memoriesWf_runClear (s : State) (f : Nat) (e : Entry) (hs : s.memoriesWf) : (s.runClear f e).memoriesWf := by
  grind [State.memoriesWf, State.runClear, memoriesWf_complete, memoriesWf_queueHands, memoriesWf_setTable, memoriesWf_stopHands,
    memoriesWf_completeIdx, memoriesWf_foldl, memoriesWf_foldl_fst, memoriesWf_foldl_snd]

theorem memoriesWf_takeHand (s : State) (t kind : Nat) (k : Table → Hand → HandPkt → State → State) (hs : s.memoriesWf)
    (hk : ∀ x0 x1 x2 x3, x3.memoriesWf → (k x0 x1 x2 x3).memoriesWf) : (s.takeHand t kind k).memoriesWf := by
  unfold takeHand
  split
  · exact hs
  · split
    · exact hs
    · split
      · exact hs
      · dsimp only
        split
        · exact memoriesWf_settleHands _ (hk _ _ _ _ ((memoriesWf_setTable s t _).2 hs))
        · exact hs

theorem memoriesWf_takeData (s : State) (t : Nat) (hs : s.memoriesWf) : (s.takeData t).memoriesWf := by
  grind [State.memoriesWf, State.takeData, memoriesWf_takeHand, memoriesWf_count, memoriesWf_failHand, memoriesWf_sendHand,
    memoriesWf_pump, memoriesWf_releaseStaged, memoriesWf_setHand]

theorem memoriesWf_takeCredit (s : State) (t : Nat) (hs : s.memoriesWf) : (s.takeCredit t).memoriesWf := by
  grind [State.memoriesWf, State.takeCredit, memoriesWf_takeHand, memoriesWf_pump, memoriesWf_setHand]

theorem memoriesWf_takeAbort (s : State) (t : Nat) (hs : s.memoriesWf) : (s.takeAbort t).memoriesWf := by
  grind [State.memoriesWf, State.takeAbort, memoriesWf_takeHand, memoriesWf_sendDone, memoriesWf_tell, memoriesWf_setHand]

theorem memoriesWf_beginHand (s : State) (t : Nat) (c : Table) (e : Entry) (hs : s.memoriesWf) : (s.beginHand t c e).memoriesWf := by
  grind [State.memoriesWf, State.beginHand, memoriesWf_count, memoriesWf_setTable, memoriesWf_busy, memoriesWf_settleHands,
    memoriesWf_joinHand, memoriesWf_takeAbort, memoriesWf_failHand]

theorem memoriesWf_runHand (s : State) (f : Nat) (e : Entry) (hs : s.memoriesWf) : (s.runHand f e).memoriesWf := by
  grind [State.memoriesWf, State.runHand, memoriesWf_complete, memoriesWf_busy, memoriesWf_setTable, memoriesWf_beginHand]

theorem memoriesWf_takeDone (s : State) (t : Nat) (hs : s.memoriesWf) : (s.takeDone t).memoriesWf := by
  grind [State.memoriesWf, State.takeDone, memoriesWf_takeHand, memoriesWf_leaderSends, memoriesWf_setHand]

theorem memoriesWf_takeFin (s : State) (t : Nat) (hs : s.memoriesWf) : (s.takeFin t).memoriesWf := by
  grind [State.memoriesWf, State.takeFin, memoriesWf_takeHand, memoriesWf_finish]

theorem memoriesWf_atLimit (s : State) (t quarters : Nat) (k : Table → Hand → State) (hs : s.memoriesWf)
    (hk : ∀ x0 x1, (k x0 x1).memoriesWf) : (s.atLimit t quarters k).memoriesWf := by
  unfold atLimit
  split
  · split
    · split
      · exact memoriesWf_settleHands _ (hk _ _)
      · exact hs
    · exact hs
  · exact hs

/-! Machine/FnReset.lean -/

theorem memoriesWf_dropJob (s : State) (d : Nat) (hs : s.memoriesWf) : (s.dropJob d).memoriesWf := by
  grind [State.memoriesWf, State.dropJob, memoriesWf_clearJob, memoriesWf_park, memoriesWf_foldl, memoriesWf_foldl_fst,
    memoriesWf_foldl_snd]

theorem memoriesWf_dropMoves (s : State) (f : Nat) (hs : s.memoriesWf) : (s.dropMoves f).memoriesWf := hs

theorem memoriesWf_dropQps (s : State) (d : Nat) (hs : s.memoriesWf) : (s.dropQps d).memoriesWf := by
  grind [State.memoriesWf, State.dropQps, memoriesWf_resetQp, memoriesWf_setQp, memoriesWf_foldl, memoriesWf_foldl_fst,
    memoriesWf_foldl_snd]

theorem memoriesWf_settleMoves (s : State) (d : Nat) (hs : s.memoriesWf) : (s.settleMoves d).memoriesWf := by
  unfold settleMoves
  refine memoriesWf_foldl (fun u m hu => ?_) _ hs
  split
  next t h => exact memoriesWf_finishMove u m hu h
  next t st h =>
    have ht := memoriesWf_finishMove u m hu h
    grind [memoriesWf_scramblePieces, memoriesWf_finishMove, memoriesWf_foldl, memoriesWf_foldl_fst, memoriesWf_foldl_snd]
  · exact hu

theorem memoriesWf_flrEffects (s : State) (f : Nat) (hs : s.memoriesWf) : (s.flrEffects f).memoriesWf := by
  grind [State.memoriesWf, State.flrEffects, memoriesWf_dropRaw, memoriesWf_settleMoves, memoriesWf_dropQps, memoriesWf_dropMoves,
    memoriesWf_dropJob, memoriesWf_setSlot, memoriesWf_invalidateRegion, memoriesWf_renewDrawer, memoriesWf_setWindows, memoriesWf_setFn,
    memoriesWf_setCtr, memoriesWf_foldl, memoriesWf_foldl_fst, memoriesWf_foldl_snd]

theorem memoriesWf_flr (s : State) (f : Nat) (hs : s.memoriesWf) : (s.flr f).memoriesWf := by
  grind [State.memoriesWf, State.flr, memoriesWf_flrEffects]

theorem memoriesWf_releaseDrained (s : State) (d : Nat) (hs : s.memoriesWf) : (s.releaseDrained d).memoriesWf := hs

theorem memoriesWf_flrSettle (s : State) (f : Nat) (hs : s.memoriesWf) : (s.flrSettle f).memoriesWf := by
  grind [State.memoriesWf, State.flrSettle, memoriesWf_settleMoves, memoriesWf_releaseDrained, memoriesWf_setFn]

theorem memoriesWf_scrambleMessage (s : State) (n psn : Nat) (hs : s.memoriesWf) : (s.scrambleMessage n psn).memoriesWf := by
  grind [State.memoriesWf, State.scrambleMessage, memoriesWf_scramblePieces]

theorem memoriesWf_messageOrdered (s : State) (id n psn : Nat) (ok : Bool) (hs : s.memoriesWf) : (s.messageOrdered id n psn ok).memoriesWf := by
  grind [State.memoriesWf, State.messageOrdered, memoriesWf_settleHands, memoriesWf_advanceQp, memoriesWf_setQp, memoriesWf_fatalNak,
    memoriesWf_scrambleMessage]

theorem memoriesWf_flushOrdered (s : State) (id n psn : Nat) (ok : Bool) (hs : s.memoriesWf) : (s.flushOrdered id n psn ok).memoriesWf := by
  grind [State.memoriesWf, State.flushOrdered, memoriesWf_setQp, memoriesWf_settleHands, memoriesWf_fatalNak]

theorem memoriesWf_orderingDone (s : State) (r : OrderingRead) (ok : Bool) (hs : s.memoriesWf) : (s.orderingDone r ok).memoriesWf := by
  grind [State.memoriesWf, State.orderingDone, memoriesWf_raiseSource, memoriesWf_completeIdx, memoriesWf_addHubPeg,
    memoriesWf_copyFailed, memoriesWf_complete, memoriesWf_pegAdded, memoriesWf_setEntry, memoriesWf_workDone, memoriesWf_messageOrdered,
    memoriesWf_flushOrdered, memoriesWf_nvmeOrdered]

theorem memoriesWf_timeoutEntry (s : State) (f : Nat) (e : Entry) (hs : s.memoriesWf) : (s.timeoutEntry f e).memoriesWf := by
  grind [State.memoriesWf, State.timeoutEntry, memoriesWf_raiseSource, memoriesWf_setSlot, memoriesWf_copyFailed, memoriesWf_moveFails,
    memoriesWf_complete]

theorem memoriesWf_timeoutBusy (s : State) (f idx : Nat) (hs : s.memoriesWf) {u : State} (e : s.timeoutBusy f idx = some u) : u.memoriesWf := by
  grind [State.memoriesWf, State.timeoutBusy, memoriesWf_raiseSource, memoriesWf_buildFails, memoriesWf_failHand, memoriesWf_failIo]

theorem memoriesWf_timeoutServed (s : State) (n : Nat) (hs : s.memoriesWf) : (s.timeoutServed n).memoriesWf := by
  unfold timeoutServed
  dsimp only
  split
  · grind [memoriesWf_raiseSource, memoriesWf_fatalNak, memoriesWf_settleHands, memoriesWf_receive, memoriesWf_keyPieces]
  · refine memoriesWf_receive s _ _ hs fun x q t u ht hu => ?_
    grind [memoriesWf_raiseSource, memoriesWf_fatalNak]

theorem memoriesWf_chunkStep (s : State) (c target : Nat) (hs : s.memoriesWf) {u : State}
    (e : s.chunkStep c target = .done u ∨ s.chunkStep c target = .wait u) : u.memoriesWf := by
  have hmoves : ((s.chunkMoves (s.mem.owner.num c % 128) c).foldl settleMove s).memoriesWf :=
    memoriesWf_foldl (fun v m hv => memoriesWf_settleMove v m hv) _ hs
  unfold chunkStep at e
  grind [State.memoriesWf, memoriesWf_setDev, memoriesWf_count, Ram.wf_zeroFill, memoriesWf_dropChunk]

/-! Machine/Drawers.lean -/

theorem memoriesWf_chunkLoop (s : State) (first count target n : Nat) (hs : s.memoriesWf) : (s.chunkLoop first count target n).memoriesWf := by
  induction n generalizing s with
  | zero => exact (memoriesWf_setObj s 0x2301 5 0 2).2 hs
  | succ k ih =>
    rw [chunkLoop]
    split
    next t ht => exact ih _ ((memoriesWf_setObj t _ _ _ _).2 (memoriesWf_chunkStep s _ _ hs (.inl ht)))
    next t ht => exact memoriesWf_chunkStep s _ _ hs (.inr ht)
    · exact hs

theorem memoriesWf_chunkResume (s : State) (hs : s.memoriesWf) : s.chunkResume.memoriesWf := by
  grind [State.memoriesWf, State.chunkResume, memoriesWf_chunkLoop]

theorem memoriesWf_chunkGo (s : State) (hs : s.memoriesWf) {u : State} (e : s.chunkGo = some u) : u.memoriesWf := by
  grind [State.memoriesWf, State.chunkGo, memoriesWf_setObj, memoriesWf_chunkResume]

theorem memoriesWf_benchByte (s : State) (b v : Nat) (hs : s.memoriesWf) : (s.benchByte b v).memoriesWf := by
  grind [State.memoriesWf, State.benchByte, memoriesWf_giveBench]

theorem memoriesWf_benchOwners (s : State) (bs : List Byte) (hs : s.memoriesWf) : (s.benchOwners bs).memoriesWf := by
  grind [State.memoriesWf, State.benchOwners, memoriesWf_benchByte, memoriesWf_foldl, memoriesWf_foldl_fst, memoriesWf_foldl_snd]

theorem memoriesWf_stopEntries (s : State) (d : Nat) (hs : s.memoriesWf) : (s.stopEntries d).memoriesWf := by
  grind [State.memoriesWf, State.stopEntries, memoriesWf_setFn, memoriesWf_setSlot, memoriesWf_completeIdx, memoriesWf_settle,
    memoriesWf_foldl, memoriesWf_foldl_fst, memoriesWf_foldl_snd]

theorem memoriesWf_stopChecked (s : State) (d : Nat) (hs : s.memoriesWf) : (s.stopChecked d).memoriesWf := by
  grind [State.memoriesWf, State.stopChecked, memoriesWf_completeIdx, memoriesWf_foldl, memoriesWf_foldl_fst, memoriesWf_foldl_snd]

theorem memoriesWf_stopWaits (s : State) (d : Nat) (hs : s.memoriesWf) : (s.stopWaits d).memoriesWf := by
  grind [State.memoriesWf, State.stopWaits, memoriesWf_completeIdx, memoriesWf_foldl, memoriesWf_foldl_fst, memoriesWf_foldl_snd]

theorem memoriesWf_stopAllHands (s : State) (d : Nat) (hs : s.memoriesWf) : (s.stopAllHands d).memoriesWf := by
  grind [State.memoriesWf, State.stopAllHands, memoriesWf_stopHands, memoriesWf_queueHands, memoriesWf_foldl, memoriesWf_foldl_fst,
    memoriesWf_foldl_snd]

theorem memoriesWf_stopQp (s : State) (n : Nat) (hs : s.memoriesWf) : (s.stopQp n).memoriesWf := by
  grind [State.memoriesWf, State.stopQp, memoriesWf_endReq, memoriesWf_setQp, memoriesWf_sendNew, memoriesWf_qpErrorAll, memoriesWf_foldl,
    memoriesWf_foldl_fst, memoriesWf_foldl_snd]

theorem memoriesWf_stopEffects (s : State) (d : Nat) (hs : s.memoriesWf) : (s.stopEffects d).memoriesWf := by
  grind [State.memoriesWf, State.stopEffects, memoriesWf_stopAllHands, memoriesWf_stopChecked, memoriesWf_failJob, memoriesWf_setObj,
    memoriesWf_stopWaits, memoriesWf_stopEntries, memoriesWf_stopQp, memoriesWf_foldl, memoriesWf_foldl_fst, memoriesWf_foldl_snd]

theorem memoriesWf_drawerStop (s : State) (d : Nat) (hs : s.memoriesWf) {u : State} (e : s.drawerStop d = some u) : u.memoriesWf := by
  grind [State.memoriesWf, State.drawerStop, memoriesWf_stopEffects]

theorem memoriesWf_drawerStart (s : State) (d : Nat) (hs : s.memoriesWf) {u : State} (e : s.drawerStart d = some u) : u.memoriesWf := by
  grind [State.memoriesWf, State.drawerStart, memoriesWf_setObj]

theorem memoriesWf_closeSession (s : State) (k : Nat) (hs : s.memoriesWf) : (s.closeSession k).memoriesWf := by
  grind [State.memoriesWf, State.closeSession, memoriesWf_setSession]

theorem memoriesWf_closeCredential (s : State) (c : Nat) (hs : s.memoriesWf) : (s.closeCredential c).memoriesWf := by
  grind [State.memoriesWf, State.closeCredential, memoriesWf_closeSession, memoriesWf_foldl, memoriesWf_foldl_fst, memoriesWf_foldl_snd]

theorem memoriesWf_setSecret (s : State) (c : Nat) (v : Option (List Byte)) (hs : s.memoriesWf) : (s.setSecret c v).memoriesWf := by
  exact memoriesWf_markFlash _ _ _ _ ((memoriesWf_setObj s _ _ _ _).2 hs)

theorem memoriesWf_revoke (s : State) (d : Nat) (hs : s.memoriesWf) : (s.revoke d).memoriesWf := by
  grind [State.memoriesWf, State.revoke, memoriesWf_closeCredential, memoriesWf_setSecret, memoriesWf_putObj, memoriesWf_foldl,
    memoriesWf_foldl_fst, memoriesWf_foldl_snd]

theorem memoriesWf_clearRecord (s : State) (idx d : Nat) (hs : s.memoriesWf) : (s.clearRecord idx d).memoriesWf := hs

theorem memoriesWf_releaseAll (s : State) (d : Nat) (hs : s.memoriesWf) : (s.releaseAll d).memoriesWf := by
  unfold releaseAll
  dsimp only
  refine memoriesWf_foldl (fun u k hu => (memoriesWf_setObj _ _ _ _ _).2 hu) _ (memoriesWf_foldl (fun u a hu => memoriesWf_clearRecord _ _ _ hu) _ ?_)
  refine memoriesWf_withCipher _ (memoriesWf_clearRecord _ 0x2B01 d (memoriesWf_emptySlots _ d ?_))
  refine memoriesWf_foldl (fun u n hu => memoriesWf_ite (fun _ => memoriesWf_setPegBlock u _ _ hu) fun _ => hu) _ (memoriesWf_withCmp _ ?_)
  exact memoriesWf_foldl (fun u b hu => memoriesWf_ite (fun _ => memoriesWf_giveBench u _ _ hu) fun _ => hu) _ hs

theorem memoriesWf_unshare (s : State) (d : Nat) (hs : s.memoriesWf) : (s.unshare d).memoriesWf := by
  grind [State.memoriesWf, State.unshare, memoriesWf_setObj, memoriesWf_disconnect, memoriesWf_foldl, memoriesWf_foldl_fst,
    memoriesWf_foldl_snd]

theorem memoriesWf_migEnd (s : State) (d status : Nat) (hs : s.memoriesWf) : (s.migEnd d status).memoriesWf := by
  grind [State.memoriesWf, State.migEnd, memoriesWf_setObj]

theorem memoriesWf_recycle (s : State) (d : Nat) (hs : s.memoriesWf) {u : State} (e : s.recycle d = some u) : u.memoriesWf := by
  grind [State.memoriesWf, State.recycle, memoriesWf_flrEffects, memoriesWf_stopEffects, memoriesWf_releaseAll, memoriesWf_unshare,
    memoriesWf_clearRecord, memoriesWf_migEnd, memoriesWf_setObj, memoriesWf_revoke]

theorem memoriesWf_restore (s : State) (d : Nat) (b : List Byte) (hs : s.memoriesWf) : (s.restore d b).memoriesWf := by
  unfold restore
  dsimp only
  refine memoriesWf_foldl (fun u x hu => memoriesWf_foldl (fun v k hv => memoriesWf_setHubPeg _ _ _ hv) _ hu) _ ?_
  refine memoriesWf_foldl (fun u q hu => (memoriesWf_setQp _ _ _).2 (memoriesWf_getD hu fun v hv => memoriesWf_nameSa _ _ _ _ _ hu hv)) _ ?_
  refine memoriesWf_foldl (fun u r hu => memoriesWf_setRegion _ _ _ hu) _ ?_
  grind [memoriesWf_renewDrawer, memoriesWf_setObj]

theorem memoriesWf_restoreRun (s : State) (d : Nat) (hs : s.memoriesWf) : (s.restoreRun d).memoriesWf := by
  grind [State.memoriesWf, State.restoreRun, memoriesWf_migEnd, memoriesWf_restore]

theorem memoriesWf_outGranules (s : State) (d c i base : Nat) (only : Bool) (ps : List Piece) (n g word : Nat) (hs : s.memoriesWf) :
    (s.outGranules d c i base only ps n g word).2.2.memoriesWf := by
  induction n generalizing s g word with
  | zero => exact hs
  | succ k ih =>
    rw [outGranules]
    split
    · exact ih _ _ _ hs
    · dsimp only
      split
      next s2 h2 => exact memoriesWf_of_snd (memoriesWf_readPieces _ _ (by exact hs)) h2
      next bs s2 h2 =>
        have hs2 := memoriesWf_of_snd (memoriesWf_readPieces _ _ (by exact hs)) h2
        exact ih _ _ _ ((memoriesWf_setObj _ _ _ _ _).2 (memoriesWf_writePieces _ _ _ _ hs2))

theorem memoriesWf_outChunks (s : State) (d total : Nat) (only : Bool) (ps : List Piece) (cs : List (Nat × Nat)) (hs : s.memoriesWf) :
    (s.outChunks d total only ps cs).2.memoriesWf := by
  induction cs generalizing s with
  | nil => exact hs
  | cons x xs ih =>
    rw [outChunks]
    repeat' split
    all_goals grind [memoriesWf_writePieces, memoriesWf_outGranules]

theorem memoriesWf_inGranules (s : State) (d c i word : Nat) (ps : List Piece) (n g : Nat) (hs : s.memoriesWf) :
    (s.inGranules d c i word ps n g).2.memoriesWf := by
  induction n generalizing s g with
  | zero => exact hs
  | succ k ih =>
    rw [inGranules]
    repeat' split
    all_goals grind [memoriesWf_setObj, memoriesWf_readPieces, memoriesWf_devWrite]

theorem memoriesWf_inChunks (s : State) (d total : Nat) (only : Bool) (ps : List Piece) (cs : List (Nat × Nat)) (hs : s.memoriesWf) :
    (s.inChunks d total only ps cs).2.memoriesWf := by
  induction cs generalizing s with
  | nil => exact hs
  | cons x xs ih =>
    rw [inChunks]
    repeat' split
    all_goals grind [memoriesWf_readPieces, memoriesWf_inGranules]

theorem memoriesWf_copyRun (s : State) (d : Nat) (out : Bool) (hs : s.memoriesWf) : (s.copyRun d out).memoriesWf := by
  grind [State.memoriesWf, State.copyRun, memoriesWf_migEnd, memoriesWf_resolveRegion, memoriesWf_waitForMove, memoriesWf_setObj,
    memoriesWf_outChunks, memoriesWf_inChunks]

theorem memoriesWf_migRun (s : State) (d cmd : Nat) (hs : s.memoriesWf) : (s.migRun d cmd).memoriesWf := by
  grind [State.memoriesWf, State.migRun, memoriesWf_migEnd, memoriesWf_setBlob, memoriesWf_restoreRun, memoriesWf_copyRun,
    memoriesWf_setObj]

theorem memoriesWf_migWrite (s : State) (d cmd : Nat) (hs : s.memoriesWf) {u : State} (e : s.migWrite d cmd = some u) : u.memoriesWf := by
  grind [State.memoriesWf, State.migWrite, memoriesWf_migEnd, memoriesWf_migRun, memoriesWf_setObj]

theorem memoriesWf_migCommand (s : State) (d cmd : Nat) (hs : s.memoriesWf) : (s.migCommand d cmd).memoriesWf := by
  unfold migCommand
  grind [memoriesWf_getD, memoriesWf_migRun, memoriesWf_migWrite]

/-! Machine/Faults.lean -/

theorem memoriesWf_resetCause (s : State) (c : ResetCause) (hs : s.memoriesWf) : (s.resetCause c).memoriesWf := by
  grind [State.memoriesWf, State.resetCause]

theorem memoriesWf_newRun (s : State) (src : Nat) (hs : s.memoriesWf) : (s.newRun src).memoriesWf := by
  grind [State.memoriesWf, State.newRun, memoriesWf_setCtr]

theorem memoriesWf_goSevere (s : State) (src : Nat) (hs : s.memoriesWf) : (s.goSevere src).memoriesWf := by
  grind [State.memoriesWf, State.goSevere, memoriesWf_raiseDevice, memoriesWf_resetCause]

theorem memoriesWf_scoreEvent (s : State) (src : Nat) (hs : s.memoriesWf) : (s.scoreEvent src).memoriesWf := by
  grind [State.memoriesWf, State.scoreEvent, memoriesWf_setCtr, memoriesWf_count, memoriesWf_goSevere]

theorem memoriesWf_sampleLine (s : State) (src : Nat) (hs : s.memoriesWf) : (s.sampleLine src).memoriesWf := by
  grind [State.memoriesWf, State.sampleLine, memoriesWf_scoreEvent, memoriesWf_setLine]

theorem memoriesWf_tickLine (s : State) (src : Nat) (hs : s.memoriesWf) : (s.tickLine src).memoriesWf := by
  grind [State.memoriesWf, State.tickLine, memoriesWf_setLine, memoriesWf_sampleLine]

theorem memoriesWf_returnCleared (s : State) (hs : s.memoriesWf) : s.returnCleared.memoriesWf := by
  grind [State.memoriesWf, State.returnCleared, memoriesWf_foldl, memoriesWf_foldl_fst, memoriesWf_foldl_snd]

theorem memoriesWf_tickFaults (s : State) (hs : s.memoriesWf) : s.tickFaults.memoriesWf := by
  grind [State.memoriesWf, State.tickFaults, memoriesWf_tickLine, memoriesWf_returnCleared, memoriesWf_foldl, memoriesWf_foldl_fst,
    memoriesWf_foldl_snd]

theorem memoriesWf_scorecardClear (s : State) (mask : Nat) (hs : s.memoriesWf) : (s.scorecardClear mask).memoriesWf := by
  grind [State.memoriesWf, State.scorecardClear, memoriesWf_newRun, memoriesWf_foldl, memoriesWf_foldl_fst, memoriesWf_foldl_snd]

theorem memoriesWf_injectStart (s : State) (hs : s.memoriesWf) {u : State} (e : s.injectStart = some u) : u.memoriesWf := by
  grind [State.memoriesWf, State.injectStart]

theorem memoriesWf_injectStop (s : State) (hs : s.memoriesWf) : s.injectStop.memoriesWf := hs

theorem memoriesWf_pulseLine (s : State) (src : Nat) (hs : s.memoriesWf) : (s.pulseLine src).memoriesWf := by
  grind [State.memoriesWf, State.pulseLine, memoriesWf_count, memoriesWf_setLine]

theorem memoriesWf_injectRise (s : State) (i : Injection) (hs : s.memoriesWf) : (s.injectRise i).memoriesWf := by
  grind [State.memoriesWf, State.injectRise, memoriesWf_pulseLine, memoriesWf_sampleLine]

theorem memoriesWf_watchdogAct (s : State) (hs : s.memoriesWf) : s.watchdogAct.memoriesWf := by
  unfold watchdogAct
  grind [memoriesWf_getD, memoriesWf_drawerStop, memoriesWf_resetCause, memoriesWf_foldl, memoriesWf_foldl_fst, memoriesWf_foldl_snd]

theorem memoriesWf_watchdogTick (s : State) (hs : s.memoriesWf) : s.watchdogTick.memoriesWf := by
  grind [State.memoriesWf, State.watchdogTick, memoriesWf_watchdogAct, memoriesWf_count, memoriesWf_raiseSource]

theorem memoriesWf_heartbeatWrite (s : State) (v : Nat) (hs : s.memoriesWf) : (s.heartbeatWrite v).memoriesWf := by
  grind [State.memoriesWf, State.heartbeatWrite, memoriesWf_setObj, memoriesWf_watchdogTick]

/-! Machine/Trust.lean -/

theorem memoriesWf_kekFailed (s : State) (d unwraps : Nat) (hs : s.memoriesWf) : (s.kekFailed d unwraps).memoriesWf := by
  grind [State.memoriesWf, State.kekFailed, memoriesWf_count, memoriesWf_setBlob, memoriesWf_setObj]

theorem memoriesWf_kekLoad (s : State) (d : Nat) (blob : List Byte) (hs : s.memoriesWf) : (s.kekLoad d blob).memoriesWf := by
  grind [State.memoriesWf, State.kekLoad, memoriesWf_emptySlots, memoriesWf_kekFailed, memoriesWf_countUnwrap, memoriesWf_setBlob,
    memoriesWf_setObj]

theorem memoriesWf_keyWrite (s : State) (d : Nat) (b : List Byte) (hs : s.memoriesWf) {u : State} (e : s.keyWrite d b = some u) :
    u.memoriesWf := by
  grind [State.memoriesWf, State.keyWrite, memoriesWf_setKeySlot, memoriesWf_emptySlot]

theorem memoriesWf_keyClear (s : State) (d k : Nat) (hs : s.memoriesWf) {u : State} (e : s.keyClear d k = some u) : u.memoriesWf := by
  grind [State.memoriesWf, State.keyClear, memoriesWf_emptySlot]

theorem memoriesWf_newExchange (s : State) (hs : s.memoriesWf) : s.newExchange.memoriesWf := by
  grind [State.memoriesWf, State.newExchange, memoriesWf_randomBytes, memoriesWf_setBlob]

theorem memoriesWf_noteBank (s : State) (b : Nat) (ok : Bool) (hs : s.memoriesWf) : (s.noteBank b ok).memoriesWf := hs

theorem memoriesWf_runBank (s : State) (b k : Nat) (hs : s.memoriesWf) : (s.runBank b k).memoriesWf := by
  grind [State.memoriesWf, State.runBank, memoriesWf_setObj, memoriesWf_setBlob, memoriesWf_foldl, memoriesWf_foldl_fst,
    memoriesWf_foldl_snd]

theorem memoriesWf_bootFrom (s : State) (bs : List Nat) (hs : s.memoriesWf) : (s.bootFrom bs).memoriesWf := by
  induction bs generalizing s with
  | nil => exact hs
  | cons x xs ih =>
    rw [bootFrom]
    repeat' split
    all_goals grind [memoriesWf_raiseSource, memoriesWf_noteBank, memoriesWf_runBank]

theorem memoriesWf_boot (s : State) (hs : s.memoriesWf) : s.boot.memoriesWf := by
  grind [State.memoriesWf, State.boot, memoriesWf_bootFrom]

theorem memoriesWf_firmwareWritten (s : State) (img : List Byte) (hs : s.memoriesWf) : (s.firmwareWritten img).memoriesWf := by
  grind [State.memoriesWf, State.firmwareWritten, memoriesWf_setObj, memoriesWf_noteBank]

theorem memoriesWf_svnCommit (s : State) (v : Nat) (hs : s.memoriesWf) {u : State} (e : s.svnCommit v = some u) : u.memoriesWf := by
  grind [State.memoriesWf, State.svnCommit, memoriesWf_setObj]

theorem memoriesWf_report (s : State) (d : Nat) (hs : s.memoriesWf) : (s.report d).2.memoriesWf := by
  grind [State.memoriesWf, State.report, memoriesWf_randomBytes]

/-! Machine/Clocks.lean -/

theorem memoriesWf_timeStep (s : State) (v : ℤ) (hs : s.memoriesWf) {u : State} (e : s.timeStep v = some u) : u.memoriesWf := by
  grind [State.memoriesWf, State.timeStep]

theorem memoriesWf_steerTime (s : State) (hs : s.memoriesWf) : s.steerTime.memoriesWf := by
  grind [State.memoriesWf, State.steerTime, memoriesWf_freeNat, memoriesWf_setObj]

theorem memoriesWf_tickTime (u : State) (hu : u.memoriesWf) : u.tickTime.memoriesWf := by
  grind [State.memoriesWf, State.tickTime, memoriesWf_steerTime]

theorem memoriesWf_ppsOut (s : State) (hs : s.memoriesWf) : s.ppsOut.memoriesWf := by
  grind [State.memoriesWf, State.ppsOut]

theorem memoriesWf_ppsIn (s : State) (hs : s.memoriesWf) : s.ppsIn.memoriesWf := by
  grind [State.memoriesWf, State.ppsIn, memoriesWf_setObj]

/-! Machine/Objects.lean -/

theorem memoriesWf_railField (s : State) (r : Nat) (cur : Bool) (hs : s.memoriesWf) : (s.railField r cur).2.memoriesWf := by
  grind [State.memoriesWf, State.railField, memoriesWf_freeNat]

theorem memoriesWf_readNum (s : State) (idx sub inst : Nat) (hs : s.memoriesWf) : (s.readNum idx sub inst).2.memoriesWf := by
  grind [State.memoriesWf, State.readNum, memoriesWf_freeNat, memoriesWf_railField, memoriesWf_riseNow]

theorem memoriesWf_grandmaster (s : State) (hs : s.memoriesWf) : s.grandmaster.2.memoriesWf := by
  grind [State.memoriesWf, State.grandmaster, memoriesWf_freeNat]

theorem memoriesWf_readOctets (s : State) (idx sub inst : Nat) (hs : s.memoriesWf) : (s.readOctets idx sub inst).2.memoriesWf := by
  grind [State.memoriesWf, State.readOctets, memoriesWf_grandmaster]

theorem memoriesWf_readObj (s : State) (be : Bool) (idx sub inst : Nat) (hs : s.memoriesWf) : (s.readObj be idx sub inst).2.memoriesWf := by
  grind [State.memoriesWf, State.readObj, memoriesWf_readNum, memoriesWf_readOctets]

theorem memoriesWf_clearRead (s : State) (idx sub inst : Nat) (hs : s.memoriesWf) : (s.clearRead idx sub inst).memoriesWf := by
  grind [State.memoriesWf, State.clearRead, memoriesWf_clearCtr, memoriesWf_markFlash, memoriesWf_setObj]

theorem memoriesWf_domainValue (s : State) (idx sub inst : Nat) (hs : s.memoriesWf) : (s.domainValue idx sub inst).2.memoriesWf := by
  grind [State.memoriesWf, State.domainValue, memoriesWf_report]

/-! Machine/Telemetry.lean -/

theorem memoriesWf_streamValue (s : State) (o : Nat × Nat) (hs : s.memoriesWf) : (s.streamValue o).2.2.memoriesWf := by
  grind [State.memoriesWf, State.streamValue, memoriesWf_freeNat, memoriesWf_readNum]

theorem memoriesWf_streamEntries (s : State) (be : Bool) (os : List (Nat × Nat)) (hs : s.memoriesWf) :
    (s.streamEntries be os).2.memoriesWf := by
  induction os generalizing s with
  | nil => exact hs
  | cons x xs ih =>
    rw [streamEntries]
    grind [memoriesWf_streamValue]

theorem memoriesWf_streamRecord (s : State) (k : Nat) (be : Bool) (hs : s.memoriesWf) : (s.streamRecord k be).2.memoriesWf := by
  grind [State.memoriesWf, State.streamRecord, memoriesWf_streamEntries]

theorem memoriesWf_streamCount (s : State) (taken : Bool) (hs : s.memoriesWf) : (s.streamCount taken).memoriesWf := by
  grind [State.memoriesWf, State.streamCount, memoriesWf_count]

theorem memoriesWf_streamUdp (s : State) (k : Nat) (hs : s.memoriesWf) : (s.streamUdp k).memoriesWf := by
  grind [State.memoriesWf, State.streamUdp, memoriesWf_streamCount, memoriesWf_streamRecord, memoriesWf_offerOwn, memoriesWf_solicit]

theorem memoriesWf_streamRegion (s : State) (k : Nat) (hs : s.memoriesWf) : (s.streamRegion k).2.memoriesWf := by
  grind [State.memoriesWf, State.streamRegion, memoriesWf_streamRecord, memoriesWf_resolveRegion, memoriesWf_waitForMove,
    memoriesWf_streamCount, memoriesWf_race, memoriesWf_writePieces, memoriesWf_issueOrdering, memoriesWf_addHubPeg]

theorem memoriesWf_streamNext (s : State) (k due : Nat) (hs : s.memoriesWf) : (s.streamNext k due).memoriesWf := by
  grind [State.memoriesWf, State.streamNext, memoriesWf_setObj]

theorem memoriesWf_streamSkips (s : State) (k n : Nat) (hs : s.memoriesWf) : (s.streamSkips k n).memoriesWf := by
  induction n generalizing s with
  | zero => exact hs
  | succ k ih =>
    rw [streamSkips]
    grind [memoriesWf_streamCount, memoriesWf_streamNext]

theorem memoriesWf_streamTake (s : State) (k : Nat) (hs : s.memoriesWf) : (s.streamTake k).memoriesWf := by
  grind [State.memoriesWf, State.streamTake, memoriesWf_streamSkips, memoriesWf_streamUdp, memoriesWf_streamRegion, memoriesWf_streamNext]

theorem memoriesWf_streamEnable (s : State) (k v : Nat) (hs : s.memoriesWf) : (s.streamEnable k v).memoriesWf := by
  grind [State.memoriesWf, State.streamEnable, memoriesWf_setObj, memoriesWf_streamTake]

theorem memoriesWf_streamsRestart (s : State) (hs : s.memoriesWf) : s.streamsRestart.memoriesWf := by
  grind [State.memoriesWf, State.streamsRestart, memoriesWf_streamEnable, memoriesWf_foldl, memoriesWf_foldl_fst, memoriesWf_foldl_snd]

theorem memoriesWf_rawDiscard (s : State) (q : Nat) (r : RawQueue) (hs : s.memoriesWf) : (s.rawDiscard q r).memoriesWf := by
  grind [State.memoriesWf, State.rawDiscard, memoriesWf_pfcTick, memoriesWf_rawGoOn, memoriesWf_setRaw, memoriesWf_rawUnqueue]

theorem memoriesWf_clusterFails (s : State) (hs : s.memoriesWf) : s.clusterFails.memoriesWf := by
  grind [State.memoriesWf, State.clusterFails, memoriesWf_setCondition, memoriesWf_setObj, memoriesWf_endIo, memoriesWf_leaveConn,
    memoriesWf_rawDiscard, memoriesWf_foldl, memoriesWf_foldl_fst, memoriesWf_foldl_snd]

/-! Machine/Ledger.lean -/

theorem memoriesWf_place (s : State) (idx inst : Nat) (r : RecordInfo) (i : Item) (hs : s.memoriesWf) : (s.place idx inst r i).memoriesWf := by
  grind [State.memoriesWf, State.place, memoriesWf_putBlob, memoriesWf_putObj]

theorem memoriesWf_copyWake (s : State) (hs : s.memoriesWf) : s.copyWake.memoriesWf := by
  grind [State.memoriesWf, State.copyWake]

theorem memoriesWf_secretLoad (s : State) (q : Requester) (c : Nat) (bs : List Byte) (hs : s.memoriesWf) {u : State}
    (e : s.secretLoad q c bs = some u) : u.memoriesWf := by
  obtain ⟨v, -, rfl⟩ := Option.map_eq_some_iff.1 e
  exact memoriesWf_closeCredential _ _ (memoriesWf_setSecret s c _ hs)

theorem memoriesWf_saNamed (s : State) (idx d : Nat) (hs : s.memoriesWf) : (s.saNamed idx d).memoriesWf := by
  grind [State.memoriesWf, State.saNamed, memoriesWf_setObj]

theorem memoriesWf_writeEffect (s : State) (q : Requester) (idx sub inst : Nat) (r : RecordInfo) (bs : List Byte) (hs : s.memoriesWf)
    {u : State} (e : s.writeEffect q idx sub inst r bs = some u) : u.memoriesWf := by
  grind [State.memoriesWf, State.writeEffect, memoriesWf_resetCause, memoriesWf_scorecardClear, memoriesWf_newRun, memoriesWf_drawerStop,
    memoriesWf_drawerStart, memoriesWf_recycle, memoriesWf_chunkGo, memoriesWf_benchOwners, memoriesWf_renewDrawer,
    memoriesWf_setPegBlock, memoriesWf_setObj, memoriesWf_migWrite, memoriesWf_ethEnable, memoriesWf_resetBucket, memoriesWf_configChange,
    memoriesWf_copyWake, memoriesWf_timeStep, memoriesWf_settleHands, memoriesWf_linkEnable, memoriesWf_routeCommand, memoriesWf_kekLoad,
    memoriesWf_keyWrite, memoriesWf_keyClear, memoriesWf_saNamed, memoriesWf_svnCommit, memoriesWf_rawEnable, memoriesWf_rawDisable,
    memoriesWf_connect, memoriesWf_disconnect, memoriesWf_streamEnable, memoriesWf_heartbeatWrite, memoriesWf_secretLoad,
    memoriesWf_closeCredential, memoriesWf_injectStart, memoriesWf_injectStop]

theorem memoriesWf_writeGo (s t : State) (q : Requester) (idx inst off : Nat) (r : RecordInfo) (is : List Item) (u : State)
    (hs : s.memoriesWf) (hu : u.memoriesWf) : (s.writeGo t q idx inst off r is u).2.memoriesWf := by
  induction is generalizing u with
  | nil => exact hu
  | cons x xs ih =>
    rw [writeGo]
    repeat' split
    all_goals grind [memoriesWf_writeEffect]

theorem memoriesWf_writeAll (s : State) (q : Requester) (idx inst off : Nat) (is : List Item) (hs : s.memoriesWf) :
    (s.writeAll q idx inst off is).2.memoriesWf := by
  grind [State.memoriesWf, State.writeAll, memoriesWf_place, memoriesWf_writeGo, memoriesWf_foldl, memoriesWf_foldl_fst,
    memoriesWf_foldl_snd]

theorem memoriesWf_readOne (s : State) (q : Requester) (idx sub inst off : Nat) (hs : s.memoriesWf) :
    (s.readOne q idx sub inst off).2.memoriesWf := by
  grind [State.memoriesWf, State.readOne, memoriesWf_readObj, memoriesWf_clearRead]

theorem memoriesWf_wholeFrom (s : State) (q : Requester) (idx inst off sub n : Nat) (hs : s.memoriesWf) :
    (s.wholeFrom q idx inst off sub n).2.memoriesWf := by
  induction n generalizing s sub with
  | zero => exact hs
  | succ k ih =>
    rw [wholeFrom]
    repeat' split
    all_goals grind [memoriesWf_readOne]

theorem memoriesWf_domainWritten (s : State) (idx sub inst : Nat) (v : List Byte) (hs : s.memoriesWf) :
    (s.domainWritten idx sub inst v).memoriesWf := by
  grind [State.memoriesWf, State.domainWritten, memoriesWf_firmwareWritten, memoriesWf_setBlob, memoriesWf_putBlob]

theorem memoriesWf_domainRead (s : State) (q : Requester) (k idx sub inst off limit : Nat) (hs : s.memoriesWf) :
    (s.domainRead q k idx sub inst off limit).2.2.2.memoriesWf := by
  grind [State.memoriesWf, State.domainRead, memoriesWf_domainValue]

theorem memoriesWf_dropWrite (s : State) (k key : Nat) (hs : s.memoriesWf) : (s.dropWrite k key).memoriesWf := hs

theorem memoriesWf_domainBegin (s : State) (q : Requester) (k idx sub inst total : Nat) (hs : s.memoriesWf) :
    (s.domainBegin q k idx sub inst total).2.memoriesWf := by
  grind [State.memoriesWf, State.domainBegin]

theorem memoriesWf_domainSegment (s : State) (q : Requester) (k idx sub inst off limit : Nat) (bs : List Byte) (hs : s.memoriesWf) :
    (s.domainSegment q k idx sub inst off limit bs).2.memoriesWf := by
  grind [State.memoriesWf, State.domainSegment, memoriesWf_dropWrite]

theorem memoriesWf_domainEnd (s : State) (q : Requester) (k idx sub inst : Nat) (hs : s.memoriesWf) :
    (s.domainEnd q k idx sub inst).2.memoriesWf := by
  grind [State.memoriesWf, State.domainEnd, memoriesWf_dropWrite, memoriesWf_domainWritten]

theorem memoriesWf_domainAbort (s : State) (q : Requester) (k idx sub inst : Nat) (hs : s.memoriesWf) :
    (s.domainAbort q k idx sub inst).2.memoriesWf := by
  grind [State.memoriesWf, State.domainAbort, memoriesWf_dropWrite]

theorem memoriesWf_domainExpire (s : State) (k : Nat) (hs : s.memoriesWf) : (s.domainExpire k).memoriesWf := hs

/-! Machine/Jorol.lean -/

theorem memoriesWf_acknowledge (s : State) (k seq : Nat) (hs : s.memoriesWf) : (s.acknowledge k seq).memoriesWf := by
  grind [State.memoriesWf, State.acknowledge, memoriesWf_notifySession, memoriesWf_setSession]

theorem memoriesWf_serve (s : State) (q : Requester) (k limit : Nat) (m : Msg) (hs : s.memoriesWf) :
    (s.serve q k limit m).2.2.2.memoriesWf := by
  have hbare (r : Answer × Nat × List Byte × State) (hr : r.2.2.2.memoriesWf) :
      (if r.1 = .ok ∧ m.len ≠ 0 then (.length, m.offset, [], s) else r).2.2.2.memoriesWf := by
    split
    · exact hs
    · exact hr
  unfold serve
  dsimp only
  by_cases h1 : m.type = 1
  · rw [if_pos h1]
    refine hbare _ ?_
    grind [memoriesWf_setSession, memoriesWf_closeSession, memoriesWf_heartbeatWrite, memoriesWf_writeAll, memoriesWf_readOne,
      memoriesWf_wholeFrom, memoriesWf_domainRead, memoriesWf_domainBegin, memoriesWf_domainSegment, memoriesWf_domainEnd,
      memoriesWf_domainAbort, memoriesWf_acknowledge]
  rw [if_neg h1]
  by_cases h2 : m.type = 2
  · rw [if_pos h2]
    exact memoriesWf_writeAll _ _ _ _ _ _ hs
  rw [if_neg h2]
  by_cases h3 : m.type = 3
  · rw [if_pos h3]
    exact hbare _ (memoriesWf_domainRead _ _ _ _ _ _ _ _ hs)
  rw [if_neg h3]
  by_cases h4 : m.type = 4
  · rw [if_pos h4]
    exact hbare (_, _, _, _) (memoriesWf_domainBegin _ _ _ _ _ _ _ hs)
  rw [if_neg h4]
  by_cases h5 : m.type = 5
  · rw [if_pos h5]
    exact memoriesWf_domainSegment _ _ _ _ _ _ _ _ _ hs
  rw [if_neg h5]
  by_cases h6 : m.type = 6
  · rw [if_pos h6]
    exact hbare (_, _, _, _) (memoriesWf_domainEnd _ _ _ _ _ _ hs)
  rw [if_neg h6]
  by_cases h7 : m.type = 7
  · rw [if_pos h7]
    exact hbare (_, _, _, _) (memoriesWf_domainAbort _ _ _ _ _ _ hs)
  rw [if_neg h7]
  clear hbare
  grind [memoriesWf_setSession, memoriesWf_closeSession, memoriesWf_heartbeatWrite, memoriesWf_writeAll, memoriesWf_readOne,
    memoriesWf_wholeFrom, memoriesWf_domainRead, memoriesWf_domainBegin, memoriesWf_domainSegment, memoriesWf_domainEnd,
    memoriesWf_domainAbort, memoriesWf_acknowledge]

theorem memoriesWf_handle (s : State) (q : Requester) (k limit : Nat) (m : Msg) (hs : s.memoriesWf) : (s.handle q k limit m).2.memoriesWf := by
  grind [State.memoriesWf, State.handle, memoriesWf_count, memoriesWf_serve]

theorem memoriesWf_hello (s : State) (m : Msg) (hs : s.memoriesWf) : (s.hello m).2.memoriesWf := by
  grind [State.memoriesWf, State.hello, memoriesWf_count, memoriesWf_randomBytes, memoriesWf_setSession]

theorem memoriesWf_authFails (s : State) (c : Nat) (hs : s.memoriesWf) : (s.authFails c).memoriesWf := by
  grind [State.memoriesWf, State.authFails, memoriesWf_count]

theorem memoriesWf_auth (s : State) (m : Msg) (hs : s.memoriesWf) : (s.auth m).2.memoriesWf := by
  unfold auth
  dsimp only
  repeat' split
  all_goals grind [memoriesWf, memoriesWf_count, memoriesWf_setSession, memoriesWf_authFails]

theorem memoriesWf_sessionRequest (s : State) (k : Nat) (ss : Session) (key : List Byte) (limit : Nat) (m : Msg) (hs : s.memoriesWf) :
    (s.sessionRequest k ss key limit m).2.memoriesWf := by
  grind [State.memoriesWf, State.sessionRequest, memoriesWf_setSession, memoriesWf_handle, memoriesWf_count]

theorem memoriesWf_jorolSend (s : State) (o : Option (List Byte)) (hs : s.memoriesWf) : (s.jorolSend o).memoriesWf := by
  cases o <;> exact hs

theorem memoriesWf_jorolRequest (s : State) (k : Nat) (m : Msg) (hs : s.memoriesWf) : (s.jorolRequest k m).memoriesWf := by
  grind [State.memoriesWf, State.jorolRequest, memoriesWf_sessionRequest, memoriesWf_jorolSend, memoriesWf_count]

theorem memoriesWf_mailboxHandle (s : State) (v : Nat) (m : Msg) (hs : s.memoriesWf) : (s.mailboxHandle v m).2.memoriesWf := by
  grind [State.memoriesWf, State.mailboxHandle, memoriesWf_count, memoriesWf_hello, memoriesWf_handle, memoriesWf_auth,
    memoriesWf_sessionRequest]

theorem memoriesWf_mailboxRun (s : State) (v : Nat) (bytes : List Byte) (hs : s.memoriesWf) : (s.mailboxRun v bytes).memoriesWf := by
  grind [State.memoriesWf, State.mailboxRun, memoriesWf_mailboxHandle, memoriesWf_hostWrite, memoriesWf_sendVector]

theorem memoriesWf_doorbell (s : State) (v : Nat) (hs : s.memoriesWf) : (s.doorbell v).memoriesWf := by
  grind [State.memoriesWf, State.doorbell, memoriesWf_raiseSource, memoriesWf_mailboxRun]

theorem memoriesWf_notifyAgain (s : State) (k : Nat) (hs : s.memoriesWf) : (s.notifyAgain k).memoriesWf := by
  grind [State.memoriesWf, State.notifyAgain, memoriesWf_setSession, memoriesWf_emit, memoriesWf_count, memoriesWf_foldl,
    memoriesWf_foldl_fst, memoriesWf_foldl_snd]

theorem memoriesWf_helloExpire (s : State) (k : Nat) (hs : s.memoriesWf) : (s.helloExpire k).memoriesWf := by
  grind [State.memoriesWf, State.helloExpire, memoriesWf_closeSession]

theorem memoriesWf_idleExpire (s : State) (k : Nat) (hs : s.memoriesWf) : (s.idleExpire k).memoriesWf := by
  grind [State.memoriesWf, State.idleExpire, memoriesWf_closeSession]

theorem memoriesWf_jorolRow (s : State) (p : Nat → Bool) (session : Nat) (bytes : List Byte) (hs : s.memoriesWf) :
    (s.jorolRow p session bytes).memoriesWf := by
  grind [State.memoriesWf, State.jorolRow, memoriesWf_mailboxRun, memoriesWf_jorolRequest]

/-! Machine/Resets.lean -/

theorem memoriesWf_discardAll (s : State) (perst : Bool) (hs : s.memoriesWf) : (s.discardAll perst).memoriesWf := hs

theorem memoriesWf_nextEpoch (s : State) (hs : s.memoriesWf) : s.nextEpoch.memoriesWf := by
  grind [State.memoriesWf, State.nextEpoch, memoriesWf_setObj]

theorem memoriesWf_setLevel (s : State) (l : Nat) (hs : s.memoriesWf) : (s.setLevel l).memoriesWf := by
  grind [State.memoriesWf, State.setLevel, memoriesWf_setObj]

theorem memoriesWf_fullReset (s : State) (c : ResetCause) (hs : s.memoriesWf) : (s.fullReset c).memoriesWf := by
  grind [State.memoriesWf, State.fullReset, memoriesWf_newExchange, memoriesWf_setObj, memoriesWf_nextEpoch, memoriesWf_discardAll,
    memoriesWf_raiseJorol, memoriesWf_setLevel, memoriesWf_setCondition]

theorem memoriesWf_powerLost (s : State) (hs : s.memoriesWf) : s.powerLost.memoriesWf := by
  unfold powerLost
  dsimp only
  refine (memoriesWf_setObj _ _ _ _ _).2 (memoriesWf_foldl (fun u c hu => ?_) _ ?_)
  · split
    · exact (memoriesWf_setObj _ _ _ _ _).2 hu
    · exact hu
  · exact ⟨Ram.wf_lose _, hs.2⟩

theorem memoriesWf_judgeSupply (s before : State) (hs : s.memoriesWf) : (s.judgeSupply before).memoriesWf := by
  grind [State.memoriesWf, State.judgeSupply, memoriesWf_newCauses]

theorem memoriesWf_checkFlash (s : State) (hs : s.memoriesWf) : s.checkFlash.2.memoriesWf := hs

theorem memoriesWf_powerUp (s : State) (hs : s.memoriesWf) : s.powerUp.memoriesWf := by
  have hreset : State.reset.memoriesWf := ⟨rfl, rfl, rfl⟩
  have hlost := memoriesWf_powerLost _ (memoriesWf_checkFlash s hs)
  unfold powerUp
  dsimp only
  grind [memoriesWf, memoriesWf_setObj, memoriesWf_forceAll, memoriesWf_raiseSource, memoriesWf_trainPort, memoriesWf_newExchange,
    memoriesWf_nextEpoch, memoriesWf_powerLost, memoriesWf_judgeSupply, memoriesWf_checkFlash]

theorem memoriesWf_p1Down (s : State) (hs : s.memoriesWf) : s.p1Down.memoriesWf := by
  grind [State.memoriesWf, State.p1Down, memoriesWf_portEvent, memoriesWf_raiseSource]

theorem memoriesWf_wake (s : State) (f : List Byte) (hs : s.memoriesWf) : (s.wake f).memoriesWf := by
  grind [State.memoriesWf, State.wake, memoriesWf_setObj]

theorem memoriesWf_perst0Down (s : State) (hs : s.memoriesWf) : s.perst0Down.memoriesWf := by
  grind [State.memoriesWf, State.perst0Down, memoriesWf_resetCause]

theorem memoriesWf_perst0Up (s : State) (hs : s.memoriesWf) : s.perst0Up.memoriesWf := hs

theorem memoriesWf_p0Up (s : State) (speed width : Nat) (flit : Bool) (hs : s.memoriesWf) : (s.p0Up speed width flit).memoriesWf := by
  grind [State.memoriesWf, State.p0Up, memoriesWf_hostWrite, memoriesWf_emit, memoriesWf_setFn, memoriesWf_foldl, memoriesWf_foldl_fst,
    memoriesWf_foldl_snd]

/-! Machine/Bringup.lean -/

theorem memoriesWf_pmbusReads (s : State) (commands : List Nat) (hs : s.memoriesWf) : (s.pmbusReads commands).memoriesWf := by
  grind [State.memoriesWf, State.pmbusReads, memoriesWf_emit, memoriesWf_foldl, memoriesWf_foldl_fst, memoriesWf_foldl_snd]

theorem memoriesWf_bootRom (s : State) (hs : s.memoriesWf) : s.bootRom.memoriesWf := by
  grind [State.memoriesWf, State.bootRom, memoriesWf_boot, memoriesWf_pmbusReads, memoriesWf_foldl, memoriesWf_foldl_fst,
    memoriesWf_foldl_snd]

theorem memoriesWf_bringUp (s : State) (k : Nat) (hs : s.memoriesWf) : (s.bringUp k).memoriesWf := by
  grind [State.memoriesWf, State.bringUp, memoriesWf_setCondition, memoriesWf_setStack]

theorem memoriesWf_installRoutes (s : State) (hs : s.memoriesWf) : s.installRoutes.memoriesWf := by
  grind [State.memoriesWf, State.installRoutes, memoriesWf_setObj]

theorem memoriesWf_trainDerone (s : State) (hs : s.memoriesWf) : s.trainDerone.memoriesWf := by
  grind [State.memoriesWf, State.trainDerone, memoriesWf_startTraining, memoriesWf_foldl, memoriesWf_foldl_fst, memoriesWf_foldl_snd]

theorem memoriesWf_clusterStarts (s : State) (hs : s.memoriesWf) : s.clusterStarts.memoriesWf := by
  grind [State.memoriesWf, State.clusterStarts, memoriesWf_streamsRestart, memoriesWf_setObj]

theorem memoriesWf_stage1 (s : State) (hs : s.memoriesWf) : s.stage1.memoriesWf := by
  grind [State.memoriesWf, State.stage1, memoriesWf_setObj, memoriesWf_setLevel, memoriesWf_forceAll, memoriesWf_trainDerone,
    memoriesWf_installRoutes, memoriesWf_trainPort, memoriesWf_clusterStarts, memoriesWf_raiseDevice, memoriesWf_raiseJorol]

theorem memoriesWf_resumeStack (s : State) (k : Nat) (hs : s.memoriesWf) : (s.resumeStack k).memoriesWf := by
  grind [State.memoriesWf, State.resumeStack, memoriesWf_askWake, memoriesWf_foldl, memoriesWf_foldl_fst, memoriesWf_foldl_snd]

theorem memoriesWf_trim (s : State) (k : Nat) (passed : Bool) (hs : s.memoriesWf) : (s.trim k passed).memoriesWf := by
  grind [State.memoriesWf, State.trim, memoriesWf_setStack, memoriesWf_resumeStack, memoriesWf_setCondition]

theorem memoriesWf_clockStep (s : State) (k : Nat) (hs : s.memoriesWf) : (s.clockStep k).memoriesWf := by
  grind [State.memoriesWf, State.clockStep, memoriesWf_settleStack, memoriesWf_resumeStack, memoriesWf_setStack]

theorem memoriesWf_flushPosted (s : State) (q : Nat) (hs : s.memoriesWf) : (s.flushPosted q).memoriesWf := by
  grind [State.memoriesWf, State.flushPosted, memoriesWf_rawFlush]

theorem memoriesWf_leaveE0 (s : State) (hs : s.memoriesWf) : s.leaveE0.memoriesWf := by
  grind [State.memoriesWf, State.leaveE0, memoriesWf_dropSub, memoriesWf_count, memoriesWf_flushPosted, memoriesWf_leaveConn,
    memoriesWf_foldl, memoriesWf_foldl_fst, memoriesWf_foldl_snd]

theorem memoriesWf_stage2 (s : State) (hs : s.memoriesWf) : s.stage2.memoriesWf := by
  grind [State.memoriesWf, State.stage2, memoriesWf_setObj, memoriesWf_setLevel, memoriesWf_leaveE0, memoriesWf_raiseDevice,
    memoriesWf_trainPort, memoriesWf_foldl, memoriesWf_foldl_fst, memoriesWf_foldl_snd]

theorem memoriesWf_freshAll {α : Type} (size : α → Nat) (put : α → List Byte → α) (xs : List α) (s : State) (hs : s.memoriesWf) :
    (State.freshAll size put xs s).2.memoriesWf := by
  induction xs generalizing s with
  | nil => exact hs
  | cons x xs ih => exact ih _ (memoriesWf_freeBytes s _ hs)

theorem memoriesWf_freshBytes (xs : List (List Byte)) (s : State) (hs : s.memoriesWf) :
    (freshBytes xs s).2.memoriesWf :=
  memoriesWf_freshAll _ _ xs s hs

theorem memoriesWf_freshFrames (xs : List RxFrame) (s : State) (hs : s.memoriesWf) :
    (freshFrames xs s).2.memoriesWf :=
  memoriesWf_freshAll _ _ xs s hs

theorem memoriesWf_freshHands (xs : List HandPkt) (s : State) (hs : s.memoriesWf) :
    (freshHands xs s).2.memoriesWf :=
  memoriesWf_freshAll _ _ xs s hs

theorem memoriesWf_freshHeld (xs : List HrtPkt) (s : State) (hs : s.memoriesWf) :
    (freshHeld xs s).2.memoriesWf :=
  memoriesWf_freshAll _ _ xs s hs

theorem memoriesWf_loseKitty (s : State) (hs : s.memoriesWf) : s.loseKitty.memoriesWf := by
  unfold loseKitty
  dsimp only
  refine memoriesWf_foldl (fun u i hu => (memoriesWf_setIo _ _).2 (memoriesWf_freshAll _ _ _ _ hu)) _ ?_
  refine memoriesWf_foldl (fun u kv hu => ?_) _ ?_
  · split
    · exact hu
    · exact (memoriesWf_setRaw _ _ _).2 (memoriesWf_freshFrames _ _ hu)
  · refine memoriesWf_freshAll _ _ _ _ (memoriesWf_foldl (fun u kv hu => ?_) _ ?_)
    · grind [memoriesWf_setTable, memoriesWf_freshHands]
    · refine memoriesWf_freshFrames _ _ (memoriesWf_foldl (fun u kv hu => ?_) _ (memoriesWf_foldl (fun u kv hu => ?_) _ hs))
      · exact (memoriesWf_setQp _ _ _).2 (memoriesWf_freshHeld _ _ (memoriesWf_freshAll _ _ _ _ hu))
      · exact (memoriesWf_setFn _ _ _).2 (memoriesWf_freshBytes _ _ hu)

theorem memoriesWf_rootLost (s : State) (hs : s.memoriesWf) : s.rootLost.memoriesWf := by
  have hports (d e : Nat) : ((List.range 33).foldl (fun st k => if bit e k then st.setSub k { st.sub k with link := .down } else st)
      ((List.range 8).foldl (fun st p => if bit d p then st.setObj (0x2808 + p) 2 0 3 else st) s)).memoriesWf :=
    memoriesWf_foldl (fun u k hu => memoriesWf_ite (fun _ => (memoriesWf_setSub _ _ _).2 hu) fun _ => hu) _
      (memoriesWf_foldl (fun u p hu => memoriesWf_ite (fun _ => (memoriesWf_setObj _ _ _ _ _).2 hu) fun _ => hu) _ hs)
  unfold rootLost
  dsimp only
  refine memoriesWf_setCondition _ _ _ ?_
  generalize hu : State.loseKitty _ = u
  have hlost : u.memoriesWf := hu ▸ memoriesWf_loseKitty _ (hports _ _)
  exact ⟨Ram.wf_lose _, hlost.2⟩

theorem memoriesWf_tellPorts (s : State) (hs : s.memoriesWf) : s.tellPorts.memoriesWf := by
  grind [State.memoriesWf, State.tellPorts, memoriesWf_deroneDown, memoriesWf_subDown, memoriesWf_setSub, memoriesWf_p1Down,
    memoriesWf_foldl, memoriesWf_foldl_fst, memoriesWf_foldl_snd]

theorem memoriesWf_rootBack (s : State) (hs : s.memoriesWf) : s.rootBack.memoriesWf := by
  grind [State.memoriesWf, State.rootBack, memoriesWf_tellPorts, memoriesWf_setLine]

theorem memoriesWf_voutOf (s : State) (r raw : Nat) (hs : s.memoriesWf) : (s.voutOf r raw).2.memoriesWf := by
  grind [State.memoriesWf, State.voutOf, memoriesWf_freeNat]

theorem memoriesWf_takeRail (s : State) (r vout iout : Nat) (hs : s.memoriesWf) : (s.takeRail r vout iout).memoriesWf := by
  grind [State.memoriesWf, State.takeRail, memoriesWf_voutOf]

theorem memoriesWf_throttleEvent (s : State) (code domain old new skipped : Nat) (hs : s.memoriesWf) :
    (s.throttleEvent code domain old new skipped).memoriesWf := by
  grind [State.memoriesWf, State.throttleEvent, memoriesWf_raiseDevice]

theorem memoriesWf_governorSample (s : State) (readings : List Nat) (hs : s.memoriesWf) : (s.governorSample readings).memoriesWf := by
  grind [State.memoriesWf, State.governorSample, memoriesWf_takeRail, memoriesWf_pmbusReads, memoriesWf_settleCycles,
    memoriesWf_throttleEvent, memoriesWf_judgeSupply, memoriesWf_count, memoriesWf_foldl, memoriesWf_foldl_fst, memoriesWf_foldl_snd]

theorem memoriesWf_takeTemp (s : State) (d raw : Nat) (hs : s.memoriesWf) : (s.takeTemp d raw).memoriesWf := by
  grind [State.memoriesWf, State.takeTemp, memoriesWf_setObj, memoriesWf_setStack]

theorem memoriesWf_thermalReading (s : State) (temps : List Nat) (hs : s.memoriesWf) : (s.thermalReading temps).memoriesWf := by
  grind [State.memoriesWf, State.thermalReading, memoriesWf_takeTemp, memoriesWf_settleCycles, memoriesWf_newCauses,
    memoriesWf_throttleEvent, memoriesWf_foldl, memoriesWf_foldl_fst, memoriesWf_foldl_snd]

theorem memoriesWf_failMove (s : State) (k : Nat) (m : PageMove) (hs : s.memoriesWf) : (s.failMove k m).memoriesWf := by
  grind [State.memoriesWf, State.failMove, memoriesWf_moveFails, memoriesWf_parityMet]

theorem memoriesWf_interfaceLost (s : State) (k : Nat) (hs : s.memoriesWf) : (s.interfaceLost k).memoriesWf := by
  grind [State.memoriesWf, State.interfaceLost, memoriesWf_setStack, memoriesWf_setCondition, memoriesWf_parityTransfers,
    memoriesWf_failMove, memoriesWf_foldl, memoriesWf_foldl_fst, memoriesWf_foldl_snd]

theorem memoriesWf_interfaceBack (s : State) (k : Nat) (hs : s.memoriesWf) : (s.interfaceBack k).memoriesWf := by
  grind [State.memoriesWf, State.interfaceBack, memoriesWf_setCondition, memoriesWf_setStack]

theorem memoriesWf_tickWaits (s : State) (hs : s.memoriesWf) : s.tickWaits.memoriesWf := by
  grind [State.memoriesWf, State.tickWaits, memoriesWf_flrSettle, memoriesWf_chunkResume, memoriesWf_refreshNeighbours,
    memoriesWf_rawsGoOn, memoriesWf_foldl, memoriesWf_foldl_fst, memoriesWf_foldl_snd]

theorem memoriesWf_tickOnce (s : State) (hs : s.memoriesWf) : s.tickOnce.memoriesWf := by
  grind [State.memoriesWf, State.tickOnce, memoriesWf_tickFaults, memoriesWf_tickTime, memoriesWf_count, memoriesWf_tickWaits]

/-! Machine/Benches.lean -/

theorem memoriesWf_benchParity (s : State) (b : Nat) (p : optParam (Option Piece) none) (hs : s.memoriesWf) :
    (s.benchParity b p).memoriesWf := by
  grind [State.memoriesWf, State.benchParity, memoriesWf_count, memoriesWf_failJob, memoriesWf_parityMet, memoriesWf_raiseSource]

theorem memoriesWf_benchFault (s : State) (b status : Nat) (hs : s.memoriesWf) : (s.benchFault b status).memoriesWf := by
  grind [State.memoriesWf, State.benchFault, memoriesWf_failJob]

theorem memoriesWf_fetchInstr (s : State) (b d : Nat) (j : Job) (hs : s.memoriesWf) : (s.fetchInstr b d j).2.memoriesWf := by
  grind [State.memoriesWf, State.fetchInstr, memoriesWf_benchParity, memoriesWf_benchFault, memoriesWf_readPieces, memoriesWf_count,
    memoriesWf_setBench]

theorem memoriesWf_runInstr (s : State) (b code : Nat) (k : Nat → Job → Nat → State → State) (hs : s.memoriesWf)
    (hk : ∀ x0 x1 x2 x3, x3.memoriesWf → (k x0 x1 x2 x3).memoriesWf) : (s.runInstr b code k).memoriesWf := by
  grind [State.memoriesWf, State.runInstr, memoriesWf_fetchInstr]

theorem memoriesWf_step1 (s : State) (b : Nat) (hs : s.memoriesWf) : (s.step1 b).memoriesWf := by
  grind [State.memoriesWf, State.step1, memoriesWf_setBench]

/-! Machine/Operands.lean -/

theorem memoriesWf_noteRange (s : State) (d a n : Nat) (hs : s.memoriesWf) : (s.noteRange d a n).memoriesWf := by
  grind [State.memoriesWf, State.noteRange, memoriesWf_setJob]

theorem memoriesWf_wr (s : State) (b d loc : Nat) (rs : List (Nat × List Byte)) (hs : s.memoriesWf) : (s.wr b d loc rs).memoriesWf := by
  induction rs generalizing s with
  | nil => exact hs
  | cons x xs ih =>
    rw [wr]
    repeat' split
    all_goals grind [memoriesWf_setBench, memoriesWf_writePieces, memoriesWf_raceBut, memoriesWf_noteRange]

theorem memoriesWf_runKernelInstr (s : State) (b code : Nat) (k : Nat → Job → Nat → Ops4 → State → State) (hs : s.memoriesWf)
    (hk : ∀ x0 x1 x2 x3 x4, x4.memoriesWf → (k x0 x1 x2 x3 x4).memoriesWf) : (s.runKernelInstr b code k).memoriesWf := by
  grind [State.memoriesWf, State.runKernelInstr, memoriesWf_runInstr, memoriesWf_benchFault, memoriesWf_benchParity]

/-! Machine/Kernels.lean -/

theorem memoriesWf_leaveScratch (s : State) (b : Nat) (leaves : Bench → Bench) (hs : s.memoriesWf) : (s.leaveScratch b leaves).memoriesWf := by
  grind [State.memoriesWf, State.leaveScratch, memoriesWf_setBench]

theorem memoriesWf_countKernel (s : State) (b d : Nat) (out : KernelOut) (reads : List (View × List (Nat × Nat))) (hs : s.memoriesWf) :
    (s.countKernel b d out reads).memoriesWf := by
  unfold countKernel
  dsimp only
  grind [memoriesWf_count, memoriesWf_countFree, memoriesWf_busy]

theorem memoriesWf_runKernel (s : State) (b d : Nat) (j : Job) (reads writes : List (View × List (Nat × Nat))) (params : List (Nat × Nat))
    (k : State → Option KernelOut) (hs : s.memoriesWf) : (s.runKernel b d j reads writes params k).memoriesWf := by
  unfold runKernel
  dsimp only
  grind [memoriesWf_benchParity, memoriesWf_benchFault, memoriesWf_step1, memoriesWf_wr, memoriesWf_leaveScratch, memoriesWf_countKernel,
    memoriesWf_foldl, memoriesWf_foldl_fst, memoriesWf_foldl_snd]

theorem memoriesWf_plainKernel (s : State) (b code : Nat) (ok : Nat → Operands → Bool) (k : Ops4 → Nat → State → Nat → Option KernelOut)
    (hs : s.memoriesWf) : (s.plainKernel b code ok k).memoriesWf := by
  unfold plainKernel
  refine memoriesWf_runKernelInstr s _ _ _ hs fun d j w o t ht => ?_
  grind [memoriesWf_runKernel, memoriesWf_benchFault]

/-! Machine/Moves.lean -/

theorem memoriesWf_issueWork (s : State) (d : Nat) (j : Job) (logical instr : Nat) (hs : s.memoriesWf) :
    (s.issueWork d j logical instr).1.memoriesWf := by
  grind [State.memoriesWf, State.issueWork, memoriesWf_setJob]

theorem memoriesWf_moveRemote (s : State) (b d : Nat) (j : Job) (runs : List (Nat × List Byte)) (sig : Option Nat) (hs : s.memoriesWf) :
    (s.moveRemote b d j runs sig).memoriesWf := by
  grind [State.memoriesWf, State.moveRemote, memoriesWf_issueWork, memoriesWf_step1, memoriesWf_count, memoriesWf_startOp]

theorem memoriesWf_countMove (s : State) (b d : Nat) (a dv : View) (hs : s.memoriesWf) : (s.countMove b d a dv).memoriesWf := by
  grind [State.memoriesWf, State.countMove, memoriesWf_count]

/-! Machine/Pins.lean -/

theorem memoriesWf_samplePins (s : State) (hs : s.memoriesWf) : s.samplePins.2.memoriesWf := by
  grind [State.memoriesWf, State.samplePins, memoriesWf_freeNat]

theorem memoriesWf_tapTake (s : State) (i : TapInstr) (hs : s.memoriesWf) : (s.tapTake i).memoriesWf := by
  grind [State.memoriesWf, State.tapTake, memoriesWf_emit, memoriesWf_samplePins]

theorem memoriesWf_store (s : State) (key : Nat) (hs : s.memoriesWf) : (s.store key).memoriesWf := by
  grind [State.memoriesWf, State.store]

theorem memoriesWf_flashWrite (s : State) (key : Nat) (success : Bool) (hs : s.memoriesWf) : (s.flashWrite key success).memoriesWf := by
  grind [State.memoriesWf, State.flashWrite, memoriesWf_store, memoriesWf_raiseSource]

/-! Machine/Sends.lean -/

theorem memoriesWf_sendOnQp (s : State) (b d : Nat) (j : Job) (p : SendParam) (bytes : List Byte) (read : Nat) (hs : s.memoriesWf) :
    (s.sendOnQp b d j p bytes read).memoriesWf := by
  grind [State.memoriesWf, State.sendOnQp, memoriesWf_withQp, memoriesWf_benchFault, memoriesWf_count, memoriesWf_issueWork,
    memoriesWf_step1, memoriesWf_setQp]

theorem memoriesWf_sendToRegion (s : State) (b d : Nat) (j : Job) (p : SendParam) (bytes : List Byte) (read : Nat) (hs : s.memoriesWf) :
    (s.sendToRegion b d j p bytes read).memoriesWf := by
  grind [State.memoriesWf, State.sendToRegion, memoriesWf_resolveRegion, memoriesWf_waitForMove, memoriesWf_benchFault,
    memoriesWf_issueWork, memoriesWf_count, memoriesWf_step1, memoriesWf_noteBus, memoriesWf_race, memoriesWf_writePieces,
    memoriesWf_workDone, memoriesWf_issueOrdering, memoriesWf_addHubPeg]

end Sys2Proof.Machine.State
end
section
/-! Every command keeps the byte memories canonical, by the lemmas of the functions that it runs. -/

namespace Sys2Proof.Machine

namespace State
/-- A command leaves the machine in a state whose byte memories are canonical. -/
def NextWf (o : Host.Outcome State Fault Refusal) : Prop := ∀ t, o = .next t → t.memoriesWf

theorem nextWf_next {t : State} (ht : t.memoriesWf) : NextWf (.next t) := by
  rintro _ ⟨⟩
  exact ht

theorem nextWf_live {s t : State} (hs : s.memoriesWf) (ht : t.memoriesWf) : NextWf (s.live t) :=
  nextWf_next (memoriesWf_ite (fun _ => ht) fun _ => hs)

theorem nextWf_liveLedger {s t : State} (hs : s.memoriesWf) (ht : t.memoriesWf) : NextWf (s.liveLedger t) :=
  nextWf_live hs (memoriesWf_ite (fun _ => ht) fun _ => hs)

end State

open State

theorem nextWf_execNop (fid idx : Nat) (s : State) (hs : s.memoriesWf) : NextWf (execNop fid idx s) := by
  refine nextWf_live hs (memoriesWf_runEntry _ _ _ _ _ hs fun e t ht => ?_)
  grind [memoriesWf, memoriesWf_runEntry, memoriesWf_complete]

theorem nextWf_execFence (fid idx : Nat) (s : State) (hs : s.memoriesWf) : NextWf (execFence fid idx s) := by
  refine nextWf_live hs (memoriesWf_runEntry _ _ _ _ _ hs fun e t ht => ?_)
  grind [memoriesWf, memoriesWf_runEntry, memoriesWf_complete]

theorem nextWf_execCopy (fid idx : Nat) (s : State) (hs : s.memoriesWf) : NextWf (execCopy fid idx s) := by
  refine nextWf_live hs (memoriesWf_runEntry _ _ _ _ _ hs fun e t ht => ?_)
  grind [memoriesWf, memoriesWf_runEntry, memoriesWf_runCopy]

theorem nextWf_execRegRegion (fid idx : Nat) (s : State) (hs : s.memoriesWf) : NextWf (execRegRegion fid idx s) := by
  refine nextWf_live hs (memoriesWf_runEntry _ _ _ _ _ hs fun e t ht => ?_)
  grind [memoriesWf, memoriesWf_runEntry, memoriesWf_complete, memoriesWf_setRegion]

theorem nextWf_execDeregRegion (fid idx : Nat) (s : State) (hs : s.memoriesWf) : NextWf (execDeregRegion fid idx s) := by
  refine nextWf_live hs (memoriesWf_runEntry _ _ _ _ _ hs fun e t ht => ?_)
  grind [memoriesWf, memoriesWf_runEntry, memoriesWf_complete, memoriesWf_invalidateRegion, memoriesWf_setEntry]

theorem nextWf_execPrefetch (fid idx : Nat) (s : State) (hs : s.memoriesWf) : NextWf (execPrefetch fid idx s) := by
  refine nextWf_live hs (memoriesWf_runEntry _ _ _ _ _ hs fun e t ht => ?_)
  grind [memoriesWf, memoriesWf_runEntry, memoriesWf_stepMove]

theorem nextWf_execAdvisePrewalk (fid idx : Nat) (s : State) (hs : s.memoriesWf) : NextWf (execAdvisePrewalk fid idx s) := by
  refine nextWf_live hs (memoriesWf_advise _ _ _ _ _ (fun e t ht => ?_) hs)
  grind [memoriesWf, memoriesWf_advise, memoriesWf_walkPages, memoriesWf_complete, memoriesWf_moveWait]

theorem nextWf_execAdvisePin (fid idx : Nat) (s : State) (hs : s.memoriesWf) : NextWf (execAdvisePin fid idx s) := by
  refine nextWf_live hs (memoriesWf_advise _ _ _ _ _ (fun e t ht => ?_) hs)
  grind [memoriesWf, memoriesWf_advise, memoriesWf_walkPages, memoriesWf_setPins, memoriesWf_complete, memoriesWf_moveWait]

theorem nextWf_execAdviseUnpin (fid idx : Nat) (s : State) (hs : s.memoriesWf) : NextWf (execAdviseUnpin fid idx s) := by
  refine nextWf_live hs (memoriesWf_advise _ _ _ _ _ (fun e t ht => ?_) hs)
  grind [memoriesWf, memoriesWf_advise, memoriesWf_complete, memoriesWf_setPins]

theorem nextWf_execAdviseHold (fid idx : Nat) (s : State) (hs : s.memoriesWf) : NextWf (execAdviseHold fid idx s) := by
  refine nextWf_live hs (memoriesWf_advise _ _ _ _ _ (fun e t ht => ?_) hs)
  grind [memoriesWf, memoriesWf_advise, memoriesWf_complete, memoriesWf_granules, memoriesWf_moveWait, memoriesWf_addWindow]

theorem nextWf_execAdviseRelease (fid idx : Nat) (s : State) (hs : s.memoriesWf) : NextWf (execAdviseRelease fid idx s) := by
  refine nextWf_live hs (memoriesWf_advise _ _ _ _ _ (fun e t ht => ?_) hs)
  grind [memoriesWf, memoriesWf_advise, memoriesWf_complete, memoriesWf_releaseWindow]

theorem nextWf_execAdviseEvict (fid idx : Nat) (s : State) (hs : s.memoriesWf) : NextWf (execAdviseEvict fid idx s) := by
  refine nextWf_live hs (memoriesWf_advise _ _ _ _ _ (fun e t ht => ?_) hs)
  grind [memoriesWf, memoriesWf_advise, memoriesWf_stepMove]

theorem nextWf_execInvalidate (fid idx : Nat) (s : State) (hs : s.memoriesWf) : NextWf (execInvalidate fid idx s) := by
  refine nextWf_live hs (memoriesWf_runEntry _ _ _ _ _ hs fun e t ht => ?_)
  grind [memoriesWf, memoriesWf_runEntry, memoriesWf_dropDrawer, memoriesWf_dropCached, memoriesWf_setEntry, memoriesWf_complete,
    memoriesWf_count, memoriesWf_dropStale]

theorem nextWf_execScrubAccess (corrected : Bool) (s : State) (hs : s.memoriesWf) : NextWf (execScrubAccess corrected s) := by
  refine nextWf_live hs ?_
  grind [memoriesWf, memoriesWf_setObj, memoriesWf_raiseSource, memoriesWf_count]

theorem nextWf_execRawQueueEnable (queue : Nat) (s : State) (hs : s.memoriesWf) : NextWf (execRawQueueEnable queue s) := by
  refine nextWf_liveLedger hs ?_
  grind [memoriesWf, memoriesWf_rawEnable, memoriesWf_getD]

theorem nextWf_execRawQueueDisable (queue : Nat) (s : State) (hs : s.memoriesWf) : NextWf (execRawQueueDisable queue s) := by
  refine nextWf_liveLedger hs ?_
  grind [memoriesWf, memoriesWf_rawDisable]

theorem nextWf_execRawTxDescriptor (queue : Nat) (s : State) (hs : s.memoriesWf) : NextWf (execRawTxDescriptor queue s) := by
  refine nextWf_live hs ?_
  grind [memoriesWf, memoriesWf_rawTake]

theorem nextWf_execRawRxFrame (queue : Nat) (s : State) (hs : s.memoriesWf) : NextWf (execRawRxFrame queue s) := by
  refine nextWf_live hs ?_
  grind [memoriesWf, memoriesWf_rawDeliver]

theorem nextWf_execFrameReceive (port lane : Nat) (frame : List Byte) (code : Bool) (s : State) (hs : s.memoriesWf) :
    NextWf (execFrameReceive port lane frame code s) := by
  refine nextWf_live hs ?_
  grind [memoriesWf, memoriesWf_frameReceive]

theorem nextWf_execPfcReceive (port lane : Nat) (frame : List Byte) (s : State) (hs : s.memoriesWf) :
    NextWf (execPfcReceive port lane frame s) := by
  refine nextWf_live hs ?_
  grind [memoriesWf, memoriesWf_frameReceive]

theorem nextWf_execPfcPauseExpiry (port lane cls : Nat) (s : State) (hs : s.memoriesWf) : NextWf (execPfcPauseExpiry port lane cls s) := by
  refine nextWf_live hs ?_
  grind [memoriesWf, memoriesWf_setSub]

theorem nextWf_execPfcRepeat (port lane cls : Nat) (s : State) (hs : s.memoriesWf) : NextWf (execPfcRepeat port lane cls s) := by
  refine nextWf_live hs ?_
  grind [memoriesWf, memoriesWf_setSub]

theorem nextWf_execFrameTransmit (port lane : Nat) (s : State) (hs : s.memoriesWf) : NextWf (execFrameTransmit port lane s) := by
  refine nextWf_live hs ?_
  grind [memoriesWf, memoriesWf_transmit]

theorem nextWf_execSubportUp (port lane : Nat) (s : State) (hs : s.memoriesWf) : NextWf (execSubportUp port lane s) := by
  refine nextWf_live hs ?_
  grind [memoriesWf, memoriesWf_subEvent, memoriesWf_setSub, memoriesWf_announce, memoriesWf_pfcTick]

theorem nextWf_execSubportDown (port lane : Nat) (s : State) (hs : s.memoriesWf) : NextWf (execSubportDown port lane s) := by
  refine nextWf_live hs ?_
  grind [memoriesWf, memoriesWf_subDown]

theorem nextWf_execSubportDegraded (port lane : Nat) (s : State) (hs : s.memoriesWf) : NextWf (execSubportDegraded port lane s) := by
  refine nextWf_live hs ?_
  grind [memoriesWf, memoriesWf_countSince, memoriesWf_subEvent, memoriesWf_setSub]

theorem nextWf_execEthLinkEnableWrite (port value : Nat) (s : State) (hs : s.memoriesWf) : NextWf (execEthLinkEnableWrite port value s) := by
  refine nextWf_liveLedger hs ?_
  grind [memoriesWf, memoriesWf_ethEnable]

theorem nextWf_execGateEntryChange (port lane : Nat) (s : State) (hs : s.memoriesWf) : NextWf (execGateEntryChange port lane s) := by
  refine nextWf_live hs ?_
  grind [memoriesWf, memoriesWf_setSub]

theorem nextWf_execConfigChange (port _lane : Nat) (s : State) (hs : s.memoriesWf) : NextWf (execConfigChange port _lane s) := by
  refine nextWf_liveLedger hs ?_
  grind [memoriesWf, memoriesWf_configChange, memoriesWf_getD]

theorem nextWf_execGateConfigApply (port _lane : Nat) (s : State) (hs : s.memoriesWf) : NextWf (execGateConfigApply port _lane s) := by
  refine nextWf_live hs ?_
  grind [memoriesWf, memoriesWf_gateApply]

theorem nextWf_execPegSetWrite (fid idx : Nat) (s : State) (hs : s.memoriesWf) : NextWf (execPegSetWrite fid idx s) := by
  refine nextWf_live hs (memoriesWf_pegSet _ _ _ _ _ hs fun e t ht => ?_)
  grind [memoriesWf, memoriesWf_pegSet, memoriesWf_completeIdx, memoriesWf_setHubPeg, memoriesWf_complete]

theorem nextWf_execPegSetAdd (fid idx : Nat) (s : State) (hs : s.memoriesWf) : NextWf (execPegSetAdd fid idx s) := by
  refine nextWf_live hs (memoriesWf_pegSet _ _ _ _ _ hs fun e t ht => ?_)
  grind [memoriesWf, memoriesWf_pegSet, memoriesWf_complete, memoriesWf_pegAdded, memoriesWf_raiseSource, memoriesWf_setEntry,
    memoriesWf_issueOrdering, memoriesWf_foldl]

theorem nextWf_execPegSetWait (fid idx : Nat) (s : State) (hs : s.memoriesWf) : NextWf (execPegSetWait fid idx s) := by
  refine nextWf_live hs (memoriesWf_pegSet _ _ _ _ _ hs fun e t ht => ?_)
  grind [memoriesWf, memoriesWf_pegSet, memoriesWf_complete, memoriesWf_busy]

theorem nextWf_execPegSetBind (fid idx : Nat) (s : State) (hs : s.memoriesWf) : NextWf (execPegSetBind fid idx s) := by
  refine nextWf_live hs (memoriesWf_pegSet _ _ _ _ _ hs fun e t ht => ?_)
  grind [memoriesWf, memoriesWf_pegSet, memoriesWf_complete, memoriesWf_unbind]

theorem nextWf_execPegSetUnbind (fid idx : Nat) (s : State) (hs : s.memoriesWf) : NextWf (execPegSetUnbind fid idx s) := by
  refine nextWf_live hs (memoriesWf_pegSet _ _ _ _ _ hs fun e t ht => ?_)
  grind [memoriesWf, memoriesWf_pegSet, memoriesWf_complete, memoriesWf_unbind]

theorem nextWf_execHubPegBlockWrite (block value : Nat) (s : State) (hs : s.memoriesWf) : NextWf (execHubPegBlockWrite block value s) := by
  refine nextWf_liveLedger hs ?_
  grind [memoriesWf, memoriesWf_setPegBlock]

theorem nextWf_execLoadJob (fid idx : Nat) (s : State) (hs : s.memoriesWf) : NextWf (execLoadJob fid idx s) := by
  refine nextWf_live hs (memoriesWf_runEntry _ _ _ _ _ hs fun e t ht => ?_)
  grind [memoriesWf, memoriesWf_runEntry, memoriesWf_runLoad]

theorem nextWf_execRunJob (fid idx : Nat) (s : State) (hs : s.memoriesWf) : NextWf (execRunJob fid idx s) := by
  refine nextWf_live hs (memoriesWf_runEntry _ _ _ _ _ hs fun e t ht => ?_)
  grind [memoriesWf, memoriesWf_runEntry, memoriesWf_runRun]

theorem nextWf_execJobDispatch (fid idx : Nat) (s : State) (hs : s.memoriesWf) : NextWf (execJobDispatch fid idx s) := by
  refine nextWf_live hs ?_
  grind [memoriesWf, memoriesWf_completeIdx, memoriesWf_windowRead, memoriesWf_dispatchBench, memoriesWf_setJob, memoriesWf_foldl]

theorem nextWf_execJobComplete (drawer : Nat) (s : State) (hs : s.memoriesWf) : NextWf (execJobComplete drawer s) := by
  refine nextWf_live hs ?_
  grind [memoriesWf, memoriesWf_completeIdx, memoriesWf_clearJob, memoriesWf_scrambleWrites]

theorem nextWf_execJobDeadlineExpiry (drawer : Nat) (s : State) (hs : s.memoriesWf) : NextWf (execJobDeadlineExpiry drawer s) := by
  refine nextWf_live hs ?_
  grind [memoriesWf, memoriesWf_failJob]

theorem nextWf_execHrtSend (fid idx : Nat) (s : State) (hs : s.memoriesWf) : NextWf (execHrtSend fid idx s) := by
  refine nextWf_live hs (memoriesWf_runEntry _ _ _ _ _ hs fun e t ht => ?_)
  grind [memoriesWf, memoriesWf_runEntry, memoriesWf_startHrt]

theorem nextWf_execHrtWrite (fid idx : Nat) (s : State) (hs : s.memoriesWf) : NextWf (execHrtWrite fid idx s) := by
  refine nextWf_live hs (memoriesWf_runEntry _ _ _ _ _ hs fun e t ht => ?_)
  grind [memoriesWf, memoriesWf_runEntry, memoriesWf_startHrt]

theorem nextWf_execHrtRead (fid idx : Nat) (s : State) (hs : s.memoriesWf) : NextWf (execHrtRead fid idx s) := by
  refine nextWf_live hs (memoriesWf_runEntry _ _ _ _ _ hs fun e t ht => ?_)
  grind [memoriesWf, memoriesWf_runEntry, memoriesWf_startHrt]

theorem nextWf_execHrtAdd (fid idx : Nat) (s : State) (hs : s.memoriesWf) : NextWf (execHrtAdd fid idx s) := by
  refine nextWf_live hs (memoriesWf_runEntry _ _ _ _ _ hs fun e t ht => ?_)
  grind [memoriesWf, memoriesWf_runEntry, memoriesWf_startHrt]

theorem nextWf_execHrtCas (fid idx : Nat) (s : State) (hs : s.memoriesWf) : NextWf (execHrtCas fid idx s) := by
  refine nextWf_live hs (memoriesWf_runEntry _ _ _ _ _ hs fun e t ht => ?_)
  grind [memoriesWf, memoriesWf_runEntry, memoriesWf_startHrt]

theorem nextWf_execHrtFlush (fid idx : Nat) (s : State) (hs : s.memoriesWf) : NextWf (execHrtFlush fid idx s) := by
  refine nextWf_live hs (memoriesWf_runEntry _ _ _ _ _ hs fun e t ht => ?_)
  grind [memoriesWf, memoriesWf_runEntry, memoriesWf_startHrt]

theorem nextWf_execContextFetch (qp : Nat) (s : State) (hs : s.memoriesWf) : NextWf (execContextFetch qp s) := by
  refine nextWf_live hs ?_
  grind [memoriesWf, memoriesWf_count]

theorem nextWf_execHrtPacketTransmit (qp : Nat) (s : State) (hs : s.memoriesWf) : NextWf (execHrtPacketTransmit qp s) := by
  refine nextWf_live hs (memoriesWf_withQp _ _ _ hs fun q t ht => ?_)
  grind [memoriesWf, memoriesWf_withQp, memoriesWf_settleHands, memoriesWf_endSpent, memoriesWf_sendReply, memoriesWf_sendRtx,
    memoriesWf_sendNew]

theorem nextWf_execQpModify (fid idx : Nat) (s : State) (hs : s.memoriesWf) : NextWf (execQpModify fid idx s) := by
  refine nextWf_live hs (memoriesWf_runEntry _ _ _ _ _ hs fun e t ht => ?_)
  grind [memoriesWf, memoriesWf_runEntry, memoriesWf_settleHands, memoriesWf_runModify]

theorem nextWf_execResume (fid idx : Nat) (s : State) (hs : s.memoriesWf) : NextWf (execResume fid idx s) := by
  refine nextWf_live hs (memoriesWf_runEntry _ _ _ _ _ hs fun e t ht => ?_)
  grind [memoriesWf, memoriesWf_runEntry, memoriesWf_withQp, memoriesWf_complete, memoriesWf_translate, memoriesWf_moveWait,
    memoriesWf_pageRequest, memoriesWf_setQp]

theorem nextWf_execRetransmitTimeout (qp : Nat) (s : State) (hs : s.memoriesWf) : NextWf (execRetransmitTimeout qp s) := by
  refine nextWf_live hs ?_
  grind [memoriesWf, memoriesWf_settleHands, memoriesWf_rtoExpires, memoriesWf_lossCut, memoriesWf_count]

theorem nextWf_execPageWaitEnd (qp : Nat) (s : State) (hs : s.memoriesWf) : NextWf (execPageWaitEnd qp s) := by
  refine nextWf_live hs ?_
  grind [memoriesWf, memoriesWf_setQp]

theorem nextWf_execPageWaitTimeout (qp : Nat) (s : State) (hs : s.memoriesWf) : NextWf (execPageWaitTimeout qp s) := by
  refine nextWf_live hs ?_
  grind [memoriesWf, memoriesWf_count, memoriesWf_qpError, memoriesWf_setReq]

theorem nextWf_execClimbTimer (qp : Nat) (s : State) (hs : s.memoriesWf) : NextWf (execClimbTimer qp s) := by
  refine nextWf_live hs ?_
  grind [memoriesWf, memoriesWf_climb]

theorem nextWf_execAckDelayExpiry (qp : Nat) (s : State) (hs : s.memoriesWf) : NextWf (execAckDelayExpiry qp s) := by
  refine nextWf_live hs ?_
  grind [memoriesWf, memoriesWf_sendAck]

theorem nextWf_execHrtRxSend (s : State) (hs : s.memoriesWf) : NextWf (execHrtRxSend s) := by
  refine nextWf_live hs ?_
  grind [memoriesWf, memoriesWf_receiveRequest]

theorem nextWf_execHrtRxWrite (s : State) (hs : s.memoriesWf) : NextWf (execHrtRxWrite s) := by
  refine nextWf_live hs ?_
  grind [memoriesWf, memoriesWf_receiveRequest]

theorem nextWf_execHrtRxReadReq (s : State) (hs : s.memoriesWf) : NextWf (execHrtRxReadReq s) := by
  refine nextWf_live hs ?_
  grind [memoriesWf, memoriesWf_receiveRequest]

theorem nextWf_execHrtRxAdd (s : State) (hs : s.memoriesWf) : NextWf (execHrtRxAdd s) := by
  refine nextWf_live hs ?_
  grind [memoriesWf, memoriesWf_receiveRequest]

theorem nextWf_execHrtRxCas (s : State) (hs : s.memoriesWf) : NextWf (execHrtRxCas s) := by
  refine nextWf_live hs ?_
  grind [memoriesWf, memoriesWf_receiveRequest]

theorem nextWf_execHrtRxFlush (s : State) (hs : s.memoriesWf) : NextWf (execHrtRxFlush s) := by
  refine nextWf_live hs ?_
  grind [memoriesWf, memoriesWf_receiveRequest]

theorem nextWf_execHrtRxColl (s : State) (hs : s.memoriesWf) : NextWf (execHrtRxColl s) := by
  refine nextWf_live hs ?_
  grind [memoriesWf, memoriesWf_receiveRequest]

theorem nextWf_execHrtRxReadResp (s : State) (hs : s.memoriesWf) : NextWf (execHrtRxReadResp s) := by
  refine nextWf_live hs (memoriesWf_receiveReply _ _ _ hs fun p n t u ht e => ?_)
  grind [memoriesWf, memoriesWf_receiveReply, memoriesWf_placeRead]

theorem nextWf_execHrtRxAtomicResp (s : State) (hs : s.memoriesWf) : NextWf (execHrtRxAtomicResp s) := by
  refine nextWf_live hs (memoriesWf_receiveReply _ _ _ hs fun p n t u ht e => ?_)
  grind [memoriesWf, memoriesWf_receiveReply, memoriesWf_placeAtomic]

theorem nextWf_execHrtRxAck (s : State) (hs : s.memoriesWf) : NextWf (execHrtRxAck s) := by
  refine nextWf_live hs (memoriesWf_receiveReply _ _ _ hs fun p n t u ht e => ?_)
  grind [memoriesWf, memoriesWf_receiveReply, memoriesWf_settleQp, memoriesWf_takeAck, memoriesWf_takeLimit]

theorem nextWf_execHrtRxAckStale (s : State) (hs : s.memoriesWf) : NextWf (execHrtRxAckStale s) := by
  refine nextWf_live hs (memoriesWf_receiveReply _ _ _ hs fun p n t u ht e => ?_)
  grind [memoriesWf, memoriesWf_receiveReply, memoriesWf_qpErrorAll]

theorem nextWf_execHrtRxNakPage (s : State) (hs : s.memoriesWf) : NextWf (execHrtRxNakPage s) := by
  refine nextWf_live hs (memoriesWf_receiveReply _ _ _ hs fun p n t u ht e => ?_)
  grind [memoriesWf, memoriesWf_receiveReply, memoriesWf_takeNakPage]

theorem nextWf_execHrtRxFatalNak (s : State) (hs : s.memoriesWf) : NextWf (execHrtRxFatalNak s) := by
  refine nextWf_live hs (memoriesWf_receiveReply _ _ _ hs fun p n t u ht e => ?_)
  grind [memoriesWf, memoriesWf_receiveReply, memoriesWf_takeFatal]

theorem nextWf_execHeldRequestExecute (qp : Nat) (s : State) (hs : s.memoriesWf) : NextWf (execHeldRequestExecute qp s) := by
  refine nextWf_live hs ?_
  grind [memoriesWf, memoriesWf_advanceQp, memoriesWf_setQp, memoriesWf_execInOrder, memoriesWf_settleHands]

theorem nextWf_execFlushConditionMet (qp : Nat) (s : State) (hs : s.memoriesWf) : NextWf (execFlushConditionMet qp s) := by
  refine nextWf_live hs ?_
  grind [memoriesWf, memoriesWf_accept, memoriesWf_count, memoriesWf_setQp]

theorem nextWf_execAtomicopCompletion (qp : Nat) (success : Bool) (value : Nat) (s : State) (hs : s.memoriesWf) :
    NextWf (execAtomicopCompletion qp success value s) := by
  refine nextWf_live hs ?_
  grind [memoriesWf, memoriesWf_atomicApplied, memoriesWf_atomicDone, memoriesWf_settleHands, memoriesWf_fatalNak]

theorem nextWf_execEntryFetch (fid : Nat) (s : State) (hs : s.memoriesWf) : NextWf (execEntryFetch fid s) := by
  refine nextWf_live hs ?_
  grind [memoriesWf, memoriesWf_fetch]

theorem nextWf_execSpeculativeFetch (fid idx : Nat) (s : State) (hs : s.memoriesWf) : NextWf (execSpeculativeFetch fid idx s) := by
  refine nextWf_live hs ?_
  grind [memoriesWf, memoriesWf_setFn]

theorem nextWf_execWrProdWrite (fid value : Nat) (hostStores peerStores : List Host.Cell) (s : State) (hs : s.memoriesWf) :
    NextWf (execWrProdWrite fid value hostStores peerStores s) := by
  have hstored : ((s.setHost (s.mem.host.apply hostStores)).setPeer (s.mem.peer.apply peerStores)).memoriesWf :=
    memoriesWf_setPeer _ _ (memoriesWf_setHost _ _ hs (Ram.wf_apply _ hs.2.1)) (Ram.wf_apply _ hs.2.2)
  exact nextWf_live hs (memoriesWf_ite (fun _ => memoriesWf_wrProdWrite _ _ _ hstored) fun _ => hstored)

theorem nextWf_execCrConsWrite (fid value : Nat) (s : State) (hs : s.memoriesWf) : NextWf (execCrConsWrite fid value s) := by
  refine nextWf_live hs ?_
  grind [memoriesWf, memoriesWf_crConsWrite]

theorem nextWf_execCrArmWrite (fid value : Nat) (s : State) (hs : s.memoriesWf) : NextWf (execCrArmWrite fid value s) := by
  refine nextWf_live hs ?_
  grind [memoriesWf, memoriesWf_crArmWrite]

theorem nextWf_execRingEnable (fid : Nat) (s : State) (hs : s.memoriesWf) : NextWf (execRingEnable fid s) := by
  refine nextWf_live hs ?_
  grind [memoriesWf, memoriesWf_ringEnable]

theorem nextWf_execRingDisable (fid : Nat) (s : State) (hs : s.memoriesWf) : NextWf (execRingDisable fid s) := by
  refine nextWf_live hs ?_
  grind [memoriesWf, memoriesWf_ringEnable]

theorem nextWf_execRingStatusRead (fid : Nat) (s : State) (hs : s.memoriesWf) : NextWf (execRingStatusRead fid s) := by
  refine nextWf_live hs ?_
  grind [memoriesWf, memoriesWf_readPage]

theorem nextWf_execCrMirrorWrite (fid : Nat) (s : State) (hs : s.memoriesWf) : NextWf (execCrMirrorWrite fid s) := by
  refine nextWf_live hs ?_
  grind [memoriesWf, memoriesWf_setFn, memoriesWf_hostWrite]

theorem nextWf_execMsixMessage (fid : Nat) (s : State) (hs : s.memoriesWf) : NextWf (execMsixMessage fid s) := by
  refine nextWf_live hs ?_
  grind [memoriesWf, memoriesWf_sendVector, memoriesWf_setFn]

theorem nextWf_execCompletionBackpressure (fid : Nat) (s : State) (hs : s.memoriesWf) : NextWf (execCompletionBackpressure fid s) := by
  refine nextWf_live hs ?_
  grind [memoriesWf, memoriesWf_raiseDevice, memoriesWf_setFn]

theorem nextWf_execPcieTlpError (port : Nat) (s : State) (hs : s.memoriesWf) : NextWf (execPcieTlpError port s) := by
  refine nextWf_live hs ?_
  grind [memoriesWf, memoriesWf_raiseSource]

theorem nextWf_execNvmeRead (fid idx : Nat) (s : State) (hs : s.memoriesWf) : NextWf (execNvmeRead fid idx s) := by
  refine nextWf_live hs (memoriesWf_runEntry _ _ _ _ _ hs fun e t ht => ?_)
  grind [memoriesWf, memoriesWf_runEntry, memoriesWf_startIo]

theorem nextWf_execNvmeWrite (fid idx : Nat) (s : State) (hs : s.memoriesWf) : NextWf (execNvmeWrite fid idx s) := by
  refine nextWf_live hs (memoriesWf_runEntry _ _ _ _ _ hs fun e t ht => ?_)
  grind [memoriesWf, memoriesWf_runEntry, memoriesWf_startIo]

theorem nextWf_execNvmeFlush (fid idx : Nat) (s : State) (hs : s.memoriesWf) : NextWf (execNvmeFlush fid idx s) := by
  refine nextWf_live hs (memoriesWf_runEntry _ _ _ _ _ hs fun e t ht => ?_)
  grind [memoriesWf, memoriesWf_runEntry, memoriesWf_startIo]

theorem nextWf_execNvmeConnect (conn : Nat) (s : State) (hs : s.memoriesWf) : NextWf (execNvmeConnect conn s) := by
  refine nextWf_liveLedger hs ?_
  grind [memoriesWf, memoriesWf_connect, memoriesWf_getD]

theorem nextWf_execNvmeDisconnect (conn : Nat) (s : State) (hs : s.memoriesWf) : NextWf (execNvmeDisconnect conn s) := by
  refine nextWf_liveLedger hs ?_
  grind [memoriesWf, memoriesWf_disconnect]

theorem nextWf_execNvmeConnectDone (conn : Nat) (s : State) (hs : s.memoriesWf) : NextWf (execNvmeConnectDone conn s) := by
  refine nextWf_live hs ?_
  grind [memoriesWf, memoriesWf_setupConn, memoriesWf_setConn, memoriesWf_setObj]

theorem nextWf_execNvmeConnectTimeout (conn : Nat) (digestsRefused : Bool) (s : State) (hs : s.memoriesWf) :
    NextWf (execNvmeConnectTimeout conn digestsRefused s) := by
  refine nextWf_live hs ?_
  grind [memoriesWf, memoriesWf_leaveConn]

theorem nextWf_execNvmeConnectionLoss (conn : Nat) (s : State) (hs : s.memoriesWf) : NextWf (execNvmeConnectionLoss conn s) := by
  refine nextWf_live hs ?_
  grind [memoriesWf, memoriesWf_leaveConn]

theorem nextWf_execNvmeIoTimeout (conn : Nat) (s : State) (hs : s.memoriesWf) : NextWf (execNvmeIoTimeout conn s) := by
  refine nextWf_live hs ?_
  grind [memoriesWf, memoriesWf_leaveConn]

theorem nextWf_execNvmeReconnectDelay (conn : Nat) (s : State) (hs : s.memoriesWf) : NextWf (execNvmeReconnectDelay conn s) := by
  refine nextWf_live hs ?_
  grind [memoriesWf, memoriesWf_count, memoriesWf_beginConn]

theorem nextWf_execNvmeKeepAlive (conn : Nat) (s : State) (hs : s.memoriesWf) : NextWf (execNvmeKeepAlive conn s) := by
  refine nextWf_live hs ?_
  grind [memoriesWf, memoriesWf_emit, memoriesWf_setConn]

theorem nextWf_execNvmeC2hData (conn : Nat) (pdu : List Byte) (s : State) (hs : s.memoriesWf) : NextWf (execNvmeC2hData conn pdu s) := by
  refine nextWf_live hs ?_
  grind [memoriesWf, memoriesWf_c2hData]

theorem nextWf_execNvmeR2t (conn : Nat) (pdu : List Byte) (s : State) (hs : s.memoriesWf) : NextWf (execNvmeR2t conn pdu s) := by
  refine nextWf_live hs ?_
  grind [memoriesWf, memoriesWf_r2t]

theorem nextWf_execNvmeCapsuleResp (conn : Nat) (pdu : List Byte) (s : State) (hs : s.memoriesWf) :
    NextWf (execNvmeCapsuleResp conn pdu s) := by
  refine nextWf_live hs ?_
  grind [memoriesWf, memoriesWf_capsuleResp]

theorem nextWf_execDeroneTrainingDone (port partnerModule partnerPort : Nat) (s : State) (hs : s.memoriesWf) :
    NextWf (execDeroneTrainingDone port partnerModule partnerPort s) := by
  refine nextWf_live hs ?_
  grind [memoriesWf, memoriesWf_setObj, memoriesWf_judgeDerone, memoriesWf_raiseDevice]

theorem nextWf_execDeroneLinkDown (port : Nat) (s : State) (hs : s.memoriesWf) : NextWf (execDeroneLinkDown port s) := by
  refine nextWf_live hs ?_
  grind [memoriesWf, memoriesWf_deroneDown]

theorem nextWf_execDeroneDegraded (port : Nat) (s : State) (hs : s.memoriesWf) : NextWf (execDeroneDegraded port s) := by
  refine nextWf_live hs ?_
  grind [memoriesWf, memoriesWf_countSince, memoriesWf_raiseDevice]

theorem nextWf_execDeroneFlowControl (port vc : Nat) (stop : Bool) (s : State) (hs : s.memoriesWf) :
    NextWf (execDeroneFlowControl port vc stop s) := by
  refine nextWf_live hs ?_
  grind [memoriesWf, memoriesWf_setOff, memoriesWf_flowOn]

theorem nextWf_execDeroneForward (port : Nat) (packet : List Byte) (s : State) (hs : s.memoriesWf) :
    NextWf (execDeroneForward port packet s) := by
  refine nextWf_live hs ?_
  grind [memoriesWf, memoriesWf_arrive, memoriesWf_answerDerone, memoriesWf_count, memoriesWf_judgeInputs, memoriesWf_putPacket]

theorem nextWf_execDeroneRxWrite (port : Nat) (packet : List Byte) (s : State) (hs : s.memoriesWf) :
    NextWf (execDeroneRxWrite port packet s) := by
  refine nextWf_live hs (memoriesWf_atDestination _ _ _ _ _ hs fun p t ht => ?_)
  grind [memoriesWf, memoriesWf_atDestination, memoriesWf_rxWrite]

theorem nextWf_execDeroneRxReadReq (port : Nat) (packet : List Byte) (s : State) (hs : s.memoriesWf) :
    NextWf (execDeroneRxReadReq port packet s) := by
  refine nextWf_live hs (memoriesWf_atDestination _ _ _ _ _ hs fun p t ht => ?_)
  grind [memoriesWf, memoriesWf_atDestination, memoriesWf_rxReadReq]

theorem nextWf_execDeroneRxReadResp (port : Nat) (packet : List Byte) (s : State) (hs : s.memoriesWf) :
    NextWf (execDeroneRxReadResp port packet s) := by
  refine nextWf_live hs (memoriesWf_atDestination _ _ _ _ _ hs fun p t ht => ?_)
  grind [memoriesWf, memoriesWf_atDestination, memoriesWf_rxReadResp]

theorem nextWf_execDeroneRxAck (port : Nat) (packet : List Byte) (s : State) (hs : s.memoriesWf) : NextWf (execDeroneRxAck port packet s) := by
  refine nextWf_live hs (memoriesWf_atDestination _ _ _ _ _ hs fun p t ht => ?_)
  grind [memoriesWf, memoriesWf_atDestination, memoriesWf_settleHands, memoriesWf_rxAck]

theorem nextWf_execDeroneRxNak (port : Nat) (packet : List Byte) (s : State) (hs : s.memoriesWf) : NextWf (execDeroneRxNak port packet s) := by
  refine nextWf_live hs (memoriesWf_atDestination _ _ _ _ _ hs fun p t ht => ?_)
  grind [memoriesWf, memoriesWf_atDestination, memoriesWf_settleHands, memoriesWf_rxNak]

theorem nextWf_execDeroneStallDiscard (port vc : Nat) (s : State) (hs : s.memoriesWf) : NextWf (execDeroneStallDiscard port vc s) := by
  refine nextWf_live hs ?_
  grind [memoriesWf, memoriesWf_settleHands, memoriesWf_judgeInputs, memoriesWf_lose, memoriesWf_raiseSource, memoriesWf_count,
    memoriesWf_setOutQueue]

theorem nextWf_execDeroneAckTimeout (id : Nat) (s : State) (hs : s.memoriesWf) : NextWf (execDeroneAckTimeout id s) := by
  refine nextWf_live hs ?_
  grind [memoriesWf, memoriesWf_settleHands, memoriesWf_endXfer, memoriesWf_count]

theorem nextWf_execDeroneBusyResend (id : Nat) (s : State) (hs : s.memoriesWf) : NextWf (execDeroneBusyResend id s) := by
  refine nextWf_live hs ?_
  grind [memoriesWf, memoriesWf_settleHands, memoriesWf_endXfer, memoriesWf_sendXfer, memoriesWf_mapXfer, memoriesWf_count]

theorem nextWf_execDovetailIssue (id : Nat) (s : State) (hs : s.memoriesWf) : NextWf (execDovetailIssue id s) := by
  refine nextWf_live hs ?_
  grind [memoriesWf, memoriesWf_startOp]

theorem nextWf_execDeroneTransferStart (s : State) (hs : s.memoriesWf) : NextWf (execDeroneTransferStart s) := by
  refine nextWf_live hs ?_
  grind [memoriesWf, memoriesWf_launch, memoriesWf_settleHands, memoriesWf_originDone]

theorem nextWf_execRouteDrain (s : State) (hs : s.memoriesWf) : NextWf (execRouteDrain s) := by
  refine nextWf_liveLedger hs ?_
  grind [memoriesWf, memoriesWf_routeCommand, memoriesWf_getD]

theorem nextWf_execRouteSwap (s : State) (hs : s.memoriesWf) : NextWf (execRouteSwap s) := by
  refine nextWf_liveLedger hs ?_
  grind [memoriesWf, memoriesWf_routeCommand, memoriesWf_getD]

theorem nextWf_execRouteResume (s : State) (hs : s.memoriesWf) : NextWf (execRouteResume s) := by
  refine nextWf_liveLedger hs ?_
  grind [memoriesWf, memoriesWf_routeCommand, memoriesWf_getD]

theorem nextWf_execRouteAbort (s : State) (hs : s.memoriesWf) : NextWf (execRouteAbort s) := by
  refine nextWf_liveLedger hs ?_
  grind [memoriesWf, memoriesWf_routeCommand, memoriesWf_getD]

theorem nextWf_execDeroneLinkEnableWrite (port value : Nat) (s : State) (hs : s.memoriesWf) :
    NextWf (execDeroneLinkEnableWrite port value s) := by
  refine nextWf_liveLedger hs ?_
  grind [memoriesWf, memoriesWf_settleHands, memoriesWf_linkEnable]

theorem nextWf_execTableDeal (fid idx : Nat) (s : State) (hs : s.memoriesWf) : NextWf (execTableDeal fid idx s) := by
  refine nextWf_live hs (memoriesWf_runEntry _ _ _ _ _ hs fun e t ht => ?_)
  grind [memoriesWf, memoriesWf_runEntry, memoriesWf_runDeal]

theorem nextWf_execTableRedeal (fid idx : Nat) (s : State) (hs : s.memoriesWf) : NextWf (execTableRedeal fid idx s) := by
  refine nextWf_live hs (memoriesWf_runEntry _ _ _ _ _ hs fun e t ht => ?_)
  grind [memoriesWf, memoriesWf_runEntry, memoriesWf_runRedeal]

theorem nextWf_execTableClear (fid idx : Nat) (s : State) (hs : s.memoriesWf) : NextWf (execTableClear fid idx s) := by
  refine nextWf_live hs (memoriesWf_runEntry _ _ _ _ _ hs fun e t ht => ?_)
  grind [memoriesWf, memoriesWf_runEntry, memoriesWf_runClear]

theorem nextWf_execHandStart (fid idx : Nat) (s : State) (hs : s.memoriesWf) : NextWf (execHandStart fid idx s) := by
  refine nextWf_live hs (memoriesWf_runEntry _ _ _ _ _ hs fun e t ht => ?_)
  grind [memoriesWf, memoriesWf_runEntry, memoriesWf_runHand]

theorem nextWf_execHandQueuedStart (fid idx : Nat) (s : State) (hs : s.memoriesWf) : NextWf (execHandQueuedStart fid idx s) := by
  refine nextWf_live hs ?_
  grind [memoriesWf, memoriesWf_beginHand]

theorem nextWf_execHandData (table : Nat) (s : State) (hs : s.memoriesWf) : NextWf (execHandData table s) := by
  refine nextWf_live hs ?_
  grind [memoriesWf, memoriesWf_takeData]

theorem nextWf_execHandCredit (table : Nat) (s : State) (hs : s.memoriesWf) : NextWf (execHandCredit table s) := by
  refine nextWf_live hs ?_
  grind [memoriesWf, memoriesWf_takeCredit]

theorem nextWf_execHandAbort (table : Nat) (s : State) (hs : s.memoriesWf) : NextWf (execHandAbort table s) := by
  refine nextWf_live hs ?_
  grind [memoriesWf, memoriesWf_takeAbort]

theorem nextWf_execHandDone (table : Nat) (s : State) (hs : s.memoriesWf) : NextWf (execHandDone table s) := by
  refine nextWf_live hs ?_
  grind [memoriesWf, memoriesWf_takeDone]

theorem nextWf_execHandFin (table : Nat) (s : State) (hs : s.memoriesWf) : NextWf (execHandFin table s) := by
  refine nextWf_live hs ?_
  grind [memoriesWf, memoriesWf_takeFin]

theorem nextWf_execHandPartDone (table : Nat) (s : State) (hs : s.memoriesWf) : NextWf (execHandPartDone table s) := by
  refine nextWf_live hs ?_
  grind [memoriesWf, memoriesWf_pump, memoriesWf_joinHand, memoriesWf_settleHands, memoriesWf_sendDone]

theorem nextWf_execHandLeaderDeadline (table : Nat) (s : State) (hs : s.memoriesWf) : NextWf (execHandLeaderDeadline table s) := by
  refine nextWf_live hs (memoriesWf_atLimit _ _ _ _ hs fun c h => ?_)
  grind [memoriesWf, memoriesWf_atLimit, memoriesWf_leaderSends]

theorem nextWf_execHandRootDeadline (table : Nat) (s : State) (hs : s.memoriesWf) : NextWf (execHandRootDeadline table s) := by
  refine nextWf_live hs (memoriesWf_atLimit _ _ _ _ hs fun c h => ?_)
  grind [memoriesWf, memoriesWf_atLimit, memoriesWf_leaderSends]

theorem nextWf_execHandMemberDeadline (table : Nat) (s : State) (hs : s.memoriesWf) : NextWf (execHandMemberDeadline table s) := by
  refine nextWf_live hs (memoriesWf_atLimit _ _ _ _ hs fun c h => ?_)
  grind [memoriesWf, memoriesWf_atLimit, memoriesWf_endHand]

theorem nextWf_execRouteDrained (s : State) (hs : s.memoriesWf) : NextWf (execRouteDrained s) := by
  refine nextWf_live hs ?_
  grind [memoriesWf, memoriesWf_setObj]

theorem nextWf_execFlr (fid : Nat) (s : State) (hs : s.memoriesWf) : NextWf (execFlr fid s) := by
  refine nextWf_live hs ?_
  grind [memoriesWf, memoriesWf_flr]

theorem nextWf_execFlrWedgeTimeout (fid : Nat) (s : State) (hs : s.memoriesWf) : NextWf (execFlrWedgeTimeout fid s) := by
  refine nextWf_live hs ?_
  split
  · exact memoriesWf_ite (fun _ => memoriesWf_newCauses _ _ _ _ ((memoriesWf_setFn _ _ _).2 hs)) fun _ => hs
  · exact hs

theorem nextWf_execOrderingReadComplete (id : Nat) (success : Bool) (s : State) (hs : s.memoriesWf) :
    NextWf (execOrderingReadComplete id success s) := by
  refine nextWf_live hs ?_
  grind [memoriesWf, memoriesWf_orderingDone]

theorem nextWf_execCompletionTimeout (fid idx : Nat) (s : State) (hs : s.memoriesWf) : NextWf (execCompletionTimeout fid idx s) := by
  refine nextWf_live hs ?_
  grind [memoriesWf, memoriesWf_timeoutServed, memoriesWf_failedFetch, memoriesWf_orderingDone, memoriesWf_timeoutBusy,
    memoriesWf_settleHands, memoriesWf_runEntry, memoriesWf_timeoutEntry]

theorem nextWf_execVfEnable (numVfs : Nat) (s : State) (hs : s.memoriesWf) : NextWf (execVfEnable numVfs s) := by
  refine nextWf_live hs ?_
  grind [memoriesWf, memoriesWf_flr, memoriesWf_setFn, memoriesWf_foldl]

theorem nextWf_execDrawerStop (drawer : Nat) (s : State) (hs : s.memoriesWf) : NextWf (execDrawerStop drawer s) := by
  refine nextWf_liveLedger hs ?_
  grind [memoriesWf, memoriesWf_drawerStop, memoriesWf_getD]

theorem nextWf_execDrawerStoppedReached (drawer : Nat) (s : State) (hs : s.memoriesWf) : NextWf (execDrawerStoppedReached drawer s) := by
  refine nextWf_live hs ?_
  grind [memoriesWf, memoriesWf_setObj]

theorem nextWf_execDrawerStart (drawer : Nat) (s : State) (hs : s.memoriesWf) : NextWf (execDrawerStart drawer s) := by
  refine nextWf_liveLedger hs ?_
  grind [memoriesWf, memoriesWf_drawerStart, memoriesWf_getD]

theorem nextWf_execRecycle (drawer : Nat) (s : State) (hs : s.memoriesWf) : NextWf (execRecycle drawer s) := by
  refine nextWf_liveLedger hs ?_
  grind [memoriesWf, memoriesWf_recycle, memoriesWf_getD]

theorem nextWf_execChunkGo (s : State) (hs : s.memoriesWf) : NextWf (execChunkGo s) := by
  refine nextWf_liveLedger hs ?_
  grind [memoriesWf, memoriesWf_chunkResume, memoriesWf_chunkGo, memoriesWf_getD]

theorem nextWf_execBenchOwnerWrite (bytes : List Byte) (s : State) (hs : s.memoriesWf) : NextWf (execBenchOwnerWrite bytes s) := by
  refine nextWf_liveLedger hs ?_
  grind [memoriesWf, memoriesWf_benchOwners]

theorem nextWf_execMigSave (drawer : Nat) (s : State) (hs : s.memoriesWf) : NextWf (execMigSave drawer s) := by
  refine nextWf_liveLedger hs ?_
  grind [memoriesWf, memoriesWf_migCommand]

theorem nextWf_execMigRestore (drawer : Nat) (s : State) (hs : s.memoriesWf) : NextWf (execMigRestore drawer s) := by
  refine nextWf_liveLedger hs ?_
  grind [memoriesWf, memoriesWf_migCommand]

theorem nextWf_execMigCopyOut (drawer : Nat) (s : State) (hs : s.memoriesWf) : NextWf (execMigCopyOut drawer s) := by
  refine nextWf_liveLedger hs ?_
  grind [memoriesWf, memoriesWf_migCommand]

theorem nextWf_execMigCopyIn (drawer : Nat) (s : State) (hs : s.memoriesWf) : NextWf (execMigCopyIn drawer s) := by
  refine nextWf_liveLedger hs ?_
  grind [memoriesWf, memoriesWf_migCommand]

theorem nextWf_execMigLogStart (drawer : Nat) (s : State) (hs : s.memoriesWf) : NextWf (execMigLogStart drawer s) := by
  refine nextWf_liveLedger hs ?_
  grind [memoriesWf, memoriesWf_migCommand]

theorem nextWf_execMigLogSwap (drawer : Nat) (s : State) (hs : s.memoriesWf) : NextWf (execMigLogSwap drawer s) := by
  refine nextWf_liveLedger hs ?_
  grind [memoriesWf, memoriesWf_migCommand]

theorem nextWf_execMigLogStop (drawer : Nat) (s : State) (hs : s.memoriesWf) : NextWf (execMigLogStop drawer s) := by
  refine nextWf_liveLedger hs ?_
  grind [memoriesWf, memoriesWf_migCommand]

theorem nextWf_execScorecardEvent (source : Nat) (s : State) (hs : s.memoriesWf) : NextWf (execScorecardEvent source s) := by
  refine nextWf_live hs ?_
  grind [memoriesWf, memoriesWf_raiseSource, memoriesWf_pulseLine, memoriesWf_sampleLine]

theorem nextWf_execScorecardClear (mask : Nat) (s : State) (hs : s.memoriesWf) : NextWf (execScorecardClear mask s) := by
  refine nextWf_liveLedger hs ?_
  grind [memoriesWf, memoriesWf_scorecardClear]

theorem nextWf_execInjectStart (s : State) (hs : s.memoriesWf) : NextWf (execInjectStart s) := by
  refine nextWf_liveLedger hs ?_
  grind [memoriesWf, memoriesWf_injectStart, memoriesWf_getD]

theorem nextWf_execInjectStop (s : State) (hs : s.memoriesWf) : NextWf (execInjectStop s) := by
  refine nextWf_liveLedger hs ?_
  grind [memoriesWf, memoriesWf_injectStop]

theorem nextWf_execInjectEvent (s : State) (hs : s.memoriesWf) : NextWf (execInjectEvent s) := by
  refine nextWf_live hs ?_
  grind [memoriesWf, memoriesWf_injectRise]

theorem nextWf_execWatchdogExpiry (s : State) (hs : s.memoriesWf) : NextWf (execWatchdogExpiry s) := by
  refine nextWf_live hs ?_
  grind [memoriesWf, memoriesWf_watchdogTick]

theorem nextWf_execKekLoad (drawer : Nat) (blob : List Byte) (s : State) (hs : s.memoriesWf) : NextWf (execKekLoad drawer blob s) := by
  refine nextWf_liveLedger hs ?_
  grind [memoriesWf, memoriesWf_kekLoad]

theorem nextWf_execKeyWrite (drawer : Nat) (blob : List Byte) (s : State) (hs : s.memoriesWf) : NextWf (execKeyWrite drawer blob s) := by
  refine nextWf_liveLedger hs ?_
  grind [memoriesWf, memoriesWf_keyWrite, memoriesWf_getD]

theorem nextWf_execKeyClear (drawer slot : Nat) (s : State) (hs : s.memoriesWf) : NextWf (execKeyClear drawer slot s) := by
  refine nextWf_liveLedger hs ?_
  grind [memoriesWf, memoriesWf_keyClear, memoriesWf_getD]

theorem nextWf_execSvnCommit (value : Nat) (s : State) (hs : s.memoriesWf) : NextWf (execSvnCommit value s) := by
  refine nextWf_liveLedger hs ?_
  grind [memoriesWf, memoriesWf_svnCommit, memoriesWf_getD]

theorem nextWf_execTimeStep (value : Nat) (s : State) (hs : s.memoriesWf) : NextWf (execTimeStep value s) := by
  refine nextWf_liveLedger hs ?_
  grind [memoriesWf, memoriesWf_timeStep, memoriesWf_getD]

theorem nextWf_execPpsOutPulse (s : State) (hs : s.memoriesWf) : NextWf (execPpsOutPulse s) := by
  refine nextWf_live hs ?_
  grind [memoriesWf, memoriesWf_ppsOut]

theorem nextWf_execPpsInEdge (s : State) (hs : s.memoriesWf) : NextWf (execPpsInEdge s) := by
  refine nextWf_live hs ?_
  grind [memoriesWf, memoriesWf_ppsIn]

theorem nextWf_execTelemetryEnable (stream : Nat) (s : State) (hs : s.memoriesWf) : NextWf (execTelemetryEnable stream s) := by
  refine nextWf_live hs ?_
  grind [memoriesWf, memoriesWf_streamEnable, memoriesWf_putObj]

theorem nextWf_execTelemetryRecord (stream : Nat) (s : State) (hs : s.memoriesWf) : NextWf (execTelemetryRecord stream s) := by
  refine nextWf_live hs ?_
  grind [memoriesWf, memoriesWf_streamTake]

theorem nextWf_execClusterWatchdogExpiry (s : State) (hs : s.memoriesWf) : NextWf (execClusterWatchdogExpiry s) := by
  refine nextWf_live hs ?_
  grind [memoriesWf, memoriesWf_clusterFails]

theorem nextWf_execMbDoorbellWrite (value : Nat) (hostStores : List Host.Cell) (s : State) (hs : s.memoriesWf) :
    NextWf (execMbDoorbellWrite value hostStores s) := by
  have hstored : (s.setHost (s.mem.host.apply hostStores)).memoriesWf := memoriesWf_setHost _ _ hs (Ram.wf_apply _ hs.2.1)
  exact nextWf_live hs (memoriesWf_ite (fun _ => memoriesWf_doorbell _ _ hstored) fun _ => hstored)

theorem nextWf_execMbStatusRead (s : State) (hs : s.memoriesWf) : NextWf (execMbStatusRead s) := by
  refine nextWf_live hs ?_
  grind [memoriesWf, memoriesWf_readPage]

theorem nextWf_execRegisterWrite (fid offset size value : Nat) (s : State) (hs : s.memoriesWf) :
    NextWf (execRegisterWrite fid offset size value s) := by
  refine nextWf_live hs ?_
  grind [memoriesWf, memoriesWf_pageWrite, memoriesWf_doorbell]

theorem nextWf_execLedgerRead (session : Nat) (req : List Byte) (s : State) (hs : s.memoriesWf) : NextWf (execLedgerRead session req s) := by
  refine nextWf_live hs ?_
  grind [memoriesWf, memoriesWf_jorolRow]

theorem nextWf_execLedgerWrite (session : Nat) (req : List Byte) (s : State) (hs : s.memoriesWf) : NextWf (execLedgerWrite session req s) := by
  refine nextWf_live hs ?_
  grind [memoriesWf, memoriesWf_jorolRow]

theorem nextWf_execDomainRead (session : Nat) (req : List Byte) (s : State) (hs : s.memoriesWf) : NextWf (execDomainRead session req s) := by
  refine nextWf_live hs ?_
  grind [memoriesWf, memoriesWf_jorolRow]

theorem nextWf_execDomainBegin (session : Nat) (req : List Byte) (s : State) (hs : s.memoriesWf) : NextWf (execDomainBegin session req s) := by
  refine nextWf_live hs ?_
  grind [memoriesWf, memoriesWf_jorolRow]

theorem nextWf_execDomainSegment (session : Nat) (req : List Byte) (s : State) (hs : s.memoriesWf) :
    NextWf (execDomainSegment session req s) := by
  refine nextWf_live hs ?_
  grind [memoriesWf, memoriesWf_jorolRow]

theorem nextWf_execDomainEnd (session : Nat) (req : List Byte) (s : State) (hs : s.memoriesWf) : NextWf (execDomainEnd session req s) := by
  refine nextWf_live hs ?_
  grind [memoriesWf, memoriesWf_jorolRow]

theorem nextWf_execDomainAbort (session : Nat) (req : List Byte) (s : State) (hs : s.memoriesWf) : NextWf (execDomainAbort session req s) := by
  refine nextWf_live hs ?_
  grind [memoriesWf, memoriesWf_jorolRow]

theorem nextWf_execDomainTransferTimeout (session : Nat) (s : State) (hs : s.memoriesWf) : NextWf (execDomainTransferTimeout session s) := by
  refine nextWf_live hs ?_
  grind [memoriesWf, memoriesWf_domainExpire]

theorem nextWf_execHeartbeat (session : Nat) (req : List Byte) (s : State) (hs : s.memoriesWf) : NextWf (execHeartbeat session req s) := by
  refine nextWf_live hs ?_
  grind [memoriesWf, memoriesWf_jorolRow]

theorem nextWf_execSubscribe (session : Nat) (req : List Byte) (s : State) (hs : s.memoriesWf) : NextWf (execSubscribe session req s) := by
  refine nextWf_live hs ?_
  grind [memoriesWf, memoriesWf_jorolRow]

theorem nextWf_execNotifyAck (session : Nat) (req : List Byte) (s : State) (hs : s.memoriesWf) : NextWf (execNotifyAck session req s) := by
  refine nextWf_live hs ?_
  grind [memoriesWf, memoriesWf_jorolRow]

theorem nextWf_execClose (session : Nat) (req : List Byte) (s : State) (hs : s.memoriesWf) : NextWf (execClose session req s) := by
  refine nextWf_live hs ?_
  grind [memoriesWf, memoriesWf_jorolRow]

theorem nextWf_execHello (req : List Byte) (s : State) (hs : s.memoriesWf) : NextWf (execHello req s) := by
  refine nextWf_live hs ?_
  grind [memoriesWf, memoriesWf_hello, memoriesWf_jorolSend]

theorem nextWf_execAuth (req : List Byte) (s : State) (hs : s.memoriesWf) : NextWf (execAuth req s) := by
  refine nextWf_live hs ?_
  grind [memoriesWf, memoriesWf_auth, memoriesWf_jorolSend]

theorem nextWf_execHelloExpiry (session : Nat) (s : State) (hs : s.memoriesWf) : NextWf (execHelloExpiry session s) := by
  refine nextWf_live hs ?_
  grind [memoriesWf, memoriesWf_helloExpire]

theorem nextWf_execSessionIdleExpiry (session : Nat) (s : State) (hs : s.memoriesWf) : NextWf (execSessionIdleExpiry session s) := by
  refine nextWf_live hs ?_
  grind [memoriesWf, memoriesWf_idleExpire]

theorem nextWf_execNotifyResend (session : Nat) (s : State) (hs : s.memoriesWf) : NextWf (execNotifyResend session s) := by
  refine nextWf_live hs ?_
  grind [memoriesWf, memoriesWf_notifyAgain]

theorem nextWf_execResetCommand (session : Nat) (s : State) (hs : s.memoriesWf) : NextWf (execResetCommand session s) := by
  refine nextWf_live hs ?_
  grind [memoriesWf, memoriesWf_resetCause]

theorem nextWf_execSecretLoad (credential : Nat) (blob : List Byte) (s : State) (hs : s.memoriesWf) :
    NextWf (execSecretLoad credential blob s) := by
  refine nextWf_live hs ?_
  grind [memoriesWf, memoriesWf_secretLoad, memoriesWf_getD]

theorem nextWf_execPowerGood (s : State) (hs : s.memoriesWf) : NextWf (execPowerGood s) := by
  refine nextWf_next ?_
  grind [memoriesWf, memoriesWf_powerUp]

theorem nextWf_execMainRailsDown (s : State) (hs : s.memoriesWf) : NextWf (execMainRailsDown s) := by
  refine nextWf_next ?_
  grind [memoriesWf, memoriesWf_powerLost]

theorem nextWf_execMainRailExcursion (rail : Nat) (s : State) (hs : s.memoriesWf) : NextWf (execMainRailExcursion rail s) := by
  refine nextWf_next ?_
  grind [memoriesWf, memoriesWf_judgeSupply]

theorem nextWf_execMainRailReturn (rail : Nat) (s : State) (hs : s.memoriesWf) : NextWf (execMainRailReturn rail s) := by
  refine nextWf_next ?_
  grind [memoriesWf, memoriesWf_judgeSupply]

theorem nextWf_execVddAuxExcursion (inRange : Bool) (s : State) (hs : s.memoriesWf) : NextWf (execVddAuxExcursion inRange s) := by
  refine nextWf_next ?_
  grind [memoriesWf, memoriesWf_judgeSupply, memoriesWf_copyWake]

theorem nextWf_execWakeFrameReceive (frame : List Byte) (s : State) (hs : s.memoriesWf) : NextWf (execWakeFrameReceive frame s) := by
  refine nextWf_next ?_
  grind [memoriesWf, memoriesWf_wake]

theorem nextWf_execPerst0Assert (s : State) (hs : s.memoriesWf) : NextWf (execPerst0Assert s) := by
  refine nextWf_next ?_
  grind [memoriesWf, memoriesWf_perst0Down]

theorem nextWf_execPerst0Deassert (s : State) (hs : s.memoriesWf) : NextWf (execPerst0Deassert s) := by
  refine nextWf_next ?_
  grind [memoriesWf, memoriesWf_perst0Up]

theorem nextWf_execPerst1Assert (s : State) (hs : s.memoriesWf) : NextWf (execPerst1Assert s) := by
  refine nextWf_next ?_
  grind [memoriesWf, memoriesWf_p1Down]

theorem nextWf_execPerst1Deassert (s : State) (hs : s.memoriesWf) : NextWf (execPerst1Deassert s) := by
  refine nextWf_next ?_
  grind [memoriesWf]

theorem nextWf_execFullReset (s : State) (hs : s.memoriesWf) : NextWf (execFullReset s) := by
  refine nextWf_live hs ?_
  grind [memoriesWf, memoriesWf_fullReset]

theorem nextWf_execP0DlDown (s : State) (hs : s.memoriesWf) : NextWf (execP0DlDown s) := by
  refine nextWf_live hs ?_
  grind [memoriesWf]

theorem nextWf_execP0DlUp (speed width : Nat) (flit : Bool) (s : State) (hs : s.memoriesWf) : NextWf (execP0DlUp speed width flit s) := by
  refine nextWf_live hs ?_
  grind [memoriesWf, memoriesWf_p0Up, memoriesWf_resetCause]

theorem nextWf_execP0LinkLossTimeout (s : State) (hs : s.memoriesWf) : NextWf (execP0LinkLossTimeout s) := by
  refine nextWf_live hs ?_
  grind [memoriesWf, memoriesWf_resetCause]

theorem nextWf_execP1LinkDown (s : State) (hs : s.memoriesWf) : NextWf (execP1LinkDown s) := by
  refine nextWf_live hs ?_
  grind [memoriesWf, memoriesWf_p1Down]

theorem nextWf_execP1DlUp (speed width : Nat) (flit : Bool) (s : State) (hs : s.memoriesWf) : NextWf (execP1DlUp speed width flit s) := by
  refine nextWf_live hs ?_
  grind [memoriesWf, memoriesWf_freeNat, memoriesWf_portEvent]

theorem nextWf_execBootRomRun (s : State) (hs : s.memoriesWf) : NextWf (execBootRomRun s) := by
  refine nextWf_live hs ?_
  grind [memoriesWf, memoriesWf_bootRom]

theorem nextWf_execStackBringup (stack : Nat) (s : State) (hs : s.memoriesWf) : NextWf (execStackBringup stack s) := by
  refine nextWf_live hs ?_
  grind [memoriesWf, memoriesWf_bringUp]

theorem nextWf_execStage1Entry (s : State) (hs : s.memoriesWf) : NextWf (execStage1Entry s) := by
  refine nextWf_live hs ?_
  grind [memoriesWf, memoriesWf_stage1]

theorem nextWf_execLaneCalibration (s : State) (hs : s.memoriesWf) : NextWf (execLaneCalibration s) := by
  refine nextWf_live hs ?_
  grind [memoriesWf]

theorem nextWf_execStackTrim (stack : Nat) (passed : Bool) (s : State) (hs : s.memoriesWf) : NextWf (execStackTrim stack passed s) := by
  refine nextWf_live hs ?_
  grind [memoriesWf, memoriesWf_trim]

theorem nextWf_execClockStep (stack : Nat) (s : State) (hs : s.memoriesWf) : NextWf (execClockStep stack s) := by
  refine nextWf_live hs ?_
  grind [memoriesWf, memoriesWf_clockStep]

theorem nextWf_execStage2Entry (s : State) (hs : s.memoriesWf) : NextWf (execStage2Entry s) := by
  refine nextWf_live hs ?_
  grind [memoriesWf, memoriesWf_stage2]

theorem nextWf_execRootLockLoss (s : State) (hs : s.memoriesWf) : NextWf (execRootLockLoss s) := by
  refine nextWf_next ?_
  grind [memoriesWf, memoriesWf_rootLost]

theorem nextWf_execRootLockRestore (s : State) (hs : s.memoriesWf) : NextWf (execRootLockRestore s) := by
  refine nextWf_next ?_
  grind [memoriesWf, memoriesWf_rootBack]

theorem nextWf_execGovernorSample (readings : List Nat) (s : State) (hs : s.memoriesWf) : NextWf (execGovernorSample readings s) := by
  refine nextWf_live hs ?_
  grind [memoriesWf, memoriesWf_governorSample]

theorem nextWf_execThermalReading (temps : List Nat) (s : State) (hs : s.memoriesWf) : NextWf (execThermalReading temps s) := by
  refine nextWf_live hs ?_
  grind [memoriesWf, memoriesWf_thermalReading]

theorem nextWf_execStackInterfaceLoss (stack : Nat) (s : State) (hs : s.memoriesWf) : NextWf (execStackInterfaceLoss stack s) := by
  refine nextWf_live hs ?_
  grind [memoriesWf, memoriesWf_interfaceLost]

theorem nextWf_execStackInterfaceRetrained (stack : Nat) (s : State) (hs : s.memoriesWf) : NextWf (execStackInterfaceRetrained stack s) := by
  refine nextWf_live hs ?_
  grind [memoriesWf, memoriesWf_interfaceBack]

theorem nextWf_execBenchNop (bench : Nat) (s : State) (hs : s.memoriesWf) : NextWf (execBenchNop bench s) := by
  refine nextWf_live hs (memoriesWf_runInstr _ _ _ _ hs fun d j w t ht => ?_)
  grind [memoriesWf, memoriesWf_runInstr, memoriesWf_step1]

theorem nextWf_execBenchEnd (bench : Nat) (s : State) (hs : s.memoriesWf) : NextWf (execBenchEnd bench s) := by
  refine nextWf_live hs (memoriesWf_runInstr _ _ _ _ hs fun d j w t ht => ?_)
  grind [memoriesWf, memoriesWf_runInstr, memoriesWf_park, memoriesWf_setBench]

theorem nextWf_execBenchLoop (bench : Nat) (s : State) (hs : s.memoriesWf) : NextWf (execBenchLoop bench s) := by
  refine nextWf_live hs (memoriesWf_runInstr _ _ _ _ hs fun d j w t ht => ?_)
  grind [memoriesWf, memoriesWf_runInstr, memoriesWf_benchParity, memoriesWf_setBench]

theorem nextWf_execBenchBranch (bench : Nat) (s : State) (hs : s.memoriesWf) : NextWf (execBenchBranch bench s) := by
  refine nextWf_live hs (memoriesWf_runInstr _ _ _ _ hs fun d j w t ht => ?_)
  grind [memoriesWf, memoriesWf_runInstr, memoriesWf_benchParity, memoriesWf_observePeg, memoriesWf_setBench, memoriesWf_step1]

theorem nextWf_execPegAdd (bench : Nat) (s : State) (hs : s.memoriesWf) : NextWf (execPegAdd bench s) := by
  refine nextWf_live hs (memoriesWf_runInstr _ _ _ _ hs fun d j w t ht => ?_)
  grind [memoriesWf, memoriesWf_runInstr, memoriesWf_addBenchPeg, memoriesWf_step1]

theorem nextWf_execPegWait (bench : Nat) (s : State) (hs : s.memoriesWf) : NextWf (execPegWait bench s) := by
  refine nextWf_live hs (memoriesWf_runInstr _ _ _ _ hs fun d j w t ht => ?_)
  grind [memoriesWf, memoriesWf_runInstr, memoriesWf_step1, memoriesWf_observePeg, memoriesWf_enter, memoriesWf_setBench]

theorem nextWf_execPegSignal (bench : Nat) (s : State) (hs : s.memoriesWf) : NextWf (execPegSignal bench s) := by
  refine nextWf_live hs (memoriesWf_runInstr _ _ _ _ hs fun d j w t ht => ?_)
  grind [memoriesWf, memoriesWf_runInstr, memoriesWf_addBenchPeg, memoriesWf_step1, memoriesWf_benchFault, memoriesWf_addHubPeg]

theorem nextWf_execBenchParityError (bench : Nat) (s : State) (hs : s.memoriesWf) : NextWf (execBenchParityError bench s) := by
  refine nextWf_live hs ?_
  grind [memoriesWf, memoriesWf_benchParity]

theorem nextWf_execSpinTimeout (bench : Nat) (s : State) (hs : s.memoriesWf) : NextWf (execSpinTimeout bench s) := by
  refine nextWf_live hs ?_
  grind [memoriesWf, memoriesWf_enter]

theorem nextWf_execWakeGrant (stack : Nat) (s : State) (hs : s.memoriesWf) : NextWf (execWakeGrant stack s) := by
  refine nextWf_live hs ?_
  grind [memoriesWf, memoriesWf_grantWake]

theorem nextWf_execBenchWake (bench : Nat) (s : State) (hs : s.memoriesWf) : NextWf (execBenchWake bench s) := by
  refine nextWf_live hs ?_
  grind [memoriesWf, memoriesWf_setBench, memoriesWf_enter, memoriesWf_step1, memoriesWf_observePeg]

theorem nextWf_execRefresh (bench bank : Nat) (s : State) (hs : s.memoriesWf) : NextWf (execRefresh bench bank s) := by
  refine nextWf_live hs ?_
  grind [memoriesWf, memoriesWf_setStack]

theorem nextWf_execMatvec (bench : Nat) (s : State) (hs : s.memoriesWf) : NextWf (execMatvec bench s) := by
  refine nextWf_live hs (memoriesWf_runKernelInstr _ _ _ _ hs fun d j w o t ht => ?_)
  grind [memoriesWf, memoriesWf_runKernelInstr, memoriesWf_runKernel, memoriesWf_benchFault]

theorem nextWf_execAttend (bench : Nat) (s : State) (hs : s.memoriesWf) : NextWf (execAttend bench s) := by
  refine nextWf_live hs (memoriesWf_runKernelInstr _ _ _ _ hs fun d j w o t ht => ?_)
  grind [memoriesWf, memoriesWf_runKernelInstr, memoriesWf_benchFault, memoriesWf_benchParity, memoriesWf_runKernel]

theorem nextWf_execGather (bench : Nat) (s : State) (hs : s.memoriesWf) : NextWf (execGather bench s) := by
  refine nextWf_live hs (memoriesWf_runKernelInstr _ _ _ _ hs fun d j w o t ht => ?_)
  grind [memoriesWf, memoriesWf_runKernelInstr, memoriesWf_benchFault, memoriesWf_runKernel]

theorem nextWf_execNorm (bench : Nat) (s : State) (hs : s.memoriesWf) : NextWf (execNorm bench s) := by
  refine nextWf_live hs (memoriesWf_plainKernel _ _ _ _ _ hs)

theorem nextWf_execAct (bench : Nat) (s : State) (hs : s.memoriesWf) : NextWf (execAct bench s) := by
  refine nextWf_live hs (memoriesWf_plainKernel _ _ _ _ _ hs)

theorem nextWf_execQuant (bench : Nat) (s : State) (hs : s.memoriesWf) : NextWf (execQuant bench s) := by
  refine nextWf_live hs (memoriesWf_plainKernel _ _ _ _ _ hs)

theorem nextWf_execDequant (bench : Nat) (s : State) (hs : s.memoriesWf) : NextWf (execDequant bench s) := by
  refine nextWf_live hs (memoriesWf_plainKernel _ _ _ _ _ hs)

theorem nextWf_execTopk (bench : Nat) (s : State) (hs : s.memoriesWf) : NextWf (execTopk bench s) := by
  refine nextWf_live hs (memoriesWf_runKernelInstr _ _ _ _ hs fun d j w o t ht => ?_)
  grind [memoriesWf, memoriesWf_runKernelInstr, memoriesWf_runKernel, memoriesWf_benchFault]

theorem nextWf_execSample (bench : Nat) (s : State) (hs : s.memoriesWf) : NextWf (execSample bench s) := by
  refine nextWf_live hs (memoriesWf_runKernelInstr _ _ _ _ hs fun d j w o t ht => ?_)
  grind [memoriesWf, memoriesWf_runKernelInstr, memoriesWf_benchFault, memoriesWf_benchParity, memoriesWf_runKernel]

theorem nextWf_execReduce (bench : Nat) (s : State) (hs : s.memoriesWf) : NextWf (execReduce bench s) := by
  refine nextWf_live hs (memoriesWf_runKernelInstr _ _ _ _ hs fun d j w o t ht => ?_)
  grind [memoriesWf, memoriesWf_runKernelInstr, memoriesWf_benchFault, memoriesWf_runKernel]

theorem nextWf_execMove (bench : Nat) (s : State) (hs : s.memoriesWf) : NextWf (execMove bench s) := by
  refine nextWf_live hs (memoriesWf_runKernelInstr _ _ _ _ hs fun d j w o t ht => ?_)
  split
  · refine memoriesWf_ite (fun _ => memoriesWf_benchFault _ _ _ ht) fun _ => memoriesWf_ite (fun _ => hs) fun _ => memoriesWf_ite (fun _ => hs) fun _ => ?_
    split
    · exact memoriesWf_benchParity _ _ _ ht
    · grind [memoriesWf_countMove, memoriesWf_moveRemote, memoriesWf_step1, memoriesWf_wr, memoriesWf_addBenchPeg, memoriesWf_addHubPeg]
  · exact memoriesWf_benchFault _ _ _ ht

theorem nextWf_execTapReset (s : State) (hs : s.memoriesWf) : NextWf (execTapReset s) := by
  refine nextWf_next ?_
  grind [memoriesWf]

theorem nextWf_execExtest (s : State) (hs : s.memoriesWf) : NextWf (execExtest s) := by
  refine nextWf_next ?_
  grind [memoriesWf, memoriesWf_tapTake]

theorem nextWf_execIdcode (s : State) (hs : s.memoriesWf) : NextWf (execIdcode s) := by
  refine nextWf_next ?_
  grind [memoriesWf, memoriesWf_tapTake]

theorem nextWf_execSamplePreload (cells : Nat) (s : State) (hs : s.memoriesWf) : NextWf (execSamplePreload cells s) := by
  refine nextWf_next ?_
  grind [memoriesWf, memoriesWf_tapTake]

theorem nextWf_execClamp (s : State) (hs : s.memoriesWf) : NextWf (execClamp s) := by
  refine nextWf_next ?_
  grind [memoriesWf, memoriesWf_tapTake]

theorem nextWf_execHighz (s : State) (hs : s.memoriesWf) : NextWf (execHighz s) := by
  refine nextWf_next ?_
  grind [memoriesWf, memoriesWf_tapTake]

theorem nextWf_execBypass (s : State) (hs : s.memoriesWf) : NextWf (execBypass s) := by
  refine nextWf_next ?_
  grind [memoriesWf, memoriesWf_tapTake]

theorem nextWf_execFlashWrite (object : Nat) (success : Bool) (s : State) (hs : s.memoriesWf) : NextWf (execFlashWrite object success s) := by
  refine nextWf_live hs ?_
  grind [memoriesWf, memoriesWf_flashWrite]

theorem nextWf_execSend (bench : Nat) (s : State) (hs : s.memoriesWf) : NextWf (execSend bench s) := by
  refine nextWf_live hs (memoriesWf_runKernelInstr _ _ _ _ hs fun d j w o t ht => ?_)
  grind [memoriesWf, memoriesWf_runKernelInstr, memoriesWf_benchFault, memoriesWf_benchParity, memoriesWf_sendToRegion, memoriesWf_sendOnQp]

/-- Each row of the dispatcher runs its command. -/
theorem nextWf_exec (i : Instr) {s : State} (hs : s.memoriesWf) : NextWf (exec i s) :=
  match i with
  | .nop fid idx => nextWf_execNop fid idx s hs
  | .fence fid idx => nextWf_execFence fid idx s hs
  | .copy fid idx => nextWf_execCopy fid idx s hs
  | .hrtSend fid idx => nextWf_execHrtSend fid idx s hs
  | .hrtWrite fid idx => nextWf_execHrtWrite fid idx s hs
  | .hrtRead fid idx => nextWf_execHrtRead fid idx s hs
  | .hrtAdd fid idx => nextWf_execHrtAdd fid idx s hs
  | .hrtCas fid idx => nextWf_execHrtCas fid idx s hs
  | .hrtFlush fid idx => nextWf_execHrtFlush fid idx s hs
  | .qpModify fid idx => nextWf_execQpModify fid idx s hs
  | .resume fid idx => nextWf_execResume fid idx s hs
  | .regRegion fid idx => nextWf_execRegRegion fid idx s hs
  | .deregRegion fid idx => nextWf_execDeregRegion fid idx s hs
  | .prefetch fid idx => nextWf_execPrefetch fid idx s hs
  | .advisePrewalk fid idx => nextWf_execAdvisePrewalk fid idx s hs
  | .advisePin fid idx => nextWf_execAdvisePin fid idx s hs
  | .adviseUnpin fid idx => nextWf_execAdviseUnpin fid idx s hs
  | .adviseHold fid idx => nextWf_execAdviseHold fid idx s hs
  | .adviseRelease fid idx => nextWf_execAdviseRelease fid idx s hs
  | .adviseEvict fid idx => nextWf_execAdviseEvict fid idx s hs
  | .invalidate fid idx => nextWf_execInvalidate fid idx s hs
  | .loadJob fid idx => nextWf_execLoadJob fid idx s hs
  | .runJob fid idx => nextWf_execRunJob fid idx s hs
  | .jobDispatch fid idx => nextWf_execJobDispatch fid idx s hs
  | .jobComplete drawer => nextWf_execJobComplete drawer s hs
  | .jobDeadlineExpiry drawer => nextWf_execJobDeadlineExpiry drawer s hs
  | .tableDeal fid idx => nextWf_execTableDeal fid idx s hs
  | .tableRedeal fid idx => nextWf_execTableRedeal fid idx s hs
  | .tableClear fid idx => nextWf_execTableClear fid idx s hs
  | .handStart fid idx => nextWf_execHandStart fid idx s hs
  | .handQueuedStart fid idx => nextWf_execHandQueuedStart fid idx s hs
  | .pegSetWrite fid idx => nextWf_execPegSetWrite fid idx s hs
  | .pegSetAdd fid idx => nextWf_execPegSetAdd fid idx s hs
  | .pegSetWait fid idx => nextWf_execPegSetWait fid idx s hs
  | .pegSetBind fid idx => nextWf_execPegSetBind fid idx s hs
  | .pegSetUnbind fid idx => nextWf_execPegSetUnbind fid idx s hs
  | .nvmeRead fid idx => nextWf_execNvmeRead fid idx s hs
  | .nvmeWrite fid idx => nextWf_execNvmeWrite fid idx s hs
  | .nvmeFlush fid idx => nextWf_execNvmeFlush fid idx s hs
  | .entryFetch fid => nextWf_execEntryFetch fid s hs
  | .speculativeFetch fid idx => nextWf_execSpeculativeFetch fid idx s hs
  | .wrProdWrite fid value hostStores peerStores => nextWf_execWrProdWrite fid value hostStores peerStores s hs
  | .crConsWrite fid value => nextWf_execCrConsWrite fid value s hs
  | .crArmWrite fid value => nextWf_execCrArmWrite fid value s hs
  | .ringEnable fid => nextWf_execRingEnable fid s hs
  | .ringDisable fid => nextWf_execRingDisable fid s hs
  | .ringStatusRead fid => nextWf_execRingStatusRead fid s hs
  | .registerWrite fid offset size value => nextWf_execRegisterWrite fid offset size value s hs
  | .crMirrorWrite fid => nextWf_execCrMirrorWrite fid s hs
  | .msixMessage fid => nextWf_execMsixMessage fid s hs
  | .completionBackpressure fid => nextWf_execCompletionBackpressure fid s hs
  | .mbDoorbellWrite value hostStores => nextWf_execMbDoorbellWrite value hostStores s hs
  | .mbStatusRead => nextWf_execMbStatusRead s hs
  | .flr fid => nextWf_execFlr fid s hs
  | .flrWedgeTimeout fid => nextWf_execFlrWedgeTimeout fid s hs
  | .benchNop bench => nextWf_execBenchNop bench s hs
  | .benchEnd bench => nextWf_execBenchEnd bench s hs
  | .benchLoop bench => nextWf_execBenchLoop bench s hs
  | .benchBranch bench => nextWf_execBenchBranch bench s hs
  | .pegAdd bench => nextWf_execPegAdd bench s hs
  | .pegWait bench => nextWf_execPegWait bench s hs
  | .pegSignal bench => nextWf_execPegSignal bench s hs
  | .matvec bench => nextWf_execMatvec bench s hs
  | .attend bench => nextWf_execAttend bench s hs
  | .gather bench => nextWf_execGather bench s hs
  | .norm bench => nextWf_execNorm bench s hs
  | .act bench => nextWf_execAct bench s hs
  | .quant bench => nextWf_execQuant bench s hs
  | .dequant bench => nextWf_execDequant bench s hs
  | .topk bench => nextWf_execTopk bench s hs
  | .sample bench => nextWf_execSample bench s hs
  | .reduce bench => nextWf_execReduce bench s hs
  | .move bench => nextWf_execMove bench s hs
  | .send bench => nextWf_execSend bench s hs
  | .benchParityError bench => nextWf_execBenchParityError bench s hs
  | .spinTimeout bench => nextWf_execSpinTimeout bench s hs
  | .wakeGrant stack => nextWf_execWakeGrant stack s hs
  | .benchWake bench => nextWf_execBenchWake bench s hs
  | .refresh bench bank => nextWf_execRefresh bench bank s hs
  | .scrubAccess corrected => nextWf_execScrubAccess corrected s hs
  | .thermalReading temps => nextWf_execThermalReading temps s hs
  | .governorSample readings => nextWf_execGovernorSample readings s hs
  | .stackBringup stack => nextWf_execStackBringup stack s hs
  | .stackTrim stack passed => nextWf_execStackTrim stack passed s hs
  | .clockStep stack => nextWf_execClockStep stack s hs
  | .stage1Entry => nextWf_execStage1Entry s hs
  | .stage2Entry => nextWf_execStage2Entry s hs
  | .laneCalibration => nextWf_execLaneCalibration s hs
  | .powerGood => nextWf_execPowerGood s hs
  | .bootRomRun => nextWf_execBootRomRun s hs
  | .mainRailsDown => nextWf_execMainRailsDown s hs
  | .mainRailExcursion rail => nextWf_execMainRailExcursion rail s hs
  | .vddAuxExcursion inRange => nextWf_execVddAuxExcursion inRange s hs
  | .wakeFrameReceive frame => nextWf_execWakeFrameReceive frame s hs
  | .perst0Assert => nextWf_execPerst0Assert s hs
  | .perst0Deassert => nextWf_execPerst0Deassert s hs
  | .perst1Assert => nextWf_execPerst1Assert s hs
  | .perst1Deassert => nextWf_execPerst1Deassert s hs
  | .fullReset => nextWf_execFullReset s hs
  | .p0DlDown => nextWf_execP0DlDown s hs
  | .p0DlUp speed width flit => nextWf_execP0DlUp speed width flit s hs
  | .p0LinkLossTimeout => nextWf_execP0LinkLossTimeout s hs
  | .p1LinkDown => nextWf_execP1LinkDown s hs
  | .rootLockLoss => nextWf_execRootLockLoss s hs
  | .rootLockRestore => nextWf_execRootLockRestore s hs
  | .orderingReadComplete id success => nextWf_execOrderingReadComplete id success s hs
  | .deroneTrainingDone port partnerModule partnerPort => nextWf_execDeroneTrainingDone port partnerModule partnerPort s hs
  | .deroneLinkDown port => nextWf_execDeroneLinkDown port s hs
  | .deroneDegraded port => nextWf_execDeroneDegraded port s hs
  | .deroneFlowControl port vc stop => nextWf_execDeroneFlowControl port vc stop s hs
  | .deroneForward port packet => nextWf_execDeroneForward port packet s hs
  | .deroneRxWrite port packet => nextWf_execDeroneRxWrite port packet s hs
  | .deroneRxReadReq port packet => nextWf_execDeroneRxReadReq port packet s hs
  | .deroneRxReadResp port packet => nextWf_execDeroneRxReadResp port packet s hs
  | .deroneRxAck port packet => nextWf_execDeroneRxAck port packet s hs
  | .deroneRxNak port packet => nextWf_execDeroneRxNak port packet s hs
  | .deroneStallDiscard port vc => nextWf_execDeroneStallDiscard port vc s hs
  | .deroneAckTimeout id => nextWf_execDeroneAckTimeout id s hs
  | .deroneBusyResend id => nextWf_execDeroneBusyResend id s hs
  | .dovetailIssue id => nextWf_execDovetailIssue id s hs
  | .deroneTransferStart => nextWf_execDeroneTransferStart s hs
  | .routeDrain => nextWf_execRouteDrain s hs
  | .routeDrained => nextWf_execRouteDrained s hs
  | .routeSwap => nextWf_execRouteSwap s hs
  | .routeResume => nextWf_execRouteResume s hs
  | .routeAbort => nextWf_execRouteAbort s hs
  | .deroneLinkEnableWrite port value => nextWf_execDeroneLinkEnableWrite port value s hs
  | .handData table => nextWf_execHandData table s hs
  | .handCredit table => nextWf_execHandCredit table s hs
  | .handAbort table => nextWf_execHandAbort table s hs
  | .handDone table => nextWf_execHandDone table s hs
  | .handFin table => nextWf_execHandFin table s hs
  | .handPartDone table => nextWf_execHandPartDone table s hs
  | .handLeaderDeadline table => nextWf_execHandLeaderDeadline table s hs
  | .handRootDeadline table => nextWf_execHandRootDeadline table s hs
  | .handMemberDeadline table => nextWf_execHandMemberDeadline table s hs
  | .hrtPacketTransmit qp => nextWf_execHrtPacketTransmit qp s hs
  | .hrtRxSend => nextWf_execHrtRxSend s hs
  | .hrtRxWrite => nextWf_execHrtRxWrite s hs
  | .hrtRxReadReq => nextWf_execHrtRxReadReq s hs
  | .hrtRxAdd => nextWf_execHrtRxAdd s hs
  | .hrtRxCas => nextWf_execHrtRxCas s hs
  | .hrtRxFlush => nextWf_execHrtRxFlush s hs
  | .hrtRxColl => nextWf_execHrtRxColl s hs
  | .hrtRxReadResp => nextWf_execHrtRxReadResp s hs
  | .hrtRxAtomicResp => nextWf_execHrtRxAtomicResp s hs
  | .hrtRxAck => nextWf_execHrtRxAck s hs
  | .hrtRxAckStale => nextWf_execHrtRxAckStale s hs
  | .hrtRxNakPage => nextWf_execHrtRxNakPage s hs
  | .hrtRxFatalNak => nextWf_execHrtRxFatalNak s hs
  | .heldRequestExecute qp => nextWf_execHeldRequestExecute qp s hs
  | .flushConditionMet qp => nextWf_execFlushConditionMet qp s hs
  | .ackDelayExpiry qp => nextWf_execAckDelayExpiry qp s hs
  | .retransmitTimeout qp => nextWf_execRetransmitTimeout qp s hs
  | .pageWaitEnd qp => nextWf_execPageWaitEnd qp s hs
  | .pageWaitTimeout qp => nextWf_execPageWaitTimeout qp s hs
  | .climbTimer qp => nextWf_execClimbTimer qp s hs
  | .contextFetch qp => nextWf_execContextFetch qp s hs
  | .frameReceive port lane frame code => nextWf_execFrameReceive port lane frame code s hs
  | .pfcReceive port lane frame => nextWf_execPfcReceive port lane frame s hs
  | .pfcPauseExpiry port lane cls => nextWf_execPfcPauseExpiry port lane cls s hs
  | .pfcRepeat port lane cls => nextWf_execPfcRepeat port lane cls s hs
  | .frameTransmit port lane => nextWf_execFrameTransmit port lane s hs
  | .subportUp port lane => nextWf_execSubportUp port lane s hs
  | .subportDown port lane => nextWf_execSubportDown port lane s hs
  | .subportDegraded port lane => nextWf_execSubportDegraded port lane s hs
  | .ethLinkEnableWrite port value => nextWf_execEthLinkEnableWrite port value s hs
  | .gateEntryChange port lane => nextWf_execGateEntryChange port lane s hs
  | .configChange port lane => nextWf_execConfigChange port lane s hs
  | .gateConfigApply port lane => nextWf_execGateConfigApply port lane s hs
  | .nvmeConnect conn => nextWf_execNvmeConnect conn s hs
  | .nvmeDisconnect conn => nextWf_execNvmeDisconnect conn s hs
  | .nvmeConnectDone conn => nextWf_execNvmeConnectDone conn s hs
  | .nvmeConnectTimeout conn digestsRefused => nextWf_execNvmeConnectTimeout conn digestsRefused s hs
  | .nvmeConnectionLoss conn => nextWf_execNvmeConnectionLoss conn s hs
  | .nvmeIoTimeout conn => nextWf_execNvmeIoTimeout conn s hs
  | .nvmeReconnectDelay conn => nextWf_execNvmeReconnectDelay conn s hs
  | .nvmeKeepAlive conn => nextWf_execNvmeKeepAlive conn s hs
  | .nvmeC2hData conn pdu => nextWf_execNvmeC2hData conn pdu s hs
  | .nvmeR2t conn pdu => nextWf_execNvmeR2t conn pdu s hs
  | .nvmeCapsuleResp conn pdu => nextWf_execNvmeCapsuleResp conn pdu s hs
  | .rawQueueEnable queue => nextWf_execRawQueueEnable queue s hs
  | .rawQueueDisable queue => nextWf_execRawQueueDisable queue s hs
  | .rawTxDescriptor queue => nextWf_execRawTxDescriptor queue s hs
  | .rawRxFrame queue => nextWf_execRawRxFrame queue s hs
  | .telemetryEnable stream => nextWf_execTelemetryEnable stream s hs
  | .telemetryRecord stream => nextWf_execTelemetryRecord stream s hs
  | .clusterWatchdogExpiry => nextWf_execClusterWatchdogExpiry s hs
  | .timeStep value => nextWf_execTimeStep value s hs
  | .ppsOutPulse => nextWf_execPpsOutPulse s hs
  | .ppsInEdge => nextWf_execPpsInEdge s hs
  | .kekLoad drawer blob => nextWf_execKekLoad drawer blob s hs
  | .keyWrite drawer blob => nextWf_execKeyWrite drawer blob s hs
  | .keyClear drawer slot => nextWf_execKeyClear drawer slot s hs
  | .svnCommit value => nextWf_execSvnCommit value s hs
  | .ledgerRead session request => nextWf_execLedgerRead session request s hs
  | .ledgerWrite session request => nextWf_execLedgerWrite session request s hs
  | .domainRead session request => nextWf_execDomainRead session request s hs
  | .domainBegin session request => nextWf_execDomainBegin session request s hs
  | .domainSegment session request => nextWf_execDomainSegment session request s hs
  | .domainEnd session request => nextWf_execDomainEnd session request s hs
  | .domainAbort session request => nextWf_execDomainAbort session request s hs
  | .domainTransferTimeout session => nextWf_execDomainTransferTimeout session s hs
  | .hello request => nextWf_execHello request s hs
  | .auth request => nextWf_execAuth request s hs
  | .close session request => nextWf_execClose session request s hs
  | .helloExpiry session => nextWf_execHelloExpiry session s hs
  | .sessionIdleExpiry session => nextWf_execSessionIdleExpiry session s hs
  | .heartbeat session request => nextWf_execHeartbeat session request s hs
  | .subscribe session request => nextWf_execSubscribe session request s hs
  | .notifyAck session request => nextWf_execNotifyAck session request s hs
  | .notifyResend session => nextWf_execNotifyResend session s hs
  | .watchdogExpiry => nextWf_execWatchdogExpiry s hs
  | .resetCommand session => nextWf_execResetCommand session s hs
  | .scorecardClear mask => nextWf_execScorecardClear mask s hs
  | .scorecardEvent source => nextWf_execScorecardEvent source s hs
  | .injectStart => nextWf_execInjectStart s hs
  | .injectStop => nextWf_execInjectStop s hs
  | .injectEvent => nextWf_execInjectEvent s hs
  | .drawerStop drawer => nextWf_execDrawerStop drawer s hs
  | .drawerStoppedReached drawer => nextWf_execDrawerStoppedReached drawer s hs
  | .drawerStart drawer => nextWf_execDrawerStart drawer s hs
  | .recycle drawer => nextWf_execRecycle drawer s hs
  | .chunkGo => nextWf_execChunkGo s hs
  | .benchOwnerWrite bytes => nextWf_execBenchOwnerWrite bytes s hs
  | .hubPegBlockWrite block value => nextWf_execHubPegBlockWrite block value s hs
  | .migSave drawer => nextWf_execMigSave drawer s hs
  | .migRestore drawer => nextWf_execMigRestore drawer s hs
  | .migCopyOut drawer => nextWf_execMigCopyOut drawer s hs
  | .migCopyIn drawer => nextWf_execMigCopyIn drawer s hs
  | .migLogStart drawer => nextWf_execMigLogStart drawer s hs
  | .migLogSwap drawer => nextWf_execMigLogSwap drawer s hs
  | .migLogStop drawer => nextWf_execMigLogStop drawer s hs
  | .secretLoad credential blob => nextWf_execSecretLoad credential blob s hs
  | .tapReset => nextWf_execTapReset s hs
  | .extest => nextWf_execExtest s hs
  | .idcode => nextWf_execIdcode s hs
  | .samplePreload cells => nextWf_execSamplePreload cells s hs
  | .clamp => nextWf_execClamp s hs
  | .highz => nextWf_execHighz s hs
  | .bypass => nextWf_execBypass s hs
  | .p1DlUp speed width flit => nextWf_execP1DlUp speed width flit s hs
  | .stackInterfaceLoss stack => nextWf_execStackInterfaceLoss stack s hs
  | .stackInterfaceRetrained stack => nextWf_execStackInterfaceRetrained stack s hs
  | .mainRailReturn rail => nextWf_execMainRailReturn rail s hs
  | .completionTimeout fid idx => nextWf_execCompletionTimeout fid idx s hs
  | .atomicopCompletion qp success value => nextWf_execAtomicopCompletion qp success value s hs
  | .flashWrite object success => nextWf_execFlashWrite object success s hs
  | .vfEnable numVfs => nextWf_execVfEnable numVfs s hs
  | .pcieTlpError port => nextWf_execPcieTlpError port s hs

theorem nextWf_step {s : State} (hs : s.memoriesWf) : NextWf (step s) := by
  cases hp : s.pending with
  | nil =>
    rw [step, hp]
    exact nextWf_next (memoriesWf_tickOnce s hs)
  | cons c rest =>
    rw [step_pending hp]
    exact nextWf_exec c (s := { s with pending := rest }) hs

end Sys2Proof.Machine

open Sys2Proof Sys2Proof.Machine Sys2Proof.Claims

/-- Settles O5: the tick of an empty queue and every command of the dispatcher keep the memories canonical. -/
theorem stepKeepsMemoryCanonical : Obligations.StepKeepsMemoryCanonical := fun _ _ hs e => nextWf_step hs _ e
end
section
/-! Entries complete with their record (R336, R342, R352, R358): where a record lies, what a completion of the only entry leaves, and which
staged record leaves first. -/

namespace Sys2Proof.Machine.State

variable {s : State} {f : Nat}

/-! FENCE (R342) -/

/-- A well-formed FENCE starts as the oldest entry only. -/
theorem earlier_of_mayStart_fence {v : Fn} {e : Entry} (hop : e.opcode = 0x01) (hform : e.malformed = false)
    (h : mayStart v e = true) : earlier v e = [] := by
  simp only [mayStart, Bool.and_eq_true, Bool.or_eq_true, hop, hform] at h
  simpa using h.1.1

/-- Nothing starts behind a well-formed FENCE. -/
theorem not_fence_of_earlier {v : Fn} {e x : Entry} (h : mayStart v e = true) (hx : x ∈ earlier v e) (hform : x.malformed = false) :
    x.opcode ≠ 0x01 := by
  simp only [mayStart, Bool.and_eq_true, List.all_eq_true, List.mem_filter] at h
  have hbefore := h.1.2 x ⟨hx, by simp [hform]⟩
  simp only [bne_iff_ne] at hbefore
  exact hbefore.1

/-! A record written to the ring (R336, R352) -/

/-- The place of the next record in host memory. -/
def recordPlace (s : State) (f : Nat) : Nat := (s.fn f).crBase + 32 * ((s.fn f).crProd % 2 ^ (s.fn f).crLog)

section
variable (hup : s.ring.p0.up = true) (hlog : s.obj 0x23C0 9 f = 0)
include hup hlog

theorem writeRecord_host (r : List Byte) : (s.writeRecord f r).mem.host = s.mem.host.writeBytes (s.recordPlace f) r := by
  simp [writeRecord, hostWrite_up s f _ r hup hlog, recordPlace]

theorem writeRecord_dev (r : List Byte) : (s.writeRecord f r).mem.dev = s.mem.dev := by
  simp [writeRecord, hostWrite_up s f _ r hup hlog]

end

theorem writeRecord_fn (r : List Byte) : (s.writeRecord f r).fn f = { s.fn f with
    crProd := ((s.fn f).crProd + 1) % 2 ^ 32
    mirrorDue := if bit (s.fn f).mirror 0 ∧ (s.fn f).mirrorDue.isNone then some s.now else (s.fn f).mirrorDue } := by
  simp [writeRecord]

/-! Completing the only entry in flight -/

theorem firstEarly_empty (h : (s.fn f).entries = []) : s.firstEarly f = none := by simp [firstEarly, h]

theorem settle_empty (h : (s.fn f).entries = []) : s.settle f = s := by simp [settle, h, settleN]

/-- The state in which the only entry in flight is gone; a malformed entry has been counted. -/
def withoutEntries (s : State) (f st : Nat) : State :=
  (if st = 0x0E then s.count (fnCtr f) 4 1 else s).setFn f { s.fn f with entries := [] }

theorem withoutEntries_eq (st : Nat) : ∃ n, s.withoutEntries f st = (s.count (fnCtr f) 4 n).setFn f { s.fn f with entries := [] } := by
  unfold withoutEntries
  split
  · exact ⟨1, rfl⟩
  · exact ⟨0, by rw [count_eq, if_pos rfl]⟩

theorem complete_alone {e : Entry} {st : Nat} {res : List Byte} (halone : (s.fn f).entries = [e]) (hready : e.stage = .ready)
    (hstaged : (s.fn f).staged = []) (hroom : (s.fn f).room = true) :
    s.complete f e st res = (s.withoutEntries f st).writeRecord f (workRecord st e.opcode e.tag res) := by
  have hheld : (s.fn f).heldRecords = [] := by simp [Fn.heldRecords, halone, hready]
  have hcan : (s.fn f).canRecord = true := by simp [Fn.canRecord, hstaged, hroom]
  have hfn : (if st = 0x0E then s.count (fnCtr f) 4 1 else s).fn f = s.fn f := by split <;> simp
  have hfinish : s.finishEntry f e (workRecord st e.opcode e.tag res) st =
      (s.withoutEntries f st).writeRecord f (workRecord st e.opcode e.tag res) := by
    have hgone : ((s.withoutEntries f st).fn f).room = true := by simpa [withoutEntries, Fn.room] using hroom
    rw [finishEntry, if_pos (by simp [hcan, hheld])]
    simp only [hfn, halone, List.filter_cons, bne_self_eq_false, Bool.false_eq_true, if_false, List.filter_nil]
    rw [placeRecord, if_pos]
    · rfl
    · simpa [hstaged, Fn.room] using hroom
  rw [complete, hfinish, settle_empty]
  rw [writeRecord_fn]
  simp [withoutEntries]

theorem complete_alone_answers {e : Entry} {st : Nat} {res : List Byte} (halone : (s.fn f).entries = [e]) (hready : e.stage = .ready)
    (hstaged : (s.fn f).staged = []) (hroom : (s.fn f).room = true) (hup : s.ring.p0.up = true) (hlog : s.obj 0x23C0 9 f = 0) :
    let t := s.complete f e st res
    t.mem.host = s.mem.host.writeBytes (s.recordPlace f) (workRecord st e.opcode e.tag res) ∧ t.mem.dev = s.mem.dev ∧
    (t.fn f).entries = [] ∧ (t.fn f).crProd = ((s.fn f).crProd + 1) % 2 ^ 32 := by
  intro t
  obtain ⟨n, hn⟩ := withoutEntries_eq (s := s) (f := f) st
  have ht : t = (s.withoutEntries f st).writeRecord f (workRecord st e.opcode e.tag res) := complete_alone halone hready hstaged hroom
  have hup1 : (s.withoutEntries f st).ring.p0.up = true := by rw [hn]; simpa using hup
  have hlog1 : (s.withoutEntries f st).obj 0x23C0 9 f = 0 := by rw [hn]; exact (count_obj s _ _ _ _ _ _).trans hlog
  rw [ht, writeRecord_host hup1 hlog1, writeRecord_dev hup1 hlog1, writeRecord_fn, hn]
  simp [recordPlace]

/-! The oldest staged record (R358) -/

theorem drainOne_staged {r : List Byte} {rest : List (List Byte)} (hstaged : (s.fn f).staged = r :: rest) (hroom : (s.fn f).room = true) :
    s.drainOne f = (s.setFn f { s.fn f with staged := rest }).writeRecord f r := by
  simp only [drainOne, hstaged, hroom, if_true]

end Sys2Proof.Machine.State

open Sys2Proof Sys2Proof.Machine Sys2Proof.Claims

/-- Settles O7: both sides of the ring go through `writeRecord`, whose slot, page and memory its own lemmas give. -/
theorem entriesCompleteWithTheirRecord : Obligations.EntriesCompleteWithTheirRecord := by
  refine ⟨⟨fun s f i e h => State.live_ready h fun e t => t.complete f e 0 [], fun s f i e h => State.live_ready h fun e t => t.complete f e 0 [],
    fun v e hop hform h => State.earlier_of_mayStart_fence hop hform h, fun v e x h hx hform => State.not_fence_of_earlier h hx hform⟩, ?_, ?_⟩
  · intro s f st e res halone hready hstaged hroom hup hlog t a
    obtain ⟨hhost, hdev, hentries, hprod⟩ := State.complete_alone_answers (st := st) (res := res) halone hready hstaged hroom hup hlog
    have hlen : (workRecord st e.opcode e.tag res).length = 32 := length_workRecord _ _ _ _
    refine ⟨?_, hentries, hprod, fun g hg => State.complete_fn_ne s f e st res hg.symm, hdev, fun x hx => ?_⟩
    · rw [hhost]
      exact Ram.readBytes_writeBytes_of_length _ _ _ _ hlen
    · rw [hhost]
      exact Ram.read_writeBytes_out _ _ _ (by rw [hlen]; exact hx)
  · intro s f r rest hstaged hroom hup hlog t a
    have ht : t = _ := State.drainOne_staged hstaged hroom
    have hhost : t.mem.host = s.mem.host.writeBytes a r := by
      rw [ht, State.writeRecord_host (s := s.setFn f _) hup hlog]
      simp [State.recordPlace, a]
    refine ⟨?_, ?_⟩
    · rw [hhost]
      exact Ram.readBytes_writeBytes _ _ _
    · rw [ht, State.writeRecord_fn]
      simp
end
section
/-! Writes of WR_PROD, CR_CONS and CR_ARM (R335, R336, R357, R358). -/

namespace Sys2Proof.Machine.State

open Claims

variable {s : State} {f x : Nat}

/-- A page that is written alone is the only one that differs. -/
theorem onlyPage_setFn (s : State) (f : Nat) (v : Fn) : onlyPage s (s.setFn f v) f := ⟨rfl, fun _ hg => fn_setFn_ne s f v hg.symm⟩

/-- A command whose outcome is one page written. -/
theorem answers_setFn {c : Instr} {v : Fn} (h : exec c s = .next (s.setFn f v)) : answers c s fun t => t.fn f = v ∧ onlyPage s t f :=
  ⟨_, h, fn_setFn s f v, onlyPage_setFn s f v⟩

/-- The host's earlier stores are in memory (log 5). -/
def withStores (s : State) (hs ps : List Host.Cell) : State := (s.setHost (s.mem.host.apply hs)).setPeer (s.mem.peer.apply ps)

theorem wrProdWrite_eq : s.wrProdWrite f x = s.setFn f (if (s.fn f).enable = true ∧
    subMod (2 ^ 32) x (s.fn f).wrCons ≤ 2 ^ (s.fn f).wrLog ∧
    subMod (2 ^ 32) (s.fn f).wrProd (s.fn f).wrCons ≤ subMod (2 ^ 32) x (s.fn f).wrCons
    then { s.fn f with wrProd := x } else { s.fn f with prodError := true }) := by
  unfold wrProdWrite
  dsimp only
  split <;> rfl

section
variable (hrun : s.running = true) (hopen : s.pageOpen f = true) (hx : x < 2 ^ 32)
include hrun hopen hx

theorem exec_wrProdWrite (hs ps : List Host.Cell) :
    exec (.wrProdWrite f x hs ps) s = .next ((s.withStores hs ps).wrProdWrite f x) := by
  rw [show exec (.wrProdWrite f x hs ps) s = s.live (if (s.withStores hs ps).pageOpen f = true
    then (s.withStores hs ps).wrProdWrite f (x % 2 ^ 32) else s.withStores hs ps) from rfl, Nat.mod_eq_of_lt hx, if_pos (by exact hopen),
    live_running s _ hrun]

theorem exec_crConsWrite : exec (.crConsWrite f x) s = .next (s.crConsWrite f x) := by
  rw [show exec (.crConsWrite f x) s = s.live (if s.pageOpen f then s.crConsWrite f (x % 2 ^ 32) else s) from rfl, Nat.mod_eq_of_lt hx]
  exact live_guarded s _ hrun hopen

theorem exec_crArmWrite : exec (.crArmWrite f x) s = .next (s.crArmWrite f x) := by
  rw [show exec (.crArmWrite f x) s = s.live (if s.pageOpen f then s.crArmWrite f (x % 2 ^ 32) else s) from rfl, Nat.mod_eq_of_lt hx]
  exact live_guarded s _ hrun hopen

end

/-- A write of CR_CONS that breaks its condition (R335). -/
theorem crConsWrite_refused (h : (s.fn f).enable = false ∨
    subMod (2 ^ 32) (s.fn f).crProd (s.fn f).crCons < subMod (2 ^ 32) x (s.fn f).crCons) :
    s.crConsWrite f x = s.setFn f { s.fn f with consError := true } := by
  refine if_neg fun ⟨hen, hle⟩ => ?_
  rcases h with h | h
  · exact absurd hen (by simp [h])
  · omega

end Sys2Proof.Machine.State

open Sys2Proof Sys2Proof.Machine Sys2Proof.Claims

/-- Settles O8: each index write is one page written, by the equation of its branch. -/
theorem ringIndexWrites : Obligations.RingIndexWrites := by
  refine ⟨fun s f x hs ps hrun hopen hx => ⟨_, State.exec_wrProdWrite hrun hopen hx hs ps, ?_⟩, fun s f x hrun hopen hx => ⟨?_, ?_, ?_, ?_⟩⟩
  · rw [State.wrProdWrite_eq]
    exact ⟨State.fn_setFn _ _ _, fun g hg => State.fn_setFn_ne _ _ _ hg.symm, rfl, rfl, rfl⟩
  · intro hen hle
    rw [State.exec_crConsWrite hrun hopen hx, State.crConsWrite, if_pos ⟨hen, hle⟩]
  · intro h
    exact State.answers_setFn ((State.exec_crConsWrite hrun hopen hx).trans (congrArg _ (State.crConsWrite_refused h)))
  · intro hen
    exact State.answers_setFn ((State.exec_crArmWrite hrun hopen hx).trans (congrArg _ (if_pos hen)))
  · intro hen
    exact State.answers_setFn ((State.exec_crArmWrite hrun hopen hx).trans (congrArg _ (if_neg (by simp [hen]))))
end
section
/-! RING_CTRL, RING_STATUS and the other registers of a page (R333 to R335, R361). -/

namespace Sys2Proof.Machine.State

open Claims

variable {s : State} {f x : Nat}

/-! RING_CTRL.ENABLE (R335) -/

/-- The two ring sizes lie from 6 to 16. -/
def sized (v : Fn) : Prop := 6 ≤ v.wrLog ∧ v.wrLog ≤ 16 ∧ 6 ≤ v.crLog ∧ v.crLog ≤ 16

/-- Nothing of the ring is under way: no entry in flight, no record staged, every entry posted taken. -/
def quiet (v : Fn) : Prop := v.entries = [] ∧ v.staged = [] ∧ v.wrProd = v.wrCons

theorem quiet_iff {v : Fn} : (v.entries.isEmpty && v.staged.isEmpty && v.wrProd == v.wrCons) = true ↔ quiet v := by
  simp [quiet, and_assoc]

section
variable (hserves : f = 0 ∨ 2 ≤ s.level)
include hserves

theorem not_ringLocked : ¬ (f ≠ 0 ∧ s.level < 2) := fun ⟨hf, hl⟩ => hserves.elim hf fun h => by omega

theorem ringEnable_same : s.ringEnable f (s.fn f).enable = s := by
  rw [ringEnable, if_neg (not_ringLocked hserves)]
  exact if_pos rfl

theorem ringEnable_on (hoff : (s.fn f).enable = false) (h : sized (s.fn f)) : s.ringEnable f true =
    (s.setFn f { s.fn f with enable := true, wrProd := 0, wrCons := 0, crProd := 0, crCons := 0, mirrored := 0, mirrorDue := none, lap := 0
                             copies := [] }).drain f := by
  rw [ringEnable, if_neg (not_ringLocked hserves)]
  simp only [hoff, Bool.true_eq_false, if_false]
  exact if_pos h

theorem ringEnable_unsized (hoff : (s.fn f).enable = false) (h : ¬ sized (s.fn f)) :
    s.ringEnable f true = s.setFn f { s.fn f with ctrlError := true } := by
  rw [ringEnable, if_neg (not_ringLocked hserves)]
  simp only [hoff, Bool.true_eq_false, if_false]
  exact if_neg h

theorem ringEnable_off (hon : (s.fn f).enable = true) (h : quiet (s.fn f)) :
    s.ringEnable f false = s.setFn f { s.fn f with enable := false, copies := [] } := by
  rw [ringEnable, if_neg (not_ringLocked hserves)]
  simp only [hon, Bool.false_eq_true, if_false, if_pos (quiet_iff.2 h)]

theorem ringEnable_busy (hon : (s.fn f).enable = true) (h : ¬ quiet (s.fn f)) :
    s.ringEnable f false = s.setFn f { s.fn f with ctrlError := true } := by
  rw [ringEnable, if_neg (not_ringLocked hserves)]
  simp only [hon, Bool.false_eq_true, if_false, if_neg (mt quiet_iff.1 h)]

end

/-! The commands on an open page -/

section
variable (hrun : s.running = true) (hopen : s.pageOpen f = true)
include hrun hopen

theorem exec_ringEnable : exec (.ringEnable f) s = .next (s.ringEnable f true) := live_guarded s _ hrun hopen

theorem exec_ringDisable : exec (.ringDisable f) s = .next (s.ringEnable f false) := live_guarded s _ hrun hopen

end

/-! RING_STATUS (R334, R361) -/

theorem exec_ringStatusRead_wedged (hrun : s.running = true) (h : (s.fn f).wedged = true) :
    exec (.ringStatusRead f) s = .next (s.emit (.regRead f 0x44 0)) := by
  rw [show exec (.ringStatusRead f) s = s.live (s.readPage f 0x44 4) from rfl, live_running s _ hrun]
  simp [readPage, pageRead, h]

/-- RING_STATUS as a read leaves it: its RC bits clear. -/
def statusRead (v : Fn) : Fn := { v with backpressure := false, ctrlError := false, consError := false, prodError := false }

theorem not_wedged_of_pageOpen (h : s.pageOpen f = true) : (s.fn f).wedged = false := by
  simp only [pageOpen, Bool.and_eq_true, Bool.not_eq_true'] at h
  exact h.2

theorem exec_ringStatusRead_open (hrun : s.running = true) (hopen : s.pageOpen f = true) : exec (.ringStatusRead f) s =
    .next ((s.setFn f (statusRead (s.fn f))).emit (.regRead f 0x44 (ringStatus (s.fn f)))) := by
  rw [show exec (.ringStatusRead f) s = s.live (s.readPage f 0x44 4) from rfl, live_running s _ hrun]
  simp [readPage, pageRead, hopen, not_wedged_of_pageOpen hopen, read32, clear32, statusRead]

/-! Bases and sizes (R333 to R335) -/

theorem pageWrite_four {off : Nat} (halign : off % 4 = 0) (hoff : off < 4096) : s.pageWrite f off 4 x = s.write32 f off (x % 2 ^ 32) :=
  if_pos ⟨rfl, halign, hoff⟩

theorem pageWrite_eight {off : Nat} (halign : off % 8 = 0) (hoff : off < 4096) : s.pageWrite f off 8 x =
    (s.write32 f off (x % 2 ^ 32)).write32 f (off + 4) (x / 2 ^ 32 % 2 ^ 32) :=
  (if_neg (fun h => absurd h.1 (by decide))).trans (if_pos ⟨rfl, halign, hoff⟩)

theorem pageWrite_ignored {off size : Nat} (h4 : ¬ (size = 4 ∧ off % 4 = 0)) (h8 : ¬ (size = 8 ∧ off % 8 = 0)) :
    s.pageWrite f off size x = s :=
  (if_neg fun h => h4 ⟨h.1, h.2.1⟩).trans (if_neg fun h => h8 ⟨h.1, h.2.1⟩)

/-- While ENABLE is 1 a write of a base or a size sets CTRL_ERROR alone. -/
theorem write32_locked (hon : (s.fn f).enable = true) {off : Nat} (hoff : off ∈ [0x000, 0x004, 0x008, 0x018, 0x01C, 0x020]) (y : Nat) :
    s.write32 f off y = s.setFn f { s.fn f with ctrlError := true } := by
  simp only [List.mem_cons, List.not_mem_nil, or_false] at hoff
  rcases hoff with rfl | rfl | rfl | rfl | rfl | rfl <;> simp [write32, hon]

/-- The halves of a 64-bit value make it up. -/
theorem halves_eq (x : Nat) : x / 2 ^ 32 % 2 ^ 32 * 2 ^ 32 + x % 2 ^ 32 = x % 2 ^ 64 := by omega

/-- A 64-bit base after the write of its low half: the half waits. -/
def withHalf (s : State) (f off y : Nat) : State := s.setFn f { s.fn f with halves := (s.fn f).halves.setNum off (y + 1) }

theorem num_withHalf (off y : Nat) : ((s.withHalf f off y).fn f).halves.num off = y + 1 := by
  simp [withHalf, Sparse.num, Sparse.setNum]

section
variable (hoff : (s.fn f).enable = false)
include hoff

theorem write32_wrLog {y : Nat} (h6 : 6 ≤ y) (h16 : y ≤ 16) : s.write32 f 8 y = s.setFn f { s.fn f with wrLog := y } := by
  simp [write32, hoff, Nat.mod_eq_of_lt (show y < 32 by omega), h6, h16]

theorem write32_crLog {y : Nat} (h6 : 6 ≤ y) (h16 : y ≤ 16) : s.write32 f 0x20 y = s.setFn f { s.fn f with crLog := y } := by
  simp [write32, hoff, Nat.mod_eq_of_lt (show y < 32 by omega), h6, h16]

theorem write32_wrBase_low (y : Nat) : s.write32 f 0 y = s.withHalf f 0 y := by simp [write32, hoff, wideWrite, withHalf]

theorem write32_crBase_low (y : Nat) : s.write32 f 0x18 y = s.withHalf f 0x18 y := by simp [write32, hoff, wideWrite, withHalf]

theorem write32_wrBase_high (lo hi : Nat) : (s.withHalf f 0 lo).write32 f 4 hi = (s.withHalf f 0 lo).setFn f
    { (s.withHalf f 0 lo).fn f with halves := ((s.withHalf f 0 lo).fn f).halves.setNum 0 0, wrBase := (hi * 2 ^ 32 + lo) / 4096 * 4096 } := by
  have hen : ((s.withHalf f 0 lo).fn f).enable = false := by simpa [withHalf] using hoff
  simp [write32, hen, wideWrite, num_withHalf]

theorem write32_crBase_high (lo hi : Nat) : (s.withHalf f 0x18 lo).write32 f 0x1C hi = (s.withHalf f 0x18 lo).setFn f
    { (s.withHalf f 0x18 lo).fn f with halves := ((s.withHalf f 0x18 lo).fn f).halves.setNum 0x18 0
                                       crBase := (hi * 2 ^ 32 + lo) / 4096 * 4096 } := by
  have hen : ((s.withHalf f 0x18 lo).fn f).enable = false := by simpa [withHalf] using hoff
  simp [write32, hen, wideWrite, num_withHalf]

end

/-- Two writes of a page leave every other page. -/
theorem onlyPage_setFn_twice (s : State) (f : Nat) (v w : Fn) : onlyPage s ((s.setFn f v).setFn f w) f :=
  ⟨rfl, fun _ hg => (fn_setFn_ne _ f w hg.symm).trans (fn_setFn_ne s f v hg.symm)⟩

end Sys2Proof.Machine.State

open Sys2Proof Sys2Proof.Machine Sys2Proof.Claims

/-- Settles O9: RING_CTRL by the branches of `ringEnable`, RING_STATUS by its read, the other registers by the row of `write32`. -/
theorem ringPageRegisters : Obligations.RingPageRegisters := by
  refine ⟨fun s f hrun hopen hserves => ?_, fun s f hrun => ⟨State.exec_ringStatusRead_wedged hrun, fun hopen => ?_⟩,
    fun s f x hrun hopen => ?_⟩
  · refine ⟨fun hon => ?_, fun hoff => ?_, fun hoff h => ?_, fun hoff h => ?_, fun hon he hst hw => ?_, fun hon h => ?_⟩
    · rw [State.exec_ringEnable hrun hopen, ← hon, State.ringEnable_same hserves]
    · rw [State.exec_ringDisable hrun hopen, ← hoff, State.ringEnable_same hserves]
    · rw [State.exec_ringEnable hrun hopen, State.ringEnable_on hserves hoff h]
    · exact State.answers_setFn ((State.exec_ringEnable hrun hopen).trans (congrArg _ (State.ringEnable_unsized hserves hoff h)))
    · exact State.answers_setFn ((State.exec_ringDisable hrun hopen).trans (congrArg _ (State.ringEnable_off hserves hon ⟨he, hst, hw⟩)))
    · have hbusy : ¬ State.quiet (s.fn f) := fun ⟨he, hst, hw⟩ => h.elim (· he) fun h => h.elim (· hst) (· hw)
      exact State.answers_setFn ((State.exec_ringDisable hrun hopen).trans (congrArg _ (State.ringEnable_busy hserves hon hbusy)))
  · exact ⟨_, State.exec_ringStatusRead_open hrun hopen, rfl, State.fn_setFn _ _ _, fun g hg => State.fn_setFn_ne s _ _ hg.symm, rfl⟩
  · have hwrite {off size : Nat} (hbell : off ≠ 0x108) : exec (.registerWrite f off size x) s = .next (s.pageWrite f off size x) :=
      State.exec_registerWrite_elsewhere hrun hopen size x (.inr hbell)
    refine ⟨fun hon off hoff => ?_, fun hoff => ?_, fun hoff => ?_, fun hoff h6 h16 => ?_, fun hoff h6 h16 => ?_, fun off size h4 h8 => ?_,
      fun off hoff => ?_, fun off hoff => ?_⟩
    · have hplace : off ≠ 0x108 ∧ off % 4 = 0 ∧ off < 4096 := by
        revert off
        decide
      obtain ⟨hbell, halign, hlt⟩ := hplace
      exact State.answers_setFn ((hwrite hbell).trans (congrArg _ ((State.pageWrite_four halign hlt).trans (State.write32_locked hon hoff _))))
    · refine ⟨_, (hwrite (by decide)).trans (congrArg _ ((State.pageWrite_eight rfl (by decide)).trans
        ((congrArg (State.write32 · f 4 _) (State.write32_wrBase_low hoff _)).trans (State.write32_wrBase_high hoff _ _)))), ?_,
        State.onlyPage_setFn_twice s f _ _⟩
      rw [State.fn_setFn, State.halves_eq]
    · refine ⟨_, (hwrite (by decide)).trans (congrArg _ ((State.pageWrite_eight rfl (by decide)).trans
        ((congrArg (State.write32 · f 0x1C _) (State.write32_crBase_low hoff _)).trans (State.write32_crBase_high hoff _ _)))), ?_,
        State.onlyPage_setFn_twice s f _ _⟩
      rw [State.fn_setFn, State.halves_eq]
    · refine State.answers_setFn ((hwrite (by decide)).trans (congrArg _ ((State.pageWrite_four rfl (by decide)).trans ?_)))
      rw [Nat.mod_eq_of_lt (by omega)]
      exact State.write32_wrLog hoff h6 h16
    · refine State.answers_setFn ((hwrite (by decide)).trans (congrArg _ ((State.pageWrite_four rfl (by decide)).trans ?_)))
      rw [Nat.mod_eq_of_lt (by omega)]
      exact State.write32_crLog hoff h6 h16
    · rw [State.exec_registerWrite hrun hopen, if_neg (by omega), State.pageWrite_ignored (by omega) (by omega)]
    · rw [State.exec_registerWrite hrun hopen, if_neg (by omega), State.pageWrite_ignored (by omega) (by omega)]
    · rw [State.exec_registerWrite hrun hopen, if_neg (by omega), State.pageWrite_ignored (by omega) (by omega)]
end
section
/-! The mirror, the completion interrupt and backpressure (R356 to R358, R362). -/

namespace Sys2Proof.Machine.State

open Claims

variable {s : State} {f : Nat}

/-! The mirror (R356) -/

theorem exec_crMirrorWrite (hrun : s.running = true) (hmirror : bit (s.fn f).mirror 0 = true) (hdue : (s.fn f).mirrorDue.isSome = true)
    (hup : s.ring.p0.up = true) (hlog : s.obj 0x23C0 9 f = 0) : exec (.crMirrorWrite f) s = .next
    ((s.setHost (s.mem.host.writeBytes ((s.fn f).mirror / 4 * 4) (leBytes 4 (s.fn f).crProd))).setFn f
      { s.fn f with mirrored := (s.fn f).crProd, mirrorDue := none }) := by
  refine (live_guarded s _ hrun ⟨hmirror, hdue⟩).trans ?_
  rw [hostWrite_up s f _ _ hup hlog]

/-! The message of a vector (R357, R362) -/

/-- The address of a vector's message. -/
def vectorAddress (v : Fn) (vec : Nat) : Nat := v.msix.num (16 * vec) / 4 * 4 + v.msix.num (16 * vec + 4) * 2 ^ 32

section
variable {vec : Nat} (hopen : (s.fn f).msix.num (16 * vec + 12) % 2 = 0)
include hopen

theorem not_masked : ¬ (bit ((s.fn f).msix.num (16 * vec + 4 * 3)) 0 = true) := by
  rw [show 16 * vec + 4 * 3 = 16 * vec + 12 by omega]
  simp [bit, hopen]

theorem sendVector_up (hup : s.ring.p0.up = true) : s.sendVector f vec = (s.setFn f { s.fn f with lastMessage := some s.now }).emit
    (.msix f vec (vectorAddress (s.fn f) vec) ((s.fn f).msix.num (16 * vec + 8))) := by
  rw [sendVector, if_neg (not_masked hopen)]
  exact if_pos hup

theorem sendVector_down (hup : s.ring.p0.up = false) : s.sendVector f vec =
    { s.setFn f { s.fn f with lastMessage := some s.now } with mem := { s.mem with
      p0Held := s.mem.p0Held ++ [⟨f, vectorAddress (s.fn f) vec, leBytes 4 ((s.fn f).msix.num (16 * vec + 8)), some vec⟩] } } := by
  rw [sendVector, if_neg (not_masked hopen)]
  exact if_neg (by simp [hup])

end

theorem sendVector_masked {vec : Nat} (h : (s.fn f).msix.num (16 * vec + 12) % 2 = 1) :
    s.sendVector f vec = s.setFn f { s.fn f with pba := (s.fn f).pba ||| 2 ^ vec } := by
  have hbit : bit ((s.fn f).msix.num (16 * vec + 4 * 3)) 0 = true := by
    rw [show 16 * vec + 4 * 3 = 16 * vec + 12 by omega]
    simp [bit, h]
  exact if_pos hbit

/-! The completion interrupt (R357) -/

/-- The interrupt does not go: it is off or has no vector, CR_PROD still has the armed value, the mirror's write is due, or HOLDOFF runs. -/
def interruptWaits (s : State) (f a : Nat) : Prop :=
  (!bit (s.fn f).intCtrl 0) = true ∨ (s.fn f).vectors = 0 ∨ (s.fn f).crProd = a ∨ (bit (s.fn f).mirror 0 ∧ (s.fn f).mirrorDue.isSome) ∨
    ((s.fn f).lastMessage.map fun t => decide (s.now < t + bits (s.fn f).intCtrl 25 16 * 1000000)).getD false = true

theorem exec_msixMessage_unarmed (h : (s.fn f).armed = none) : exec (.msixMessage f) s = .next s := by
  unfold exec execMsixMessage
  dsimp only
  rw [h, live_self]

theorem exec_msixMessage_waits {a : Nat} (harmed : (s.fn f).armed = some a) (h : s.interruptWaits f a) : exec (.msixMessage f) s = .next s := by
  unfold exec execMsixMessage
  dsimp only
  rw [harmed]
  exact live_blocked _ h

theorem exec_msixMessage_goes {a : Nat} (hrun : s.running = true) (harmed : (s.fn f).armed = some a) (h : ¬ s.interruptWaits f a) :
    exec (.msixMessage f) s = .next ((s.setFn f { s.fn f with armed := none }).sendVector f 0) := by
  unfold exec execMsixMessage
  dsimp only
  rw [harmed]
  exact live_unless _ hrun h

/-- Nothing is before an end that has passed. -/
theorem not_before {o : Option Nat} {now hold : Nat} (h : ∀ u, o = some u → u + hold ≤ now) :
    (o.map fun t => decide (now < t + hold)).getD false = false := by
  cases o with
  | none => rfl
  | some u => simpa using h u rfl

/-- HOLDOFF has passed since the last message. -/
theorem not_interruptWaits {a : Nat} (hon : bit (s.fn f).intCtrl 0 = true) (hvec : (s.fn f).vectors ≠ 0) (hprod : (s.fn f).crProd ≠ a)
    (hmirror : bit (s.fn f).mirror 0 = true → (s.fn f).mirrorDue = none)
    (hlate : ∀ u, (s.fn f).lastMessage = some u → u + bits (s.fn f).intCtrl 25 16 * 1000000 ≤ s.now) : ¬ s.interruptWaits f a := by
  rintro (h | h | h | ⟨hm, hd⟩ | h)
  · simp [hon] at h
  · exact hvec h
  · exact hprod h
  · simp [hmirror hm] at hd
  · exact absurd h (Bool.eq_false_iff.1 (not_before hlate))

/-! A pause of 1 ms (R358) -/

theorem exec_completionBackpressure_raised (h : (s.fn f).pauseRaised = true) : exec (.completionBackpressure f) s = .next s := by
  unfold exec execCompletionBackpressure
  dsimp only
  cases (s.fn f).pausedSince with
  | none => exact live_self s
  | some u => exact live_blocked _ (.inl h)

theorem exec_completionBackpressure_due {u : Nat} (hrun : s.running = true) (hpaused : (s.fn f).pausedSince = some u)
    (hfirst : (s.fn f).pauseRaised = false) (hdue : u + 1000000000 ≤ s.now) : exec (.completionBackpressure f) s =
    .next ((s.setFn f { s.fn f with backpressure := true, pauseRaised := true }).raiseDevice 8 f [BitVec.ofNat 8 f]) := by
  unfold exec execCompletionBackpressure
  dsimp only
  rw [hpaused]
  exact live_unless _ hrun (not_or.2 ⟨by simp [hfirst], Nat.not_lt.2 hdue⟩)

end Sys2Proof.Machine.State

open Sys2Proof Sys2Proof.Machine Sys2Proof.Claims

/-- Settles O10: the interrupt disarms and sends vector 0, which `sendVector` emits, holds or leaves pending. -/
theorem mirrorInterruptAndBackpressure : Obligations.MirrorInterruptAndBackpressure := by
  intro s f hrun v
  refine ⟨fun hmirror hdue hup hlog => ?_, fun a harmed hon hvec hprod hmirror hlate => ?_, fun a u harmed hlast hearly => ?_,
    fun hmirror hdue => ?_, fun u hpaused hfirst hdue => State.exec_completionBackpressure_due hrun hpaused hfirst hdue,
    State.exec_completionBackpressure_raised⟩
  · refine ⟨_, State.exec_crMirrorWrite hrun hmirror hdue hup hlog, ?_, State.fn_setFn _ _ _, rfl, rfl⟩
    exact Ram.readBytes_writeBytes_of_length _ _ _ _ (length_leBytes _ _)
  · have hgoes := State.exec_msixMessage_goes hrun harmed (State.not_interruptWaits hon hvec hprod hmirror hlate)
    have hfn : (s.setFn f { v with armed := none }).fn f = { v with armed := none } := State.fn_setFn _ _ _
    refine ⟨fun hopen hup => ?_, fun hopen hup => ?_, fun hmasked => ?_⟩
    · have hsend := State.sendVector_up (s := s.setFn f { v with armed := none }) (f := f) (vec := 0) (by rw [hfn]; exact hopen) hup
      rw [hfn] at hsend
      exact ⟨_, hgoes.trans (congrArg _ hsend), rfl, State.fn_setFn _ _ _, rfl, (State.onlyPage_setFn_twice s f _ _).2⟩
    · have hsend := State.sendVector_down (s := s.setFn f { v with armed := none }) (f := f) (vec := 0) (by rw [hfn]; exact hopen) hup
      rw [hfn] at hsend
      exact ⟨_, hgoes.trans (congrArg _ hsend), rfl, State.fn_setFn _ _ _, ⟨rfl, (State.onlyPage_setFn_twice s f _ _).2⟩, rfl⟩
    · have hsend := State.sendVector_masked (s := s.setFn f { v with armed := none }) (f := f) (vec := 0) (by rw [hfn]; exact hmasked)
      rw [hfn] at hsend
      exact ⟨_, hgoes.trans (congrArg _ hsend), State.fn_setFn _ _ _, State.onlyPage_setFn_twice s f _ _⟩
  · refine State.exec_msixMessage_waits harmed (.inr (.inr (.inr (.inr ?_))))
    rw [show (s.fn f).lastMessage = some u from hlast, Option.map_some, Option.getD_some]
    exact decide_eq_true hearly
  · cases harmed : (s.fn f).armed with
    | none => exact State.exec_msixMessage_unarmed harmed
    | some a => exact State.exec_msixMessage_waits harmed (.inr (.inr (.inr (.inl ⟨hmirror, hdue⟩))))
end
section
/-! Fetching the entry at WR_CONS, and speculative reads (R336, R339 to R341). -/

namespace Sys2Proof.Machine.State

open Claims

variable {s : State} {f i : Nat}

/-- Where the entry of an index lies in host memory. -/
def entryPlace (s : State) (f i : Nat) : Nat := (s.fn f).wrBase + 64 * (i % 2 ^ (s.fn f).wrLog)

section
variable (hrun : s.running = true) (hnext : s.nextServed = some f) (hcopies : (s.fn f).copies = []) (hup : s.ring.p0.up = true)
include hrun hnext hcopies hup

theorem exec_entryFetch : exec (.entryFetch f) s = .next (if s.mem.host.hasBad (s.entryPlace f (s.fn f).wrCons) 64 = true then s.failedFetch f
    else (s.takeEntry f (s.mem.host.readBytes (s.entryPlace f (s.fn f).wrCons) 64)).settle f) := by
  refine (live_guarded s _ hrun hnext).trans (congrArg _ ?_)
  rw [fetch, hcopies]
  exact if_neg (by simp [hup])

end

/-- The entry that a fetch puts in flight. -/
def fetchedEntry (s : State) (f : Nat) (raw : List Byte) : Entry := ⟨(s.fn f).wrCons, raw, .ready, 0, 0, 0, s.drawerState f != 0, [], []⟩

theorem takeEntry_fn (raw : List Byte) : (s.takeEntry f raw).fn f = { s.fn f with
    wrCons := ((s.fn f).wrCons + 1) % 2 ^ 32
    lap := min ((s.fn f).lap + 1) (2 ^ 17)
    entries := (s.fn f).entries ++ [s.fetchedEntry f raw]
    copies := (s.fn f).copies.filter (·.1 != (s.fn f).wrCons) } :=
  (count_fn _ _ _ _ _).trans (fn_setFn s f _)

theorem takeEntry_pointer (raw : List Byte) : (s.takeEntry f raw).ring.pointer = (f + 1) % 128 :=
  congrArg RingState.pointer (count_ring _ _ _ _)

theorem takeEntry_mem (raw : List Byte) : (s.takeEntry f raw).mem = s.mem := count_mem _ _ _ _

theorem exec_speculativeFetch_barred (h : s.maySpeculate f i = false) : exec (.speculativeFetch f i) s = .next s := live_blocked _ (by simp [h])

theorem exec_speculativeFetch (hrun : s.running = true) (h : s.maySpeculate f i = true)
    (hgood : s.mem.host.hasBad (s.entryPlace f i) 64 = false) : exec (.speculativeFetch f i) s = .next (s.setFn f { s.fn f with
      copies := (s.fn f).copies.filter (·.1 != i) ++ [(i, s.mem.host.readBytes (s.entryPlace f i) 64)] }) :=
  (live_unless _ hrun (by simp [h])).trans (congrArg _ (if_neg (Bool.eq_false_iff.1 hgood)))

end Sys2Proof.Machine.State

open Sys2Proof Sys2Proof.Machine Sys2Proof.Claims

/-- Settles O11: a fetch is `takeEntry` or `failedFetch`, and a speculative read is one page written. -/
theorem fetchTakesTheEntryAtWrCons : Obligations.FetchTakesTheEntryAtWrCons := by
  intro s f hrun v a raw
  refine ⟨fun hnext hcopies hup hgood => ?_, fun hnext hcopies hup hbad => ?_, ?_, ⟨s.fetchedEntry f raw, ?_, rfl, rfl, rfl⟩,
    State.takeEntry_pointer raw, State.takeEntry_mem raw, fun i hmay hgood => ?_, fun i h => State.exec_speculativeFetch_barred h⟩
  · exact (State.exec_entryFetch hrun hnext hcopies hup).trans (congrArg _ (if_neg (Bool.eq_false_iff.1 hgood)))
  · exact (State.exec_entryFetch hrun hnext hcopies hup).trans (congrArg _ (if_pos hbad))
  · rw [State.takeEntry_fn]
  · rw [State.takeEntry_fn]
  · refine ⟨_, State.exec_speculativeFetch hrun hmay hgood, ?_⟩
    beta_reduce
    rw [State.fn_setFn]
    exact ⟨List.mem_append_right _ (List.mem_singleton_self _), rfl, rfl, State.onlyPage_setFn s f _⟩
end
section
/-! Gate lists (R318, R320). -/

namespace Sys2Proof.Machine.State

open Claims

variable {s : State} {port lane : Nat}

/-! Objects of one index -/

/-- Objects of one index with different subindices are different. -/
theorem obj_setObj_sub_ne (i b v : Nat) {c : Nat} (hb : b < 256) (hc : c < 256) (h : b ≠ c) : (s.setObj i b 0 v).obj i c 0 = s.obj i c 0 :=
  obj_setObj_ne s i b 0 v (objKey_ne hb hc (by decide) (by decide) (.inr (.inl h)))

theorem gateEntryChange_answers (hrun : s.running = true) : answers (.gateEntryChange port lane) s fun t =>
    t.sub (4 * port + lane) = { s.sub (4 * port + lane) with gates := s.openGates port } ∧
    (∀ j, j ≠ 4 * port + lane → t.sub j = s.sub j) ∧ { t with eth := { t.eth with subs := s.eth.subs } } = s :=
  ⟨_, live_running s _ hrun, Sparse.get_set_same _ _ _, fun _ hj => Sparse.get_set_ne _ _ hj.symm, rfl⟩

theorem openGates_off (h : s.eth.gateOn.num port = 0) : s.openGates port = 255 := if_pos (.inr h)

/-! CONFIG_CHANGE (R320) -/

/-- The change time: the first cycle boundary of a base that is no sooner than an instant. -/
def changeTime (base cycle early : Nat) : Nat := if early ≤ base then base else base + ceilDiv (early - base) cycle * cycle

theorem changeTime_spec {base cycle early : Nat} (hc : 0 < cycle) :
    early ≤ changeTime base cycle early ∧ base ≤ changeTime base cycle early ∧ cycle ∣ changeTime base cycle early - base ∧
    (changeTime base cycle early = base ∨ changeTime base cycle early < early + cycle) := by
  unfold changeTime
  split
  next h => exact ⟨h, le_rfl, by simp, .inl rfl⟩
  next h =>
    have hup : early - base ≤ ceilDiv (early - base) cycle * cycle := by
      have hlt := Nat.lt_div_mul_add (a := early - base + cycle - 1) hc
      unfold ceilDiv
      omega
    have hdown : ceilDiv (early - base) cycle * cycle ≤ early - base + cycle - 1 := Nat.div_mul_le_self _ _
    exact ⟨by omega, by omega, by rw [Nat.add_sub_cancel_left]; exact Nat.dvd_mul_left _ _, .inr (by omega)⟩

/-- The state once a change of the gate list is pending. -/
def withChange (s : State) (port : Nat) : State :=
  (s.setObj (0x2610 + port) 7 0 1).setObj (0x2610 + port) 8 0
    (changeTime (s.obj (0x2610 + port) 2) (s.obj (0x2610 + port) 3 * 10) (s.deviceTime + 1000000))

theorem configChange_ok (h : s.gateOk port = true) : s.configChange port = some (s.withChange port) := if_neg (by simp [h])

theorem configChange_bad (h : s.gateOk port = false) : s.configChange port = none := if_pos (by simp [h])

theorem exec_configChange (hrun : s.running = true) (hl : 0 < s.level) (h : s.gateOk port = true) :
    exec (.configChange port lane) s = .next (s.withChange port) := by
  rw [show exec (.configChange port lane) s = s.liveLedger ((s.configChange port).getD s) from rfl, configChange_ok h, Option.getD_some]
  exact liveLedger_running s _ hrun hl

theorem exec_configChange_bad (h : s.gateOk port = false) : exec (.configChange port lane) s = .next s := by
  rw [show exec (.configChange port lane) s = s.liveLedger ((s.configChange port).getD s) from rfl, configChange_bad h]
  exact liveLedger_self s

theorem withChange_time : (s.withChange port).obj (0x2610 + port) 8 = changeTime (s.obj (0x2610 + port) 2) (s.obj (0x2610 + port) 3 * 10)
    (s.deviceTime + 1000000) := by rw [withChange, obj_setObj]

theorem withChange_obj {b : Nat} (hb : b ≤ 6) : (s.withChange port).obj (0x2610 + port) b = s.obj (0x2610 + port) b := by
  rw [withChange, obj_setObj_sub_ne _ _ _ (by omega) (by omega) (by omega), obj_setObj_sub_ne _ _ _ (by omega) (by omega) (by omega)]

theorem withChange_pending : (s.withChange port).obj (0x2610 + port) 7 = 1 := by
  rw [withChange, obj_setObj_sub_ne _ _ _ (by omega) (by omega) (by omega), obj_setObj]

/-! The change itself (R320) -/

/-- The operating list of a port is its administrative one. -/
def withOperating (s : State) (port : Nat) : State :=
  (((s.setObj (0x2610 + port) 9 0 (s.obj (0x2610 + port) 2)).setObj (0x2610 + port) 0x0A 0 (s.obj (0x2610 + port) 3)).setObj
    (0x2610 + port) 0x0B 0 (s.obj (0x2610 + port) 4)).setBlob (0x2610 + port) 0x0C 0 (s.blob (0x2610 + port) 5)

theorem withOperating_base : (s.withOperating port).obj (0x2610 + port) 9 = s.obj (0x2610 + port) 2 := by
  rw [withOperating, setBlob_obj, obj_setObj_sub_ne _ _ _ (by decide) (by decide) (by decide),
    obj_setObj_sub_ne _ _ _ (by decide) (by decide) (by decide), obj_setObj]

theorem withOperating_cycle : (s.withOperating port).obj (0x2610 + port) 0x0A = s.obj (0x2610 + port) 3 := by
  rw [withOperating, setBlob_obj, obj_setObj_sub_ne _ _ _ (by decide) (by decide) (by decide), obj_setObj]

theorem withOperating_length : (s.withOperating port).obj (0x2610 + port) 0x0B = s.obj (0x2610 + port) 4 := by
  rw [withOperating, setBlob_obj, obj_setObj]

theorem withOperating_list : (s.withOperating port).blob (0x2610 + port) 0x0C = s.blob (0x2610 + port) 5 := by
  rw [withOperating, blob_setBlob]

/-- The port's gates run as its administrative list says. -/
def withGates (s : State) (port on : Nat) : State := { s with eth := { s.eth with gateOn := s.eth.gateOn.setNum port on } }

theorem withGates_obj (on i b n : Nat) : (s.withGates port on).obj i b n = s.obj i b n := rfl

theorem withGates_gateOn (on : Nat) : (s.withGates port on).eth.gateOn.num port = on := num_setNum _ _ _

theorem withGates_mem (on : Nat) : (s.withGates port on).mem = s.mem := rfl

theorem withGates_out (on : Nat) : (s.withGates port on).out = s.out := rfl

theorem withOperating_mem : (s.withOperating port).mem = s.mem := rfl

theorem withOperating_out : (s.withOperating port).out = s.out := rfl

theorem withGates_blob (on i b n : Nat) : (s.withGates port on).blob i b n = s.blob i b n := rfl

/-- The state once the administrative list has become the operating one. -/
def withApplied (s : State) (port : Nat) : State :=
  ((s.withOperating port).setObj (0x2610 + port) 7 0 0).withGates port (s.obj (0x2610 + port) 1)

theorem exec_gateConfigApply (hrun : s.running = true) (hpending : s.obj (0x2610 + port) 7 ≠ 0) (hdue : s.obj (0x2610 + port) 8 ≤ s.deviceTime) :
    exec (.gateConfigApply port lane) s = .next (s.withApplied port) :=
  (live_running s _ hrun).trans (congrArg _ (if_neg (not_or.2 ⟨hpending, Nat.not_lt.2 hdue⟩)))

theorem exec_gateConfigApply_early (h : s.obj (0x2610 + port) 7 = 0 ∨ s.deviceTime < s.obj (0x2610 + port) 8) :
    exec (.gateConfigApply port lane) s = .next s := by
  rw [show exec (.gateConfigApply port lane) s = s.live (s.gateApply port) from rfl, show s.gateApply port = s from if_pos h, live_self]

theorem withApplied_obj {b : Nat} (hb : b < 256) (h7 : 7 ≠ b) :
    (s.withApplied port).obj (0x2610 + port) b = (s.withOperating port).obj (0x2610 + port) b := by
  rw [withApplied, withGates_obj, obj_setObj_sub_ne _ _ _ (by decide) hb h7]

theorem withApplied_blob : (s.withApplied port).blob (0x2610 + port) 0x0C = s.blob (0x2610 + port) 5 := by
  rw [withApplied, withGates_blob, setObj_blob, withOperating_list]

theorem withApplied_pending : (s.withApplied port).obj (0x2610 + port) 7 = 0 := by rw [withApplied, withGates_obj, obj_setObj]

theorem withApplied_gateOn : (s.withApplied port).eth.gateOn.num port = s.obj (0x2610 + port) 1 := by rw [withApplied, withGates_gateOn]

theorem withApplied_mem : (s.withApplied port).mem = s.mem := by rw [withApplied, withGates_mem, setObj_mem, withOperating_mem]

theorem withApplied_out : (s.withApplied port).out = s.out := by rw [withApplied, withGates_out, setObj_out, withOperating_out]

/-- Two writes of objects change the ledger's numbers alone. -/
theorem setObj_setObj_frame (i b n v j c m w : Nat) :
    { (s.setObj i b n v).setObj j c m w with led := { ((s.setObj i b n v).setObj j c m w).led with vals := s.led.vals } } = s := rfl

theorem withChange_frame : { s.withChange port with led := { (s.withChange port).led with vals := s.led.vals } } = s := by
  rw [withChange, setObj_setObj_frame]

end Sys2Proof.Machine.State

open Sys2Proof Sys2Proof.Machine Sys2Proof.Claims

/-- Settles O42: the change time by `changeTime_spec`, the lists by the objects that a change writes. -/
theorem gateListsChangeAtTheirTime : Obligations.GateListsChangeAtTheirTime := by
  unfold Obligations.GateListsChangeAtTheirTime
  intro s port lane hrun k r
  refine ⟨State.gateEntryChange_answers hrun, State.openGates_off, fun hl hok hcycle => ?change, State.exec_configChange_bad,
    fun hpending hdue => ⟨_, State.exec_gateConfigApply hrun hpending hdue, ?_, ?_, ?_, State.withApplied_blob, State.withApplied_pending,
      State.withApplied_gateOn, State.withApplied_mem, State.withApplied_out⟩, State.exec_gateConfigApply_early⟩
  case change =>
    obtain ⟨hearly, hbase, hdvd, hfirst⟩ := State.changeTime_spec (base := s.obj r 2) (early := s.deviceTime + 1000000)
      (show 0 < s.obj r 3 * 10 by omega)
    refine ⟨_, State.exec_configChange hrun hl hok, State.withChange_pending, ?_⟩
    rw [State.withChange_time]
    exact ⟨hearly, hbase, hdvd, hfirst, fun sub hsub => State.withChange_obj hsub, State.withChange_frame⟩
  · rw [State.withApplied_obj (by decide) (by decide), State.withOperating_base]
  · rw [State.withApplied_obj (by decide) (by decide), State.withOperating_cycle]
  · rw [State.withApplied_obj (by decide) (by decide), State.withOperating_length]
end
section
/-! Frames received and pauses (R311 to R314, R317, R322, R327). -/

namespace Sys2Proof.Machine.State

open Claims

variable {s : State} {port lane : Nat} {f : List Byte}

/-! A frame arrives (R312, R313) -/

/-- A frame that arrives is counted with its bytes. -/
def frameCounted (s : State) (port : Nat) (f : List Byte) : State := (s.count (ethCtr port) 1 1).count (ethCtr port) 2 f.length

theorem count_zero (s : State) (i b : Nat) : s.count i b 0 = s := by rw [count_eq, if_pos rfl]

/-- A frame without a fault: its FCS is right and its length is one that the sub-port takes. -/
def undamaged (s : State) (port : Nat) (f : List Byte) : Prop := fcsOk f = true ∧ 64 ≤ f.length ∧ f.length ≤ s.maxFrame port

/-- What an UP sub-port does with an undamaged frame. -/
def frameWhole (s : State) (port lane : Nat) (f : List Byte) : State :=
  if port = 8 then (s.frameCounted port f).steerM0 f
  else match (if (s.linkOf port f).etype = 0x8808 then some (s.frameCounted port f)
      else (s.frameCounted port f).police port lane (s.classOf port f) f.length) with
    | none => (s.frameCounted port f).count (ethCtr port) 0x0B 1
    | some s2 =>
      if s.obj (0x2500 + 16 * port) 8 < s2.cellsHeldBy port + ceilDiv f.length 256 then s2.count (ethCtr port) 0x0A 1
      else s2.steer port lane (s.classOf port f) 0 f

theorem frameReceive_down (h : (s.sub (4 * port + lane)).link ≠ .up) (b : Bool) : s.frameReceive port lane b f = s := if_pos h

theorem frameReceive_undamaged (hup : (s.sub (4 * port + lane)).link = .up) (h : s.undamaged port f) :
    s.frameReceive port lane false f = s.frameWhole port lane f := by
  obtain ⟨hfcs, hmin, hmax⟩ := h
  have hshort : decide (f.length < 64) = false := decide_eq_false (Nat.not_lt.2 hmin)
  have hlong : decide (s.maxFrame port < f.length) = false := decide_eq_false (Nat.not_lt.2 hmax)
  rw [frameReceive, if_neg (not_not.2 hup)]
  simp only [hfcs, hshort, hlong, Bool.not_true, Bool.or_false, bnat_false, Nat.mul_zero, Nat.add_zero, if_true, count_zero,
    List.take_of_length_le hmax]
  rfl

section
variable (hport : port < 8)
include hport

theorem frameWhole_policed (htype : (s.linkOf port f).etype ≠ 0x8808)
    (hover : (s.frameCounted port f).police port lane (s.classOf port f) f.length = none) :
    s.frameWhole port lane f = (s.frameCounted port f).count (ethCtr port) 0x0B 1 := by
  rw [frameWhole, if_neg (by omega), if_neg htype, hover]

theorem frameWhole_passes (htype : (s.linkOf port f).etype ≠ 0x8808) {s2 : State}
    (hpass : (s.frameCounted port f).police port lane (s.classOf port f) f.length = some s2) : s.frameWhole port lane f =
    if s.obj (0x2500 + 16 * port) 8 < s2.cellsHeldBy port + ceilDiv f.length 256 then s2.count (ethCtr port) 0x0A 1
    else s2.steer port lane (s.classOf port f) 0 f := by
  rw [frameWhole, if_neg (by omega), if_neg htype, hpass]

theorem frameWhole_control (htype : (s.linkOf port f).etype = 0x8808) : s.frameWhole port lane f =
    if s.obj (0x2500 + 16 * port) 8 < (s.frameCounted port f).cellsHeldBy port + ceilDiv f.length 256
    then (s.frameCounted port f).count (ethCtr port) 0x0A 1
    else (s.frameCounted port f).steer port lane (s.classOf port f) 0 f := by
  rw [frameWhole, if_neg (by omega), if_pos htype]

end

theorem linkOf_count (i b n : Nat) : (s.count i b n).linkOf port f = s.linkOf port f := by rw [linkOf, linkOf, count_obj]

theorem portMac_count (i b n : Nat) : (s.count i b n).portMac port lane = s.portMac port lane := by
  simp only [portMac, blob, count_blobs]

theorem frameCounted_linkOf : (s.frameCounted port f).linkOf port f = s.linkOf port f := (linkOf_count _ _ _).trans (linkOf_count _ _ _)

theorem frameCounted_foreignDst (l : Link) : (s.frameCounted port f).foreignDst port lane l = s.foreignDst port lane l := by
  simp only [foreignDst, frameCounted, portMac_count]

/-- A PFC frame to the port or to a group address. -/
theorem steer_pfc (htype : (s.linkOf port f).etype = 0x8808) (hcode : beAt f (s.linkOf port f).body 2 = 0x0101)
    (hown : s.foreignDst port lane (s.linkOf port f) = false) (tc : Nat) :
    (s.frameCounted port f).steer port lane tc 0 f = (s.frameCounted port f).pfcTake port lane (s.linkOf port f) f := by
  simp only [steer, frameCounted_linkOf, frameCounted_foreignDst, hown, htype, hcode, Bool.false_eq_true, if_false, if_true, ne_eq, not_true]

/-- A frame to another address goes to the cluster alone. -/
theorem steer_foreign (hforeign : s.foreignDst port lane (s.linkOf port f) = true) (tc : Nat) :
    (s.frameCounted port f).steer port lane tc 0 f = (s.frameCounted port f).clusterTake port lane tc 0 f := by
  simp only [steer, frameCounted_linkOf, frameCounted_foreignDst, hforeign, if_true]

/-! Pauses (R317) -/

/-- A frame is a PFC frame on a data port. -/
def isPfc (s : State) (port : Nat) (f : List Byte) : Prop :=
  port < 8 ∧ (s.linkOf port f).etype = 0x8808 ∧ beAt f (s.linkOf port f).body 2 = 0x0101

theorem exec_pfcReceive (hrun : s.running = true) (h : s.isPfc port f) :
    exec (.pfcReceive port lane f) s = .next (s.frameReceive port lane false f) := live_guarded s _ hrun h

theorem exec_pfcReceive_other (h : ¬ s.isPfc port f) : exec (.pfcReceive port lane f) s = .next s := live_unguarded s _ h

theorem num_setNum_ne {m : Sparse Nat} {k x : Nat} (v : Nat) (h : k ≠ x) : (m.setNum k v).num x = m.num x := Sparse.get_set_ne _ _ h

theorem paused_pauseClass (t q : Nat) : ((s.pauseClass port lane t q).sub (4 * port + lane)).paused =
    (s.sub (4 * port + lane)).paused.setNum t (if q = 0 then 0 else s.now + s.bitTime port (512 * q)) := by
  rw [pauseClass, sub_setSub]

theorem sub_count (i b n k : Nat) : (s.count i b n).sub k = s.sub k := by rw [sub, sub, count_eth]

/-- One class's step of a PFC frame leaves the pause of a class that the frame does not name. -/
theorem paused_step {t x : Nat} {l : Link} (hno : bit (beAt f (l.body + 2) 2) t = false) (u : State) {P : Prop} [Decidable P] :
    ((if bit (beAt f (l.body + 2) 2) x = true ∧ P then u.pauseClass port lane x (beAt f (l.body + 4 + 2 * x) 2) else u).sub
      (4 * port + lane)).paused.num t = (u.sub (4 * port + lane)).paused.num t := by
  split
  next h =>
    rw [paused_pauseClass, num_setNum_ne]
    rintro rfl
    rw [hno] at h
    exact absurd h.1 (by decide)
  · rfl

theorem paused_pfcTake {t : Nat} {l : Link} (hno : bit (beAt f (l.body + 2) 2) t = false) :
    ((s.pfcTake port lane l f).sub (4 * port + lane)).paused.num t = (s.sub (4 * port + lane)).paused.num t :=
  (foldl_keep (fun u : State => (u.sub (4 * port + lane)).paused.num t) _ (fun u _ => paused_step hno u) _ _).trans
    (congrArg (fun v : SubPort => v.paused.num t) (sub_count _ _ _ _))

section
variable {t : Nat} (hup : (s.sub (4 * port + lane)).link = .up) (hoff : bit (s.sub (4 * port + lane)).off t = true) (ht : t < 8)
include hup hoff ht

theorem not_repeatIdle : ¬ ((s.sub (4 * port + lane)).link ≠ .up ∨ (!bit (s.sub (4 * port + lane)).off t) = true ∨ 8 ≤ t) := by
  simp only [hup, hoff, ne_eq, not_true, Bool.not_true, Bool.false_eq_true, false_or]
  omega

theorem exec_pfcRepeat_due (hrun : s.running = true) (hen : bit (s.obj (0x2501 + 16 * port) 6) t = true)
    (hdue : (s.sub (4 * port + lane)).xoffAt.num t + s.bitTime port (512 * 32768) ≤ s.now) : exec (.pfcRepeat port lane t) s =
    .next (s.setSub (4 * port + lane) { s.sub (4 * port + lane) with
      xoffAt := (s.sub (4 * port + lane)).xoffAt.setNum t s.now
      pfcDue := (s.sub (4 * port + lane)).pfcDue ++ [s.pfcFrame port lane (s.sub (4 * port + lane)).off 0xFFFF] }) :=
  (live_unless _ hrun (not_repeatIdle hup hoff ht)).trans
    (congrArg _ ((if_neg (by simp [hen])).trans (if_neg (Nat.not_lt.2 hdue))))

/-- A class that PFC_ENABLE no longer admits ends at its repeat (log 69). -/
theorem exec_pfcRepeat_barred (hrun : s.running = true) (hen : bit (s.obj (0x2501 + 16 * port) 6) t = false) :
    exec (.pfcRepeat port lane t) s =
    .next (s.setSub (4 * port + lane) { s.sub (4 * port + lane) with off := (s.sub (4 * port + lane)).off - 2 ^ t }) :=
  (live_unless _ hrun (not_repeatIdle hup hoff ht)).trans (congrArg _ (if_pos (by simp [hen])))

end

end Sys2Proof.Machine.State

open Sys2Proof Sys2Proof.Machine Sys2Proof.Claims

/-- Settles O40: an undamaged frame takes the branches of `frameWhole`; a class that a PFC frame does not name keeps its pause. -/
theorem framesAreReceivedAndPausesKept : Obligations.FramesAreReceivedAndPausesKept := by
  intro s port lane f hrun k v c l s1 whole room
  have hreceive (b : Bool) : exec (.frameReceive port lane f b) s = .next (s.frameReceive port lane b f) := State.live_running s _ hrun
  have hwhole (hup : v.link = .up) (h : s.undamaged port f) : exec (.frameReceive port lane f false) s = .next (s.frameWhole port lane f) :=
    (hreceive false).trans (congrArg _ (State.frameReceive_undamaged hup h))
  refine ⟨fun hdown b => ?_, ?_, ?_, ?_, ?_, ?_, fun htype => State.exec_pfcReceive_other fun h => htype h.2.1,
    fun t q => ?_, fun t hpast => ?_, fun t hearly => ?_, fun t hup hoff ht hen hdue => ?_,
    fun t hup hoff ht hen => State.exec_pfcRepeat_barred hup hoff ht hrun hen, fun t hon => ?_⟩
  · rw [hreceive, State.frameReceive_down hdown]
  · rintro ⟨hup, hport, hfcs, hmin, hmax⟩ htype hover
    rw [hwhole hup ⟨hfcs, hmin, hmax⟩, State.frameWhole_policed hport htype hover]
    rfl
  · rintro s2 ⟨hup, hport, hfcs, hmin, hmax⟩ htype hpass
    rw [hwhole hup ⟨hfcs, hmin, hmax⟩, State.frameWhole_passes hport htype hpass]
    exact ⟨fun hfull => congrArg _ (if_pos (Nat.lt_of_not_le hfull)), fun hroom => congrArg _ (if_neg (Nat.not_lt.2 hroom))⟩
  · intro hup hport hfcs hmin hmax
    rw [hwhole hup ⟨hfcs, hmin, hmax⟩, State.frameWhole, if_pos hport]
    rfl
  · rintro ⟨hup, hport, hfcs, hmin, hmax⟩ htype hcode
    rw [State.exec_pfcReceive hrun ⟨hport, htype, hcode⟩, State.frameReceive_undamaged hup ⟨hfcs, hmin, hmax⟩,
      State.frameWhole_control hport htype]
    refine ⟨fun hroom hown => ?_, fun hroom hforeign => ?_, fun hfull => congrArg _ (if_pos (Nat.lt_of_not_le hfull))⟩
    · exact congrArg _ ((if_neg (Nat.not_lt.2 hroom)).trans (State.steer_pfc htype hcode hown _))
    · exact congrArg _ ((if_neg (Nat.not_lt.2 hroom)).trans (State.steer_foreign hforeign _))
  · intro t _ u hu w hno
    exact (State.paused_pfcTake hno).trans (congrArg (·.num t) hu)
  · rw [State.paused_pauseClass, State.num_setNum]
  · exact ⟨_, State.live_guarded s _ hrun hpast, by rw [State.sub_setSub, State.num_setNum], fun j hj => State.sub_setSub_ne s _ _ hj.symm, rfl⟩
  · exact State.live_unguarded s _ (Nat.not_le.2 hearly)
  · refine ⟨_, State.exec_pfcRepeat_due hup hoff ht hrun hen hdue, ?_, ?_, rfl⟩
    · rw [State.sub_setSub]
    · rw [State.sub_setSub, State.num_setNum]
  · exact State.live_blocked _ (.inr (.inl (by rw [show bit (s.sub (4 * port + lane)).off t = false from hon]; rfl)))
end
section
/-! A sub-port sends, and its link changes state (R308, R309, R315, R319, R321). -/

namespace Sys2Proof.Machine

/-- The frame at the head of a queue bears the gate's close that refused it (R319). -/
def SubPort.withHeld (v : SubPort) (n r : Nat) (f : TxFrame) (u : Nat) : SubPort :=
  { v with queues := Sparse.set (fun _ => []) v.queues (16 * n + r) ({ f with held := u + 1 } :: (v.queue n r).drop 1) }

namespace State

open Claims

variable {s : State} {port lane n : Nat}

/-! The next frame (R315) -/

theorem sub_emit (o : Output) (k : Nat) : (s.emit o).sub k = s.sub k := rfl

theorem exec_frameTransmit (hrun : s.running = true) : exec (.frameTransmit port lane) s = .next (s.transmit port lane) :=
  live_running s _ hrun

theorem transmit_idle (h : (s.sub (4 * port + lane)).link ≠ .up ∨ s.now < (s.sub (4 * port + lane)).busyUntil) :
    s.transmit port lane = s := if_pos h

section
variable (hup : (s.sub (4 * port + lane)).link = .up) (hfree : (s.sub (4 * port + lane)).busyUntil ≤ s.now)
include hup hfree

theorem not_sendBlocked : ¬ ((s.sub (4 * port + lane)).link ≠ .up ∨ s.now < (s.sub (4 * port + lane)).busyUntil) :=
  not_or.2 ⟨not_not.2 hup, Nat.not_lt.2 hfree⟩

theorem transmit_queued (hpfc : (s.sub (4 * port + lane)).pfcDue = []) :
    s.transmit port lane = (s.dropLong port lane).transmitFrom port lane 8 := by
  rw [transmit, if_neg (not_sendBlocked hup hfree)]
  simp only [hpfc]

theorem transmit_pfc {p : List Byte} {rest : List (List Byte)} (hpfc : (s.sub (4 * port + lane)).pfcDue = p :: rest) :
    s.transmit port lane = (((((s.setSub (4 * port + lane) { s.sub (4 * port + lane) with
      pfcDue := rest
      busyUntil := s.now + s.bitTime port (((withFcs p).length + 20) * 8) }).emit (.frame port lane (withFcs p))).count
        (ethCtr port) 3 1).count (ethCtr port) 4 (withFcs p).length).count (ethCtr port) 0x0D 1) := by
  rw [transmit, if_neg (not_sendBlocked hup hfree)]
  simp only [hpfc]

end

/-- No frame is longer than MAX_FRAME allows (R309). -/
theorem dropLong_short (h : ∀ x ∈ (s.sub (4 * port + lane)).queues.flatMap (·.2), max 60 x.bytes.length + 4 ≤ s.maxFrame port) :
    s.dropLong port lane = s := by
  refine if_pos ?_
  rw [List.isEmpty_iff, List.filter_eq_nil_iff]
  exact fun x hx => by simpa using h x hx

/-! The class that sends (R315, R319, R321) -/

theorem transmitFrom_empty (h : s.txHead (s.sub (4 * port + lane)) n = none) :
    s.transmitFrom port lane (n + 1) = s.transmitFrom port lane n := by
  rw [transmitFrom, h]

section
variable {r : Nat} {f : TxFrame} (hhead : s.txHead (s.sub (4 * port + lane)) n = some (r, f))
include hhead

theorem transmitFrom_barred (h : s.now < (s.sub (4 * port + lane)).paused.num n ∨ bit (s.openGates port) n = false) :
    s.transmitFrom port lane (n + 1) = s.transmitFrom port lane n := by
  rw [transmitFrom, hhead]
  exact if_pos (h.elim .inl fun h => .inr (.inl (by rw [h]; rfl)))

section
variable (hpause : (s.sub (4 * port + lane)).paused.num n ≤ s.now) (hgate : bit (s.openGates port) n = true)
  (hshaper : port = 8 ∨ s.shaperRate port n = 0 ∨ 0 ≤ s.shaperLevel port lane n)
include hpause hgate hshaper

omit hhead in
theorem not_classBarred : ¬ (s.now < (s.sub (4 * port + lane)).paused.num n ∨ (!bit (s.openGates port) n) = true ∨
    (port ≠ 8 ∧ s.shaperRate port n ≠ 0 ∧ s.shaperLevel port lane n < 0)) := by
  rintro (h | h | ⟨h8, hrate, hlevel⟩)
  · omega
  · simp [hgate] at h
  · exact hshaper.elim h8 fun h => h.elim hrate (by omega)

theorem transmitFrom_starts (hfits : s.fitsGate port n (withFcs f.bytes).length = none) :
    s.transmitFrom port lane (n + 1) = s.startFrame port lane n r f := by
  rw [transmitFrom, hhead]
  simp only [if_neg (not_classBarred hpause hgate hshaper), hfits]

theorem transmitFrom_refused {u : Nat} (hfits : s.fitsGate port n (withFcs f.bytes).length = some u) :
    s.transmitFrom port lane (n + 1) = if f.held = u + 1 then s.transmitFrom port lane n
      else ((s.setSub (4 * port + lane) ((s.sub (4 * port + lane)).withHeld n r f u)).count (ethCtr port) 0x10 1).transmitFrom port lane n := by
  rw [transmitFrom, hhead]
  simp only [if_neg (not_classBarred hpause hgate hshaper), hfits]
  rfl

end

end

/-! The link's state (R308, R387) -/

/-- A sub-port that comes up, with its event. -/
def broughtUp (s : State) (port lane : Nat) : State :=
  (s.setSub (4 * port + lane) { s.sub (4 * port + lane) with link := .up, busyUntil := s.now }).subEvent 2 port lane

theorem exec_subportUp (hrun : s.running = true) (htrain : (s.sub (4 * port + lane)).link = .training)
    (hruns : s.subportRuns port lane = true) : exec (.subportUp port lane) s = .next
    (let t := if port = 8 ∨ bit ((s.broughtUp port lane).obj 0x2C00 3) 0 then (s.broughtUp port lane).announce port lane else s.broughtUp port lane
     if port = 8 then t else t.pfcTick port) :=
  live_unless _ hrun (by simp [htrain, hruns])

theorem exec_subportUp_idle (h : (s.sub (4 * port + lane)).link ≠ .training) : exec (.subportUp port lane) s = .next s :=
  live_blocked _ (.inl h)

theorem subDown_up (hup : (s.sub (4 * port + lane)).link = .up) : s.subDown port lane =
    (((s.leaveUp port lane .training).subEvent 1 port lane).count (ethCtr port) 0x13 1).raiseSource 11 := by
  rw [subDown, dropSub, if_pos hup]

theorem leaveUp_empty (hq : (s.sub (4 * port + lane)).queues = []) (next : LinkState) : (s.leaveUp port lane next).sub (4 * port + lane) =
    { s.sub (4 * port + lane) with link := next, queues := [], paused := [], off := 0, xoffAt := [], pfcDue := [] } := by
  simp only [leaveUp, hq, List.flatMap_nil, discardFrames, List.foldl_nil, List.length_nil]
  rw [count_zero, sub_setSub]

/-- The 1 s window of PORT_DEGRADED that an instant lies in. -/
def degradedWindow (s : State) : Nat := s.now / 1000000000000

theorem exec_subportDegraded_known (h : (s.sub (4 * port + lane)).degraded = s.degradedWindow + 1) :
    exec (.subportDegraded port lane) s = .next s := live_blocked _ (.inr h)

theorem exec_subportDegraded (hrun : s.running = true) (hup : (s.sub (4 * port + lane)).link = .up)
    (hnew : (s.sub (4 * port + lane)).degraded ≠ s.degradedWindow + 1) : exec (.subportDegraded port lane) s = .next
    (((if port = 8 then s else s.countSince (ethCtr port) 0x11 (s.obj (0x2500 + 16 * port) 0x0A) (s.degradedWindow * 1000000000000)).setSub
      (4 * port + lane) { s.sub (4 * port + lane) with degraded := s.degradedWindow + 1 }).subEvent 3 port lane) :=
  live_unless _ hrun (not_or.2 ⟨not_not.2 hup, hnew⟩)

end State

end Sys2Proof.Machine

open Sys2Proof Sys2Proof.Machine Sys2Proof.Claims

/-- Settles O41: sending by the branches of `transmit` and `transmitFrom`, the link by its commands' guards. -/
theorem subportsSendAndChangeState : Obligations.SubportsSendAndChangeState := by
  intro s port lane hrun k v
  have hsend : exec (.frameTransmit port lane) s = .next (s.transmit port lane) := State.exec_frameTransmit hrun
  refine ⟨fun h => hsend.trans (congrArg _ (State.transmit_idle h)), fun p r hup hfree hpfc => ?_,
    fun hup hfree hpfc => hsend.trans (congrArg _ (State.transmit_queued hup hfree hpfc)), State.dropLong_short,
    fun n => State.transmitFrom_empty, fun n r f hhead => State.transmitFrom_barred hhead,
    fun n r f hhead hpause hgate hshaper => State.transmitFrom_starts hhead hpause hgate hshaper,
    fun n r f u hhead hpause hgate hshaper hfits => ?_, fun hport htrain hruns => ?_, fun hport htrain hruns => ?_,
    State.exec_subportUp_idle, fun hup => ?_, fun hdown => State.live_blocked _ hdown, fun hq n => ?_,
    fun hup hnew => State.exec_subportDegraded hrun hup hnew, fun _ => State.exec_subportDegraded_known, fun x hx hport hl => ?_, fun x hx => ?_⟩
  · refine ⟨_, hsend.trans (congrArg _ (State.transmit_pfc hup hfree hpfc)), ?_, ?_, ?_, ?_⟩
    · simp only [State.count_out, State.emit_out, State.setSub_out]
    · simp only [State.sub_count, State.sub_emit, k, State.sub_setSub]
    · simp only [State.sub_count, State.sub_emit, k, v, State.sub_setSub]
    · simp only [State.count_mem, State.emit_mem, State.setSub_mem]
  · rw [State.transmitFrom_refused hhead hpause hgate hshaper hfits]
    exact ⟨fun h => if_pos h, fun h => if_neg h⟩
  · rw [State.exec_subportUp hrun htrain hruns]
    simp only [show port ≠ 8 by omega, false_or, if_false]
    rfl
  · exact (State.exec_subportUp hrun htrain hruns).trans (congrArg _ ((if_pos hport).trans (if_pos (.inl hport))))
  · rw [State.exec_subportDown hrun hup, State.subDown_up hup]
  · rw [State.leaveUp_empty hq]
    exact ⟨rfl, rfl, rfl, rfl⟩
  · exact State.liveLedger_unless _ hrun hl (by omega)
  · rw [show exec (.ethLinkEnableWrite port x) s = s.liveLedger (if 1 < x ∨ 8 < port then s else s.ethEnable port x) from rfl,
      if_pos (.inl hx), State.liveLedger_self]
end
section
/-! Raw queues (R397 to R399). -/

namespace Sys2Proof.Machine.State

open Claims

variable {s : State} {q : Nat} {r : RawQueue}

/-! ENABLE (R397) -/

/-- A queue's frames and pegs are gone before it starts. -/
def withoutRaw (s : State) (q : Nat) : State :=
  (List.range 4).foldl (fun st k => st.setHubPeg (st.rawPeg q k) 0) (if s.obj (rawObj q) 1 = 1 then s.dropRaw q else s)

theorem rawEnable_accepted (h : s.rawMayEnable q = true) : s.rawEnable q =
    some (((s.withoutRaw q).setRaw q (some ⟨0, 0, [], [], [], 0, false⟩)).setObj (rawObj q) 1 0 1) := if_neg (by simp [h])

theorem rawEnable_rejected (h : s.rawMayEnable q = false) : s.rawEnable q = none := if_pos (by simp [h])

theorem raw_setObj (i b n v k : Nat) : (s.setObj i b n v).raw k = s.raw k := rfl

theorem rawQueueEnable_answers (hrun : s.running = true) (hl : 0 < s.level) (h : s.rawMayEnable q = true) :
    answers (.rawQueueEnable q) s fun t => t.raw q = some ⟨0, 0, [], [], [], 0, false⟩ ∧ t.obj (rawObj q) 1 = 1 :=
  ⟨_, liveLedger_some hrun hl (rawEnable_accepted h), (raw_setObj _ _ _ _ _).trans (raw_setRaw _ _ _), obj_setObj _ _ _ _ _⟩

theorem exec_rawQueueEnable_rejected (h : s.rawMayEnable q = false) : exec (.rawQueueEnable q) s = .next s := by
  rw [show exec (.rawQueueEnable q) s = s.liveLedger ((s.rawEnable q).getD s) from rfl, rawEnable_rejected h]
  exact liveLedger_self s

theorem exec_rawQueueDisable (hrun : s.running = true) (hl : 0 < s.level) : exec (.rawQueueDisable q) s = .next (s.rawDisable q) :=
  liveLedger_running s _ hrun hl

theorem rawDisable_off (h : s.raw q = none) : s.rawDisable q = s.setObj (rawObj q) 1 0 0 := by rw [rawDisable, h]

theorem rawDisable_closing (h : s.raw q = some r) (hc : r.closing = true) : s.rawDisable q = s := by
  rw [rawDisable, h]
  exact if_pos hc

theorem rawDisable_open (h : s.raw q = some r) (hc : r.closing = false) : s.rawDisable q =
    ((r.offered.foldl (fun u x => u.rawDone q x.1 0x0D 0 x.2) (s.rawUnqueue q)).rawFlush q true).pfcTick (s.rawPort q) := by
  rw [rawDisable, h]
  exact if_neg (by simp [hc])

theorem raw_pfcTick (port k : Nat) : (s.pfcTick port).raw k = s.raw k :=
  congrArg (fun c : ClusterState => Sparse.get (fun _ => none) c.raws k) (frames_clu (besideFrames_pfcTick s port))

theorem obj_pfcTick (port i b n : Nat) : (s.pfcTick port).obj i b n = s.obj i b n :=
  congrArg (fun m : Sparse Nat => Sparse.get objDefault m (objKey i b n)) (frames_vals (besideFrames_pfcTick s port))

/-- A queue that closes with nothing posted and nothing held ends at once. -/
theorem rawFlush_closes (h : s.raw q = some r) (hheld : r.held = []) (hposted : s.rawPosted q r.txNext = 0) :
    s.rawFlush q true = ((((s.setRaw q (some { r with flush := 0, closing := true, inbox := [] })).setRaw q none).setObj
      (rawObj q) 1 0 0)).pfcTick (s.rawPort q) := by
  rw [rawFlush, h]
  simp only [hposted, Nat.zero_min, if_true]
  rw [rawGoOn, raw_setRaw]
  simp only [hheld, List.length_nil]
  rw [rawSettle, raw_setRaw]
  simp only [Nat.lt_irrefl, if_false, if_true]
  rfl

theorem rawUnqueue_raw : (s.rawUnqueue q).raw q = s.raw q := rfl

theorem rawUnqueue_rawPosted (i : Nat) : (s.rawUnqueue q).rawPosted q i = s.rawPosted q i := rfl

theorem rawDisable_quiet (h : s.raw q = some r) (hc : r.closing = false) (hnone : r.offered = []) (hheld : r.held = [])
    (hposted : s.rawPosted q r.txNext = 0) : (s.rawDisable q).raw q = none ∧ (s.rawDisable q).obj (rawObj q) 1 = 0 := by
  rw [rawDisable_open h hc, hnone, List.foldl_nil, rawFlush_closes (r := r) (rawUnqueue_raw.trans h) hheld
    ((rawUnqueue_rawPosted _).trans hposted)]
  constructor
  · rw [raw_pfcTick, raw_pfcTick]
    exact raw_setRaw _ _ _
  · rw [obj_pfcTick, obj_pfcTick, obj_setObj]

/-! Descriptors (R398) -/

theorem exec_rawTxDescriptor (hrun : s.running = true) : exec (.rawTxDescriptor q) s = .next (s.rawTake q) := live_running s _ hrun

theorem rawTake_waits (h : s.raw q = some r) (hw : r.waits = true) : s.rawTake q = s.rawGoOn q := by
  rw [rawTake, h]
  exact if_pos hw

theorem rawTake_idle (h : s.raw q = some r) (hw : r.waits = false) (hidle : s.rawServed q = false ∨ s.rawPosted q r.txNext = 0) :
    s.rawTake q = s := by
  rw [rawTake, h]
  exact (if_neg (by simp [hw])).trans (if_pos (hidle.imp_left fun h => by simp [h]))

/-- The queue has passed a descriptor. -/
def pastDescriptor (r : RawQueue) : RawQueue := { r with txNext := (r.txNext + 1) % 2 ^ 32 }

/-- A descriptor completes with a status, and the queue has passed it. -/
def rawEnds (t : State) (q : Nat) (r : RawQueue) (status cookie : Nat) : State :=
  (t.setRaw q (some (pastDescriptor r))).rawDone q r.txNext status 0 cookie

/-- Bytes of the queue's region are read: the state after the read holds the bytes `bs`. -/
def reads (s : State) (q off len : Nat) (bs : List Byte) (t : State) : Prop :=
  ∃ ps s1, s.rawRange q off len false = (.ok ps, s1) ∧ s1.piecesReady ps = true ∧ s1.readPieces ps = (some bs, t)

theorem reads_of_parts {off len : Nat} {bs : List Byte} {ps : List Piece} (hps : (s.rawRange q off len false).1 = .ok ps)
    (hready : (s.rawRange q off len false).2.piecesReady ps = true) (hread : ((s.rawRange q off len false).2.readPieces ps).1 = some bs) :
    s.reads q off len bs ((s.rawRange q off len false).2.readPieces ps).2 :=
  ⟨ps, _, Prod.ext hps rfl, hready, Prod.ext hread rfl⟩

section
variable {d : List Byte} {s2 : State} (h : s.raw q = some r) (hw : r.waits = false) (hserved : s.rawServed q = true)
  (hposted : s.rawPosted q r.txNext ≠ 0)
  (hread : s.reads q (s.obj (rawObj q) 5 + 32 * (r.txNext % 2 ^ s.obj (rawObj q) 6)) 32 d s2)
include h hw hserved hposted hread

theorem rawTake_malformed (h2 : s2.raw q = some r) (hbad : s2.rawBad q r.txNext d = true) :
    s.rawTake q = s2.rawEnds q r 0x0E (leAt d 0x18 4) := by
  obtain ⟨ps, s1, hplace, hready, hbytes⟩ := hread
  rw [rawTake, h]
  simp only [hw, hserved, hposted, hplace, hready, hbytes, hbad, h2, Bool.false_eq_true, if_false, Bool.not_true, or_self, if_true]
  rfl

section
variable {f : List Byte} {s4 : State} (hgood : s2.rawBad q r.txNext d = false) (hframe : s2.reads q (leAt d 0 8) (leAt d 8 2) f s4)
include hgood hframe

theorem rawTake_spoofed (h4 : s4.raw q = some r)
    (hspoof : s4.obj (rawObj q) 0x0C = 0 ∧ slice f 6 6 ≠ s4.portMac (s4.rawPort q) (s4.rawLane q)) :
    s.rawTake q = s4.rawEnds q r 0x12 (leAt d 0x18 4) := by
  obtain ⟨ps, s1, hplace, hready, hbytes⟩ := hread
  obtain ⟨fs, s3, hplace', hready', hbytes'⟩ := hframe
  rw [rawTake, h]
  simp only [hw, hserved, hposted, hplace, hready, hbytes, hgood, hplace', hready', hbytes', if_pos hspoof, h4, Bool.false_eq_true, if_false,
    Bool.not_true, or_self]
  rfl

/-- A frame with an honest source address, neither one-step nor tagged, meets the sub-port's link. -/
theorem rawTake_honest (hhonest : ¬ (s4.obj (rawObj q) 0x0C = 0 ∧ slice f 6 6 ≠ s4.portMac (s4.rawPort q) (s4.rawLane q)))
    (hone : bit (leAt d 0x0A 1) 1 = false) (htag : bit (leAt d 0x0A 1) 2 = false) (h4 : s4.raw q = some r) :
    s.rawTake q = if (s4.sub (4 * s4.rawPort q + s4.rawLane q)).link ≠ .up then
        (s4.count (ethCtr (s4.rawPort q)) 0x0F 1).rawEnds q r 0x0D (leAt d 0x18 4)
      else (s4.setRaw q (some { pastDescriptor r with offered := r.offered ++ [(r.txNext, leAt d 0x18 4)] })).offerFrame (s4.rawPort q) (s4.rawLane q)
        ((s4.setRaw q (some { pastDescriptor r with offered := r.offered ++ [(r.txNext, leAt d 0x18 4)] })).classOf (s4.rawPort q) f) 8
        ⟨f, .raw q r.txNext, bit (leAt d 0x0A 1) 0, false, 0⟩ := by
  have hcounted : (s4.count (ethCtr (s4.rawPort q)) 0x0F 1).raw q = some r := by rw [raw, count_clu]; exact h4
  obtain ⟨ps, s1, hplace, hready, hbytes⟩ := hread
  obtain ⟨fs, s3, hplace', hready', hbytes'⟩ := hframe
  rw [rawTake, h]
  simp only [hw, hserved, hposted, hplace, hready, hbytes, hgood, hplace', hready', hbytes', if_neg hhonest, hone, htag, hcounted,
    Bool.false_eq_true, false_and, if_false, Bool.not_true, or_self]
  rfl

end

end

/-! Received frames (R399) -/

theorem exec_rawRxFrame (hrun : s.running = true) (hserved : s.rawServed q = true) : exec (.rawRxFrame q) s = .next (s.rawDeliver q) :=
  live_guarded s _ hrun hserved

theorem rawDeliver_waits (h : s.raw q = some r) (hw : r.waits = true) : s.rawDeliver q = s.rawGoOn q := by
  rw [rawDeliver, h]
  exact if_pos hw

section
variable {f : RxFrame} {rest : List RxFrame} (h : s.raw q = some r) (hw : r.waits = false) (hin : r.inbox = f :: rest)
include h hw hin

theorem rawDeliver_dropped (hno : 2 ^ s.obj (rawObj q) 8 ≤ subMod (2 ^ 32) r.rxNext (s.hubPeg (s.rawPeg q 3)) ∨ s.obj (rawObj q) 9 < f.bytes.length) :
    s.rawDeliver q = ((s.setRaw q (some { r with inbox := rest })).count 0x5700 0x0A 1).pfcTick f.port := by
  rw [rawDeliver, h]
  simp only [hw, hin, Bool.false_eq_true, if_false]
  exact if_pos hno

/-- The place of the slot that takes the queue's next frame. -/
def slotPlace (s : State) (q : Nat) (r : RawQueue) : Nat :=
  s.obj (rawObj q) 7 + 32 * 2 ^ s.obj (rawObj q) 8 + s.obj (rawObj q) 9 * (r.rxNext % 2 ^ s.obj (rawObj q) 8)

theorem rawDeliver_placed (hslot : subMod (2 ^ 32) r.rxNext (s.hubPeg (s.rawPeg q 3)) < 2 ^ s.obj (rawObj q) 8)
    (hfits : f.bytes.length ≤ s.obj (rawObj q) 9) (hwhole : f.flags = 0)
    (hplace : (s.rawRange q (s.slotPlace q r) f.bytes.length true).1 ≠ .wait) : s.rawDeliver q =
      ((((((s.rawRange q (s.slotPlace q r) f.bytes.length true).2.setRaw q (some { r with inbox := rest, rxNext := (r.rxNext + 1) % 2 ^ 32 })).rawWrite q
        (s.slotPlace q r) f.bytes none).rawWrite q (s.obj (rawObj q) 7 + 32 * (r.rxNext % 2 ^ s.obj (rawObj q) 8))
        ([0, BitVec.ofNat 8 f.tc] ++ leBytes 2 f.bytes.length ++ leBytes 4 r.rxNext ++ leBytes 8 f.stamp ++
          [BitVec.ofNat 8 f.lane] ++ List.replicate 15 0) (some (s.rawPeg q 2))).count 0x5700 9 1)).pfcTick f.port := by
  have hroom : ¬ (2 ^ s.obj (rawObj q) 8 ≤ subMod (2 ^ 32) r.rxNext (s.hubPeg (s.rawPeg q 3)) ∨ s.obj (rawObj q) 9 < f.bytes.length) := by omega
  rw [rawDeliver, h]
  simp only [hw, hin, Bool.false_eq_true, if_false, if_neg hroom, hwhole, if_true]
  unfold slotPlace at hplace ⊢
  split
  next s1 hw => exact absurd (congrArg Prod.fst hw) hplace
  next res s1 hres => rw [hres]; rfl

end

end Sys2Proof.Machine.State

open Sys2Proof Sys2Proof.Machine Sys2Proof.Claims

/-- Settles O43: ENABLE, a descriptor and a received frame each by the branch of its function that the clause names. -/
theorem rawQueuesSendAndReceive : Obligations.RawQueuesSendAndReceive := by
  intro s q hrun o
  refine ⟨fun hl h => State.rawQueueEnable_answers hrun hl h, State.exec_rawQueueEnable_rejected, fun hl h => ?_, fun r hl h hc => ?_,
    fun r hl h hc => ⟨?_, fun hnone hheld hposted => ?_⟩, fun r h hw => ⟨?_, fun hserved => ?_⟩, fun r h hw hidle => ?_, ?_, ?_⟩
  · rw [State.exec_rawQueueDisable hrun hl, State.rawDisable_off h]
  · rw [State.exec_rawQueueDisable hrun hl, State.rawDisable_closing h hc]
  · rw [State.exec_rawQueueDisable hrun hl, State.rawDisable_open h hc]
  · exact ⟨_, State.exec_rawQueueDisable hrun hl, State.rawDisable_quiet h hc hnone hheld hposted⟩
  · rw [State.exec_rawTxDescriptor hrun, State.rawTake_waits h hw]
  · rw [State.exec_rawRxFrame hrun hserved, State.rawDeliver_waits h hw]
  · rw [State.exec_rawTxDescriptor hrun, State.rawTake_idle h hw hidle]
  · intro r ps d h hw hserved hposted a s2 hps hready hread h2 i cookie next
    have hdesc : s.reads q _ 32 d s2 := State.reads_of_parts hps hready hread
    refine ⟨fun hbad => ?_, ?_⟩
    · rw [State.exec_rawTxDescriptor hrun, State.rawTake_malformed h hw hserved hposted hdesc h2 hbad]
      rfl
    · intro hgood fs f b s4 hfs hfready hfread h4 honest
      have hframe : s2.reads q _ _ f s4 := State.reads_of_parts hfs hfready hfread
      have hlow {x : Nat} (hx : x % 8 / 2 = 0) : bit x 1 = false ∧ bit x 2 = false := by
        simp only [bit, beq_eq_false_iff_ne]
        omega
      have hnot (hh : honest) : ¬ (s4.obj o 0x0C = 0 ∧ slice f 6 6 ≠ s4.portMac (s4.rawPort q) (s4.rawLane q)) := fun ⟨h0, hne⟩ =>
        hh.elim (· h0) hne
      refine ⟨fun hspoof => ?_, fun hhonest hflags hdown => ?_, fun hhonest hflags hup => ?_⟩
      · rw [State.exec_rawTxDescriptor hrun, State.rawTake_spoofed h hw hserved hposted hdesc hgood hframe h4 (by simpa [honest, not_or] using hspoof)]
        rfl
      · rw [State.exec_rawTxDescriptor hrun,
          State.rawTake_honest h hw hserved hposted hdesc hgood hframe (hnot hhonest) (hlow hflags).1 (hlow hflags).2 h4, if_pos hdown]
        rfl
      · rw [State.exec_rawTxDescriptor hrun,
          State.rawTake_honest h hw hserved hposted hdesc hgood hframe (hnot hhonest) (hlow hflags).1 (hlow hflags).2 h4, if_neg (not_not.2 hup)]
        rfl
  · intro r f rest h hw hserved hin n slots u
    refine ⟨fun hno => ?_, ?_⟩
    · rw [State.exec_rawRxFrame hrun hserved, State.rawDeliver_dropped h hw hin hno]
    · intro hslot hfits hwhole a hplace s2 s3 record
      rw [State.exec_rawRxFrame hrun hserved, State.rawDeliver_placed h hw hin hslot hfits hwhole hplace]
      rfl
end
section
/-! NVME_IO entries (R393). -/

namespace Sys2Proof.Machine.State

open Claims

variable {s : State} {f i op : Nat} {e : Entry}

/-- An NVME_IO that may start starts, whichever row takes its operation. -/
theorem exec_nvmeIo {c : Instr} (h : (op, c) ∈ [(0, Instr.nvmeFlush f i), (1, .nvmeWrite f i), (2, .nvmeRead f i)])
    (hready : ready s f i e 0x48) (hop : e.u8 0x0A = op) : exec c s = .next (s.startIo f e) := by
  have hrow (k : Nat) (hk : op = k) : s.live (s.runEntry f i [0x48] fun x t => if x.u8 0x0A = k then t.startIo f x else t) =
      .next (s.startIo f e) := (live_ready hready _).trans (congrArg _ (if_pos (hop.trans hk)))
  simp only [List.mem_cons, Prod.mk.injEq, List.not_mem_nil, or_false] at h
  obtain ⟨h, rfl⟩ | ⟨h, rfl⟩ | ⟨h, rfl⟩ := h
  · exact hrow 0 h
  · exact hrow 1 h
  · exact hrow 2 h

theorem startIo_foreign (h : s.obj (connObj (e.u16 8)) 1 ≠ 128 + f) : s.startIo f e = s.complete f e 0x12 (leBytes 2 (e.u16 8)) :=
  if_pos (.inl h)

section Owned
variable (hown : s.obj (connObj (e.u16 8)) 1 = 128 + f) (hsig : e.sig = true → s.ownsPeg f e.sigPeg = true)
include hown hsig

theorem startIo_permitted : ¬ (s.obj (connObj (e.u16 8)) 1 ≠ 128 + f ∨ (e.sig ∧ !s.ownsPeg f e.sigPeg)) := by
  rintro (h | ⟨hs, hpeg⟩)
  · exact h hown
  · rw [hsig hs] at hpeg
    exact absurd hpeg (by decide)

theorem startIo_unready (h : s.connState (e.u16 8) ≠ 2) : s.startIo f e = s.complete f e 9 (leBytes 2 (e.u16 8)) :=
  (if_neg (startIo_permitted hown hsig)).trans (if_pos (.inl h))

end Owned

/-- An entry with 8 commands out issues no more. -/
theorem pumpIo_full {x : NvmeIo} (h8 : 8 ≤ x.cmds.length) (hx : s.findIo f i = some x) (n : Nat) : s.pumpIo f i n = s := by
  cases n with
  | zero => rfl
  | succ n =>
    rw [pumpIo, hx]
    exact if_pos (.inr (.inr (.inl h8)))

/-- A command's capsule; only a Flush has none of its dwords. -/
theorem issueOne_out {x : NvmeIo} (hop : x.op ≠ 0) :
    let k := min (x.blocks - x.issued) (min 65536 (Config.nvmeMdts x.conn (s.conn x.conn).session + 1))
    (s.issueOne x).out = s.out ++ [.nvme x.conn (capsule (s.digests x.conn) x.op (s.conn x.conn).nextCid x.nsid (k * x.block)
      (leBytes 8 (x.slba + x.issued) ++ leBytes 4 (k - 1 + (if x.fua then 2 ^ 30 else 0))))] := by
  intro k
  simp only [issueOne, if_neg hop]
  rw [count_out]
  rfl

theorem issueOne_mem (x : NvmeIo) : (s.issueOne x).mem = s.mem := count_mem _ _ _ _

end Sys2Proof.Machine.State

open Sys2Proof Sys2Proof.Machine Sys2Proof.Claims

/-- Settles O44: an entry that may start runs `startIo`, whose branches the clauses follow. -/
theorem nvmeEntriesIssueTheirCommands : Obligations.NvmeEntriesIssueTheirCommands := by
  unfold Obligations.NvmeEntriesIssueTheirCommands
  intro s f i op c e hrow hready hop n v size blocks bytes
  have hstart := State.exec_nvmeIo hrow hready hop
  refine ⟨fun h => hstart.trans (congrArg _ (State.startIo_foreign h)),
    fun hown hsig h => hstart.trans (congrArg _ (State.startIo_unready hown hsig h)), ?served,
    fun u x h8 hx => State.pumpIo_full h8 hx 8, fun u x hx => ⟨State.issueOne_out hx, State.issueOne_mem x⟩⟩
  case served =>
    intro b hown hsig hst hserved hbuf k xts s1 key
    have hready : ¬ (s.connState n ≠ 2 ∨ !s.connServed n) := by simp [hst, hserved]
    refine hstart.trans (congrArg _ ?_)
    subst hop
    rw [State.startIo, hbuf]
    exact (if_neg (State.startIo_permitted hown hsig)).trans ((if_neg hready).trans rfl)

end
section
/-! Telemetry, the cluster's watchdog and the device's time (R386, R401 to R403, R462, R488, R489). -/

namespace Sys2Proof.Machine

/-- A fold each of whose steps leaves the state as it is. -/
theorem foldl_fixed_of_mem {α β : Type} {g : α → β → α} {l : List β} {t : α} (h : ∀ k ∈ l, g t k = t) : l.foldl g t = t := by
  induction l with
  | nil => rfl
  | cons k l ih =>
    rw [List.foldl_cons, h k List.mem_cons_self]
    exact ih fun j hj => h j (List.mem_cons_of_mem k hj)

namespace State

open Claims

variable {s : State} {k : Nat}

/-! Streams (R401 to R403) -/

/-- A stream's next record falls due at n. -/
def withDue (s : State) (k n : Nat) : State := { s with clu := { s.clu with due := s.clu.due.setNum k n } }

theorem withDue_obj (n i b x : Nat) : (s.withDue k n).obj i b x = s.obj i b x := rfl

theorem withDue_due (n : Nat) : (s.withDue k n).clu.due.num k = n := num_setNum _ _ _

theorem streamNext_eq (due : Nat) : s.streamNext k due = (s.setObj (streamObj k) 11 0 ((s.obj (streamObj k) 11 + 1) % 2 ^ 32)).withDue k
    (due + s.obj (streamObj k) 2 * 1000000000 + 1) := by
  rw [streamNext, obj_setObj_sub s (by decide) (by decide) (by decide), withDue]

theorem streamNext_sequence (due : Nat) : (s.streamNext k due).obj (streamObj k) 11 = (s.obj (streamObj k) 11 + 1) % 2 ^ 32 := by
  rw [streamNext_eq, withDue_obj, obj_setObj]

theorem streamNext_due (due : Nat) : (s.streamNext k due).clu.due.num k = due + s.obj (streamObj k) 2 * 1000000000 + 1 := by
  rw [streamNext_eq, withDue_due]

theorem streamTake_early (h : s.clu.due.num k = 0 ∨ s.now + 1 < s.clu.due.num k) : s.streamTake k = s := if_pos (h.imp_right .inl)

/-- A record that is due, before the next one is, goes out as a datagram. -/
theorem streamTake_udp (hon : s.clu.due.num k ≠ 0) (hdue : s.clu.due.num k ≤ s.now + 1) (hruns : s.telemetryRuns = true)
    (hnext : s.now + 1 - s.clu.due.num k < s.obj (streamObj k) 2 * 1000000000) (hudp : s.obj (streamObj k) 3 = 0) :
    s.streamTake k = (s.streamUdp k).streamNext k (s.clu.due.num k - 1) := by
  have hgo : ¬ (s.clu.due.num k = 0 ∨ s.now + 1 < s.clu.due.num k ∨ !s.telemetryRuns) := by
    rw [hruns]
    rintro (h | h | h)
    · exact hon h
    · exact absurd hdue (Nat.not_le.2 h)
    · exact absurd h (by decide)
  refine (if_neg hgo).trans ?_
  rw [Nat.div_eq_of_lt hnext, streamSkips, if_pos hudp]

theorem exec_telemetryEnable (hrun : s.running = true) (hk : k < 8) (hl : 0 < s.level) :
    exec (.telemetryEnable k) s = .next ((s.putObj (streamObj k) 1 0 1).streamEnable k 1) := live_guarded s _ hrun ⟨hk, hl⟩

theorem exec_telemetryRecord_early (h : s.clu.due.num k = 0 ∨ s.now + 1 < s.clu.due.num k) : exec (.telemetryRecord k) s = .next s := by
  refine (congrArg s.live ?_).trans (live_self s)
  rw [streamTake_early h, ite_self]

theorem exec_telemetryRecord (hrun : s.running = true) (hk : k < 8) : exec (.telemetryRecord k) s = .next (s.streamTake k) :=
  live_guarded s _ hrun hk

/-! The cluster's watchdog (R386) -/

/-- The watchdog's own effect: the fault, no service, and the line of source 13. -/
def withoutServices (s : State) : State := ((s.setObj 0x2C00 1 0 2).setObj 0x2C00 3 0 0).setCondition 13 true

theorem withoutServices_clu : s.withoutServices.clu = s.clu := (congrArg State.clu (setCondition_frame _ 13 true) :)

theorem withoutServices_obj (i b n : Nat) : s.withoutServices.obj i b n = ((s.setObj 0x2C00 1 0 2).setObj 0x2C00 3 0 0).obj i b n :=
  (congrArg (fun u : State => u.obj i b n) (setCondition_frame _ 13 true) :)

theorem withoutServices_connState {c : Nat} (hc : c < 64) : s.withoutServices.connState c = s.connState c := by
  have hother : 0x2C00 ≠ connObj c := by unfold connObj; omega
  rw [connState, withoutServices_obj, obj_setObj_ne, obj_setObj_ne, connState] <;>
    exact objKey_ne (by decide) (by decide) (by decide) (by decide) (.inl hother)

/-- With nothing at the services the watchdog ends none of their work. -/
theorem clusterFails_idle (hon : s.obj 0x2C00 1 = 1) (hios : s.clu.ios = []) (hconn : ∀ c, c < 64 → s.connState c ≠ 1 ∧ s.connState c ≠ 2)
    (hraw : ∀ q, q < 32 → s.raw q = none) : s.clusterFails = s.withoutServices := by
  have hconns : (List.range 64).foldl (fun st c => if st.connState c = 1 ∨ st.connState c = 2 then st.leaveConn c 3 9 none else st)
      s.withoutServices = s.withoutServices := foldl_fixed_of_mem fun c hc => by
    have hc' := List.mem_range.1 hc
    rw [withoutServices_connState hc', if_neg (not_or.2 (hconn c hc'))]
  have hraws : ∀ q, q < 32 → s.withoutServices.raw q = none := fun q hq => by
    rw [raw, withoutServices_clu]
    exact hraw q hq
  refine (if_neg (not_not.2 hon)).trans ?_
  change List.foldl _ (List.foldl _ (List.foldl _ s.withoutServices s.withoutServices.clu.ios) _) _ = _
  rw [withoutServices_clu, hios, List.foldl_nil, hconns]
  refine foldl_fixed_of_mem fun q hq => ?_
  rw [hraws q (List.mem_range.1 hq)]

theorem clusterWatchdogExpiry_answers (hrun : s.running = true) (hon : s.obj 0x2C00 1 = 1) (hios : s.clu.ios = [])
    (hconn : ∀ c, c < 64 → s.connState c ≠ 1 ∧ s.connState c ≠ 2) (hraw : ∀ q, q < 32 → s.raw q = none) :
    answers .clusterWatchdogExpiry s fun t => t.obj 0x2C00 1 = 2 ∧ t.obj 0x2C00 3 = 0 ∧ t.clu = s.clu ∧
      (s.line 13 = FaultLine.down → (t.line 13).up = true) := by
  refine ⟨_, (live_running s _ hrun).trans (congrArg _ (clusterFails_idle hon hios hconn hraw)), ?_, ?_, withoutServices_clu, fun h => ?_⟩
  · rw [withoutServices_obj, obj_setObj_sub _ (by decide) (by decide) (by decide), obj_setObj]
  · rw [withoutServices_obj, obj_setObj]
  · exact setCondition_rises (s := (s.setObj 0x2C00 1 0 2).setObj 0x2C00 3 0 0) h

theorem exec_clusterWatchdogExpiry_off (h : s.obj 0x2C00 1 ≠ 1) : exec .clusterWatchdogExpiry s = .next s :=
  (congrArg s.live (if_pos h)).trans (live_self s)

/-! TIME_STEP and the PPS pins (R462, R488, R489) -/

theorem exec_timeStep_steered {v : Nat} (h : s.timeServiceRuns = true) : exec (.timeStep v) s = .next s := by
  have hnone : s.timeStep (signed 64 v) = none := if_pos (.inl h)
  rw [show exec (.timeStep v) s = s.liveLedger ((s.timeStep (signed 64 v)).getD s) from rfl, hnone]
  exact liveLedger_self s

theorem ppsOutHigh_until {u : Nat} (h : s.pw.ppsOutUntil = some u) : s.ppsOutHigh = decide (s.now < u) := by rw [ppsOutHigh, h]

/-- The state after a rise of PPS_OUT that lasts until u. -/
def risenPps (s : State) (u : Nat) : State := { s with pw := { s.pw with ppsDue := false, ppsOutUntil := some u } }

theorem risenPps_high {u : Nat} (h : s.now < u) : (s.risenPps u).ppsOutHigh = true :=
  (ppsOutHigh_until rfl).trans (decide_eq_true h)

theorem ppsOutPulse_answers (hrun : s.running = true) (hdue : s.pw.ppsDue = true) : answers .ppsOutPulse s fun t =>
    t.ppsOutHigh = true ∧ t.pw.ppsOutUntil = some (s.now + 10000000000) ∧ t.pw.ppsDue = false :=
  ⟨s.risenPps (s.now + 10000000000), live_guarded s _ hrun hdue, risenPps_high (Nat.lt_add_of_pos_right (by decide)), rfl, rfl⟩

theorem exec_ppsOutPulse_idle (h : s.pw.ppsDue = false) : exec .ppsOutPulse s = .next s :=
  (congrArg s.live (if_neg (by rw [h]; decide))).trans (live_self s)

theorem ppsInEdge_answers (hrun : s.running = true) (hon : s.obj 0x2600 5 = 1) (hfirst : s.pw.ppsInAt = none) :
    answers .ppsInEdge s fun t => t.obj 0x2600 6 = s.deviceTime - 20 ∧ t.pw.ppsInAt = some s.now ∧ t.out = s.out := by
  refine ⟨_, live_running s _ hrun, ?_⟩
  rw [ppsIn, hfirst]
  rw [if_neg (by simp [hon])]
  exact ⟨obj_setObj s _ 6 0 _, rfl, rfl⟩

theorem exec_ppsInEdge_early {u : Nat} (hat : s.pw.ppsInAt = some u) (h : s.now < u + 100000000000) : exec .ppsInEdge s = .next s := by
  refine (congrArg s.live ?_).trans (live_self s)
  rw [ppsIn, hat]
  exact if_pos (.inr (decide_eq_true h))

end State
end Sys2Proof.Machine

open Sys2Proof Sys2Proof.Machine Sys2Proof.Claims

/-- Settles O46: streams, the watchdog of an idle cluster, and the time pins, a clause at a time. -/
theorem telemetryClusterAndTime : Obligations.TelemetryClusterAndTime := by
  unfold Obligations.TelemetryClusterAndTime
  intro s hrun
  refine ⟨fun k hk hl => State.exec_telemetryEnable hrun hk hl, fun k => ⟨State.streamNext_sequence _, State.streamNext_due _⟩,
    fun k => State.exec_telemetryRecord_early,
    fun k hk hon hdue hruns hnext hudp => (State.exec_telemetryRecord hrun hk).trans
      (congrArg _ (State.streamTake_udp hon hdue hruns hnext hudp)),
    State.clusterWatchdogExpiry_answers hrun, State.exec_clusterWatchdogExpiry_off, fun v hl => State.exec_timeStep hrun hl,
    fun v => State.exec_timeStep_steered, State.ppsOutPulse_answers hrun, State.exec_ppsOutPulse_idle, State.ppsInEdge_answers hrun,
    fun u => State.exec_ppsInEdge_early⟩

end
section
/-! READs of a secure queue pair (R422). -/

namespace Sys2Proof.Machine.State

variable {s : State} {f : Nat} {e : Entry} {q : Qp}

/-- A READ of a secure QP whose buffer is found ends before any packet leaves. -/
theorem entryReq_secureRead {b : BufRef} {x : List Piece × BufRef} (hop : e.opcode = 0x12) (hsa : q.attr.sa ≠ 0) (howner : q.owner = some f)
    (hstate : q.state = .rts) (hbuf : e.buf 0x0C = some b) (hx : s.localBuf f b (e.u64 0x18) true = .inr x) :
    s.entryReq f e q = .inr 0x12 := by
  unfold entryReq
  simp only [hop, howner, hstate, hbuf, hrtOp, Nat.reduceEqDiff, reduceCtorEq, ne_eq, not_true_eq_false, or_self, false_and, if_false, if_true,
    true_or, decide_true, hx, hsa, not_false_eq_true, and_self]

/-- A chain of checks that ends on the left has passed its first. -/
theorem passes_of_ite_inr {α β : Type} {P : Prop} [Decidable P] {b : β} {x : α ⊕ β} {a : α} (h : (if P then .inr b else x) = .inl a) :
    ¬ P ∧ x = .inl a := by
  by_cases hp : P
  · rw [if_pos hp] at h
    cases h
  · exact ⟨hp, (if_neg hp).symm.trans h⟩

/-- An entry's request on a secure QP is no READ. -/
theorem entryReq_op_ne_read {r : HrtReq} (hsa : q.attr.sa ≠ 0) (h : s.entryReq f e q = .inl r) : r.op ≠ 3 := by
  unfold entryReq at h
  obtain ⟨-, h⟩ := passes_of_ite_inr h
  obtain ⟨-, h⟩ := passes_of_ite_inr h
  obtain ⟨-, h⟩ := passes_of_ite_inr h
  obtain ⟨-, h⟩ := passes_of_ite_inr h
  split at h
  case h_1 => cases h
  case h_2 =>
    split at h
    case h_1 => cases h
    case h_2 =>
      obtain ⟨hread, h⟩ := passes_of_ite_inr h
      obtain ⟨-, h⟩ := passes_of_ite_inr h
      cases h
      exact fun hop => hread ⟨hsa, hop⟩

/-- A key can fail a READ_REQ in one way only: the alignment is an atomic's. -/
theorem keyCheck_read {d n c : Nat} {p : HrtPkt} (hop : p.op = 3) (h : s.keyCheck d p n = some c) : c = 0x20 := by
  by_cases hreach : s.KeyReaches d p n
  · have haligned : s.KeyAligned p := fun hatomic => absurd hatomic (by omega)
    rw [keyCheck_of_reaches hreach, if_neg (not_not.2 haligned)] at h
    split_ifs at h
    exact (Option.some.inj h).symm
  · rw [keyCheck_of_not_reaches hreach] at h
    exact (Option.some.inj h).symm

theorem readCheck_secure {p : HrtPkt} (hsa : q.attr.sa ≠ 0) (hop : p.op = 3) : s.readCheck q p = some 0x20 := by
  rw [readCheck]
  cases hkey : s.keyCheck (q.owner.getD 0) p p.len with
  | none => exact if_pos hsa
  | some c => exact congrArg some (keyCheck_read hop hkey)

/-- A secure QP's new READ_REQ fails its checks at arrival. -/
theorem newOrdered_secureRead {n psn : Nat} {x : HrtIn} {p : HrtPkt} (hsa : (s.qp n).attr.sa ≠ 0) (hop : p.op = 3) :
    s.newOrdered n psn x p = some (s.fatalNak n 0x20 psn) := by
  have harrival : s.arrivalCheck n psn p = some (.inl (s.fatalNak n 0x20 psn)) := by
    simp only [arrivalCheck, if_pos hop, readCheck_secure hsa hop]
  rw [newOrdered, harrival]

end Sys2Proof.Machine.State

open Sys2Proof Sys2Proof.Machine

/-- Settles O33: the requester's checks and the responder's each refuse the READ. -/
theorem secureQueuePairCarriesNoRead : Obligations.SecureQueuePairCarriesNoRead := by
  unfold Obligations.SecureQueuePairCarriesNoRead
  exact ⟨fun s f e q b x hop hsa howner hstate hbuf hx => State.entryReq_secureRead hop hsa howner hstate hbuf hx,
    fun s f e q r hsa h => State.entryReq_op_ne_read hsa h, fun s n psn x p hsa hop => State.newOrdered_secureRead hsa hop⟩

end
section
/-! Keys, KEKs, the fused version and secrets (R411 to R413, R418, R427, R441, R443). -/

namespace Sys2Proof.Machine.State

open Claims

variable {s : State} {d : Nat}

/-- A point that does not decode leaves the drawer without a KEK, and no unwrap is counted. -/
theorem kekLoad_undecoded {b : List Byte} (h : P384.decode (b.take 97) = none) : s.kekLoad d b = (s.emptySlots d).kekFailed d 0 := by
  rw [kekLoad, h]

theorem kekFailed_zero_ctr (i b : Nat) : (s.kekFailed d 0).ctr i b = s.ctr i b := rfl

theorem exec_kekLoad {b : List Byte} (hrun : s.running = true) (hl : 0 < s.level) (hd : d < 128) (hb : b.length = 137) :
    exec (.kekLoad d b) s = .next (s.kekLoad d b) := liveLedger_guarded _ hrun hl ⟨hd, hb⟩

/-- ROOT runs at Stage 2, and the count of failed unwraps stands at 2^64, past what a U64 holds. -/
def overcounted : State :=
  let s : State := { reset with pw := { PowerState.reset with mainUp := true, rootLocked := true } }
  (s.setObj 0x2000 1 0 2).setCtr 0x5800 5 (2 ^ 64)

theorem overcounted_running : overcounted.running = true := rfl
theorem overcounted_level : overcounted.level = 2 := obj_setObj _ 0x2000 1 0 2
theorem overcounted_ctr : overcounted.ctr 0x5800 5 = 2 ^ 64 := ctr_setCtr _ 0x5800 5 _

theorem satAdd_lt (a b : Nat) : satAdd 64 a b < 2 ^ 64 := by
  unfold satAdd
  omega

/-- A blob for KEK_LOAD whose point does not decode. -/
def zeroKek : List Byte := List.replicate 137 0

theorem zeroKek_length : zeroKek.length = 137 := List.length_replicate

theorem zeroKek_undecoded : P384.decode (zeroKek.take 97) = none := by decide

/-- There a KEK_LOAD that unwraps nothing leaves the count as it is. -/
theorem kekLoad_overcounted : (overcounted.kekLoad 0 zeroKek).ctr 0x5800 5 = 2 ^ 64 := by
  rw [kekLoad_undecoded zeroKek_undecoded, kekFailed_zero_ctr]
  exact overcounted_ctr

end Sys2Proof.Machine.State

open Sys2Proof Sys2Proof.Machine Sys2Proof.Claims

/-- Refutes O47: the clause of KEK_LOAD with a point that does not decode asks that the count of failed unwraps is its old value and 0, saturated,
and asks nothing of that value. The command leaves the count as it is, so in the state `overcounted`, whose count is 2^64, the clause fails. -/
theorem not_keysAreLoadedAndCleared : ¬ Obligations.KeysAreLoadedAndCleared := by
  unfold Obligations.KeysAreLoadedAndCleared
  intro h
  have hl : 0 < State.overcounted.level := by rw [State.overcounted_level]; decide
  obtain ⟨-, -, -, -, hundecoded, -⟩ := h State.overcounted 0 State.overcounted_running hl (by decide)
  obtain ⟨t, ht, -, hctr, -⟩ := hundecoded State.zeroKek State.zeroKek_length State.zeroKek_undecoded
  rw [State.exec_kekLoad State.overcounted_running hl (by decide) State.zeroKek_length] at ht
  cases ht
  have hlt := State.satAdd_lt (State.overcounted.ctr 0x5800 5) 0
  rw [← hctr, State.kekLoad_overcounted] at hlt
  exact absurd hlt (Nat.lt_irrefl _)

end
section
/-! Requests of a session in sequence (R438, R442, R444, R445). -/

namespace Sys2Proof.Machine.State

variable {s : State} {n type : Nat} {b : List Byte} {c : Instr} {m : Msg} {ss : Session} {key : List Byte}

/-- The request rows and the types that they take (R438). -/
def ledgerRows (n : Nat) (b : List Byte) : List (Nat × Instr) :=
  [(1, .ledgerRead n b), (2, .ledgerWrite n b), (3, .domainRead n b), (4, .domainBegin n b), (5, .domainSegment n b), (6, .domainEnd n b),
    (7, .domainAbort n b), (0x10, .heartbeat n b), (0x11, .subscribe n b), (0x13, .notifyAck n b), (0x22, .close n b)]

/-- Each row takes its own type, and refuses every other type of a request. -/
theorem exec_ledgerRow (h : (type, c) ∈ ledgerRows n b) : ∃ take : Nat → Bool,
    exec c s = s.live (s.jorolRow take n b) ∧ take type = true ∧ ∀ t, t ≠ type → requestType t = true → take t = false := by
  have hother {k : Nat} : ∀ t, t ≠ k → requestType t = true → (t == k) = false := fun t ht _ => beq_false_of_ne ht
  simp only [ledgerRows, List.mem_cons, Prod.mk.injEq, List.not_mem_nil, or_false] at h
  obtain ⟨rfl, rfl⟩ | ⟨rfl, rfl⟩ | ⟨rfl, rfl⟩ | ⟨rfl, rfl⟩ | ⟨rfl, rfl⟩ | ⟨rfl, rfl⟩ | ⟨rfl, rfl⟩ | ⟨rfl, rfl⟩ | ⟨rfl, rfl⟩ | ⟨rfl, rfl⟩ |
    ⟨rfl, rfl⟩ := h
  · exact ⟨_, rfl, rfl, fun t ht hreq => by simp [ht, hreq]⟩
  all_goals exact ⟨_, rfl, rfl, hother⟩

/-! A row's message (R438, R442) -/

section Row
variable {take : Nat → Bool} (hparse : Msg.parse (n != 0) b = some m)
include hparse

theorem jorolRow_other (h : take m.type = false) : s.jorolRow take n b = s := by
  rw [jorolRow, hparse]
  exact if_pos (.inl (by rw [h]; rfl))

variable (htake : take m.type = true)
include htake

theorem jorolRow_mailbox (h : n = 0) : s.jorolRow take n b = s.mailboxRun m.seq b := by
  rw [jorolRow, hparse]
  exact (if_neg (by simp [htake, h])).trans (if_pos h)

theorem jorolRow_session (h1 : 1 ≤ n) (h16 : n ≤ 16) : s.jorolRow take n b = s.jorolRequest n m := by
  rw [jorolRow, hparse]
  exact (if_neg (by rw [htake]; simpa using h16)).trans (if_neg (by omega))

end Row

theorem jorolRequest_badTag (h : s.checkTag n m = none) : s.jorolRequest n m = s.count 0x5900 2 1 := by rw [jorolRequest, h]

theorem jorolRequest_tagged (h : s.checkTag n m = some (ss, key)) :
    s.jorolRequest n m = (s.sessionRequest n ss key 1396 m).2.jorolSend (s.sessionRequest n ss key 1396 m).1 := by rw [jorolRequest, h]

/-! The sequence of a session's requests (R444) -/

/-- The session has been used now. -/
def usedNow (s : State) (n : Nat) (ss : Session) : State := s.setSession n (some { ss with lastUse := s.now })

theorem sessionRequest_ack (h : m.type = 0x13) : s.sessionRequest n ss key 1396 m =
    (some (sealed key ((s.usedNow n ss).handle (s.requesterOf ss) n 1396 m).1), ((s.usedNow n ss).handle (s.requesterOf ss) n 1396 m).2) :=
  if_pos h

section InSequence
variable (htype : m.type ≠ 0x13)
include htype

theorem sessionRequest_again (hd : subMod (2 ^ 32) m.seq ss.lastSeq = 0) (hcached : ss.cached ≠ []) :
    s.sessionRequest n ss key 1396 m = (some ss.cached, s.usedNow n ss) :=
  (if_neg htype).trans ((if_pos hd).trans (by rw [if_neg hcached]; rfl))

theorem sessionRequest_old (hd : 2 ^ 31 ≤ subMod (2 ^ 32) m.seq ss.lastSeq) :
    s.sessionRequest n ss key 1396 m = (none, s.count 0x5900 4 1) :=
  (if_neg htype).trans ((if_neg (by omega)).trans (if_pos hd))

section New
variable (hpos : 0 < subMod (2 ^ 32) m.seq ss.lastSeq) (hahead : subMod (2 ^ 32) m.seq ss.lastSeq < 2 ^ 31)
include hpos hahead

theorem sessionRequest_closed (h : ((s.usedNow n ss).handle (s.requesterOf ss) n 1396 m).2.session n = none) :
    s.sessionRequest n ss key 1396 m =
      (some (sealed key ((s.usedNow n ss).handle (s.requesterOf ss) n 1396 m).1), ((s.usedNow n ss).handle (s.requesterOf ss) n 1396 m).2) := by
  refine (if_neg htype).trans ((if_neg hpos.ne').trans ((if_neg (Nat.not_le.2 hahead)).trans ?_))
  unfold usedNow at h ⊢
  dsimp only
  rw [h]

theorem sessionRequest_new {s2 : Session} (h : ((s.usedNow n ss).handle (s.requesterOf ss) n 1396 m).2.session n = some s2)
    (hid : s2.id = ss.id) : s.sessionRequest n ss key 1396 m =
      (some (sealed key ((s.usedNow n ss).handle (s.requesterOf ss) n 1396 m).1),
        ((s.usedNow n ss).handle (s.requesterOf ss) n 1396 m).2.setSession n (some { s2 with
          lastSeq := m.seq, cached := sealed key ((s.usedNow n ss).handle (s.requesterOf ss) n 1396 m).1 })) := by
  refine (if_neg htype).trans ((if_neg hpos.ne').trans ((if_neg (Nat.not_le.2 hahead)).trans ?_))
  unfold usedNow at h ⊢
  dsimp only
  rw [h]
  exact congrArg (Prod.mk _) (if_pos hid)

end New
end InSequence
end Sys2Proof.Machine.State

open Sys2Proof Sys2Proof.Machine Sys2Proof.Claims

/-- Settles O48: a row takes its type; then the tag is checked, and the distance from the last sequence number decides. -/
theorem requestsAreTakenInSequence : Obligations.RequestsAreTakenInSequence := by
  unfold Obligations.RequestsAreTakenInSequence
  intro s n type b c m hrow hrun hparse
  obtain ⟨take, hexec, htake, hother⟩ := State.exec_ledgerRow (s := s) hrow
  have hrow (u : State) (h : s.jorolRow take n b = u) : exec c s = .next u := by rw [hexec, h]; exact State.live_running s u hrun
  refine ⟨fun ht hn => hrow _ (State.jorolRow_mailbox hparse (ht ▸ htake) hn),
    fun ht h1 h16 htag => hrow _ ((State.jorolRow_session hparse (ht ▸ htake) h1 h16).trans (State.jorolRequest_badTag htag)),
    fun ht hreq => hrow _ (State.jorolRow_other hparse (hother _ ht hreq)), fun ss key ht h1 h16 htag => ?_⟩
  have htagged (o : Option (List Byte)) (u : State) (h : s.sessionRequest n ss key 1396 m = (o, u)) : exec c s = .next (u.jorolSend o) := by
    refine hrow _ ((State.jorolRow_session hparse (ht ▸ htake) h1 h16).trans ((State.jorolRequest_tagged htag).trans ?_))
    rw [h]
  subst ht
  exact ⟨fun h13 hd hcached => htagged _ _ (State.sessionRequest_again h13 hd hcached),
    fun h13 hd => htagged _ _ (State.sessionRequest_old h13 hd),
    fun h13 hpos hahead hclosed => htagged _ _ (State.sessionRequest_closed h13 hpos hahead hclosed),
    fun s2 h13 hpos hahead hopen hid => htagged _ _ (State.sessionRequest_new h13 hpos hahead hopen hid),
    fun h13 => htagged _ _ (State.sessionRequest_ack h13)⟩

end
section
/-! What a ledger request does (R438, R439, R447, R448, R451, R455). -/

namespace Sys2Proof.Machine.State

variable {s t u : State} {q : Requester} {k l idx sub inst off n : Nat} {m : Msg} {bs : List Byte}

/-! The checks before a request is served (R438, R448) -/

theorem handle_malformed (h : m.wellMade = false) : s.handle q k l m = (m.answer .malformed m.offset [], s.count 0x5900 1 1) :=
  if_pos (by rw [h]; rfl)

theorem handle_busy (hmade : m.wellMade = true) (hl : s.level = 0) (hearly : m.early = false) :
    s.handle q k l m = (m.answer .busy m.offset [], s.count 0x5900 1 1) :=
  (if_neg (by rw [hmade]; decide)).trans (if_pos ⟨hl, by rw [hearly]; rfl⟩)

theorem handle_served (hmade : m.wellMade = true) (hl : 0 < s.level) : s.handle q k l m =
    (m.answer ((s.count 0x5900 1 1).serve q k l m).1 ((s.count 0x5900 1 1).serve q k l m).2.1 ((s.count 0x5900 1 1).serve q k l m).2.2.1,
      ((s.count 0x5900 1 1).serve q k l m).2.2.2) :=
  (if_neg (by rw [hmade]; decide)).trans (if_neg fun h => hl.ne' h.1)

/-! READ (R438, R455) -/

section Read
variable (htype : m.type = 1) (hone : bit m.flags 1 = false)
include htype hone

theorem serve_read_ok (h : s.checkRead q m.index m.sub m.inst m.offset false = .ok) : s.serve q k l m =
    if m.len ≠ 0 then (.length, m.offset, [], s)
    else (.ok, m.offset, (s.readOne q m.index m.sub m.inst m.offset).1, (s.readOne q m.index m.sub m.inst m.offset).2) := by
  simp only [serve, htype, hone, h, if_true, Bool.false_eq_true, if_false, true_and]

theorem serve_read_fails (h : s.checkRead q m.index m.sub m.inst m.offset false ≠ .ok) : s.serve q k l m =
    (s.checkRead q m.index m.sub m.inst m.offset false, m.offset, [], s) := by
  simp only [serve, htype, hone, if_true, Bool.false_eq_true, if_false]
  cases hc : s.checkRead q m.index m.sub m.inst m.offset false with
  | ok => exact absurd hc h
  | _ => rfl

end Read

/-! WRITE (R439) -/

theorem writeGo_rejects (is : List Item) {r : RecordInfo} : (s.writeGo t q idx inst off r is u).1 ≠ .ok →
    (s.writeGo t q idx inst off r is u).2 = s := by
  induction is generalizing u with
  | nil => exact fun h => absurd rfl h
  | cons i is ih =>
    rw [writeGo]
    split
    · split
      · exact ih
      · exact fun _ => rfl
    · exact fun _ => rfl

theorem writeAll_rejects (is : List Item) (h : (s.writeAll q idx inst off is).1 ≠ .ok) : (s.writeAll q idx inst off is).2 = s := by
  revert h
  rw [writeAll]
  split
  · exact fun _ => rfl
  · exact writeGo_rejects is

section FirstItem
variable {r : RecordInfo} {i : Item} {is : List Item}

theorem writeGo_check (h : s.checkItem t q idx inst off r i ≠ .ok) :
    s.writeGo t q idx inst off r (i :: is) u = (s.checkItem t q idx inst off r i, s) := by
  rw [writeGo]
  split
  · contradiction
  · rfl

variable (hok : s.checkItem t q idx inst off r i = .ok)
include hok

theorem writeGo_refused (h : u.writeEffect q idx i.1 inst r i.2 = none) : s.writeGo t q idx inst off r (i :: is) u = (.rejected, s) := by
  rw [writeGo, hok]
  simp only [h]

theorem writeGo_effect {w : State} (h : u.writeEffect q idx i.1 inst r i.2 = some w) :
    s.writeGo t q idx inst off r (i :: is) u = s.writeGo t q idx inst off r is w := by
  rw [writeGo, hok]
  simp only [h]

end FirstItem

theorem writeAll_eq {r : RecordInfo} (h : s.recordNow idx = some r) (is : List Item) : s.writeAll q idx inst off is =
    s.writeGo (is.foldl (fun st x => st.place idx inst r x) s) q idx inst off r is (is.foldl (fun st x => st.place idx inst r x) s) := by
  rw [writeAll, h]

/-! DOMAIN transfers (R447) -/

section Domain
variable (hok : s.checkDomain q idx sub inst = .ok)
include hok

theorem domainBegin_opens {lo hi : Nat} (hlen : domainLengths idx sub = some (lo, hi)) (hlo : lo ≤ n) (hhi : n ≤ hi)
    (hfree : s.led.domains.any (·.key == objKey idx sub inst) = false) : s.domainBegin q k idx sub inst n =
      (.ok, { s with led := { s.led with domains := s.led.domains ++ [⟨objKey idx sub inst, k, n, [], s.now⟩] } }) := by
  have hbetween : between lo hi n = true := by simp [between, hlo, hhi]
  rw [domainBegin, hok, hlen]
  simp only [hbetween, hfree, Bool.not_true, Bool.false_eq_true, if_false]

section Open
variable {w : DomainWrite} (hopen : s.openWrite k (objKey idx sub inst) = some w)
include hopen

theorem domainSegment_outOfOrder (h : n ≠ w.received.length) :
    s.domainSegment q k idx sub inst n l bs = (.segment, s.dropWrite k (objKey idx sub inst)) := by
  rw [domainSegment, hok, hopen]
  exact if_pos h

theorem domainSegment_length (hn : n = w.received.length) (h : l < bs.length ∨ w.total < n + bs.length) :
    s.domainSegment q k idx sub inst n l bs = (.length, s) := by
  rw [domainSegment, hok, hopen]
  exact (if_neg (not_not.2 hn)).trans (if_pos (.inr h))

/-- A segment is added to the transfer that takes it, which is used now. -/
def addSegment (s : State) (k key : Nat) (bs : List Byte) (x : DomainWrite) : DomainWrite :=
  if x.key == key && x.session == k then { x with received := x.received ++ bs, lastAt := s.now } else x

theorem domainSegment_taken (hn : n = w.received.length) (hbs : bs ≠ []) (hl : bs.length ≤ l) (htotal : n + bs.length ≤ w.total) :
    s.domainSegment q k idx sub inst n l bs =
      (.ok, { s with led := { s.led with domains := s.led.domains.map (s.addSegment k (objKey idx sub inst) bs) } }) := by
  rw [domainSegment, hok, hopen]
  exact (if_neg (not_not.2 hn)).trans ((if_neg (by simp [hbs]; omega)).trans rfl)

omit hok in
/-- The open transfer gets the segment's bytes. -/
theorem addSegment_openWrite : ∃ x ∈ s.led.domains.map (s.addSegment k (objKey idx sub inst) bs),
    x.received = w.received ++ bs ∧ x.key = objKey idx sub inst ∧ x.session = k := by
  have hname := List.find?_some hopen
  refine ⟨_, List.mem_map_of_mem (List.mem_of_find?_eq_some hopen), ?_⟩
  rw [addSegment, if_pos hname]
  simpa using hname

theorem domainEnd_written (hwhole : w.received.length = w.total) (h : domainOk idx w.received = true) : s.domainEnd q k idx sub inst =
    (.ok, (s.dropWrite k (objKey idx sub inst)).domainWritten idx sub inst w.received) := by
  rw [domainEnd, hok, hopen]
  exact (if_neg (not_not.2 hwhole)).trans (if_neg (by rw [h]; decide))

theorem domainEnd_reserved (hwhole : w.received.length = w.total) (h : domainOk idx w.received = false) : s.domainEnd q k idx sub inst =
    (.rejected, s.dropWrite k (objKey idx sub inst)) := by
  rw [domainEnd, hok, hopen]
  exact (if_neg (not_not.2 hwhole)).trans (if_pos (by rw [h]; rfl))

theorem domainEnd_incomplete (h : w.received.length ≠ w.total) : s.domainEnd q k idx sub inst = (.segment, s) := by
  rw [domainEnd, hok, hopen]
  exact if_pos h

theorem domainAbort_drops : s.domainAbort q k idx sub inst = (.ok, s.dropWrite k (objKey idx sub inst)) := by
  rw [domainAbort, hok, hopen]

end Open
end Domain

/-! HEARTBEAT (R451) -/

/-- The watchdog runs until a time. -/
def armedUntil (s : State) (x : Nat) : State := { s with led := { s.led with watchdog := .armed x } }

theorem watchdogTick_disarmed (h : s.led.watchdog = .disarmed) : s.watchdogTick = s := by rw [watchdogTick, h]

theorem heartbeatWrite_arms (h : s.led.watchdog = .disarmed) (hperiod : s.obj 0x2D01 2 ≠ 0) (v : Nat) :
    s.heartbeatWrite v = (s.setObj 0x2D01 1 0 v).armedUntil (s.now + s.obj 0x2D01 2 * 1000000000) := by
  rw [heartbeatWrite, watchdogTick_disarmed h, obj_setObj_sub s (by decide) (by decide) (by decide), if_neg hperiod]
  rfl

theorem armedUntil_watchdog (x : Nat) : (s.armedUntil x).led.watchdog = .armed x := rfl

theorem armedUntil_obj (x i b j : Nat) : (s.armedUntil x).obj i b j = s.obj i b j := rfl

end Sys2Proof.Machine.State

open Sys2Proof Sys2Proof.Machine Sys2Proof.Claims

/-- Settles O49: the checks of `handle`, then each type that `serve` tells apart through the function that serves it. -/
theorem requestsAreServed : Obligations.RequestsAreServed := by
  unfold Obligations.RequestsAreServed
  refine ⟨fun s q k l m => ⟨State.handle_malformed, State.handle_busy, State.handle_served⟩, fun s q k l m htype hlen hone => ⟨fun h => ?_,
    State.serve_read_fails htype hone⟩, fun s q k l m htype hlen hone => ?_, fun s q idx inst off r i is hrec => ?writes,
    fun s q idx inst off is => State.writeAll_rejects is, fun s q k idx sub inst n l bs hok => ?domains, fun s v hdis hperiod => ?_⟩
  · rw [State.serve_read_ok htype hone h, if_neg (not_not.2 hlen)]
  · by_cases h : s.checkRead q m.index m.sub m.inst m.offset false = .ok
    · rw [State.serve_read_ok htype hone h, if_pos hlen, if_pos h]
    · rw [State.serve_read_fails htype hone h, if_neg h]
  case writes =>
    intro t
    have hall := State.writeAll_eq (q := q) (inst := inst) (off := off) hrec (i :: is)
    refine ⟨fun h => hall.trans (State.writeGo_check h), fun h hnone => hall.trans (State.writeGo_refused h hnone), fun u h hsome his => ?_,
      fun h => if_pos h⟩
    rw [hall, State.writeGo_effect h hsome, his, State.writeGo]
  case domains =>
    intro key
    refine ⟨fun lo hi => State.domainBegin_opens hok, fun w hopen => State.domainSegment_outOfOrder hok hopen,
      fun w hopen => State.domainSegment_length hok hopen, fun w hopen hn hbs hl htotal => ?_,
      fun w hopen hwhole => ⟨State.domainEnd_written hok hopen hwhole, State.domainEnd_reserved hok hopen hwhole⟩,
      fun w hopen => State.domainEnd_incomplete hok hopen, fun w hopen => State.domainAbort_drops hok hopen⟩
    rw [State.domainSegment_taken hok hopen hn hbs hl htotal]
    exact ⟨rfl, State.addSegment_openWrite hopen⟩
  · rw [State.heartbeatWrite_arms hdis hperiod v, State.armedUntil_watchdog, State.armedUntil_obj, State.obj_setObj]
    exact ⟨rfl, rfl⟩

end
section
/-! Jorol sessions (R442, R444, R447, R449, R451). -/

namespace Sys2Proof.Machine.State

open Claims

variable {s : State} {b : List Byte} {m : Msg} {k : Nat} {ss : Session}

theorem session_count (i x n : Nat) : (s.count i x n).session k = s.session k := (congrArg (fun u : State => u.session k) (count_frame s i x n) :)

theorem authFails_count (i x n : Nat) : (s.count i x n).led.authFails = s.led.authFails :=
  (congrArg (fun u : State => u.led.authFails) (count_frame s i x n) :)

/-! HELLO (R442) -/

section Hello
variable (hparse : Msg.parse true b = some m) (htype : m.type = 0x20)
include hparse htype

theorem exec_hello (hrun : s.running = true) :
    exec (.hello b) s = .next ((s.hello m).2.jorolSend ((s.hello m).1.map fun a => a.encode true)) := by
  refine (live_running s _ hrun).trans (congrArg _ ?_)
  rw [hparse]
  exact if_pos htype

end Hello

/-- The half-open session of a HELLO: its ID and nonce are 20 random bytes. -/
def halfOpen (s : State) (m : Msg) : Session :=
  let r := (s.count 0x5900 1 1).randomBytes 20
  { id := (s.count 0x5900 1 1).freshId (ofBe (r.1.take 4)), credential := (nth 0 m.payload 0).toNat, clientNonce := m.payload.drop 4,
    deviceNonce := r.1.drop 4, key := none, openedAt := s.now, lastUse := s.now, lastSeq := 0, cached := [], mask := 0, notifyCtr := 0,
    unacked := [], waiting := [] }

section HelloOpens
variable (hmade : m.wellMade = true) (hfirst : m.session = 0) (hlen : m.len = 20) (hzero : slice m.payload 1 3 = [0, 0, 0])
include hmade hfirst hlen hzero

theorem hello_silenced (h : s.now < s.led.helloBlocked.num (nth 0 m.payload 0).toNat) : s.hello m = (none, s) := by
  refine (if_neg (by simp [hmade, hfirst])).trans ((if_neg (not_not.2 hlen)).trans ((if_neg (not_not.2 hzero)).trans (if_pos h)))

/-- A HELLO opens a half-open session in the free slot. -/
theorem hello_opens (hheard : s.led.helloBlocked.num (nth 0 m.payload 0).toNat ≤ s.now)
    (hfree : (List.range 16).find? (fun k => (s.session (k + 1)).isNone) = some k) : s.hello m =
      (some { m.answer .ok 0 (s.halfOpen m).deviceNonce with session := (s.halfOpen m).id },
        ((s.count 0x5900 1 1).randomBytes 20).2.setSession (k + 1) (some (s.halfOpen m))) := by
  refine (if_neg (by simp [hmade, hfirst])).trans ((if_neg (not_not.2 hlen)).trans ((if_neg (not_not.2 hzero)).trans
    ((if_neg (Nat.not_lt.2 hheard)).trans ?_)))
  rw [hfree]
  rfl

end HelloOpens

/-! AUTH (R442) -/

theorem exec_auth (hrun : s.running = true) (hparse : Msg.parse true b = some m) (htype : m.type = 0x21) :
    exec (.auth b) s = .next ((s.auth m).2.jorolSend ((s.auth m).1.map fun a => a.encode true)) := by
  refine (live_running s _ hrun).trans (congrArg _ ?_)
  rw [hparse]
  exact if_pos htype

/-- No proof of the credential has failed in a row. -/
def noFails (s : State) (c : Nat) : State := { s with led := { s.led with authFails := s.led.authFails.setNum c 0 } }

/-- One more proof of the credential has failed in a row. -/
def failsTo (s : State) (c n : Nat) : State := { s with led := { s.led with authFails := s.led.authFails.setNum c n } }

/-- The credential's HELLOs go unheard until a time. -/
def silencedUntil (s : State) (c u : Nat) : State :=
  { s with led := { s.led with authFails := s.led.authFails.setNum c 0, helloBlocked := s.led.helloBlocked.setNum c u } }

theorem noFails_session (c j : Nat) : (s.noFails c).session j = s.session j := rfl
theorem noFails_authFails (c : Nat) : (s.noFails c).led.authFails.num c = 0 := num_setNum s.led.authFails c 0
theorem failsTo_authFails (c n : Nat) : (s.failsTo c n).led.authFails.num c = n := num_setNum _ _ _
theorem silencedUntil_helloBlocked (c u : Nat) : (s.silencedUntil c u).led.helloBlocked.num c = u := num_setNum _ _ _

/-- A failed proof is counted, and the eighth in a row silences the credential. -/
theorem authFails_eq (c : Nat) : s.authFails c = if s.led.authFails.num c + 1 < 8 then (s.count 0x5900 3 1).failsTo c (s.led.authFails.num c + 1)
    else (s.count 0x5900 3 1).silencedUntil c (s.now + 1000000000000) := by
  rw [authFails, count_now]
  rfl

theorem authFails_session (c j : Nat) : (s.authFails c).session j = s.session j := by
  rw [authFails_eq]
  split <;> exact session_count _ _ _

theorem authFails_out (c : Nat) : (s.authFails c).out = s.out := by
  rw [authFails_eq]
  split <;> exact count_out _ _ _ _

theorem authFails_ctr (c : Nat) : (s.authFails c).ctr 0x5900 3 = satAdd 64 (s.ctr 0x5900 3) 1 := by
  rw [authFails_eq]
  split <;> exact ctr_count_self _ _ _ _ (by decide)

theorem authFails_few {c : Nat} (h : s.led.authFails.num c + 1 < 8) : (s.authFails c).led.authFails.num c = s.led.authFails.num c + 1 := by
  rw [authFails_eq, if_pos h, failsTo_authFails]

theorem authFails_silences {c : Nat} (h : 8 ≤ s.led.authFails.num c + 1) :
    (s.authFails c).led.helloBlocked.num c = s.now + 1000000000000 := by
  rw [authFails_eq, if_neg (Nat.not_lt.2 h), silencedUntil_helloBlocked]

section Auth
variable {secret : List Byte} (hslot : s.slotOf m.session = some k) (hss : s.session k = some ss) (hopen : ss.key = none)
  (htime : s.now < ss.openedAt + 1000000000000) (hmade : m.wellMade = true) (hlen : m.len = 32)
  (hsecret : Sparse.get (fun _ => none) s.led.secrets ss.credential = some secret)
include hslot hss hopen htime hmade hlen hsecret

/-- An AUTH of a half-open session whose credential has a secret turns on its proof. -/
theorem auth_judged : s.auth m =
    if ss.credential < 32 ∧ s.obj (0x2D10 + ss.credential) 1 ≠ 0 ∧ m.payload = hmac256 secret (proofData 0x31 ss) then
      (some (m.answer .ok 0 (hmac256 secret (proofData 0x32 ss))), ((s.count 0x5900 1 1).setSession k
        (some { ss with key := some (hmac256 secret (proofData 0x4B ss)), lastUse := s.now })).noFails ss.credential)
    else (some (m.answer .denied 0 []), (s.count 0x5900 1 1).authFails ss.credential) := by
  have hhalf : ¬ (ss.key.isSome ∨ ss.openedAt + 1000000000000 ≤ s.now) := by
    rw [hopen]
    exact not_or.2 ⟨by decide, Nat.not_le.2 htime⟩
  rw [auth, hslot]
  dsimp only
  rw [hss]
  dsimp only
  rw [hsecret]
  exact (if_neg hhalf).trans ((if_neg (by rw [hmade]; decide)).trans (if_neg (not_not.2 hlen)))

variable (hrun : s.running = true) (hparse : Msg.parse true b = some m) (htype : m.type = 0x21)
include hrun hparse htype

theorem auth_proved (hcred : ss.credential < 32) (hrole : s.obj (0x2D10 + ss.credential) 1 ≠ 0)
    (hproof : m.payload = hmac256 secret (proofData 0x31 ss)) : answers (.auth b) s fun t =>
      (∃ s2, t.session k = some s2 ∧ s2.key = some (hmac256 secret (proofData 0x4B ss)) ∧ s2.id = ss.id ∧ s2.lastUse = s.now) ∧
      t.led.authFails.num ss.credential = 0 ∧
      t.out = s.out ++ [.jorol ((m.answer .ok 0 (hmac256 secret (proofData 0x32 ss))).encode true)] := by
  refine ⟨_, exec_auth hrun hparse htype, ?_⟩
  rw [auth_judged hslot hss hopen htime hmade hlen hsecret, if_pos ⟨hcred, hrole, hproof⟩]
  exact ⟨⟨_, (noFails_session _ _).trans (session_setSession _ _ _), rfl, rfl, rfl⟩, noFails_authFails _,
    congrArg (· ++ _) (count_out _ _ _ _)⟩

theorem auth_denied (hproof : m.payload ≠ hmac256 secret (proofData 0x31 ss)) : answers (.auth b) s fun t =>
    t.session k = some ss ∧ t.out = s.out ++ [.jorol ((m.answer .denied 0 []).encode true)] ∧
    t.ctr 0x5900 3 = satAdd 64 (s.ctr 0x5900 3) 1 ∧
    (s.led.authFails.num ss.credential + 1 < 8 → t.led.authFails.num ss.credential = s.led.authFails.num ss.credential + 1) ∧
    (8 ≤ s.led.authFails.num ss.credential + 1 → t.led.helloBlocked.num ss.credential = s.now + 1000000000000) := by
  have hother : objKey 0x5900 1 0 ≠ objKey 0x5900 3 0 := by decide
  refine ⟨_, exec_auth hrun hparse htype, ?_⟩
  rw [auth_judged hslot hss hopen htime hmade hlen hsecret, if_neg fun h => hproof h.2.2]
  refine ⟨((authFails_session _ _).trans (session_count _ _ _)).trans hss,
    congrArg (· ++ _) ((authFails_out _).trans (count_out _ _ _ _)), ?_, fun h => ?_, fun h => ?_⟩
  · refine (authFails_ctr _).trans ?_
    rw [ctr_count_ne _ _ _ _ hother]
  · rw [← authFails_count 0x5900 1 1] at h
    exact (authFails_few h).trans (by rw [authFails_count])
  · rw [← authFails_count 0x5900 1 1] at h
    exact (authFails_silences h).trans (by rw [count_now])

end Auth

/-! Expiries (R442, R444, R447, R449) -/

theorem closeSession_session : (s.closeSession k).session k = none := session_setSession s k none

theorem closeSession_session_ne {j : Nat} (h : j ≠ k) : (s.closeSession k).session j = s.session j := session_setSession_ne s k none h.symm

theorem closeSession_domains : ∀ x ∈ (s.closeSession k).led.domains, x.session ≠ k := fun x hx => by
  simpa using (List.mem_filter.1 hx).2

section Expiry
variable (hss : s.session k = some ss)
include hss

theorem helloExpire_due (hopen : ss.key = none) (hdue : ss.openedAt + 1000000000000 ≤ s.now) : s.helloExpire k = s.closeSession k := by
  rw [helloExpire, hss]
  exact if_pos ⟨by rw [hopen]; rfl, hdue⟩

theorem helloExpire_established (h : ss.key ≠ none) : s.helloExpire k = s := by
  rw [helloExpire, hss]
  exact if_neg fun h' => h (Option.isNone_iff_eq_none.1 h'.1)

theorem idleExpire_due (h : ss.key ≠ none) (hdue : ss.lastUse + s.obj 0x2D00 2 * 1000000000000 ≤ s.now) : s.idleExpire k = s.closeSession k := by
  rw [idleExpire, hss]
  exact if_pos ⟨Option.isSome_iff_ne_none.2 h, hdue⟩

theorem idleExpire_early (h : s.now < ss.lastUse + s.obj 0x2D00 2 * 1000000000000) : s.idleExpire k = s := by
  rw [idleExpire, hss]
  exact if_neg fun h' => Nat.not_le.2 h h'.2

/-- The one notification that waits goes again. -/
theorem notifyAgain_one {n : Notify} (hone : ss.unacked = [n]) (hlate : n.sentAt + 10000000000 ≤ s.now) : s.notifyAgain k =
    ((s.setSession k (some { ss with unacked := [{ n with sentAt := s.now }] })).count 0x5900 5 1).emit (.jorol (notifyMessage ss n)) := by
  rw [notifyAgain, hss]
  simp only [hone, decide_eq_true hlate, List.filter_cons_of_pos, List.filter_nil, List.map_cons, List.map_nil, List.foldl_cons, List.foldl_nil, if_true]

end Expiry

/-- A transfer of the session stays where a segment has come in the last 60 s; one of another session stays. -/
theorem mem_domainExpire {x : DomainWrite} : x ∈ (s.domainExpire k).led.domains ↔
    x ∈ s.led.domains ∧ (x.session = k → s.now < x.lastAt + 60000000000000) := by
  simp only [domainExpire, List.mem_filter, Bool.not_eq_true', Bool.and_eq_false_iff, beq_eq_false_iff_ne, decide_eq_false_iff_not, Nat.not_le,
    ne_eq, imp_iff_not_or]

theorem watchdogTick_due {u : Nat} (h : s.led.watchdog = .armed u) (hdue : u ≤ s.now) : s.watchdogTick =
    (({ s with led := { s.led with watchdog := .expired } }.raiseSource 15).count 0x5900 6 1).watchdogAct := by
  rw [watchdogTick, h]
  exact if_pos hdue

theorem watchdogTick_early {u : Nat} (h : s.led.watchdog = .armed u) (hearly : s.now < u) : s.watchdogTick = s := by
  rw [watchdogTick, h]
  exact if_neg (Nat.not_le.2 hearly)

/-- A row that leaves the state as it is while ROOT runs. -/
theorem live_unchanged {t : State} (h : t = s) : s.live t = .next s := (congrArg s.live h).trans (live_self s)

/-- A row with its effect while ROOT runs. -/
theorem live_changed {t u : State} (hrun : s.running = true) (h : t = u) : s.live t = .next u :=
  (live_running s t hrun).trans (congrArg _ h)

end Sys2Proof.Machine.State

open Sys2Proof Sys2Proof.Machine Sys2Proof.Claims

/-- Settles O50: HELLO and AUTH through their checks, and each expiry before and after its time. -/
theorem sessionsOpenAndExpire : Obligations.SessionsOpenAndExpire := by
  unfold Obligations.SessionsOpenAndExpire
  intro s hrun
  refine ⟨fun b m k hparse htype hmade hfirst hlen hzero hheard hfree => ?hello,
    fun b m hparse htype hmade hfirst hlen hzero hsilent => ?_,
    fun b m k ss secret hparse htype hslot hss hopen htime hmade hlen hsecret hcred hrole =>
      ⟨State.auth_proved hslot hss hopen htime hmade hlen hsecret hrun hparse htype hcred hrole,
        State.auth_denied hslot hss hopen htime hmade hlen hsecret hrun hparse htype⟩,
    fun k ss hss => ⟨fun hopen hdue => ⟨_, State.live_changed hrun (State.helloExpire_due hss hopen hdue), State.closeSession_session⟩,
      fun h => State.live_unchanged (State.helloExpire_established hss h),
      fun h hdue => ⟨_, State.live_changed hrun (State.idleExpire_due hss h hdue), State.closeSession_session, State.closeSession_domains,
        fun j => State.closeSession_session_ne⟩,
      fun h => State.live_unchanged (State.idleExpire_early hss h), fun n hone hlate => ?notify⟩,
    fun k => ⟨_, State.live_running s _ hrun, fun x => State.mem_domainExpire.1, fun x hx h => State.mem_domainExpire.2 ⟨hx, fun hk => ?_⟩⟩,
    fun u h hdue => State.live_changed hrun (State.watchdogTick_due h hdue), fun u h hearly => State.live_unchanged (State.watchdogTick_early h hearly)⟩
  case hello =>
    refine ⟨_, State.exec_hello hparse htype hrun, s.halfOpen m, ?_⟩
    rw [State.hello_opens hmade hfirst hlen hzero hheard hfree]
    exact ⟨State.session_setSession _ _ _, rfl, rfl, rfl, rfl, congrArg (· ++ _) (State.count_out _ _ _ _)⟩
  · rw [State.exec_hello hparse htype hrun, State.hello_silenced hmade hfirst hlen hzero hsilent]
    rfl
  case notify =>
    refine ⟨_, State.live_changed hrun (State.notifyAgain_one hss hone hlate), congrArg (· ++ _) (State.count_out _ _ _ _),
      (State.session_count _ _ _).trans (State.session_setSession _ _ _), State.ctr_count_self _ _ _ _ (by decide)⟩
  · exact h.resolve_left (not_not.2 hk)

end
section
/-! The PF0 mailbox, RESET_COMMAND and copies into flash (R436, R445, R446, R457). -/

namespace Sys2Proof.Machine.State

open Claims

variable {s : State} {v : Nat}

/-! The doorbell (R445, R446) -/

/-- The mailbox's ERROR stands. -/
def mailboxError (s : State) : State := { s with led := { s.led with mbError := true } }

theorem doorbell_refused (h : s.led.mbBusy = true ∨ s.led.mbBase = 0) (x : Nat) : s.doorbell x = s.mailboxError := if_pos h

section Doorbell
variable (hidle : s.led.mbBusy = false) (hbase : s.led.mbBase ≠ 0)
include hidle hbase

theorem doorbell_free : ¬ (s.led.mbBusy = true ∨ s.led.mbBase = 0) := by simp [hidle, hbase]

theorem doorbell_poisoned (h : s.mem.host.hasBad s.led.mbBase 0x800 = true) (x : Nat) : s.doorbell x = s.mailboxError.raiseSource 7 :=
  (if_neg (doorbell_free hidle hbase)).trans (if_pos h)

theorem doorbell_handled (h : s.mem.host.hasBad s.led.mbBase 0x800 = false) (x : Nat) :
    s.doorbell x = s.mailboxRun x (s.mem.host.readBytes s.led.mbBase 0x800) :=
  (if_neg (doorbell_free hidle hbase)).trans (if_neg (by rw [h]; decide))

end Doorbell

/-- With PF0's page open the host's stores come first, and then the doorbell rings. -/
theorem exec_mbDoorbellWrite_open (hrun : s.running = true) (hopen : s.pageOpen 0 = true) (hv : v < 2 ^ 32) (hs : List Host.Cell) :
    exec (.mbDoorbellWrite v hs) s = .next ((s.setHost (s.mem.host.apply hs)).doorbell v) := by
  refine (live_running s _ hrun).trans (congrArg _ ((if_pos hopen).trans ?_))
  rw [Nat.mod_eq_of_lt hv]

theorem exec_mbDoorbellWrite_shut (hrun : s.running = true) (hshut : s.pageOpen 0 = false) (hs : List Host.Cell) :
    exec (.mbDoorbellWrite v hs) s = .next (s.setHost (s.mem.host.apply hs)) := by
  have hshut' : ¬ ((s.setHost (s.mem.host.apply hs)).pageOpen 0 = true) := by
    rw [show (s.setHost (s.mem.host.apply hs)).pageOpen 0 = s.pageOpen 0 from rfl, hshut]
    decide
  exact (live_running s _ hrun).trans (congrArg _ (if_neg hshut'))

theorem hostWrite_mbIntEn (f a : Nat) (bs : List Byte) : (s.hostWrite f a bs).led.mbIntEn = s.led.mbIntEn :=
  (congrArg (fun u : State => u.led.mbIntEn) (besideRings_hostWrite s f a bs) :)

/-- A request that is answered: the answer stands 0x800 past the base, and MB_DONE takes the doorbell's value. -/
theorem mailboxRun_answered {b a : List Byte} {m0 : Msg} {t : State} (hparse : Msg.parse false b = some m0)
    (hhandle : s.mailboxHandle v { m0 with payload := m0.swapped false, tag := m0.tag.take 32 } = (some a, t)) (hbase : t.led.mbBase ≠ 0)
    (hquiet : t.led.mbIntEn = false) : s.mailboxRun v b = { t.hostWrite 0 (t.led.mbBase + 0x800) (mailboxBytes a) with
      led := { (t.hostWrite 0 (t.led.mbBase + 0x800) (mailboxBytes a)).led with mbDone := v } } := by
  rw [mailboxRun, hparse]
  dsimp only
  rw [hhandle]
  dsimp only
  rw [if_neg hbase]
  refine if_neg ?_
  rw [hostWrite_mbIntEn, hquiet]
  decide

/-! MB_STATUS (R445) -/

theorem exec_mbStatusRead_wedged (hrun : s.running = true) (h : (s.fn 0).wedged = true) :
    exec .mbStatusRead s = .next (s.emit (.regRead 0 0x114 0)) := by
  rw [show exec .mbStatusRead s = s.live (s.readPage 0 0x114 4) from rfl, live_running s _ hrun]
  simp [readPage, pageRead, h]

theorem exec_mbStatusRead_open (hrun : s.running = true) (hopen : s.pageOpen 0 = true) : exec .mbStatusRead s =
    .next ({ s with led := { s.led with mbError := false } }.emit (.regRead 0 0x114 (2 * bnat s.led.mbBusy + bnat s.led.mbError))) := by
  rw [show exec .mbStatusRead s = s.live (s.readPage 0 0x114 4) from rfl, live_running s _ hrun]
  simp [readPage, pageRead, hopen, not_wedged_of_pageOpen hopen, read32, clear32]

/-! RESET_COMMAND and flash (R436, R457) -/

/-- A slot without a session resets nothing. -/
theorem exec_resetCommand_noSession {k : Nat} (hk : k ≠ 0) (h : s.session k = none) : exec (.resetCommand k) s = .next s := by
  refine (congrArg s.live (if_neg ?_)).trans (live_self s)
  rw [h]
  simp [hk]

section Flash
variable {k : Nat}

theorem flashWrite_due (h : k ∈ s.led.flashDue) (ok : Bool) : s.flashWrite k ok =
    if ok then { s with led := { s.led with flashDue := s.led.flashDue.filter (· != k) } }.store k
    else { s with led := { s.led with flashDue := s.led.flashDue.filter (· != k) } }.raiseSource 4 :=
  if_neg (by rw [List.contains_iff_mem.2 h]; decide)

theorem flashWrite_notDue (h : k ∉ s.led.flashDue) (ok : Bool) : s.flashWrite k ok = s :=
  if_pos (by simpa using h)

end Flash
end Sys2Proof.Machine.State

open Sys2Proof Sys2Proof.Machine Sys2Proof.Claims

/-- Settles O51: the doorbell through its two refusals, the mailbox's answer, and the reads and writes beside it. -/
theorem mailboxResetCommandAndFlash : Obligations.MailboxResetCommandAndFlash := by
  unfold Obligations.MailboxResetCommandAndFlash
  intro s v hs hrun s1
  refine ⟨fun hopen hv => ?doorbell, fun hshut => State.exec_mbDoorbellWrite_shut hrun hshut hs,
    fun b m0 a t hparse hhandle => State.mailboxRun_answered hparse hhandle, State.exec_mbStatusRead_wedged hrun,
    fun hopen => ⟨_, State.exec_mbStatusRead_open hrun hopen, rfl, rfl, rfl⟩, fun hl => State.exec_resetCommand_mailbox hrun hl,
    fun k => State.exec_resetCommand_noSession, fun hout hnone x => by rw [State.resetCause_first x hout hnone], fun k hk => ?flash,
    fun k b hk => State.live_unchanged (State.flashWrite_notDue hk b)⟩
  case doorbell =>
    have hrings := State.exec_mbDoorbellWrite_open hrun hopen hv hs
    exact ⟨fun h => hrings.trans (congrArg _ (State.doorbell_refused (s := s1) h v)),
      fun hidle hbase hbad => hrings.trans (congrArg _ (State.doorbell_poisoned (s := s1) hidle hbase hbad v)),
      fun hidle hbase hgood => hrings.trans (congrArg _ (State.doorbell_handled (s := s1) hidle hbase hgood v))⟩
  case flash =>
    exact ⟨State.live_changed hrun (State.flashWrite_due hk true), State.live_changed hrun (State.flashWrite_due hk false)⟩

end
section
/-! Fault lines, episodes and threshold actions (R469, R470, R473, R474, R477, R478). -/

namespace Sys2Proof.Machine

theorem bit_eq_testBit (x i : Nat) : bit x i = x.testBit i := by
  rw [Nat.testBit_eq_decide_div_mod_eq, bit]
  rfl

theorem bit_maskOr_self (x i : Nat) : bit (maskOr x (2 ^ i)) i = true := by
  simp [bit_eq_testBit, maskOr]

theorem bit_maskClear (x m i : Nat) : bit (maskClear x m) i = (bit x i && !bit m i) := by
  simp only [bit_eq_testBit, maskClear, Nat.testBit_xor, Nat.testBit_and]
  cases x.testBit i <;> cases m.testBit i <;> rfl

theorem bit_and (x m i : Nat) : bit (x &&& m) i = (bit x i && bit m i) := by
  simp only [bit_eq_testBit, Nat.testBit_and]

/-- A line that is asserted for its cause alone, or for one tick (R470, R478). -/
def risenLine (k : Nat) (l : FaultLine) : FaultLine := { l with up := true, pulse := conditionSource k }

theorem risenLine_hold (k : Nat) : (risenLine k FaultLine.down).hold = false := rfl

namespace State

open Claims

variable {s : State} {k : Nat}

/-! Sampling (R469, R470) -/

section Sample
variable (h : (s.line k).up = false ∨ (s.line k).sampled = true ∨ (s.line k).downAt = s.tick + 1)

include h in
theorem sampleLine_skips : s.sampleLine k = s := if_pos (by simpa using h)

end Sample

theorem sampleLine_takes (hup : (s.line k).up = true) (hnew : (s.line k).sampled = false) (hlate : (s.line k).downAt ≠ s.tick + 1) :
    s.sampleLine k =
      (s.setLine k (if s.staysUp k (s.line k) then { s.line k with sampled := true } else (s.line k).fallen)).scoreEvent k :=
  if_neg (by simp [hup, hnew, hlate])

/-- A line that has just risen from rest is sampled at once. -/
theorem sampleLine_risen : (s.setLine k (risenLine k FaultLine.down)).sampleLine k =
    ((s.setLine k (risenLine k FaultLine.down)).setLine k (if s.staysUp k (risenLine k FaultLine.down) then
      { risenLine k FaultLine.down with sampled := true } else (risenLine k FaultLine.down).fallen)).scoreEvent k := by
  rw [sampleLine_takes] <;> rw [line_setLine]
  · rfl
  · rfl
  · rfl
  · exact Nat.succ_ne_zero _ ∘ Eq.symm

/-- A line at rest rises for one tick. -/
theorem pulseLine_rest (h : s.line k = FaultLine.down) : s.pulseLine k = s.setLine k (risenLine k FaultLine.down) := by
  rw [pulseLine, h]
  rfl

/-- An event source at rest rises; it is none of a condition, and no block responds to it. -/
theorem raiseSource_rest (hk : k = 5 ∨ k = 6) (h : s.line k = FaultLine.down) :
    s.raiseSource k = s.setLine k (risenLine k FaultLine.down) := by
  obtain rfl | rfl := hk <;> rw [raiseSource, h] <;> rfl

/-- A source that SCORECARD_EVENT raises itself falls at its sample. -/
theorem staysUp_own (hk : k = 2 ∨ k = 5 ∨ k = 6) : s.staysUp k (risenLine k FaultLine.down) = false := by
  obtain rfl | rfl | rfl := hk <;> rfl

theorem exec_scorecardEvent_other (h2 : k ≠ 2) (h5 : k ≠ 5) (h6 : k ≠ 6)
    (h : (s.line k).up = false ∨ (s.line k).hold = true ∨ (s.line k).sampled = true ∨ (s.line k).downAt = s.tick + 1) :
    exec (.scorecardEvent k) s = .next s := by
  have hraised : (if k = 5 ∨ k = 6 then s.raiseSource k else if k = 2 ∧ !(s.line 2).up then s.pulseLine 2 else s) = s := by
    rw [if_neg (by simp [h5, h6]), if_neg fun h' => h2 h'.1]
  refine live_unchanged ?_
  rw [hraised]
  refine ite_eq_right_iff.2 fun _ => ite_eq_left_iff.2 fun hhold => sampleLine_skips ?_
  tauto

theorem exec_scorecardEvent_own (hrun : s.running = true) (hown : k = 2 ∨ k = 5 ∨ k = 6) (hcollect : s.collecting = true)
    (hrest : s.line k = FaultLine.down) : exec (.scorecardEvent k) s =
      .next (((s.setLine k (risenLine k FaultLine.down)).setLine k (risenLine k FaultLine.down).fallen).scoreEvent k) := by
  have hraised : (if k = 5 ∨ k = 6 then s.raiseSource k else if k = 2 ∧ !(s.line 2).up then s.pulseLine 2 else s) =
      s.setLine k (risenLine k FaultLine.down) := by
    obtain rfl | hk := hown
    · exact (if_neg (by decide)).trans ((if_pos ⟨rfl, by rw [hrest]; rfl⟩).trans (pulseLine_rest hrest))
    · exact (if_pos hk).trans (raiseSource_rest hk hrest)
  refine live_changed hrun ?_
  rw [hraised, if_pos ⟨by omega, hcollect⟩, line_setLine, if_neg (by rw [risenLine_hold]; decide), sampleLine_risen, staysUp_own hown]
  rfl

/-! Events (R473, R474) -/

/-- WINDOW_EVENTS with the event of now. -/
def nextWindowEvents (s : State) (k : Nat) : Nat :=
  min ((if s.windowOf k = s.flt.lastWindow.num k then s.ctr (sourceIndex k) 4 else 0) + 1) 255

/-- The counters of an event. -/
def eventCtrs (s : State) (k : Nat) : State :=
  ((s.setCtr (sourceIndex k) 4 (s.nextWindowEvents k)).count (sourceIndex k) 5 1).setCtr (sourceIndex k) 7 s.deviceTime

theorem eventCtrs_flt : (s.eventCtrs k).flt = s.flt := count_flt _ _ _ _
theorem eventCtrs_mem : (s.eventCtrs k).mem = s.mem := count_mem _ _ _ _
theorem eventCtrs_ring : (s.eventCtrs k).ring = s.ring := count_ring _ _ _ _
theorem eventCtrs_out : (s.eventCtrs k).out = s.out := count_out _ _ _ _
theorem eventCtrs_obj (i b n : Nat) : (s.eventCtrs k).obj i b n = s.obj i b n := count_obj _ _ _ _ _ _ _

/-- A state with another record of its faults. -/
def withFlt (s : State) (f : FaultState) : State := { s with flt := f }

theorem withFlt_obj (f : FaultState) (i b n : Nat) : (s.withFlt f).obj i b n = s.obj i b n := rfl
theorem withFlt_mem (f : FaultState) : (s.withFlt f).mem = s.mem := rfl
theorem withFlt_ring (f : FaultState) : (s.withFlt f).ring = s.ring := rfl
theorem withFlt_out (f : FaultState) : (s.withFlt f).out = s.out := rfl
theorem withFlt_ctr (f : FaultState) (i b : Nat) : (s.withFlt f).ctr i b = s.ctr i b := rfl

/-- The scorecard with an event of a source in a window. -/
def scored (f : FaultState) (k w : Nat) : FaultState := { f with scorecard := maskOr f.scorecard (2 ^ k), lastWindow := f.lastWindow.setNum k w }

/-- The event has been counted, and nothing more. -/
def eventCounted (s : State) (k : Nat) : State := (s.eventCtrs k).withFlt (scored (s.eventCtrs k).flt k (s.windowOf k))

theorem eventCounted_obj (i b n : Nat) : (s.eventCounted k).obj i b n = s.obj i b n := by
  rw [eventCounted, withFlt_obj, eventCtrs_obj]

theorem eventCounted_mem : (s.eventCounted k).mem = s.mem := by rw [eventCounted, withFlt_mem, eventCtrs_mem]
theorem eventCounted_ring : (s.eventCounted k).ring = s.ring := by rw [eventCounted, withFlt_ring, eventCtrs_ring]
theorem eventCounted_out : (s.eventCounted k).out = s.out := by rw [eventCounted, withFlt_out, eventCtrs_out]

theorem eventCounted_flt : (s.eventCounted k).flt = scored s.flt k (s.windowOf k) := by
  rw [← s.eventCtrs_flt (k := k)]
  rfl

/-- Two counters of a source's record differ. -/
theorem sourceKey_ne {a b : Nat} (ha : a < 256) (hb : b < 256) (h : a ≠ b) : objKey (sourceIndex k) a 0 ≠ objKey (sourceIndex k) b 0 :=
  objKey_ne ha hb (by decide) (by decide) (.inr (.inl h))

theorem eventCounted_ctr (i b : Nat) : (s.eventCounted k).ctr i b = (s.eventCtrs k).ctr i b := by rw [eventCounted, withFlt_ctr]

theorem eventCounted_windowEvents : (s.eventCounted k).ctr (sourceIndex k) 4 = s.nextWindowEvents k := by
  rw [eventCounted_ctr, eventCtrs, ctr_setCtr_ne _ _ _ _ (sourceKey_ne (by decide) (by decide) (by decide)),
    ctr_count_ne _ _ _ _ (sourceKey_ne (by decide) (by decide) (by decide)), ctr_setCtr]

theorem eventCounted_events : (s.eventCounted k).ctr (sourceIndex k) 5 = satAdd 64 (s.ctr (sourceIndex k) 5) 1 := by
  rw [eventCounted_ctr, eventCtrs, ctr_setCtr_ne _ _ _ _ (sourceKey_ne (by decide) (by decide) (by decide)),
    ctr_count_self _ _ _ _ (by decide), ctr_setCtr_ne _ _ _ _ (sourceKey_ne (by decide) (by decide) (by decide))]

theorem eventCounted_time : (s.eventCounted k).ctr (sourceIndex k) 7 = s.deviceTime := by
  rw [eventCounted_ctr, eventCtrs, ctr_setCtr]

theorem scoreEvent_eq : s.scoreEvent k =
    if s.nextWindowEvents k = s.obj (sourceIndex k) 1 ∧ !bit (s.eventCounted k).flt.severe k then (s.eventCounted k).goSevere k
    else s.eventCounted k := rfl

theorem eventCounted_severe : (s.eventCounted k).flt.severe = s.flt.severe := by
  rw [eventCounted_flt]
  rfl

theorem scoreEvent_counts (h : s.nextWindowEvents k ≠ s.obj (sourceIndex k) 1 ∨ bit s.flt.severe k = true) :
    s.scoreEvent k = s.eventCounted k := by
  rw [scoreEvent_eq, eventCounted_severe]
  refine if_neg fun hsev => ?_
  obtain ⟨hn, hclear⟩ := hsev
  obtain h | h := h
  · exact h hn
  · rw [h] at hclear
    exact absurd hclear (by decide)

theorem scoreEvent_severe (h : s.nextWindowEvents k = s.obj (sourceIndex k) 1) (hclear : bit s.flt.severe k = false) :
    s.scoreEvent k = (s.eventCounted k).goSevere k := by
  rw [scoreEvent_eq, eventCounted_severe]
  exact if_pos ⟨h, by rw [hclear]; rfl⟩

theorem raiseDevice_flt (c x : Nat) (r : List Byte) : (s.raiseDevice c x r).flt = s.flt :=
  (beside_flt (besideRings_raiseFn _ _ _ _ _)).trans (sessions_flt (besideSessions_raiseJorol s c x r))

theorem resetCause_frame (c : ResetCause) : { s.resetCause c with flt := { (s.resetCause c).flt with resetDue := s.flt.resetDue } } = s := by
  unfold resetCause
  split
  · rfl
  · split
    · rfl
    · split <;> rfl

theorem resetCause_severe (c : ResetCause) : (s.resetCause c).flt.severe = s.flt.severe :=
  (congrArg (fun u : State => u.flt.severe) (resetCause_frame c) :)

theorem resetCause_faulting (c : ResetCause) : (s.resetCause c).flt.faulting = s.flt.faulting :=
  (congrArg (fun u : State => u.flt.faulting) (resetCause_frame c) :)

/-- The source is severe. -/
def severeNow (s : State) (k : Nat) : State := s.withFlt { s.flt with severe := maskOr s.flt.severe (2 ^ k) }

theorem severeNow_flt : (s.severeNow k).flt = { s.flt with severe := maskOr s.flt.severe (2 ^ k) } := rfl
theorem severeNow_out : (s.severeNow k).out = s.out := by rw [severeNow, withFlt_out]

theorem goSevere_silent (h : s.obj (sourceIndex k) 3 = 0) : s.goSevere k = s.severeNow k := by
  simp only [goSevere, h]
  rfl

/-- An action of 2 or more asserts FAULT_N for the source. -/
theorem goSevere_faults (h : 2 ≤ s.obj (sourceIndex k) 3) :
    bit (s.goSevere k).flt.severe k = true ∧ bit (s.goSevere k).flt.faulting k = true := by
  simp only [goSevere, if_pos (show 1 ≤ s.obj (sourceIndex k) 3 by omega), if_pos h]
  split
  · rw [resetCause_severe, resetCause_faulting]
    exact ⟨by simp only [raiseDevice_flt]; exact bit_maskOr_self _ _, bit_maskOr_self _ _⟩
  · exact ⟨by simp only [raiseDevice_flt]; exact bit_maskOr_self _ _, bit_maskOr_self _ _⟩

/-! SCORECARD_CLEAR (R477) -/

/-- The bits that a clear names are gone. -/
def bitsCleared (s : State) (m : Nat) : State := { s with flt := { s.flt with
  scorecard := maskClear s.flt.scorecard m, severe := maskClear s.flt.severe m, faulting := maskClear s.flt.faulting m,
  cleared := maskOr s.flt.cleared m, clearedSevere := maskOr s.flt.clearedSevere (s.flt.severe &&& m),
  clearedFaulting := maskOr s.flt.clearedFaulting (s.flt.faulting &&& m) } }

/-- The windows of each source of a mask begin again. -/
def newRuns (s : State) (m : Nat) (l : List Nat) : State := l.foldl (fun st k => if bit m k then st.newRun k else st) s

theorem scorecardClear_eq (m : Nat) : s.scorecardClear m =
    (s.bitsCleared (s.flt.scorecard &&& m)).newRuns (s.flt.scorecard &&& m) (List.range 64) := rfl

theorem newRuns_keeps {α : Type} (p : State → α) (hp : ∀ (u : State) k, p (u.newRun k) = p u) (m : Nat) (l : List Nat) :
    p (s.newRuns m l) = p s := by
  refine foldl_keep p _ (fun u k => ?_) l s
  split
  · exact hp u k
  · rfl

theorem newRun_windowEvents (h : s.ctr (sourceIndex k) 4 = 0) (j : Nat) : (s.newRun j).ctr (sourceIndex k) 4 = 0 := by
  change (s.setCtr (sourceIndex j) 4 0).ctr (sourceIndex k) 4 = 0
  by_cases hkey : objKey (sourceIndex j) 4 0 = objKey (sourceIndex k) 4 0
  · exact (congrArg (Sparse.num (s.setCtr (sourceIndex j) 4 0).led.ctrs) hkey.symm).trans (ctr_setCtr s (sourceIndex j) 4 0)
  · exact (ctr_setCtr_ne s (sourceIndex j) 4 0 hkey).trans h

/-- A source of the mask begins its windows with no event. -/
theorem newRuns_windowEvents {m : Nat} (hm : bit m k = true) {l : List Nat} (hk : k ∈ l) :
    (s.newRuns m l).ctr (sourceIndex k) 4 = 0 := by
  have hkeeps (u : State) (l' : List Nat) (hu : u.ctr (sourceIndex k) 4 = 0) : (u.newRuns m l').ctr (sourceIndex k) 4 = 0 := by
    refine foldl_inv (fun v : State => v.ctr (sourceIndex k) 4 = 0) _ (fun v j hv => ?_) l' u hu
    split
    · exact newRun_windowEvents hv j
    · exact hv
  obtain ⟨before, after, rfl⟩ := List.append_of_mem hk
  rw [newRuns, List.foldl_append, List.foldl_cons, if_pos hm]
  exact hkeeps _ after (ctr_setCtr _ _ 4 0)

/-! Injection (R478) -/

theorem injectRise_rest {x : Injection} (hk : k < 24) (hleft : 1 < x.left) (hsource : x.source = k) (hrest : s.line k = FaultLine.down) :
    let s1 := { s with flt := { s.flt with injection := some { x with left := x.left - 1, next := x.next + x.interval } } }
    let u := ((s1.setLine k (risenLine k FaultLine.down)).setLine k (if s.staysUp k (risenLine k FaultLine.down) then
      { risenLine k FaultLine.down with sampled := true } else (risenLine k FaultLine.down).fallen)).scoreEvent k
    s.injectRise x = { u with pw := { u.pw with testKept := u.pw.testKept || (s.flt.resetDue.isNone && u.flt.resetDue.isSome) } } := by
  intro s1 u
  have hrest1 : s1.line k = FaultLine.down := hrest
  have hu : s1.pulseLine k = s1.setLine k (risenLine k FaultLine.down) := pulseLine_rest hrest1
  have hsample : (s1.setLine k (risenLine k FaultLine.down)).sampleLine k = u := sampleLine_risen
  subst hsource
  rw [injectRise, if_neg (Nat.not_le.2 hleft), if_neg (Nat.not_le.2 hk)]
  change (let t := s1.pulseLine x.source
    let u' := if (s1.line x.source).up ∨ (s1.line x.source).hold then t else t.sampleLine x.source
    ({ u' with pw := { u'.pw with testKept := u'.pw.testKept || (s.flt.resetDue.isNone && u'.flt.resetDue.isSome) } } : State)) = _
  rw [hrest1, hu]
  dsimp only
  rw [if_neg (by decide), hsample]

theorem exec_injectEvent_early {x : Injection} (hx : s.flt.injection = some x) (h : s.tick < x.next) : exec .injectEvent s = .next s := by
  refine live_unchanged ?_
  rw [hx]
  exact if_neg fun h' => Nat.not_le.2 h h'.2

theorem exec_inject_outside (h : s.pw.testmode = false) : exec .injectStart s = .next s ∧ exec .injectStop s = .next s := by
  have hnone : s.injectStart = none := if_pos (by rw [h]; rfl)
  constructor
  · rw [show exec .injectStart s = s.liveLedger ((s.injectStart).getD s) from rfl, hnone]
    exact liveLedger_self s
  · exact (congrArg s.liveLedger (if_neg (by rw [h]; decide))).trans (liveLedger_self s)

/-- What a clear leaves of the scorecard, of its named source, and of the rest. -/
theorem scorecardClear_answers (hrun : s.running = true) (hl : 0 < s.level) (hk : k < 24) (m : Nat) : answers (.scorecardClear m) s fun t =>
    (∀ j, j < 64 → bit t.flt.scorecard j = (bit s.flt.scorecard j && !bit m j)) ∧ t.mem = s.mem ∧ t.out = s.out ∧
    (bit s.flt.scorecard k = true → bit m k = true → bit t.flt.severe k = false ∧ bit t.flt.faulting k = false ∧
      t.ctr (sourceIndex k) 4 = 0) := by
  refine ⟨_, liveLedger_running s _ hrun hl, ?_⟩
  rw [scorecardClear_eq]
  refine ⟨fun j _ => ?_, newRuns_keeps State.mem (fun _ _ => rfl) _ _, newRuns_keeps State.out (fun _ _ => rfl) _ _, fun hset hm => ?_⟩
  · rw [newRuns_keeps (fun u : State => u.flt.scorecard) (fun _ _ => rfl)]
    rw [bitsCleared, bit_maskClear, bit_and]
    cases bit s.flt.scorecard j <;> rfl
  · have hnamed : bit (s.flt.scorecard &&& m) k = true := by rw [bit_and, hset, hm]; rfl
    refine ⟨?_, ?_, newRuns_windowEvents hnamed (List.mem_range.2 (by omega))⟩
    · rw [newRuns_keeps (fun u : State => u.flt.severe) (fun _ _ => rfl), bitsCleared, bit_maskClear, hnamed]
      exact Bool.and_false _
    · rw [newRuns_keeps (fun u : State => u.flt.faulting) (fun _ _ => rfl), bitsCleared, bit_maskClear, hnamed]
      exact Bool.and_false _

end State
end Sys2Proof.Machine

open Sys2Proof Sys2Proof.Machine Sys2Proof.Claims

/-- Settles O52: the sample of a line, the event that it makes, the passage to severe, a clear, and an injection's rises. -/
theorem scorecardCountsEpisodes : Obligations.ScorecardCountsEpisodes := by
  unfold Obligations.ScorecardCountsEpisodes
  intro s k hrun hk i l n own risen fallen
  have hi : i = State.sourceIndex k := rfl
  have hn : n = s.nextWindowEvents k := rfl
  clear_value n i
  subst hi hn
  refine ⟨fun hcollect hhold hup hnew hlate h5 h6 => (State.exec_scorecardEvent hrun hk hcollect hhold hup h5 h6).trans
      (congrArg _ (State.sampleLine_takes hup hnew hlate)), fun hother h => ?_, fun hown hcollect hrest => ?_, ?event,
    fun m hl => State.scorecardClear_answers hrun hl hk m, fun htest hl => ⟨_, State.exec_injectStart hrun hl htest, rfl, rfl⟩,
    State.exec_inject_outside, fun htest hl => ⟨_, State.liveLedger_guarded _ hrun hl htest, rfl, rfl⟩,
    fun x hx hcollect hdue hleft hsource hrest => ?_, fun x hx h => State.exec_injectEvent_early hx h⟩
  · obtain ⟨h2, h56⟩ := not_or.1 hother
    exact State.exec_scorecardEvent_other h2 (not_or.1 h56).1 (not_or.1 h56).2 h
  · have hrisen : risen = risenLine k FaultLine.down := congrArg (risenLine k) hrest
    rw [hrisen]
    exact State.exec_scorecardEvent_own hrun hown hcollect hrest
  case event =>
    intro t
    refine ⟨fun h => ?counted, fun hn hclear => ?severe⟩
    case counted =>
      have ht : t = s.eventCounted k := State.scoreEvent_counts h
      rw [ht, State.eventCounted_flt]
      exact ⟨rfl, rfl, rfl, State.eventCounted_windowEvents, State.eventCounted_events, State.eventCounted_time, State.eventCounted_mem,
        State.eventCounted_ring, State.eventCounted_out⟩
    case severe =>
      have ht : t = (s.eventCounted k).goSevere k := State.scoreEvent_severe hn hclear
      rw [ht]
      refine ⟨fun hnone => ?_, fun hfault => State.goSevere_faults ?_⟩
      · rw [State.goSevere_silent ((State.eventCounted_obj _ _ _).trans hnone), State.severeNow_flt, State.severeNow_out,
          State.eventCounted_out, State.eventCounted_flt]
        exact ⟨rfl, rfl, rfl⟩
      · rw [State.eventCounted_obj]
        omega
  · have hrisen : risen = risenLine k FaultLine.down := congrArg (risenLine k) hrest
    clear_value risen
    subst hrisen
    exact (State.exec_injectEvent hrun hx hcollect hdue).trans (congrArg _ (State.injectRise_rest hk hleft hsource hrest))

end
section
/-! Drawers, chunks and benches (R368 to R370, R372, R373, R484). -/

namespace Sys2Proof.Machine.State

open Claims

variable {s : State} {d : Nat}

/-! START and STOP (R370, R372) -/

theorem drawerState_setObj (d v : Nat) : (s.setObj 0x2300 1 d v).drawerState d = v := obj_setObj s 0x2300 1 d v

theorem drawerState_setObj_ne {d x : Nat} (v : Nat) (hd : d < 65536) (hx : x < 65536) (h : x ≠ d) :
    (s.setObj 0x2300 1 d v).drawerState x = s.drawerState x :=
  obj_setObj_ne s _ _ _ _ (objKey_ne (by decide) (by decide) hd hx (.inr (.inr h.symm)))

theorem exec_drawerStart_rejected (h : d = 0 ∨ s.drawerState d ≠ 2) : exec (.drawerStart d) s = .next s := by
  have hnone : s.drawerStart d = none := if_pos (by tauto)
  rw [show exec (.drawerStart d) s = s.liveLedger ((s.drawerStart d).getD s) from rfl, hnone]
  exact liveLedger_self s

theorem exec_drawerStop_rejected (h : d = 0 ∨ s.drawerState d ≠ 0) : exec (.drawerStop d) s = .next s := by
  have hnone : s.drawerStop d = none := if_pos (by tauto)
  rw [show exec (.drawerStop d) s = s.liveLedger ((s.drawerStop d).getD s) from rfl, hnone]
  exact liveLedger_self s

theorem exec_drawerStoppedReached_quiet (hrun : s.running = true) (hst : s.drawerState d = 1) (hquiet : s.drawerQuiet d = true) :
    exec (.drawerStoppedReached d) s = .next (s.setObj 0x2300 1 d 2) := live_guarded s _ hrun ⟨hst, hquiet⟩

theorem exec_drawerStoppedReached_working (h : s.drawerQuiet d = false) : exec (.drawerStoppedReached d) s = .next s :=
  live_unchanged (if_neg fun h' => by rw [h] at h'; exact absurd h'.2 (by decide))

/-! RECYCLE (R373, R484) -/

theorem recycle_some (hd : 1 ≤ d) (hd' : d ≤ 127) (h : (s.fn d).wedged = false) : ∃ u, s.recycle d = some (setObj u 0x2300 1 d 2) :=
  ⟨_, if_neg (by rw [h]; simp; omega)⟩

theorem recycle_answers (hrun : s.running = true) (hl : 0 < s.level) (hd : 1 ≤ d) (hd' : d ≤ 127) (h : (s.fn d).wedged = false) :
    answers (.recycle d) s fun t => t.drawerState d = 2 := by
  obtain ⟨u, hsome⟩ := recycle_some hd hd' h
  exact ⟨_, liveLedger_some hrun hl hsome, drawerState_setObj d 2⟩

theorem exec_recycle_rejected (h : d = 0 ∨ (s.fn d).wedged = true) : exec (.recycle d) s = .next s := by
  have hnone : s.recycle d = none := if_pos (by tauto)
  rw [show exec (.recycle d) s = s.liveLedger ((s.recycle d).getD s) from rfl, hnone]
  exact liveLedger_self s

/-! Chunk commands (R368) -/

/-- A state with a chunk command that runs, or with none. -/
def withChunkRun (s : State) (o : Option (Nat × Nat × Nat)) : State := { s with led := { s.led with chunkRun := o } }

theorem withChunkRun_obj (o : Option (Nat × Nat × Nat)) (i b n : Nat) : (s.withChunkRun o).obj i b n = s.obj i b n := rfl
theorem withChunkRun_mem (o : Option (Nat × Nat × Nat)) : (s.withChunkRun o).mem = s.mem := rfl
theorem withChunkRun_chunkRun (o : Option (Nat × Nat × Nat)) : (s.withChunkRun o).led.chunkRun = o := rfl

/-- A chunk command has begun: BUSY, with no chunk done and no reason. -/
def chunkBegun (s : State) : State := (((s.setObj 0x2301 5 0 1).setObj 0x2301 6 0 0).setObj 0x2301 7 0 0).withChunkRun
  (some (s.obj 0x2301 1, s.obj 0x2301 2, s.obj 0x2301 3))

theorem chunkGo_begins (hbusy : s.obj 0x2301 5 ≠ 1) (hlast : s.obj 0x2301 1 + s.obj 0x2301 2 ≤ 196608) :
    s.chunkGo = some s.chunkBegun.chunkResume := if_neg (not_or.2 ⟨hbusy, Nat.not_lt.2 hlast⟩)

theorem chunkGo_rejected (h : s.obj 0x2301 5 = 1 ∨ 196608 < s.obj 0x2301 1 + s.obj 0x2301 2) : s.chunkGo = none := if_pos h

theorem chunkBegun_mem : s.chunkBegun.mem = s.mem := rfl

theorem chunkBegun_obj_other {i b n : Nat} (hb : b < 256) (hn : n < 65536) (h : i ≠ 0x2301) : s.chunkBegun.obj i b n = s.obj i b n := by
  rw [chunkBegun, withChunkRun_obj, obj_setObj_ne, obj_setObj_ne, obj_setObj_ne] <;>
    exact objKey_ne (by decide) hb (by decide) hn (.inl h.symm)

/-- A command over one chunk takes it in one step. -/
theorem chunkBegun_resume (hone : s.obj 0x2301 2 = 1) :
    s.chunkBegun.chunkResume = s.chunkBegun.chunkLoop (s.obj 0x2301 1) 1 (s.obj 0x2301 3) 1 := by
  have hdone : s.chunkBegun.obj 0x2301 6 = 0 := by
    rw [chunkBegun, withChunkRun_obj, obj_setObj_sub _ (by decide) (by decide) (by decide), obj_setObj]
  have hrun : s.chunkBegun.led.chunkRun = some (s.obj 0x2301 1, 1, s.obj 0x2301 3) := by
    rw [chunkBegun, withChunkRun_chunkRun, hone]
  rw [chunkResume, hrun]
  dsimp only
  rw [hdone]

section OneChunk
variable {c target : Nat}

theorem chunkLoop_done {u : State} (h : s.chunkStep c target = .done u) :
    s.chunkLoop c 1 target 1 = ((u.setObj 0x2301 6 0 1).setObj 0x2301 5 0 2).withChunkRun none := by
  rw [chunkLoop]
  rw [show c + (1 - (0 + 1)) = c from rfl, h]
  rfl

theorem chunkLoop_fail {r : Nat} (h : s.chunkStep c target = .fail r) :
    s.chunkLoop c 1 target 1 = ((s.setObj 0x2301 5 0 3).setObj 0x2301 7 0 r).withChunkRun none := by
  rw [chunkLoop]
  rw [show c + (1 - (0 + 1)) = c from rfl, h]
  rfl

/-- A chunk is its new owner's, zero-filled. -/
def assignChunk (s : State) (c target : Nat) : State :=
  let t := s.setDev (s.mem.dev.zeroFill (chunkBase c) (2 ^ 21))
  { t with mem := { t.mem with owner := t.mem.owner.setNum c target } }.count (0x5300 + c / 24576) 4 1

theorem assignChunk_dev : (s.assignChunk c target).mem.dev = s.mem.dev.zeroFill (chunkBase c) (2 ^ 21) := by
  rw [assignChunk, count_mem]
  rfl

theorem assignChunk_owner : (s.assignChunk c target).mem.owner = s.mem.owner.setNum c target := by
  rw [assignChunk, count_mem]
  rfl

section Assign
variable (hopen : reservedChunk c = false) (htarget : 128 ≤ target)
include hopen htarget

theorem chunkStep_assigns (hfree : s.mem.owner.num c = 0) (hmig : s.migrating (target % 128) = false) :
    s.chunkStep c target = .done (s.assignChunk c target) := by
  have htarget' : target ≠ 0 := by omega
  simp only [chunkStep, hopen, hfree, if_pos htarget, hmig, htarget', htarget'.symm, Bool.false_eq_true, if_false, ne_eq, not_true_eq_false,
    not_false_eq_true, false_and, and_false, or_self, if_true]
  rfl

theorem chunkStep_owned (h0 : s.mem.owner.num c ≠ 0) (hne : s.mem.owner.num c ≠ target) : s.chunkStep c target = .fail 2 := by
  have htarget' : target ≠ 0 := by omega
  simp only [chunkStep, hopen, if_pos htarget, h0, hne, htarget', Bool.false_eq_true, if_false, ne_eq, not_false_eq_true, and_self, if_true]

end Assign
end OneChunk

section ChunkGo
variable (hrun : s.running = true) (hl : 0 < s.level) (hidle : s.led.chunkRun = none)
include hrun hl hidle

theorem exec_chunkGo_one (hbusy : s.obj 0x2301 5 ≠ 1) (hone : s.obj 0x2301 2 = 1) (hlast : s.obj 0x2301 1 + 1 ≤ 196608) :
    exec .chunkGo s = .next (s.chunkBegun.chunkLoop (s.obj 0x2301 1) 1 (s.obj 0x2301 3) 1) := by
  rw [← chunkBegun_resume hone]
  exact exec_chunkGo hrun hl hidle (chunkGo_begins hbusy (by rw [hone]; exact hlast))

omit hrun hl in
theorem exec_chunkGo_rejected (h : s.obj 0x2301 5 = 1 ∨ 196608 < s.obj 0x2301 1 + s.obj 0x2301 2) : exec .chunkGo s = .next s := by
  rw [show exec .chunkGo s = s.liveLedger (if s.led.chunkRun.isSome then s.chunkResume else (s.chunkGo).getD s) from rfl, hidle,
    chunkGo_rejected h]
  exact liveLedger_self s

variable (hbusy : s.obj 0x2301 5 ≠ 1) (hone : s.obj 0x2301 2 = 1) (hlast : s.obj 0x2301 1 + 1 ≤ 196608) (htarget : 128 ≤ s.obj 0x2301 3)
  (hopen : reservedChunk (s.obj 0x2301 1) = false)
include hbusy hone hlast htarget hopen

theorem chunkGo_assigns (hfree : s.mem.owner.num (s.obj 0x2301 1) = 0) (hmig : s.migrating (s.obj 0x2301 3 % 128) = false) :
    answers .chunkGo s fun t => t.mem.owner.num (s.obj 0x2301 1) = s.obj 0x2301 3 ∧
      (∀ x, x ≠ s.obj 0x2301 1 → t.mem.owner.num x = s.mem.owner.num x) ∧ t.obj 0x2301 5 = 2 ∧ t.obj 0x2301 6 = 1 ∧
      (∀ a, chunkBase (s.obj 0x2301 1) ≤ a → a < chunkBase (s.obj 0x2301 1) + 2 ^ 21 → t.mem.dev.read a = 0) ∧
      (∀ a, a < chunkBase (s.obj 0x2301 1) ∨ chunkBase (s.obj 0x2301 1) + 2 ^ 21 ≤ a → t.mem.dev.read a = s.mem.dev.read a) := by
  have hmig' : s.chunkBegun.migrating (s.obj 0x2301 3 % 128) = false := by
    rw [migrating, chunkBegun_obj_other (by decide) (by omega) (by decide), chunkBegun_obj_other (by decide) (by omega) (by decide)]
    exact hmig
  have hstep := chunkStep_assigns (s := s.chunkBegun) hopen htarget hfree hmig'
  refine ⟨_, (exec_chunkGo_one hrun hl hidle hbusy hone hlast).trans (congrArg _ (chunkLoop_done hstep)), ?_⟩
  dsimp only
  rw [withChunkRun_mem, setObj_mem, setObj_mem, assignChunk_owner, assignChunk_dev, withChunkRun_obj, withChunkRun_obj, chunkBegun_mem]
  exact ⟨num_setNum _ _ _, fun x hx => Sparse.get_set_ne _ _ hx.symm, obj_setObj _ _ _ _ _,
    (obj_setObj_sub _ (by decide) (by decide) (by decide)).trans (obj_setObj _ _ _ _ _),
    fun a h1 h2 => Ram.read_zeroFill_in _ _ _ h1 h2, fun a h => Ram.read_zeroFill_out _ _ _ h⟩

theorem chunkGo_owned (h0 : s.mem.owner.num (s.obj 0x2301 1) ≠ 0) (hne : s.mem.owner.num (s.obj 0x2301 1) ≠ s.obj 0x2301 3) :
    answers .chunkGo s fun t => t.obj 0x2301 5 = 3 ∧ t.obj 0x2301 7 = 2 ∧ t.mem = s.mem := by
  have hstep := chunkStep_owned (s := s.chunkBegun) hopen htarget h0 hne
  refine ⟨_, (exec_chunkGo_one hrun hl hidle hbusy hone hlast).trans (congrArg _ (chunkLoop_fail hstep)), ?_, ?_, ?_⟩
  · rw [withChunkRun_obj, obj_setObj_sub _ (by decide) (by decide) (by decide), obj_setObj]
  · rw [withChunkRun_obj, obj_setObj]
  · rw [withChunkRun_mem, setObj_mem, setObj_mem, chunkBegun_mem]

end ChunkGo

/-! Benches (R369) -/

section Bench
variable {b v : Nat} (hdue : s.cmp.ownerDue.find? (·.1 == b) = none)
include hdue

theorem benchByte_same (h : v = s.benchOwner b) : s.benchByte b v = s := by
  rw [benchByte, hdue]
  exact if_pos h

variable (h : v ≠ s.benchOwner b)
include h

theorem benchByte_gives (hjob : (s.bench b).job = none) : s.benchByte b v = s.giveBench b v := by
  rw [benchByte, hdue]
  exact (if_neg h).trans (if_neg (by rw [hjob]; decide))

/-- With a job on the bench the change is due at the job's end. -/
theorem benchByte_waits (hjob : (s.bench b).job ≠ none) : s.benchByte b v =
    { s with cmp := { s.cmp with ownerDue := s.cmp.ownerDue.filter (·.1 != b) ++ [(b, v)] } } := by
  rw [benchByte, hdue]
  exact (if_neg h).trans ((if_pos (.inr (Option.isSome_iff_ne_none.2 hjob))).trans (if_neg nofun))

end Bench

theorem exec_benchOwnerWrite_rejected {bs : List Byte} (h : bs.length ≠ 512) : exec (.benchOwnerWrite bs) s = .next s :=
  (congrArg s.liveLedger (if_neg h)).trans (liveLedger_self s)

end Sys2Proof.Machine.State

open Sys2Proof Sys2Proof.Machine Sys2Proof.Claims

/-- Settles O53: a drawer's STATE, a chunk command over one chunk, and a bench's owner byte. -/
theorem drawersStopRecycleAndTakeResources : Obligations.DrawersStopRecycleAndTakeResources := by
  unfold Obligations.DrawersStopRecycleAndTakeResources
  refine ⟨fun s d hrun hl hd => ?drawer, fun s hrun hl => ?resources⟩
  case drawer =>
    exact ⟨fun h0 hst => ⟨_, State.exec_drawerStart hrun hl (Nat.pos_of_ne_zero h0) hd hst, State.drawerState_setObj d 0, rfl,
        fun x hx hd' hne => State.drawerState_setObj_ne 0 hd' hx hne, rfl⟩, fun h => State.exec_drawerStart_rejected (.inr h),
      fun h0 hst => State.exec_drawerStop hrun hl (Nat.pos_of_ne_zero h0) hd hst, fun h => State.exec_drawerStop_rejected (.inr h),
      fun h => ⟨State.exec_drawerStart_rejected (.inl h), State.exec_drawerStop_rejected (.inl h)⟩,
      fun hst hquiet => ⟨_, State.exec_drawerStoppedReached_quiet hrun hst hquiet, State.drawerState_setObj d 2, rfl⟩,
      State.exec_drawerStoppedReached_working⟩
  case resources =>
    intro c target
    refine ⟨fun d => State.recycle_answers hrun hl, fun d => State.exec_recycle_rejected, fun hidle hbusy hone hlast htarget hopen =>
        ⟨State.chunkGo_assigns hrun hl hidle hbusy hone hlast htarget hopen, State.chunkGo_owned hrun hl hidle hbusy hone hlast htarget hopen⟩,
      State.exec_chunkGo_rejected, fun bs h => State.liveLedger_guarded _ hrun hl h, fun bs => State.exec_benchOwnerWrite_rejected,
      fun b v hdue => ⟨State.benchByte_same hdue, State.benchByte_gives hdue, fun h hjob => ?_⟩⟩
    rw [State.benchByte_waits hdue h hjob]
    exact ⟨rfl, List.mem_append_right _ (List.mem_singleton.2 rfl)⟩

end
section
/-! Migration commands (R377 to R382). -/

namespace Sys2Proof.Machine.State

open Claims

variable {s : State} {d k : Nat}

/-- The rows of MIG_COMMAND by the command that each writes. -/
def migRows (d : Nat) : List (Nat × Instr) :=
  [(1, .migSave d), (2, .migRestore d), (3, .migCopyOut d), (4, .migCopyIn d), (5, .migLogStart d), (6, .migLogSwap d), (7, .migLogStop d)]

/-- A command that has been accepted is BUSY. -/
def migBegun (s : State) (d k : Nat) : State := (s.setObj 0x23C0 2 d 1).setObj 0x23C0 1 d k

section Row
variable {c : Instr} (hrow : (k, c) ∈ migRows d)
include hrow

theorem migRow_command : 1 ≤ k ∧ k ≤ 7 := by
  have hk : k ∈ List.range' 1 7 := List.mem_map_of_mem (f := Prod.fst) hrow
  have := List.mem_range'_1.1 hk
  omega

theorem exec_migRow : exec c s = s.liveLedger (s.migCommand d k) :=
  (List.map_inj_left (f := fun y : Nat × Instr => exec y.2 s) (g := fun y => s.liveLedger (s.migCommand d y.1))).1 rfl _ hrow

theorem exec_migRow_zero (hd : d = 0) (hidle : s.obj 0x23C0 2 d ≠ 1) : exec c s = .next s := by
  have hnone : s.migWrite d k = none := if_pos (.inl hd)
  rw [exec_migRow hrow, migCommand, if_neg hidle, hnone]
  exact liveLedger_self s

variable (hrun : s.running = true) (hl : 0 < s.level) (hd : 1 ≤ d) (hd' : d ≤ 127) (hidle : s.obj 0x23C0 2 d ≠ 1)
include hrun hl hd hd' hidle

theorem exec_migRow_refused (h : s.migAllowed d k = false) : exec c s = .next (s.migEnd d 0x12) := by
  have hk := migRow_command hrow
  have hwrite : s.migWrite d k = some (s.migEnd d 0x12) := (if_neg (by omega)).trans (if_pos (by rw [h]; rfl))
  rw [exec_migRow hrow, migCommand, if_neg hidle, hwrite]
  exact liveLedger_running s _ hrun hl

theorem exec_migRow_allowed (h : s.migAllowed d k = true) : exec c s = .next ((s.migBegun d k).migRun d k) := by
  have hk := migRow_command hrow
  rw [exec_migRow hrow, migCommand_starts hd hd' hk.1 hk.2 hidle h]
  exact liveLedger_running s _ hrun hl

end Row

/-! The end of a command (R377) -/

section Keys
variable (hd : d < 65536)
include hd

/-- Two objects of a drawer's migration record differ. -/
theorem migKey_ne {a b : Nat} (ha : a < 256) (hb : b < 256) (h : a ≠ b) : objKey 0x23C0 a d ≠ objKey 0x23C0 b d :=
  objKey_ne ha hb hd hd (.inr (.inl h))

theorem migEnd_state (st : Nat) : (s.migEnd d st).obj 0x23C0 2 d = if st = 0 then 2 else 3 := by
  rw [migEnd, obj_setObj_ne _ _ _ _ _ (migKey_ne hd (by decide) (by decide) (by decide)), obj_setObj]

theorem migEnd_obj {b : Nat} (hb : b < 256) (h2 : b ≠ 2) (h3 : b ≠ 3) (st : Nat) : (s.migEnd d st).obj 0x23C0 b d = s.obj 0x23C0 b d := by
  rw [migEnd, obj_setObj_ne _ _ _ _ _ (migKey_ne hd (by decide) hb h3.symm), obj_setObj_ne _ _ _ _ _ (migKey_ne hd (by decide) hb h2.symm)]

theorem migBegun_log : (s.migBegun d k).obj 0x23C0 9 d = s.obj 0x23C0 9 d := by
  rw [migBegun, obj_setObj_ne _ _ _ _ _ (migKey_ne hd (by decide) (by decide) (by decide)),
    obj_setObj_ne _ _ _ _ _ (migKey_ne hd (by decide) (by decide) (by decide))]

end Keys

theorem migEnd_status (st : Nat) : (s.migEnd d st).obj 0x23C0 3 d = st := obj_setObj _ _ _ _ _

theorem migEnd_blob (st i b n : Nat) : (s.migEnd d st).blob i b n = s.blob i b n := rfl

theorem migEnd_mem (st : Nat) : (s.migEnd d st).mem = s.mem := rfl

theorem migEnd_frame (st : Nat) : { s.migEnd d st with led := { (s.migEnd d st).led with vals := s.led.vals } } = s := rfl

/-! SAVE and RESTORE (R381, R382) -/

/-- The blob stands in STATE, where a read finds it and where RESTORE does. -/
def blobSaved (s : State) (d : Nat) (b : List Byte) : State := (s.setBlob 0x23C0 0x0B d b).setBlob 0x23C0 0x0D d b

theorem migRun_save : s.migRun d 1 = (s.blobSaved d (s.migBlob d)).migEnd d 0 := rfl

theorem blobSaved_read (hd : d < 65536) (b : List Byte) : (s.blobSaved d b).blob 0x23C0 0x0B d = b := by
  rw [blobSaved, blob_setBlob_ne _ _ _ _ _ (migKey_ne hd (by decide) (by decide) (by decide)), blob_setBlob]

theorem blobSaved_restores (b : List Byte) : (s.blobSaved d b).blob 0x23C0 0x0D d = b := blob_setBlob _ _ _ _ _

theorem blobSaved_mem (b : List Byte) : (s.blobSaved d b).mem = s.mem := rfl

theorem migBegun_mem : (s.migBegun d k).mem = s.mem := rfl

/-- SAVE ends DONE with the blob in its two places. -/
theorem migRun_save_answers (hd : d < 65536) :
    (s.migRun d 1).blob 0x23C0 0x0B d = s.migBlob d ∧ (s.migRun d 1).blob 0x23C0 0x0D d = s.migBlob d ∧ (s.migRun d 1).obj 0x23C0 2 d = 2 ∧
      (s.migRun d 1).obj 0x23C0 3 d = 0 ∧ (s.migRun d 1).mem = s.mem := by
  rw [migRun_save, migEnd_blob, migEnd_blob, blobSaved_read hd, blobSaved_restores, migEnd_state hd, migEnd_status, migEnd_mem, blobSaved_mem]
  exact ⟨rfl, rfl, rfl, rfl, rfl⟩

theorem migRun_restore : s.migRun d 2 = s.restoreRun d := rfl

theorem restoreRun_malformed (h : blobOk (s.blob 0x23C0 0x0D d) = false) : s.restoreRun d = s.migEnd d 0x0E := if_pos (by rw [h]; rfl)

theorem restoreRun_restores (hform : blobOk (s.blob 0x23C0 0x0D d) = true) (hok : s.restoreOk d (s.blob 0x23C0 0x0D d) = true)
    (hquiet : (blobQps (s.blob 0x23C0 0x0D d)).any (fun q => decide (s.now < (s.qp (leAt q 0 4)).quarantine)) = false) :
    s.restoreRun d = (s.restore d (s.blob 0x23C0 0x0D d)).migEnd d 0 :=
  (if_neg (by rw [hform]; decide)).trans ((if_neg (by rw [hok]; decide)).trans (if_neg (by rw [hquiet]; decide)))

/-! The log (R380) -/

theorem migRun_logStart_obj : (s.migRun d 5).obj = ((s.setObj 0x23C0 9 d 1).migEnd d 0).obj := rfl

theorem migRun_logSwap : s.migRun d 6 = (s.setObj 0x23C0 9 d (3 - s.obj 0x23C0 9 d)).migEnd d 0 := rfl

theorem migRun_logStop : s.migRun d 7 = (s.setObj 0x23C0 9 d 0).migEnd d 0 := rfl

/-- A command that sets the log ends DONE. -/
theorem logSet_answers (hd : d < 65536) (v : Nat) :
    ((s.setObj 0x23C0 9 d v).migEnd d 0).obj 0x23C0 9 d = v ∧ ((s.setObj 0x23C0 9 d v).migEnd d 0).obj 0x23C0 2 d = 2 := by
  rw [migEnd_obj hd (by decide) (by decide) (by decide), obj_setObj, migEnd_state hd]
  exact ⟨rfl, rfl⟩

/-! The copies (R379) -/

/-- What COPY_OUT resolves of the staging region: the chunks, and the words of their granules. -/
def stagingOut (s : State) (d : Nat) : Res × State :=
  s.resolveRegion 0 (s.obj 0x23C0 4 d / 2 ^ 40) (s.obj 0x23C0 4 d % 2 ^ 40) (2 ^ 21 * (s.imageChunks d).length + 4 * (s.imageChunks d).length)
    true false

section CopyOut
variable {s1 : State}

theorem copyRun_out_fails {e : Nat} (h : s.stagingOut d = (.fail e, s1)) : s.copyRun d true = s1.migEnd d e := by
  unfold stagingOut at h
  simp only [copyRun, Bool.not_true, Bool.false_and, Bool.false_eq_true, if_false, Bool.true_or, if_true, h]

/-- Beside a staging region that can be reached whole, the chunks go out one after another. -/
theorem copyRun_out_copies {ps : List Piece} (h : s.stagingOut d = (.ok ps, s1)) (hready : s1.piecesReady ps = true)
    (hlost : (s.imageChunks d).any (fun c => (s1.stack (stackOf (chunkBase c))).lost) = false)
    (hbus : ∀ p a m, Piece.bus p a m ∈ ps → s1.busOk p = true) :
    let r := (s1.setObj 0x23C0 0x0C d 0).outChunks d (s.imageChunks d).length (s.obj 0x23C0 5 d == 1) ps (s.imageChunks d).zipIdx
    s.copyRun d true = r.2.migEnd d r.1 := by
  have hreach : ps.any (fun p => match p with
      | .bus port _ _ => !s1.busOk port
      | _ => false) = false := by
    refine List.any_eq_false.2 fun p hp => ?_
    cases p with
    | bus port a m => simp [hbus port a m hp]
    | _ => exact Bool.false_ne_true
  unfold stagingOut at h
  simp only [copyRun, Bool.not_true, Bool.false_and, Bool.false_eq_true, if_false, Bool.true_or, if_true, h, hready, hlost, Bool.true_and, or_self]
  exact if_neg (ne_true_of_eq_false hreach)

end CopyOut
end Sys2Proof.Machine.State

open Sys2Proof Sys2Proof.Machine Sys2Proof.Claims

/-- Settles O54: a row of MIG_COMMAND is refused or begins; each command's run then has its end. -/
theorem migrationCommandsAnswer : Obligations.MigrationCommandsAnswer := by
  unfold Obligations.MigrationCommandsAnswer
  refine ⟨fun s d k c hrow hrun hl hidle => ?rows, fun s s1 d ps => ⟨fun e => State.copyRun_out_fails, State.copyRun_out_copies⟩⟩
  case rows =>
    intro t
    refine ⟨fun hd => State.exec_migRow_zero hrow hd hidle, fun hd hd' h => ?_, fun hd hd' h => ?allowed⟩
    · exact ⟨_, State.exec_migRow_refused hrow hrun hl hd hd' hidle h, State.migEnd_state (by omega) _, State.migEnd_status _,
        State.migEnd_frame _⟩
    case allowed =>
      have hd16 : d < 65536 := by omega
      have hexec : exec c s = .next (t.migRun d k) := State.exec_migRow_allowed hrow hrun hl hd hd' hidle h
      have hlog : t.obj 0x23C0 9 d = s.obj 0x23C0 9 d := State.migBegun_log hd16
      refine ⟨fun hk => ?_, fun hk hform hok hquiet => ?_, fun hk hform => ?_, fun hk => ?_, fun hk => ?_, fun hk => ?_, fun hk => ?_, fun hk => ?_⟩
      · subst hk
        obtain ⟨hread, hrestores, hstate, hstatus, hmem⟩ := State.migRun_save_answers (s := t) hd16
        exact ⟨_, hexec, hread, hrestores, hstate, hstatus, hmem.trans State.migBegun_mem⟩
      · subst hk
        rw [hexec, State.migRun_restore, State.restoreRun_restores hform hok hquiet]
      · subst hk
        rw [hexec, State.migRun_restore, State.restoreRun_malformed hform]
      · subst hk
        exact hexec
      · subst hk
        exact hexec
      · subst hk
        exact ⟨_, hexec, State.logSet_answers hd16 1⟩
      · subst hk
        rw [← hlog]
        exact ⟨_, hexec, State.logSet_answers hd16 _⟩
      · subst hk
        exact ⟨_, hexec, State.logSet_answers hd16 0⟩

end

section
/-! Power-ups, the rails, the reset pins and a full reset (R328, R457, R479 to R482, R490, R505): what each of their rows leaves in force. -/

namespace Sys2Proof.Machine

/-- Keeping a key keeps its value. -/
theorem Sparse.get_keep {α : Type} (d : Nat → α) (m : Sparse α) {p : Nat → Bool} {k : Nat} (hk : p k = true) :
    Sparse.get d (m.keep p) k = Sparse.get d m k := by
  induction m with
  | nil => rfl
  | cons x m ih =>
    obtain ⟨j, v⟩ := x
    simp only [Sparse.keep, List.filter_cons, Sparse.get] at ih ⊢
    by_cases hj : j = k
    · subst hj
      rw [if_pos hk, Sparse.get, if_pos rfl, if_pos rfl]
    · rw [if_neg hj, ← ih]
      split
      · rw [Sparse.get, if_neg hj]
      · rfl

/-- A key that is not kept reads as one that is not listed. -/
theorem Sparse.get_keep_none {α : Type} (d : Nat → α) (m : Sparse α) {p : Nat → Bool} {k : Nat} (hk : p k = false) :
    Sparse.get d (m.keep p) k = d k := by
  induction m with
  | nil => rfl
  | cons x m ih =>
    obtain ⟨j, v⟩ := x
    simp only [Sparse.keep, List.filter_cons] at ih ⊢
    split
    next hj =>
      have hne : j ≠ k := fun h => by rw [h, hk] at hj; cases hj
      rw [Sparse.get, if_neg hne, ih]
    next => exact ih

namespace State
open Sys2Proof.Claims

/-! What a power-up does after the ledger is read touches only these parts -/

/-- A state apart from its fault lines, its exchange key, its sub-ports and its counters. -/
def besideBringUp (s : State) : State :=
  { s with drawn := 0, eth := EthState.reset, cipher := CipherState.reset, flt := FaultState.reset,
           led := { s.led with blobs := [], force := [], ctrs := [] } }

theorem bringUp_pw {s t : State} (h : t.besideBringUp = s.besideBringUp) : t.pw = s.pw := congrArg (·.pw) h
theorem bringUp_mem {s t : State} (h : t.besideBringUp = s.besideBringUp) : t.mem = s.mem := congrArg (·.mem) h
theorem bringUp_now {s t : State} (h : t.besideBringUp = s.besideBringUp) : t.now = s.now := congrArg (·.now) h
theorem bringUp_pending {s t : State} (h : t.besideBringUp = s.besideBringUp) : t.pending = s.pending := congrArg (·.pending) h
theorem bringUp_obj {s t : State} (h : t.besideBringUp = s.besideBringUp) (i b n : Nat) : t.obj i b n = s.obj i b n :=
  congrArg (fun u => u.obj i b n) h

section BringUp
variable (s : State)

theorem besideBringUp_newExchange : s.newExchange.besideBringUp = s.besideBringUp := rfl

theorem besideBringUp_forceAll : s.forceAll.besideBringUp = s.besideBringUp := rfl

theorem besideBringUp_trainPort (p : Nat) : (s.trainPort p).besideBringUp = s.besideBringUp := by
  unfold trainPort
  split
  · rfl
  · refine foldl_keep besideBringUp _ (fun u k => ?_) _ s
    dsimp only
    split <;> rfl

theorem besideBringUp_setCondition (k : Nat) (b : Bool) : (s.setCondition k b).besideBringUp = s.besideBringUp :=
  (congrArg besideBringUp (setCondition_frame s k b) :)

theorem besideBringUp_count (i b n : Nat) : (s.count i b n).besideBringUp = s.besideBringUp :=
  (congrArg besideBringUp (count_frame s i b n) :)

theorem besideBringUp_judgeSupply (u : State) : (s.judgeSupply u).besideBringUp = s.besideBringUp :=
  (besideBringUp_count _ _ _ _).trans (besideBringUp_setCondition s _ _)

theorem besideBringUp_raiseSource (k : Nat) : (s.raiseSource k).besideBringUp = s.besideBringUp :=
  (congrArg besideBringUp (raiseSource_frame s k) :)

end BringUp

/-! What the main rails take with them (R479, R505) -/

section Lost
variable (s : State)

theorem powerLost_kept : (s.powerLost.pw, s.powerLost.mem, s.powerLost.now, s.powerLost.pending) =
    ({ PowerState.reset with
        perst0 := s.pw.perst0, perst1 := s.pw.perst1, auxOk := s.pw.auxOk, wakeEnable := s.pw.wakeEnable, wakePatterns := s.pw.wakePatterns,
        woken := s.pw.woken, boundary := s.pw.boundary },
      { MemState.reset with dev := s.mem.dev.lose, host := s.mem.host, peer := s.mem.peer }, s.now, s.pending) := by
  unfold powerLost
  dsimp only
  refine foldl_keep (fun u : State => (u.pw, u.mem, u.now, u.pending)) _ (fun u c => ?_) _ _
  split <;> rfl

/-- The objects that flash holds come back, but for those that the secrets and the wake record write. -/
theorem powerLost_obj {i b : Nat} (hi : i < 0x2581) (hb : b < 256) :
    s.powerLost.obj i b = Sparse.get objDefault s.led.flashVals (objKey i b 0) := by
  unfold powerLost
  dsimp only
  rw [obj_setObj_ne _ _ _ _ _ (objKey_ne (by decide) hb (by decide) (by decide) (.inl (by omega)))]
  refine foldl_keep (fun u : State => u.obj i b) _ (fun u c => ?_) _ _
  split
  next => exact obj_setObj_ne _ _ _ _ _ (objKey_ne (by decide) hb (by decide) (by decide) (.inl (by omega)))
  next => rfl

/-- The reset epoch is never lost with a bad read of flash. -/
theorem checkFlash_epoch : Sparse.get objDefault s.checkFlash.2.led.flashVals (objKey 0x2001 3 0) =
    Sparse.get objDefault s.led.flashVals (objKey 0x2001 3 0) :=
  Sparse.get_keep objDefault s.led.flashVals (p := fun k => k == objKey 0x2001 3 0 || !Config.flashFails k s.drawn)
    (by rw [beq_self_eq_true, Bool.true_or])

/-! A power-up (R490) -/

/-- The machine as the last main rail enters its range. -/
def railsUp : State :=
  let u := s.checkFlash.2.powerLost
  { u with
    pw := { u.pw with mainUp := true, rootLocked := true, bootReady := true, dAt := if u.pw.perst0 then none else some u.now, resetAt := u.now },
    ring := { u.ring with fns := u.pagesAfterReset },
    flt := { u.flt with runStart := Sparse.setNum [] 64 (u.tick + 1), inReset := true } }

theorem besideBringUp_powerUp : s.powerUp.besideBringUp = ((s.railsUp.nextEpoch).setObj 0x2001 2 0 0).besideBringUp := by
  have hlast : ∀ u : State, ((u.newExchange.forceAll.trainPort 8).judgeSupply State.reset).besideBringUp = u.besideBringUp := fun u =>
    (besideBringUp_judgeSupply _ _).trans ((besideBringUp_trainPort _ 8).trans
      ((besideBringUp_forceAll _).trans (besideBringUp_newExchange u)))
  unfold powerUp
  dsimp only
  split
  · exact (besideBringUp_raiseSource _ 4).trans (hlast _)
  · exact hlast _

theorem nextEpoch_obj_self : s.nextEpoch.obj 0x2001 3 = (s.obj 0x2001 3 + 1) % 2 ^ 64 := obj_setObj s 0x2001 3 0 _

/-- The epoch and its cause are objects alone. -/
theorem nextEpoch_kept (v : Nat) : ((s.nextEpoch.setObj 0x2001 2 0 v).pw = s.pw ∧ (s.nextEpoch.setObj 0x2001 2 0 v).mem = s.mem) ∧
    (s.nextEpoch.setObj 0x2001 2 0 v).now = s.now ∧ (s.nextEpoch.setObj 0x2001 2 0 v).pending = s.pending := ⟨⟨rfl, rfl⟩, rfl, rfl⟩

theorem railsUp_kept : s.railsUp.mem = s.checkFlash.2.powerLost.mem ∧ s.railsUp.now = s.checkFlash.2.powerLost.now ∧
    s.railsUp.pending = s.checkFlash.2.powerLost.pending ∧ s.railsUp.led = s.checkFlash.2.powerLost.led ∧
    s.railsUp.pw.mainUp = true ∧ s.railsUp.pw.rootLocked = true := ⟨rfl, rfl, rfl, rfl, rfl, rfl⟩

theorem checkFlash_kept : s.checkFlash.2.mem = s.mem ∧ s.checkFlash.2.now = s.now ∧ s.checkFlash.2.pending = s.pending := ⟨rfl, rfl, rfl⟩

theorem powerLost_mem : s.powerLost.mem = { MemState.reset with dev := s.mem.dev.lose, host := s.mem.host, peer := s.mem.peer } :=
  congrArg (fun x => x.2.1) s.powerLost_kept

theorem railsUp_epoch : s.railsUp.obj 0x2001 3 = Sparse.get objDefault s.led.flashVals (objKey 0x2001 3 0) := by
  obtain ⟨-, -, -, hled, -, -⟩ := s.railsUp_kept
  rw [obj, hled]
  exact (powerLost_obj s.checkFlash.2 (by decide) (by decide)).trans s.checkFlash_epoch

theorem powerUp_mem : s.powerUp.mem = { MemState.reset with dev := s.mem.dev.lose, host := s.mem.host, peer := s.mem.peer } := by
  obtain ⟨⟨-, hmem⟩, -, -⟩ := s.railsUp.nextEpoch_kept 0
  obtain ⟨hrails, -⟩ := s.railsUp_kept
  obtain ⟨hflash, -⟩ := s.checkFlash_kept
  rw [bringUp_mem s.besideBringUp_powerUp, hmem, hrails, powerLost_mem, hflash]

theorem powerUp_pw : s.powerUp.pw.mainUp = true ∧ s.powerUp.pw.rootLocked = true := by
  obtain ⟨⟨hpw, -⟩, -, -⟩ := s.railsUp.nextEpoch_kept 0
  obtain ⟨-, -, -, -, hup, hroot⟩ := s.railsUp_kept
  rw [bringUp_pw s.besideBringUp_powerUp, hpw]
  exact ⟨hup, hroot⟩

theorem powerUp_clock : s.powerUp.now = s.now ∧ s.powerUp.pending = s.pending := by
  obtain ⟨-, hnow, hpending⟩ := s.railsUp.nextEpoch_kept 0
  obtain ⟨-, hrailsNow, hrailsPending, -⟩ := s.railsUp_kept
  obtain ⟨-, hflashNow, hflashPending⟩ := s.checkFlash_kept
  have hkept := s.checkFlash.2.powerLost_kept
  rw [bringUp_now s.besideBringUp_powerUp, bringUp_pending s.besideBringUp_powerUp, hnow, hpending, hrailsNow, hrailsPending]
  exact ⟨(congrArg (fun x => x.2.2.1) hkept).trans hflashNow, (congrArg (fun x => x.2.2.2) hkept).trans hflashPending⟩

theorem powerUp_epoch : s.powerUp.obj 0x2001 2 = 0 ∧
    s.powerUp.obj 0x2001 3 = (Sparse.get objDefault s.led.flashVals (objKey 0x2001 3 0) + 1) % 2 ^ 64 := by
  rw [bringUp_obj s.besideBringUp_powerUp, bringUp_obj s.besideBringUp_powerUp, obj_setObj,
    obj_setObj_sub _ (by decide) (by decide) (by decide), nextEpoch_obj_self, railsUp_epoch]
  exact ⟨rfl, rfl⟩

end Lost

section Rails
variable {s : State}

theorem powerGood_answers (hdown : s.pw.mainUp = false) : answers .powerGood s fun t => t.pw.mainUp = true ∧ t.pw.rootLocked = true ∧
    t.obj 0x2001 2 = 0 ∧ t.obj 0x2001 3 = (Sparse.get objDefault s.led.flashVals (objKey 0x2001 3 0) + 1) % 2 ^ 64 ∧
    t.mem.dev = s.mem.dev.lose ∧ t.mem.host = s.mem.host ∧ t.now = s.now ∧ t.pending = s.pending :=
  ⟨_, exec_powerGood hdown, s.powerUp_pw.1, s.powerUp_pw.2, s.powerUp_epoch.1, s.powerUp_epoch.2, (congrArg MemState.dev s.powerUp_mem :),
    (congrArg MemState.host s.powerUp_mem :), s.powerUp_clock⟩

theorem mainRailsDown_answers (hup : s.pw.mainUp = true) : answers .mainRailsDown s fun t => t.pw.mainUp = false ∧ t.pw.rootLocked = false ∧
    t.pw.woken = false ∧ t.mem.dev = s.mem.dev.lose ∧ t.mem.host = s.mem.host := by
  have hpw := congrArg (fun x => x.1) s.powerLost_kept
  exact ⟨_, exec_mainRailsDown hup, (congrArg PowerState.mainUp hpw :), (congrArg PowerState.rootLocked hpw :), rfl,
    (congrArg MemState.dev s.powerLost_mem :), (congrArg MemState.host s.powerLost_mem :)⟩

/-- In standby the supplies of a running device are not watched. -/
theorem exec_rails_standby (hdown : s.pw.mainUp = false) : exec .mainRailsDown s = .next s ∧ ∀ r b, exec (.mainRailExcursion r) s = .next s ∧
    exec (.mainRailReturn r) s = .next s ∧ exec (.vddAuxExcursion b) s = .next s := by
  have hnot : ¬ s.pw.mainUp = true := ne_true_of_eq_false hdown
  exact ⟨congrArg _ (if_neg hnot), fun r b => ⟨congrArg _ (if_neg fun h => hnot h.1), congrArg _ (if_neg fun h => hnot h.1),
    congrArg _ (if_pos (by rw [hdown]; rfl))⟩⟩

/-! The SUPPLY condition (R471) -/

theorem judgeSupply_pw (u : State) : (s.judgeSupply u).pw = s.pw := bringUp_pw (besideBringUp_judgeSupply s u)
theorem judgeSupply_mem (u : State) : (s.judgeSupply u).mem = s.mem := bringUp_mem (besideBringUp_judgeSupply s u)

/-- A cause of SUPPLY raises a free line. -/
theorem judgeSupply_rises (u : State) (hline : s.line 2 = FaultLine.down) (hcause : true ∈ s.supplyCauses) :
    ((s.judgeSupply u).line 2).up = true := by
  have hany : s.supplyCauses.any id = true := List.any_eq_true.2 ⟨true, hcause, rfl⟩
  have hcount : ∀ (v : State) (i b n : Nat), (v.count i b n).line 2 = v.line 2 := fun v i b n =>
    (congrArg (fun w : State => w.line 2) (count_frame v i b n) :)
  rw [judgeSupply, newCauses, hcount, hany]
  exact setCondition_rises s hline

theorem supplyCauses_rail {r : Nat} (hr : r < 7) (hout : bit s.pw.railsOut r = true) : true ∈ s.supplyCauses :=
  List.mem_append_left _ (List.mem_append_left _ (List.mem_map.2 ⟨r, List.mem_range.2 hr, hout⟩))

theorem supplyCauses_aux (haux : s.pw.auxOk = false) : true ∈ s.supplyCauses :=
  List.mem_append_left _ (List.mem_append_right _ (List.mem_singleton.2 (by rw [haux]; rfl)))

theorem mainRailExcursion_answers (hup : s.pw.mainUp = true) (hline : s.line 2 = FaultLine.down) {r : Nat} (hr : r < 7) :
    answers (.mainRailExcursion r) s fun t => bit t.pw.railsOut r = true ∧ (t.line 2).up = true ∧ t.mem = s.mem :=
  ⟨_, exec_mainRailExcursion hup hr, (congrArg (fun p : PowerState => bit p.railsOut r) (judgeSupply_pw s)).trans (bit_maskOr_self _ r),
    judgeSupply_rises s hline (supplyCauses_rail hr (bit_maskOr_self _ r)), judgeSupply_mem s⟩

theorem mainRailReturn_answers (hup : s.pw.mainUp = true) {r : Nat} (hr : r < 7) :
    answers (.mainRailReturn r) s fun t => bit t.pw.railsOut r = false ∧ t.mem = s.mem := by
  refine ⟨_, exec_mainRailReturn hup hr, ?_, judgeSupply_mem s⟩
  rw [judgeSupply_pw, bit_maskClear, bit_eq_testBit (2 ^ r), Nat.testBit_two_pow_self, Bool.not_true, Bool.and_false]

theorem copyWake_mem : s.copyWake.mem = s.mem := by
  unfold copyWake
  split <;> rfl

theorem copyWake_auxOk : s.copyWake.pw.auxOk = s.pw.auxOk := by
  unfold copyWake
  split <;> rfl

theorem vddAuxLost_answers (hup : s.pw.mainUp = true) (hline : s.line 2 = FaultLine.down) :
    answers (.vddAuxExcursion false) s fun t => t.pw.auxOk = false ∧ (t.line 2).up = true ∧ t.mem = s.mem :=
  ⟨_, exec_vddAuxExcursion hup false, congrArg PowerState.auxOk (judgeSupply_pw s), judgeSupply_rises s hline (supplyCauses_aux rfl),
    judgeSupply_mem s⟩

theorem vddAuxBack_answers (hup : s.pw.mainUp = true) : answers (.vddAuxExcursion true) s fun t => t.pw.auxOk = true ∧ t.mem = s.mem := by
  refine ⟨_, exec_vddAuxExcursion hup true, ?_⟩
  dsimp only
  rw [judgeSupply_pw, judgeSupply_mem, if_pos rfl, copyWake_auxOk, copyWake_mem]
  exact ⟨rfl, rfl⟩

/-! The wake detector (R328, R329) -/

theorem wakeFrame_answers {f : List Byte} (hdown : s.pw.mainUp = false) (haux : s.pw.auxOk = true) (hfirst : s.pw.woken = false)
    (hlo : 64 ≤ f.length) (hhi : f.length ≤ 1522) (hfcs : fcsOk f = true) (hwakes : s.wakeReason f ≠ 0) :
    answers (.wakeFrameReceive f) s fun t => t.obj 0x2581 0x0A = s.wakeReason f ∧ t.pw.woken = true ∧
      t.flt.wakeAlert = true ∧ t.alertPin = true ∧ t.mem = s.mem := by
  have hpasses : ¬ (s.pw.mainUp ∨ !s.pw.auxOk ∨ s.pw.woken ∨ f.length < 64 ∨ 1522 < f.length ∨ !fcsOk f ∨ s.wakeReason f = 0) := by
    simp [hdown, haux, hfirst, hlo, hhi, hfcs, hwakes]
  refine ⟨_, congrArg Host.Outcome.next (if_neg hpasses), obj_setObj s 0x2581 0x0A 0 _, rfl, rfl, ?_, rfl⟩
  simp [alertPin, setObj, haux]

/-- One wake in a standby period, and none while the device runs. -/
theorem exec_wakeFrameReceive_none {f : List Byte} (h : s.pw.woken = true ∨ s.pw.mainUp = true) : exec (.wakeFrameReceive f) s = .next s :=
  congrArg _ (if_pos (h.elim (fun hw => .inr (.inr (.inl hw))) .inl))

/-! The reset pins (R479, R480, R482, R492) -/

theorem perst0Assert_answers (hup : s.pw.mainUp = true) (htrip : s.pw.tripped = false) (hpin : s.pw.perst0 = false)
    (hreset : s.flt.inReset = false) (hdue : s.flt.resetDue = none) :
    answers .perst0Assert s fun t => t.pw.perst0 = true ∧ t.flt.resetDue = some (.perst0, s.now) ∧ t.ring.p0 = PcieLink.down := by
  have hacts : ¬ ((!s.pw.mainUp) ∨ s.pw.tripped ∨ s.pw.perst0) := by simp [hup, htrip, hpin]
  exact ⟨_, congrArg Host.Outcome.next ((if_neg hacts).trans (resetCause_first .perst0 hreset hdue)), rfl, rfl, rfl⟩

theorem perst0Deassert_answers : answers .perst0Deassert s fun t => t.pw.perst0 = false ∧ t.mem = s.mem ∧ t.ring = s.ring ∧
    (s.pw.perst0 = true → s.pw.mainUp = true → s.flt.resetDue = none → t.pw.dAt = some s.now) :=
  ⟨_, rfl, rfl, rfl, rfl, fun hpin hup hdue => if_pos ⟨hpin, hup, by rw [hdue]; rfl⟩⟩

theorem perst1Assert_answers (hdown : s.ring.p1.up = false) :
    answers .perst1Assert s fun t => t.pw.perst1 = true ∧ t.ring.p1BusMaster = false ∧ t.mem = s.mem ∧ t.flt = s.flt :=
  ⟨_, congrArg Host.Outcome.next (if_neg fun h => ne_true_of_eq_false hdown h.2), rfl, rfl, rfl, rfl⟩

end Rails

/-! A full reset (R457, R480, R481) -/

section FullReset
variable (s : State)

theorem discardAll_epoch (p : Bool) : (s.discardAll p).obj 0x2001 3 = s.obj 0x2001 3 := Sparse.get_keep objDefault s.led.vals (p := fun k => flashObject k || keptObject k || neighbourObject k) (by decide)

theorem discardAll_level (p : Bool) : (s.discardAll p).level = 0 := Sparse.get_keep_none objDefault s.led.vals (p := fun k => flashObject k || keptObject k || neighbourObject k) (by decide)

/-- A state apart from its fault lines, its objects, its sessions and its exchange key. -/
def besideReset (s : State) : State :=
  { s with out := [], drawn := 0, cipher := CipherState.reset, flt := { s.flt with lines := [] },
           led := { s.led with vals := [], flashVals := [], blobs := [], sessions := [] } }

/-- The reset's own objects and its exchange key. -/
def afterDiscard (c : ResetCause) : State := (((s.discardAll (c == .perst0)).nextEpoch).setObj 0x2001 2 0 c.code).newExchange

/-- SERVICE_LEVEL returns to 0, with its event; LEVEL_TIME stays where it was 0 already. -/
def levelReturned (c : ResetCause) : State :=
  if s.level = 0 then (s.afterDiscard c).setObj 0x2000 3 0 (s.obj 0x2000 3) else ((s.afterDiscard c).setLevel 0).raiseJorol 0x0C 0 [0]

theorem fullReset_eq (c : ResetCause) : s.fullReset c = (s.levelReturned c).setCondition 2 (s.pw.railsOut != 0 || !s.pw.auxOk) := rfl

theorem setCondition_obj (k : Nat) (h : Bool) (i b n : Nat) : (s.setCondition k h).obj i b n = s.obj i b n :=
  (congrArg (fun u : State => u.obj i b n) (setCondition_frame s k h) :)

theorem besideReset_setCondition (k : Nat) (b : Bool) : (s.setCondition k b).besideReset = s.besideReset := by
  have hlines : (s.setCondition k b).besideReset.flt = s.besideReset.flt := by
    unfold setCondition besideReset
    dsimp only
    split
    · split
      · rfl
      · split <;> rfl
    · split
      · rfl
      · split <;> rfl
  have hrest : { (s.setCondition k b).besideReset with flt := s.besideReset.flt } = s.besideReset :=
    (congrArg besideReset (setCondition_frame s k b) :)
  rw [← hlines] at hrest
  exact hrest

theorem raiseJorol_obj (c k : Nat) (r : List Byte) (i b n : Nat) : (s.raiseJorol c k r).obj i b n = s.obj i b n :=
  congrArg (fun m => Sparse.get objDefault m (objKey i b n)) (sessions_vals (besideSessions_raiseJorol s c k r))

theorem besideReset_of_sessions {t : State} (h : t.besideSessions = s.besideSessions) : t.besideReset = s.besideReset :=
  (congrArg besideReset h :)

theorem besideReset_setObj (i b n v : Nat) : (s.setObj i b n v).besideReset = s.besideReset := rfl
theorem besideReset_nextEpoch : s.nextEpoch.besideReset = s.besideReset := rfl
theorem besideReset_newExchange : s.newExchange.besideReset = s.besideReset := rfl

theorem besideReset_setLevel (l : Nat) : (s.setLevel l).besideReset = s.besideReset :=
  (besideReset_setObj _ _ _ _ _).trans (besideReset_setObj s _ _ _ _)

theorem besideReset_afterDiscard (c : ResetCause) : (s.afterDiscard c).besideReset = (s.discardAll (c == .perst0)).besideReset := by
  rw [afterDiscard, besideReset_newExchange, besideReset_setObj, besideReset_nextEpoch]

theorem besideReset_fullReset (c : ResetCause) : (s.fullReset c).besideReset = (s.discardAll (c == .perst0)).besideReset := by
  rw [fullReset_eq, besideReset_setCondition, levelReturned, ← besideReset_afterDiscard]
  split
  · rw [besideReset_setObj]
  · rw [besideReset_of_sessions _ (besideSessions_raiseJorol _ 0x0C 0 [0]), besideReset_setLevel]

/-! The objects that a full reset writes -/

theorem newExchange_obj (i b n : Nat) : s.newExchange.obj i b n = s.obj i b n := rfl

theorem nextEpoch_obj_ne {i : Nat} (hi : i ≠ 0x2001) {b : Nat} (hb : b < 256) : s.nextEpoch.obj i b = s.obj i b :=
  obj_setObj_ne s _ _ _ _ (objKey_ne (by decide) hb (by decide) (by decide) (.inl hi.symm))

theorem setObj_obj_index {i j b b' v : Nat} (hb : b < 256) (hb' : b' < 256) (h : i ≠ j) : (s.setObj i b 0 v).obj j b' = s.obj j b' :=
  obj_setObj_ne s _ _ _ _ (objKey_ne hb hb' (by decide) (by decide) (.inl h))

theorem afterDiscard_cause (c : ResetCause) : (s.afterDiscard c).obj 0x2001 2 = c.code := by
  rw [afterDiscard, newExchange_obj, obj_setObj]

theorem afterDiscard_epoch (c : ResetCause) : (s.afterDiscard c).obj 0x2001 3 = (s.obj 0x2001 3 + 1) % 2 ^ 64 := by
  rw [afterDiscard, newExchange_obj, obj_setObj_sub _ (by decide) (by decide) (by decide), nextEpoch_obj_self, discardAll_epoch]

theorem afterDiscard_level (c : ResetCause) : (s.afterDiscard c).level = 0 := by
  rw [afterDiscard, level, newExchange_obj, setObj_obj_index _ (by decide) (by decide) (by decide),
    nextEpoch_obj_ne _ (by decide) (by decide)]
  exact s.discardAll_level _

/-- The return to level 0 writes nothing of object 0x2001. -/
theorem levelReturned_obj (c : ResetCause) {b : Nat} (hb : b < 256) : (s.levelReturned c).obj 0x2001 b = (s.afterDiscard c).obj 0x2001 b := by
  rw [levelReturned]
  split
  · exact setObj_obj_index _ (by decide) hb (by decide)
  · rw [raiseJorol_obj, setLevel, setObj_obj_index _ (by decide) hb (by decide), setObj_obj_index _ (by decide) hb (by decide)]

theorem levelReturned_level (c : ResetCause) : (s.levelReturned c).level = 0 := by
  rw [levelReturned]
  split
  · exact (obj_setObj_sub _ (by decide) (by decide) (by decide)).trans (s.afterDiscard_level c)
  · exact (raiseJorol_obj _ _ _ _ _ _ _).trans (setLevel_level _ 0)

theorem fullReset_obj (c : ResetCause) (i b : Nat) : (s.fullReset c).obj i b = (s.levelReturned c).obj i b := by
  rw [fullReset_eq, setCondition_obj]

/-! What a full reset clears, and what it keeps -/

section Kept
variable {t : State} {p : Bool} (h : t.besideReset = (s.discardAll p).besideReset)
include h

theorem reset_faults : t.flt.resetDue = none ∧ t.flt.scorecard = s.flt.scorecard ∧ t.flt.severe = s.flt.severe :=
  have hflt := congrArg State.flt h
  ⟨(congrArg FaultState.resetDue hflt :), (congrArg FaultState.scorecard hflt :), (congrArg FaultState.severe hflt :)⟩

theorem reset_memory : t.mem.dev = s.mem.dev := (congrArg (fun u : State => u.mem.dev) h :)

theorem reset_blocks : t.cmp = ComputeState.reset ∧ t.hrt = HrtState.reset ∧ t.hands = HandState.reset ∧ t.fab = FabricState.reset ∧
    t.clu = ClusterState.reset :=
  ⟨(congrArg State.cmp h :), (congrArg State.hrt h :), (congrArg State.hands h :), (congrArg State.fab h :), (congrArg State.clu h :)⟩

theorem reset_counters : t.led.ctrs = [] ∧ t.led.rises = [] :=
  ⟨(congrArg (fun u : State => u.led.ctrs) h :), (congrArg (fun u : State => u.led.rises) h :)⟩

end Kept

variable {s} in
theorem fullReset_answers (hrun : s.running = true) {c : ResetCause} {u : Nat} (hdue : s.flt.resetDue = some (c, u)) :
    answers .fullReset s fun t => t.level = 0 ∧ t.obj 0x2001 2 = c.code ∧ t.obj 0x2001 3 = (s.obj 0x2001 3 + 1) % 2 ^ 64 ∧
      t.flt.resetDue = none ∧ t.flt.scorecard = s.flt.scorecard ∧ t.flt.severe = s.flt.severe ∧ t.mem.dev = s.mem.dev ∧
      t.cmp = ComputeState.reset ∧ t.hrt = HrtState.reset ∧ t.hands = HandState.reset ∧ t.fab = FabricState.reset ∧
      t.clu = ClusterState.reset ∧ t.led.ctrs = [] ∧ t.led.rises = [] := by
  have h := s.besideReset_fullReset c
  obtain ⟨hnone, hcard, hsevere⟩ := s.reset_faults h
  obtain ⟨hcmp, hhrt, hhands, hfab, hclu⟩ := s.reset_blocks h
  exact ⟨_, exec_fullReset hrun hdue, (s.fullReset_obj c _ _).trans (s.levelReturned_level c),
    (s.fullReset_obj c _ _).trans ((s.levelReturned_obj c (by decide)).trans (s.afterDiscard_cause c)),
    (s.fullReset_obj c _ _).trans ((s.levelReturned_obj c (by decide)).trans (s.afterDiscard_epoch c)),
    hnone, hcard, hsevere, s.reset_memory h, hcmp, hhrt, hhands, hfab, hclu, s.reset_counters h⟩

/-- Without a cause no reset begins. -/
theorem exec_fullReset_none (hnone : s.flt.resetDue = none) : exec .fullReset s = .next s := by
  refine Eq.trans (congrArg s.live ?_) s.live_self
  rw [hnone]

end FullReset

end State
end Sys2Proof.Machine

open Sys2Proof Sys2Proof.Machine Sys2Proof.Claims

/-- Settles O55: the rows of the supplies and of the reset pins, and of the full reset that they cause. -/
theorem powerUpsAndResets : Obligations.PowerUpsAndResets := by
  unfold Obligations.PowerUpsAndResets
  exact fun s => ⟨State.powerGood_answers,
    fun hup => ⟨congrArg _ (if_pos hup), State.mainRailsDown_answers hup⟩,
    State.exec_rails_standby,
    fun hup hline => ⟨fun r hr => State.mainRailExcursion_answers hup hline hr, State.vddAuxLost_answers hup hline,
      State.vddAuxBack_answers hup⟩,
    fun hup r hr => State.mainRailReturn_answers hup hr,
    fun f hdown haux hfirst hlo hhi hfcs hwakes => State.wakeFrame_answers hdown haux hfirst hlo hhi hfcs hwakes,
    fun f h => State.exec_wakeFrameReceive_none h,
    State.perst0Assert_answers, State.perst0Deassert_answers, State.perst1Assert_answers, rfl,
    fun hrun c u hdue => State.fullReset_answers hrun hdue, State.exec_fullReset_none s⟩

end

section
/-! One tick, and a stopped machine (R462, R487, R488, R503): what a tick's work does to the lines, the queues and the records leaves the
clock as the counter left it, and while ROOT is stopped only the commands of the supplies, the pins and the test access port act. -/

namespace Sys2Proof.Machine.State

/-- The time, the power domain with the device time counter, and the commands that wait. -/
def clock (s : State) : Nat × PowerState × List Instr := (s.now, s.pw, s.pending)

theorem clock_of_frame {p : State → State} (hp : ∀ u : State, (p u).clock = u.clock) {s t : State} (h : p t = p s) : t.clock = s.clock := by
  rw [← hp t, h, hp s]

theorem clock_of_rings {s t : State} (h : t.besideRings = s.besideRings) : t.clock = s.clock :=
  clock_of_frame (p := besideRings) (fun _ => rfl) h
theorem clock_of_sessions {s t : State} (h : t.besideSessions = s.besideSessions) : t.clock = s.clock :=
  clock_of_frame (p := besideSessions) (fun _ => rfl) h
theorem clock_of_frames {s t : State} (h : t.besideFrames = s.besideFrames) : t.clock = s.clock :=
  clock_of_frame (p := besideFrames) (fun _ => rfl) h

theorem clock_foldl {α : Type} {f : State → α → State} (hf : ∀ u x, (f u x).clock = u.clock) (l : List α) (s : State) :
    (l.foldl f s).clock = s.clock := foldl_keep clock f hf l s

/-! The state's operations -/

section Operations
variable (s : State)

@[simp] theorem clock_setObj (i b n v : Nat) : (s.setObj i b n v).clock = s.clock := rfl
@[simp] theorem clock_setCtr (i b v : Nat) : (s.setCtr i b v).clock = s.clock := rfl
@[simp] theorem clock_setLine (k : Nat) (v : FaultLine) : (s.setLine k v).clock = s.clock := rfl
@[simp] theorem clock_setBench (b : Nat) (v : Bench) : (s.setBench b v).clock = s.clock := rfl
@[simp] theorem clock_setStack (k : Nat) (v : Stack) : (s.setStack k v).clock = s.clock := rfl
@[simp] theorem clock_setDev (r : Ram) : (s.setDev r).clock = s.clock := rfl
@[simp] theorem clock_setPeer (r : Ram) : (s.setPeer r).clock = s.clock := rfl
@[simp] theorem clock_setRaw (q : Nat) (r : Option RawQueue) : (s.setRaw q r).clock = s.clock := rfl
@[simp] theorem clock_emit (o : Output) : (s.emit o).clock = s.clock := rfl
@[simp] theorem clock_freeBytes (n : Nat) : (s.freeBytes n).2.clock = s.clock := rfl
@[simp] theorem clock_cachePointer (c : CachedPointer) : (s.cachePointer c).clock = s.clock := rfl
@[simp] theorem clock_cacheLeaf (c : CachedLeaf) : (s.cacheLeaf c).clock = s.clock := rfl

@[simp] theorem clock_count (i b n : Nat) : (s.count i b n).clock = s.clock := (congrArg clock (count_frame s i b n) :)
@[simp] theorem clock_raiseSource (k : Nat) : (s.raiseSource k).clock = s.clock := (congrArg clock (raiseSource_frame s k) :)
@[simp] theorem clock_completeIdx (f i st : Nat) (r : List Byte) : (s.completeIdx f i st r).clock = s.clock :=
  clock_of_rings (besideRings_completeIdx s f i st r)
@[simp] theorem clock_raiseDevice (c k : Nat) (r : List Byte) : (s.raiseDevice c k r).clock = s.clock :=
  (clock_of_rings (besideRings_raiseFn _ _ _ _ _)).trans (clock_of_sessions (besideSessions_raiseJorol s c k r))
@[simp] theorem clock_hostWrite (f a : Nat) (bs : List Byte) : (s.hostWrite f a bs).clock = s.clock :=
  clock_of_rings (besideRings_hostWrite s f a bs)
@[simp] theorem clock_pfcTick (p : Nat) : (s.pfcTick p).clock = s.clock := clock_of_frames (besideFrames_pfcTick s p)
@[simp] theorem clock_solicit (p l : Nat) (ip : List Byte) : (s.solicit p l ip).clock = s.clock :=
  clock_of_frames (besideFrames_solicit s p l ip)
@[simp] theorem clock_markDirty (off n : Nat) : (s.markDirty off n).clock = s.clock := (congrArg clock (markDirty_frame s off n) :)
@[simp] theorem clock_raceBut (own : Option Nat) (ps : List Piece) : (s.raceBut own ps).clock = s.clock :=
  (congrArg clock (raceBut_frame s own ps) :)

end Operations

/-! The faults' work -/

section Faults
variable (s : State)

@[simp] theorem clock_resetCause (c : ResetCause) : (s.resetCause c).clock = s.clock := (congrArg clock (resetCause_frame c) :)

@[simp] theorem clock_goSevere (k : Nat) : (s.goSevere k).clock = s.clock := by
  grind [clock, goSevere, clock_raiseDevice, clock_resetCause]

@[simp] theorem clock_scoreEvent (k : Nat) : (s.scoreEvent k).clock = s.clock := by
  grind [clock, scoreEvent, clock_setCtr, clock_count, clock_goSevere]

@[simp] theorem clock_sampleLine (k : Nat) : (s.sampleLine k).clock = s.clock := by
  grind [sampleLine, clock_setLine, clock_scoreEvent]

@[simp] theorem clock_tickLine (k : Nat) : (s.tickLine k).clock = s.clock := by
  grind [tickLine, clock_setLine, clock_sampleLine]

@[simp] theorem clock_tickFaults : s.tickFaults.clock = s.clock := by
  unfold tickFaults
  split
  · exact (clock_foldl (fun u k => clock_tickLine u k) _ _).trans rfl
  · rfl

end Faults

/-! Translation -/

section Translation
variable (s : State)

@[simp] theorem clock_walkFrom (d dva lv reg off : Nat) (via : List Nat) : (s.walkFrom d dva lv reg off via).2.clock = s.clock := by
  induction lv generalizing reg off via s with
  | zero => grind [walkFrom, clock_count, clock_raiseSource, clock_cachePointer]
  | succ n ih => grind [walkFrom, clock_count, clock_raiseSource, clock_cachePointer]

@[simp] theorem clock_walk (d dva : Nat) : (s.walk d dva).2.clock = s.clock := by
  grind [walk, clock_walkFrom]

@[simp] theorem clock_noteStale (c : CachedLeaf) : (s.noteStale c).clock = s.clock := by
  grind [clock, noteStale]

@[simp] theorem clock_learnLeaf (c : CachedLeaf) : (s.learnLeaf c).clock = s.clock := by
  grind [clock, learnLeaf, clock_noteStale]

@[simp] theorem clock_walkLeaf (d dva : Nat) : (s.walkLeaf d dva).2.clock = s.clock := by
  grind [walkLeaf, clock_walk, clock_count, clock_learnLeaf]

@[simp] theorem clock_translate (d dva : Nat) (write remoteOk : Bool) : (s.translate d dva write remoteOk).2.clock = s.clock := by
  grind [translate, clock_count, clock_raiseSource, clock_cacheLeaf, clock_noteStale, clock_walkLeaf]

@[simp] theorem clock_resolveDva (d : Nat) (write remoteOk : Bool) (fuel dva len : Nat) (acc : List Piece) :
    (s.resolveDva d write remoteOk fuel dva len acc).2.clock = s.clock := by
  induction fuel generalizing s dva len acc with
  | zero => grind [resolveDva]
  | succ n ih => grind [resolveDva, clock_translate]

@[simp] theorem clock_resolveRegion (d r off len : Nat) (write remoteOk : Bool) :
    (s.resolveRegion d r off len write remoteOk).2.clock = s.clock := by
  grind [resolveRegion, resolveRange, clock_resolveDva]

end Translation

/-! Reads, writes and pegs -/

section Access
variable (s : State)

@[simp] theorem clock_parityMet (p : Piece) : (s.parityMet p).clock = s.clock := by
  rw [parityMet.eq_def]
  grind [clock_raiseSource, clock_count]

@[simp] theorem clock_readPieces (ps : List Piece) : (s.readPieces ps).2.clock = s.clock := by
  induction ps generalizing s with
  | nil => rfl
  | cons x xs ih =>
    unfold readPieces
    dsimp only
    repeat' split
    all_goals grind [clock_freeBytes, clock_parityMet]

@[simp] theorem clock_devWrite (off : Nat) (bs : List Byte) : (s.devWrite off bs).clock = s.clock := by
  grind [devWrite, clock_markDirty, clock_setDev]

@[simp] theorem clock_busWrite (f p a : Nat) (bs : List Byte) : (s.busWrite f p a bs).clock = s.clock := by
  grind [busWrite, clock_hostWrite, clock_setPeer]

@[simp] theorem clock_writePieces (f : Nat) (ps : List Piece) (bs : List Byte) : (s.writePieces f ps bs).clock = s.clock := by
  induction ps generalizing s bs with
  | nil => rfl
  | cons x xs ih =>
    unfold writePieces
    dsimp only
    repeat' split
    all_goals grind [clock_freeBytes, clock_devWrite, clock_busWrite]

@[simp] theorem clock_issueOrdering (p a f : Nat) (why : OrderedBy) : (s.issueOrdering p a f why).clock = s.clock := by
  grind [clock, issueOrdering, clock_emit]

@[simp] theorem clock_enter (b : Nat) (r : RunState) : (s.enter b r).clock = s.clock := by
  have hfold := fun (l : List Nat) (g : State → Nat → State) (u : State) (hg : ∀ v x, (g v x).clock = v.clock) => clock_foldl hg l u
  grind [enter, clock_count, clock_setBench]

@[simp] theorem clock_askWake (b : Nat) : (s.askWake b).clock = s.clock := by
  grind [clock, askWake, clock_setStack, clock_setBench]

@[simp] theorem clock_observePeg (b p : Nat) : (s.observePeg b p).clock = s.clock := by
  grind [observePeg, clock_setBench]

@[simp] theorem clock_pegChanged (b p : Nat) : (s.pegChanged b p).clock = s.clock := by
  grind [pegChanged, clock_askWake, clock_enter, clock_observePeg, clock_setBench]

@[simp] theorem clock_checkWaits (h : Nat) : (s.checkWaits h).clock = s.clock := by
  grind [clock, checkWaits, clock_completeIdx, clock_foldl]

@[simp] theorem clock_setHubPegAt (h v n : Nat) : (s.setHubPegAt h v n).clock = s.clock := by
  grind [clock, setHubPegAt, clock_pegChanged, clock_checkWaits, clock_foldl]

@[simp] theorem clock_addHubPeg (h v : Nat) : (s.addHubPeg h v).clock = s.clock := by
  grind [addHubPeg, clock_setHubPegAt]

end Access

/-! Raw queues (R397) and neighbours (R387) -/

section Queues
variable (s : State)

@[simp] theorem clock_rawRange (q off len : Nat) (write : Bool) : (s.rawRange q off len write).2.clock = s.clock :=
  (clock_resolveRegion _ _ _ _ _ _ _).trans rfl

theorem clock_rawPut {q off : Nat} {bs : List Byte} {peg : Option Nat} {u : State} (h : s.rawPut q off bs peg = some u) :
    u.clock = s.clock := by
  have hrange := clock_rawRange s q off bs.length true
  unfold rawPut at h
  split at h
  next ps s1 hr =>
    have hwritten : ((s1.writePieces (s1.rawDrawer q) ps bs).race ps).clock = s.clock := by
      rw [race, clock_raceBut, clock_writePieces, ← hrange, hr]
    obtain rfl := Option.some.inj h
    cases peg with
    | none => exact hwritten
    | some g =>
      dsimp only
      split
      · exact (clock_issueOrdering _ _ _ _ _).trans hwritten
      · exact (clock_addHubPeg _ _ _).trans hwritten
  next => cases h
  next s1 hr =>
    obtain rfl := Option.some.inj h
    rw [← hrange, hr]

@[simp] theorem clock_rawWrite (q off : Nat) (bs : List Byte) (peg : Option Nat) : (s.rawWrite q off bs peg).clock = s.clock := by
  unfold rawWrite
  split
  · cases h : s.rawPut q off bs peg with
    | none => rfl
    | some u => exact clock_rawPut s h
  · grind [clock_setRaw, clock_rawPut]

@[simp] theorem clock_rawDone (q i status stamp cookie : Nat) : (s.rawDone q i status stamp cookie).clock = s.clock := by
  grind [rawDone, clock_setRaw, clock_rawWrite, clock_count]

theorem clock_rawFlushOne {q : Nat} {r : RawQueue} {u : State} (h : s.rawFlushOne q r = some u) : u.clock = s.clock := by
  grind [rawFlushOne, clock_rawRange, clock_rawDone, clock_setRaw, clock_readPieces]

@[simp] theorem clock_rawSettle (q n : Nat) : (s.rawSettle q n).clock = s.clock := by
  induction n generalizing s with
  | zero => rfl
  | succ k ih =>
    rw [rawSettle]
    repeat' split
    all_goals grind [clock_setObj, clock_pfcTick, clock_setRaw, clock_rawPut, clock_rawFlushOne]

@[simp] theorem clock_rawGoOn (q : Nat) : (s.rawGoOn q).clock = s.clock := by
  unfold rawGoOn
  split
  · exact clock_rawSettle _ _ _
  · rfl

@[simp] theorem clock_rawsGoOn : s.rawsGoOn.clock = s.clock := clock_foldl (fun u q => clock_rawGoOn u q) _ s

@[simp] theorem clock_refreshNeighbours : s.refreshNeighbours.clock = s.clock := by
  refine clock_foldl (fun u n => ?_) _ s
  split
  · rfl
  · exact clock_solicit u _ _ _

end Queues

/-! What waits for a tick (R361, R484) -/

/-- The FLRs and the chunk command that each tick takes further. -/
def waits (s : State) : (Nat → Option Nat) × Option (Nat × Nat × Nat) := (fun g => (s.fn g).flrAt, s.led.chunkRun)

section Waits
variable (s : State)

theorem waits_setFn (f : Nat) (v : Fn) (h : v.flrAt = (s.fn f).flrAt) : (s.setFn f v).waits = s.waits := by
  refine Prod.ext (funext fun g => ?_) rfl
  by_cases hg : f = g
  · subst hg
    exact (congrArg Fn.flrAt (fn_setFn s f v)).trans h
  · exact congrArg Fn.flrAt (fn_setFn_ne s f v hg)

theorem waits_of_sessions {t : State} (h : t.besideSessions = s.besideSessions) : t.waits = s.waits := (congrArg waits h :)

theorem waits_count (i b n : Nat) : (s.count i b n).waits = s.waits := (congrArg waits (count_frame s i b n) :)
theorem waits_setCtr (i b v : Nat) : (s.setCtr i b v).waits = s.waits := rfl
theorem waits_setLine (k : Nat) (v : FaultLine) : (s.setLine k v).waits = s.waits := rfl

theorem waits_withFlt (x : FaultState) : ({ s with flt := x } : State).waits = s.waits := rfl

theorem waits_hostWrite (f a : Nat) (bs : List Byte) : (s.hostWrite f a bs).waits = s.waits :=
  Prod.ext (funext fun g => congrArg Fn.flrAt (hostWrite_fn s f a g bs))
    (congrArg (fun u : State => u.led.chunkRun) (besideRings_hostWrite s f a bs) :)

theorem waits_writeRecord (f : Nat) (r : List Byte) : (s.writeRecord f r).waits = s.waits := by
  refine (waits_count _ _ _ _).trans ((waits_setFn _ f _ ?_).trans (waits_hostWrite s f _ r))
  rw [hostWrite_fn]

theorem waits_placeRecord (f : Nat) (r : List Byte) : (s.placeRecord f r).waits = s.waits := by
  unfold placeRecord
  dsimp only
  split
  · exact waits_writeRecord s f r
  · exact (waits_count _ _ _ _).trans (waits_setFn s f _ rfl)

theorem waits_unpause (f : Nat) : (s.unpause f).waits = s.waits := by
  unfold unpause
  dsimp only
  split
  · split
    · exact (waits_count _ _ _ _).trans (waits_setFn s f _ rfl)
    · rfl
  · rfl

theorem waits_drainOne (f : Nat) : (s.drainOne f).waits = s.waits := by
  have hset : ∀ v : Fn, v.flrAt = (s.fn f).flrAt → (s.setFn f v).waits = s.waits := waits_setFn s f
  grind [drainOne, waits_writeRecord, waits_placeRecord, waits_count]

theorem waits_drainN (f n : Nat) : (s.drainN f n).waits = s.waits := by
  induction n generalizing s with
  | zero => rfl
  | succ n ih => exact (ih _).trans (waits_drainOne s f)

theorem waits_raiseFn (f c k : Nat) (r : List Byte) : (s.raiseFn f c k r).waits = s.waits := by
  unfold raiseFn
  refine (waits_unpause _ f).trans ((waits_drainN _ f _).trans ?_)
  split
  · exact (waits_count _ _ _ _).trans (waits_setFn s f _ rfl)
  · exact waits_setFn s f _ rfl

theorem waits_raiseDevice (c k : Nat) (r : List Byte) : (s.raiseDevice c k r).waits = s.waits :=
  (waits_raiseFn _ 0 c k r).trans (waits_of_sessions _ (besideSessions_raiseJorol s c k r))

theorem waits_resetCause (c : ResetCause) : (s.resetCause c).waits = s.waits := (congrArg waits (resetCause_frame c) :)

theorem waits_goSevere (k : Nat) : (s.goSevere k).waits = s.waits := by
  grind [goSevere, waits_withFlt, waits_raiseDevice, waits_resetCause]

theorem waits_scoreEvent (k : Nat) : (s.scoreEvent k).waits = s.waits := by
  grind [scoreEvent, waits_withFlt, waits_setCtr, waits_count, waits_goSevere]

theorem waits_sampleLine (k : Nat) : (s.sampleLine k).waits = s.waits := by
  grind [sampleLine, waits_setLine, waits_scoreEvent]

theorem waits_tickLine (k : Nat) : (s.tickLine k).waits = s.waits := by
  grind [tickLine, waits_setLine, waits_sampleLine]

theorem waits_tickFaults : s.tickFaults.waits = s.waits := by
  unfold tickFaults
  split
  · exact (foldl_keep waits _ (fun u k => waits_tickLine u k) _ _).trans rfl
  · rfl

end Waits

/-! The counter (R462, R488) -/

section Counter
variable (s : State)

/-- What the time service writes does not depend on the time of the model. -/
theorem steerTime_withNow (n : Nat) : ({ s with now := n } : State).steerTime = { s.steerTime with now := n } := by
  have hruns : ({ s with now := n } : State).timeServiceRuns = s.timeServiceRuns := rfl
  unfold steerTime
  rw [hruns]
  dsimp only
  split
  · rfl
  · split
    next h => exact (if_pos h).symm ▸ rfl
    next h => exact (if_neg h).symm ▸ rfl

theorem steerTime_rest : s.steerTime.now = s.now ∧ s.steerTime.pending = s.pending ∧ s.steerTime.waits = s.waits := by
  unfold steerTime
  dsimp only
  split
  · exact ⟨rfl, rfl, rfl⟩
  · split <;> exact ⟨rfl, rfl, rfl⟩

theorem steerTime_unsteered (h : s.timeServiceRuns = false) : s.steerTime = s := if_pos (by rw [h]; rfl)

end Counter

/-! A tick -/

section Tick
variable {s : State}

/-- With no FLR and no chunk command in progress, the raw queues and the neighbours alone go on. -/
theorem tickWaits_quiet (hflr : ∀ f, (s.fn f).flrAt = none) (hchunk : s.led.chunkRun = none) :
    s.tickWaits = s.rawsGoOn.refreshNeighbours := by
  have hidle : (List.range 128).foldl (fun st f => if (st.fn f).flrAt.isSome then st.flrSettle f else st) s = s :=
    foldl_fixed_of_mem fun f _ => if_neg (by rw [hflr f]; exact Bool.false_ne_true)
  rw [tickWaits, hidle, hchunk]
  rfl

theorem tickWaits_clock (hflr : ∀ f, (s.fn f).flrAt = none) (hchunk : s.led.chunkRun = none) : s.tickWaits.clock = s.clock := by
  rw [tickWaits_quiet hflr hchunk, clock_refreshNeighbours, clock_rawsGoOn]

theorem tickTime_waits (u : State) : u.tickTime.waits = u.waits := u.steerTime_rest.2.2

/-- The counters of throttled time come after the collector and before what waits. -/
def throttleCounted (u : State) : State :=
  let v := if u.pw.kp = 0 then u else u.count 0x5A00 1 10
  if (List.range 9).any fun d => v.pw.kt.num d != 0 then v.count 0x5A00 2 10 else v

theorem throttleCounted_kept (u : State) : u.throttleCounted.clock = u.clock ∧ u.throttleCounted.waits = u.waits := by
  unfold throttleCounted
  grind [clock_count, waits_count]

theorem tickOnce_eq (hrun : s.running = true) :
    s.tickOnce = ({ s with now := s.now + 10000 } : State).tickTime.tickFaults.throttleCounted.tickWaits :=
  if_neg (by rw [hrun]; decide)

/-- The time that a tick counts is the counter's work alone. -/
theorem tickOnce_clock (hrun : s.running = true) (hflr : ∀ f, (s.fn f).flrAt = none) (hchunk : s.led.chunkRun = none) :
    s.tickOnce.clock = ({ s with now := s.now + 10000 } : State).tickTime.clock := by
  rw [tickOnce_eq hrun]
  generalize hu : ({ s with now := s.now + 10000 } : State).tickTime = u
  have hwaits : u.tickFaults.throttleCounted.waits = s.waits := by
    rw [(throttleCounted_kept _).2, waits_tickFaults, ← hu, tickTime_waits]
    rfl
  have hflr' : ∀ f, (u.tickFaults.throttleCounted.fn f).flrAt = none := fun f =>
    (congrFun (congrArg Prod.fst hwaits) f).trans (hflr f)
  rw [tickWaits_clock hflr' ((congrArg Prod.snd hwaits).trans hchunk), (throttleCounted_kept _).1, clock_tickFaults]

theorem tickTime_clock (n : Nat) : ({ s with now := n } : State).tickTime.now = n ∧ ({ s with now := n } : State).tickTime.pending = s.pending ∧
    ({ s with now := n } : State).tickTime.pw.time = s.steerTime.timeAfter := by
  rw [tickTime, steerTime_withNow]
  exact ⟨rfl, s.steerTime_rest.2.1, rfl⟩

/-- One tick of a running machine whose queue is empty (R465, R488). -/
theorem step_tick (hpending : s.pending = []) (hrun : s.running = true) (hflr : ∀ f, (s.fn f).flrAt = none)
    (hchunk : s.led.chunkRun = none) : ∃ t, step s = .next t ∧ t.now = s.now + 10000 ∧ t.pw.time = s.steerTime.timeAfter ∧
      (s.timeServiceRuns = false → t.pw.time = s.timeAfter) ∧ t.pending = [] := by
  have hclock := tickOnce_clock hrun hflr hchunk
  obtain ⟨hnow, hqueue, htime⟩ := tickTime_clock (s := s) (s.now + 10000)
  have htick : s.tickOnce.pw.time = s.steerTime.timeAfter :=
    (congrArg (fun x => x.2.1.time) hclock).trans htime
  refine ⟨s.tickOnce, by rw [step, hpending], (congrArg (fun x => x.1) hclock).trans hnow, htick, fun hfree => ?_,
    (congrArg (fun x => x.2.2) hclock).trans (hqueue.trans hpending)⟩
  rw [htick, s.steerTime_unsteered hfree]

theorem step_stopped (hpending : s.pending = []) (hstop : s.running = false) : step s = .next s := by
  rw [step, hpending]
  exact congrArg Host.Outcome.next (if_pos (by rw [hstop]; rfl))

end Tick
end Sys2Proof.Machine.State

open Sys2Proof Sys2Proof.Machine

/-- Settles O2: a tick of the empty queue is the counter's step, and every command but the supplies', the pins' and the test access port's is
gated by ROOT. -/
theorem timePassesOnlyWhileRootRuns : Obligations.TimePassesOnlyWhileRootRuns := by
  unfold Obligations.TimePassesOnlyWhileRootRuns
  refine ⟨fun s hpending => ⟨fun hrun hflr hchunk => State.step_tick hpending hrun hflr hchunk,
    fun hstop => State.step_stopped hpending hstop⟩, fun c s hstop => ?_⟩
  cases c
  case rootLockLoss | rootLockRestore | powerGood | mainRailsDown | mainRailExcursion | mainRailReturn | vddAuxExcursion | wakeFrameReceive |
    perst0Assert | perst0Deassert | perst1Assert | perst1Deassert | tapReset | extest | idcode | samplePreload | clamp | highz | bypass =>
      trivial
  all_goals exact State.live_stopped s _ hstop

end
